-- ==== Sys2Proof/Word.lean ====
section
/-!
DEFINITION. The word types of the DVS-6480 model and their plainest arithmetic.
Counts, indexes and identifiers are natural numbers; bit vectors stand only where the manual treats a value as bits.
-/

namespace Sys2Proof

/-- One byte of data, of a tag or of a field (00 R6). -/
abbrev Byte := BitVec 8

/-- A string of data bytes: a sector, a block, a flit or a structure as it stands on its medium. -/
abbrev Bytes := List Byte

/-- A fraction with an integer numerator and a natural denominator, for the gauge's real arithmetic (14 R400, R410).
It is plain data and is never reduced; `den` is never 0 in a value the model makes. -/
structure Frac where
  num : Int
  den : Nat
  deriving DecidableEq, Repr

/-- An integer as a fraction. -/
def Frac.ofInt (n : Int) : Frac := { num := n, den := 1 }

/-- The fraction zero. -/
def Frac.zero : Frac := Frac.ofInt 0

end Sys2Proof
end

