-- ==== Sys2Proof/Syntax.lean ====
section
/-!
DEFINITION. The commands of the block: one constructor of `Instr` for each row of spec/opcode_table.json, with the
row's operands. The table gives no operand bits, so the operands are the ones the governing rules name: which unit,
queue, slot, deck or hand the event concerns, and what the outside supplies with it (host data, member data, measured
values, verdicts of cryptographic checks that standards define).
-/

namespace Sys2Proof

/-- A host command, named by NVMe controller ID (1 or 2), submission queue identifier and command identifier. -/
structure CmdRef where
  ctl : Nat
  sqid : Nat
  cid : Nat
  deriving DecidableEq, Repr

/-- The kind of an SGL descriptor (04 R116). -/
inductive SglKind where
  | dataBlock
  | bitBucket
  | segment
  | lastSegment
  /-- Keyed, transport, reserved: not supported. -/
  | unsupported
  deriving DecidableEq, Repr

/-- An SGL descriptor as read from the command or from a segment. -/
structure SglDesc where
  kind : SglKind
  addr : Nat
  len : Nat
  deriving DecidableEq, Repr

/-- The data pointer of a command with what its lists and segments hold, as read from host memory (04 R114 to R117). -/
inductive DataPtr where
  /-- PSDT = 00b: PRP1, PRP2, and the entries of each PRP list page in the order traversed. -/
  | prp (prp1 prp2 : Nat) (lists : List (List Nat))
  /-- PSDT = 01b: the first descriptor, and the descriptors of each segment in the order traversed. -/
  | sgl (first : SglDesc) (segs : List (List SglDesc))
  /-- PSDT = 10b or a reserved value. -/
  | reservedPsdt
  deriving DecidableEq, Repr

/-- What takes a host link down without a hot reset (03 R78, R96). -/
inductive LinkLoss where
  | surpriseDown
  | malformedTlp
  | receiverOverflow
  | flowControl
  /-- A containment action at the host's root port. -/
  | containment
  deriving DecidableEq, Repr

/-- A place in a BAR of a function: BAR 0, or 4 for the MSI-X table (03 R85), and the byte offset. -/
structure BarPlace where
  bar : Nat := 0
  offset : Nat
  deriving DecidableEq, Repr

/-- A host link that has gone down: its port, and why. -/
structure LinkDown where
  port : Nat
  cause : LinkLoss
  deriving DecidableEq, Repr

/-- What fails to program in a vault (14 R413, R420): a block, which is marked bad, or a channel as a whole. -/
inductive NandFail where
  | block (n : Nat)
  | channel (n : Nat)
  deriving DecidableEq, Repr

/-- A failed protection information check, in the order the check is made (15 R433). -/
inductive PiError where
  | guard
  | appTag
  | refTag
  deriving DecidableEq, Repr

/-- The protection information fields of an I/O command (15 R433): PRCHK (bit 2 guard, bit 1 application tag, bit 0 reference tag), the
initial reference tag, the application tag and its mask. -/
structure PiArgs where
  prchk : BitVec 3 := 0
  refTag : Nat := 0
  appTag : Nat := 0
  appMask : Nat := 0
  deriving DecidableEq, Repr

/-- The fields that Read, Write, Compare, Write Zeroes and Verify share (04 R118). `nlb` is 0's based; `pract` is the PRACT bit (15 R433). -/
structure IoArgs where
  ref : CmdRef
  nsid : Nat
  slba : Nat
  nlb : Nat
  ptr : DataPtr
  pract : Bool
  pi : PiArgs := {}
  /-- Address of a separate metadata buffer. -/
  mptr : Option Nat := none
  deriving DecidableEq, Repr

/-- One range of a Dataset Management command. `len` is in blocks. -/
structure DsmRange where
  slba : Nat
  len : Nat
  deriving DecidableEq, Repr

/-- A submission queue entry as fetched (04 R113 to R117): its command identifier and opcode, PSDT, NSID, CDW10 and CDW11, and the data
pointer with the length of the transfer it names, 0 where the command moves no data through it. -/
structure SqEntry where
  cid : Nat
  opcode : Nat
  psdt : Nat := 0
  nsid : Nat := 0
  cdw10 : Nat := 0
  cdw11 : Nat := 0
  ptr : DataPtr := .prp 0 0 []
  len : Nat := 0
  deriving DecidableEq, Repr

/-- A chunk tag, the metadata of a block on a tagged member (07 R230). -/
structure ChunkTag where
  crc : BitVec 32
  gen : Nat
  hand : Nat
  chunk : Nat
  block : Nat
  wseq : Nat
  deriving DecidableEq, Repr

/-- How a member read of one block ended. -/
inductive ReadStatus where
  | good
  | mediaError
  | timeout
  deriving DecidableEq, Repr

/-- One block read from a member for an operation on a hand: row (block index in the chunk), chunk index, outcome, data,
and the tag when the member is tagged. -/
structure BlockRead where
  row : Nat
  chunk : Nat
  status : ReadStatus
  data : Bytes
  tag : Option ChunkTag
  deriving DecidableEq, Repr

/-- The start of a patrol pass (10 R301, R302): deck, and per member index the blocks read (byte offset and content) of the members of which a
label or volume table copy may not be valid; every other member's copies are valid. -/
structure PassStart where
  deck : Nat
  copies : List (Nat × List (Nat × Bytes)) := []
  deriving DecidableEq, Repr

/-- The identity of a deck as a label carries it: DECK_UUID (07 R219). -/
abbrev Uuid := Nat

/-- A member table entry's state MSTATE (07 R220). -/
inductive MState where
  | active
  | failed
  | replacing
  | absent
  deriving DecidableEq, Repr

/-- A member table entry (07 R220). `slot = none` is SLOT 0xFF. -/
structure MemberEntry where
  slot : Option Nat
  mstate : MState
  tagged : Bool
  cap : Nat
  nguid : Nat
  deriving DecidableEq, Repr

/-- FSTATE of a fail list entry (07 R221). -/
inductive FState where
  | rebuilding
  | rebuilt
  | copyback
  deriving DecidableEq, Repr

/-- A fail list entry (07 R221). -/
structure FailEntry where
  member : Nat
  fstate : FState
  watermark : Nat
  deriving DecidableEq, Repr

/-- Dealing mode (07 R205). -/
inductive DealMode where
  | rotate
  | shuffle
  deriving DecidableEq, Repr

/-- The shape of a layout: what R213 to R217 need beside the fail list (07 R205, R219). -/
structure Shape where
  mode : DealMode
  k : Nat
  m : Nat
  n : Nat
  s : Nat
  chunkShift : Nat
  seed : BitVec 64
  rounds : Nat
  deriving DecidableEq, Repr

/-- PHASE of a redeal (11 R317). -/
inductive RedealPhase where
  | copy
  | switch
  deriving DecidableEq, Repr

/-- The REDEAL field of the label (11 R317). `addSlots` is ADD_SLOT for indexes N to N' − 1. -/
structure RedealField where
  newGen : Nat
  newShape : Shape
  phase : RedealPhase
  wmNsid : Nat
  wmVhand : Nat
  started : BitVec 64
  handsTotal : Nat
  addSlots : List Nat
  deriving DecidableEq, Repr

/-- The fields of a native deck label that all copies share (07 R219). -/
structure DeckLabel where
  deckId : Nat
  shape : Shape
  deckState : Nat
  generation : Nat
  cleanStop : Bool
  imported : Bool
  failList : List FailEntry
  keeper0 : Option Nat
  keeper1 : Option Nat
  uuid : Uuid
  dataStart : Nat
  journalStart : Nat
  voltStart : Nat
  labelSeq : Nat
  createTime : BitVec 64
  redeal : Option RedealField
  members : List MemberEntry
  wseqCeil : Nat
  deriving DecidableEq, Repr

/-- What the label places of one drive hold, as read back: the deck label of its best valid copy, with the drive's own MEMBER_INDEX and
MEMBER_NGUID (07 R219, R224). -/
structure NativeLabel where
  label : DeckLabel
  memberIndex : Nat
  nguid : Nat
  deriving DecidableEq, Repr

/-- A forerunner label (07 R233). -/
structure ForeLabel where
  k : Nat
  m : Nat
  n : Nat
  memberIndex : Nat
  cleanStop : Bool
  uuid : Uuid
  dataStart : Nat
  rounds : Nat
  labelSeq : Nat
  deriving DecidableEq, Repr

/-- What a port bring-up finds out about a drive (12 R335, R336; 07 R206). -/
structure DriveInfo where
  /-- NGUID or EUI64 reported on this port. -/
  nguid : Nat
  /-- Capacity of namespace 1 in bytes. -/
  cap : Nat
  /-- Metadata bytes per 4,096-byte block, 0 or 16. -/
  metaBytes : Nat
  /-- Class code of the port, 24 bits (R335). -/
  classCode : Nat := 0x010802
  /-- VS, CAP.MPSMIN, and the NVM command set bit of CAP.CSS (R335). -/
  version : Nat := 0x00010400
  mpsMin : Nat := 0
  nvmSet : Bool := true
  /-- CMIC; namespace 1 exists, and its NMIC (R335). -/
  cmic : Nat := 3
  ns1 : Bool := true
  nmic : Nat := 1
  /-- Data bytes of a block in namespace 1's LBA format, and whether protection information is enabled (R206). -/
  dataBytes : Nat := 4096
  piOn : Bool := false
  /-- DLFEAT of namespace 1, and ONCS of the controller (R206). -/
  dlfeat : Nat := 1
  oncs : Nat := 0x0C
  /-- MDTS in 4 KiB pages as a power of two, 0 for no limit (R337), and the largest payload the port supports (R336). -/
  mdts : Nat := 0
  mps : Nat := 512
  /-- VWC bit 0. -/
  vwc : Bool
  /-- FR of Identify Controller. -/
  fwRev : BitVec 64
  /-- Active firmware slot byte. -/
  afi : Nat
  /-- MEAS of the member record (R463), and whether it came by SPDM. -/
  meas : Nat
  spdm : Bool
  /-- SPDM verification was tried and failed, with its error code (R463). -/
  spdmError : Option Nat
  /-- The member supports Sanitize Block Erase (R158). -/
  blockErase : Bool
  /-- L1.2 is advertised with an exit latency of at most 100 µs (R383). -/
  l12ok : Bool
  /-- Widest link width the port advertises (R334). -/
  maxWidth : Nat
  /-- Exit latency in µs of each power state that Identify Controller describes, from power state 0 on (R161). -/
  exitUs : List Nat := []
  /-- Blocks of namespace 1 that are not all zero, among those that hold labels, volume tables and the journal area: byte offset and 4,096
  bytes (R212; step 7 of R336). -/
  blocks : List (Nat × Bytes) := []
  deriving DecidableEq, Repr

/-- What a request of NVMe-MI Send carries (05 R156): the value of a Configuration Set, and the opcode, NSID, CDW10 and CDW11 of a tunnelled
admin command. -/
structure MiBody where
  value : Nat := 0
  opcode : Nat := 0
  nsid : Nat := 0
  cdw10 : Nat := 0
  cdw11 : Nat := 0
  deriving DecidableEq, Repr

/-- Deck Create and Deck Redeal fields of R151. `slots` is the bitmap's set bits in rising order. -/
structure ShapeArgs where
  deckId : Nat
  mode : DealMode
  k : Nat
  m : Nat
  s : Nat
  chunkCode : Nat
  slots : List Nat
  seed : BitVec 64
  deriving DecidableEq, Repr

/-- The fields of Deck Create beside DECK_ID and the slots, where a command asks that they be zero (05 R151; 07 R234; 11 R328). -/
structure ShapeRest where
  mode : DealMode := .rotate
  k : Nat := 0
  m : Nat := 0
  s : Nat := 0
  chunkCode : Nat := 0
  seed : BitVec 64 := 0
  deriving DecidableEq, Repr

/-- Work of a class in a domain, by the kinds of the cost table of R371: bytes into parity GF inputs, bytes over Glildo hops, host commands,
directory pages, and member commands. -/
structure Work where
  parity : Nat := 0
  hops : Nat := 0
  cmds : Nat := 0
  pages : Nat := 0
  members : Nat := 0
  deriving DecidableEq, Repr

/-- What one scheduler window brings (13 R366 to R381). Power in mW, energies in µJ, temperatures in 0.1 °C. Lists of five run
VCORE_HUB, VCORE_A to VCORE_D. Work is priced at the start values of 13 R371 at 0.75 V, in nJ: a row for each domain. -/
structure WindowMeas where
  /-- Work waiting, by class and domain: TRUMP, host commands, REBUILD, RESYNC, REDEAL, PATROL, SANITIZE, then destage. -/
  queued : List (List Work)
  /-- Work completed in the window, by class and domain: TRUMP to SANITIZE. -/
  completed : List (List Work)
  /-- Core energy of each domain, in µJ. -/
  coreUj : List Nat
  /-- Rail power from the current reading and the setpoint, where AVSBus acknowledged. -/
  railMw : List Nat
  /-- AVSBus acknowledged, per rail (R368). -/
  avsAck : List Bool
  /-- Junction temperature of each core die, averaged over 10 ms; none where the die has not reported in this window. -/
  temps : List (Option Int)
  /-- Parity cell flits completed, per domain (host commands for the hub). -/
  flits : List Nat
  /-- Busy timer periods of the domain's cells, in total. -/
  busy : List Nat
  /-- Parity cells of the domain that are not gated. -/
  cells : List Nat
  /-- Granted work was left over at the window's end, per domain (R381). -/
  leftover : List Bool
  deriving DecidableEq, Repr

/-- The gauge's raw readings at one evaluation (14 R392). -/
structure GaugeRead where
  /-- Cell voltages, in mV. -/
  cellMv : List Nat
  /-- Pack current in mA, positive when discharging. -/
  currentMa : Int
  /-- Pack temperature, in 0.1 °C. -/
  tempDc : Int
  deriving DecidableEq, Repr

/-- The calibration record of 14 R405. -/
structure CalRecord where
  version : Nat
  source : Nat
  idTol : Nat
  senseGain : Nat
  senseOffset : Int
  cellGain : List Nat
  thermBeta : Nat
  idGain : Nat
  avsOffset : List Int
  deriving DecidableEq, Repr

/-- A firmware image (16 R456): the fields of its header, MAGIC as a little-endian number; the SHA-384 measured of the two loaders; and
the verdicts of the two checks of R457 on the key itself: SHA-384 of SIGNER_KEY equal to VENDOR_KEY[KEY_INDEX], and SIGNATURE valid. -/
structure FwImage where
  magic : Nat := 0x4D49574656445357
  version : Nat := 1
  fslOffset : Nat := 512
  fslLen : Nat
  mainOffset : Nat
  mainLen : Nat
  fslMeasured : Nat
  mainMeasured : Nat
  keyOk : Bool
  sigOk : Bool
  raiseSvn : Bool
  needsReset : Bool
  svn : Nat
  fwRev : BitVec 64
  fslDigest : Nat
  mainDigest : Nat
  keyIndex : Nat
  revoke : BitVec 4
  deriving DecidableEq, Repr

/-- The fault injection descriptor of 15 R445. -/
structure FinjDesc where
  target : Nat
  action : Nat
  stage : Nat
  dir : Nat
  slotLink : Nat
  portSub : Nat
  matchKind : Nat
  reorderDepth : Nat
  count : Nat
  interval : Nat
  skip : Nat
  corruptMask : BitVec 32
  corruptDw : Nat
  deriving DecidableEq, Repr

/-- A Fault Injection arm command: its descriptor, and the length of CDW10 [31:16] in dwords (05 R151). -/
structure FinjCmd where
  ref : CmdRef
  desc : FinjDesc
  len : Nat := 8
  deriving DecidableEq, Repr

/-- Why a parity block's operand arrives with an error (01 R36, R37, R432). -/
inductive CellCheck where
  | good
  /-- The coefficient stage's residue mismatched once, and the repeat was good. -/
  | once
  /-- It mismatched twice, in this cell of the block, 0 to 2. -/
  | twice (cell : Nat)
  deriving DecidableEq, Repr

/-- The flit tag of 01 R32. -/
structure FlitTag where
  stream : BitVec 12
  op : BitVec 4
  hand : BitVec 40
  chunk : BitVec 6
  msyn : BitVec 2
  coefA : Byte
  coefB : Byte
  foff : BitVec 12
  ares : BitVec 4
  fres : BitVec 32
  deriving DecidableEq, Repr

/-- The way of a flit (01 R24): the region that issues it (4: the hub), and the region that it goes to. -/
structure FlitWay where
  src : Nat
  region : Nat
  deriving DecidableEq, Repr

/-- The set-up of a stream, written into the tag decoder before its first operand (01 R35), and the work class of the stream, TRUMP 0 to SANITIZE 6
(13 R378). -/
structure StreamSetup where
  msyn : Nat
  width : Nat
  check : Bool
  count : Nat
  cls : Nat := 0
  deriving DecidableEq, Repr

/-- What the tests of BOOT have found (02 R53): SRAM rows that failed the self-test, each with whether its array is a retained one; cells whose
CHECK stream did not answer zero, as region, block and cell; sublinks that did not train, as link and sublink; vault channels that do not answer
(14 R413); and whether the BOOT entry could be programmed within 8 attempts (16 R468). -/
structure BootChecks where
  heartwoodOk : Bool := true
  sram : List ((Nat × Nat × Nat) × Bool) := []
  cells : List (Nat × Nat × Nat) := []
  sublinks : List (Nat × Nat) := []
  vaultLost : List Nat := []
  torn : List Nat := []
  deriving DecidableEq, Repr

/-- What the decoder of a memory channel sees in one word: symbols in error on each of the six devices (15 R426), and the
metadata check of R427. -/
structure WordErrors where
  perDevice : List Nat
  metaOk : Bool
  deriving DecidableEq, Repr

/-- The array that an SRAM word belongs to, in the order of the table of 15 R431. -/
inductive SramArray where
  | directory
  | mirrorIndex
  | journalIndex
  | stripeLocks
  | reorderBuffer
  | queueContext
  | staging
  | streamBuffers
  | coreMemory
  | eventRing
  deriving DecidableEq, Repr

/-- What an SRAM scrub or read finds in one word (15 R430, R431): `again` says that the word needed correction before and
was written back; `copyLost` that the second copy of a doubly held word is lost too; `stuck` that the word still reads
wrong after it is rewritten (R438). -/
structure SramFinding where
  bits : Nat
  again : Bool
  copyLost : Bool
  stuck : Bool
  deriving DecidableEq, Repr

/-- What an SRAM word holds, for the recovery actions of R431. -/
structure SramTarget where
  die : Nat
  macroNo : Nat
  row : Nat
  array : SramArray
  /-- Region frame of a directory entry, or position of a record in the always-on ring. -/
  frame : Nat
  /-- Streams whose data a word of the stream buffers or accumulators holds: parity block and stream. -/
  streams : List (Nat × Nat)
  /-- Hub half of a management core pair. -/
  half : Nat
  /-- Command of a reorder buffer entry, or queue of a queue context. -/
  ref : CmdRef
  deriving DecidableEq, Repr

/-- The host data structure and fields of Namespace Management create (05 R141). -/
structure NsCreate where
  nsze : Nat
  ncap : Nat
  flbas : Nat
  dps : Nat
  nmic : Nat
  deckId : Nat
  crypt : Nat
  deriving DecidableEq, Repr

/-- The value of a Set Features command (05 R154, R155): CDW11, and the data when the feature carries data. -/
structure FeatureArgs where
  fid : Nat
  sv : Bool
  cdw11 : BitVec 32
  data : Bytes
  deriving DecidableEq, Repr

/-- An SPDM request's operands that the response depends on. -/
structure SpdmArgs where
  slot : Nat
  index : Nat
  nonce : Nat
  deriving DecidableEq, Repr

/-- An NVMe-MI request (05 R156): whether it came on the sideband or in-band, its parameter, and the log page offset (CDW12 and CDW13) of a
tunnelled Get Log Page. -/
structure MiArgs where
  sideband : Bool
  param : Nat
  offset : Nat := 0
  deriving DecidableEq, Repr

/-- An inbound TLP of a member (12 R339 to R342). -/
structure MemberTlp where
  slot : Nat
  port : Nat
  write : Bool
  addr : Nat
  len : Nat
  poisoned : Bool
  /-- The bytes that a write carries. -/
  data : Bytes := []
  deriving DecidableEq, Repr

/-- Member completion (12 R344): the status field, DNR, and whether the command named is a write. -/
structure MemberCpl where
  slot : Nat
  port : Nat
  tag : Nat
  /-- 0 is success; otherwise the status code with its type. -/
  status : Nat
  dnr : Bool
  mediaError : Bool
  deriving DecidableEq, Repr

/-- An owner PROVISION payload (16 R474) with the verdict of its signature. -/
structure Provision where
  lengthOk : Bool
  reservedZero : Bool
  clear : Bool
  ownerSeq : Nat
  ownerKey : Nat
  nonce : Nat
  dsn : BitVec 64
  sigOk : Bool
  deriving DecidableEq, Repr

/-- An owner AUTH payload (16 R475) with the verdict of its signature. -/
structure OwnerAuthArgs where
  lengthOk : Bool
  reservedZero : Bool
  scope : BitVec 3
  durationS : Nat
  nonce : Nat
  dsn : BitVec 64
  ownerSeq : Nat
  sigOk : Bool
  deriving DecidableEq, Repr

/-- A BAR2 TLP (06 R201). Write data is in `data`; a read asks for `len` bytes. -/
structure Bar2Tlp where
  fn : Nat
  rid : BitVec 16
  offset : Nat
  len : Nat
  data : Bytes
  poisoned : Bool
  deriving DecidableEq, Repr

/-- The commands, in the order of spec/opcode_table.json. The docstring of a constructor gives its row and rule. -/
inductive Instr where
  /-- AUX_RAIL_RISE, R46. `socV` readings come with the gauge's first evaluation. -/
  | auxRailRise
  /-- AUX_RAIL_LOSS, R46. -/
  | auxRailLoss
  /-- MAIN_POWER_GOOD_HELD, R53. -/
  | mainPowerGoodHeld
  /-- RAIL_PG_RISE, R523: enable group. -/
  | railPgRise (group : Nat)
  /-- STAGGER_GROUP_ENABLE, R56: stagger group. -/
  | staggerGroupEnable (group : Nat)
  /-- MEMBER_PERST_DEASSERT, R352. -/
  | memberPerstDeassert (slot : Nat)
  /-- MEMORY_TRAINING_COMPLETE, R53: channel, whether training succeeded, and whether its devices are 2.25 Gb. -/
  | memoryTrainingComplete (ch : Nat) (ok : Bool) (halfDensity : Bool)
  /-- CONFIG_RESPONSE_START, R54. -/
  | configResponseStart (port : Nat)
  /-- RRS_END, R54. -/
  | rrsEnd (port : Nat)
  /-- BOOT_MEMBER_WINDOW_CLOSE, R57. -/
  | bootMemberWindowClose
  /-- BOOT_COMPLETE, R53: verdicts of the root-of-trust self-test, the fuse bank check and the certificate block check, and what the tests found. -/
  | bootComplete (selfTestOk fuseOk certOk : Bool) (checks : BootChecks)
  /-- RESTORE_COMPLETE, R62: whether the vault image authenticated, how many pages it held, and the blocks read, by deck and hand, for pages that
  R187 writes straight to the members. -/
  | restoreComplete (imageOk : Bool) (imagePages : Nat) (reads : List (Nat × Nat × List BlockRead))
  /-- INTENT_REPLAY, R273: deck, WSEQ of the live entry, and the data blocks read. -/
  | intentReplay (deck : Nat) (wseq : Nat) (reads : List BlockRead)
  /-- MAIN_PG_FALL, R525. -/
  | mainPgFall
  /-- MAIN_SENSE_LOW, R525. -/
  | mainSenseLow
  /-- RAIL_PG_FALL, R525. -/
  | railPgFall (group : Nat)
  /-- RAIL_PG_TIMEOUT, R525. -/
  | railPgTimeout (group : Nat)
  /-- HOLDUP_FLUSH_END, R419: measured duration in ms, energy in mJ, lowest pack voltage in mV. -/
  | holdupFlushEnd (ms mj minMv : Nat)
  /-- FLUSH_ABORT_CUTOFF, R420: data pages programmed, duration in ms, energy in mJ, pack voltage in mV. -/
  | flushAbortCutoff (pages ms mj mv : Nat)
  /-- NAND_PROGRAM_FAIL, R413, R420: block marked bad, or the channel that has failed as a whole. -/
  | nandProgramFail (fail : NandFail)
  /-- PERST_ASSERT, R52. -/
  | perstAssert (port : Nat)
  /-- PERST_DEASSERT, R54. -/
  | perstDeassert (port : Nat)
  /-- HOT_RESET, R77. -/
  | hotReset (port : Nat)
  /-- HOST_LINK_DOWN, R78: port, and what took the link down (R96). -/
  | hostLinkDown (loss : LinkDown)
  /-- HOST_SERDES_LANE_FAIL, R98: lane of the package, 0 to 15. -/
  | hostSerdesLaneFail (lane : Nat)
  /-- FLR, R137. -/
  | flr (fn : Nat)
  /-- D3HOT_ENTRY, R81. -/
  | d3hotEntry (fn : Nat)
  /-- D0_RETURN, R81. -/
  | d0Return (fn : Nat)
  /-- L0P_ENTRY, R93. -/
  | l0pEntry (port : Nat)
  /-- L0P_EXIT, R93. -/
  | l0pExit (port : Nat)
  /-- L1_ENTRY, R93: substate 0 for L1, 1 for L1.1, 2 for L1.2. -/
  | l1Entry (port : Nat) (sub : Nat)
  /-- L1_EXIT, R94. -/
  | l1Exit (port : Nat)
  /-- CONFIG_REQUEST, R79: function, write, register offset of the dword, value, and CRS Software Visibility at the root port. -/
  | configRequest (fn : Nat) (write : Bool) (offset : Nat) (value : BitVec 32) (softVis : Bool)
  /-- BAR0_MISALIGNED_ACCESS, R88. -/
  | bar0MisalignedAccess (fn : Nat) (write : Bool) (offset size : Nat)
  /-- POISONED_BAR_WRITE, R96. -/
  | poisonedBarWrite (fn : Nat) (bar : Nat) (offset : Nat) (rid : BitVec 16)
  /-- UNSUPPORTED_ADDRESS_REQUEST, R96. -/
  | unsupportedAddressRequest (fn : Nat) (addr : Nat)
  /-- HOST_DATA_READ_ERROR, R96. -/
  | hostDataReadError (ref : CmdRef)
  /-- SQ_ENTRY_READ_ERROR, R97: whether the second fetch failed too. -/
  | sqEntryReadError (ctl sqid : Nat) (second : Bool)
  /-- MSIX_UNMASK, R90. -/
  | msixUnmask (ctl vec : Nat)
  /-- DOE_DISCOVERY, R99: index asked. -/
  | doeDiscovery (fn index : Nat)
  /-- DOE_ABORT, R99. -/
  | doeAbort (fn : Nat)
  /-- DOE_UNSUPPORTED_PROTOCOL, R99. -/
  | doeUnsupportedProtocol (fn : Nat)
  /-- SPDM_GET_VERSION, R99. -/
  | spdmGetVersion (fn : Nat)
  /-- SPDM_GET_CAPABILITIES, R472. -/
  | spdmGetCapabilities (fn : Nat)
  /-- SPDM_NEGOTIATE_ALGORITHMS, R472: whether the requester offers SHA-384 and ECDSA P-384. -/
  | spdmNegotiateAlgorithms (fn : Nat) (offered : Bool)
  /-- SPDM_GET_DIGESTS, R472. -/
  | spdmGetDigests (fn : Nat)
  /-- SPDM_GET_CERTIFICATE, R472. -/
  | spdmGetCertificate (fn : Nat) (args : SpdmArgs)
  /-- SPDM_CHALLENGE, R472. -/
  | spdmChallenge (fn : Nat) (args : SpdmArgs)
  /-- SPDM_GET_MEASUREMENTS, R472. -/
  | spdmGetMeasurements (fn : Nat) (args : SpdmArgs)
  /-- SQ_TAIL_DOORBELL, R107. -/
  | sqTailDoorbell (ctl sqid value : Nat)
  /-- CQ_HEAD_DOORBELL, R109. -/
  | cqHeadDoorbell (ctl cqid value : Nat)
  /-- COMMAND_FETCH, R111: the entries the burst reads from host memory. -/
  | commandFetch (ctl sqid : Nat) (entries : List SqEntry)
  /-- COMPLETION_POST, R120. -/
  | completionPost (ctl sqid : Nat)
  /-- CC_ENABLE, R55: MPS, AMS, ASQS and ACQS (0's based) as then set. -/
  | ccEnable (ctl mps ams asqs acqs : Nat)
  /-- CC_DISABLE, R136. -/
  | ccDisable (ctl : Nat)
  /-- SHUTDOWN_NORMAL, R64. -/
  | shutdownNormal (ctl : Nat)
  /-- SHUTDOWN_ABRUPT, R64. -/
  | shutdownAbrupt (ctl : Nat)
  /-- SHUTDOWN_COMPLETE, R64. -/
  | shutdownComplete (ctl : Nat)
  /-- CMBMSC_WRITE, R198: CRE, CMSE and CBA. -/
  | cmbmscWrite (ctl : Nat) (cre cmse : Bool) (cba : Nat)
  /-- IO_FLUSH, R135. -/
  | ioFlush (ref : CmdRef) (nsid : Nat)
  /-- IO_WRITE, R179: data and metadata as read from the host. -/
  | ioWrite (args : IoArgs) (data : Bytes) (metaData : Bytes)
  /-- IO_READ, R177. -/
  | ioRead (args : IoArgs)
  /-- IO_COMPARE, R118. -/
  | ioCompare (args : IoArgs) (data : Bytes) (metaData : Bytes)
  /-- IO_WRITE_ZEROES, R118. -/
  | ioWriteZeroes (args : IoArgs)
  /-- IO_DATASET_MANAGEMENT, R118. -/
  | ioDatasetManagement (ref : CmdRef) (nsid : Nat) (deallocate : Bool) (ranges : List DsmRange)
  /-- IO_VERIFY, R118. -/
  | ioVerify (args : IoArgs)
  /-- WRITE_ADMIT, R189. -/
  | writeAdmit (ref : CmdRef)
  /-- DIRECTORY_SWITCH, R180. -/
  | directorySwitch (ref : CmdRef)
  /-- MERGE_SUPERSEDED, R182: key name space and page. -/
  | mergeSuperseded (ns vpage : Nat)
  /-- EPOCH_CLOSE, R183. -/
  | epochClose (region : Nat)
  /-- FILL_COMPLETE, R178: page, the read of its own block, and the reads of other blocks of the row (10 R278). -/
  | fillComplete (ns vpage : Nat) (own : Option BlockRead) (others : List BlockRead)
  /-- DATA_RECORD_SEND, R270. -/
  | dataRecordSend (ref : CmdRef)
  /-- DATA_RECORD_DURABLE, R193. -/
  | dataRecordDurable (ref : CmdRef)
  /-- CACHE_POLICY_TO_WRITE_BACK, R192. -/
  | cachePolicyToWriteBack
  /-- HAND_UPDATE_START, R265. `reads` are the blocks a degraded update decodes from (R256). -/
  | handUpdateStart (deck hand : Nat) (reads : List BlockRead)
  /-- INTENT_BATCH_CLOSE, R261. -/
  | intentBatchClose (deck : Nat)
  /-- TRIM_BATCH_CLOSE, R264: ENTRIES flag of the batch. -/
  | trimBatchClose (deck : Nat) (entries : Bool)
  /-- INTENT_DURABLE, R265: the blocks the path has read. -/
  | intentDurable (deck wseq : Nat) (reads : List BlockRead)
  /-- HAND_UPDATE_WRITES_COMPLETE, R265. -/
  | handUpdateWritesComplete (deck wseq : Nat)
  /-- HAND_UPDATE_DURABLE, R191. -/
  | handUpdateDurable (deck wseq : Nat)
  /-- MEMBER_FLUSH_DEADLINE, R253. -/
  | memberFlushDeadline (slot : Nat)
  /-- KEEPER_HEADER_WRITE, R266. -/
  | keeperHeaderWrite (deck : Nat)
  /-- REPLICA_COMPLETE, R269. -/
  | replicaComplete (deck member : Nat)
  /-- RESYNC_HAND, R274: all present chunks of the hand. -/
  | resyncHand (deck hand : Nat) (reads : List BlockRead)
  /-- READ_ERROR_REPAIR, R280: the block, its own read, and the reads of the blocks to decode it from. -/
  | readErrorRepair (deck hand row chunk : Nat) (own : Option BlockRead) (others : List BlockRead)
  /-- ROW_OVERFLOW_CONSISTENCY, R282: the row, the reads of its blocks that failed, and the others. -/
  | rowOverflowConsistency (deck hand row : Nat) (lost others : List BlockRead)
  /-- FAILURE_SCAN, R283. -/
  | failureScan (deck : Nat)
  /-- REBUILD_HAND, R290. -/
  | rebuildHand (deck hand : Nat) (reads : List BlockRead)
  /-- REBUILD_SEGMENT_END, R291. -/
  | rebuildSegmentEnd (deck : Nat)
  /-- REBUILD_PROGRESS_WRITE, R292. -/
  | rebuildProgressWrite (deck : Nat)
  /-- COPYBACK_ROUND, R298: per hand of the round, its blocks. -/
  | copybackRound (deck : Nat) (reads : List (Nat × List BlockRead))
  /-- COPYBACK_PROGRESS_WRITE, R299. -/
  | copybackProgressWrite (deck : Nat)
  /-- PATROL_PASS_START, R301, R302. -/
  | patrolPassStart (pass : PassStart)
  /-- PATROL_ROW, R305. -/
  | patrolRow (deck hand row : Nat) (reads : List BlockRead)
  /-- PATROL_REPAIR, R305. -/
  | patrolRepair (deck hand row : Nat) (reads : List BlockRead)
  /-- PATROL_PROGRESS_WRITE, R303. -/
  | patrolProgressWrite (deck : Nat)
  /-- PATROL_PAGE_WRITE, R303. -/
  | patrolPageWrite
  /-- REDEAL_COPY_HAND, R320: the blocks read, by the current hand that holds them. -/
  | redealCopyHand (deck nsid vhand : Nat) (reads : List (Nat × List BlockRead))
  /-- REDEAL_PROGRESS_WRITE, R330. -/
  | redealProgressWrite (deck : Nat)
  /-- GENERATION_SWITCH, R324. -/
  | generationSwitch (deck : Nat)
  /-- OLD_ROUNDS_RELEASE, R324. -/
  | oldRoundsRelease (deck : Nat)
  /-- PARITY_OPERAND, R35: its way, parity block, tag, the 64 data bytes, the coefficient stage's check, and the set-up when the issuing core
  writes the stream's before this operand. -/
  | parityOperand (way : FlitWay) (block : Nat) (tag : FlitTag) (data : Bytes) (check : CellCheck) (setup : Option StreamSetup)
  /-- GLILDO_FLIT_ERROR, R432: link 0 to 7 and sublink. -/
  | glildoFlitError (link sub : Nat)
  /-- GLILDO_LINK_STALL, R22. -/
  | glildoLinkStall (link : Nat)
  /-- REGION_FAULT, R31. -/
  | regionFault (region reason : Nat)
  /-- REMIRROR_COMPLETE, R185: the fenced region. -/
  | remirrorComplete (region : Nat)
  /-- HUB_HALF_FAULT, R72. -/
  | hubHalfFault (half : Nat)
  /-- LOCKSTEP_MISMATCH, R432: die 0 hub, 1 to 4 regions; hub half for die 0. -/
  | lockstepMismatch (die half : Nat)
  /-- MOD15_MISMATCH, R425: SOURCE byte of the unit. -/
  | mod15Mismatch (source : BitVec 8)
  /-- CRYPTO_RESIDUE_MISMATCH, R424: engine set of the hub half, and whether the repeat mismatched too. -/
  | cryptoResidueMismatch (half : Nat) (second : Bool)
  /-- DRAM_SCRUB, R429: frame of a region, word, and what the decoder sees; `partnerBad` says the partner's word is UE too. -/
  | dramScrub (region frame word : Nat) (errs : WordErrors) (again partnerBad : Bool)
  /-- SRAM_SCRUB, R430. -/
  | sramScrub (target : SramTarget) (finding : SramFinding)
  /-- SRAM_ROW_REPAIR, R438. -/
  | sramRowRepair (die macroNo row : Nat)
  /-- SCHEDULER_WINDOW, R379. -/
  | schedulerWindow (meas : WindowMeas)
  /-- PMBUS_POWER_READ, R371: power of the other package rails, in mW. -/
  | pmbusPowerRead (mw : Nat)
  /-- STARTUP_CAP_END, R373. -/
  | startupCapEnd
  /-- DIE_TEMP_MISSING, R376: die 0 to 4. -/
  | dieTempMissing (die : Nat)
  /-- THERMTRIP_ASSERT, R531: die and temperature. -/
  | thermtripAssert (die : Nat) (temp : Int)
  /-- THERMTRIP_RELEASE, R531. -/
  | thermtripRelease (die : Nat) (temp : Int)
  /-- CRYSTAL_STOP, R527. -/
  | crystalStop
  /-- MEM_SELF_REFRESH_ENTRY, R382. -/
  | memSelfRefreshEntry (ch : Nat)
  /-- MEMBER_PORT_L12_ENTRY, R382. -/
  | memberPortL12Entry (slot port : Nat)
  /-- PARITY_BLOCK_GATE, R382. -/
  | parityBlockGate (region block : Nat)
  /-- APST_TRANSITION, R164: controller whose timer expired. -/
  | apstTransition (ctl : Nat)
  /-- MEMBER_PORT_BRINGUP, R336: trained speed in GT/s and width, and what was found. -/
  | memberPortBringup (slot port : Nat) (speed width : Nat) (info : DriveInfo)
  /-- MEMBER_PORT_READY_TIMEOUT, R352. -/
  | memberPortReadyTimeout (slot port : Nat)
  /-- MEMBER_COMPLETION, R344. -/
  | memberCompletion (cpl : MemberCpl)
  /-- MEMBER_COMMAND_TIMEOUT, R344. -/
  | memberCommandTimeout (slot port tag : Nat)
  /-- MEMBER_ADMIN_TIMEOUT, R343. -/
  | memberAdminTimeout (slot port : Nat)
  /-- LATE_COMPLETION, R345. -/
  | lateCompletion (slot port tag : Nat)
  /-- TAG_QUARANTINE_END, R345. -/
  | tagQuarantineEnd (slot port tag : Nat)
  /-- MEMBER_INBOUND_TLP, R341. -/
  | memberInboundTlp (tlp : MemberTlp)
  /-- DPC_TRIGGER, R348: cause 1 ERR_FATAL, 2 uncorrectable, 3 surprise down. -/
  | dpcTrigger (slot port cause : Nat)
  /-- CONTAINMENT_RELEASE, R349. -/
  | containmentRelease (slot port : Nat)
  /-- PRSNT_REMOVAL, R351. -/
  | prsntRemoval (slot : Nat)
  /-- PRSNT_INSERTION, R351. -/
  | prsntInsertion (slot : Nat)
  /-- SLOT_POWER_ON, R356. -/
  | slotPowerOn
  /-- FAILED_PENDING_TIMEOUT, R347: which of the moments, true for 120 s after a removal. -/
  | failedPendingTimeout (slot : Nat) (final : Bool)
  /-- MEMBER_CONTROLLER_RESET, R357: whether the step succeeded. -/
  | memberControllerReset (slot port : Nat) (ok : Bool)
  /-- SECONDARY_BUS_RESET, R357: whether the step succeeded. -/
  | secondaryBusReset (slot port : Nat) (ok : Bool)
  /-- SLOT_POWER_CYCLE, R357: whether the step succeeded. -/
  | slotPowerCycle (slot : Nat) (ok : Bool)
  /-- FAILED_PORT_RETRY, R358. -/
  | failedPortRetry (slot port : Nat)
  /-- HEALTH_RECOVERY_TICK, R359. -/
  | healthRecoveryTick (slot : Nat)
  /-- MEMBER_ASYNC_EVENT, R359: critical warning byte, firmware slot change with the new measurement, temperature in K. -/
  | memberAsyncEvent (slot : Nat) (critWarn : BitVec 8) (fwChange : Option Nat) (temp : Nat)
  /-- MEMBERS_ENTRY_APPEND, R463. -/
  | membersEntryAppend
  /-- GAUGE_PIN_SAMPLE, R388: thermistor and identity resistances in ohms. -/
  | gaugePinSample (thermOhm idOhm : Nat)
  /-- GAUGE_CURRENT_SAMPLE, R393: pack current in µA over one sample period. -/
  | gaugeCurrentSample (currentUa : Int)
  /-- GAUGE_EVALUATION, R410. -/
  | gaugeEvaluation (read : GaugeRead)
  /-- PACK_REST_REANCHOR, R397. -/
  | packRestReanchor
  /-- PACK_TEMP_WINDOW_RETURN, R391. -/
  | packTempWindowReturn
  /-- PATH_TEST_START, R399. -/
  | pathTestStart
  /-- PATH_TEST_END, R399: peak current in mA, rails in regulation, ΔV in mV and ΔI in mA. -/
  | pathTestEnd (peakMa : Nat) (railsOk : Bool) (dvMv diMa : Nat)
  /-- LEARNING_START, R401. -/
  | learningStart
  /-- LEARNING_DISCHARGE_STOP, R401. -/
  | learningDischargeStop
  /-- LEARNING_END, R401. -/
  | learningEnd
  /-- CHARGE_TERMINATION, R411. -/
  | chargeTermination
  /-- LEARNED_SLOT_WRITE, R404: whether the write finished. -/
  | learnedSlotWrite (ok : Bool)
  /-- VAULT_AREA_ERASE, R415: area 0 A, 1 B. -/
  | vaultAreaErase (area : Nat)
  /-- HEARTWOOD_APPEND_RETRY, R468: whether the append succeeded. -/
  | heartwoodAppendRetry (ok : Bool)
  /-- SPILL_BATCH, R483. -/
  | spillBatch
  /-- STAGED_DWORD_DISCARD, R504: function and offset of the 8-byte register. -/
  | stagedDwordDiscard (fn offset : Nat)
  /-- FIRMWARE_DOWNLOAD_CLAIM_END, R460. -/
  | firmwareDownloadClaimEnd
  /-- OWNER_AUTH_EXPIRY, R475. -/
  | ownerAuthExpiry
  /-- FINJ_EXPIRY, R448. -/
  | finjExpiry
  /-- PWRCYC_TIMEOUT, R489. -/
  | pwrcycTimeout
  /-- SELF_RESET, R459. -/
  | selfReset
  /-- FORMAT_SANITIZE_PROGRESS, R159: work done in units of 1/65,536. -/
  | formatSanitizeProgress (done : Nat)
  /-- FORMAT_COMPLETE, R157. -/
  | formatComplete (nsid : Nat)
  /-- SANITIZE_COMPLETE, R158: success. -/
  | sanitizeComplete (ok : Bool)
  /-- NAMESPACE_DELETE_COMMIT, R145. -/
  | namespaceDeleteCommit (nsid : Nat)
  /-- FIRMWARE_ACTIVATION_COMPLETE, R138. -/
  | firmwareActivationComplete
  /-- PWIN_APPLY, R203: controller and window. -/
  | pwinApply (ctl win : Nat)
  /-- PWIN_ACTIVATE, R203. -/
  | pwinActivate (ctl win : Nat)
  /-- BAR2_WRITE, R201. -/
  | bar2Write (tlp : Bar2Tlp)
  /-- BAR2_READ, R201. -/
  | bar2Read (tlp : Bar2Tlp)
  /-- ECCT_TEST_EN_SET, R443: the value written to TEST_EN. -/
  | ecctTestEnSet (en : Bool)
  /-- ECCT_WRITE, R444. -/
  | ecctWrite
  /-- ECCT_FLIP, R444. -/
  | ecctFlip
  /-- ECCT_READ, R444. -/
  | ecctRead
  /-- ECCT_RAW_READ, R444. -/
  | ecctRawRead
  /-- FINJ_ARM, R447: through the register (no reference) or by command with its descriptor. -/
  | finjArm (byCmd : Option FinjCmd)
  /-- FINJ_DISARM, R448. -/
  | finjDisarm (byCmd : Option CmdRef)
  /-- EVR_FREEZE_WRITE, R482. -/
  | evrFreezeWrite (frozen : Bool)
  /-- RCV_CTL_DEV_RESET, R488: function, and the whole dword written. -/
  | rcvCtlDevReset (fn : Nat) (value : BitVec 32)
  /-- RCV_CTL_PWRCYC, R488: function, and the whole dword written. -/
  | rcvCtlPwrcyc (fn : Nat) (value : BitVec 32)
  /-- REGISTER_WRITE, R505: function, place, size 4 or 8, value. -/
  | registerWrite (fn : Nat) (place : BarPlace) (size : Nat) (value : BitVec 64)
  /-- MI_READ_DATA_STRUCTURE, R156. -/
  | miReadDataStructure (args : MiArgs)
  /-- MI_SUBSYSTEM_HEALTH_POLL, R156. -/
  | miSubsystemHealthPoll (args : MiArgs)
  /-- MI_CONTROLLER_HEALTH_POLL, R156. -/
  | miControllerHealthPoll (args : MiArgs)
  /-- MI_CONFIGURATION_GET, R156. -/
  | miConfigurationGet (args : MiArgs)
  /-- MI_CONFIGURATION_SET, R156: value set. -/
  | miConfigurationSet (args : MiArgs) (value : Nat)
  /-- MI_ADMIN_TUNNEL, R156: controller, opcode, NSID, CDW10 and CDW11. -/
  | miAdminTunnel (args : MiArgs) (ctl opcode nsid cdw10 cdw11 : Nat)
  /-- DELETE_IO_SQ, R104. -/
  | deleteIoSq (ref : CmdRef) (qid : Nat)
  /-- CREATE_IO_SQ, R105: identifier, size (0's based), completion queue, priority, PC. -/
  | createIoSq (ref : CmdRef) (qid qsize cqid prio : Nat) (pc : Bool)
  /-- DELETE_IO_CQ, R105. -/
  | deleteIoCq (ref : CmdRef) (qid : Nat)
  /-- CREATE_IO_CQ, R105: identifier, size (0's based), PC, IEN, vector. -/
  | createIoCq (ref : CmdRef) (qid qsize : Nat) (pc ien : Bool) (iv : Nat)
  /-- GET_LOG_PAGE, R153: LID, LSP, NSID, offset and length in bytes. -/
  | getLogPage (ref : CmdRef) (lid lsp nsid offset len : Nat)
  /-- IDENTIFY, R150: CNS, NSID and CNTID. -/
  | identify (ref : CmdRef) (cns nsid cntid : Nat)
  /-- ABORT, R132: the command named. -/
  | abort (ref : CmdRef) (sqid cid : Nat)
  /-- SET_FEATURES, R155. -/
  | setFeatures (ref : CmdRef) (args : FeatureArgs)
  /-- GET_FEATURES, R154: FID and SEL. -/
  | getFeatures (ref : CmdRef) (fid sel cdw11 : Nat)
  /-- ASYNCHRONOUS_EVENT_REQUEST, R50. -/
  | asynchronousEventRequest (ref : CmdRef)
  /-- NAMESPACE_MANAGEMENT_CREATE, R142. -/
  | namespaceManagementCreate (ref : CmdRef) (args : NsCreate)
  /-- NAMESPACE_MANAGEMENT_DELETE, R145. -/
  | namespaceManagementDelete (ref : CmdRef) (nsid : Nat)
  /-- FIRMWARE_IMAGE_DOWNLOAD, R460: offset, length, and the image the slot spells once the piece is programmed. -/
  | firmwareImageDownload (ref : CmdRef) (offset len : Nat) (image : Option FwImage)
  /-- FIRMWARE_COMMIT, R460: FS and CA. -/
  | firmwareCommit (ref : CmdRef) (fs ca : Nat)
  /-- FIRMWARE_COMMIT_ACTIVATE, R138: FS. -/
  | firmwareCommitActivate (ref : CmdRef) (fs : Nat)
  /-- NAMESPACE_ATTACHMENT, R150: attach (SEL 0) or detach (SEL 1) to the controllers listed. -/
  | namespaceAttachment (ref : CmdRef) (nsid sel : Nat) (ctls : List Nat)
  /-- NVME_MI_SEND, R156. -/
  | nvmeMiSend (ref : CmdRef) (request : Nat) (args : MiArgs) (body : MiBody)
  /-- NVME_MI_RECEIVE, R156. -/
  | nvmeMiReceive (ref : CmdRef)
  /-- FORMAT_NVM, R157: NSID, LBAF, PI settings and SES. -/
  | formatNvm (ref : CmdRef) (nsid lbaf dps ses : Nat)
  /-- SANITIZE, R158: SANACT, OWPASS, inversion, pattern. -/
  | sanitize (ref : CmdRef) (sanact owpass : Nat) (oipbp : Bool) (pattern : BitVec 32)
  /-- DECK_CREATE, R209. `memberFails`: a member failed during step 4 (0), or during step 6 once a number of label passes, one less than
  this, had begun. -/
  | deckCreate (ref : CmdRef) (args : ShapeArgs) (memberFails : Option Nat)
  /-- DECK_IMPORT, R234, R235: DECK_ID, the slots, and the other fields of Deck Create. -/
  | deckImport (ref : CmdRef) (deckId : Nat) (slots : List Nat) (rest : ShapeRest)
  /-- DECK_DESTROY, R211. -/
  | deckDestroy (ref : CmdRef) (deckId : Nat)
  /-- DECK_REDEAL, R313. -/
  | deckRedeal (ref : CmdRef) (args : ShapeArgs)
  /-- DECK_REDEAL_CANCEL, R310, R328: DECK_ID, and the slots and the other fields of the command, which must be zero. -/
  | deckRedealCancel (ref : CmdRef) (deckId : Nat) (rest : List Nat × ShapeRest)
  /-- MEMBER_CONTROL_ONLINE, R361. -/
  | memberControlOnline (ref : CmdRef) (slot cdw11 : Nat)
  /-- MEMBER_CONTROL_OFFLINE, R361. -/
  | memberControlOffline (ref : CmdRef) (slot cdw11 : Nat)
  /-- MEMBER_CONTROL_FAIL, R361. -/
  | memberControlFail (ref : CmdRef) (slot cdw11 : Nat)
  /-- MEMBER_CONTROL_ERASE, R361. -/
  | memberControlErase (ref : CmdRef) (slot cdw11 : Nat)
  /-- MEMBER_CONTROL_PORT_RESET, R361. -/
  | memberControlPortReset (ref : CmdRef) (slot cdw11 : Nat)
  /-- MEMBER_CONTROL_CLEAR, R361. -/
  | memberControlClear (ref : CmdRef) (slot cdw11 : Nat)
  /-- MEMBER_CONTROL_MEM_CLEAR, R361. -/
  | memberControlMemClear (ref : CmdRef) (slot cdw11 : Nat)
  /-- REBUILD_CONTROL_RESUME, R295. -/
  | rebuildControlResume (ref : CmdRef) (deckId : Nat)
  /-- REBUILD_CONTROL_HOLD, R295. -/
  | rebuildControlHold (ref : CmdRef) (deckId : Nat)
  /-- REBUILD_CONTROL_REPLACE, R295. -/
  | rebuildControlReplace (ref : CmdRef) (deckId slot : Nat)
  /-- REBUILD_CONTROL_STATUS, R295. -/
  | rebuildControlStatus (ref : CmdRef) (deckId : Nat)
  /-- PATROL_CONTROL_RESUME, R307: DECK_ID or 0xFF. -/
  | patrolControlResume (ref : CmdRef) (deckId : Nat)
  /-- PATROL_CONTROL_PAUSE, R307. -/
  | patrolControlPause (ref : CmdRef) (deckId : Nat)
  /-- PATROL_CONTROL_RESTART, R307. -/
  | patrolControlRestart (ref : CmdRef) (deckId : Nat)
  /-- PATROL_CONTROL_REPAIR_ON, R307. -/
  | patrolControlRepairOn (ref : CmdRef) (deckId : Nat)
  /-- PATROL_CONTROL_REPAIR_OFF, R307. -/
  | patrolControlRepairOff (ref : CmdRef) (deckId : Nat)
  /-- QUEUE_RESUME_RETRY, R130. -/
  | queueResumeRetry (ref : CmdRef) (sqid : Nat)
  /-- QUEUE_RESUME_SKIP, R130. -/
  | queueResumeSkip (ref : CmdRef) (sqid : Nat)
  /-- RECORDER_FREEZE, R482. -/
  | recorderFreeze (ref : CmdRef)
  /-- RECORDER_THAW, R482. -/
  | recorderThaw (ref : CmdRef)
  /-- CALIBRATION_ACCESS_READ, R406: length in dwords. -/
  | calibrationAccessRead (ref : CmdRef) (len : Nat)
  /-- CALIBRATION_ACCESS_WRITE, R406: length in dwords and the record. -/
  | calibrationAccessWrite (ref : CmdRef) (len : Nat) (cal : CalRecord)
  /-- BOOT_STATEMENT_GET, R471: length in dwords and first SEQ. -/
  | bootStatementGet (ref : CmdRef) (len first : Nat)
  /-- SHIP_ENTER_ARM, R412. -/
  | shipEnterArm (ref : CmdRef)
  /-- SHIP_ENTER_DISARM, R412. -/
  | shipEnterDisarm (ref : CmdRef)
  /-- RECOVERY_REQUEST_DEVICE_RESET, R487. -/
  | recoveryRequestDeviceReset (ref : CmdRef)
  /-- RECOVERY_REQUEST_POWER_CYCLE, R489. -/
  | recoveryRequestPowerCycle (ref : CmdRef)
  /-- OWNER_CHALLENGE_GET, R474: length in dwords. -/
  | ownerChallengeGet (ref : CmdRef) (len : Nat)
  /-- OWNER_PROVISION, R474. -/
  | ownerProvision (ref : CmdRef) (args : Provision)
  /-- OWNER_AUTH, R475. -/
  | ownerAuth (ref : CmdRef) (args : OwnerAuthArgs)
  /-- MAIN_PG_RISE, R70: strap levels. -/
  | mainPgRise (hostBif : Bool) (mbrCfg : BitVec 2)
  /-- AUX_RAIL_FALL, R44: whether the pack is at its cutoff. -/
  | auxRailFall (packAtCutoff : Bool)
  /-- HOST_LINK_UP, R78: speed in GT/s and width in lanes. -/
  | hostLinkUp (port speed width : Nat)
  /-- AGGREGATION_TIME_EXPIRY, R92. -/
  | aggregationTimeExpiry (ctl vec : Nat)
  /-- WITHHELD_TAG_TIMEOUT, R357. -/
  | withheldTagTimeout (slot port : Nat)
  /-- LADDER_STEP_BOUND_EXPIRY, R357. -/
  | ladderStepBoundExpiry (slot port : Nat)
  /-- MEMBER_PCIE_COMPLETION_TIMEOUT, R343. -/
  | memberPcieCompletionTimeout (slot port : Nat)
  /-- SENTINEL_FAULT, R31. -/
  | sentinelFault
  /-- CRYSTAL_RUNS_AGAIN, R527. -/
  | crystalRunsAgain
  deriving DecidableEq, Repr

end Sys2Proof
end

