-- ==== Sys2Proof/Decode.lean ====
section
/-!
DEFINITION. The commands that words spell. spec/opcode_table.json gives no row any bits (its `fields` are empty): the block has no
instruction word, and a command comes as an event, a register access or a queue entry. So no word spells a command.
-/

namespace Sys2Proof

/-- The command that a word spells by the table's bits: none, since no row has bits. -/
def decodeTableWord (_nbits _w : Nat) : Option Instr := none

end Sys2Proof
end

