-- ==== Sys2Proof/Config.lean ====
section
/-!
DEFINITION. What the manual leaves open: free values, and functions that standards define and this model leaves
uninterpreted. None of them has a body, so no proof can use a value of one.
-/

namespace Sys2Proof

/-- Random numbers of the root of trust (DECK_UUID of 07 R209, nonces of 16 R474, volume keys of 05 R147), by the counter
`State.freeCtr`. Log 1. -/
opaque Config.freeValue : Nat → BitVec 128

/-- Reset value of a configuration space dword that the manual does not lay out, by function and offset (03 R83). Log 7. -/
opaque Config.cfgReset : Nat → Nat → BitVec 32

/-- The 8 check bits of an SRAM word: the manual names a SEC-DED (72,64) code and gives no matrix (15 R442). Log 47. -/
opaque Config.secded : Bytes → Byte

/-- Bytes that a test word yields where the manual states no value: the data of an uncorrectable word, a word that nothing has
written, and an SRAM word with three or more bits flipped (15 R444, 06 R176). By the counter `State.freeCtr`. Log 48. -/
opaque Config.testData : Nat → Bytes

/-- Die stepping bytes: hub, regions A to D, sentinel (18 R510). Log 7. -/
opaque Config.dieStep : Nat → BitVec 8

/-- DSN, derived from the fuse bank (03 R83). Log 7. -/
opaque Config.dsn : BitVec 64

/-- SHA-384 of a byte string (16, FIPS 180-4). Log 8. -/
opaque Config.sha384 : Bytes → Nat

/-- HMAC-SHA-384 of a byte string under a key (16 R451, FIPS 198-1). Log 8. -/
opaque Config.hmac : Bytes → Bytes → Nat

/-- UDS, the device unique secret of the fuse bank, 48 bytes (16 R450). Log 7. -/
opaque Config.uds : Bytes

/-- The P-384 public key of a private key, X then Y, 96 bytes (16 R451, SEC 1). Log 8. -/
opaque Config.p384Public : Nat → Bytes

/-- An ECDSA P-384 signature under a private key over a byte string (16, FIPS 186-5). Log 8. -/
opaque Config.sign : Nat → Bytes → Bytes

/-- AES-256-XTS of a block of a volume's data: key, LBA and data (05 R147). Log 8. -/
opaque Config.xtsEncrypt : Nat → Nat → Bytes → Bytes

/-- AES-256-XTS decryption (05 R147). Log 8. -/
opaque Config.xtsDecrypt : Nat → Nat → Bytes → Bytes

/-- WRAPPED_KEY, the 72 bytes of a volume key wrapped under a key by RFC 3394 (07 R226): the wrapping key, then the volume key. Log 8. -/
opaque Config.wrapKey : Nat → Nat → Bytes

/-- The volume key that 72 bytes of WRAPPED_KEY unwrap to under a wrapping key by RFC 3394 (07 R226). Log 8. -/
opaque Config.unwrapKey : Nat → Bytes → Nat

/-- AES-256-GCM: the ciphertext of a vault page by key and 96-bit nonce, and the tag by key, nonce, authenticated data and plaintext
(14 R416, R417). Log 8. -/
opaque Config.gcmSeal : Nat → Nat → Bytes → Bytes
opaque Config.gcmTag : Nat → Nat → Bytes → Bytes → Bytes

/-- Cause parameter of event 0xF012, by why fault injection was disarmed: 1 COUNT, 2 time, 3 mode change, 4 device reset,
5 controller reset, 6 end of the authorisation, 7 a deck left OPTIMAL, 8 by command or register (15 R448). The manual gives no
codes. Log 26. -/
opaque Config.disarmCause : Nat → Nat

/-- Reason parameter of event 0x8024 where the manual gives no code: 1 a stalled star link, 2 a stalled ring link, 3 a second lockstep
mismatch, 4 a quarantined unit, 5 no parity block left (16 R479). Log 50. -/
opaque Config.fenceReason : Nat → Nat

/-- Reason parameter of event 0x8023: 1 rejected flits, 2 a second failed cell, 3 mod-15 mismatches, 4 crypto residue mismatches (16 R479).
The manual gives no codes. Log 50. -/
opaque Config.blockReason : Nat → Nat

/-- Reason parameter of event 0x9012: 1 length or reserved fields, 2 no owner or no OWNER_COUNT bit left, 3 OWNER_SEQ, 4 DSN, 5 nonce,
6 signature, 7 duration, 8 owner block invalid (16 R475, R478). The manual gives no codes. Log 52. -/
opaque Config.ownerReason : Nat → Nat

/-- ROM_VERSION, and SHA-384 of the boot ROM (16 R465, R472). Log 7. -/
opaque Config.romVersion : Nat
opaque Config.romDigest : Nat

/-- BANK_CRC of the fuse bank (16 R450, 18 R510). Log 7. -/
opaque Config.bankCrc : BitVec 32

/-- The certificate chain of slot 0 (16 R472). Log 8. -/
opaque Config.certChain : Bytes

/-- Bytes of a standard data structure (Identify, log page or NVMe-MI response) whose layout a standard gives and the manual
does not: by kind and the counter `State.freeCtr`. Log 9. -/
opaque Config.standardData : Nat → Nat → Bytes

/-- Response status Management Endpoint Busy of NVMe-MI (05 R156). Log 9. -/
opaque Config.miBusy : Nat

/-- State of charge, in parts per million modulo 1,000,001, of a cell voltage beyond the ends of the table of 14 R394: the manual
gives no inverse there. By the counter `State.freeCtr`. Log 18. -/
opaque Config.socBeyond : Nat → Nat

/-- Time of a takeover in µs, by the counter `State.freeCtr`; the manual states only a bound (17 R491). Log 12. -/
opaque Config.takeoverUs : Nat → Nat

/-- Entry of the cell rate table of 13 R365, in MB/s, at a voltage in mV and a temperature in 0.1 °C outside 0 °C to 105 °C: the
manual gives none. Log 22. -/
opaque Config.rateBeyond : Nat → Int → Nat

/-- Free flit buffers of a link's receiver in one direction, which are its credits (01 R22): the manual gives no number. Log 111. -/
opaque Config.linkCredits : Nat

/-- Identification that each device is given and the manual does not state, the same in every read and on both controllers (03 R71; 05 R153):
0 serial number (20 bytes), 1 model number (40), 2 SUBNQN (256), 3 IEEE OUI (3), 4 FRU GUID (16), 16 to 20 the relative performance of power
states 0 to 4 (4 each). Log 9. -/
opaque Config.identity : Nat → Bytes

/-- NGUID of a volume: by the DECK_UUID of its deck and its NSID (05 R140). Log 9. -/
opaque Config.nguid : Nat → Nat → Bytes

/-- Header of a TLP that the AER Header Log takes (03 R83): by the number of items that have left the block. Log 57. -/
opaque Config.tlpHeader : Nat → BitVec 128

/-- End-end prefixes of that TLP, which the AER TLP Prefix Log takes (03 R83): by the number of items that have left the block; 0 where it has
none. Log 57. -/
opaque Config.tlpPrefix : Nat → BitVec 128

/-- Address that BAR0 of a member's port is given in its region's private outbound space (12 R336 step 1): by slot and port. Log 139. -/
opaque Config.memberBar : Nat → Nat → Nat

/-- Bytes of a member's submission queue, whose entries a standard lays out (12 R339): by the number of items that have left the block, and the offset
in the port's area. Log 139. -/
opaque Config.submission : Nat → Nat → Bytes

/-- Sublink that a flit takes, modulo 16: by the number of free values drawn (01 R23 spreads a stream and gives no order). Log 49. -/
opaque Config.sublinkOf : Nat → Nat

/-- How bits 13:5 of a dword of log 0x05, which NVMe reserves, give the direction of a vendor command's data: 0 none, 1 from host, 2 to host,
3 either. 05 R151 puts the direction there and gives no place. Log 131. -/
opaque Config.effectsDirection : Nat → BitVec 32

end Sys2Proof
end

