-- ==== Sys2Proof/Machine/Codes.lean ====
section
/-!
DEFINITION. Byte order and the codes of 00 R12: CRC-32C, the flit residue, the mod-15 residue.
-/

namespace Sys2Proof.Machine

/-- A number as `n` bytes, least significant first (00 R6). -/
def leBytes : Nat → Nat → Bytes
  | 0, _ => []
  | n + 1, v => BitVec.ofNat 8 v :: leBytes n (v / 256)

/-- A number as `n` bytes, most significant first: a SHA-384 digest in the byte order of its standard (00 R6; FIPS 180-4). -/
def beBytes (n v : Nat) : Bytes := (leBytes n v).reverse

/-- A byte string as a number, least significant byte first (00 R6). -/
def leNat : Bytes → Nat
  | [] => 0
  | b :: bs => b.toNat + 256 * leNat bs

/-- `n` zero bytes. -/
def zeros (n : Nat) : Bytes := List.replicate n 0

/-- A byte string cut or filled with zeros to `n` bytes. -/
def fitBytes (n : Nat) (bs : Bytes) : Bytes := bs.take n ++ zeros (n - bs.length)

/-- ASCII text as bytes. -/
def asciiBytes (t : String) : Bytes := t.toList.map fun c => BitVec.ofNat 8 c.toNat

/-- Bytes `off` to `off + len − 1`, bytes beyond the end reading as zero. -/
def sliceBytes (bs : Bytes) (off len : Nat) : Bytes := fitBytes len (bs.drop off)

/-- One bit step of the reflected CRC-32C register. -/
def crcStep (r : BitVec 32) : BitVec 32 :=
  if r.getLsbD 0 then (r >>> 1) ^^^ 0x82F63B78 else r >>> 1

/-- The register after one byte. -/
def crcByte (r : BitVec 32) (b : Byte) : BitVec 32 :=
  let r := r ^^^ b.setWidth 32
  crcStep (crcStep (crcStep (crcStep (crcStep (crcStep (crcStep (crcStep r)))))))

/-- CRC-32C (00 R12): polynomial 0x1EDC6F41, reflected, initial value and final xor all ones. -/
def crc32c (bs : Bytes) : BitVec 32 := (bs.foldl crcByte 0xFFFFFFFF) ^^^ 0xFFFFFFFF

/-- Bytes 4 to 15 of a chunk tag (07 R230). -/
def tagFields (t : ChunkTag) : Bytes :=
  leBytes 12 (t.gen + t.hand * 2 ^ 16 + t.chunk * 2 ^ 56 + t.block * 2 ^ 62 + t.wseq * 2 ^ 68)

/-- The CRC of a chunk tag: CRC-32C of the block's 4,096 bytes and bytes 4 to 15 of the tag (07 R230). -/
def tagCrc (data : Bytes) (t : ChunkTag) : BitVec 32 := crc32c (data ++ tagFields t)

/-- All 16 bytes of the tag are zero (07 R231). -/
def tagZero (t : ChunkTag) : Bool := decide (t = { crc := 0, gen := 0, hand := 0, chunk := 0, block := 0, wseq := 0 })

/-- One bit of the flit residue's division: `b` enters below (00 R12). -/
def resBit (r : BitVec 32) (b : Bool) : BitVec 32 :=
  let s := (r <<< 1) ||| (if b then 1 else 0)
  if r.getLsbD 31 then s ^^^ 0x1EDC6F41 else s

/-- The residue register after one byte, its most significant bit first. -/
def resByte (r : BitVec 32) (b : Byte) : BitVec 32 :=
  [7, 6, 5, 4, 3, 2, 1, 0].foldl (fun r i => resBit r (b.getLsbD i)) r

/-- Flit residue: the remainder of the flit's bits divided by 0x1EDC6F41, with no initial value, final xor or reflection
(00 R12). Byte order: the last byte of the flit is the most significant, as R6 numbers bytes (DEDUCED, log 10). -/
def flitResidue (bs : Bytes) : BitVec 32 := bs.reverse.foldl resByte 0

/-- ARES of a flit tag (01 R32), and ADDR residues in general: the sum modulo 15. -/
def mod15 (n : Nat) : Nat := n % 15

/-- Bit `i` of a sector mask. -/
def bitOf (m : BitVec 8) (i : Nat) : Bool := m.getLsbD i

/-- Mask of the sectors `lo` to `hi - 1` of a page. -/
def sectorMask (lo hi : Nat) : BitVec 8 :=
  BitVec.ofNat 8 (2 ^ (min hi 8) - 2 ^ (min lo (min hi 8)))

/-- Bitmap of a list of indexes. -/
def bitmapOf (l : List Nat) : Nat := l.foldl (fun a i => if a.testBit i then a else a + 2 ^ i) 0

/-- Xor of two byte strings, of the length of the first. -/
def xorBytes : Bytes → Bytes → Bytes
  | [], _ => []
  | a :: as, [] => a :: as
  | a :: as, b :: bs => (a ^^^ b) :: xorBytes as bs

end Sys2Proof.Machine
end

