-- ==== Sys2Proof/Machine/UnitsFlash.lean ====
section
/-!
DEFINITION. The paired blocks of boot flash: two copies in turn, each with a sequence number and CRC-32C, of which the valid one with the
higher sequence number is the block (16 R455; 05 R159, 14 R406, 15 R437, 16 R458, R473).
-/

namespace Sys2Proof.Machine

/-- A copy of a paired block: SEQ, what its payload holds, and CRC (16 R455). -/
structure FlashCopy (α : Type) where
  seqNo : Nat
  item : α
  crc : BitVec 32
  deriving DecidableEq, Repr

/-- The two copies of a block; none where a sector is erased. -/
structure FlashPair (α : Type) where
  c0 : Option (FlashCopy α) := none
  c1 : Option (FlashCopy α) := none
  deriving DecidableEq, Repr

/-- CRC of a container: CRC-32C of its header's bytes 0 to 27 and the payload (16 R455). -/
def flashCrc (magic : String) (seqNo : Nat) (payload : Bytes) : BitVec 32 :=
  crc32c (asciiBytes magic ++ leBytes 8 seqNo ++ leBytes 4 payload.length ++ zeros 8 ++ payload)

/-- A copy is valid (16 R455). -/
def copyGood {α : Type} (magic : String) (enc : α → Bytes) (c : FlashCopy α) : Bool := decide (flashCrc magic c.seqNo (enc c.item) = c.crc)

/-- The valid copy with the higher SEQ, and whether it is copy 1. -/
def pairNow {α : Type} (magic : String) (enc : α → Bytes) (p : FlashPair α) : Option (Bool × FlashCopy α) :=
  match p.c0.filter (copyGood magic enc), p.c1.filter (copyGood magic enc) with
  | some a, some b => if a.seqNo < b.seqNo then some (true, b) else some (false, a)
  | some a, none => some (false, a)
  | none, some b => some (true, b)
  | none, none => none

/-- What the block holds. -/
def pairItem {α : Type} (magic : String) (enc : α → Bytes) (p : FlashPair α) : Option α := (pairNow magic enc p).map fun c => c.2.item

/-- Write a block: the copy that does not hold the valid one is erased and programmed, with the next SEQ (16 R455). -/
def pairPut {α : Type} (magic : String) (enc : α → Bytes) (x : α) (p : FlashPair α) : FlashPair α :=
  let copy := fun (n : Nat) => some { seqNo := n, item := x, crc := flashCrc magic n (enc x) }
  match pairNow magic enc p with
  | some (false, c) => { p with c1 := copy (c.seqNo + 1) }
  | some (true, c) => { p with c0 := copy (c.seqNo + 1) }
  | none => { p with c0 := copy 1 }

end Sys2Proof.Machine
end

