-- ==== Sys2Proof/Machine/UnitsPower.lean ====
section
/-!
DEFINITION. The sentinel, the board's power and pins, the device mode, the stop record and the event recorder:
the units that stay when the main rails are off. Each field's default is its value in `State.reset`.
-/

namespace Sys2Proof.Machine

/-- A table of values by key; a key that is not listed holds the reader's default. -/
abbrev Tbl (κ α : Type) := List (κ × α)

/-- The eight device modes (00 Terms, 02 R44). -/
inductive DevMode where
  | ship
  | standby
  | boot
  | restore
  | serve
  | constrained
  | holdup
  | quarantine
  deriving DecidableEq, Repr

/-- DEV_MODE and the causes DEV_STATUS shows (02 R45, R46, R48; 18 R511). -/
structure ModeState where
  /-- MODE: device mode code. 3 bits. 02 R44, 18 R511. Reset 0b010, BOOT. -/
  mode : DevMode := .boot
  /-- LAST_TRANS: number of the last transition. 8 bits. 18 R511. Reset 0x03. -/
  lastTrans : Nat := 3
  /-- CAUSE: cause code of that transition. 8 bits. 02 R49, 18 R511. Reset 0x42. -/
  cause : Nat := 0x42
  /-- Mode whose CSTS.RDY bound T10, T13 or T7 ended: cause code of the present QUARANTINE, 0 outside it. 8 bits. 17 R494. Reset 0. -/
  quarantineCause : Nat := 0
  /-- POWER_CAP cause. 1 bit. 02 R48, 18 R511. Reset DESIGN CHOICE 0, log 4. -/
  capCause : Bool := false
  /-- HEAT cause. 1 bit. 13 R374, 18 R511. Reset DESIGN CHOICE 0, log 4. -/
  heatCause : Bool := false
  /-- HOLDUP_NOT_READY and SPARE_EXHAUSTED causes, as of the last scheduler window. 1 bit each. 02 R48, 18 R511. Reset DESIGN CHOICE 0, log 4. -/
  holdupCause : Bool := false
  spareCause : Bool := false
  /-- Over-temperature rule of R375 in force: T has reached 110 °C and not yet fallen below 105 °C. 1 bit. 13 R375. Reset DESIGN CHOICE 0, log 4. -/
  criticalTemp : Bool := false
  /-- Critical Warning bits as last reported in the SMART / Health log. 8 bits. 02 R50. Reset DESIGN CHOICE 0, log 4. -/
  critWarn : BitVec 8 := 0
  /-- Hub half that failed, for each half: out of service. 2 × 1 bit. 03 R72, 18 R511. Reset 0, both in service. -/
  halfDown : List Bool := [false, false]
  /-- Cause code and detail of a fault that no level absorbs and that BOOT or RESTORE has not taken: T13 is due in service. 02 R47, 17 R494. Reset
  none. -/
  faultDue : Option (Nat × Nat) := none
  /-- Hub half whose management cores lead. 1 bit. 01 R17; 03 R72. Reset 0. -/
  activeHalf : Nat := 0
  /-- Hub half whose copy is active, for each hub common unit, SOURCE units 0x05 to 0x0A. 6 × 1 bit. 01 R17, 16 R477. Reset 0. -/
  commonHalf : List Nat := [0, 0, 0, 0, 0, 0]
  /-- Copies of hub common units that are quarantined: SOURCE unit and hub half. 01 R17, R26. Reset none. -/
  commonDown : List (Nat × Nat) := []
  /-- Queue engine of each half failed over to the other half. 2 × 1 bit. 15 R425. Reset 0. -/
  engineDown : List Bool := [false, false]
  /-- Crypto engine set of each half failed over to the other half. 2 × 1 bit. 15 R424. Reset 0. -/
  cryptoDown : List Bool := [false, false]
  /-- TAKEOVER_STAT COUNT. 32 bits. 18 R511. Reset 0. -/
  takeovers : Nat := 0
  /-- TAKEOVER_STAT LAST_SOURCE. 8 bits. 18 R511. Reset 0x00. -/
  lastSource : Nat := 0
  /-- TAKEOVER_STAT LAST_LEVEL. 2 bits. 18 R511. Reset 0. -/
  lastLevel : Nat := 0
  /-- TAKEOVER_STAT LAST_US. 16 bits. 18 R511. Reset 0. -/
  lastUs : Nat := 0
  /-- RCV_STAT PENDING: 0 none, 1 device reset, 2 power cycle. 2 bits. 17 R488. Reset 0. -/
  rcvPending : Nat := 0
  /-- RCV_STAT PWRCYC_TIMEOUT. 1 bit. 17 R488. Reset 0. -/
  pwrcycTimeout : Bool := false
  /-- RCV_STAT LAST_CAUSE: RESET_CAUSE of the last BOOT entry. 3 bits. 17 R488, 16 R465. Reset 0. -/
  rcvLastCause : Nat := 0
  /-- RCV_STAT WARM_COUNT. 16 bits. 17 R488. Reset 0. -/
  warmCount : Nat := 0
  /-- BOOT holds at its first step until PERST# deasserts. 1 bit. 02 R52. Reset DESIGN CHOICE 0, log 4. -/
  bootHold : Bool := false
  /-- The boot member window of R57 has closed. 1 bit. 02 R57, 17 R499. Reset 0. -/
  windowClosed : Bool := false
  /-- A stop of the boot window is held open for this boot's cold start: the boot began with T3. 1 bit. 02 R53. Reset 1. -/
  coldBoot : Bool := true
  /-- Retention seal: the directory, journal index and mirror indexes are sealed and valid. 1 bit. 02 R52, R61. Reset DESIGN CHOICE 0, log 4. -/
  sealValid : Bool := false
  /-- RESTORE's source as chosen under R61. 02 R61: 0 none, 1 vault, 2 retention, 3 keepers, 4 no record that is valid. Reset 0. -/
  restoreSource : Nat := 0
  /-- The BOOT check that failed at entry to BOOT: 0 none, 3 no image verified. 8 bits. 02 R58. Reset 0. -/
  bootFault : Nat := 0
  /-- A normal or abrupt shutdown is under way: 0 none, 1 normal, 2 abrupt. 2 bits. 02 R64. Reset 0. -/
  shutdownKind : Nat := 0
  /-- A shutdown has completed and service has not resumed. 1 bit. 02 R60, R65. Reset 0. -/
  shutDone : Bool := false
  /-- The device has entered SERVE or CONSTRAINED since the last T3. 1 bit. 19 R525. Reset 0. -/
  servedSinceT3 : Bool := false
  /-- Boot count of the present boot (stop record BOOT_COUNT, heartwood). 64 bits. 02 R59, 16 R465. Reset DESIGN CHOICE 1, log 4. -/
  bootCount : Nat := 1
  /-- NVMe power state, 0 to 4. 3 bits. 05 R161. Reset DESIGN CHOICE 0, log 4. -/
  ps : Nat := 0
  /-- Last operational power state, 0 to 2. 2 bits. 05 R163. Reset DESIGN CHOICE 0, log 4. -/
  lastOpPs : Nat := 0
  /-- Non-operational power state whose entry waits until every dirty page is destaged. 3 bits. 05 R161, R164. Reset none. -/
  psTarget : Option Nat := none
  deriving DecidableEq, Repr

/-- Rails, pins of the board and the power-fail detector (19 R518 to R531). -/
structure Power where
  /-- AUX_PRESENT: the auxiliary rail is above its good threshold. 1 bit. 18 R515. Reset 1, since T3 follows STANDBY (DESIGN CHOICE, log 4). -/
  auxGood : Bool := true
  /-- MAIN_PG pin. 1 bit. 19 R518. Reset 1, since T3 needs it. -/
  mainPg : Bool := true
  /-- RAIL_EN[4:0] pins. 5 bits. 19 R523. Reset: RAIL_EN0 high at the zero point of T3. -/
  railEn : List Bool := [true, false, false, false, false]
  /-- RAIL_PG[4:0] pins. 5 bits. 19 R523. Reset 0. -/
  railPg : List Bool := [false, false, false, false, false]
  /-- The hub has left reset after RAIL_PG4. 1 bit. 19 R523. Reset 0. -/
  hubUp : Bool := false
  /-- Trips in a row within 10 s of T3 with no entry to SERVE or CONSTRAINED between. 19 R525. Reset 0. -/
  earlyTrips : Nat := 0
  /-- The sentinel holds the main rails off until MAIN_PG has fallen and risen again. 1 bit. 19 R525. Reset 0. -/
  holdOff : Bool := false
  /-- Time of the last T3 (ns of `State.now`). 19 R525. Reset 0. -/
  t3At : Nat := 0
  /-- HU_EN pin. 1 bit. 19 R519. Reset 0. -/
  huEn : Bool := false
  /-- LEARN_LOAD_EN pin. 1 bit. 19 R519. Reset 0. -/
  learnLoadEn : Bool := false
  /-- CHG_EN pin. 1 bit. 14 R411, 19 R519. Reset 0. -/
  chgEn : Bool := false
  /-- Pack disconnect closed (PACK_DSG and PACK_CHG on). 1 bit. 19 R519. Reset 1. -/
  packConnected : Bool := true
  /-- A power cycle has been asked for by a pulse of PWRCYC_REQ_N, and main power has not failed yet. 1 bit. 17 R489. Reset 0. -/
  pwrcycPulse : Bool := false
  /-- THERMTRIP_N is asserted. 1 bit. 19 R531. Reset 0. -/
  thermTrip : Bool := false
  /-- The sentinel runs from its internal oscillator: the crystal has stopped. 1 bit. 19 R527. Reset 0. -/
  crystalStopped : Bool := false
  /-- The sentinel has faulted, and its readings have stopped. 1 bit. 01 R31. Reset 0. -/
  sentinelDown : Bool := false
  /-- The sentinel has lost all power (auxiliary rail absent, pack at its cutoff). 1 bit. 02 R44. Reset 0. -/
  sentinelOff : Bool := false
  /-- STANDBY_ON_PACK: the sentinel ran from the pack alone since the last cold start. 1 bit. 18 R515. Reset 0. -/
  standbyOnPack : Bool := false
  /-- FROM_SHIP: the last STANDBY began with T1. 1 bit. 18 R515. Reset DESIGN CHOICE 0, log 4. -/
  fromShip : Bool := false
  /-- SHIP_CTL ARMED. 1 bit. 18 R515, 14 R412. Reset 0. -/
  shipArmed : Bool := false
  /-- HOST_BIF strap as sampled. 1 bit. 03 R70, 18 R510. Reset DESIGN CHOICE 0 (x16), log 4: the strap's value. -/
  hostBif : Bool := false
  /-- MBR_CFG straps as sampled. 2 bits. 12 R332, 18 R510. Reset DESIGN CHOICE 0b00 (P = 64), log 4: the strap's value. -/
  mbrCfg : BitVec 2 := 0
  /-- NVMe-MI configuration values that were set, by identifier; one not listed holds the standard's default. 05 R156. Reset DESIGN
  CHOICE none, log 4. -/
  miConfig : Tbl Nat Nat := []
  /-- TEST_EN_N low: not modelled further; the pin's level. 1 bit. 19 R519. Reset 1 (high). -/
  testEnN : Bool := true
  deriving DecidableEq, Repr

/-- A stop record (02 R59). -/
structure StopRec where
  /-- 1 OPEN, 2 CLEAN, 3 FLUSHED. -/
  state : Nat
  imageValid : Bool
  shipArmed : Bool
  writeThrough : Bool
  seqNo : Nat
  bootCount : Nat
  time : BitVec 64
  imageSeq : Nat
  dirtyPages : Nat
  deriving DecidableEq, Repr

/-- One of the two copies of the stop record (02 R60). -/
inductive StopCopy where
  | erased
  | torn
  | valid (r : StopRec)
  deriving DecidableEq, Repr

/-- The stop record's two copies (02 R59, R60). -/
structure StopArea where
  /-- Copy 0 and copy 1. 2 × 512 bytes. 02 R59. Reset DESIGN CHOICE erased, log 4: nonvolatile, as delivered. -/
  copy0 : StopCopy := .erased
  copy1 : StopCopy := .erased
  deriving DecidableEq, Repr

/-- An event record (16 R476). -/
structure EventRec where
  seqNo : Nat
  time : BitVec 64
  code : Nat
  source : Nat
  severity : Nat
  params : List Nat
  deriving DecidableEq, Repr

/-- The event recorder (16 R476 to R484). -/
structure Recorder where
  /-- NEXT_SEQ: SEQ of the next record. 32 bits. 16 R481. Reset 0. -/
  nextSeq : Nat := 0
  /-- Hub event ring, oldest first, at most 65,536 records. 16 R480. Reset empty: cleared at a cold start. -/
  hubRing : List EventRec := []
  /-- Sentinel always-on ring, oldest first, at most 8,192 records. 16 R480. Reset DESIGN CHOICE empty, log 4. -/
  sentRing : List EventRec := []
  /-- FROZEN. 1 bit. 16 R481. Reset 0. -/
  frozen : Bool := false
  /-- BY_TRIGGER. 1 bit. 16 R481. Reset 0. -/
  byTrigger : Bool := false
  /-- LOST. 16 bits. 16 R481. Reset 0. -/
  lost : Nat := 0
  /-- FREEZE_SEQ of log 0xC3. 32 bits. 16 R482, R484. Reset 0. -/
  freezeSeq : Nat := 0
  /-- TRIG_EN. 1 bit. 16 R481. Reset 0. -/
  trigEn : Bool := false
  /-- TRIG_SEV. 3 bits. 16 R481. Reset 0b100. -/
  trigSev : Nat := 4
  /-- POST_COUNT. 12 bits. 16 R481. Reset 0. -/
  postCount : Nat := 0
  /-- TRIG_CODE. 16 bits. 16 R481. Reset 0x0000. -/
  trigCode : Nat := 0
  /-- The trigger is armed (it fires once until a thaw). 1 bit. 16 R482. Reset 1. -/
  trigArmed : Bool := true
  /-- Records still to be stored before a triggered freeze. 16 R482. Reset none. -/
  postLeft : Option Nat := none
  /-- Event spill area, oldest first: up to 32 sectors of 2,048 records. 16 R483. Reset DESIGN CHOICE erased, log 4. -/
  spill : List EventRec := []
  /-- Records waiting for a spill batch, oldest first. 16 R483. Reset empty. -/
  spillWait : List EventRec := []
  /-- Records that the last nine batches wrote, newest first. 16 R483. Reset empty. -/
  spillBatches : List Nat := []
  /-- SPILL_LOST. 32 bits. 16 R484. Reset 0. -/
  spillLost : Nat := 0
  /-- Timestamp in ms as set, with the model time at which it was set; none is UNSET. 16 R476, 05 R154. Reset DESIGN CHOICE none, log 4. -/
  timestamp : Option (Nat × Nat) := none
  /-- Model time at which the UNSET count last restarted. 16 R476. Reset 0. -/
  unsetFrom : Nat := 0
  deriving DecidableEq, Repr

end Sys2Proof.Machine
end

