-- ==== Sys2Proof/Machine/UnitsHost.lean ====
section
/-!
DEFINITION. The host side: the host ports, the functions' configuration space and mailboxes, the NVMe controllers with
their queues and reorder buffers, and what the block has sent out. Each field's default is its value in `State.reset`.
-/

namespace Sys2Proof.Machine

/-- A non-posted read request of a host port: its tag, address and length (03 R75). -/
structure HostReq where
  tag : BitVec 14
  addr : Nat
  len : Nat
  deriving DecidableEq, Repr

/-- A host port (03 R70 to R79, R93, R98). -/
structure HostPort where
  /-- The port is in L0 or a state entered from it. 1 bit. 03 R78. Reset 0. -/
  linkUp : Bool := false
  /-- Link training has started. 1 bit. 02 R53, R54. Reset 0. -/
  training : Bool := false
  /-- Speed in GT/s at which the link runs. 03 R73. Reset 0, no link. -/
  speed : Nat := 0
  /-- Width in lanes at which the link runs. 03 R73. Reset 0, no link. -/
  width : Nat := 0
  /-- PERST# of the port is asserted. 1 bit. 03 R70, R77. Reset DESIGN CHOICE 1, log 4: the platform deasserts it later (02 R53). -/
  perst : Bool := true
  /-- The link runs in FLIT mode. 1 bit. 03 R73. Reset 0, no link. -/
  flit : Bool := false
  /-- The port answers configuration requests. 1 bit. 02 R54. Reset 0. -/
  cfgAnswers : Bool := false
  /-- Request Retry Status is in force. 1 bit. 02 R54, 03 R79. Reset 1. -/
  rrs : Bool := true
  /-- The port runs at quarter width by L0p. 1 bit. 03 R93. Reset 0. -/
  l0p : Bool := false
  /-- L1 substate in force: none, L1 (0), L1.1 (1), L1.2 (2). 2 bits. 03 R93. Reset none. -/
  l1 : Option Nat := none
  /-- Lane groups of four that a failed lane has taken out. 03 R98. Reset none. -/
  badGroups : List Nat := []
  /-- Value of the last LTR message, in µs. 03 R95. Reset 0, none sent. -/
  ltrUs : Nat := 0
  /-- Tag of the next non-posted request. 14 bits. 03 R75. Reset DESIGN CHOICE 0, log 143. -/
  nextTag : Nat := 0
  /-- Non-posted requests outstanding, at most 4,096: the last group issued. 03 R75. Reset none. -/
  outstanding : List HostReq := []
  deriving DecidableEq, Repr

/-- SPDM connection state (03 R99, R100; 16 R472). -/
inductive SpdmState where
  | none
  | version
  | capabilities
  | negotiated
  deriving DecidableEq, Repr

/-- A PCI Express function (03 R71, R81 to R84, R90, R99). -/
structure Func where
  /-- D3hot. 1 bit. 03 R81. Reset 0, D0. -/
  d3hot : Bool := false
  /-- Configuration dwords that host software has written, by offset. 32 bits each. 03 R82, R83. Reset none: each dword reads its reset value. -/
  cfg : Tbl Nat (BitVec 32) := []
  /-- AER uncorrectable error status, and correctable error status. 32 bits each. 03 R96. Reset 0. -/
  aerUncor : BitVec 32 := 0
  aerCor : BitVec 32 := 0
  /-- AER First Error Pointer. 5 bits. 03 R83. Reset 0. -/
  aerFirst : Nat := 0
  /-- AER Header Log. 128 bits. 03 R83. Reset 0. -/
  aerHeader : BitVec 128 := 0
  /-- AER TLP Prefix Log. 128 bits. 03 R83. Reset 0. -/
  aerPrefix : BitVec 128 := 0
  /-- Device Status: correctable, non-fatal and fatal error and Unsupported Request detected. 4 bits. PRESUMED (PCI Express), log 57. Reset 0. -/
  devSts : BitVec 4 := 0
  /-- MSI-X vectors that are unmasked in the table. 2,048 × 1 bit. 03 R90. Reset: every vector masked, PRESUMED (PCI Express), log 5. -/
  unmasked : List Nat := []
  /-- MSI-X table: message address and message data of each vector that host software has written. 2,048 × (64 + 32) bits. 03 R85, R90. Reset
  DESIGN CHOICE 0, log 128. -/
  vectors : Tbl Nat (BitVec 64 × BitVec 32) := []
  /-- MSI-X pending bits that are set. 2,048 × 1 bit. 03 R90. Reset 0. -/
  pba : List Nat := []
  /-- INTMS: interrupt vectors masked for INTA. 32 bits. 03 R91. Reset 0. -/
  intms : BitVec 32 := 0
  /-- INTA asserted. 1 bit. 03 R91. Reset 0. -/
  inta : Bool := false
  /-- DOE Error. 1 bit. 03 R99. Reset 0. -/
  doeError : Bool := false
  /-- DOE Busy. 1 bit. 03 R99. Reset 0. -/
  doeBusy : Bool := false
  /-- Dwords of the object that host software is transferring to the DOE mailbox, oldest first, at most 4,096. 03 R99. Reset none. -/
  doeIn : List (BitVec 32) := []
  /-- Dwords of the response that host software has not yet read. 03 R99. Reset none. -/
  doeOut : List (BitVec 32) := []
  /-- SPDM connection state of the mailbox. 03 R100. Reset none. -/
  spdm : SpdmState := .none
  /-- 4-byte write to the low dword of an 8-byte register, staged, by offset. 18 R504. Reset none. -/
  staged : Tbl Nat (BitVec 32) := []
  /-- Latched high dword of an 8-byte register with the model time of the latch, by offset. 18 R504. Reset none. -/
  latched : Tbl Nat (BitVec 32 × Nat) := []
  deriving DecidableEq, Repr

/-- What a write that has been staged into cache frames waits with (06 R179, R189, R193). -/
inductive WriteStep where
  /-- Staged beyond the limits: waits for admission (06 R189). -/
  | waiting
  /-- Waits for a fill of its pages, or for a version of one to be freed (06 R176, R182). -/
  | blocked
  /-- Its copies are written; the directory has not switched. -/
  | staged
  /-- Write-through: its DATA record has been sent. -/
  | recordSent
  /-- Write-through: its DATA record is durable. -/
  | recordDurable
  deriving DecidableEq, Repr

/-- Its pages hold STAGED frames. -/
def WriteStep.hasFrames : WriteStep → Bool
  | .waiting | .blocked => false
  | .staged | .recordSent | .recordDurable => true

/-- One page of a staged write: volume, page, sectors written with their data, sectors zeroed (06 R176, R179). -/
structure PagePart where
  ns : Nat
  vpage : Nat
  /-- Bit b: sector b of the page is written. -/
  mask : BitVec 8
  /-- Bit b: sector b becomes zero. -/
  zero : BitVec 8
  /-- Bit b: the sector's host data were poisoned. -/
  poison : BitVec 8
  /-- The 4,096 bytes, those outside `mask` without meaning. -/
  data : Bytes
  /-- Sectors of `mask` of which the command writes only some bytes, with those bytes as (offset in the page, bytes); metadata of
  blocks may fill part of a sector. -/
  spans : List (Nat × Bytes)
  /-- The page as a fill has brought it from the members for such sectors. -/
  base : Option Bytes
  /-- Primary region and frame, and mirror region and frame, once placed. -/
  home : Option (Nat × Nat × Nat × Nat)
  deriving DecidableEq, Repr

/-- A staged write of a command (06 R179). -/
structure WriteJob where
  step : WriteStep
  parts : List PagePart
  /-- Admitted under write-through: its pages convert to DIRTY_J (06 R193). -/
  journaled : Bool
  /-- JSEQ of its DATA record, 0 before it is sent. -/
  jseq : Nat
  /-- Its place in the order in which writes have taken their frames, 0 before it has them: the model's own. -/
  order : Nat := 0
  deriving DecidableEq, Repr

/-- A reorder buffer entry (04 R113): a command fetched and not yet posted. -/
structure RobEntry where
  cid : Nat
  opcode : Nat
  /-- The command has passed its commit point, or its error is queued in its turn. -/
  committed : Bool := false
  /-- Status code with its type, (SCT shl 8) or SC; 0 is Successful Completion. -/
  status : Nat := 0
  /-- Dword 0 of the completion. -/
  dw0 : Nat := 0
  /-- Status with which the command will complete in its turn, without effect (04 R119): an error, an abort, a deletion. -/
  doom : Option Nat := none
  /-- NSID of the command, and the LBA that its error log entry names (10 R285). -/
  nsid : Nat := 0
  lba : Nat := 0
  /-- The write it has staged. -/
  job : Option WriteJob := none
  /-- The command has begun an effect that a later command ends (a format, a queue deletion, a delete, an activation). -/
  waits : Bool := false
  /-- The submission queue that this Delete I/O Submission Queue has put into DELETING (04 R103). -/
  deletes : Option Nat := none
  /-- Data pointer of the command (04 R114); its PRP1 is the address of the queue that a Create command makes (04 R105). -/
  ptr : DataPtr := .prp 0 0 []
  /-- Namespace Management that deletes: from its fetch on, new I/O commands to its NSID are refused. 05 R145. -/
  deletesNs : Bool := false
  /-- An admin command that repeats the identifier of a fetched one: it only waits for its turn to end with Command ID Conflict. -/
  dup : Bool := false
  /-- Deck and JSEQ of the DATA record that was sent for the command before it was given up. 09 R264, R270. -/
  dropped : Option (Nat × Nat) := none
  deriving DecidableEq, Repr

/-- State of a submission queue (04 R103). -/
inductive SqState where
  | active
  | halted
  | deleting
  deriving DecidableEq, Repr

/-- A halt record (04 R129). -/
structure HaltRec where
  reason : Nat
  cidValid : Bool
  cid : Nat
  head : Nat
  tail : Nat
  faultInfo : Nat
  lateTail : Nat
  time : BitVec 64
  deriving DecidableEq, Repr

/-- A submission queue; identifier 0 is the admin queue (04 R101, R103, R106). -/
structure Sq where
  id : Nat
  size : Nat
  cqid : Nat
  prio : Nat := 0
  state : SqState := .active
  head : Nat := 0
  tail : Nat := 0
  rob : List RobEntry := []
  halt : Option HaltRec := none
  /-- The entry at HEAD has failed to be read once (03 R97). -/
  retried : Bool := false
  /-- Hub half that owns the queue (03 R72). -/
  half : Nat := 0
  /-- Address of the queue's memory (04 R105; NVMe's PRP1 or ASQ). -/
  base : Nat := 0
  deriving DecidableEq, Repr

/-- A completion queue (04 R106, R108, R109). -/
structure Cq where
  id : Nat
  size : Nat
  ien : Bool := false
  iv : Nat := 0
  head : Nat := 0
  tail : Nat := 0
  phase : Bool := true
  /-- Last head doorbell value written, accepted or not (04 R130). -/
  lastHead : Nat := 0
  /-- Address of the queue's memory (04 R105; NVMe's PRP1 or ACQ). -/
  base : Nat := 0
  deriving DecidableEq, Repr

/-- An asynchronous event waiting for a request: type, information, log page (02 R50; 04 R110, R127; 05 R145, R149). -/
structure Aen where
  kind : Nat
  info : Nat
  lid : Nat
  /-- Critical Warning bit of an event that waits for the first request after CSTS.RDY (02 R50). -/
  standing : Option Nat := none
  deriving DecidableEq, Repr

/-- An entry of the Error Information log (05 R153; its form is NVMe's, PRESUMED, log 6). -/
structure ErrEntry where
  count : Nat
  sqid : Nat
  cid : Nat
  status : Nat
  nsid : Nat
  lba : Nat
  deriving DecidableEq, Repr

/-- One copy of a peer window's fields (06 R200). -/
structure PwinRegs where
  /-- EN. 1 bit. Reset 0. -/
  en : Bool := false
  /-- RD. 1 bit. Reset 0. -/
  rd : Bool := false
  /-- WR. 1 bit. Reset 0. -/
  wr : Bool := false
  /-- RID. 16 bits. Reset 0. -/
  rid : BitVec 16 := 0
  /-- RID_MASK. 16 bits. Reset 0xFFFF. -/
  mask : BitVec 16 := 0xFFFF
  /-- WBASE. Reset 0. -/
  wbase : Nat := 0
  /-- WSIZE. Reset 0. -/
  wsize : Nat := 0
  /-- TBASE. Reset 0. -/
  tbase : Nat := 0
  deriving DecidableEq, Repr

/-- A peer window (06 R200 to R203). -/
structure Pwin where
  /-- The staged fields, as written. 06 R200. Reset as R200. -/
  staged : PwinRegs := {}
  /-- The active fields. 06 R203. Reset as R200. -/
  active : PwinRegs := {}
  /-- PENDING. 1 bit. 06 R200. Reset 0. -/
  pending : Bool := false
  /-- VIOL. 1 bit. 06 R200. Reset 0. -/
  viol : Bool := false
  /-- VIOL_CNT. 06 R200. Reset 0. -/
  violCnt : Nat := 0
  /-- VRID. 16 bits. 06 R200. Reset 0. -/
  vrid : BitVec 16 := 0
  deriving DecidableEq, Repr

/-- A shutdown or controller-wide value of an NVMe controller (03 R86, 04 R101, 05, 06 R198). -/
structure Ctl where
  /-- CC.EN. 1 bit. 02 R55. Reset 0. -/
  ccEn : Bool := false
  /-- CC.MPS: memory page size 2^(12 + MPS). 4 bits. 04 R101, R115. Reset 0. -/
  mps : Nat := 0
  /-- CC.AMS. 3 bits. 04 R112. Reset 0. -/
  ams : Nat := 0
  /-- CC.CSS, SHN, IOSQES and IOCQES as host software wrote them. 32 bits, in place. PRESUMED (NVMe), log 57. Reset 0. -/
  ccRest : BitVec 32 := 0
  /-- AQA, ASQ and ACQ as host software wrote them. 32, 64 and 64 bits. 03 R86 (NVMe's registers). Reset 0, PRESUMED (NVMe), log 65. -/
  aqa : BitVec 32 := 0
  asq : BitVec 64 := 0
  acq : BitVec 64 := 0
  /-- Queue of each priority class that fetched last. 04 R112. Reset none. -/
  arbLast : Tbl Nat Nat := []
  /-- Commands that each weighted class may still fetch in this round. 04 R112. Reset none, a new round. -/
  arbCredit : Tbl Nat Nat := []
  /-- Decks and JSEQ of DATA records that were sent for commands which a reset or a halt has discarded. 04 R136, 09 R264. Reset none. -/
  dropped : List (Nat × Nat) := []
  /-- CSTS.RDY. 1 bit. 02 R55. Reset 0. -/
  rdy : Bool := false
  /-- CSTS.SHST. 2 bits. 02 R64. Reset 0. -/
  shst : Nat := 0
  /-- CSTS.CFS. 1 bit. 15 R431. Reset 0. -/
  cfs : Bool := false
  /-- CSTS.PP. 1 bit. 04 R138. Reset 0. -/
  pp : Bool := false
  /-- Submission queues, the admin queue first. 04 R101. Reset none. -/
  sqs : List Sq := []
  /-- Completion queues. 04 R101. Reset none. -/
  cqs : List Cq := []
  /-- Asynchronous Event Requests outstanding: command identifiers, at most 8. 05 R150. Reset none. -/
  aers : List Nat := []
  /-- Asynchronous events waiting for a request. 02 R50. Reset none. -/
  aens : List Aen := []
  /-- Event types reported whose log page has not been read since. PRESUMED (NVMe), log 6. Reset none. -/
  aenMasked : List Nat := []
  /-- GEN of log 0xC2. 32 bits. 04 R129. Reset 0. -/
  haltGen : Nat := 0
  /-- Error Information log, newest first, at most 256. 05 R153. Reset empty. -/
  errLog : List ErrEntry := []
  /-- Error count. 05 R153. Reset 0. -/
  errCount : Nat := 0
  /-- Changed Namespace List. 05 R153. Reset empty. -/
  changedNs : List Nat := []
  /-- Change count of the ANA log. 05 R149. Reset 0. -/
  anaCount : Nat := 0
  /-- Current values of the standard features that were set, by FID. 32 bits each. 05 R154. Reset none: each reads its saved or default value. -/
  feats : Tbl Nat (BitVec 32) := []
  /-- Saved values of the standard features, kept in boot flash. 05 R154. Reset DESIGN CHOICE none, log 4. -/
  featsSaved : Tbl Nat (BitVec 32) := []
  /-- Interrupt Vector Configuration: vectors with coalescing disabled. 03 R92. Reset none. -/
  noCoalesce : List Nat := []
  /-- Completions aggregated per vector and not yet signalled. 03 R92. Reset none. -/
  aggregated : Tbl Nat Nat := []
  /-- APST table entries as set: target state and idle time in ms, by power state. 05 R164. Reset empty. -/
  apst : Tbl Nat (Nat × Nat) := []
  /-- Saved APST table, kept in boot flash. 05 R154. Reset DESIGN CHOICE empty, log 4. -/
  apstSaved : Tbl Nat (Nat × Nat) := []
  /-- CMBMSC CRE. 1 bit. 06 R198. Reset 0. -/
  cre : Bool := false
  /-- CMBMSC CMSE. 1 bit. 06 R198. Reset 0. -/
  cmse : Bool := false
  /-- CMBMSC CBA. 52 bits. 06 R198. Reset 0. -/
  cba : Nat := 0
  /-- CMBSTS CBAI. 1 bit. 06 R198. Reset 0. -/
  cbai : Bool := false
  /-- PWIN0 to PWIN15. 16 × 32 bytes. 06 R200. Reset as R200; a window not listed holds it. -/
  pwins : Tbl Nat Pwin := []
  /-- Inbound BAR2 TLPs held while an APPLY is pending, oldest first: write or read. 06 R203. Reset none. -/
  held : List (Bool × Bar2Tlp) := []
  /-- Inbound BAR2 TLPs decoded and not retired, oldest first: a write whose set has no frame to give, and those behind it. 06 R175, R203.
  Reset none. -/
  stalled : List (Bool × Bar2Tlp) := []
  /-- What the controller itself has written to its buffer and no frame holds yet, oldest first: offset and bytes (completion entries, and data of admin
  commands). 06 R197. Reset none. -/
  late : List (Nat × Bytes) := []
  /-- Queue-related: NVMe-MI response waiting for NVMe-MI Receive. 05 R156. Reset none. -/
  miResponse : Option Bytes := none
  deriving DecidableEq, Repr

/-- How an inbound or configuration request is completed on a link. -/
inductive CplStatus where
  | success
  | unsupportedRequest
  | completerAbort
  | requestRetry
  /-- A completion with the poisoned bit; its data have no use (03 R96; 06 R178). -/
  | poisoned
  deriving DecidableEq, Repr

/-- A stream of a parity block (01 R35; 08 R241, R247; 09 R255): MSYN; its operands in order, as chunk, OP, COEF_A and COEF_B, each fed from the stream
buffer of the region; and the chunk that each of the lines 0, 1 and 2 gives, none for a line that is discarded. -/
structure ParityStream where
  msyn : Nat
  ops : List (Nat × Nat × Byte × Byte)
  lines : List (Option Nat)
  deriving DecidableEq, Repr

/-- What leaves the block. Each constructor says what the outside sees; it is the model's own record. -/
inductive Out where
  /-- A completion queue entry written at `slot` of a completion queue (04 R108, R120), without Relaxed Ordering and IDO (03 R76). -/
  | cqe (ctl cqid slot : Nat) (phase : Bool) (sqid sqhd cid status dw0 : Nat)
  /-- Data written to a command's host buffer (04 R118, R132), with poisoned sectors never among them: the Relaxed Ordering attribute, and the
  largest payload of the writes (03 R75, R76). IDO is never set. -/
  | hostData (ref : CmdRef) (data : Bytes) (relaxed : Bool) (payload : Nat)
  /-- Reads of host memory for a function (03 R75). -/
  | hostRead (fn : Nat) (reqs : List HostReq)
  /-- An MSI-X message: its vector, address and data, without Relaxed Ordering and IDO (03 R76, R90). -/
  | msix (ctl vec : Nat) (addr : BitVec 64) (data : BitVec 32)
  /-- The INTA wire's level (03 R91). -/
  | intx (fn : Nat) (level : Bool)
  /-- Completion of a host request, with its data (03 R79, R88, R96). -/
  | cpl (fn : Nat) (status : CplStatus) (data : Bytes)
  /-- An error message or AER report to the root port (03 R96): fatal, non-fatal or correctable. -/
  | aer (fn : Nat) (severity : Nat)
  /-- An LTR message, in µs (03 R95). -/
  | ltr (port us : Nat)
  /-- A DOE data object: its type and content (03 R99). -/
  | doe (fn kind : Nat) (data : Bytes)
  /-- An NVMe-MI response: status and data (05 R156). -/
  | mi (sideband : Bool) (status : Nat) (data : Bytes)
  /-- A flit forwarded unchanged by a parity block, with its 16-byte tag (01 R32, R33). -/
  | flit (region block : Nat) (tag : BitVec 128) (data : Bytes)
  /-- The issuing management core issues a whole stream again, from its first operand, to this block (01 R30, R36). -/
  | reissue (region block stream : Nat)
  /-- A fabric broadcast from a region to every live region, by way of the hub (01 R25). -/
  | broadcast (origin : Nat) (regions : List Nat)
  /-- A member I/O command as issued: the issuing region, slot, port and opcode (01 R38, R40). -/
  | memberIssue (region slot port opcode : Nat)
  /-- Result flits of a parity stream: region, block, stream, offset and the P, Q and T lines (01 R35). -/
  | parity (region block stream foff : Nat) (p q t : Bytes)
  /-- The streams that a block row of a hand runs as (08 R241, R247; 09 R255): deck, hand, row, and the streams in order. -/
  | parityStreams (deck hand row : Nat) (streams : List ParityStream)
  /-- The flag flit of a check stream (01 R35). -/
  | checkFlag (region block stream foff : Nat) (allZero : Bool)
  /-- A write of a block to a member at a member byte offset, with its tag when the member is tagged (07 R230, 09 R265). -/
  | memberWrite (slot offset : Nat) (data : Bytes) (tag : Option ChunkTag)
  /-- A write of a block of a journal ring or of a journal header, with FUA = 1 (07 R228, R229; 09 R253). -/
  | journalWrite (slot offset : Nat) (data : Bytes) (tag : Option ChunkTag)
  /-- A read of a block range from a member (10 R278). -/
  | memberRead (slot offset len : Nat)
  /-- Dataset Management deallocate to a member, of byte ranges (offset, length) (05 R157, R158; 07 R209, R211). -/
  | memberDealloc (slot : Nat) (ranges : List (Nat × Nat))
  /-- Writes of a 32-bit pattern over a byte range of a member (05 R157, R158). -/
  | memberFill (slot offset len : Nat) (pattern : BitVec 32)
  /-- A Set Features to a member (05 R161). -/
  | memberFeature (slot fid value : Nat)
  /-- A Flush, Deallocate, Write Zeroes, Sanitize, Abort or other command to a member port: opcode and argument (12). -/
  | memberCmd (slot port opcode arg : Nat)
  /-- A member I/O command in a port's queue: tag, opcode, transfer length, PRP1 and PRP2 (12 R338, R340). -/
  | memberIo (slot port tag opcode len prp1 prp2 : Nat)
  /-- A port is connected: its region and root port, its first lane and number of lanes, and the address that BAR0 is given in the region's private
  outbound space (12 R333, R336 step 1). -/
  | memberTrain (slot port region root lane lanes bar : Nat)
  /-- An entry of a port's MSI-X table: vector and message address (12 R336 step 2, R339). -/
  | memberMsix (slot port vector addr : Nat)
  /-- Bring-up of a port in configuration space: the Max_Payload_Size and Max_Read_Request_Size set; Bus Master, MSI-X and AER are enabled and
  INTx is disabled (12 R336 step 2). -/
  | memberSetup (slot port mps mrrs : Nat)
  /-- A write of a controller register of a port: BAR0 offset and value (12 R336 step 3). -/
  | memberReg (slot port offset value : Nat)
  /-- An admin command of the bring-up of a port: opcode, CDW10 and CDW11 (12 R336 steps 4 and 5). -/
  | memberAdmin (slot port opcode cdw10 cdw11 : Nat)
  /-- A completion of an inbound member TLP (12 R341, R342). -/
  | memberCpl (slot port : Nat) (status : CplStatus) (data : Bytes)
  /-- A logical page of a vault image as programmed: area, LPAGE, ciphertext and its 64 bytes of metadata (14 R413, R416). -/
  | vaultPage (area lpage channel : Nat) (data spare : Bytes)
  /-- The xor parity page of a stripe of an image: area, stripe, channel and content (14 R413). -/
  | vaultParity (area stripe channel : Nat) (data : Bytes)
  /-- A vault superblock as written: SEQ_RESERVED and the bad-block table (14 R414, R416). -/
  | superblock (seqReserved : Nat) (bad : List Nat)
  /-- A stop record copy as programmed in its system block (02 R59, R60; 14 R414). -/
  | stopRecord (copy : Nat) (data : Bytes)
  /-- A learned slot of the gauge as written (14 R403). -/
  | learnedSlot (slot : Nat) (data : Bytes)
  /-- A vault patrol page as programmed (10 R303). -/
  | patrolPage (data : Bytes)
  /-- An image header as programmed in its area's header block (14 R417). -/
  | vaultHeader (area : Nat) (data : Bytes)
  /-- A pin or rail output that pulses or changes: name and level (19 R518). -/
  | pin (name : String) (level : Bool)
  /-- An AVSBus voltage written: rail and mV (13 R366). -/
  | avs (rail mv : Nat)
  /-- An AVSBus Vout transition rate written: rail and mV/µs (13 R366). -/
  | avsRate (rail mvPerUs : Nat)
  /-- A rail's target voltage, current and status read on AVSBus (13 R366, R367). -/
  | avsRead (rail : Nat)
  deriving DecidableEq, Repr

end Sys2Proof.Machine
end

