-- ==== Sys2Proof/Machine/UnitsCache.lean ====
section
/-!
DEFINITION. The protected cache: directory, cache memory, epochs, dirty limit, policy and memory channels.
Each field's default is its value in `State.reset`.
-/

namespace Sys2Proof.Machine

/-- State of a directory entry that is not FREE (06 R174). -/
inductive PState where
  | clean
  | fill
  | staged
  | dirty
  | dirtyJ
  | destaging
  | superseded
  | destagingJ
  | mirror
  | cmb
  | cmbMirror
  | retired
  deriving DecidableEq, Repr

/-- A directory entry that is not FREE, with the region and frame whose entry it is (06 R173). `keyNs` is the name space of
the page's key (R172): NSIDM1, or 0x400 + controller ID − 1 for the Controller Memory Buffer. -/
structure DirEntry where
  region : Nat
  frame : Nat
  state : PState
  keyNs : Nat
  vpage : Nat
  valid : BitVec 8
  zero : BitVec 8
  poison : BitVec 8
  linkRegion : Nat
  linkWay : Nat
  wseq : Nat
  stageRef : Option CmdRef
  hot : Nat
  /-- Order in which the version was switched in, for R177's newest first; 0 while STAGED. -/
  ver : Nat
  /-- Epoch in which it was superseded (06 R183). -/
  epoch : Nat
  /-- The version must still be merged with older ones (06 R182). -/
  merging : Bool
  /-- Model time since when the page is dirty (06 R190, R191). -/
  since : Nat := 0
  deriving DecidableEq, Repr

/-- A memory channel (06 R165 to R171; 15 R426 to R437). -/
structure Channel where
  /-- Training, or self-refresh exit, has succeeded since the last device reset. 1 bit. 02 R53. Reset 0. -/
  trained : Bool := false
  /-- Density that training has read from its devices: 2.25 Gb. 1 bit. 06 R165. Reset DESIGN CHOICE 0, log 4. -/
  half : Bool := false
  /-- CH_FAILED. 1 bit. 15 R436. Reset 0. -/
  failed : Bool := false
  /-- 1 training, 2 banks, 3 devices (event 0x8007). 15 R436. Reset 0. -/
  failReason : Nat := 0
  /-- In self-refresh. 1 bit. 02 R52, 13 R382. Reset 0. -/
  selfRefresh : Bool := false
  /-- Devices marked failed. 6 × 1 bit. 15 R428. Reset none. -/
  marks : List Nat := []
  /-- CE-DEV decodes of the last 24 h for the mark rule: device, frame and model time, newest first. 15 R428. Reset none. -/
  ceDev : List (Nat × Nat × Nat) := []
  /-- CE_SYM, CE_DEV and UE of the log's channel record. 32 bits each. 15 R441. Reset 0. -/
  ceSym : Nat := 0
  ceDevCount : Nat := 0
  ue : Nat := 0
  /-- MARK_TIME. 64 bits. 15 R441. Reset 0. -/
  markTime : BitVec 64 := 0
  deriving DecidableEq, Repr

/-- The protected cache as a whole (06). -/
structure Cache where
  /-- Regions fenced. 4 × 1 bit. 01 R31, 18 R511. Reset none. -/
  fenced : List Nat := []
  /-- Density read from CH0: 2.25 Gb devices. 1 bit. 06 R165, R168. Reset DESIGN CHOICE 0, log 4: 4.5 Gb until training reads it. -/
  halfDensity : Bool := false
  /-- Directory entries that are not FREE. 4 × 1,048,576 × 16 bytes. 06 R173, R176. Reset none: every entry FREE. -/
  dir : List DirEntry := []
  /-- Cache memory content: address (region × 2^20 + frame) × 4,096 + byte. 06 R168. Reset nothing listed; an unlisted byte reads 0, DESIGN CHOICE, log 2. -/
  dram : List Host.Cell := []
  /-- WSEQ counter of each region. 4 × 16 bits. 06 R173. Reset DESIGN CHOICE 0, log 4. -/
  wseqCtr : Tbl Nat Nat := []
  /-- Next version number, the model's own order of switches. 06 R177. Reset 1. -/
  nextVer : Nat := 1
  /-- Writes that have taken their frames: the model's own order of them. 09 R270. Reset 0. -/
  stagedCount : Nat := 0
  /-- Current epoch of each region; the previous one is one less. 06 R183. Reset 1. -/
  epochs : Tbl Nat Nat := []
  /-- The cache runs write-through. 1 bit. 06 R192. Reset DESIGN CHOICE 1, log 4: hold-up is not ready before the first evaluation. -/
  writeThrough : Bool := true
  /-- Stop record with WRITE_THROUGH set still to be written when D reaches 0. 1 bit. 06 R194. Reset 0. -/
  wtRecordDue : Bool := false
  /-- L, the dirty limit in force, in pages, as of the last evaluation. 32 bits. 06 R188. Reset DESIGN CHOICE 0, log 4. -/
  limit : Nat := 0
  /-- Destage level reported. 3 bits. 06 R190. Reset DESIGN CHOICE 0, log 4. -/
  level : Nat := 0
  /-- A CMB setting was refused, so destage runs at level 4. 1 bit. 06 R198. Reset 0. -/
  cmbRefused : Bool := false
  /-- Model time of the last event 0x2003 of each region and set. 06 R189. Reset none. -/
  waitNoted : Tbl (Nat × Nat) Nat := []
  /-- Fills in progress: key name space and page. 06 R178. Reset none. -/
  fills : List (Nat × Nat) := []
  /-- Memory channels CH0 to CH7. 06 R165. Reset: none trained; a channel not listed holds it. -/
  channels : Tbl Nat Channel := []
  /-- Fenced regions whose re-mirroring has not ended. 06 R185. Reset none. -/
  remirroring : List Nat := []
  /-- Frames that retire later: of CMB pages once the buffer is disabled, of others once destage makes room. 06 R196. Reset none. -/
  retireLater : List (Nat × Nat) := []
  deriving DecidableEq, Repr

/-- One page of a read in progress (06 R177, R178). -/
structure ReadPage where
  vpage : Nat
  /-- Sectors the command wants, those that still come from members, and those poisoned. -/
  want : BitVec 8
  missing : BitVec 8
  poison : BitVec 8
  data : Bytes
  deriving DecidableEq, Repr

/-- A read, compare or verify that waits for member data (06 R177, R178). -/
structure ReadJob where
  ref : CmdRef
  keyNs : Nat
  pages : List ReadPage
  /-- Byte offset of the first data byte, and the data length; the same for the metadata. -/
  from_ : Nat
  len : Nat
  mdFrom : Nat
  mdLen : Nat
  /-- Host data and metadata to compare with (Compare), none for Read and Verify. -/
  compare : Option (Bytes × Bytes)
  /-- Data goes to the host (Read). -/
  toHost : Bool
  /-- The checks of the stored protection information that the command selects, and its blocks (15 R433). -/
  pi : PiArgs := {}
  blocks : Nat := 0
  pract : Bool
  /-- Pieces of host memory that its data go to: address, none for a bit bucket, and length (04 R116). -/
  pieces : List (Option Nat × Nat) := []
  deriving DecidableEq, Repr

end Sys2Proof.Machine
end

