-- ==== Sys2Proof/Machine/UnitsDeck.lean ====
section
/-!
DEFINITION. Decks, volumes, the stripe journal, keepers, hand updates, stripe locks, rebuild, patrol and redeal.
Each field's default is its value in `State.reset`.
-/

namespace Sys2Proof.Machine

/-- Kind of a hand update (09 R254, R262). -/
inductive UpdKind where
  | full
  | rmw
  | rcw
  deriving DecidableEq, Repr

/-- An intent entry (09 R262). `made` says that step 4 has filled it, `jseq` which INTENT record carries it once its batch closes. -/
structure Intent where
  wseq : Nat
  hand : Nat
  kind : UpdKind
  blkFirst : Nat
  blkLast : Nat
  dmask : Nat
  pmask : Nat
  degraded : Bool
  dataJ : Bool
  mmask : Nat
  reconJseq : Nat
  jseq : Option Nat
  durable : Bool
  /-- The entry belongs to the new layout of a redeal (11 R321). -/
  newGen : Bool
  deriving DecidableEq, Repr

/-- A page in a DATA record (09 R263). `ver` is the version that its command switched in, 0 before its commit. -/
structure JPage where
  vpage : Nat
  valid : BitVec 8
  zero : BitVec 8
  poison : BitVec 8
  data : Bytes
  ver : Nat
  deriving DecidableEq, Repr

/-- Operation of a PROGRESS record, with its body (09 R264; 10 R292, R299, R304; 11 R330). -/
inductive Progress where
  /-- REBUILD: LABEL_SEQ, segments as (START, DONE), CUR_SEG (0xFF none) and CURSOR. -/
  | rebuild (labelSeq : Nat) (segs : List (Nat × Nat)) (curSeg cursor : Nat)
  | copyback (member slot watermark : Nat) (started : BitVec 64)
  | redeal (phase nsid vhand done : Nat) (started : BitVec 64)
  | resync (watermark : Nat) (started : BitVec 64)
  | patrol (cursor passCount flags : Nat) (passStart : BitVec 64) (findings : Nat)
  deriving DecidableEq, Repr

/-- What a journal record holds (09 R261 to R264). -/
inductive JBody where
  | intent (entries : List Intent)
  /-- CNTLID, SQID, NSID, RECON, pages. -/
  | data (cntlid sqid nsid : Nat) (recon : Bool) (pages : List JPage)
  | trim (entries : Bool) (values : List Nat)
  | progress (p : Progress)
  | replicaEnd
  deriving DecidableEq, Repr

/-- A journal record as it stands in a ring or in the cache copy (09 R261). `blocks` is its size in ring blocks. -/
structure JRec where
  jseq : Nat
  gen : Nat
  body : JBody
  blocks : Nat
  deriving DecidableEq, Repr

/-- A keeper's journal ring as it stands on its member (07 R228, 09 R266, R269). -/
structure Ring where
  member : Nat
  /-- ROLE 0x01. -/
  keeper : Bool
  /-- REPLICA_COMPLETE. -/
  complete : Bool
  epoch : Nat
  hdrSeq : Nat
  headBlock : Nat
  tailBlock : Nat
  headRseq : Nat
  /-- Moves of the head since the last header write. -/
  moved : Nat
  /-- The ring block of each record, with the record, in ring order. -/
  recs : List JRec
  /-- The header with ROLE 0x00 is still to be written: the member could not be reached when it ceased to be a keeper. -/
  headerDue : Bool := false
  deriving DecidableEq, Repr

/-- A block write to a member that waits for the member to be reachable again (12 R347). -/
structure WaitWrite where
  slot : Nat
  chunk : Nat
  offset : Nat
  data : Bytes
  tag : Option ChunkTag
  deriving DecidableEq, Repr

/-- Mode of a stripe lock request (09 R258). -/
inductive LockMode where
  | shared
  | exclusive
  deriving DecidableEq, Repr

/-- The operation that asks for a stripe lock (09 R258); a decode is told apart by its page, a repair by its row. -/
inductive LockUser where
  | update
  | decode (keyNs vpage : Nat)
  | check
  | repair (row : Nat)
  | overflow (row : Nat)
  | resync
  | rebuild
  | copyback
  | redeal
  | scan
  deriving DecidableEq, Repr

/-- A request for the stripe lock of a hand: its key, mode and operation (09 R257, R258). -/
structure LockReq where
  key : Nat
  mode : LockMode
  user : LockUser
  deriving DecidableEq, Repr

/-- A hand update under write-through whose reconstruction pages wait for their DATA record to be durable (09 R256, R265 step 3). -/
structure HandStart where
  hand : Nat
  nsid : Nat
  kind : UpdKind
  dataJ : Bool
  /-- Changed blocks, as in the update. -/
  changed : List (Nat × Nat × Nat × Nat)
  /-- JSEQ of the record, and its pages with their data. -/
  jseq : Nat
  pages : List (Nat × Bytes)
  deriving DecidableEq, Repr

/-- A hand update in flight (09 R265; 11 R321). -/
structure HandUpd where
  /-- Deck hand, or hand of the new layout for a second update. -/
  hand : Nat
  wseq : Nat
  kind : UpdKind
  /-- Block rows written. -/
  blkFirst : Nat
  blkLast : Nat
  /-- Changed blocks: row, data chunk, volume page, and version taken. -/
  changed : List (Nat × Nat × Nat × Nat)
  /-- Volume that owns the hand. -/
  nsid : Nat
  /-- The member writes have been issued; those that wait for a member. -/
  issued : Bool
  todo : List WaitWrite
  /-- Every member write has completed, and the lock is released; every member write is durable. -/
  complete : Bool
  durable : Bool
  /-- The second update of a dual write, to the new layout, with the WSEQ of the first (11 R321); new hands still to be updated. -/
  second : Bool
  parent : Nat
  dual : List Nat
  /-- JSEQ of its RECON record, 0 when none; volume pages that the reconstruction installed. -/
  reconJseq : Nat
  recon : List Nat
  /-- WSEQ of the intent that covers rows of the update which have lost more than m blocks (10 R282). -/
  overflow : Option Nat := none
  deriving DecidableEq, Repr

/-- An entry of the bad-block list of a volume: BASE, a multiple of 64, and PAGE_MAP, bit j for page BASE + j (10 R284). -/
structure BadEntry where
  base : Nat
  map : Nat
  deriving DecidableEq, Repr

/-- A volume: record of the volume table (05 R140 to R147, R157; 07 R226; 10 R284). -/
structure Volume where
  nsid : Nat
  deckId : Nat
  lbaf : Nat
  /-- FLBAS bit 4: metadata is extended (05 R146). -/
  extended : Bool
  deckGen : Nat
  nsze : Nat
  handsAlloc : Nat
  crypt : Nat
  /-- Extents (VOL_HAND, DECK_HAND, COUNT) in rising order of VOL_HAND. -/
  extents : List (Nat × Nat × Nat)
  dps : Nat
  /-- VSTATE: 1 ACTIVE, 2 FORMATTING, 3 SANITIZING. -/
  vstate : Nat
  /-- Key number: the random key drawn, as the free value it is; wrapped on the members. -/
  key : Nat
  recSeq : Nat
  bad : List BadEntry
  /-- OVERFLOW and WRITE_LOCK of R284, R287. -/
  overflow : Bool
  writeLock : Bool
  /-- Every block deallocated since the format (R157): pages deallocated on the members. -/
  attached : List Nat
  /-- Percent remaining of a format in progress. -/
  formatLeft : Option Nat
  deriving DecidableEq, Repr

/-- A patrol finding: a finding record (10 R308). `vpage` is 0 when no data block is named. -/
structure Finding where
  time : BitVec 64
  hand : Nat
  deckId : Nat
  chunk : Nat
  block : Nat
  member : Nat
  finding : Nat
  action : Nat
  tagged : Bool
  fromHost : Bool
  nsid : Nat
  vpage : Nat
  deriving DecidableEq, Repr

/-- Patrol position of a deck (10 R302 to R304). -/
structure Patrol where
  /-- CURSOR: next hand. 40 bits. 10 R304. -/
  cursor : Nat := 0
  /-- Block row of the cursor's hand that is checked next: the model's own split of the cursor. 10 R301. -/
  row : Nat := 0
  /-- Rows whose first check asks for a repair: hand, row, and the findings (code, chunk) it would record. 10 R305. -/
  suspects : List (Nat × Nat × List (Nat × Nat)) := []
  /-- PASS_COUNT. 32 bits. 10 R304. -/
  passCount : Nat := 0
  /-- A pass has been begun whose label and table copies are still to be read. 10 R301. -/
  copiesDue : Bool := false
  /-- IN_PASS: a pass is running. 1 bit. 10 R304. -/
  running : Bool := false
  /-- PAUSED flag. 10 R307. -/
  paused : Bool := false
  /-- REPAIR_OFF flag. 10 R307. -/
  repairOff : Bool := false
  /-- PASS_START. 64 bits. 10 R304. -/
  passStart : BitVec 64 := 0
  /-- Findings in the pass. 10 R304. -/
  findings : Nat := 0
  deriving DecidableEq, Repr

/-- Redeal at work beside the label's REDEAL field (11 R317 to R330). -/
structure RedealRun where
  /-- Copy position: volume and new volume hand of the first hand not yet copied; none once every hand is copied. 11 R319. -/
  position : Option (Nat × Nat)
  /-- Hands copied beyond the position: (NSID, new volume hand). 11 R319. -/
  copied : List (Nat × Nat)
  /-- Hands copied in all. 11 R330. -/
  handsDone : Nat
  /-- Volume extents in the new layout, by NSID: (VOL_HAND, DECK_HAND, COUNT). 11 R315. -/
  newExtents : Tbl Nat (List (Nat × Nat × Nat))
  /-- The switch is draining: no new hand update of the deck starts. 11 R324. -/
  draining : Bool
  /-- After the switch: byte ranges of the hand area, from DATA_START, that no allocation uses yet, and how many rounds they were. 11 R324. -/
  oldBytes : List (Nat × Nat)
  oldRounds : Nat
  /-- Model times of the copies of the last 10 s, newest first. 11 R331. -/
  copyAt : List Nat
  /-- After the switch: the member reads issued before it that have not ended, as slot, port and tag. 11 R324. -/
  oldReads : List (Nat × Nat × Nat) := []
  /-- The copy resumes at the next entry to service: false from its record, true from the first new hand. 11 R328. -/
  resumes : Option Bool := none
  deriving DecidableEq, Repr

/-- What a Format or a Sanitize has still to do on a member that could not be reached (05 R157, R158): byte ranges to overwrite with zeros, byte
ranges to deallocate, and whether its volume table and its journal area are rewritten. -/
structure DueWipe where
  member : Nat
  fill : List (Nat × Nat)
  dealloc : List (Nat × Nat)
  rewrite : Bool
  deriving DecidableEq, Repr

/-- A deck as the controller holds it (07, 09, 10, 11). -/
structure Deck where
  /-- The deck's label (07 R219). -/
  label : DeckLabel
  /-- PENDING_MEMBERS (02 R57). -/
  pending : Bool
  /-- WSEQ: next write sequence number. 64 bits. 09 R252. -/
  wseq : Nat
  /-- JSEQ of the next record. 64 bits. 09 R260. -/
  jseq : Nat
  /-- TABLE_SEQ of the volume table. 64 bits. 07 R226. -/
  tableSeq : Nat
  /-- Deleted NSIDs, with the TABLE_SEQ of the update that deleted them: a copy written before still holds their records. 07 R227. -/
  gone : List (Nat × Nat)
  /-- TABLE_SEQ that copies A and B of each member hold, by member index. 07 R227. -/
  tables : List (Nat × Nat × Nat)
  /-- Live records of the authoritative journal in the cache, rising JSEQ. 09 R259. -/
  journal : List JRec
  /-- Intent entries reserved and not released. 09 R259, R262. -/
  intents : List Intent
  /-- WSEQ of the intents in the open batch, oldest first. 09 R261. -/
  batch : List Nat
  /-- Released JSEQ values, and released WSEQ values, in the open TRIM batches. 09 R264. -/
  trimJ : List Nat
  trimW : List Nat
  /-- TRIM records that name JSEQ values and have not completed on every keeper: JSEQ of the record, and the values. 09 R264. -/
  trims : List (Nat × List Nat) := []
  /-- Rings of the members that are or were keepers. 07 R228, 09 R266. -/
  rings : List Ring
  /-- Hand updates in flight. 09 R265. -/
  updates : List HandUpd
  /-- Stripe locks held: hand and mode. 09 R257, R258. -/
  locks : List (Nat × LockMode)
  /-- Requests that wait for a lock, in arrival order, and those that hold one which was kept or granted for their operation. 09 R257, R258. -/
  lockQueue : List LockReq := []
  granted : List LockReq := []
  /-- Hands whose update waits for a free journal index entry. 09 R259. -/
  entryWait : List Nat := []
  /-- Updates that wait for their RECON record. 09 R265. -/
  starting : List HandStart := []
  /-- Deallocation and erasure that wait for a member to return. 05 R157, R158. -/
  due : List DueWipe := []
  /-- Live intents of the journal source still to be replayed. 09 R272. -/
  replay : List Intent
  /-- Resync watermark, and STARTED; none when no resync runs. 09 R274. -/
  resync : Option (Nat × BitVec 64)
  /-- A resync begins once the vault records have been replayed. 09 R271. -/
  resyncDue : Bool := false
  /-- Hands at or above the watermark that have been resynced for a read. 09 R275. -/
  resynced : List Nat := []
  /-- Blocks whose read for a miss or an update brought poison: hand, row and chunk. 12 R341. -/
  lostReads : List (Nat × Nat × Nat) := []
  /-- STARTED of the copy-back in progress. 10 R299. -/
  copyStarted : BitVec 64
  /-- Rebuild segments: (START, DONE) rounds, with the segment and cursor at work. 10 R291, R292. -/
  segs : List (Nat × Nat)
  curSeg : Nat
  cursor : Nat
  /-- Hands not yet passed by a sweep in which the chunk that a fail list entry moves is rebuilt already: (hand, entry). 10 R290. -/
  rebuilt : List (Nat × Nat)
  /-- Slot recorded as the replacement for the last entry until that entry is REBUILT. 10 R295. -/
  replaceSlot : Option Nat
  /-- Rebuild Control HOLD. 1 bit. 10 R295. -/
  hold : Bool
  /-- Patrol position. 10 R304. -/
  patrol : Patrol
  /-- Redeal at work. 11 R320. -/
  redeal : Option RedealRun
  /-- Failure scan still to run: a member has been declared failed and EXPOSURE exceeds m in some row. 10 R283. -/
  scanDue : Bool
  /-- EXPOSURE as last evaluated. 8 bits. 10 R277. -/
  exposure : Nat
  /-- What the deck's state makes of its ANA group, as last reported: 0 none, 1 Inaccessible, 2 Persistent Loss. 05 R148, R149. -/
  anaSeen : Nat := 0
  /-- Acknowledged data of the deck may be missing: it is offline in QUARANTINE. 02 R68. -/
  dataLost : Bool
  deriving DecidableEq, Repr

/-- An importable forerunner deck that BOOT reports (07 R234). -/
structure Importable where
  deckId : Nat
  label : ForeLabel
  slots : List Nat
  deriving DecidableEq, Repr

/-- A redeal's end as log 0xC8 records it (11 R331). -/
structure RedealLog where
  status : Nat
  reason : Nat
  oldGen : Nat
  newGen : Nat
  newShape : Shape
  handsTotal : Nat
  handsDone : Nat
  started : BitVec 64
  ended : BitVec 64
  deriving DecidableEq, Repr

/-- A Format or Sanitize in progress (05 R157 to R160). -/
structure WipeJob where
  /-- 1 Format, 2 crypto erase, 3 block erase, 4 overwrite. -/
  kind : Nat
  nsids : List Nat
  /-- Work done, in units of 1/65,536. -/
  done : Nat
  ses : Nat
  pattern : BitVec 32
  owpass : Nat
  invert : Bool
  ref : Option CmdRef
  deriving DecidableEq, Repr

/-- All decks and volumes, and what is common to them. -/
structure Decks where
  /-- Decks present, by DECK_ID. 07 R219. Reset none: nothing fitted (DESIGN CHOICE, log 4). -/
  decks : Tbl Nat Deck := []
  /-- What the members of decks that are not present still hold: deck and volumes, as last seen. 07 R224, 12 R353. Reset none (DESIGN
  CHOICE, log 4). -/
  away : List (Deck × List Volume) := []
  /-- Forerunner decks that can be imported. 07 R234. Reset none. -/
  importable : List Importable := []
  /-- Volumes, by NSID. 05 R140. Reset none (DESIGN CHOICE, log 4). -/
  volumes : Tbl Nat Volume := []
  /-- GEN of the Deck Status log. 32 bits. 07 R232. Reset 0. -/
  statusGen : Nat := 0
  /-- Patrol Findings: GEN, entries (newest last, at most 1,024), total and dropped, all since the last cold start. 10 R308 (log 110). Reset 0, none. -/
  findGen : Nat := 0
  findings : List Finding := []
  findTotal : Nat := 0
  findDropped : Nat := 0
  /-- Redeal Progress log: GEN and the record of the last redeal of each deck. 11 R331. Reset 0, none. -/
  redealGen : Nat := 0
  redealLog : Tbl Nat RedealLog := []
  /-- Format or Sanitize in progress. 05 R159. Reset none. -/
  wipe : Option WipeJob := none
  /-- Progress record in boot flash, two copies. 05 R159, 16 R455. Reset none. -/
  wipeFlash : FlashPair WipeJob := {}
  /-- CDW10 of the last Sanitize, and the overwrite passes that it completed. 32 and 5 bits. 05 R153 (NVMe's log 0x81). Reset 0. -/
  lastSanitize : Nat := 0
  lastPasses : Nat := 0
  /-- SSTAT: 0 never sanitized, 1 success, 2 in progress, 3 failed. 3 bits. 05 R160. Reset DESIGN CHOICE 0, log 4. -/
  sstat : Nat := 0
  /-- A Sanitize has failed and volumes stay restricted. 1 bit. 05 R160. Reset DESIGN CHOICE 0, log 4. -/
  sanFailed : Bool := false
  /-- Patrol Rate: PASS_HOURS and PAUSE. 05 R155. Reset 168, not paused. -/
  passHours : Nat := 168
  patrolPause : Bool := false
  /-- The two copies of the vault patrol page, as programmed. 4 KiB each. 10 R303. Reset none written (DESIGN CHOICE, log 4). -/
  patrolA : Bytes := []
  patrolB : Bytes := []
  deriving DecidableEq, Repr

end Sys2Proof.Machine
end

