-- ==== Sys2Proof/Machine/Layout.lean ====
section
/-!
DEFINITION. Where a block lies: home regions of slots, the dealing of rounds, the place of each chunk under the fail list,
the map from a volume's blocks to hands, and the placement of cache pages.
-/

namespace Sys2Proof.Machine

/-! ## Slots and regions -/

/-- P, the number of slots, from MBR_CFG (12 R332): 0b00 is 64, 0b01 32, 0b10 16; the reserved value acts as 64. -/
def slotCount (cfg : BitVec 2) : Nat :=
  if cfg = 1 then 32 else if cfg = 2 then 16 else 64

/-- Home region of a slot, where port A attaches (00 R14). -/
def homeRegion (p slot : Nat) : Nat := (4 * slot) / p

/-- Partner region of a slot, where port B attaches (00 R14). -/
def partnerRegion (p slot : Nat) : Nat := (homeRegion p slot + 1) % 4

/-- Region of a port of a slot: port 0 is A, port 1 is B. -/
def portRegion (p slot port : Nat) : Nat :=
  if port = 0 then homeRegion p slot else partnerRegion p slot

/-- The port by which a region reaches a slot (01 R38): the one it attaches, otherwise the one whose region is its ring
neighbour. -/
def reachPort (p slot region : Nat) : Nat :=
  if homeRegion p slot = region then 0
  else if partnerRegion p slot = region then 1
  else if (homeRegion p slot + 1) % 4 = region ∨ (region + 1) % 4 = homeRegion p slot then 0
  else 1

/-! ## Dealing (07 R213 to R217) -/

/-- gamma of R213. -/
def gamma : BitVec 64 := 0x9E3779B97F4A7C15

/-- SplitMix64: the new state and the output (07 R213). -/
def splitmixNext (state : BitVec 64) : BitVec 64 × BitVec 64 :=
  let state := state + gamma
  let z := (state ^^^ (state >>> 30)) * 0xBF58476D1CE4E5B9
  let z := (z ^^^ (z >>> 27)) * 0x94D049BB133111EB
  (state, z ^^^ (z >>> 31))

/-- Exchange two places of an array held as a list. -/
def swapAt (a : List Nat) (i j : Nat) : List Nat :=
  (a.set i (a.getD j 0)).set j (a.getD i 0)

/-- The loop of `perm` for i = `i` down to 1 (07 R213): `left` draws remain in `v`. -/
def permLoop : Nat → BitVec 64 → BitVec 64 → Nat → List Nat → List Nat
  | 0, _, _, _, a => a
  | i + 1, state, v, left, a =>
    let (state, v, left) :=
      if left = 0 then
        let (state, v) := splitmixNext state
        (state, v, 8)
      else (state, v, left)
    let b := (v &&& 0xFF).toNat
    let j := (b * (i + 2)) / 256
    permLoop i state (v >>> 8) (left - 1) (swapAt a (i + 1) j)

/-- The permutation of round r: slot x lies on member `perm[x]` (07 R213). -/
def perm (sh : Shape) (r : Nat) : List Nat :=
  match sh.mode with
  | .rotate => (List.range sh.n).map fun x => (x + r) % sh.n
  | .shuffle =>
    permLoop (sh.n - 1) (sh.seed ^^^ (BitVec.ofNat 64 r * gamma)) 0 0 (List.range sh.n)

/-- w, the hand width (00 R11). -/
def widthOf (sh : Shape) : Nat := sh.k + sh.m

/-- u, hands per round (07 R205). -/
def handsPerRound (sh : Shape) : Nat := (sh.n - sh.s) / (widthOf sh)

/-- Chunk size C in bytes (07 R219). -/
def chunkBytes (sh : Shape) : Nat := 2 ^ sh.chunkShift

/-- Blocks per chunk. -/
def chunkBlocks (sh : Shape) : Nat := (chunkBytes sh) / 4096

/-- H, data bytes per hand (05 R142). -/
def handBytes (sh : Shape) : Nat := sh.k * (chunkBytes sh)

/-- State of the walk of `chunk_place` over the fail list. -/
structure Places where
  /-- Slot of each hand slot's chunk, none when no kitty slot was left, with the entry that moved it. -/
  loc : List (Option Nat × Option Nat)
  used : List Nat
  dead : List Nat

/-- One hand slot of the inner loop of R217 for entry `i` of member `mem`. -/
def placeSlot (a : List Nat) (hs n mem i : Nat) (acc : List (Option Nat × Option Nat) × List Nat) (dead : List Nat)
    (cur : Option Nat × Option Nat) : List (Option Nat × Option Nat) × List Nat :=
  match cur.1 with
  | none => (acc.1 ++ [cur], acc.2)
  | some l =>
    if a.getD l 0 = mem then
      match (List.range n).find? fun y => decide (hs ≤ y) && !acc.2.contains y && !dead.contains (a.getD y 0) with
      | some y => (acc.1 ++ [(some y, some i)], y :: acc.2)
      | none => (acc.1 ++ [(none, some i)], acc.2)
    else (acc.1 ++ [cur], acc.2)

/-- One fail list entry of R217. -/
def placeEntry (a : List Nat) (hs n r : Nat) (p : Places) (i : Nat) (e : FailEntry) : Places :=
  if e.fstate = .copyback ∧ r < e.watermark then p
  else
    let dead := e.member :: p.dead
    let res := p.loc.foldl (fun acc cur => placeSlot a hs n e.member i acc dead cur) ([], p.used)
    { loc := res.1, used := res.2, dead := dead }

/-- `chunk_place` of R217 for a whole round under a fail list: the place of every hand slot. -/
def placeRound (sh : Shape) (fl : List FailEntry) (r : Nat) : List (Option Nat × Option Nat) :=
  let a := perm sh r
  let hs := (handsPerRound sh) * (widthOf sh)
  let start : Places := { loc := (List.range hs).map fun x => (some x, none), used := [], dead := [] }
  ((List.range fl.length).foldl
    (fun p i => match fl[i]? with
      | some e => placeEntry a hs sh.n r p i e
      | none => p) start).loc

/-- Round and position of a hand (07 R214). -/
def handRound (sh : Shape) (hd : Nat) : Nat := hd / (handsPerRound sh)

/-- Slot of chunk `c` of hand `hd` in its round, and the entry that moved it (07 R217). -/
def chunkPlace (sh : Shape) (fl : List FailEntry) (hd c : Nat) : Option Nat × Option Nat :=
  (placeRound sh fl (handRound sh hd)).getD ((hd % (handsPerRound sh)) * (widthOf sh) + c) (none, none)

/-- Member index that holds chunk `c` of hand `hd`, when it has a slot (07 R217). -/
def chunkMember (sh : Shape) (fl : List FailEntry) (hd c : Nat) : Option Nat :=
  (chunkPlace sh fl hd c).1.map fun x => (perm sh (handRound sh hd)).getD x 0

/-- The mover's condition of R217: the chunk holds current data where it lies. -/
def moverCurrent (fl : List FailEntry) (r : Nat) : Option Nat → Bool
  | none => true
  | some i =>
    match fl[i]? with
    | none => true
    | some e =>
      match e.fstate with
      | .rebuilt => true
      | .copyback => true
      | .rebuilding => decide (r < e.watermark)

/-- The chunk holds current data on a member that is neither FAILED nor, when `absentCounts`, ABSENT (07 R217, R222). -/
def chunkPresent (lab : DeckLabel) (sh : Shape) (absentCounts : Bool) (hd c : Nat) : Bool :=
  let pl := chunkPlace sh lab.failList hd c
  match pl.1 with
  | none => false
  | some x =>
    let mem := (perm sh (handRound sh hd)).getD x 0
    match lab.members[mem]? with
    | none => false
    | some e => decide (e.mstate ≠ .failed) && (!absentCounts || decide (e.mstate ≠ .absent)) &&
        moverCurrent lab.failList (handRound sh hd) pl.2

/-- Chunks of a hand that R222 counts as missing. -/
def missingChunks (lab : DeckLabel) (hd : Nat) : List Nat :=
  (List.range (widthOf lab.shape)).filter fun c => !chunkPresent lab lab.shape true hd c

/-- Member byte offset of block `row` of a chunk in the round of a hand (07 R214, R215). -/
def blockOffset (lab : DeckLabel) (hd row : Nat) : Nat :=
  lab.dataStart + handRound lab.shape hd * (chunkBytes lab.shape) + row * 4096

/-- Slot of the drive that holds a member index. -/
def memberSlot (lab : DeckLabel) (mem : Nat) : Option Nat :=
  (lab.members[mem]?).bind fun e => e.slot

/-! ## Volumes (05 R142, R144, R146) -/

/-- L and M of an LBA format (05 R146). -/
def lbaFormat : Nat → Option (Nat × Nat)
  | 0 => some (512, 0)
  | 1 => some (512, 8)
  | 2 => some (4096, 0)
  | 3 => some (4096, 8)
  | 4 => some (4096, 16)
  | _ => none

/-- Ceiling division. -/
def ceilDiv (a b : Nat) : Nat := (a + b - 1) / b

/-- hands_alloc of R142. -/
def handsNeeded (sh : Shape) (nsze l m : Nat) : Nat :=
  let a := ceilDiv (nsze * l) (handBytes sh) + ceilDiv (nsze * m) (handBytes sh)
  ceilDiv a (handsPerRound sh) * (handsPerRound sh)

/-- Largest NSZE for an allocation (05 R157). -/
def largestNsze (sh : Shape) (hands l m : Nat) : Nat :=
  if m = 0 then hands * (handBytes sh) / l
  else
    let h := handBytes sh
    -- n is bounded by a split of the hands into data and metadata; the best split is one of two beside the exact ratio
    let e := hands * m / (l + m)
    max (min ((hands - e) * h / l) (e * h / m)) (min ((hands - (e + 1)) * h / l) ((e + 1) * h / m))

/-- Volume byte offset of the first metadata byte of a volume (05 R144). -/
def metaStart (sh : Shape) (nsze l : Nat) : Nat := ceilDiv (nsze * l) (handBytes sh) * (handBytes sh)

/-- Deck hand of a volume hand under an extent list (05 R143, R144). -/
def extentHand (ext : List (Nat × Nat × Nat)) (v : Nat) : Option Nat :=
  (ext.find? fun e => decide (e.1 ≤ v) && decide (v < e.1 + e.2.2)).map fun e => e.2.1 + (v - e.1)

/-- The volume hand of a deck hand, where some extent holds it. -/
def handExtent (ext : List (Nat × Nat × Nat)) (hd : Nat) : Option Nat :=
  (ext.find? fun e => decide (e.2.1 ≤ hd) && decide (hd < e.2.1 + e.2.2)).map fun e => e.1 + (hd - e.2.1)

/-- Volume page of (row, data chunk) in a volume hand: pages of a hand run through chunk 0, then chunk 1 (07 R215, 09 R251). -/
def pageOfBlock (sh : Shape) (volHand row chunk : Nat) : Nat :=
  volHand * ((handBytes sh) / 4096) + chunk * (chunkBlocks sh) + row

/-- Volume hand, row and chunk of a volume page (05 R144, 07 R215). -/
def blockOfPage (sh : Shape) (vpage : Nat) : Nat × Nat × Nat :=
  let per := (handBytes sh) / 4096
  let inHand := vpage % per
  (vpage / per, inHand % (chunkBlocks sh), inHand / (chunkBlocks sh))

/-! ## Placement of cache pages (06 R170, R172) -/

/-- h of R172. -/
def placeHash (keyNs vpage : Nat) : BitVec 32 :=
  let x := BitVec.ofNat 32 (vpage * 0x9E3779B1 + keyNs * 0x85EBCA77)
  x ^^^ (x >>> 16)

/-- Candidate regions of R172 for a home, in order. -/
def candRegions (home : Nat) : List Nat := [home, (home + 2) % 4, (home + 3) % 4, (home + 1) % 4]

/-- Live candidates, given the fenced regions. -/
def liveCands (fenced : List Nat) (home : Nat) : List Nat :=
  (candRegions home).filter fun r => !fenced.contains r

/-- Set of a page (06 R172). -/
def pageSet (keyNs vpage sets : Nat) : Nat := ((placeHash keyNs vpage) >>> 2).toNat % sets

/-- Primary and mirror region of a page (06 R172). -/
def pageRegions (fenced : List Nat) (keyNs vpage : Nat) : Option Nat × Option Nat :=
  let l := liveCands fenced ((placeHash keyNs vpage) &&& 3).toNat
  (l[0]?, l[1]?)

/-- Channel of a frame (06 R170). -/
def frameChannel (region frame : Nat) : Nat := 2 * region + frame % 2

/-- Bank of a frame (06 R170). -/
def frameBank (frame : Nat) : Nat := (frame / 2) % 16

/-- Lock region of a hand, and the region of its journal copies (09 R257). -/
def lockRegions (fenced : List Nat) (deckId hand : Nat) : Option Nat × Option Nat :=
  let l := liveCands fenced ((hand + deckId) % 4)
  (l[0]?, l[1]?)

end Sys2Proof.Machine
end

