-- ==== Sys2Proof/Machine/UnitsVault.lean ====
section
/-!
DEFINITION. The hold-up pack, the gauge, its calibration and learned slots, and the vault.
Each field's default is its value in `State.reset`.
-/

namespace Sys2Proof.Machine

/-- A learned set as a nonvolatile slot holds it (14 R403). -/
structure LearnedSet where
  idCode : Nat
  learned : Bool
  suspect : Bool
  seqNo : Nat
  fccUah : Nat
  z25Uohm : Nat
  /-- SOC_CC in units of 0.01 %. -/
  socCc : Nat
  cycles : Nat
  learnTime : BitVec 64
  writeTime : BitVec 64
  calCrc : BitVec 32
  deriving DecidableEq, Repr

/-- A learned parameter slot (14 R403, R404). -/
inductive GaugeSlot where
  | empty
  | torn
  | valid (l : LearnedSet)
  deriving DecidableEq, Repr

/-- Where a learning cycle stands (14 R401). -/
inductive LearnStep where
  | idle
  | discharging
  | resting
  deriving DecidableEq, Repr

/-- Built-in calibration defaults (14 R405). -/
def calDefaults : CalRecord :=
  { version := 1, source := 2, idTol := 8, senseGain := 0x1000000, senseOffset := 0,
    cellGain := [0x1000000, 0x1000000, 0x1000000], thermBeta := 3435, idGain := 0x1000000, avsOffset := [0, 0, 0, 0, 0] }

/-- The pack and its gauge (14 R386 to R412). -/
structure Gauge where
  /-- PACK_PRESENT. 1 bit. 14 R388. Reset DESIGN CHOICE 0, log 4: nothing fitted until the pins are sampled. -/
  present : Bool := false
  /-- Consecutive samples with a pin open, and with both closed. 14 R388. Reset 0. -/
  openRun : Nat := 0
  closedRun : Nat := 0
  /-- Identity samples of the 16 still taken after an insertion, in ohms. 14 R388. Reset none. -/
  idSamples : List Nat := []
  /-- An identity is being taken. 14 R388. Reset 0. -/
  identifying : Bool := false
  /-- ID_RES, identity resistance in ohms. 18 R514. Reset DESIGN CHOICE 0, log 4. -/
  idOhm : Nat := 0
  /-- ID_CODE, none for an invalid identity. 4 bits. 14 R387. Reset none. -/
  idCode : Option Nat := none
  /-- The first evaluation after an insertion is due. 14 R390. Reset 0. -/
  firstEval : Bool := false
  /-- The first impedance measurement after an insertion is due. 14 R390. Reset 0. -/
  firstPath : Bool := false
  /-- Inside the temperature window, or back in it for 60 s. 1 bit. 14 R391. Reset DESIGN CHOICE 0, log 4. -/
  tempOk : Bool := false
  /-- The temperature lay outside the window and 60 s have not passed. 14 R391. Reset 0. -/
  tempWait : Bool := false
  /-- GAUGE_OK: readings arrive. 1 bit. 18 R514. Reset DESIGN CHOICE 0, log 4. -/
  gaugeOk : Bool := false
  /-- Coulomb count, in 1/24,000 of a µA·ms. 14 R393. Reset DESIGN CHOICE 0, log 4. -/
  charge : Nat := 0
  /-- FCC in use, in µAh. 14 R393. Reset DESIGN CHOICE 0, log 4: no pack. -/
  fccUah : Nat := 0
  /-- z25 per cell in use, in µΩ. 14 R398. Reset DESIGN CHOICE 0, log 4. -/
  z25Uohm : Nat := 0
  /-- LEARNED. 1 bit. 14 R401. Reset DESIGN CHOICE 0, log 4. -/
  learned : Bool := false
  /-- SUSPECT. 1 bit. 14 R396, R401. Reset DESIGN CHOICE 0, log 4. -/
  suspect : Bool := false
  /-- CYCLES. 32 bits. 14 R403. Reset 0. -/
  cycles : Nat := 0
  /-- LAST_LEARN. 64 bits. 14 R421. Reset 0. -/
  lastLearn : BitVec 64 := 0
  /-- Cell voltages in mV, current in mA, temperature in 0.1 °C of the last evaluation. 14 R421. Reset DESIGN CHOICE 0, log 4. -/
  cellMv : List Nat := []
  currentMa : Int := 0
  tempDc : Int := 0
  /-- SOC_V of the last evaluation. 14 R395. Reset DESIGN CHOICE 0, log 4. -/
  socV : Frac := Frac.zero
  /-- SOC_CC is set by the next estimate: T1 has been taken. 14 R393. Reset 0. -/
  fromV : Bool := false
  /-- SOC_CC and SOC_USED of the last evaluation, in units of 0.01 %. 14 R421. Reset DESIGN CHOICE 0, log 4. -/
  logSocCc : Nat := 0
  logSocUsed : Nat := 0
  /-- RESTED: the rest condition of R397 has been met. 1 bit. 14 R397. Reset 0. -/
  rested : Bool := false
  /-- Charging has terminated and no discharge has followed. 14 R401, R411. Reset 0. -/
  fullCharge : Bool := false
  /-- A path test is running. 14 R399. Reset 0. -/
  pathTest : Bool := false
  /-- The last path test passed, and the model time of the last one that passed. 14 R399, R409. Reset not passed. -/
  pathPassed : Bool := false
  pathAt : Nat := 0
  /-- LAST_PATH_TEST. 64 bits. 14 R421. Reset 0. -/
  lastPathTest : BitVec 64 := 0
  /-- Learning cycle. 14 R401. Reset idle. -/
  learning : LearnStep := .idle
  /-- S1, and the charge ΔQ removed, in 1/24,000 of a µA·ms. 14 R401. Reset 0. -/
  learnS1 : Frac := Frac.zero
  learnDq : Nat := 0
  /-- LEARN_EN. 1 bit. 18 R514. Reset 1. -/
  learnEn : Bool := true
  /-- HU_STAT READY. 1 bit. 14 R409. Reset DESIGN CHOICE 0, log 4. -/
  huReady : Bool := false
  /-- HU_DIRTY_LIMIT in pages. 32 bits. 14 R410. Reset DESIGN CHOICE 0, log 4. -/
  huLimit : Nat := 0
  /-- P_CAP in mW and E_available in mJ of the last evaluation. 14 R400. Reset DESIGN CHOICE 0, log 4. -/
  pcapMw : Nat := 0
  eAvailMj : Nat := 0
  /-- Slots 0 and 1. 2 × 4 KiB. 14 R403. Reset DESIGN CHOICE empty, log 4. -/
  slot0 : GaugeSlot := .empty
  slot1 : GaugeSlot := .empty
  /-- Calibration record in force. 64 bytes. 14 R405. Reset DESIGN CHOICE the built-in defaults, log 4. -/
  cal : CalRecord := calDefaults
  /-- Calibration record in boot flash, none when it fails its check. 64 bytes. 14 R405, R407. Reset DESIGN CHOICE none, log 4. -/
  calFlash : FlashPair CalRecord := {}
  /-- GEN of log 0xC5, with the FLAGS and PACK_STATE it last counted. 14 R421. Reset 0. -/
  logGen : Nat := 0
  logFlags : Nat := 0
  deriving DecidableEq, Repr

/-- A data page of a vault image with the fields of its directory record (14 R417). -/
structure ImagePage where
  keyNs : Nat
  vpage : Nat
  valid : BitVec 8
  zero : BitVec 8
  poison : BitVec 8
  data : Bytes
  deriving DecidableEq, Repr

/-- A vault image (14 R417). -/
structure VaultImage where
  area : Nat
  imageSeq : Nat
  /-- CHANNELS: bit n set, channel n was live. -/
  channels : Nat
  bootCount : Nat
  time : BitVec 64
  pages : List ImagePage
  /-- Journal section: DECK_ID and record. -/
  journal : List (Nat × JRec)
  /-- DATA records whose commands had not committed when the image was made: DECK_ID and JSEQ. The image has no field for them; the model keeps them so
  that such a record is applied whole. 04 R124, 09 R270. (DESIGN CHOICE, log 150.) -/
  uncommitted : List (Nat × Nat) := []
  deriving DecidableEq, Repr

/-- A flush in progress (14 R419): the image being programmed, when it began, and the controller whose abrupt shutdown it is. -/
structure FlushJob where
  image : VaultImage
  since : Nat
  startTime : BitVec 64
  abrupt : Option Nat
  deriving DecidableEq, Repr

/-- The vault (14 R413 to R420). -/
structure Vault where
  /-- VAULT_CHANNELS: live channels. 4 bits. 14 R413. Reset DESIGN CHOICE all four, log 4. -/
  channels : List Nat := [0, 1, 2, 3]
  /-- AREA_A_ERASED. 1 bit. 14 R415. Reset DESIGN CHOICE 1, log 4. -/
  erasedA : Bool := true
  /-- AREA_B_ERASED. 1 bit. 14 R415. Reset DESIGN CHOICE 1, log 4. -/
  erasedB : Bool := true
  /-- SEQ_RESERVED of the superblock. 32 bits. 14 R416. Reset DESIGN CHOICE 1, log 4. -/
  seqReserved : Nat := 1
  /-- The superblock has been written since this boot began or the last flush ended. 14 R416. Reset 0. -/
  seqRaised : Bool := false
  /-- Blocks marked bad. 14 R414, R420. Reset DESIGN CHOICE none, log 4. -/
  badBlocks : List Nat := []
  /-- The newest image programmed with a header. 14 R417. Reset DESIGN CHOICE none, log 4. -/
  image : Option VaultImage := none
  /-- IMAGE_VALID: the image is still valid. 1 bit. 02 R63. Reset 0. -/
  imageValid : Bool := false
  /-- Pages of the image not yet destaged in a version at least as new. 02 R63. Reset none. -/
  imageTodo : List (Nat × Nat) := []
  /-- A flush in progress. 14 R419. Reset none. -/
  flush : Option FlushJob := none
  /-- FLUSH_TIME, FLUSH_PAGES, FLUSH_MS, FLUSH_MJ, FLUSH_MIN_MV, FLUSH_RESULT of log 0xC5. 14 R421. Reset 0. -/
  flushTime : BitVec 64 := 0
  flushPages : Nat := 0
  flushMs : Nat := 0
  flushMj : Nat := 0
  flushMinMv : Nat := 0
  flushResult : Nat := 0
  deriving DecidableEq, Repr

end Sys2Proof.Machine
end

