-- ==== Sys2Proof/Machine/UnitsCore.lean ====
section
/-!
DEFINITION. The core: the Glildo fabric, parity blocks, the power scheduler, the vendor features and the idle states.
Each field's default is its value in `State.reset`.
-/

namespace Sys2Proof.Machine

/-- A Glildo link: 0 to 3 are the star links of regions A to D, 4 to 7 the ring links A–B, B–C, C–D, D–A (01 R21, R24). -/
structure Link where
  /-- Sublinks out of service. 16 × 1 bit, and the spare as 16. 01 R21. Reset none. -/
  bad : List Nat := []
  /-- The spare sublink is in use. 1 bit. 01 R21. Reset 0. -/
  spareUsed : Bool := false
  /-- Fenced (a ring link, or the star link of a fenced region). 1 bit. 01 R24, R31. Reset 0. -/
  fenced : Bool := false
  /-- Sublinks spared because of injected faults: trained again at the next device reset. 15 R448. Reset none. -/
  injected : List Nat := []
  /-- Model times of the replays of each sublink within the last 1 ms. 17 R491. Reset none. -/
  replays : List (Nat × Nat) := []
  deriving DecidableEq, Repr

/-- The lines of one (STREAM, FOFF) of an accumulator (01 R34, R35). -/
structure AccLine where
  count : Nat
  seeds : Nat
  lasts : Nat
  checks : Nat
  p : Bytes
  q : Bytes
  t : Bytes
  deriving DecidableEq, Repr

/-- An operand that has arrived at a parity block, with the receiver buffer that it occupies, by link and direction (01 R22, R34). -/
structure Operand where
  tag : FlitTag
  data : Bytes
  via : Option (Nat × Bool)
  deriving DecidableEq, Repr

/-- A flit that a link holds back for want of a credit (01 R22): its block, what it brings, the links still to cross with their directions,
and the receiver buffer it occupies meanwhile. -/
structure Transit where
  src : Nat
  region : Nat
  block : Nat
  tag : FlitTag
  data : Bytes
  check : CellCheck
  path : List (Nat × Bool)
  held : Option (Nat × Bool)
  deriving DecidableEq, Repr

/-- A fabric broadcast: the region it starts in, the regions that it reaches over the star links, and those whose acknowledgement is back (01 R25). -/
structure Broadcast where
  origin : Nat
  reached : List Nat
  acked : List Nat
  deriving DecidableEq, Repr

/-- A parity block (01 R26, R29, R34 to R36; 13 R382). -/
structure PBlock where
  /-- Quarantined. 1 bit. 01 R30. Reset 0. -/
  quarantined : Bool := false
  /-- Taken into use. 1 bit. 01 R30. Reset: blocks 0 to 7 active, block 8 the spare. -/
  active : Bool := true
  /-- Power-gated. 1 bit. 13 R382. Reset 0; the spare is gated. -/
  gated : Bool := false
  /-- Cells retired, of three. 01 R29. Reset none. -/
  retiredCells : List Nat := []
  /-- Set-up of each open stream in the tag decoder. 01 R35. Reset none. -/
  setups : Tbl Nat StreamSetup := []
  /-- Accumulator lines by (stream, flit offset). 96 KiB. 01 R34. Reset none. -/
  lines : Tbl (Nat × Nat) AccLine := []
  /-- Offsets of the open streams whose lines have been emitted, by (stream, flit offset). 01 R35. Reset none. -/
  finished : List (Nat × Nat) := []
  /-- Operands that wait for a free line, oldest first. 01 R34. Reset none. -/
  waiting : List Operand := []
  /-- Stream that the round-robin among waiting operands served last. 12 bits. 01 R26, R34. Reset DESIGN CHOICE 4,095, log 4. -/
  served : Nat := 4095
  /-- Class that the deficit round-robin served last, TRUMP to SANITIZE. 3 bits. 01 R26. Reset DESIGN CHOICE 0, log 116. -/
  drrClass : Nat := 0
  /-- Deficit of each class in picojoules, TRUMP to SANITIZE. 01 R26, 13 R378. Reset 0. -/
  deficit : List Nat := [0, 0, 0, 0, 0, 0, 0]
  /-- Streams rejected, and so reissued once. 01 R36. Reset none. -/
  rejected : List Nat := []
  deriving DecidableEq, Repr

/-- What one window leaves for the averages of 13 R371, R385. -/
structure WindowSample where
  powerMw : Nat
  spent : List Nat
  short : List Bool
  capMw : Nat
  deriving DecidableEq, Repr

/-- The vendor features and their saved values (05 R155). -/
structure Features where
  /-- CAP_W. 8 bits. 18 R512. Reset 125. -/
  capW : Nat := 125
  /-- CLASS_FLOOR bytes 0 to 5. 6 × 8 bits. 18 R512. Reset 50, 20, 10, 5, 2, 1. -/
  floors : List Nat := [50, 20, 10, 5, 2, 1]
  /-- CEIL of Dirty Limit Policy. 16 bits. 05 R155. Reset 0. -/
  ceil : Nat := 0
  /-- FORCE_WT. 1 bit. 05 R155. Reset 0. -/
  forceWt : Bool := false
  /-- MEM_SR_US. 32 bits. 05 R155. Reset 1,000. -/
  memSrUs : Nat := 1000
  /-- LINK_L12_US. 32 bits. 05 R155. Reset 10,000. -/
  linkL12Us : Nat := 10000
  /-- BLOCK_GATE_US. 32 bits. 05 R155. Reset 100. -/
  blockGateUs : Nat := 100
  /-- Member Completion Timeout in 100 µs. 16 bits. 05 R155. Reset 20. -/
  memberTimeout : Nat := 20
  /-- Saved CAP_W. 8 bits. 18 R513. Reset DESIGN CHOICE none, log 4. -/
  capSaved : Option Nat := none
  /-- Saved Class Floors. 18 R513. Reset DESIGN CHOICE none, log 4. -/
  floorsSaved : Option (List Nat) := none
  /-- Saved Patrol Rate, Dirty Limit Policy and Member Completion Timeout values (CDW11), by FID. 05 R155. Reset DESIGN CHOICE none, log 4. -/
  saved : Tbl Nat (BitVec 32) := []
  /-- Saved Unit Idle Timers. 05 R155. Reset DESIGN CHOICE none, log 4. -/
  timersSaved : Option (Nat × Nat × Nat) := none
  deriving DecidableEq, Repr

/-- The power scheduler (13). -/
structure Sched where
  /-- WINDOWS since the last entry into BOOT. 64 bits. 13 R385. Reset 0. -/
  windows : Nat := 0
  /-- VCORE setpoints in mV: hub, A to D. 13 R366. Reset DESIGN CHOICE 750, log 4: the board-set voltage lies from 700 to 800. -/
  vset : List Nat := [750, 750, 750, 750, 750]
  /-- Target voltages written, in mV, with the calibration's offsets. 13 R366, 14 R405. Reset DESIGN CHOICE 750, log 4. -/
  sent : List Int := [750, 750, 750, 750, 750]
  /-- Setpoints as last read back, in mV. 13 R366, R368. Reset DESIGN CHOICE 750, log 4. -/
  vback : List Nat := [750, 750, 750, 750, 750]
  /-- AVSBus transactions unacknowledged in a row, per rail. 13 R368. Reset 0. -/
  nacks : List Nat := [0, 0, 0, 0, 0]
  /-- Rails held at their last setpoint. 13 R368. Reset none. -/
  held : List Nat := []
  /-- Measured cell rate per domain in MB/s. 13 R370. Reset DESIGN CHOICE 16,000, log 4: the nominal rate until one is measured. -/
  rates : List Nat := [16000, 16000, 16000, 16000, 16000]
  /-- Cost average of each (class, domain): ratio of measured energy to the start value at 0.75 V, in 1/65,536, with the
  windows in which the class had completions (up to 10). 13 R370, R371. Reset none measured. -/
  costs : Tbl (Nat × Nat) (Nat × Nat) := []
  /-- Rail power and flits of the last acknowledged reading, per rail. 13 R368. Reset DESIGN CHOICE 0, log 4. -/
  goodMw : List Nat := [0, 0, 0, 0, 0]
  goodFlits : List Nat := [0, 0, 0, 0, 0]
  /-- Windows in a row with a reading of a die that was missing. 13 R376. Reset 0. -/
  tempRuns : List Nat := [0, 0, 0, 0, 0]
  /-- Share of each grant for each domain, TRUMP to SANITIZE. 13 R379. Reset 0. -/
  domGrants : List (List Int) := []
  /-- Flits, busy periods, busy percent and rail power of the last window, per domain. 13 R385. Reset 0. -/
  flits : List Nat := [0, 0, 0, 0, 0]
  busy : List Nat := [0, 0, 0, 0, 0]
  busyPct : List Nat := [0, 0, 0, 0, 0]
  railMw : List Nat := [0, 0, 0, 0, 0]
  /-- Power of the other package rails in mW. 13 R371. Reset DESIGN CHOICE 0, log 4. -/
  otherMw : Nat := 0
  /-- Fixed energy of the last window in µJ. 13 R371. Reset DESIGN CHOICE 0, log 4. -/
  fixedUj : Int := 0
  /-- Debt in µJ. 13 R379. Reset DESIGN CHOICE 0, log 4. -/
  debt : Int := 0
  /-- b_work of the last window. 13 R379. Reset 0. -/
  bWork : Int := 0
  /-- Requests and grants of the last window, TRUMP to SANITIZE. 13 R379. Reset 0. -/
  requests : List Int := [0, 0, 0, 0, 0, 0, 0]
  grants : List Int := [0, 0, 0, 0, 0, 0, 0]
  /-- Part of the last HOST grant that destage takes. 13 R380. Reset 0. -/
  destageGrant : Int := 0
  /-- Cap in force in mW, and its term. 13 R372, R385. Reset DESIGN CHOICE 60,000 and 2, log 4: the start-up cap applies. -/
  capMw : Nat := 60000
  capSrc : Nat := 2
  /-- Thermal cap in mW. 13 R373. Reset 125,000. -/
  thermMw : Nat := 125000
  /-- The start-up cap applies, with the model time at which the scheduler started. 13 R373. Reset 1, 0. -/
  startup : Bool := true
  startAt : Nat := 0
  /-- Junction temperatures in 0.1 °C of hub and regions A to D. 13 R374. Reset DESIGN CHOICE 0, log 4. -/
  temps : List Int := [0, 0, 0, 0, 0]
  /-- MISSING: dies whose temperature is missing. 5 bits. 13 R376. Reset none. -/
  missing : List Nat := []
  /-- T, TJ_MAX. 13 R374. Reset DESIGN CHOICE 0, log 4. -/
  tjMax : Int := 0
  /-- Windows of the last second, newest first, at most 10,000. 13 R371, R385. Reset none. -/
  hist : List WindowSample := []
  /-- EXCEED_COUNT. 32 bits. 13 R385. Reset 0. -/
  exceedCount : Nat := 0
  /-- Model time of the last event 0x6003. 13 R377. Reset none. -/
  exceedAt : Option Nat := none
  /-- Model time of the last window with an excess. 13 R385 FLAGS. Reset none. -/
  exceedLast : Option Nat := none
  /-- Self-refresh, L1.2 and gating entries since the last cold start. 3 × 64 bits. 13 R385. Reset 0. -/
  srEntries : Nat := 0
  l12Entries : Nat := 0
  gateEntries : Nat := 0
  deriving DecidableEq, Repr

/-- The fabric and the parity blocks (01). -/
structure Fabric where
  /-- Links 0 to 7. 01 R21. Reset all 16 sublinks good; a link not listed holds it. -/
  links : Tbl Nat Link := []
  /-- Parity blocks by (region, block). 4 × 9. 01 R26. Reset: block 8 of each region the spare; a block not listed holds its reset value. -/
  blocks : Tbl (Nat × Nat) PBlock := []
  /-- Regions whose spare parity block was in use when another was quarantined. 02 R48. Reset none. -/
  short : List Nat := []
  /-- Flits that wait for a credit of a link, oldest first. 01 R22. Reset none. -/
  transit : List Transit := []
  /-- The last fabric broadcast. 01 R25. Reset none. -/
  broadcast : Option Broadcast := none
  /-- AON link errors since the last cold start. 8 bits. 18 R515. Reset 0. -/
  aonErr : Nat := 0
  deriving DecidableEq, Repr

end Sys2Proof.Machine
end

