-- ==== Sys2Proof/Machine/UnitsMember.lean ====
section
/-!
DEFINITION. The member slots: drives, root ports, member tags, the ladder, health and slot power (12).
Each field's default is its value in `State.reset`.
-/

namespace Sys2Proof.Machine

/-- Class of the drive in a slot (12 R353, R362). -/
inductive DriveClass where
  | empty
  | member
  | newDrive
  | returning
  | foreign
  | importable
  | unusable
  deriving DecidableEq, Repr

/-- Where a member tag stands (12 R344, R345). -/
inductive TagState where
  | outstanding
  /-- Quarantined; true when its late completion has arrived. -/
  | quarantined (arrived : Bool)
  | withheld
  /-- A command that waits for a usable port of its drive, or for a tag, before it is issued or reissued (R337, R347, R348). -/
  | waiting
  deriving DecidableEq, Repr

/-- What a member command is for (12 R344, R346, R348). -/
inductive TagWork where
  /-- A read of a block for a read miss or a hand update, by deck, hand, chunk and row. -/
  | read (deckId hand chunk row : Nat)
  /-- A write of a hand update. -/
  | write (deckId hand chunk : Nat)
  /-- The write of a record to a keeper's ring, by JSEQ; 0 for the ring's header (09 R253, R260). -/
  | ring (deckId member jseq : Nat)
  /-- A flush of a member's volatile cache. -/
  | flush
  /-- A write or a deallocation that is no hand update's: labels, volume table, rebuilt or repaired blocks. -/
  | store
  deriving DecidableEq, Repr

/-- A member tag in use (12 R338). -/
structure MTag where
  tag : Nat
  opcode : Nat
  work : TagWork
  state : TagState
  /-- Bytes of its transfer (R341). -/
  len : Nat
  /-- Ladder step after which the command was reissued: 0 as first issued, 1 by step 1 or after containment (R357). -/
  step : Nat
  /-- The command was reissued because it completed with an error, not because it timed out (R357). -/
  errored : Bool
  /-- The buffers that its pages in the DATA window map to: what a write hands to the drive, or what a read has received so far (R341). -/
  buf : Bytes := []
  /-- Blocks of a read that a poisoned TLP has touched (R341). -/
  lost : List Nat := []
  deriving DecidableEq, Repr

/-- A root port (12 R333 to R336, R347 to R349, R357, R358). -/
structure MPort where
  /-- Speed in GT/s and width in lanes; 0 while the link is down. R334, R362. Reset 0. -/
  speed : Nat := 0
  width : Nat := 0
  /-- Steps 1 to 6 of R336 have completed and the port is usable. 1 bit. R347. Reset 0. -/
  usable : Bool := false
  /-- CONTAINED. 1 bit. R348. Reset 0. -/
  contained : Bool := false
  /-- Cause of the containment, 1 to 3. R348. Reset 0. -/
  dpcCause : Nat := 0
  /-- FAILED under R358. 1 bit. Reset 0. -/
  failed : Bool := false
  /-- REDUCED. 1 bit. R334, R362. Reset 0. -/
  reduced : Bool := false
  /-- Ladder step in progress, 1 to 4, or 0. R357, R362. Reset 0. -/
  ladder : Nat := 0
  /-- Model times of I/O timeouts within the last second. R357. Reset none. -/
  timeoutAt : List Nat := []
  /-- Identity reported on this port, once brought up. R336. Reset none. -/
  ident : Option Nat := none
  /-- What the drive reports on this port meets R335. 1 bit. R335. Reset 1: nothing has been reported. -/
  fit : Bool := true
  /-- What the drive has written to the port's area of the QUEUE window, by offset in the area. 64 KiB. R339. Reset nothing written. -/
  queue : List Host.Cell := []
  /-- MSI-X vectors whose message has come and whose completion queue has not been read since. R339. Reset none. -/
  vectors : List Nat := []
  /-- The late bring-up has been taken to ladder step 3 once. 1 bit. R352. Reset 0. -/
  lateTried : Bool := false
  /-- Member tags in use on this port. R338, R344. Reset none. -/
  tags : List MTag := []
  /-- In L1.2. 1 bit. 13 R382. Reset 0. -/
  l12 : Bool := false
  /-- L1.2 may be enabled: the drive advertises it with at most 100 µs. 1 bit. 13 R383. Reset 0. -/
  l12ok : Bool := false
  deriving DecidableEq, Repr

/-- A slot with its drive (12 R332 to R362). -/
structure Slot where
  /-- PRSNT: the slot counts as occupied. 1 bit. R350, R351. Reset DESIGN CHOICE 0, log 4: no drive fitted. -/
  present : Bool := false
  /-- SLOT_POWER: slot power enable. 1 bit. R356. Reset 0. -/
  power : Bool := false
  /-- Member PERST# of both ports is asserted. 1 bit. R352, R356. Reset 1. -/
  perst : Bool := true
  /-- Port A and port B. R333. Reset as a port's reset. -/
  portA : MPort := {}
  portB : MPort := {}
  /-- CLASS. R353, R362. Reset EMPTY. -/
  cls : DriveClass := .empty
  /-- Deck and member index of the member or returning drive. R362. Reset none. -/
  deckId : Option Nat := none
  index : Option Nat := none
  /-- FAILED_PENDING, with the model time at which it began. R347. Reset none. -/
  pendingAt : Option Nat := none
  /-- The removal has been confirmed under R351. 1 bit. R347. Reset 0. -/
  removed : Bool := false
  /-- Some keeper or scan has ended and the member waits to be declared failed. R360. Reset 0. -/
  failDue : Bool := false
  /-- Power state that the member has been sent to. 5 bits. 05 R161. Reset 0. -/
  ps : Nat := 0
  /-- Media read-only: not usable for writes. 1 bit. R360. Reset 0. -/
  readOnly : Bool := false
  /-- HEALTH, 0 to 1,000. R359. Reset 1,000. -/
  health : Nat := 1000
  /-- TEMP in K, and CRIT_WARN. R362. Reset DESIGN CHOICE 0, log 4. -/
  temp : Nat := 0
  critWarn : BitVec 8 := 0
  /-- What step 4 of R336 read: NGUID, capacity, FW_REV, AFI, metadata bytes, acceptability, volatile cache, block erase. R336, R206. Reset none. -/
  info : Option DriveInfo := none
  /-- Label copies found, or written since. R353. Reset none. -/
  native : Option NativeLabel := none
  fore : Option ForeLabel := none
  /-- Counters of the Member Status record. 32 bits each. R362. Reset 0. -/
  timeouts : Nat := 0
  late : Nat := 0
  mediaErr : Nat := 0
  tagFail : Nat := 0
  contain : Nat := 0
  retries : Nat := 0
  ctrlResets : Nat := 0
  busResets : Nat := 0
  powerCycles : Nat := 0
  violations : Nat := 0
  /-- CLASS_TIME. 64 bits. R362. Reset 0. -/
  classTime : BitVec 64 := 0
  /-- Completed writes not yet durable on a volatile cache. 1 bit. 09 R253. Reset 0. -/
  unflushed : Bool := false
  deriving DecidableEq, Repr

/-- Member ports as a whole (12). -/
structure Members where
  /-- Slots. 64. R332. Reset: each slot at its reset; a slot not listed holds it. -/
  slots : Tbl Nat Slot := []
  /-- Slots whose power request waits its turn, in request order. R356. Reset none. -/
  powerQueue : List Nat := []
  /-- ONLINE commands that wait for their slot's power, by slot. R361. Reset none. -/
  onlineRefs : List (Nat × CmdRef) := []
  /-- GEN of log 0xC1. 32 bits. R362. Reset 0. -/
  gen : Nat := 0
  deriving DecidableEq, Repr

end Sys2Proof.Machine
end

