-- ==== Sys2Proof/Machine/UnitsGuard.lean ====
section
/-!
DEFINITION. Integrity: the retirement table, the SRAM repair map, the error counters, check-bit test mode and fault injection (15).
Each field's default is its value in `State.reset`.
-/

namespace Sys2Proof.Machine

/-- A retirement entry (15 R441): KIND 1 frame, 2 bank, 3 device mark, 4 channel. -/
structure RetEntry where
  kind : Nat
  region : Nat
  channel : Nat
  unit : Nat
  frame : Nat
  time : BitVec 64
  deriving DecidableEq, Repr

/-- A programmed repair map entry (15 R439). -/
structure RepairEntry where
  /-- The fuses of the entry were torn by a power loss, so its CHECK is wrong. R440. -/
  torn : Bool := false
  void : Bool
  die : Nat
  macroNo : Nat
  row : Nat
  spare : Nat
  deriving DecidableEq, Repr

/-- A test word of check-bit test mode: what WRITE stored, and the masks that FLIP has applied since (15 R444). -/
structure TestWord where
  data : Bytes
  md : Bytes
  chk : Bytes
  dataMask : Bytes
  mdMask : Bytes
  chkMask : Bytes
  deriving DecidableEq, Repr

/-- Check-bit test mode (15 R442 to R444). -/
structure Ecct where
  /-- TEST_EN. 1 bit. R442. Reset 0. -/
  testEn : Bool := false
  /-- OP. 3 bits. R442. Reset 0. -/
  op : Nat := 0
  /-- TEST_MARK and DEV. 1 and 3 bits. R442. Reset 0. -/
  testMark : Bool := false
  dev : Nat := 0
  /-- RESULT, SYMS, DEV_FOUND, META_ERR. 2, 5, 3 and 1 bits. R442. Reset 0, 0, 7, 0. -/
  result : Nat := 0
  syms : Nat := 0
  devFound : Nat := 7
  metaErr : Bool := false
  /-- META_BYTE and META_MASK. 3 and 8 bits. R442. Reset 0. -/
  metaByte : Nat := 0
  metaMask : BitVec 8 := 0
  /-- ECCT_ADDR. 64 bits. R442. Reset 0. -/
  addr : BitVec 64 := 0
  /-- ECCT_DATA0 to 15. 64 bytes. R442. Reset 0. -/
  data : Bytes := List.replicate 64 0
  /-- ECCT_CHK0 to 8. 36 bytes. R442. Reset 0. -/
  chk : Bytes := List.replicate 36 0
  /-- Test frame of each live channel: channel, region and frame. R443. Reset none. -/
  frames : List (Nat × Nat × Nat) := []
  /-- Test words by (channel, word), and by (die, macro) for SRAM. R443, R444. Reset none. -/
  dramWords : Tbl (Nat × Nat) TestWord := []
  sramWords : Tbl (Nat × Nat) TestWord := []
  deriving DecidableEq, Repr

/-- The zero descriptor. -/
def finjZero : FinjDesc :=
  { target := 0, action := 0, stage := 0, dir := 0, slotLink := 0, portSub := 0, matchKind := 0, reorderDepth := 0, count := 0,
    interval := 0, skip := 0, corruptMask := 0, corruptDw := 0 }

/-- Fault injection (15 R445 to R449). -/
structure Finj where
  /-- FINJ_DESC as written through the registers. 32 bytes. R445. Reset 0. -/
  bytes : Bytes := List.replicate 32 0
  /-- The armed descriptor, ARM and ACTIVE. R446. Reset none. -/
  armed : Option FinjDesc := none
  /-- REFUSE. 8 bits. R446. Reset 0. -/
  refuse : Nat := 0
  /-- DONE. 16 bits. R446. Reset 0. -/
  done : Nat := 0
  /-- EXPIRED, ABORTED. 2 × 1 bit. R446. Reset 0. -/
  expired : Bool := false
  aborted : Bool := false
  /-- Eligible packets still to pass before the next fault. R445. Reset 0. -/
  toPass : Nat := 0
  deriving DecidableEq, Repr

/-- Integrity state common to the device (15). -/
structure Guard where
  /-- Retirement table at work. At most 1,024 entries. R437. Reset DESIGN CHOICE empty, log 4. -/
  table : List RetEntry := []
  /-- Retirement block in boot flash, two copies. R437, 16 R455. Reset DESIGN CHOICE none, log 4. -/
  tableFlash : FlashPair (List RetEntry) := {}
  /-- SRAM repair map. At most 1,024 entries. R439. Reset DESIGN CHOICE empty, log 4. -/
  repairs : List RepairEntry := []
  /-- GEN of log 0xC7. 32 bits. R441. Reset 0. -/
  gen : Nat := 0
  /-- RS_CE_SYM, RS_CE_DEV, RS_UE, META_MISMATCH, SRAM_SEC, SRAM_DED, RESIDUE, MOD15. R441. Reset 0. -/
  ceSym : Nat := 0
  ceDev : Nat := 0
  ue : Nat := 0
  metaMismatch : Nat := 0
  sramSec : Nat := 0
  sramDed : Nat := 0
  residue : Nat := 0
  mod15 : Nat := 0
  /-- Model time of the last mod-15 mismatch of each unit, and of the last recorded mismatch event of each (unit, code). R425, R432. Reset none. -/
  mod15At : Tbl Nat Nat := []
  noted : Tbl (Nat × Nat) Nat := []
  /-- Model time of the last lockstep mismatch of each core pair, by die and half. R432. Reset none. -/
  lockstepAt : Tbl (Nat × Nat) Nat := []
  /-- Units quarantined at block level, by SOURCE byte. R425. Reset none. -/
  quarantined : List Nat := []
  /-- Check-bit test mode. R442. Reset as its fields. -/
  ecct : Ecct := {}
  /-- Fault injection. R445. Reset as its fields. -/
  finj : Finj := {}
  deriving DecidableEq, Repr

end Sys2Proof.Machine
end

