-- ==== Sys2Proof/Machine/UnitsTrust.lean ====
section
/-!
DEFINITION. Measured boot and trust: fuses, image slots, the heartwood log, member measurements and the owner (16).
Each field's default is its value in `State.reset`.
-/

namespace Sys2Proof.Machine

/-- A member or fabric event that a firmware activation queues for the image that runs after it, with its operands (04 R138). -/
inductive DeferredEvent where
  | glildoLinkStall (link : Nat)
  | regionFault (region reason : Nat)
  | memberPortBringup (slot port : Nat) (speed width : Nat) (info : DriveInfo)
  | memberPortReadyTimeout (slot port : Nat)
  | memberCommandTimeout (slot port tag : Nat)
  | memberAdminTimeout (slot port : Nat)
  | dpcTrigger (slot port cause : Nat)
  | containmentRelease (slot port : Nat)
  | prsntRemoval (slot : Nat)
  | prsntInsertion (slot : Nat)
  | failedPendingTimeout (slot : Nat) (final : Bool)
  | memberAsyncEvent (slot : Nat) (critWarn : BitVec 8) (fwChange : Option Nat) (temp : Nat)
  | withheldTagTimeout (slot port : Nat)
  | ladderStepBoundExpiry (slot port : Nat)
  | memberPcieCompletionTimeout (slot port : Nat)
  deriving DecidableEq, Repr

/-- A heartwood entry (16 R464 to R466) with the unit at which it lies; none while it is held in SRAM. -/
structure HwEntry where
  seqNo : Nat
  kind : Nat
  units : Nat
  unitAt : Option Nat
  bootCount : Nat
  body : Bytes
  /-- All UNITS × 512 bytes, header and signature included. -/
  bytes : Bytes
  deriving DecidableEq, Repr

/-- A member record (16 R463, R466). -/
structure MemberRec where
  slot : Nat
  cls : Nat
  spdm : Bool
  late : Bool
  afi : Nat
  fr : BitVec 64
  nguid : Nat
  measure : Nat
  deriving DecidableEq, Repr

/-- What the owner block holds (16 R473): OWNER_SEQ, the owner key, none for no owner, and MAC. -/
structure OwnerBlock where
  seqNo : Nat
  key : Option Nat
  mac : Nat
  deriving DecidableEq, Repr

/-- A firmware activation in progress (04 R138; 16 R460). -/
structure Activation where
  ref : CmdRef
  toSlot : Nat
  deriving DecidableEq, Repr

/-- Trust state (16 R450 to R475). -/
structure Trust where
  /-- KEY_REVOKE fuses. 4 bits. R450. Reset DESIGN CHOICE 0, log 4. -/
  keyRevoke : BitVec 4 := 0
  /-- FW_SVN: blown bits, 0 to 64. R450. Reset DESIGN CHOICE 0, log 4. -/
  fwSvn : Nat := 0
  /-- OWNER_COUNT: blown bits, 0 to 64. R450. Reset DESIGN CHOICE 0, log 4. -/
  ownerCount : Nat := 0
  /-- Images in slots 1 and 2. 2 × 8 MiB. R454, R456. Reset DESIGN CHOICE none, log 4. -/
  image1 : Option FwImage := none
  image2 : Option FwImage := none
  /-- ACTIVE_SLOT and PENDING_SLOT of slot control. R458. Reset DESIGN CHOICE 1 and 0, log 4: what R458 takes without a copy. -/
  activeSlot : Nat := 1
  pendingSlot : Nat := 0
  /-- Slot control in boot flash, two copies. R455, R458. Reset DESIGN CHOICE none, log 4. -/
  slotFlash : FlashPair (Nat × Nat) := {}
  /-- Slot running, 0 for the recovery loader. R459. Reset DESIGN CHOICE 1, log 4. -/
  running : Nat := 1
  /-- Image running in the management cores. R459, 04 R138. Reset none. -/
  image : Option FwImage := none
  /-- FALLBACK and PENDING_TRIED of this boot. 2 × 1 bit. R459, R465. Reset 0. -/
  fallback : Bool := false
  pendingTried : Bool := false
  /-- CERT_INVALID of this boot. 1 bit. R453. Reset 0. -/
  certInvalid : Bool := false
  /-- CAL_DEFAULT of this boot. 1 bit. 14 R407, R465. Reset 0. -/
  calDefault : Bool := false
  /-- NVMe controller that claims the download slot. R460. Reset none. -/
  claim : Option Nat := none
  /-- Header of the download slot since the last reset or commit: none while no download has erased it, else whether its 512 bytes have been
  programmed since. R460. Reset none. -/
  header : Option Bool := none
  /-- A firmware activation in progress. 04 R138. Reset none. -/
  activating : Option Activation := none
  /-- Member and fabric events of a firmware activation, oldest first, which the image that runs after it handles. 04 R138. Reset none. -/
  deferred : List DeferredEvent := []
  /-- The recovery loader makes a device reset itself within 1 s. 1 bit. R459. Reset 0. -/
  selfReset : Bool := false
  /-- Heartwood entries in flash, rising SEQ. R464. Reset DESIGN CHOICE none, log 4. -/
  entries : List HwEntry := []
  /-- A held entry. R468. Reset none. -/
  held : Option HwEntry := none
  /-- Next unit to program, of 90,112, and units left as garbage. R468. Reset DESIGN CHOICE 0, log 4. -/
  nextUnit : Nat := 0
  garbage : List Nat := []
  /-- Segments that are erased, of 44. R470. Reset DESIGN CHOICE all but segment 0, log 4. -/
  erased : List Nat := (List.range 44).drop 1
  /-- ERASED_SEGMENTS. 32 bits. R471. Reset DESIGN CHOICE 0, log 4. -/
  erasedCount : Nat := 0
  /-- Event 0x9022 has been recorded in this boot. 1 bit. R470. Reset 0. -/
  lowNoted : Bool := false
  /-- Member records of the MEMBERS entry in force, with its SEQ; none before the first. R463, R467. Reset DESIGN CHOICE none, log 4. -/
  members : Option (Nat × List MemberRec) := none
  /-- Member records as now measured. R463. Reset none. -/
  measured : List MemberRec := []
  /-- Owner block: the owner key, none for no owner. R473. Reset DESIGN CHOICE none, log 4. -/
  ownerKey : Option Nat := none
  /-- Owner block in boot flash, two copies. R455, R473. Reset DESIGN CHOICE none, log 4. -/
  ownerFlash : FlashPair OwnerBlock := {}
  /-- Current nonce with the model time at which it was made; none once used. R474. Reset none. -/
  nonce : Option (Nat × Nat) := none
  /-- Owner authorisation in force: SCOPE, and the model time at which it ends. R475. Reset none. -/
  auth : Option (BitVec 3 × Nat) := none
  deriving DecidableEq, Repr

end Sys2Proof.Machine
end

