-- ==== Sys2Proof/Machine/State.lean ====
section
/-!
DEFINITION. The state of the block: every unit's state, the model's own clock, record and free-value counter, and the queue
of waiting commands; the reasons a step can stop; and the state after a cold reset.
-/

namespace Sys2Proof.Machine

/-- Why a step faults. No command of this hardware stops it: every fault the manual names is an effect on the state, so this
closed list is empty and nobody raises it. -/
inductive Fault where
  deriving DecidableEq, Repr

/-- Why a step has no meaning. -/
inductive Refusal where
  /-- Raised by an arm of `exec` whose command has no meaning yet. Safe: nothing is claimed of the state after it. -/
  | notModelled (mnemonic : String)
  deriving DecidableEq, Repr

/-- The state of the block. The default of each field is its value right after a cold reset (02 T3). -/
@[ext]
structure State where
  /-- Device mode, causes and takeover record (02, 17, 18). -/
  mode : ModeState := {}
  /-- Rails, pins and the power-fail detector (19). -/
  power : Power := {}
  /-- Stop record copies (02 R59). -/
  stop : StopArea := {}
  /-- Event recorder (16). -/
  recorder : Recorder := {}
  /-- Host ports 0 and 1 (03). -/
  ports : Tbl Nat HostPort := []
  /-- Functions 0 and 1 (03). -/
  fns : Tbl Nat Func := []
  /-- NVMe controllers by ID, 1 and 2 (04, 05). -/
  ctls : Tbl Nat Ctl := []
  /-- The protected cache (06). -/
  cache : Cache := {}
  /-- Reads, compares and verifies that wait for member data (06 R178). -/
  reads : List ReadJob := []
  /-- Decks and volumes (05, 07, 09, 10, 11). -/
  decks : Decks := {}
  /-- The hold-up pack and its gauge (14). -/
  gauge : Gauge := {}
  /-- The vault (14). -/
  vault : Vault := {}
  /-- The Glildo fabric and the parity blocks (01). -/
  fabric : Fabric := {}
  /-- The power scheduler (13). -/
  sched : Sched := {}
  /-- The vendor features (05 R155). -/
  feats : Features := {}
  /-- Slots, member ports and drives (12). -/
  members : Members := {}
  /-- Integrity: retirement, repair, test mode, fault injection (15). -/
  guard : Guard := {}
  /-- Boot, firmware, heartwood log and owner (16). -/
  trust : Trust := {}
  /-- Model time in ns, advanced by 10 ns by a step on an empty queue. DESIGN CHOICE, log 3. -/
  now : Nat := 0
  /-- Counter of free values drawn: the model's own field, log 1. DESIGN CHOICE 0. -/
  freeCtr : Nat := 0
  /-- What has left the block, newest first: the model's own record. -/
  out : List Out := []
  /-- Commands waiting, first in first out: the model's own queue. -/
  pending : List Instr := []
  deriving DecidableEq, Repr

/-- The machine right after a cold reset: BOOT entered by T3, every field at its default. -/
def State.reset : State := {}

end Sys2Proof.Machine
end

