-- ==== Sys2Proof/Machine/Ops.lean ====
section
/-!
DEFINITION. The operations every family shares: tables, the event recorder, takeovers, asynchronous events, reorder buffer
entries, completions and interrupts.
-/

namespace Sys2Proof.Machine

/-! ## Tables -/

/-- The value a table holds for a key, `d` where it lists none. -/
def tblGet {κ α : Type} [DecidableEq κ] (t : Tbl κ α) (k : κ) (d : α) : α :=
  match t with
  | [] => d
  | (k', v) :: t => if k' = k then v else tblGet t k d

/-- Whether a table lists a key. -/
def tblHas {κ α : Type} [DecidableEq κ] (t : Tbl κ α) (k : κ) : Bool :=
  match t with
  | [] => false
  | (k', _) :: t => decide (k' = k) || tblHas t k

/-- The value a table lists for a key. -/
def tblFind {κ α : Type} [DecidableEq κ] (t : Tbl κ α) (k : κ) : Option α :=
  match t with
  | [] => none
  | (k', v) :: t => if k' = k then some v else tblFind t k

/-- A table with the value of one key replaced in its place, or added at the end. -/
def tblPut {κ α : Type} [DecidableEq κ] (t : Tbl κ α) (k : κ) (v : α) : Tbl κ α :=
  match t with
  | [] => [(k, v)]
  | (k', v') :: t => if k' = k then (k, v) :: t else (k', v') :: tblPut t k v

/-- A table without a key. -/
def tblDel {κ α : Type} [DecidableEq κ] (t : Tbl κ α) (k : κ) : Tbl κ α :=
  match t with
  | [] => []
  | (k', v') :: t => if k' = k then tblDel t k else (k', v') :: tblDel t k

/-! ## Units of the state -/

/-- Host port `i`. -/
def State.port (s : State) (i : Nat) : HostPort := tblGet s.ports i {}

/-- The state with host port `i` replaced. -/
def State.setPort (s : State) (i : Nat) (p : HostPort) : State := { s with ports := tblPut s.ports i p }

/-- Function `i`. -/
def State.fn (s : State) (i : Nat) : Func := tblGet s.fns i {}

/-- The state with function `i` replaced. -/
def State.setFn (s : State) (i : Nat) (f : Func) : State := { s with fns := tblPut s.fns i f }

/-- NVMe controller by ID. -/
def State.ctl (s : State) (id : Nat) : Ctl := tblGet s.ctls id {}

/-- The state with an NVMe controller replaced. -/
def State.setCtl (s : State) (id : Nat) (c : Ctl) : State := { s with ctls := tblPut s.ctls id c }

/-- Memory channel `n`. -/
def State.chan (s : State) (n : Nat) : Channel := tblGet s.cache.channels n {}

/-- The state with a memory channel replaced. -/
def State.setChan (s : State) (n : Nat) (c : Channel) : State :=
  { s with cache := { s.cache with channels := tblPut s.cache.channels n c } }

/-- NVMe controller IDs present: 1, and 2 with HOST_BIF high (00 R15, 03 R70). -/
def State.ctlIds (s : State) : List Nat := if s.power.hostBif then [1, 2] else [1]

/-- Host ports present. -/
def State.portIds (s : State) : List Nat := if s.power.hostBif then [0, 1] else [0]

/-- The record of what leaves the block, with one item more. -/
def emit (o : Out) (s : State) : State := { s with out := o :: s.out }

/-- Host port that an NVMe controller is reached through (00 R15, 03 R70). -/
def ctlPort (s : State) (ctl : Nat) : Nat := if s.power.hostBif then ctl - 1 else 0

/-- A TLP to send or to receive takes the controller's link out of L1 and its substates (03 R93, R94). -/
def leaveL1 (ctl : Nat) (s : State) : State :=
  let i := ctlPort s ctl
  if (s.port i).l1.isNone then s else s.setPort i { s.port i with l1 := none }

/-- Send a TLP on a function's port, which leaves L1 (03 R93). -/
def sendTlp (fn : Nat) (o : Out) (s : State) : State := emit o (leaveL1 (fn + 1) s)

/-- A firmware activation without reset is under way (04 R138). -/
def switching (s : State) : Bool := s.trust.activating.isSome

/-- A member or fabric event of the switch is queued for the new image (04 R138). -/
def deferEvent (i : DeferredEvent) (s : State) : State := { s with trust := { s.trust with deferred := s.trust.deferred ++ [i] } }

/-- A deck, none for a DECK_ID with no deck. -/
def State.deck (s : State) (id : Nat) : Option Deck := tblFind s.decks.decks id

/-- The state with a deck replaced. -/
def State.setDeck (s : State) (id : Nat) (d : Deck) : State := { s with decks := { s.decks with decks := tblPut s.decks.decks id d } }

/-- The state with a deck changed, when it exists. -/
def updDeck (id : Nat) (f : Deck → Deck) (s : State) : State :=
  match s.deck id with
  | some d => s.setDeck id (f d)
  | none => s

/-- A slot. -/
def State.slot (s : State) (x : Nat) : Slot := tblGet s.members.slots x {}

/-- The state with a slot replaced. -/
def State.setSlot (s : State) (x : Nat) (v : Slot) : State :=
  { s with members := { s.members with slots := tblPut s.members.slots x v } }

/-- The state with a slot changed. -/
def updSlot (x : Nat) (f : Slot → Slot) (s : State) : State := s.setSlot x (f (s.slot x))

/-- Live regions. -/
def liveRegions (s : State) : List Nat := (List.range 4).filter fun r => !s.cache.fenced.contains r

/-- A fabric broadcast (R25): from the origin over its star link to the hub, and from there to every live region; it is complete when each
has acknowledged. Which region is the origin is a DESIGN CHOICE (the lowest live one), log 113. -/
def broadcast (s : State) : State :=
  let live := liveRegions s
  match live with
  | [] => s
  | origin :: _ =>
    emit (.broadcast origin live)
      { s with fabric := { s.fabric with broadcast := some { origin := origin, reached := live, acked := live } } }

/-- A free value and the state after drawing it (log 1). -/
def drawFree (s : State) : BitVec 128 × State :=
  (Config.freeValue s.freeCtr, { s with freeCtr := s.freeCtr + 1 })

/-- The hub is powered and out of reset: every mode but SHIP and STANDBY, once RAIL_PG4 has risen (19 R523). -/
def State.hubPowered (s : State) : Bool :=
  decide (s.mode.mode ≠ .ship) && decide (s.mode.mode ≠ .standby) && s.power.hubUp

/-- SERVE or CONSTRAINED. -/
def State.serving (s : State) : Bool := decide (s.mode.mode = .serve) || decide (s.mode.mode = .constrained)

/-- SERVE, CONSTRAINED or QUARANTINE: CSTS.RDY may be set (02 R55). -/
def State.ready (s : State) : Bool := s.serving || decide (s.mode.mode = .quarantine)

/-- STOR_READY (02 R66, R67): high exactly in SERVE, CONSTRAINED and QUARANTINE. -/
def State.storReady (s : State) : Bool := s.ready

/-- DEV_MODE code of a mode (02 R44). -/
def modeCode : DevMode → Nat
  | .ship => 0
  | .standby => 1
  | .boot => 2
  | .restore => 3
  | .serve => 4
  | .constrained => 5
  | .holdup => 6
  | .quarantine => 7

/-! ## Event recorder (16 R476 to R483) -/

/-- Severity of each event code (16 R478, R479; 17 R501). -/
def eventSeverity (code : Nat) : Nat :=
  if [0x4020, 0x4021, 0x6001, 0x7006, 0xF001, 0xF011].contains code then 0
  else if [0x0002, 0x1001, 0x1002, 0x1003, 0x1004, 0x1005, 0x1006, 0x2001, 0x2003, 0x2004, 0x2011, 0x2012, 0x2020, 0x3020,
      0x3022, 0x3031, 0x3042, 0x4004, 0x4022, 0x5000, 0x5002, 0x5004, 0x5010, 0x5011, 0x5012, 0x5020, 0x5030, 0x5032, 0x6002,
      0x6003, 0x6010, 0x7001, 0x7005, 0x7008, 0x7010, 0x8005, 0x8008, 0x8013, 0x8014, 0x8020, 0x8021, 0x8023, 0x8030, 0x9003,
      0x9006, 0x9012, 0x9020, 0x9022, 0x9041, 0xA006].contains code then 2
  else if [0x1010, 0x3032, 0x4001, 0x4005, 0x4012, 0x4030, 0x4031, 0x5005, 0x5013, 0x5033, 0x6004, 0x6007, 0x6020, 0x6023,
      0x7002, 0x7004, 0x7011, 0x8003, 0x8007, 0x8011, 0x8015, 0x8024, 0x8025, 0x9002, 0x9030, 0xA005, 0xA011].contains code then 3
  else if [0x6006, 0x6021, 0x6022, 0x7020, 0x7021, 0x9023, 0xA020].contains code then 4
  else 1

/-- Critical class: 0x0, 0x9, 0xA (16 R478). -/
def criticalClass (code : Nat) : Bool := [0x0, 0x9, 0xA].contains (code / 4096)

/-- Event recorder time (16 R476). -/
def State.recTime (s : State) : BitVec 64 :=
  match s.recorder.timestamp with
  | some (ms, at_) => BitVec.ofNat 64 (ms * 1000000 + (s.now - at_))
  | none => BitVec.ofNat 64 (2 ^ 63 + (s.now - s.recorder.unsetFrom) % 2 ^ 63)

/-- SEQ after SEQ (16 R480): 0xFFFFFFFE wraps to 0, and 0xFFFFFFFF is never taken. -/
def nextSeqOf (n : Nat) : Nat := if n ≥ 0xFFFFFFFE then 0 else n + 1

/-- The latest `cap` records of a ring, oldest first, after one more. -/
def pushRing (cap : Nat) (ring : List EventRec) (r : EventRec) : List EventRec :=
  let l := ring ++ [r]
  l.drop (l.length - cap)

/-- A record belongs in the event spill area (16 R483). -/
def spills (r : EventRec) : Bool := criticalClass r.code || decide (3 ≤ r.severity)

/-- A SEQ is newer than another, across the wrap (16 R480). -/
def seqNewer (a b : Nat) : Bool := decide (a ≠ b) && decide ((a + 0xFFFFFFFF - b) % 0xFFFFFFFF < 2 ^ 31)

/-- A record is newer than every record of the spill area. -/
def afterSpill (c : Recorder) (r : EventRec) : Bool :=
  match c.spill.getLast? with
  | some l => seqNewer r.seqNo l.seqNo
  | none => true

/-- Store a record in the sentinel ring. A record that leaves it before it is spilled counts in SPILL_LOST (16 R483). -/
def pushSent (r : EventRec) (c : Recorder) : Recorder :=
  let lost := if c.sentRing.length < 8192 then false
    else match c.sentRing.head? with
      | some g => spills g && afterSpill c g && !c.spillWait.contains g
      | none => false
  { c with sentRing := pushRing 8192 c.sentRing r, spillLost := if lost then c.spillLost + 1 else c.spillLost }

/-- SOURCE byte of an event: the die and unit that hold the function of the code's class (16 R477; which unit reports each
code is a DESIGN CHOICE, log 11). -/
def eventSource (s : State) (code : Nat) : Nat :=
  if !s.hubPowered then 0xA2
  else if code / 4096 = 1 then 0x05
  else if code / 4096 = 6 then 0x09
  else if code / 4096 = 7 then 0xA1
  else if code / 4096 = 9 then 0x06
  else 0x01 + s.mode.activeHalf

/-- Make one record and store it where it belongs (16 R480, R482, R483): the hub ring while the hub is up and not frozen, the
sentinel ring, and the list that waits for the event spill area. -/
def storeRecord (code : Nat) (params : List Nat) (s : State) : State :=
  let r : EventRec :=
    { seqNo := s.recorder.nextSeq, time := s.recTime, code := code, source := eventSource s code,
      severity := eventSeverity code, params := params.map (· % 2 ^ 32) }
  let keep := spills r
  let rec1 := { s.recorder with nextSeq := nextSeqOf s.recorder.nextSeq }
  let rec2 :=
    if s.hubPowered then
      if s.recorder.frozen then { rec1 with lost := min 0xFFFF (rec1.lost + 1) }
      else { rec1 with hubRing := pushRing 65536 rec1.hubRing r }
    else rec1
  let rec3 := if !s.hubPowered || keep then pushSent r rec2 else rec2
  let rec4 :=
    if keep && s.hubPowered && decide (s.mode.mode ≠ .holdup) then { rec3 with spillWait := rec3.spillWait ++ [r] } else rec3
  { s with recorder := rec4 }

/-- Freeze the hub ring after event 0xF020 (16 R482): 0 by command or register, 1 by trigger. -/
def freezeRing (byTrigger : Bool) (s : State) : State :=
  if s.recorder.frozen then s
  else
    let freezeSeq := nextSeqOf s.recorder.nextSeq
    let s := storeRecord 0xF020 [freezeSeq, if byTrigger then 1 else 0, 0, 0] s
    { s with recorder := { s.recorder with frozen := true, byTrigger := byTrigger, freezeSeq := freezeSeq, postLeft := none } }

/-- Thaw the hub ring; event 0xF021 is the first record stored (16 R482). -/
def thawRing (s : State) : State :=
  if s.recorder.frozen then
    let s := { s with recorder := { s.recorder with frozen := false, byTrigger := false, freezeSeq := 0, trigArmed := true } }
    storeRecord 0xF021 [s.recorder.lost, 0, 0, 0] s
  else s

/-- Whether a record of this code fires the armed trigger (16 R481, R482). -/
def trigFires (r : Recorder) (code : Nat) : Bool :=
  r.trigEn && r.trigArmed && !r.frozen &&
    (decide (r.trigSev ≤ eventSeverity code) || (decide (r.trigCode ≠ 0) && decide (r.trigCode = code)))

/-- Record an event, with the trigger's rule (16 R482): a trigger stores POST_COUNT more records and then freezes, once. -/
def recordEvent (code : Nat) (params : List Nat) (s : State) : State :=
  let fires := trigFires s.recorder code
  let before := s.recorder.postLeft
  let s := storeRecord code params s
  match before with
  | some n =>
    if n ≤ 1 then freezeRing true s else { s with recorder := { s.recorder with postLeft := some (n - 1) } }
  | none =>
    if fires then
      let s := { s with recorder := { s.recorder with trigArmed := false } }
      if s.recorder.postCount = 0 then freezeRing true s
      else { s with recorder := { s.recorder with postLeft := some s.recorder.postCount } }
    else s

/-! ## AER (03 R96; the bits are PCI Express's, PRESUMED, log 57) -/

/-- Uncorrectable Error Mask and Severity, and Correctable Error Mask, as host software set them. -/
def aerMask (f : Func) : BitVec 32 := tblGet f.cfg 0x108 0x00400000#32
def aerSeverity (f : Func) : BitVec 32 := tblGet f.cfg 0x10C 0x00462030#32
def aerCorMask (f : Func) : BitVec 32 := tblGet f.cfg 0x114 0x4000#32

/-- Set an uncorrectable status bit; the first one that is not masked is named by the First Error Pointer, and its header is logged (R83). The
header is that of a TLP which the model does not hold, so it is free (log 57). -/
def aerNote (bit n : Nat) (f : Func) : Func :=
  let f1 := if f.aerUncor.getLsbD f.aerFirst || (aerMask f).getLsbD bit then f else { f with aerFirst := bit, aerHeader := Config.tlpHeader n, aerPrefix := Config.tlpPrefix n }
  { f1 with aerUncor := f1.aerUncor ||| BitVec.ofNat 32 (2 ^ bit) }

/-- An uncorrectable error (R96): its status bit, and a message of its severity under the AER severity and mask settings: 1 non-fatal, 2 fatal. -/
def aerUncorrected (fn bit : Nat) (s : State) : State :=
  let f := s.fn fn
  let fatal := (aerSeverity f).getLsbD bit
  let f1 := aerNote bit s.out.length f
  let s := s.setFn fn { f1 with devSts := f1.devSts ||| (if fatal then 4 else 2) }
  if (aerMask f).getLsbD bit then s else sendTlp fn (.aer fn (if fatal then 2 else 1)) s

/-- An advisory non-fatal error (R96): Advisory Non-Fatal Error Status, bit 13, and, unless that is masked, the uncorrectable bit where it is
known, and a correctable error message (PCI Express). An error whose severity host software has made fatal is no advisory one. -/
def aerAdvisory (fn : Nat) (bit : Option Nat) (s : State) : State :=
  let f := s.fn fn
  let fatal := bit.any fun b => (aerSeverity f).getLsbD b
  let masked := bit.any fun b => (aerMask f).getLsbD b
  if fatal then aerUncorrected fn (bit.getD 0) s
  else
    let f1 := { f with aerCor := f.aerCor ||| 0x2000#32, devSts := f.devSts ||| 1 }
    if (aerCorMask f).getLsbD 13 then s.setFn fn f1
    else
      let s1 := s.setFn fn (match bit with | some b => aerNote b s.out.length f1 | none => f1)
      if masked then s1 else sendTlp fn (.aer fn 0) s1

/-- A single fault absorbed inside the package: Corrected Internal Error Status, bit 14, in every function. The error is masked at reset, and
reported (severity 0) by a function whose mask register, at 0x114, host software has cleared. -/
def aerAbsorbed (s : State) : State :=
  if s.hubPowered then
    s.ctlIds.foldl (fun s id =>
      let f := s.fn (id - 1)
      let s := s.setFn (id - 1) { f with aerCor := f.aerCor ||| 0x4000#32, devSts := f.devSts ||| 1 }
      if (aerCorMask f).getLsbD 14 then s else sendTlp (id - 1) (.aer (id - 1) 0) s) s
  else s

/-- A takeover is complete (17 R493; 18 R511; 03 R96): event 0xA010, TAKEOVER_STAT, a correctable internal error. The time is a free value within the manual's bound
(log 12). -/
def takeover (source level bound code : Nat) (s : State) : State :=
  let us := Config.takeoverUs s.freeCtr % (bound + 1)
  let s := { s with
    freeCtr := s.freeCtr + 1
    mode := { s.mode with
      takeovers := min 0xFFFFFFFF (s.mode.takeovers + 1), lastSource := source, lastLevel := level, lastUs := min 0xFFFF us } }
  let s := recordEvent 0xA010 [source, level, us, code] (aerAbsorbed s)
  if 200 < us ∧ code ≠ 0x1001 then recordEvent 0xA011 [source, level, us, code] s else s

/-- Disarm fault injection for a reason (15 R448): 1 COUNT, 2 time, 3 mode change, 4 device reset, 5 controller reset, 6 end of the
authorisation, 7 a deck left OPTIMAL, 8 by command or register. COUNT and time set EXPIRED, 3 to 7 set ABORTED. -/
def disarmFinj (why : Nat) (s : State) : State :=
  match s.guard.finj.armed with
  | none => s
  | some _ =>
    let f := { s.guard.finj with
      armed := none, expired := s.guard.finj.expired || decide (why ≤ 2),
      aborted := s.guard.finj.aborted || (decide (3 ≤ why) && decide (why ≤ 7)) }
    recordEvent 0xF012 [Config.disarmCause why, s.guard.finj.done, 0, 0] { s with guard := { s.guard with finj := f } }

/-- Take a transition of R46: the new mode, LAST_TRANS, CAUSE and event 0x0001 (02 R45); a mode change disarms fault injection (15 R448). -/
def transit (no : Nat) (dst : DevMode) (cause : Nat) (s : State) : State :=
  let old := s.mode.mode
  let s := disarmFinj 3 s
  let s := { s with mode := { s.mode with mode := dst, lastTrans := no, cause := cause } }
  recordEvent 0x0001 [modeCode old, modeCode dst, no, cause] s

/-! ## Queues: finding entries -/

/-- A submission queue of a controller. -/
def findSq (c : Ctl) (id : Nat) : Option Sq := c.sqs.find? fun q => decide (q.id = id)

/-- A completion queue of a controller. -/
def findCq (c : Ctl) (id : Nat) : Option Cq := c.cqs.find? fun q => decide (q.id = id)

/-- The controller with a submission queue replaced. -/
def putSq (c : Ctl) (q : Sq) : Ctl := { c with sqs := c.sqs.map fun p => if p.id = q.id then q else p }

/-- The controller with a completion queue replaced. -/
def putCq (c : Ctl) (q : Cq) : Ctl := { c with cqs := c.cqs.map fun p => if p.id = q.id then q else p }

/-- A reorder buffer entry in a queue: of the command that has the identifier, not of one that only repeats it. -/
def findRob (q : Sq) (cid : Nat) : Option RobEntry := q.rob.find? fun e => decide (e.cid = cid) && !e.dup

/-- The reorder buffer entry of a command. -/
def robOf (s : State) (r : CmdRef) : Option RobEntry := (findSq (s.ctl r.ctl) r.sqid).bind fun q => findRob q r.cid

/-- The state with the reorder buffer entry of a command changed. -/
def updRob (r : CmdRef) (f : RobEntry → RobEntry) (s : State) : State :=
  match findSq (s.ctl r.ctl) r.sqid with
  | none => s
  | some q =>
    s.setCtl r.ctl (putSq (s.ctl r.ctl) { q with rob := q.rob.map fun e => if e.cid = r.cid ∧ e.dup = false then f e else e })

/-- The command has passed its commit point, or its error completion is queued and passes it in its turn (04 R119). -/
def robDone (e : RobEntry) : Bool := e.committed || e.doom.isSome

/-- Every command before `cid` in the list is done. -/
def earlierCommitted : List RobEntry → Nat → Bool
  | [], _ => true
  | e :: es, cid => if e.cid = cid then true else robDone e && earlierCommitted es cid

/-- The command is fetched and not past its commit point, and its own step has not yet begun (04 R113, R118). -/
def isOpen (s : State) (r : CmdRef) : Bool :=
  match robOf s r with
  | some e => !robDone e && !e.waits
  | none => false

/-- Every earlier command of its queue has passed its commit point (04 R119). -/
def isTurn (s : State) (r : CmdRef) : Bool :=
  match findSq (s.ctl r.ctl) r.sqid with
  | some q => earlierCommitted q.rob r.cid
  | none => false

/-- The command may pass its commit point now: open, and its turn (04 R119). -/
def mayCommit (s : State) (r : CmdRef) : Bool := isOpen s r && isTurn s r

/-- The command passes its commit point with a status and Dword 0 (04 R118). -/
def commitCmd (r : CmdRef) (status dw0 : Nat) (s : State) : State :=
  updRob r (fun e => { e with committed := true, status := status, dw0 := dw0, waits := false, job := none }) s

/-- The command will complete in its turn with an error, and has no effect (04 R119). -/
def failCmd (r : CmdRef) (status : Nat) (s : State) : State :=
  updRob r (fun e => { e with doom := some status, waits := false, job := none }) s

/-- End a command: with an error in its turn, or by its commit point when the status is 0. -/
def endCmd (r : CmdRef) (status dw0 : Nat) (s : State) : State :=
  if status = 0 then commitCmd r 0 dw0 s else failCmd r status s

/-- The command's step has begun and a later step ends it. -/
def waitCmd (r : CmdRef) (nsid : Nat) (s : State) : State :=
  updRob r (fun e => { e with waits := true, nsid := nsid }) s

/-! ## Completion queues and interrupts (03 R90 to R92; 04 R106 to R108) -/

/-- A queue of size n is full when (tail + 1) mod n = head (04 R106). -/
def cqFull (q : Cq) : Bool := decide ((q.tail + 1) % q.size = q.head)

/-- MSI-X Enable and Function Mask of a function: bits 31 and 30 of the dword at 0x050 (03 R83; PCI Express). -/
def msixEnabled (f : Func) : Bool := (tblGet f.cfg 0x050 0).getLsbD 31
def msixMasked (f : Func) : Bool := (tblGet f.cfg 0x050 0).getLsbD 30

/-- Interrupt Disable: bit 10 of the Command register (03 R91; PCI Express). -/
def intxDisabled (f : Func) : Bool := (tblGet f.cfg 0x004 0).getLsbD 10

/-- Send a vector's MSI-X message, with the address and data of its table entry (03 R90). -/
def sendMsix (ctl vec : Nat) (s : State) : State :=
  let m := tblGet (s.fn (ctl - 1)).vectors vec (0, 0)
  sendTlp (ctl - 1) (.msix ctl vec m.1 m.2) s

/-- Signal one interrupt of a vector (03 R90, R91): an MSI-X message or its pending bit, or INTA. -/
def signalVec (ctl vec : Nat) (s : State) : State :=
  let f := s.fn (ctl - 1)
  if msixEnabled f then
    if msixMasked f || !f.unmasked.contains vec then
      if f.pba.contains vec then s else s.setFn (ctl - 1) { f with pba := vec :: f.pba }
    else sendMsix ctl vec s
  else if intxDisabled f || f.intms.getLsbD vec || f.inta then s
  else sendTlp (ctl - 1) (.intx (ctl - 1) true) (s.setFn (ctl - 1) { f with inta := true })

/-- Value of a standard feature in force (05 R154): the one set, else the saved one, else the default. -/
def featValue (c : Ctl) (fid : Nat) (dflt : BitVec 32) : BitVec 32 := tblGet c.feats fid (tblGet c.featsSaved fid dflt)

/-- NOPPME: bit 0 of the Non-Operational Power State Config feature, 0x11; default 1 (05 R163). -/
def noppme (s : State) : Bool := (featValue (s.ctl 1) 0x11 1).getLsbD 0

/-- Aggregation threshold (0's based) and time of Interrupt Coalescing, feature 0x08: THR in [7:0], TIME in [15:8] (03 R92). -/
def coalesceThr (c : Ctl) : Nat := ((featValue c 0x08 0) &&& 0xFF).toNat
def coalesceTime (c : Ctl) : Nat := (((featValue c 0x08 0) >>> 8) &&& 0xFF).toNat

/-- A completion entry has been written: signal its vector, at once or through aggregation (03 R92). -/
def interruptFor (ctl : Nat) (q : Cq) (s : State) : State :=
  if !q.ien then s
  else
    let c := s.ctl ctl
    if q.id = 0 ∨ coalesceTime c = 0 ∨ coalesceThr c = 0 ∨ c.noCoalesce.contains q.iv then signalVec ctl q.iv s
    else
      let n := tblGet c.aggregated q.iv 0 + 1
      if coalesceThr c < n then
        signalVec ctl q.iv (s.setCtl ctl { c with aggregated := tblDel c.aggregated q.iv })
      else s.setCtl ctl { c with aggregated := tblPut c.aggregated q.iv n }

/-- INTA is wanted (03 R91): a completion queue with interrupts enabled holds entries that host software has not taken, its vector not
masked (NVMe, PRESUMED, log 57). -/
def intaWanted (f : Func) (c : Ctl) : Bool :=
  !msixEnabled f && !intxDisabled f && c.cqs.any fun q => q.ien && decide (q.head ≠ q.tail) && !f.intms.getLsbD q.iv

/-- Bring INTA to its level (03 R91). -/
def settleInta (ctl : Nat) (s : State) : State :=
  let f := s.fn (ctl - 1)
  let on := intaWanted f (s.ctl ctl)
  if f.inta = on then s else sendTlp (ctl - 1) (.intx (ctl - 1) on) (s.setFn (ctl - 1) { f with inta := on })

/-- The Controller Memory Buffer answers at its base address (03 R89; 06 R197, R204): CRE and CMSE are set and CBAI is not, the bits that NVMe's
CMBMSC and CMBSTS give for it (DESIGN CHOICE, log 102). -/
def cmbEnabled (c : Ctl) : Bool := c.cre && c.cmse && !c.cbai

/-- An address range lies in the buffer: its offset there (06 R197). -/
def inCmb (c : Ctl) (addr len : Nat) : Option Nat :=
  if cmbEnabled c && decide (c.cba ≤ addr) && decide (addr + len ≤ c.cba + 2 ^ 30) then some (addr - c.cba) else none

/-- The 16 bytes of a completion queue entry (NVMe, PRESUMED, log 129): Dword 0, 0, SQHD with SQID, CID with the phase and the status. -/
def cqeBytes (phase : Bool) (sqid sqhd cid status dw0 : Nat) : Bytes :=
  leBytes 4 dw0 ++ zeros 4 ++ leBytes 2 sqhd ++ leBytes 2 sqid ++ leBytes 2 cid ++ leBytes 2 ((if phase then 1 else 0) + 2 * status)

/-- The controller writes its own buffer (06 R197): the bytes take their frames as soon as frames can be given (`drainLate`). -/
def writeLate (ctl off : Nat) (bs : Bytes) (s : State) : State := s.setCtl ctl { s.ctl ctl with late := (s.ctl ctl).late ++ [(off, bs)] }

/-- Write a completion entry into a queue that is not full: slot, phase, tail (04 R108); a queue in the Controller Memory Buffer is written there
(06 R197). -/
def writeCqe (ctl cqid sqid sqhd cid status dw0 : Nat) (s : State) : State :=
  match findCq (s.ctl ctl) cqid with
  | none => s
  | some q =>
    let tail := (q.tail + 1) % q.size
    let q' := { q with
      tail := tail, phase := if tail = 0 then !q.phase else q.phase }
    let s := s.setCtl ctl (putCq (s.ctl ctl) q')
    let s := match inCmb (s.ctl ctl) (q.base + 16 * q.tail) 16 with
      | some off => writeLate ctl off (cqeBytes q.phase sqid sqhd cid status dw0) s
      | none => s
    let s := sendTlp (ctl - 1) (.cqe ctl cqid q.tail q.phase sqid sqhd cid status dw0) s
    interruptFor ctl q' s

/-- A completion queue that exists and is not full. -/
def cqRoom (c : Ctl) (cqid : Nat) : Bool :=
  match findCq c cqid with
  | some q => !cqFull q
  | none => false

/-- An Error Information entry for a command that completes with an error (05 R153; NVMe's rule, PRESUMED, log 6). -/
def logError (ctl sqid cid status nsid lba : Nat) (s : State) : State :=
  if status = 0 then s
  else
    let c := s.ctl ctl
    s.setCtl ctl { c with
      errCount := c.errCount + 1,
      errLog := ({ count := c.errCount + 1, sqid := sqid, cid := cid, status := status, nsid := nsid, lba := lba } :: c.errLog).take 256 }

/-! ## Asynchronous events (02 R50; 04 R110, R127; 05 R145, R149) -/

/-- Asynchronous Event Configuration in force (05 R154): the value set, else the saved one, else the default 0x9FF
(DESIGN CHOICE, log 13). -/
def aenConfig (c : Ctl) : BitVec 32 := featValue c 0x0B 0x9FF

/-- Report waiting events on outstanding requests, oldest first, as long as the admin completion queue has room. -/
def deliverAens (ctl : Nat) : Nat → State → State
  | 0, s => s
  | n + 1, s =>
    let c := s.ctl ctl
    match c.aers, c.aens.find? (fun a => !c.aenMasked.contains a.kind) with
    | cid :: rest, some a =>
      if cqRoom c 0 && !(s.fn (ctl - 1)).d3hot then
        let s := s.setCtl ctl { c with aers := rest, aens := c.aens.erase a, aenMasked := a.kind :: c.aenMasked }
        let sqhd := match findSq c 0 with | some q => q.head | none => 0
        deliverAens ctl n (writeCqe ctl 0 0 sqhd cid 0 (a.kind + a.info * 2 ^ 8 + a.lid * 2 ^ 16) s)
      else s
    | _, _ => s

/-- A waiting event is allowed: one of a Critical Warning bit that was set before a request came, as the configuration in force when the
first request comes allows (02 R50). -/
def aenAllowed (c : Ctl) (a : Aen) : Bool :=
  match a.standing with
  | some b => (aenConfig c).getLsbD b
  | none => true

/-- Raise an asynchronous event on a controller; `standing` names the bit of an event that waits for the first request (02 R50). -/
def raiseAenAs (standing : Option Nat) (ctl kind info lid : Nat) (s : State) : State :=
  let c := s.ctl ctl
  let a : Aen := { kind := kind, info := info, lid := lid, standing := standing }
  let s := if c.aens.contains a then s else s.setCtl ctl { c with aens := c.aens ++ [a] }
  deliverAens ctl 8 s

/-- Raise an asynchronous event on a controller. -/
def raiseAen (ctl kind info lid : Nat) (s : State) : State := raiseAenAs none ctl kind info lid s

/-- Raise an asynchronous event on every controller present, where the configuration bit allows it. -/
def raiseAenAll (bit kind info lid : Nat) (s : State) : State :=
  s.ctlIds.foldl (fun s id => if (aenConfig (s.ctl id)).getLsbD bit then raiseAen id kind info lid s else s) s

/-- A vendor-specific asynchronous event (type 7h) with a log page, on every controller. -/
def raiseVendorAen (lid : Nat) (s : State) : State :=
  s.ctlIds.foldl (fun s id => raiseAen id 7 0 lid s) s

/-- Information codes of SMART / Health events by Critical Warning bit: bit 1 temperature 01h, others 00h (NVMe, PRESUMED, log 6). -/
def smartInfo (bit : Nat) : Nat := if bit = 1 then 1 else 0

/-- Report the Critical Warning bits now (02 R50): a bit that becomes set raises its event on each controller that is ready. -/
def reportCritWarn (w : BitVec 8) (s : State) : State :=
  let old := s.mode.critWarn
  let s := { s with mode := { s.mode with critWarn := w } }
  [0, 1, 2, 3, 4].foldl (fun s b =>
    if w.getLsbD b && !old.getLsbD b then
      s.ctlIds.foldl (fun s id =>
        if (s.ctl id).rdy && (aenConfig (s.ctl id)).getLsbD b then raiseAen id 1 (smartInfo b) 0x02 s else s) s
    else s) s

/-- The events of bits that are already set when CSTS.RDY becomes 1 on a controller (02 R50): whether they are allowed is decided when the
first request comes. -/
def raiseStanding (ctl : Nat) (s : State) : State :=
  [0, 1, 2, 3, 4].foldl (fun s b => if s.mode.critWarn.getLsbD b then raiseAenAs (some b) ctl 1 (smartInfo b) 0x02 s else s) s

/-- A namespace has changed: the Changed Namespace List and the event, on each controller it is attached to (05 R145). -/
def namespaceChanged (nsid : Nat) (ctls : List Nat) (s : State) : State :=
  ctls.foldl (fun s id =>
    if s.ctlIds.contains id then
      let c := s.ctl id
      let s := s.setCtl id { c with changedNs := if c.changedNs.contains nsid then c.changedNs else c.changedNs ++ [nsid] }
      if (aenConfig (s.ctl id)).getLsbD 8 then raiseAen id 2 0 0x04 s else s
    else s) s

/-- An ANA group's state has changed on a controller: change count and event (05 R149). The log has one change count, and each group
descriptor shows it too (DESIGN CHOICE, log 126). -/
def anaChanged (ctls : List Nat) (s : State) : State :=
  ctls.foldl (fun s id =>
    if s.ctlIds.contains id then
      let c := s.ctl id
      let s := s.setCtl id { c with anaCount := c.anaCount + 1 }
      if (aenConfig (s.ctl id)).getLsbD 11 then raiseAen id 2 3 0x0C s else s
    else s) s

/-! ## Latency tolerance (03 R95) -/

/-- Commands fetched and not yet posted on a controller; a waiting Asynchronous Event Request keeps no work open (DEDUCED, log 15). -/
def openCount (c : Ctl) : Nat := c.sqs.foldl (fun n q => n + q.rob.length) 0

/-- Send an LTR message when the value changes, on a link that is up: 100 µs while a fetched command is open, 2 ms while none is (03 R95). -/
def updateLtr (ctl : Nat) (s : State) : State :=
  let p := ctlPort s ctl
  let us := if openCount (s.ctl ctl) = 0 then 2000 else 100
  if (s.port p).ltrUs = us ∨ (s.port p).linkUp = false then s
  else sendTlp (ctl - 1) (.ltr p us) (s.setPort p { s.port p with ltrUs := us })

/-! ## Structural faults (04 R126, R127) -/

/-- A submission queue meets a structural fault (04 R127): HALTED, halt record, GEN, event 0x1010 and vendor event. A queue that is HALTED
already keeps the last tail value written. -/
def haltAs (ctl : Nat) (q : Sq) (reason info : Nat) (cid : Option Nat) (s : State) : State :=
  let c := s.ctl ctl
  let h : HaltRec :=
    { reason := reason, cidValid := cid.isSome, cid := cid.getD 0, head := q.head, tail := q.tail, faultInfo := info,
      lateTail := (q.halt.map fun h => h.lateTail).getD q.tail, time := s.recTime }
  let s := s.setCtl ctl { putSq c { q with state := .halted, halt := some h } with haltGen := c.haltGen + 1 }
  let s := recordEvent 0x1010 [q.id, reason, q.head, info] s
  raiseAen ctl 7 0 0xC2 s

/-- Halt an I/O submission queue that is ACTIVE. -/
def haltQueue (ctl sqid reason info : Nat) (cid : Option Nat) (s : State) : State :=
  match findSq (s.ctl ctl) sqid with
  | none => s
  | some q => if sqid = 0 ∨ q.state ≠ .active then s else haltAs ctl q reason info cid s

/-- QHALT_MAP bit of a submission queue (04 R128). -/
def qhaltBit (c : Ctl) (sqid : Nat) : Bool :=
  match findSq c sqid with
  | some q => decide (q.state = .halted)
  | none => false

/-- Commands of a queue that are fetched and not yet posted, Asynchronous Event Requests that wait for an event among them (04 R111). -/
def fetchedOf (c : Ctl) (q : Sq) : Nat := q.rob.length + (if q.id = 0 then c.aers.length else 0)

/-- Entries of the reorder buffers in use by all queues (04 R111). -/
def robInUse (s : State) : Nat :=
  s.ctls.foldl (fun n p => n + p.2.sqs.foldl (fun n q => n + fetchedOf p.2 q) 0) 0

/-- Shared reorder buffer entries that are free: 262,144 less 16 for each existing queue, less what queues use beyond 16 (04 R111). -/
def robSharedFree (s : State) : Nat :=
  let queues := s.ctls.foldl (fun n p => n + p.2.sqs.length) 0
  let used := s.ctls.foldl (fun n p => n + p.2.sqs.foldl (fun n q => n + (fetchedOf p.2 q - 16)) 0) 0
  262144 - 16 * queues - used

end Sys2Proof.Machine
end

