-- ==== Sys2Proof/Machine/Pointers.lean ====
section
/-!
DEFINITION. Data pointers of commands: the checks of PRPs and SGLs, and the pieces of host memory that they name (04 R114 to R117).
-/

namespace Sys2Proof.Machine

/-- Outcome of the checks of a data pointer: good, an NVMe status, or a halt with its reason and fault information. -/
inductive PtrCheck where
  | good
  | status (code : Nat)
  | halt (reason info : Nat)
  deriving DecidableEq, Repr

/-- Index (1's based) of the first entry with a non-zero offset among the first `n` entries of a list page. -/
def badEntry (page : Nat) : Nat → Nat → List Nat → Option Nat
  | 0, _, _ => none
  | _, _, [] => none
  | n + 1, i, e :: es => if e % page ≠ 0 then some i else badEntry page n (i + 1) es

/-- Walk PRP list pages: `need` data entries, `cap` entries in this page, `seen` entries before it (04 R115). -/
def prpLists (page need cap seen : Nat) : List (List Nat) → PtrCheck
  | [] => .good
  | l :: ls =>
    match badEntry page (min need cap) (seen + 1) l with
    | some i => .halt 7 i
    | none => if need ≤ cap then .good else prpLists page (need - (cap - 1)) (page / 8) (seen + cap) ls

/-- Check PRPs for a transfer of `len` bytes. -/
def checkPrp (page len prp1 prp2 : Nat) (lists : List (List Nat)) : PtrCheck :=
  if prp1 % 4 ≠ 0 then .status 0x13
  else
    let rest := len - (page - prp1 % page)
    if len ≤ page - prp1 % page then .good
    else if rest ≤ page then (if prp2 % page ≠ 0 then .halt 7 0 else .good)
    else if prp2 % 8 ≠ 0 then .status 0x13
    else prpLists page (ceilDiv rest page) ((page - prp2 % page) / 8) 0 lists

/-- What an SGL walk has counted. -/
structure SglWalk where
  blocks : Nat
  sum : Nat
  seen : List Nat
  deriving DecidableEq, Repr

/-- A Segment or Last Segment descriptor's own checks (04 R117), and the count of traversed segments. -/
def checkSegment (w : SglWalk) (d : SglDesc) : PtrCheck :=
  if d.addr % 16 ≠ 0 ∨ d.len % 16 ≠ 0 ∨ d.len < 16 ∨ 4096 < d.len then .status 0x0D
  else if w.seen.contains d.addr then .halt 5 w.seen.length
  else if 64 ≤ w.seen.length then .halt 6 w.seen.length
  else .good

/-- Walk the descriptors of one segment: the outcome, the counts, and the segment descriptor that ends it. A segment descriptor that
does not end its segment is invalid (NVMe, PRESUMED, log 34). -/
def walkDescs (isRead inLast : Bool) : List SglDesc → SglWalk → PtrCheck × SglWalk × Option SglDesc
  | [], w => (.good, w, none)
  | d :: ds, w =>
    match d.kind with
    | .dataBlock =>
      if 4096 ≤ w.blocks then (.status 0x0E, w, none)
      else walkDescs isRead inLast ds { w with blocks := w.blocks + 1, sum := w.sum + d.len }
    | .bitBucket =>
      if !isRead then (.status 0x11, w, none)
      else if 4096 ≤ w.blocks then (.status 0x0E, w, none)
      else walkDescs isRead inLast ds { w with blocks := w.blocks + 1, sum := w.sum + d.len }
    | .unsupported => (.status 0x11, w, none)
    | .segment | .lastSegment =>
      if inLast then (.status 0x11, w, none)
      else if !ds.isEmpty then (.status 0x0D, w, none)
      else
        match checkSegment w d with
        | .good => (.good, { w with seen := d.addr :: w.seen }, some d)
        | r => (r, w, none)

/-- Walk the chain of segments. -/
def walkSegs (isRead : Bool) : List (List SglDesc) → SglDesc → SglWalk → PtrCheck × SglWalk
  | [], _, w => (.good, w)
  | l :: ls, d, w =>
    match walkDescs isRead (decide (d.kind = .lastSegment)) (l.take (d.len / 16)) w with
    | (.good, w, some n) => walkSegs isRead ls n w
    | (.good, w, none) => (.good, w)
    | (r, w, _) => (r, w)

/-- Check an SGL for a transfer of `len` bytes. -/
def checkSgl (isRead : Bool) (len : Nat) (first : SglDesc) (segs : List (List SglDesc)) : PtrCheck :=
  let r := match walkDescs isRead false [first] { blocks := 0, sum := 0, seen := [] } with
    | (.good, w, some d) => walkSegs isRead segs d w
    | (c, w, _) => (c, w)
  match r.1 with
  | .good => if r.2.sum = len then .good else .status 0x0F
  | c => c

/-- Check a data pointer for a transfer of `len` bytes (04 R114 to R117). -/
def checkPtr (mps : Nat) (isRead : Bool) (len : Nat) (p : DataPtr) : PtrCheck :=
  if 2 * 1048576 < len then .status 0x02
  else
    match p with
    | .prp p1 p2 lists => checkPrp (2 ^ (12 + mps)) len p1 p2 lists
    | .sgl first segs => checkSgl isRead len first segs
    | .reservedPsdt => .status 0x02

/-- Data entries of PRP list pages: `need` of them, `cap` entries in this page, of which the last chains to the next page (04 R115). -/
def listEntries (page need cap : Nat) : List (List Nat) → List Nat
  | [] => []
  | l :: ls => if need ≤ cap then l.take need else l.take (cap - 1) ++ listEntries page (need - (cap - 1)) (page / 8) ls

/-- Pages that hold `rest` bytes, each whole but the last. -/
def pagePieces (page : Nat) : Nat → List Nat → List (Option Nat × Nat)
  | _, [] => []
  | rest, e :: es => if rest = 0 then [] else (some e, min page rest) :: pagePieces page (rest - min page rest) es

/-- An SGL descriptor's piece of the transfer: an address, or none for a bit bucket (04 R116). -/
def descPiece (d : SglDesc) : List (Option Nat × Nat) :=
  match d.kind with
  | .dataBlock => [(some d.addr, d.len)]
  | .bitBucket => [(none, d.len)]
  | _ => []

/-- The pieces of an SGL's segments, from the segment descriptor that names the first of them. -/
def segPieces : List (List SglDesc) → SglDesc → List (Option Nat × Nat)
  | [], _ => []
  | l :: ls, d =>
    let ds := l.take (d.len / 16)
    ds.flatMap descPiece ++
      (match ds.getLast? with
      | some n => if n.kind = .segment ∨ n.kind = .lastSegment then segPieces ls n else []
      | none => [])

/-- The pieces of host memory that a data pointer names, in the order of the transfer: address and length. -/
def ptrPieces (mps len : Nat) : DataPtr → List (Option Nat × Nat)
  | .prp p1 p2 lists =>
    let page := 2 ^ (12 + mps)
    let first := min len (page - p1 % page)
    let rest := len - first
    (some p1, first) ::
      (if rest ≤ page then pagePieces page rest [p2]
      else pagePieces page rest (listEntries page (ceilDiv rest page) ((page - p2 % page) / 8) lists))
  | .sgl first segs =>
    match first.kind with
    | .segment | .lastSegment => segPieces segs first
    | _ => descPiece first
  | .reservedPsdt => []

/-- PRP1 of a data pointer. -/
def firstAddr : DataPtr → Nat
  | .prp p1 _ _ => p1
  | _ => 0

/-- Host address ranges of a transfer, of the bytes it moves only. -/
def ptrRanges (mps len : Nat) (p : DataPtr) : List (Nat × Nat) :=
  (ptrPieces mps len p).filterMap fun x => x.1.map fun a => (a, x.2)

end Sys2Proof.Machine
end

