-- ==== Sys2Proof/Machine/ConfigSpace.lean ====
section
/-!
DEFINITION. Configuration space of a function: the dwords of its header and of the capabilities of 03 R83, what each reads and which bits of it
host software may write (03 R70, R73, R75, R76, R81 to R85, R90, R93, R96, R99). The manual gives the capabilities, their offsets and the
values of its notes; the places of the fields, and the values that those notes do not give, are PCI Express's (PRESUMED, log 57).
-/

namespace Sys2Proof.Machine

/-- One dword: bits of a fixed value, bits whose value neither the manual nor PCI Express fixes (`Config.cfgReset`, log 7), bits that host
software may write, and what those read after reset. Every other bit reads 0. -/
structure CfgDword where
  fixed : BitVec 32 := 0
  free : BitVec 32 := 0
  rw : BitVec 32 := 0
  init : BitVec 32 := 0
  deriving DecidableEq, Repr

/-- The header of an extended capability: its identifier, version and the next capability's offset. -/
def capHeader (id version next : Nat) : CfgDword := { fixed := BitVec.ofNat 32 (id + version * 2 ^ 16 + next * 2 ^ 20) }

/-- Type 0 header (R82, R85). Interrupt Disable, SERR#, Bus Master and Memory Space are writable; no I/O BAR exists. -/
def headerDwords : List (Nat × CfgDword) :=
  [(0x000, { fixed := 0x64801F5C#32 }), (0x004, { fixed := 0x00100000#32, rw := 0x0546#32 }), (0x008, { fixed := 0x01080200#32 }),
   (0x00C, { rw := 0xFF#32 }), (0x010, { fixed := 0x4#32, rw := 0xFFFF0000#32 }), (0x014, { rw := 0xFFFFFFFF#32 }),
   (0x018, { fixed := 0xC#32, rw := 0xC0000000#32 }), (0x01C, { rw := 0xFFFFFFFF#32 }), (0x020, { fixed := 0x4#32, rw := 0xFFFF0000#32 }),
   (0x024, { rw := 0xFFFFFFFF#32 }), (0x02C, { fixed := 0x64801F5C#32 }), (0x034, { fixed := 0x40#32 }),
   (0x03C, { fixed := 0x100#32, rw := 0xFF#32 })]

/-- Power Management, without D1, D2 and PME, with No_Soft_Reset (R81), and MSI-X: 2,048 vectors, table at 0x0000 and PBA at 0x8000 of BAR4
(R83, R90). PowerState is held by `Func.d3hot`. -/
def powerAndMsix : List (Nat × CfgDword) :=
  [(0x040, { fixed := 0x00035001#32 }), (0x044, { fixed := 0x8#32 }),
   (0x050, { fixed := 0x07FF7011#32, rw := 0xC0000000#32 }), (0x054, { fixed := 0x4#32 }), (0x058, { fixed := 0x8004#32 })]

/-- PCI Express: an endpoint; Max_Payload_Size to 512 bytes, FLR, 8-bit tags and above, role-based errors; 64 GT/s at the greatest and L1
with an exit latency of 4 µs to 8 µs and no clock power management; completion timeout ranges B, C and D with disable, LTR, and end-end TLP
prefixes, which the prefix log of AER needs (DEDUCED, log 57), as many as `Config.cfgReset` says; no AtomicOp, TPH or OBFF (R73, R75, R80, R83, R84, R93). Max_Read_Request_Size is 512 bytes at reset, and Enable Relaxed Ordering 1. -/
def pciExpress : List (Nat × CfgDword) :=
  [(0x070, { fixed := 0x00020010#32 }), (0x074, { fixed := 0x10008022#32, free := 0x00000E00#32 }),
   (0x078, { rw := 0x7FFF#32, init := 0x2910#32 }), (0x07C, { fixed := 0x00418806#32, free := 0xFF000000#32 }),
   (0x080, { free := 0x10000000#32, rw := 0x03CB#32 }),
   (0x094, { fixed := 0x0033081E#32, free := 0x00C00000#32 }), (0x098, { rw := 0x141F#32 }),
   (0x09C, { fixed := 0x7E#32, free := 0x01FFFE00#32 }), (0x0A0, { free := 0xFBFF0000#32, rw := 0xFFFF#32, init := 0x6#32 })]

/-- Advanced Error Reporting (R83, R96): masks and severities, without ECRC (00 R3); the status, the first error pointer, the header log and the TLP
prefix log are state. The internal error is masked at reset; surprise down, flow-control error, receiver overflow, malformed TLP and internal error are fatal at reset. -/
def errorReporting : List (Nat × CfgDword) :=
  [(0x100, { fixed := 0x15000001#32, free := 0x000F0000#32 }), (0x108, { rw := 0x0455F030#32, init := 0x00400000#32 }),
   (0x10C, { rw := 0x0455F030#32, init := 0x00462030#32 }), (0x114, { rw := 0xF1C1#32, init := 0x4000#32 })]

/-- Device Serial Number, Secondary PCI Express, Data Link Feature with scaled flow control, and the Physical Layer structures of 16.0, 32.0 and
64.0 GT/s with their lanes' equalisation (R83). -/
def physicalLayers : List (Nat × CfgDword) :=
  let lanes := fun (at_ n : Nat) => (List.range n).map fun i => (at_ + 4 * i, ({ free := 0xFFFFFFFF#32 } : CfgDword))
  [(0x150, capHeader 0x0003 1 0x160), (0x160, capHeader 0x0019 1 0x1B0), (0x1B0, capHeader 0x0025 1 0x1C0),
   (0x1B4, { fixed := 0x80000001#32 }), (0x1B8, { free := 0x807FFFFF#32 }), (0x1C0, capHeader 0x0026 1 0x200),
   (0x200, capHeader 0x002A 1 0x240), (0x240, capHeader 0x0031 1 0x280)] ++
  lanes 0x168 9 ++ lanes 0x1CC 4 ++ lanes 0x1E0 4 ++ lanes 0x204 11 ++ lanes 0x244 7

/-- Lane Margining at the Receiver: the port registers, and a command and a status per lane, at No Command after reset (R83). -/
def laneMargining : List (Nat × CfgDword) :=
  [(0x280, capHeader 0x0027 1 0x300), (0x284, { free := 0x00010001#32 })] ++
  (List.range 16).map fun i => (0x288 + 4 * i, { free := 0xFFFF0000#32, rw := 0xFFFF#32, init := 0x9C38#32 })

/-- L1 PM Substates: PCI-PM and ASPM L1.1 and L1.2, T_POWER_ON 7 × 10 µs and Common_Mode_Restore_Time 40 µs, all disabled at reset; Latency
Tolerance Reporting; Device 3: 14-bit tags both ways, L0p with an exit latency of 8 µs to 16 µs (R83, R93). -/
def lowPower : List (Nat × CfgDword) :=
  [(0x300, { fixed := 0x3200001E#32, free := 0x000F0000#32 }), (0x304, { fixed := 0x0039281F#32 }), (0x308, { rw := 0xE3FF000F#32 }),
   (0x30C, { rw := 0xFB#32, init := 0x28#32 }), (0x320, capHeader 0x0018 1 0x330), (0x324, { rw := 0x1FFF1FFF#32 }),
   (0x330, capHeader 0x002F 1 0x340), (0x334, { fixed := 0x4E#32 }), (0x338, { rw := 0x7C#32 }), (0x33C, { free := 0xFFFFFFFF#32 })]

/-- Flit Logging, whose counters and logs neither text gives, and Data Object Exchange, without its interrupt (00 R3; R83, R99). -/
def flitAndDoe : List (Nat × CfgDword) :=
  [(0x340, capHeader 0x0032 1 0x380)] ++ (List.range 15).map (fun i => (0x344 + 4 * i, { free := 0xFFFFFFFF#32 })) ++
  [(0x380, capHeader 0x002E 1 0), (0x384, {}), (0x388, {})]

/-- Every dword that does not read 0 whole: no capability lies anywhere else (R83, R84). -/
def cfgTable : List (Nat × CfgDword) :=
  headerDwords ++ powerAndMsix ++ pciExpress ++ errorReporting ++ physicalLayers ++ laneMargining ++ lowPower ++ flitAndDoe

/-- The row of a dword. -/
def cfgRow (off : Nat) : CfgDword := tblGet cfgTable off {}

/-- The bits of a dword that host software writes, as they stand. -/
def cfgWritten (f : Func) (off : Nat) : BitVec 32 := tblGet f.cfg off (cfgRow off).init &&& (cfgRow off).rw

/-- Full width of a host port in lanes (R70). -/
def fullWidth (s : State) : Nat := if s.power.hostBif then 8 else 16

/-- Port that a function is reached through: one function per port (R70, R71). -/
def fnPort (s : State) (fn : Nat) : HostPort := s.port (if s.power.hostBif then fn else 0)

/-- Code of a link speed: 1 for 2.5 GT/s to 6 for 64 GT/s (the model writes 2.5 as 2). -/
def linkSpeedCode (speed : Nat) : Nat :=
  if speed = 2 then 1 else if speed = 5 then 2 else if speed = 8 then 3 else if speed = 16 then 4 else if speed = 32 then 5
  else if speed = 64 then 6 else 0

/-- What the state gives of a dword: stepping, interrupt status, power state, device and link status, AER status and log, DSN, DOE status and
read mailbox. -/
def cfgState (s : State) (fn off : Nat) : BitVec 32 :=
  let f := s.fn fn
  let p := fnPort s fn
  if off = 0x004 then (if f.inta then 0x80000#32 else 0)
  else if off = 0x008 then (Config.dieStep 0).setWidth 32
  else if off = 0x044 then (if f.d3hot then 0x3#32 else 0)
  else if off = 0x078 then f.devSts.setWidth 32 <<< 16
  else if off = 0x07C then BitVec.ofNat 32 (fullWidth s * 2 ^ 4)
  else if off = 0x080 then BitVec.ofNat 32 (linkSpeedCode p.speed * 2 ^ 16 + p.width * 2 ^ 20)
  else if off = 0x0A0 then (if p.flit then 0x04000000#32 else 0)
  else if off = 0x104 then f.aerUncor
  else if off = 0x110 then f.aerCor
  else if off = 0x118 then BitVec.ofNat 32 (f.aerFirst + if f.aerPrefix = 0 then 0 else 2 ^ 11)
  else if 0x11C ≤ off ∧ off < 0x12C then (f.aerHeader >>> (8 * (off - 0x11C))).setWidth 32
  else if 0x138 ≤ off ∧ off < 0x148 then (f.aerPrefix >>> (8 * (off - 0x138))).setWidth 32
  else if off = 0x154 then Config.dsn.setWidth 32
  else if off = 0x158 then (Config.dsn >>> 32).setWidth 32
  else if off = 0x38C then
    (if f.doeBusy then 0x1#32 else 0) ||| (if f.doeError then 0x4#32 else 0) ||| (if f.doeOut.isEmpty then 0 else 0x80000000#32)
  else if off = 0x394 then f.doeOut.headD 0
  else 0

/-- What a configuration dword reads (R79, R82, R83). -/
def cfgRead (s : State) (fn off : Nat) : BitVec 32 :=
  (cfgRow off).fixed ||| cfgState s fn off ||| (Config.cfgReset fn off &&& (cfgRow off).free) ||| cfgWritten (s.fn fn) off

/-! ## Requests (R75, R76) -/

/-- Largest payload of a request that the function issues: Max_Payload_Size as host software set it, at most 512 bytes (R75). -/
def maxPayload (f : Func) : Nat := min 512 (128 * 2 ^ ((cfgWritten f 0x078).toNat / 2 ^ 5 % 8))

/-- Largest read that it requests: Max_Read_Request_Size, at most 4,096 bytes (R75). -/
def maxReadRequest (f : Func) : Nat := min 4096 (128 * 2 ^ ((cfgWritten f 0x078).toNat / 2 ^ 12 % 8))

/-- Enable Relaxed Ordering (R76). -/
def relaxedEnabled (f : Func) : Bool := (cfgWritten f 0x078).getLsbD 4

/-- Requests of one range: none longer than `size` bytes, none across a 4 KiB boundary (PCI Express). -/
def splitRange (size : Nat) : Nat → Nat → Nat → List (Nat × Nat)
  | 0, _, _ => []
  | n + 1, addr, len =>
    if len = 0 then []
    else
      let k := min len (min size (4096 - addr % 4096))
      (addr, k) :: splitRange size n (addr + k) (len - k)

/-- Number the requests with 14-bit tags from a first one on. -/
def tagRequests : Nat → List (Nat × Nat) → List HostReq
  | _, [] => []
  | i, r :: rs => { tag := BitVec.ofNat 14 i, addr := r.1, len := r.2 } :: tagRequests (i + 1) rs

/-- The read requests that bring host memory ranges to the controller, numbered on from the port's next tag (R75). -/
def readRequests (f : Func) (first : Nat) (ranges : List (Nat × Nat)) : List HostReq :=
  tagRequests first (ranges.flatMap fun r => splitRange (maxReadRequest f) (r.2 / maxReadRequest f + r.2 / 4096 + 2) r.1 r.2)

/-- Requests in groups of at most 4,096. -/
def readGroups : Nat → List HostReq → List (List HostReq)
  | 0, _ => []
  | n + 1, rs => if rs.isEmpty then [] else rs.take 4096 :: readGroups n (rs.drop 4096)

/-- Issue the next requests of a function, at most 4,096: they are the port's outstanding ones, in place of the last ones, which have completed
(R75). -/
def issueReads (fn : Nat) (rs : List HostReq) (s : State) : State :=
  let k := if s.power.hostBif then fn else 0
  let p := s.port k
  sendTlp fn (.hostRead fn rs) (s.setPort k { p with outstanding := rs, nextTag := (p.nextTag + rs.length) % 2 ^ 14 })

/-- Request ranges of host memory on a function (R75). What the requests bring is an operand of the command that issues them, so that each group of
requests has completed before the next is issued (DESIGN CHOICE, log 143). -/
def requestHost (fn : Nat) (ranges : List (Nat × Nat)) (s : State) : State :=
  let rs := readRequests (s.fn fn) (fnPort s fn).nextTag ranges
  (readGroups (rs.length / 4096 + 1) rs).foldl (fun t g => issueReads fn g t) s

/-- Bytes for the host, without the parts that lie in the Controller Memory Buffer: those with their offsets, and the bytes that go to host memory. -/
def partData (c : Ctl) : List (Option Nat × Nat) → Bytes → List (Nat × Bytes) × Bytes
  | [], bs => ([], bs)
  | p :: ps, bs =>
    let r := partData c ps (bs.drop p.2)
    match p.1.bind fun a => inCmb c a p.2 with
    | some off => ((off, bs.take p.2) :: r.1, r.2)
    | none => (r.1, bs.take p.2 ++ r.2)

/-- Write bytes to host memory for a command. -/
def sendHost (ref : CmdRef) (data : Bytes) (s : State) : State :=
  let f := s.fn (ref.ctl - 1)
  sendTlp (ref.ctl - 1) (.hostData ref data (relaxedEnabled f) (maxPayload f)) s

/-- Data for the host buffer of a command, written with Relaxed Ordering where the function enables it, in payloads of the size it allows (03 R75, R76).
An admin command's data goes where its PRPs say, be it in the Controller Memory Buffer (06 R197). -/
def sendData (ref : CmdRef) (data : Bytes) (s : State) : State :=
  match if ref.sqid = 0 then robOf s ref else none with
  | none => sendHost ref data s
  | some e =>
    let c := s.ctl ref.ctl
    let r := partData c (ptrPieces c.mps data.length e.ptr) data
    let s := r.1.foldl (fun s w => writeLate ref.ctl w.1 w.2 s) s
    if r.2.isEmpty && !r.1.isEmpty then s else sendHost ref r.2 s

end Sys2Proof.Machine
end

