-- ==== Sys2Proof/Machine/Keys.lean ====
section
/-!
DEFINITION. The keys that the root of trust derives from the device unique secret (16 R451, R452).
-/

namespace Sys2Proof.Machine

/-- The order n of P-384 (PRESUMED: FIPS 186-5's, assumption 8). -/
def p384Order : Nat :=
  0xFFFFFFFFFFFFFFFFFFFFFFFFFFFFFFFFFFFFFFFFFFFFFFFFC7634D81F4372DDF581A0DB248B0A77AECEC196ACCC52973

/-- HMAC-SHA-384(UDS, label) (16 R451). -/
def derive (label : String) : Nat := Config.hmac Config.uds (asciiBytes label)

/-- The private key of a 384-bit value S: (S mod (n - 1)) + 1 (16 R451). -/
def privateOf (x : Nat) : Nat := x % (p384Order - 1) + 1

/-- An AES key: the first 32 bytes of a result (16 R451). -/
def aesKey (label : String) : Nat := derive label / 2 ^ 128

/-- The DeviceID key pair. -/
def deviceIdPrivate : Nat := privateOf (derive "DVS-DEVICEID")
def deviceIdKey : Bytes := Config.p384Public deviceIdPrivate

/-- The vault key, and the key-wrapping key of volume keys. -/
def vaultKey : Nat := aesKey "DVS-VAULT"
def wrappingKey : Nat := aesKey "DVS-VOLWRAP"

/-- MAC of the owner block's bytes 0 to 103 (16 R451, R473). -/
def ownerMac (bs : Bytes) : Nat := Config.hmac (beBytes 48 (derive "DVS-OWNERMAC")) bs

/-- CDI_1 = HMAC-SHA-384(CDI seed, FSL_DIGEST) (16 R452). -/
def cdi1 (fsl : Nat) : Nat := Config.hmac (beBytes 48 (derive "DVS-CDI")) (beBytes 48 fsl)

/-- CDI_2 = HMAC-SHA-384(CDI_1, MAIN_DIGEST followed by IMAGE_SVN as 4 little-endian bytes) (16 R452). -/
def cdi2 (fsl main svn : Nat) : Nat := Config.hmac (beBytes 48 (cdi1 fsl)) (beBytes 48 main ++ leBytes 4 svn)

/-- The Alias private key of an image (16 R452): FSL_DIGEST, MAIN_DIGEST and SVN. -/
def aliasPrivate (fsl main svn : Nat) : Nat := privateOf (cdi2 fsl main svn)

end Sys2Proof.Machine
end

