-- ==== Sys2Proof/Machine/Cache.lean ====
section
/-!
DEFINITION. The protected cache's operations: cache memory, directory, allocation, versions, staging, the directory switch,
merges, epochs, mirroring after a fence and retirement of frames (06 R165 to R199).
-/

namespace Sys2Proof.Machine

/-! ## Cache memory -/

/-- What an unlisted byte of cache memory reads as (log 2): such a byte is never served, since its sector is not VALID (R176). -/
def memDefault : Byte := 0

/-- The canonical form: addresses strictly rising, and no entry that equals what an unlisted address reads as. -/
def cellsWf : List Host.Cell → Bool
  | [] => true
  | [c] => decide (c.2 ≠ memDefault)
  | c :: d :: rest => decide (c.2 ≠ memDefault) && decide (c.1 < d.1) && cellsWf (d :: rest)

/-- The canonical form of the cache memory of a state. -/
def memoryWf (s : State) : Bool := cellsWf s.cache.dram

/-- One byte of memory. -/
def memGet (l : List Host.Cell) (a : Nat) : Byte :=
  match l with
  | [] => memDefault
  | c :: rest => if c.1 = a then c.2 else memGet rest a

/-- The cells of a run of bytes from an address, without those that equal the default. -/
def cellsOf (a : Nat) : Bytes → List Host.Cell
  | [] => []
  | b :: bs => if b = memDefault then cellsOf (a + 1) bs else (a, b) :: cellsOf (a + 1) bs

/-- Memory with a run of bytes written. -/
def memPut (l : List Host.Cell) (a : Nat) (bs : Bytes) : List Host.Cell :=
  l.filter (fun c => decide (c.1 < a)) ++ cellsOf a bs ++ l.filter (fun c => decide (a + bs.length ≤ c.1))

/-- A run of bytes of memory. -/
def memRead (l : List Host.Cell) (a n : Nat) : Bytes := (List.range n).map fun i => memGet l (a + i)

/-- Address of the first byte of a frame. -/
def frameAddr (region frame : Nat) : Nat := (region * 2 ^ 20 + frame) * 4096

/-- Write the sectors of `mask` of a page's data into a frame, those of `zero` left out (R179). -/
def writeSectors (region frame : Nat) (mask zero : BitVec 8) (data : Bytes) (l : List Host.Cell) : List Host.Cell :=
  (List.range 8).foldl (fun l i =>
    if bitOf mask i && !bitOf zero i then memPut l (frameAddr region frame + 512 * i) (sliceBytes data (512 * i) 512) else l) l

/-- Copy sectors of one frame into another. -/
def copySectors (r1 f1 r2 f2 : Nat) (mask : BitVec 8) (l : List Host.Cell) : List Host.Cell :=
  (List.range 8).foldl (fun l i =>
    if bitOf mask i then memPut l (frameAddr r2 f2 + 512 * i) (memRead l (frameAddr r1 f1 + 512 * i) 512) else l) l

/-! ## Directory -/

/-- S, sets per region (R168). -/
def setsOf (c : Cache) : Nat := if c.halfDensity then 32768 else 65536

/-- The entry of a frame, none when FREE. -/
def entryAt (c : Cache) (region frame : Nat) : Option DirEntry :=
  c.dir.find? fun e => decide (e.region = region) && decide (e.frame = frame)

/-- The cache with the entry of a frame changed. -/
def updEntry (region frame : Nat) (f : DirEntry → DirEntry) (c : Cache) : Cache :=
  { c with dir := c.dir.map fun e => if e.region = region ∧ e.frame = frame then f e else e }

/-- The cache with a frame FREE. -/
def freeFrame (region frame : Nat) (c : Cache) : Cache :=
  { c with dir := c.dir.filter fun e => !(decide (e.region = region) && decide (e.frame = frame)) }

/-- Partner's region and frame of an entry, none when it has no partner (R173). -/
def partnerOf (e : DirEntry) : Option (Nat × Nat) :=
  if e.linkRegion = e.region then none else some (e.linkRegion, (e.frame / 16) * 16 + e.linkWay)

/-- The cache with a frame and its partner FREE. -/
def freePair (e : DirEntry) (c : Cache) : Cache :=
  match partnerOf e with
  | some (r, f) => freeFrame r f (freeFrame e.region e.frame c)
  | none => freeFrame e.region e.frame c

/-- A STAGED entry is the mirror copy of its page: it lies outside the page's primary region. -/
def stagedMirror (c : Cache) (e : DirEntry) : Bool :=
  decide (e.state = .staged) && decide ((pageRegions c.fenced e.keyNs e.vpage).1 ≠ some e.region)

/-- Mirror index entries in use in a region (R184, R186): its MIRROR and CMB_MIRROR frames, and the STAGED frames that become such. -/
def mirrorIndexUsed (c : Cache) (region : Nat) : Nat :=
  (c.dir.filter fun e => decide (e.region = region) &&
    (decide (e.state = .mirror) || decide (e.state = .cmbMirror) || stagedMirror c e)).length

/-- The mirror index of a region, as (FRAME, PRIM_REGION, PRIM_FRAME) (R186). -/
def mirrorIndex (c : Cache) (region : Nat) : List (Nat × Nat × Nat) :=
  (c.dir.filter fun e => decide (e.region = region) && (decide (e.state = .mirror) || decide (e.state = .cmbMirror))).map
    fun e => (e.frame, e.linkRegion, (e.frame / 16) * 16 + e.linkWay)

/-- Lowest FREE way of a set (R175); a frame that waits to be retired is not allocated again (R196). -/
def freeWay (c : Cache) (region set : Nat) : Option Nat :=
  (List.range 16).find? fun w => (entryAt c region (set * 16 + w)).isNone && !c.retireLater.contains (region, set * 16 + w)

/-- The CLEAN way of a set with the lowest HOT, the lowest way on a tie (R175). -/
def evictWay (c : Cache) (region set : Nat) : Option Nat :=
  let clean := (List.range 16).filterMap fun w =>
    match entryAt c region (set * 16 + w) with
    | some e => if e.state = .clean then some (w, e.hot) else none
    | none => none
  (clean.foldl (fun best x =>
    match best with
    | none => some x
    | some b => if x.2 < b.2 then some x else some b) none).map (·.1)

/-- Allocate a frame in a set (R175): the frame, and the cache with a CLEAN way evicted and HOT halved where it had to be. -/
def allocFrame (region set : Nat) (c : Cache) : Option (Nat × Cache) :=
  match freeWay c region set with
  | some w => some (set * 16 + w, c)
  | none =>
    match evictWay c region set with
    | some w =>
      let c := { c with dir := c.dir.map fun e =>
        if e.region = region ∧ e.frame / 16 = set then { e with hot := e.hot / 2 } else e }
      some (set * 16 + w, freeFrame region (set * 16 + w) c)
    | none => none

/-- Draw the next WSEQ of a region's 16-bit counter (R173): the counter is incremented first, and its new value is drawn (DESIGN CHOICE,
log 123). -/
def drawWseq (region : Nat) (c : Cache) : Nat × Cache :=
  let n := (tblGet c.wseqCtr region 0 + 1) % 65536
  (n, { c with wseqCtr := tblPut c.wseqCtr region n })

/-- Current epoch of a region (R183). -/
def epochOf (c : Cache) (region : Nat) : Nat := tblGet c.epochs region 1

/-- States of a version that a read may use: every committed version (R177). -/
def isVersion (st : PState) : Bool :=
  match st with
  | .clean | .dirty | .dirtyJ | .destaging | .superseded | .destagingJ | .cmb => true
  | .fill | .staged | .mirror | .cmbMirror | .retired => false

/-- States that count as newer than the members. -/
def isDirtyState (st : PState) : Bool :=
  match st with
  | .dirty | .dirtyJ | .destaging | .destagingJ => true
  | _ => false

/-- Insert a version into a list that is newest first. -/
def insertVer (e : DirEntry) : List DirEntry → List DirEntry
  | [] => [e]
  | x :: xs => if x.ver ≤ e.ver then e :: x :: xs else x :: insertVer e xs

/-- Committed versions of a page in its primary region, newest first (R177). -/
def versionsOf (c : Cache) (keyNs vpage : Nat) : List DirEntry :=
  match (pageRegions c.fenced keyNs vpage).1 with
  | none => []
  | some r =>
    (c.dir.filter fun e => decide (e.region = r) && decide (e.keyNs = keyNs) && decide (e.vpage = vpage) &&
      isVersion e.state).foldr insertVer []

/-- All versions of a page in its primary region, STAGED ones included (R182). -/
def versionCount (c : Cache) (keyNs vpage : Nat) : Nat :=
  match (pageRegions c.fenced keyNs vpage).1 with
  | none => 0
  | some r =>
    (c.dir.filter fun e => decide (e.region = r) && decide (e.keyNs = keyNs) && decide (e.vpage = vpage) &&
      (isVersion e.state || decide (e.state = .staged))).length

/-- The newest committed version. -/
def newestOf (c : Cache) (keyNs vpage : Nat) : Option DirEntry := (versionsOf c keyNs vpage)[0]?

/-- What a read finds in a sector (R177). -/
inductive SectorFrom where
  | member
  | zero
  | poisoned
  | dram (e : DirEntry)
  deriving DecidableEq, Repr

/-- Resolve one sector of a page (R177). -/
def resolveSector (vs : List DirEntry) (isCmb : Bool) (i : Nat) : SectorFrom :=
  match vs.find? fun e => bitOf e.valid i with
  | none => if isCmb then .zero else .member
  | some e => if bitOf e.poison i then .poisoned else if bitOf e.zero i then .zero else .dram e

/-- The 512 bytes of a resolved sector; a member or poisoned sector has none. -/
def sectorData (c : Cache) (i : Nat) : SectorFrom → Option Bytes
  | .dram e => some (memRead c.dram (frameAddr e.region e.frame + 512 * i) 512)
  | .zero => some (zeros 512)
  | .member => none
  | .poisoned => none

/-- HOT is incremented, saturating at 63, on each hit (R173). -/
def touchPage (keyNs vpage : Nat) (c : Cache) : Cache :=
  match newestOf c keyNs vpage with
  | some e => updEntry e.region e.frame (fun e => { e with hot := min 63 (e.hot + 1) }) c
  | none => c

/-- Access to the frames of pages: their channels leave self-refresh (13 R382, R383). -/
def accessPages (pages : List (Nat × Nat)) (c : Cache) : Cache :=
  let used := (c.dir.filter fun e => decide (e.state ≠ .retired) && pages.contains (e.keyNs, e.vpage)).map fun e => frameChannel e.region e.frame
  { c with channels := c.channels.map fun p => if used.contains p.1 then (p.1, { p.2 with selfRefresh := false }) else p }

/-- Pages that a write staged under write-back touches. -/
def stagedPages (e : RobEntry) : List (Nat × Nat) :=
  match e.job with
  | some j => if j.step.hasFrames && !j.journaled then j.parts.map fun p => (p.ns, p.vpage) else []
  | none => []

/-- The pages that count in D (R188): those with a version in DIRTY or DESTAGING, and those of STAGED frames of writes admitted under
write-back. -/
def dirtyPages (s : State) : List (Nat × Nat) :=
  ((s.cache.dir.filter fun e => decide (e.state = .dirty) || decide (e.state = .destaging)).map fun e => (e.keyNs, e.vpage)) ++
  s.ctls.flatMap fun p => p.2.sqs.flatMap fun q => q.rob.flatMap stagedPages

/-- The dirty count D (R188): each page counts once. -/
def dirtyCount (s : State) : Nat := (dirtyPages s).eraseDups.length

/-- Pages that are newer than the members and have no partner copy (R185, R190). -/
def loneDirty (c : Cache) : List DirEntry :=
  c.dir.filter fun e => isDirtyState e.state && decide (e.linkRegion = e.region)

/-- ARES of an entry: (NSIDM1 + VPAGE) mod 15 (R173). -/
def entryAres (e : DirEntry) : Nat := mod15 (e.keyNs % 0x400 + e.vpage)

/-- ADDR_CHK of a word (R171). -/
def addrChk (e : DirEntry) (word : Nat) : Nat := (e.vpage * 64 + word) % 4096 + 4096 * entryAres e

/-! ## Staging and the directory switch (R179 to R183) -/

/-- A new directory entry in a frame. -/
def newEntry (region frame : Nat) (st : PState) (keyNs vpage : Nat) (valid zero poison : BitVec 8)
    (linkRegion linkWay wseq : Nat) (ref : Option CmdRef) : DirEntry :=
  { region := region, frame := frame, state := st, keyNs := keyNs, vpage := vpage, valid := valid, zero := zero,
    poison := poison, linkRegion := linkRegion, linkWay := linkWay, wseq := wseq, stageRef := ref, hot := 0, ver := 0,
    epoch := 0, merging := false }

/-- A RETIRED entry. -/
def retiredEntry (region frame : Nat) : DirEntry := newEntry region frame .retired 0 0 0 0 0 region (frame % 16) 0 none

/-- Frames that wait to be retired and hold nothing now are retired (R196). -/
def retireIdle (c : Cache) : Cache :=
  let idle := c.retireLater.filter fun f => (entryAt c f.1 f.2).isNone
  { c with dir := idle.map (fun f => retiredEntry f.1 f.2) ++ c.dir, retireLater := c.retireLater.filter fun f => !idle.contains f }

/-- Take a primary and a mirror frame for a page (R172, R184): the frames and the cache, or none when a set or the mirror index
has none to give. With one live region the page has no partner. -/
def allocPair (keyNs vpage : Nat) (c : Cache) : Option ((Nat × Nat) × Option (Nat × Nat) × Cache) :=
  let set := pageSet keyNs vpage (setsOf c)
  match pageRegions c.fenced keyNs vpage with
  | (some p, some m) =>
    match allocFrame p set c with
    | some (pf, c1) =>
      if mirrorIndexUsed c1 m < 524288 then
        match allocFrame m set c1 with
        | some (mf, c2) => some ((p, pf), some (m, mf), c2)
        | none => none
      else none
    | none => none
  | (some p, none) =>
    match allocFrame p set c with
    | some (pf, c1) => some ((p, pf), none, c1)
    | none => none
  | (none, _) => none

/-- Place a page part of a command: both copies in a state, with the data written (R179). -/
def placePart (ref : Option CmdRef) (st mst : PState) (part : PagePart) (c : Cache) : Option (PagePart × Cache) :=
  match allocPair part.ns part.vpage c with
  | none => none
  | some ((pr, pf), mir, c) =>
    let valid := part.mask ||| part.zero
    let (w1, c) := drawWseq pr c
    match mir with
    | some (mr, mf) =>
      let (w2, c) := drawWseq mr c
      let e1 := newEntry pr pf st part.ns part.vpage valid part.zero part.poison mr (mf % 16) w1 ref
      let e2 := newEntry mr mf mst part.ns part.vpage valid part.zero part.poison pr (pf % 16) w2 ref
      let dram := writeSectors mr mf part.mask part.zero part.data (writeSectors pr pf part.mask part.zero part.data c.dram)
      some ({ part with home := some (pr, pf, mr, mf) }, { c with dir := e1 :: e2 :: c.dir, dram := dram })
    | none =>
      let e1 := newEntry pr pf st part.ns part.vpage valid part.zero part.poison pr (pf % 16) w1 ref
      let dram := writeSectors pr pf part.mask part.zero part.data c.dram
      some ({ part with home := some (pr, pf, pr, pf) }, { c with dir := e1 :: c.dir, dram := dram })

/-- The region and set that have no frame to give for a page (R175, R184): its primary set, or its mirror set. -/
def fullSet (p : PagePart) (c : Cache) : Nat × Nat :=
  let set := pageSet p.ns p.vpage (setsOf c)
  match pageRegions c.fenced p.ns p.vpage with
  | (some r, some m) => if (allocFrame r set c).isSome then (m, set) else (r, set)
  | (some r, none) => (r, set)
  | (none, _) => (0, set)

/-- Why the parts of a command cannot be staged: the first page that finds no frame with its full set, or none where a page has four
versions (R182). -/
def stageBlock (ref : CmdRef) : List PagePart → Cache → Option (Nat × Nat)
  | [], _ => none
  | p :: ps, c =>
    if 4 ≤ versionCount c p.ns p.vpage then none
    else
      match placePart (some ref) .staged .staged p c with
      | none => some (fullSet p c)
      | some (_, c) => stageBlock ref ps c

/-- Stage every part of a command, or none of them (R179). A page with four versions has no room for a fifth (R182). -/
def stageParts (ref : CmdRef) : List PagePart → Cache → Option (List PagePart × Cache)
  | [], c => some ([], c)
  | p :: ps, c =>
    if 4 ≤ versionCount c p.ns p.vpage then none
    else
      match placePart (some ref) .staged .staged p c with
      | none => none
      | some (p', c) =>
        match stageParts ref ps c with
        | none => none
        | some (ps', c) => some (p' :: ps', c)

/-- Free the STAGED frames of a command (R180). -/
def freeStaged (ref : CmdRef) (c : Cache) : Cache :=
  retireIdle { c with dir := c.dir.filter fun e => !(decide (e.state = .staged) && decide (e.stageRef = some ref)) }

/-- Free every STAGED frame (R195 step 2). -/
def freeAllStaged (c : Cache) : Cache := retireIdle { c with dir := c.dir.filter fun e => !decide (e.state = .staged) }

/-- Mark an older version SUPERSEDED in its region's current epoch, unless its destage is in progress (R182, R183, R191). -/
def supersede (cur : Nat → Nat) (e : DirEntry) : DirEntry :=
  match e.state with
  | .clean | .dirty | .dirtyJ | .cmb => { e with state := .superseded, epoch := cur e.region, merging := false }
  | _ => e

/-- Convert the STAGED entries of one page of a command (R180): the primary becomes DIRTY or DIRTY_J with the next version
number, its copy MIRROR; a version that covers every sector supersedes the older ones at once (R182). The page has been dirty since its
oldest version that is not on the members. -/
def convertPart (now : Nat) (ref : CmdRef) (journaled : Bool) (part : PagePart) (c : Cache) : Cache :=
  let older := versionsOf c part.ns part.vpage
  let prim := (pageRegions c.fenced part.ns part.vpage).1
  let full := decide ((part.mask ||| part.zero) = 0xFF)
  let hasOlder := !older.isEmpty
  let since := (older.filter fun e => isDirtyState e.state).foldl (fun n e => min n e.since) now
  let dir := c.dir.map fun e =>
    if e.stageRef = some ref ∧ e.keyNs = part.ns ∧ e.vpage = part.vpage ∧ e.state = .staged then
      if some e.region = prim then
        { e with state := if journaled then .dirtyJ else .dirty, stageRef := none, ver := c.nextVer, merging := !full && hasOlder, since := since }
      else { e with state := .mirror, stageRef := none, ver := c.nextVer, since := since }
    else if full && decide (e.keyNs = part.ns) && decide (e.vpage = part.vpage) && decide (some e.region = prim) then
      supersede (epochOf c) e
    else e
  { c with dir := dir, nextVer := c.nextVer + 1 }

/-- The directory switch's conversion for every page of a command (R180). -/
def convertParts (now : Nat) (ref : CmdRef) (journaled : Bool) (parts : List PagePart) (c : Cache) : Cache :=
  parts.foldl (fun c p => convertPart now ref journaled p c) c

/-- Copy a sector that the newest version of a page lacks from an older one, into both copies (R182). -/
def mergeSector (e : DirEntry) (older : List DirEntry) (c : Cache) (i : Nat) : Cache :=
  match older.find? fun o => bitOf o.valid i with
  | none => c
  | some o =>
    let bit : BitVec 8 := BitVec.ofNat 8 (2 ^ i)
    let set1 := fun x : DirEntry =>
      { x with valid := x.valid ||| bit, zero := if bitOf o.zero i then x.zero ||| bit else x.zero,
               poison := if bitOf o.poison i then x.poison ||| bit else x.poison }
    let c := updEntry e.region e.frame set1 c
    let c := match partnerOf e with
      | some (r, f) => updEntry r f set1 c
      | none => c
    if bitOf o.zero i || bitOf o.poison i then c
    else
      let dram := copySectors o.region o.frame e.region e.frame bit c.dram
      match partnerOf e with
      | some (r, f) => { c with dram := copySectors o.region o.frame r f bit dram }
      | none => { c with dram := dram }

/-- A merge takes a sector from an older version that no keeper holds: one in DIRTY or DESTAGING. -/
def takesUnjournaled (e : DirEntry) (older : List DirEntry) : Bool :=
  (List.range 8).any fun i => !bitOf e.valid i &&
    (match older.find? fun o => bitOf o.valid i with
    | some o => decide (o.state = .dirty) || decide (o.state = .destaging)
    | none => false)

/-- Merge the newest version of a page with its older ones, which become SUPERSEDED (R182). A DIRTY_J version that takes a sector from a
version whose data no keeper holds becomes DIRTY, so that a flush vaults the sector (04 R123, R124; DEDUCED, log 108). -/
def mergePage (keyNs vpage : Nat) (c : Cache) : Cache :=
  match versionsOf c keyNs vpage with
  | [] => c
  | e :: older =>
    let st := if e.state = .dirtyJ ∧ takesUnjournaled e older = true then PState.dirty else e.state
    let c := (List.range 8).foldl (fun c i => if bitOf e.valid i then c else mergeSector e older c i) c
    let dir := c.dir.map fun x =>
      if x.region = e.region ∧ x.frame = e.frame then { x with merging := false, state := st }
      else if x.keyNs = keyNs ∧ x.vpage = vpage ∧ x.region = e.region ∧ isVersion x.state = true then supersede (epochOf c) x
      else x
    { c with dir := dir }

/-- Close the previous epoch of a region (R183): frames superseded in it, or before, are FREE with their partners. No read holds
an epoch between two commands, since a read resolves and reads its DRAM words in one step. -/
def closeEpoch (region : Nat) (c : Cache) : Cache :=
  let cur := epochOf c region
  let gone := c.dir.filter fun e => decide (e.region = region) && decide (e.state = .superseded) && decide (e.epoch < cur)
  let c := gone.foldl (fun c e => freePair e c) c
  retireIdle { c with epochs := tblPut c.epochs region (cur + 1) }

/-- Free the mirror of an entry and show that it has no partner. -/
def dropMirror (e : DirEntry) (c : Cache) : Cache :=
  match partnerOf e with
  | some (r, f) =>
    updEntry e.region e.frame (fun x => { x with linkRegion := x.region, linkWay := x.frame % 16 }) (freeFrame r f c)
  | none => c

/-! ## Mirroring after a fence (R185) -/

/-- Steps 1, 2 and 4 of R185 for a newly fenced region: mirrors of its pages become primaries without a partner, pages that were
mirrored there have none, STAGED frames are freed, and its other frames are lost. -/
def fenceCache (region : Nat) (c : Cache) : Cache :=
  let c := freeAllStaged c
  let fenced := if c.fenced.contains region then c.fenced else region :: c.fenced
  let dir := (c.dir.filter fun e => decide (e.region ≠ region)).map fun e =>
    if e.linkRegion = region then
      let e1 := { e with linkRegion := e.region, linkWay := e.frame % 16 }
      match e.state with
      | .mirror =>
        { e1 with
          state := .dirty
          merging := decide (e.valid ||| e.zero ≠ 0xFF) && c.dir.any fun o => decide (o.region = e.region) && decide (o.keyNs = e.keyNs) &&
            decide (o.vpage = e.vpage) && decide (o.ver < e.ver) }
      | .cmbMirror => { e1 with state := .cmb }
      | _ => e1
    else e
  { c with dir := dir, fenced := fenced }

/-- Give a page without a partner a mirror copy in its new mirror region, in the same set (R185 step 3); the cache is unchanged
when that set has no frame to give. -/
def remirrorPage (e : DirEntry) (c : Cache) : Cache :=
  match (pageRegions c.fenced e.keyNs e.vpage).2 with
  | none => c
  | some m =>
    if m = e.region then c
    else if mirrorIndexUsed c m < 524288 then
      match allocFrame m (e.frame / 16) c with
      | none => c
      | some (f, c) =>
        let (w, c) := drawWseq m c
        let st := if e.state = .cmb then PState.cmbMirror else .mirror
        let e2 := { newEntry m f st e.keyNs e.vpage e.valid e.zero e.poison e.region (e.frame % 16) w none with ver := e.ver }
        let c := updEntry e.region e.frame (fun x => { x with linkRegion := m, linkWay := f % 16 }) c
        { c with dir := e2 :: c.dir, dram := copySectors e.region e.frame m f (e.valid &&& ~~~ e.zero &&& ~~~ e.poison) c.dram }
    else c

/-- Pages that need a partner: dirty, staged or CMB pages that show none (R184, R185). -/
def needPartner (c : Cache) : List DirEntry :=
  c.dir.filter fun e => (isDirtyState e.state || decide (e.state = .cmb)) && decide (e.linkRegion = e.region)

/-! ## Retirement (R196) -/

/-- Move a used frame's content to another frame of the same set and region (R196); none when the set has no frame to give. -/
def moveFrame (e : DirEntry) (c : Cache) : Option Cache :=
  match allocFrame e.region (e.frame / 16) c with
  | none => none
  | some (f, c) =>
    let (w, c) := drawWseq e.region c
    let e' := { e with frame := f, wseq := w }
    let c := match partnerOf e with
      | some (r, pf) => updEntry r pf (fun x => { x with linkWay := f % 16 }) c
      | none => c
    let c := freeFrame e.region e.frame c
    some { c with dir := e' :: c.dir,
                  dram := copySectors e.region e.frame e.region f (e.valid &&& ~~~ e.zero &&& ~~~ e.poison) c.dram }

/-- Retire a frame (R196): FREE, CLEAN or FILL at once; a dirty, CMB or mirror frame after its content has moved. A frame whose
set has no frame to give stays, and is noted to be retired later. -/
def retireFrame (region frame : Nat) (c : Cache) : Cache :=
  match entryAt c region frame with
  | none => { c with dir := retiredEntry region frame :: c.dir }
  | some e =>
    match e.state with
    | .retired => c
    | .clean | .fill =>
      let c := freeFrame region frame c
      { c with dir := retiredEntry region frame :: c.dir }
    | .superseded =>
      let c := freePair e c
      { c with dir := retiredEntry region frame :: c.dir }
    | .staged | .dirty | .dirtyJ | .destaging | .destagingJ | .mirror | .cmb | .cmbMirror =>
      match moveFrame e { c with dir := retiredEntry region frame :: c.dir.filter fun x => x != e } with
      | some c' =>
        let c' := if (entryAt c' region frame).isNone then { c' with dir := retiredEntry region frame :: c'.dir } else c'
        c'
      | none =>
        if c.retireLater.contains (region, frame) then c else { c with retireLater := (region, frame) :: c.retireLater }

/-- Retire frames that wait, as far as their sets now allow. -/
def retireThese (l : List (Nat × Nat)) (c : Cache) : Cache :=
  l.foldl (fun c f => retireFrame f.1 f.2 { c with retireLater := c.retireLater.erase f }) c

/-- Retire the frames that waited for a buffer to be disabled, or for a destage (R196). -/
def retireWaiting (c : Cache) : Cache := retireThese c.retireLater c

/-- Retire the frames that waited for a destage: those that hold no page of a buffer (R196). -/
def retireDestaged (c : Cache) : Cache :=
  retireThese (c.retireLater.filter fun f =>
    match entryAt c f.1 f.2 with
    | some e => !decide (e.state = .cmb) && !decide (e.state = .cmbMirror)
    | none => true) c

/-- Frames of a region on one channel and bank: one way in half of the sets (R170, R196). -/
def bankFrames (c : Cache) (region ch bank : Nat) : List Nat :=
  ((List.range 16).filter fun w => decide (w % 2 = ch % 2)).flatMap fun w =>
    (List.range (setsOf c)).filterMap fun set =>
      let f := set * 16 + w
      if frameBank f = bank ∧ frameChannel region f = ch then some f else none

/-- Frames that are RETIRED. -/
def retiredCount (c : Cache) : Nat := (c.dir.filter fun e => decide (e.state = .retired)).length

/-- Frames of the live regions. Those of a fenced region do not count in the half of R188 (DESIGN CHOICE, log 155). -/
def liveFrames (c : Cache) : Nat := (4 - c.fenced.length) * 16 * setsOf c

/-! ## Controller Memory Buffer (R197 to R199) -/

/-- Key name space of a controller's buffer (R172). -/
def cmbKey (ctl : Nat) : Nat := 0x400 + ctl - 1

/-- Discard every page of a controller's buffer (R199). -/
def discardCmb (ctl : Nat) (c : Cache) : Cache :=
  { c with dir := c.dir.filter fun e => !(decide (e.keyNs = cmbKey ctl) &&
      (decide (e.state = .cmb) || decide (e.state = .cmbMirror) || decide (e.state = .superseded))) }

/-- Frames that CMB settings reserve: 524,288 for each controller with CRE set (R198). -/
def cmbReserved (s : State) : Nat := (s.ctlIds.filter fun id => (s.ctl id).cre).length * 524288

/-- Read `len` bytes of a buffer from an offset: the bytes and whether a sector among them is poisoned (R177, R199). -/
def cmbRead (ctl off len : Nat) (c : Cache) : Bytes × Bool :=
  let sectors := (List.range (len / 512 + 2)).map fun i => off / 512 + i
  let used := sectors.filter fun i => decide (i * 512 < off + len) && decide (off < (i + 1) * 512)
  let one := fun i : Nat => resolveSector (versionsOf c (cmbKey ctl) (i / 8)) true (i % 8)
  let bad := used.any fun i => decide (one i = .poisoned)
  let bytes := used.flatMap fun i => (sectorData c (i % 8) (one i)).getD (zeros 512)
  (sliceBytes bytes (off - (off / 512) * 512) len, bad)

/-- Write bytes that lie in one page of a buffer (R199): a sector partly written that was never written takes zeros for the rest;
a poisoned write marks whole sectors and stores no data; a whole sector written clears its mark. None when no frame is free. -/
def cmbWritePage (ctl page off : Nat) (bs : Bytes) (poisoned : Bool) (c : Cache) : Option Cache :=
  let key := cmbKey ctl
  let touched := sectorMask (off / 512) (ceilDiv (off + bs.length) 512)
  let c? := match newestOf c key page with
    | some _ => some c
    | none => (placePart none .cmb .cmbMirror
        { ns := key, vpage := page, mask := 0, zero := 0, poison := 0, data := [], spans := [], base := none, home := none } c).map (·.2)
  match c? with
  | none => none
  | some c =>
    match newestOf c key page with
    | none => none
    | some e =>
      let old := (List.range 8).flatMap fun i => (sectorData c i (resolveSector [e] true i)).getD (zeros 512)
      let new := old.take off ++ bs ++ old.drop (off + bs.length)
      let whole : BitVec 8 := sectorMask (ceilDiv off 512) ((off + bs.length) / 512)
      let upd := fun x : DirEntry =>
        if poisoned then { x with valid := x.valid ||| touched, poison := x.poison ||| touched, zero := x.zero &&& ~~~ touched }
        else { x with valid := x.valid ||| touched, zero := x.zero &&& ~~~ touched, poison := x.poison &&& ~~~ whole }
      let c := updEntry e.region e.frame upd c
      let c := match partnerOf e with
        | some (r, f) => updEntry r f upd c
        | none => c
      if poisoned then some c
      else
        let dram := writeSectors e.region e.frame touched 0 new c.dram
        match partnerOf e with
        | some (r, f) => some { c with dram := writeSectors r f touched 0 new dram }
        | none => some { c with dram := dram }

end Sys2Proof.Machine
end

