-- ==== Sys2Proof/Machine/Stop.lean ====
section
/-!
DEFINITION. The stop record: its two copies, its bytes, and the record of a new write-through policy (02 R59, R60; 06 R194).
-/

namespace Sys2Proof.Machine

/-! ## The stop record (02 R59, R60) -/

/-- Sequence number of a copy. -/
def copySeq : StopCopy → Option Nat
  | .valid r => some r.seqNo
  | .torn => none
  | .erased => none

/-- The valid copy with the higher SEQUENCE is the stop record: its record and which copy it is (02 R60). -/
def stopCurrent (a : StopArea) : Option (StopRec × Nat) :=
  match a.copy0, a.copy1 with
  | .valid r0, .valid r1 => if r1.seqNo < r0.seqNo then some (r0, 0) else some (r1, 1)
  | .valid r0, _ => some (r0, 0)
  | _, .valid r1 => some (r1, 1)
  | _, _ => none

/-- The record for a state byte, from the state in force (02 R59, R60). -/
def stopFor (kind : Nat) (s : State) : StopRec :=
  { state := kind, imageValid := s.vault.imageValid, shipArmed := s.power.shipArmed,
    writeThrough := s.cache.writeThrough && decide (dirtyCount s = 0),
    seqNo := match stopCurrent s.stop with | some (r, _) => r.seqNo + 1 | none => 1,
    bootCount := s.mode.bootCount, time := s.recTime,
    imageSeq := match s.vault.image with | some i => if s.vault.imageValid then i.imageSeq else 0 | none => 0,
    dirtyPages := match s.vault.image with | some i => if s.vault.imageValid then i.pages.length else 0 | none => 0 }

/-- The 512 bytes of a stop record (02 R59). -/
def stopBytes (r : StopRec) : Bytes :=
  let flags := (if r.imageValid then 1 else 0) + (if r.shipArmed then 2 else 0) + (if r.writeThrough then 4 else 0)
  let body := [0x53, 0x54, 0x4F, 0x50] ++ leBytes 2 1 ++ leBytes 1 r.state ++ leBytes 1 flags ++ leBytes 8 r.seqNo ++
    leBytes 8 r.bootCount ++ leBytes 8 r.time.toNat ++ leBytes 4 r.imageSeq ++ leBytes 4 r.dirtyPages ++ zeros 468
  body ++ leBytes 4 (crc32c body).toNat

/-- Write the stop record into the copy that is not the current one: its 512 bytes go to the next free logical page of that copy's system block
(02 R60; 14 R414). -/
def writeStop (kind : Nat) (s : State) : State :=
  let r := stopFor kind s
  match stopCurrent s.stop with
  | some (_, 0) => emit (.stopRecord 1 (stopBytes r)) { s with stop := { s.stop with copy1 := .valid r } }
  | _ => emit (.stopRecord 0 (stopBytes r)) { s with stop := { s.stop with copy0 := .valid r } }

/-- Write a superblock with SEQ_RESERVED raised by one (14 R414, R416). -/
def reserveSeq (s : State) : State :=
  emit (.superblock (s.vault.seqReserved + 1) s.vault.badBlocks) { s with vault := { s.vault with seqReserved := s.vault.seqReserved + 1 } }

/-- When D has reached 0 under a new write-through policy, the stop record is written OPEN with WRITE_THROUGH set (06 R194). After a completed
shutdown the stop record stands until the return to service (02 R60, R65; DEDUCED, log 125). -/
def wtRecord (s : State) : State :=
  if s.cache.wtRecordDue && decide (dirtyCount s = 0) && s.serving && !s.mode.shutDone then
    writeStop 1 { s with cache := { s.cache with wtRecordDue := false } }
  else s

end Sys2Proof.Machine
end

