-- ==== Sys2Proof/Machine/Tags.lean ====
section
/-!
DEFINITION. Member commands: which port serves, member tags, and the issue of a command to a drive (12 R333 to R338, R340, R346, R347).
-/

namespace Sys2Proof.Machine

/-- P, the number of slots (12 R332). -/
def State.slots (s : State) : Nat := slotCount s.power.mbrCfg

/-- A port serves commands: usable, not contained, not FAILED (12 R347). -/
def portServes (p : MPort) : Bool := p.usable && !p.contained && !p.failed

/-- A drive has a usable port. -/
def hasPort (v : Slot) : Bool := v.present && (portServes v.portA || portServes v.portB)

/-- Commands may be sent to a drive: it has a usable port and is not failed-pending (12 R347, R357, R360). -/
def slotReachable (v : Slot) : Bool := hasPort v && v.pendingAt.isNone

/-- Port 0 (A) or 1 (B) of a slot. -/
def portOf (v : Slot) (port : Nat) : MPort := if port = 0 then v.portA else v.portB

/-- A slot with a port replaced. -/
def withPort (v : Slot) (port : Nat) (p : MPort) : Slot := if port = 0 then { v with portA := p } else { v with portB := p }

/-- The state with a port of a slot changed. -/
def updPort (x port : Nat) (f : MPort → MPort) (s : State) : State :=
  s.setSlot x (withPort (s.slot x) port (f (portOf (s.slot x) port)))

/-- Root port of a port of a slot in its region (12 R333). -/
def rootPort (p x port : Nat) : Nat :=
  let j := x - homeRegion p x * (p / 4)
  if port = 0 then j else p / 4 + j

/-- First lane of a port of a slot in its region, of 64/P lanes: port A on lanes 0 to 15, port B on lanes 16 to 31 (12 R333). -/
def firstLane (p x port : Nat) : Nat :=
  let j := x - homeRegion p x * (p / 4)
  (if port = 0 then 0 else 16) + j * (64 / p)

/-- QPP, I/O queue pairs of a port (12 R337). -/
def qppOf (p : Nat) : Nat := 64 / p

/-- First tag of a port (12 R338). -/
def tagBase (p x port : Nat) : Nat := rootPort p x port * qppOf p * 128

/-- Tag of root port, I/O queue and command identifier (12 R338). -/
def memberTag (p rp q cid : Nat) : Nat := (rp * qppOf p + q) * 128 + cid

/-- Bases of the inbound windows (12 R339). -/
def queueBase : Nat := 0x4000000000
def msiBase : Nat := 0x4000200000
def listBase : Nat := 0x4010000000
def dataBase : Nat := 0x4100000000

/-- PRP1 and PRP2 of a command with a tag and a transfer length (12 R340). -/
def prpsOf (tag len : Nat) : Nat × Nat :=
  let d := dataBase + tag * 262144
  (d, if len ≤ 4096 then 0 else if len ≤ 8192 then d + 4096 else listBase + tag * 512)

/-- The pieces of a transfer: at most 256 KiB, and at most the member's MDTS each (12 R337). -/
def transferPieces (most : Nat) : Nat → Nat → List Nat
  | 0, len => [len]
  | n + 1, len => if len ≤ most then [len] else most :: transferPieces most n (len - most)

/-- Most bytes that one command of a slot's drive may move (12 R337). -/
def transferMost (s : State) (x : Nat) : Nat :=
  match (s.slot x).info with
  | some i => if i.mdts = 0 then 262144 else min 262144 (4096 * 2 ^ i.mdts)
  | none => 262144

/-- The port that serves a slot: A when it does, else B, else none (01 R38, 12 R347). -/
def servingPort (v : Slot) : Option Nat := if portServes v.portA then some 0 else if portServes v.portB then some 1 else none

/-- The other port. -/
def otherPort (port : Nat) : Nat := if port = 0 then 1 else 0

/-- Both ports usable, and which one is asked about. -/
def portUsable (s : State) (x port : Nat) : Bool := portServes (portOf (s.slot x) port)

/-- The lowest tag of a port that no command holds; 127 commands fit in each queue (12 R337, R338). -/
def freshTag (s : State) (x port : Nat) : Option Nat :=
  let p := portOf (s.slot x) port
  (List.range (qppOf s.slots)).findSome? fun q =>
    (List.range 127).findSome? fun cid =>
      let t := memberTag s.slots (rootPort s.slots x port) q cid
      if p.tags.any fun g => decide (g.tag = t) then none else some t

/-- Tag number of a command that waits for a port or for a tag: no port gives it. -/
def noTag : Nat := 0xFFFF

/-- The part of a transfer's bytes that each piece of it moves. -/
def cutPieces : Bytes → List Nat → List (Nat × Bytes)
  | _, [] => []
  | b, n :: ns => (n, b.take n) :: cutPieces (b.drop n) ns

/-- A command waits until a port of its drive, or a tag, can take it (12 R337, R347, R348). The commands that wait stand in one list for the slot,
with its port A. -/
def holdCommand (x opcode : Nat) (work : TagWork) (len : Nat) (buf : Bytes) (step : Nat) (errored : Bool) (s : State) : State :=
  updPort x 0 (fun p => { p with
    tags := p.tags ++ [{ tag := noTag, opcode := opcode, work := work, state := .waiting, len := len, step := step, errored := errored, buf := buf }] }) s

/-- Issue or reissue an I/O command to a port: its tag is outstanding, the port leaves L1.2 (12 R338, R341; 13 R383), and a member in a
non-operational power state returns to power state 0 (NVMe, PRESUMED, log 132). With no tag free the command waits (12 R337). -/
def issueAgain (x port opcode : Nat) (work : TagWork) (len : Nat) (buf : Bytes) (step : Nat) (errored : Bool) (s : State) : State :=
  match freshTag s x port with
  | none => holdCommand x opcode work len buf step errored s
  | some t =>
    emit (.memberIo x port t opcode len (prpsOf t len).1 (prpsOf t len).2) (updPort x port (fun p => { p with
      l12 := false
      tags := p.tags ++ [{ tag := t, opcode := opcode, work := work, state := .outstanding, len := len, step := step,
                           errored := errored, buf := buf }] }) (updSlot x (fun v => { v with ps := 0 }) s))

/-- Issue an I/O command to a port. -/
def issueOn (x port opcode : Nat) (work : TagWork) (len : Nat) (buf : Bytes) (s : State) : State :=
  issueAgain x port opcode work len buf 0 false s

/-- Region that issues a member command (01 R38; 06 "Destage"; 09 R257): the lock region of the hand; for a ring block the lock region of the
deck's hand 0; for a Flush, and for what no hand update writes, the region that attaches the drive. Reads, ring blocks and the last are a DESIGN CHOICE, log 112. -/
def issuingRegion (s : State) (x : Nat) (work : TagWork) : Nat :=
  let home := homeRegion s.slots x
  match work with
  | .read d h _ _ | .write d h _ => (lockRegions s.cache.fenced d h).1.getD home
  | .ring d _ _ => (lockRegions s.cache.fenced d 0).1.getD home
  | .flush | .store => home

/-- The port by which a region reaches a slot (01 R38), or the other one while that port does not serve (01 R31; 12 R347). -/
def portFrom (s : State) (region x : Nat) : Option Nat :=
  let port := reachPort s.slots x region
  if portServes (portOf (s.slot x) port) then some port else servingPort (s.slot x)

/-- The command is a read of a hand's chunk: with no usable port it is decoded instead (12 R347, R348). -/
def isReadWork (w : TagWork) : Bool := match w with | .read _ _ _ _ => true | _ => false

/-- Issue an I/O command on the port that R38 chooses for the issuing region, in pieces that the member takes (12 R337); for a drive that
is failed-pending a read is decoded, and any other command waits (12 R347). -/
def issueTo (x opcode : Nat) (work : TagWork) (len : Nat) (buf : Bytes) (s : State) : State :=
  let pieces := cutPieces buf (transferPieces (transferMost s x) 64 len)
  match if slotReachable (s.slot x) then portFrom s (issuingRegion s x work) x else none with
  | some port => pieces.foldl (fun s n => issueOn x port opcode work n.1 n.2 s) s
  | none => if isReadWork work then s else pieces.foldl (fun s n => holdCommand x opcode work n.1 n.2 0 false s) s

/-- Write one piece of data to a drive outside a hand update, as a command with a tag (12 R337, R338). -/
def storeTo (x at_ : Nat) (data : Bytes) (tag : Option ChunkTag) (s : State) : State :=
  issueTo x 0x01 .store data.length data (emit (.memberWrite x at_ data tag) s)

/-- Deallocate ranges of a drive: Dataset Management (opcode 0x09), whose list has 16 bytes for a range (NVMe, PRESUMED, log 139). -/
def deallocOn (x : Nat) (ranges : List (Nat × Nat)) (s : State) : State :=
  issueTo x 0x09 .store (16 * ranges.length) (ranges.flatMap fun r => zeros 4 ++ leBytes 4 (r.2 / 4096) ++ leBytes 8 (r.1 / 4096)) (emit (.memberDealloc x ranges) s)

/-- Slots the state lists. -/
def listedSlots (s : State) : List Nat := s.members.slots.map (·.1)

/-- Free the tags of every port that meet a condition. -/
def dropTags (f : MTag → Bool) (s : State) : State :=
  { s with members := { s.members with slots := s.members.slots.map fun p =>
      (p.1, { p.2 with
        portA := { p.2.portA with tags := p.2.portA.tags.filter fun t => !f t },
        portB := { p.2.portB with tags := p.2.portB.tags.filter fun t => !f t } }) } }

/-- Tags of both ports of a slot. -/
def slotTags (v : Slot) : List MTag := v.portA.tags ++ v.portB.tags

/-- Some tag in the device meets a condition. -/
def anyTag (f : MTag → Bool) (s : State) : Bool := s.members.slots.any fun p => (slotTags p.2).any f

/-- The tag is quarantined or withheld (12 R345, R346). -/
def tagHeld (t : MTag) : Bool := decide (t.state ≠ .outstanding)

/-- The tag belongs to a write of a hand of a deck. -/
def isHandWrite (id hd : Nat) (t : MTag) : Bool :=
  match t.work with
  | .write d h _ => decide (d = id) && decide (h = hd)
  | _ => false

/-- The tag belongs to the write of a record, by JSEQ, to the ring of a member, and has not completed (09 R260). -/
def ringOpen (id mem jseq : Nat) (t : MTag) : Bool :=
  decide (t.work = .ring id mem jseq) && (decide (t.state = .outstanding) || decide (t.state = .waiting))

/-- A write of the hand has a tag that is quarantined or withheld, so the hand keeps its lock (12 R346). -/
def handHeld (s : State) (id hd : Nat) : Bool := anyTag (fun t => isHandWrite id hd t && tagHeld t) s

end Sys2Proof.Machine
end

