-- ==== Sys2Proof/Machine/Queues.lean ====
section
/-!
DEFINITION. Queues and command lifetime: doorbells, fetch, completion, halts, queue creation and deletion, abort and the
controller reset (03 R95; 04 R101 to R137).
-/

namespace Sys2Proof.Machine

/-! ## Shared operations -/

/-- Bytes with those of a write over them: `at_` and `off` are offsets in the buffer. -/
def overBytes (at_ : Nat) (new : Bytes) (off : Nat) (bs : Bytes) : Bytes :=
  if at_ + new.length ≤ off ∨ off + bs.length ≤ at_ then bs
  else (List.range bs.length).map fun i => if at_ ≤ off + i ∧ off + i < at_ + new.length then new.getD (off + i - at_) 0 else bs.getD i 0

/-- Bytes of a controller's buffer, with what the controller has written and no frame holds yet (06 R197); whether a sector of them is poisoned (R199). -/
def cmbBytes (s : State) (ctl off len : Nat) : Bytes × Bool :=
  let r := cmbRead ctl off len s.cache
  ((s.ctl ctl).late.foldl (fun bs w => overBytes w.1 w.2 off bs) r.1, r.2)

/-- The little-endian quadwords that lie at an address of the buffer. -/
def cmbWords (s : State) (ctl addr n : Nat) : Option (List Nat) :=
  (inCmb (s.ctl ctl) addr (8 * n)).map fun off =>
    (List.range n).map fun i => leNat (sliceBytes (cmbBytes s ctl off (8 * n)).1 (8 * i) 8)

/-- PRP list pages, those in the buffer as it holds them (06 R197): `need` entries, the first page at `addr` with room for `cap`. -/
def cmbLists (s : State) (ctl page : Nat) : Nat → Nat → Nat → Nat → List (List Nat) → List (List Nat)
  | 0, _, _, _, ls => ls
  | n + 1, need, cap, addr, ls =>
    let l := (cmbWords s ctl addr (min need cap)).getD (ls.headD [])
    if need ≤ cap then l :: ls.tail else l :: cmbLists s ctl page n (need - (cap - 1)) (page / 8) (l.getD (cap - 1) 0) ls.tail

/-- An SGL descriptor of 16 bytes (04 R116; the encoding is NVMe's, PRESUMED, log 34). -/
def readDesc (b : Bytes) : SglDesc :=
  let kind := leNat ((b.drop 15).take 1)
  { kind := if kind = 0x00 then .dataBlock else if kind = 0x10 then .bitBucket else if kind = 0x20 then .segment else if kind = 0x30 then .lastSegment
      else .unsupported
    addr := leNat (b.take 8), len := leNat ((b.drop 8).take 4) }

/-- SGL segments, those in the buffer as it holds them (06 R197), from the descriptor that names the first. -/
def cmbSegs (s : State) (ctl : Nat) : Nat → SglDesc → List (List SglDesc) → List (List SglDesc)
  | 0, _, ls => ls
  | n + 1, d, ls =>
    let l := match inCmb (s.ctl ctl) d.addr d.len with
      | some off => (List.range (d.len / 16)).map fun i => readDesc (sliceBytes (cmbBytes s ctl off d.len).1 (16 * i) 16)
      | none => ls.headD []
    match l.getLast? with
    | some x => if x.kind = .segment ∨ x.kind = .lastSegment then l :: cmbSegs s ctl n x ls.tail else l :: ls.tail
    | none => l :: ls.tail

/-- A data pointer for a transfer of `len` bytes, with its lists and segments in the buffer as it holds them (06 R197). -/
def cmbPtr (s : State) (ctl len : Nat) (p : DataPtr) : DataPtr :=
  if !cmbEnabled (s.ctl ctl) then p
  else
    match p with
    | .prp p1 p2 lists =>
      let page := 2 ^ (12 + (s.ctl ctl).mps)
      let rest := len - (page - p1 % page)
      if len ≤ page - p1 % page ∨ rest ≤ page then p
      else .prp p1 p2 (cmbLists s ctl page 8 (ceilDiv rest page) ((page - p2 % page) / 8) p2 lists)
    | .sgl first segs => if first.kind = .segment ∨ first.kind = .lastSegment then .sgl first (cmbSegs s ctl 65 first segs) else p
    | .reservedPsdt => p

/-- The entry that a queue fetches next: as the buffer holds it when the queue lies there (06 R197; the layout of an entry is NVMe's, PRESUMED, log 34), else
as read from host memory. -/
def heldEntry (s : State) (ctl : Nat) (q : Sq) (e : SqEntry) : SqEntry :=
  let e := match inCmb (s.ctl ctl) (q.base + 64 * q.head) 64 with
    | none => e
    | some off =>
      let b := (cmbBytes s ctl off 64).1
      let f := fun (at_ n : Nat) => leNat ((b.drop at_).take n)
      let psdt := f 1 1 / 64
      { e with
        cid := f 2 2, opcode := f 0 1, psdt := psdt, nsid := f 4 4, cdw10 := f 40 4, cdw11 := f 44 4
        ptr := if psdt = 0 then .prp (f 24 8) (f 32 8) (match e.ptr with | .prp _ _ ls => ls | _ => [])
          else if psdt = 1 then .sgl (readDesc (b.drop 24)) (match e.ptr with | .sgl _ ls => ls | _ => [])
          else .reservedPsdt }
  { e with ptr := cmbPtr s ctl e.len e.ptr }

/-- Leave PS3 or PS4 on host activity or TRUMP work: the last operational state returns (05 R163). -/
def wakeHost (s : State) : State :=
  if 3 ≤ s.mode.ps then { s with mode := { s.mode with ps := s.mode.lastOpPs, psTarget := none } } else s

/-- The controller answers register accesses and commands: its hub is up, in a mode with the host link. -/
def hubAnswers (s : State) : Bool := s.hubPowered && !decide (s.mode.mode = .holdup)

/-- Host software has reached a controller: L1, and PS3 and PS4, end (03 R93; 05 R163). -/
def hostArrives (ctl : Nat) (s : State) : State := leaveL1 ctl (wakeHost s)

/-- A doorbell write also takes the link out of L0p (03 R93). -/
def doorbellArrives (ctl : Nat) (s : State) : State :=
  let s := hostArrives ctl s
  let i := ctlPort s ctl
  if (s.port i).l0p then s.setPort i { s.port i with l0p := false } else s

/-- A record is the DATA record of a command. -/
def isDataOf (r : CmdRef) (nsid jseq : Nat) (x : JRec) : Bool :=
  match x.body with
  | .data cntlid sqid n _ _ =>
    decide (x.jseq = jseq) && decide (cntlid = r.ctl) && decide (sqid = r.sqid) && decide (n = nsid)
  | _ => false

/-- The DATA record of a command that is given up is no longer live, so that it is never replayed (04 R132, R136, DEDUCED, log 122): it
waits to be named by the next TRIM record (09 R264), and the command's completion for that record to be durable. -/
def dropRecord (r : CmdRef) (s : State) : State :=
  match (robOf s r).bind fun e => e.job.map fun j => (e.nsid, j.jseq) with
  | none => s
  | some (nsid, jseq) =>
    match s.decks.decks.find? fun p => p.2.journal.any (isDataOf r nsid jseq) with
    | none => s
    | some (id, d) =>
      updRob r (fun e => { e with dropped := some (id, jseq) })
        (s.setDeck id { d with journal := d.journal.filter (fun x => !isDataOf r nsid jseq x), trimJ := d.trimJ ++ [jseq] })

/-- A DATA record is named by a TRIM record that is durable on every current keeper (09 R260, R264). -/
def trimDone (s : State) (x : Nat × Nat) : Bool :=
  match s.deck x.1 with
  | none => true
  | some d =>
    !d.trimJ.contains x.2 && d.trims.all fun t =>
      !t.2.contains x.2 || (d.rings.filter (·.keeper)).all fun g => !anyTag (ringOpen x.1 g.member t.1) s

/-- Discard what an uncommitted command has staged, recorded or is reading (04 R132, R136; 06 R180). -/
def dropWork (r : CmdRef) (s : State) : State :=
  let s := dropRecord r s
  { s with cache := freeStaged r s.cache, reads := s.reads.filter fun j => !decide (j.ref = r) }

/-- Give up a command without effect: its work is discarded and it completes in its turn with the status. -/
def abandonCmd (r : CmdRef) (status : Nat) (s : State) : State := wtRecord (failCmd r status (dropWork r s))

/-- Commands of a queue that are neither committed nor already ending with an error. -/
def uncommittedOf (ctl : Nat) (q : Sq) : List CmdRef :=
  (q.rob.filter fun e => !robDone e).map fun e => { ctl := ctl, sqid := q.id, cid := e.cid }

/-- Commands of a queue that have not passed their commit points (04 R104, R119): those behind the leading ones that have, an error that is
queued for its turn among them. -/
def behindCommit (ctl : Nat) (q : Sq) : List CmdRef :=
  ((q.rob.dropWhile robDone).filter fun e => !e.committed).map fun e => { ctl := ctl, sqid := q.id, cid := e.cid }

/-- The controller keeps note of the records that were dropped for commands of its queues which vanish (04 R127, R136). -/
def keepDropped (ctl : Nat) (s : State) : State :=
  let c := s.ctl ctl
  s.setCtl ctl { c with dropped := ((c.dropped ++ c.sqs.flatMap fun q => q.rob.filterMap (·.dropped)).filter fun x => !trimDone s x).eraseDups }

/-- Abandon every uncommitted command of a controller: nothing of it takes effect (04 R134, R136). -/
def dropUncommitted (ctl : Nat) (s : State) : State :=
  keepDropped ctl ((s.ctl ctl).sqs.foldl (fun s q => (uncommittedOf ctl q).foldl (fun s r => dropWork r s) s) s)

/-- What waits to end a command of a controller forgets the command: a Sanitize or Format goes on without it, an activation and an ONLINE
do not (04 R136; 05 R159). -/
def forgetRefs (ctl : Nat) (s : State) : State :=
  let mine := fun (r : CmdRef) => decide (r.ctl = ctl)
  let stop := match s.trust.activating with | some a => mine a.ref | none => false
  let ctls := if stop then s.ctls.map fun p => (p.1, { p.2 with pp := false }) else s.ctls
  { s with
    ctls := ctls
    trust := if stop then { s.trust with activating := none } else s.trust
    decks := { s.decks with wipe := s.decks.wipe.map fun w => { w with ref := w.ref.filter fun r => !mine r } }
    members := { s.members with onlineRefs := s.members.onlineRefs.filter fun x => !mine x.2 } }

/-- Controller reset of an NVMe controller (04 R136): fetching stops, uncommitted commands have no effect, completions are
dropped, every queue is deleted; CC.EN, CSTS.RDY and CSTS.SHST read 0. Features keep their values; GEN counts the halted queues
deleted. A claim of the download slot ends (16 R460). CSTS.PP stays while an activation that the other controller commands runs (R138). -/
def controllerReset (ctl : Nat) (s : State) : State :=
  let s := forgetRefs ctl (disarmFinj 5 (dropUncommitted ctl s))
  let s := if s.trust.claim = some ctl then { s with trust := { s.trust with claim := none } } else s
  let c := s.ctl ctl
  let halted := (c.sqs.filter fun q => decide (q.state = .halted)).length
  let s := s.setCtl ctl { c with
    ccEn := false, rdy := false, shst := 0, pp := c.pp && s.trust.activating.isSome, cfs := false, sqs := [], cqs := [], aers := [], aens := [], aenMasked := [],
    haltGen := c.haltGen + halted, aggregated := [], miResponse := none, arbLast := [], arbCredit := [] }
  wtRecord (settleInta ctl (updateLtr ctl (s.setFn (ctl - 1) { s.fn (ctl - 1) with intms := 0 })))

/-- Standard and vendor admin opcodes that the controller supports (05 R150, R151). -/
def adminOpcodes : List Nat :=
  [0x00, 0x01, 0x02, 0x04, 0x05, 0x06, 0x08, 0x09, 0x0A, 0x0C, 0x0D, 0x10, 0x11, 0x15, 0x1D, 0x1E, 0x80, 0x84,
   0xC0, 0xC1, 0xC2, 0xC4, 0xC5, 0xC6, 0xC8, 0xC9, 0xCA, 0xCC, 0xCD, 0xCE, 0xD0, 0xD1]

/-- I/O opcodes of R118. -/
def ioOpcodes : List Nat := [0x00, 0x01, 0x02, 0x05, 0x08, 0x09, 0x0C]

/-- Whether a queue supports an opcode. -/
def opcodeKnown (sqid opcode : Nat) : Bool := if sqid = 0 then adminOpcodes.contains opcode else ioOpcodes.contains opcode

/-- The tail check of R107: none accepts the value, otherwise the halt reason. -/
def tailCheck (head tail size v : Nat) : Option Nat :=
  let free := (head + 2 * size - tail - 1) % size
  let advance := (v + size - tail) % size
  if size ≤ v then some 2 else if free < advance then some 1 else none

/-- The head check of R109. -/
def headAccepted (q : Cq) (v : Nat) : Bool :=
  decide (v < q.size) && decide ((v + q.size - q.head) % q.size ≤ (q.tail + q.size - q.head) % q.size)

/-- A rejected doorbell (04 R110): event 0x1005 and an Error event, information 0 or 1. -/
def badDoorbell (ctl offset value info : Nat) (s : State) : State :=
  raiseAen ctl 0 info 0x01 (recordEvent 0x1005 [offset, value, ctl, 0] s)

/-- The NVMe controller exists in this port configuration (03 R70). -/
def ctlExists (s : State) (ctl : Nat) : Bool := s.ctlIds.contains ctl

/-- BAR0 can be reached: the mode has the host link, Request Retry Status has ended and the function is in D0 (02 R54, 03 R81). -/
def barLive (s : State) (ctl : Nat) : Bool :=
  ctlExists s ctl && !(s.port (ctlPort s ctl)).rrs && !(s.fn (ctl - 1)).d3hot

/-- A BAR access to a function that does not answer: in D3hot it is an Unsupported Request (03 R81, R96). -/
def barRefused (ctl : Nat) (s : State) : State :=
  if hubAnswers s && ctlExists s ctl && (s.fn (ctl - 1)).d3hot then
    sendTlp (ctl - 1) (.cpl (ctl - 1) .unsupportedRequest []) (aerAdvisory (ctl - 1) (some 20) s)
  else s

/-- Fetching is allowed on a controller: enabled and ready, not shut down, no activation under way, in D0 (02 R64, 03 R81, 04 R111,
R138). -/
def mayFetch (s : State) (ctl : Nat) : Bool :=
  let c := s.ctl ctl
  c.ccEn && c.rdy && decide (c.shst = 0) && !c.pp && !(s.fn (ctl - 1)).d3hot

/-- A queue may take one more entry (04 R111). -/
def roomInRob (s : State) (ctl : Nat) (q : Sq) : Bool :=
  let n := fetchedOf (s.ctl ctl) q
  decide (n < 512) && (decide (n < 16) || decide (0 < robSharedFree s))

/-! ## Hub halves (03 R72) -/

/-- Hub half that owns a queue while both halves are in service (03 R72). -/
def normalHalf (s : State) (ctl qid : Nat) : Nat := if s.power.hostBif then ctl - 1 else qid % 2

/-- The queue engine of a hub half is in service. -/
def engineRuns (s : State) (half : Nat) : Bool := !s.mode.halfDown.getD half false && !s.mode.engineDown.getD half false

/-- Hub half that owns a queue created now: the other one when the normal one is out of service. -/
def ownerOf (s : State) (ctl qid : Nat) : Nat :=
  let h := normalHalf s ctl qid
  if !engineRuns s h && engineRuns s (1 - h) then 1 - h else h

/-- The queues of a hub half go over to the other half (03 R72). -/
def moveQueues (half : Nat) (s : State) : State :=
  { s with ctls := s.ctls.map fun p =>
      (p.1, { p.2 with sqs := p.2.sqs.map fun q => if q.half = half then { q with half := 1 - half } else q }) }

/-! ## Doorbells -/

/-- A write of a submission queue's tail doorbell (04 R107, R110, R127). -/
def tailDoorbell (ctl sqid value : Nat) (s : State) : State :=
  if !barLive s ctl then barRefused ctl s
  else
    let s := doorbellArrives ctl s
    let c := s.ctl ctl
    match findSq c sqid with
    | none => badDoorbell ctl (0x1000 + 8 * sqid) value 0 s
    | some q =>
      match q.state with
      | .deleting => s
      | .halted => s.setCtl ctl (putSq c { q with halt := q.halt.map fun h => { h with lateTail := value } })
      | .active =>
        match tailCheck q.head q.tail q.size value with
        | none => s.setCtl ctl (putSq c { q with tail := value })
        | some reason => if sqid = 0 then badDoorbell ctl 0x1000 value 1 s else haltQueue ctl sqid reason value none s

/-- SQ_TAIL_DOORBELL (04 R107). -/
def execSqTailDoorbell (ctl sqid value : Nat) (s : State) : Host.Outcome State Fault Refusal := .next (tailDoorbell ctl sqid value s)

/-- Halt every submission queue that posts to a completion queue (04 R109). One that is HALTED already keeps its reason and its record
(DESIGN CHOICE, log 118). -/
def haltPosters (ctl cqid value : Nat) (s : State) : State :=
  ((s.ctl ctl).sqs.filter fun q => decide (q.cqid = cqid)).foldl (fun s q => haltQueue ctl q.id 3 value none s) s

/-- The cause of a pending bit has gone: no completion queue of its vector holds an entry that host software has not taken (03 R90; PCI Express). -/
def settlePba (ctl : Nat) (s : State) : State :=
  let f := s.fn (ctl - 1)
  let wanted := fun (v : Nat) => (s.ctl ctl).cqs.any fun q => q.ien && decide (q.iv = v) && decide (q.head ≠ q.tail)
  s.setFn (ctl - 1) { f with pba := f.pba.filter wanted }

/-- A write of a completion queue's head doorbell (04 R109, R110). -/
def headDoorbell (ctl cqid value : Nat) (s : State) : State :=
  if !barLive s ctl then barRefused ctl s
  else
    let s := doorbellArrives ctl s
    let c := s.ctl ctl
    match findCq c cqid with
    | none => badDoorbell ctl (0x1000 + 8 * cqid + 4) value 0 s
    | some q =>
      if headAccepted q value then
        settleInta ctl (deliverAens ctl 8 (settlePba ctl (s.setCtl ctl (putCq c { q with head := value, lastHead := value }))))
      else if cqid = 0 then badDoorbell ctl 0x1004 value 1 s
      else haltPosters ctl cqid value (s.setCtl ctl (putCq c { q with lastHead := value }))

/-- CQ_HEAD_DOORBELL (04 R109). -/
def execCqHeadDoorbell (ctl cqid value : Nat) (s : State) : Host.Outcome State Fault Refusal := .next (headDoorbell ctl cqid value s)

/-! ## Fetch and completion -/

/-- A queue that is DELETING and has posted its last command is gone, and its Delete command passes its commit point (04 R104). -/
def finishDeletion (ctl sqid : Nat) (s : State) : State :=
  let c := s.ctl ctl
  match findSq c sqid with
  | none => s
  | some q =>
    if q.state = .deleting ∧ q.rob.isEmpty = true then
      let admin := c.sqs.filter fun p => !decide (p.id = sqid)
      let s := s.setCtl ctl { c with sqs := admin.map fun p =>
        if p.id = 0 then
          { p with rob := p.rob.map fun e =>
              if e.opcode = 0x00 ∧ e.waits = true ∧ e.nsid = sqid then { e with committed := true, waits := false } else e }
        else p }
      s
    else s

/-- The checks of an entry's data pointer when it is fetched (04 R114 to R117), for the commands whose own step carries none: admin commands
and Dataset Management, whose ranges take 16 bytes each. An admin command with PSDT 01b is Invalid Field (0x02) as one with 10b (NVMe's rule for
admin commands; R114 gives the status for 10b; DESIGN CHOICE, log 119). -/
def entryPtr (mps sqid : Nat) (e : SqEntry) : PtrCheck :=
  if sqid = 0 then (if e.psdt ≠ 0 then .status 0x02 else if e.len = 0 then .good else checkPtr mps false e.len e.ptr)
  else if 2 ≤ e.psdt then .status 0x02
  else if e.opcode = 0x09 then checkPtr mps false (16 * (e.cdw10 % 256 + 1)) e.ptr
  else .good

/-- A vendor admin command takes an action that is reserved: Queue Resume (04 R130), Member Control (12 R361), Rebuild Control (10 R295), Patrol Control
(10 R307), Recovery Request (17 R487), and Owner Provision/Challenge, of whose value 11b the spec states no status (DESIGN CHOICE, log 16). -/
def reservedAction (e : SqEntry) : Bool :=
  let action := e.cdw10 / 256 % 256
  if e.opcode = 0xC8 then decide (2 ≤ e.cdw11 % 4)
  else if e.opcode = 0xC4 then decide (6 < action)
  else if e.opcode = 0xC5 then decide (3 < action)
  else if e.opcode = 0xC6 then decide (4 < action)
  else if e.opcode = 0xCE then decide (e.cdw10 % 4 = 0) || decide (e.cdw10 % 4 = 3)
  else decide (e.opcode = 0xD1) && decide (e.cdw10 % 4 = 3)

/-- The error that an entry carries from its fetch (04 R114 to R118, R131; 05 R150): an opcode that the queue does not support, Invalid
Command Opcode (0x01); a data pointer that fails; a reserved action of Queue Resume, Invalid Field (0x02), which comes before the other checks
of R131 (DESIGN CHOICE, log 119). A structural fault of an admin command, whose queue is never halted, is PRP Offset Invalid (0x13)
(DESIGN CHOICE, log 119). -/
def entryDoom (mps sqid : Nat) (e : SqEntry) : Option Nat :=
  if opcodeKnown sqid e.opcode = false then some 0x01
  else if decide (sqid = 0) && reservedAction e then some 0x02
  else
    match entryPtr mps sqid e with
    | .status c => some c
    | .halt _ _ => some 0x13
    | .good => none

/-- A fetched Delete I/O Submission Queue puts its queue into DELETING (04 R103, R104): what has not passed its commit point completes with
Command Aborted due to SQ Deletion (0x08). -/
def beginDeletion (ctl qid : Nat) (s : State) : State :=
  let c := s.ctl ctl
  match findSq c qid with
  | none => s
  | some q =>
    let gen := if q.state = .halted then c.haltGen + 1 else c.haltGen
    let s := s.setCtl ctl { putSq c { q with state := .deleting, halt := none } with haltGen := gen }
    (behindCommit ctl q).foldl (fun s r => abandonCmd r 0x08 s) s

/-- The queue that a fetched entry deletes: an I/O submission queue that exists and is not DELETING yet. -/
def deletedBy (c : Ctl) (sqid : Nat) (e : SqEntry) (doom : Option Nat) : Option Nat :=
  let qid := e.cdw10 % 65536
  if sqid = 0 ∧ e.opcode = 0x00 ∧ doom = none ∧ qid ≠ 0 then
    (findSq c qid).bind fun q => if q.state = .deleting then none else some qid
  else none

/-- A delete of a volume has been fetched and has not ended (05 R145). -/
def deleteFetched (s : State) (nsid : Nat) : Bool :=
  s.ctls.any fun p => p.2.sqs.any fun q => decide (q.id = 0) && q.rob.any fun e => e.deletesNs && !robDone e && decide (e.nsid = nsid)

/-- Fetch one entry into a reorder buffer entry (04 R103, R111, R126 reasons 0x04 and 0x07). From the fetch of a delete of a volume on, an I/O command
to its NSID is Invalid Namespace or Format (0x0B) (05 R145). An admin command with the identifier of one
that is fetched completes in its turn with Command ID Conflict (0x03) (NVMe, PRESUMED, log 119): the admin queue is never halted. -/
def fetchOne (ctl sqid : Nat) (e : SqEntry) (s : State) : State :=
  let c := s.ctl ctl
  match findSq c sqid with
  | none => s
  | some q =>
    let e := heldEntry s ctl q e
    if q.state ≠ .active ∨ q.head = q.tail ∨ roomInRob s ctl q = false then s
    else if (q.rob.any fun r => decide (r.cid = e.cid)) || (decide (sqid = 0) && c.aers.contains e.cid) then
      if sqid = 0 then
        let r : RobEntry := { cid := e.cid, opcode := e.opcode, nsid := e.nsid, doom := some 0x03, dup := true }
        s.setCtl ctl (putSq c { q with rob := q.rob ++ [r], head := (q.head + 1) % q.size, retried := false })
      else haltQueue ctl sqid 4 0 (some e.cid) s
    else
      match (if sqid = 0 ∨ opcodeKnown sqid e.opcode = false then PtrCheck.good else entryPtr c.mps sqid e) with
      | .halt reason info => haltQueue ctl sqid reason info (some e.cid) s
      | _ =>
        let gone := if sqid ≠ 0 ∧ deleteFetched s e.nsid = true then some 0x0B else none
        let doom := (entryDoom c.mps sqid e).orElse fun _ => gone
        let del := deletedBy c sqid e doom
        let delNs := decide (sqid = 0) && decide (e.opcode = 0x0D) && decide (e.cdw10 % 16 = 1) && doom.isNone && tblHas s.decks.volumes e.nsid
        let r : RobEntry :=
          { cid := e.cid, opcode := e.opcode, nsid := e.nsid, doom := doom, deletes := del, deletesNs := delNs, ptr := e.ptr }
        let s := s.setCtl ctl (putSq c { q with rob := q.rob ++ [r], head := (q.head + 1) % q.size, retried := false })
        match del with
        | some qid => finishDeletion ctl qid (beginDeletion ctl qid s)
        | none => s

/-! ## Arbitration (04 R112; the mechanisms are NVMe's, PRESUMED, log 107) -/

/-- A queue may fetch: ACTIVE, with an entry and a reorder buffer entry, its half's engine in service or the other half's out of service too. -/
def canFetch (s : State) (ctl : Nat) (q : Sq) : Bool :=
  decide (q.state = .active) && decide (q.head ≠ q.tail) && roomInRob s ctl q && (engineRuns s q.half || !engineRuns s (1 - q.half))

/-- Priority class of a queue: urgent 0, high 1, medium 2, low 3 under weighted round robin with urgent priority class, one class 4 under
round robin. -/
def arbClass (c : Ctl) (q : Sq) : Nat := if c.ams = 1 then q.prio % 4 else 4

/-- Weight of a class: the commands it may fetch in a round, HPW, MPW and LPW of the Arbitration feature, 0's based. -/
def arbWeight (c : Ctl) (cls : Nat) : Nat :=
  let f := featValue c 0x01 0
  1 + (if cls = 1 then f >>> 24 else if cls = 2 then (f >>> 16) &&& 0xFF else (f >>> 8) &&& 0xFF).toNat

/-- Commands that a class may still fetch in this round. -/
def arbLeft (c : Ctl) (cls : Nat) : Nat := tblGet c.arbCredit cls (arbWeight c cls)

/-- I/O queues of a class that may fetch. -/
def arbQueues (s : State) (ctl cls : Nat) : List Sq :=
  (s.ctl ctl).sqs.filter fun q => decide (q.id ≠ 0) && decide (arbClass (s.ctl ctl) q = cls) && canFetch s ctl q

/-- Every weighted class with a queue that may fetch has used up its commands: a new round begins. -/
def roundOver (s : State) (ctl : Nat) : Bool :=
  [1, 2, 3].all fun cls => (arbQueues s ctl cls).isEmpty || decide (arbLeft (s.ctl ctl) cls = 0)

/-- The class that wins: urgent first, then the weighted classes from high to low that may still fetch in this round. -/
def arbWinner (s : State) (ctl : Nat) : Nat :=
  if (s.ctl ctl).ams ≠ 1 then 4
  else if !(arbQueues s ctl 0).isEmpty then 0
  else
    ([1, 2, 3].find? fun cls =>
      !(arbQueues s ctl cls).isEmpty && (roundOver s ctl || decide (0 < arbLeft (s.ctl ctl) cls))).getD 3

/-- The queue of a class whose turn it is: the next in rising order of identifiers after the one that fetched last. -/
def arbNext (s : State) (ctl cls : Nat) : Option Nat :=
  let qs := (arbQueues s ctl cls).map fun q => q.id
  let last := tblGet (s.ctl ctl).arbLast cls 0
  let above := qs.filter fun i => decide (last < i)
  match (if above.isEmpty then qs else above) with
  | [] => none
  | i :: is => some (is.foldl min i)

/-- The admin submission queue has an entry that can be fetched: it always wins. -/
def adminWaits (s : State) (ctl : Nat) : Bool :=
  match findSq (s.ctl ctl) 0 with
  | some q => canFetch s ctl q
  | none => false

/-- Another queue wins arbitration over this one. -/
def outranked (s : State) (ctl sqid : Nat) : Bool :=
  decide (sqid ≠ 0) && (adminWaits s ctl || decide (arbNext s ctl (arbWinner s ctl) ≠ some sqid))

/-- Commands that a burst of a queue may fetch: 2^AB, without limit for AB = 7, and what its weighted class has left. -/
def burstOf (s : State) (ctl sqid n : Nat) : Nat :=
  let c := s.ctl ctl
  let ab := (featValue c 0x01 0 &&& 7).toNat
  let most := if ab = 7 then n else min n (2 ^ ab)
  let cls := arbWinner s ctl
  if sqid = 0 ∨ cls = 0 ∨ cls = 4 then most else min most (if roundOver s ctl then arbWeight c cls else arbLeft c cls)

/-- The turn passes on after a burst of `n` commands of a queue. -/
def passTurn (ctl sqid n : Nat) (s : State) : State :=
  let c := s.ctl ctl
  let cls := arbWinner s ctl
  if sqid = 0 then s
  else
    let credit := if cls = 0 ∨ cls = 4 then c.arbCredit
      else if roundOver s ctl then [(cls, arbWeight c cls - n)] else tblPut c.arbCredit cls (arbLeft c cls - n)
    s.setCtl ctl { c with arbLast := tblPut c.arbLast cls sqid, arbCredit := credit }

/-- Host memory that holds the next `n` entries of a queue: one range, or two across the queue's end. A queue in the Controller Memory Buffer is
read there (06 R197). -/
def entryRanges (s : State) (ctl sqid n : Nat) : List (Nat × Nat) :=
  match findSq (s.ctl ctl) sqid with
  | none => []
  | some q =>
    let k := min n (q.size - q.head)
    ([(q.base + 64 * q.head, 64 * k), (q.base, 64 * (n - k))].filter fun r => decide (r.2 ≠ 0)).filter fun r => (inCmb (s.ctl ctl) r.1 r.2).isNone

/-- Request a command's data from the host memory that the pieces of its transfer name, those in the Controller Memory Buffer aside (03 R75). -/
def requestPieces (ref : CmdRef) (ps : List (Option Nat × Nat)) (s : State) : State :=
  let c := s.ctl ref.ctl
  requestHost (ref.ctl - 1) ((ps.filterMap fun x => x.1.map fun a => (a, x.2)).filter fun r => (inCmb c r.1 r.2).isNone) s

/-- COMMAND_FETCH (04 R111, R112): a burst of consecutive entries of one queue. A command stops the entry of a power state that waits
for dirty pages (05 R164). -/
def execCommandFetch (ctl sqid : Nat) (entries : List SqEntry) (s : State) : Host.Outcome State Fault Refusal :=
  if ctlExists s ctl && mayFetch s ctl && !outranked s ctl sqid && !entries.isEmpty then
    let burst := entries.take (burstOf s ctl sqid entries.length)
    let s0 := requestHost (ctl - 1) (entryRanges s ctl sqid burst.length) (leaveL1 ctl s)
    let s1 := updateLtr ctl (burst.foldl (fun s e => fetchOne ctl sqid e s) (passTurn ctl sqid burst.length s0))
    if openCount (s1.ctl ctl) = openCount (s.ctl ctl) then .next s1
    else .next { s1 with mode := { s1.mode with psTarget := none } }
  else .next s

/-- Post the oldest command of a queue once it has passed its commit point and its completion queue has room (04 R108, R120); in D3hot
completions are held (03 R81). -/
def postOldest (ctl sqid : Nat) (s : State) : State :=
  let c := s.ctl ctl
  match findSq c sqid with
  | none => s
  | some q =>
    match q.rob with
    | [] => s
    | e :: rest =>
      if robDone e && e.dropped.all (trimDone s) && cqRoom c q.cqid && !(s.fn (ctl - 1)).d3hot then
        let status := e.doom.getD e.status
        let s := s.setCtl ctl (putSq c { q with rob := rest })
        let s := logError ctl sqid e.cid status e.nsid e.lba s
        let s := writeCqe ctl q.cqid sqid q.head e.cid status e.dw0 s
        updateLtr ctl (finishDeletion ctl sqid s)
      else s

/-- COMPLETION_POST (04 R108, R120). -/
def execCompletionPost (ctl sqid : Nat) (s : State) : Host.Outcome State Fault Refusal := .next (postOldest ctl sqid s)

/-- SQ_ENTRY_READ_ERROR (03 R96, R97): fetched once more; the second failure halts the queue with reason 0x08. The admin queue is
never halted (04 R103), so it only tries again. -/
def execSqEntryReadError (ctl sqid : Nat) (second : Bool) (s : State) : Host.Outcome State Fault Refusal :=
  let c := s.ctl ctl
  match findSq c sqid with
  | none => .next s
  | some q =>
    if q.state ≠ .active ∨ q.head = q.tail then .next s
    else
      let s := aerAdvisory (ctl - 1) none s
      if second && q.retried then
        .next (haltQueue ctl sqid 8 0 none (s.setCtl ctl (putSq c { q with retried := false })))
      else .next (s.setCtl ctl (putSq c { q with retried := true }))

/-! ## Admin commands on queues -/

/-- PRP1 of a command as it was fetched: the address of the queue that a Create command makes (04 R105). -/
def prp1Of (s : State) (ref : CmdRef) : Nat := ((robOf s ref).map fun e => firstAddr e.ptr).getD 0

/-- CREATE_IO_CQ (04 R105). Checks in this order: identifier, size, contiguity, vector (the order is NVMe's choice, log 14). -/
def execCreateIoCq (ref : CmdRef) (qid qsize : Nat) (pc ien : Bool) (iv : Nat) (s : State) :
    Host.Outcome State Fault Refusal :=
  if !(mayCommit s ref && decide (ref.sqid = 0)) then .next s
  else
    let c := s.ctl ref.ctl
    if qid = 0 ∨ 2048 < qid ∨ (findCq c qid).isSome = true then .next (failCmd ref 0x101 s)
    else if qsize = 0 ∨ 65535 < qsize then .next (failCmd ref 0x102 s)
    else if pc = false then .next (failCmd ref 0x02 s)
    else if ien = true ∧ 2048 ≤ iv then .next (failCmd ref 0x108 s)
    else
      let s := s.setCtl ref.ctl { c with cqs := c.cqs ++ [{ id := qid, size := qsize + 1, ien := ien, iv := iv, base := prp1Of s ref }] }
      .next (commitCmd ref 0 0 s)

/-- CREATE_IO_SQ (04 R103, R105). Every CQID that names no completion queue, 0 and one out of range among them, is Completion Queue Invalid
(DESIGN CHOICE, log 14). -/
def execCreateIoSq (ref : CmdRef) (qid qsize cqid prio : Nat) (pc : Bool) (s : State) : Host.Outcome State Fault Refusal :=
  if !(mayCommit s ref && decide (ref.sqid = 0)) then .next s
  else
    let c := s.ctl ref.ctl
    if cqid = 0 ∨ (findCq c cqid).isSome = false then .next (failCmd ref 0x100 s)
    else if qid = 0 ∨ 2048 < qid ∨ (findSq c qid).isSome = true then .next (failCmd ref 0x101 s)
    else if qsize = 0 ∨ 65535 < qsize then .next (failCmd ref 0x102 s)
    else if pc = false then .next (failCmd ref 0x02 s)
    else
      let s := s.setCtl ref.ctl { c with sqs := c.sqs ++ [{ id := qid, size := qsize + 1, cqid := cqid, prio := prio, half := ownerOf s ref.ctl qid, base := prp1Of s ref }] }
      .next (commitCmd ref 0 0 s)

/-- DELETE_IO_CQ (04 R105). -/
def execDeleteIoCq (ref : CmdRef) (qid : Nat) (s : State) : Host.Outcome State Fault Refusal :=
  if !(mayCommit s ref && decide (ref.sqid = 0)) then .next s
  else
    let c := s.ctl ref.ctl
    if qid = 0 ∨ (findCq c qid).isSome = false then .next (failCmd ref 0x101 s)
    else if c.sqs.any fun q => decide (q.cqid = qid) then .next (failCmd ref 0x10C s)
    else .next (commitCmd ref 0 0 (settlePba ref.ctl (s.setCtl ref.ctl { c with cqs := c.cqs.filter fun q => !decide (q.id = qid) })))

/-- DELETE_IO_SQ (04 R103, R104): the queue has been DELETING since the fetch; the command completes after the queue's last completion is
posted. -/
def execDeleteIoSq (ref : CmdRef) (qid : Nat) (s : State) : Host.Outcome State Fault Refusal :=
  if !(mayCommit s ref && decide (ref.sqid = 0)) then .next s
  else
    let c := s.ctl ref.ctl
    let begun := ((robOf s ref).bind fun e => e.deletes) = some qid
    match findSq c qid with
    | none => if begun then .next (commitCmd ref 0 0 s) else .next (failCmd ref 0x101 s)
    | some q =>
      if begun then .next (finishDeletion ref.ctl qid (waitCmd ref qid s))
      else if qid = 0 ∨ q.state = .deleting then .next (failCmd ref 0x101 s)
      else .next (finishDeletion ref.ctl qid (waitCmd ref qid (beginDeletion ref.ctl qid s)))

/-- Aborts that have been examined and not yet posted on a controller (04 R132). -/
def abortsOpen (c : Ctl) : Nat :=
  match findSq c 0 with
  | some q => (q.rob.filter fun e => decide (e.opcode = 0x08) && robDone e).length
  | none => 0

/-- The named command is an Asynchronous Event Request that waits for an event. -/
def waitsForEvent (c : Ctl) (sqid cid : Nat) : Bool := decide (sqid = 0) && c.aers.contains cid

/-- A waiting Asynchronous Event Request is aborted: it completes with Command Abort Requested, after the commands fetched so far, since it has had
no place in the order of its queue (DESIGN CHOICE, log 120). -/
def abortAer (ctl cid : Nat) (s : State) : State :=
  let c := s.ctl ctl
  s.setCtl ctl { c with
    aers := c.aers.erase cid
    sqs := c.sqs.map fun q => if q.id = 0 then { q with rob := q.rob ++ [{ cid := cid, opcode := 0x0C, doom := some 0x07 }] } else q }

/-- ABORT (04 R132, R133): exactly one outcome, event 0x1012. A waiting Asynchronous Event Request is fetched and not past its commit
point. An Abort that names itself is not aborted, and the queue that an aborted Delete I/O Submission Queue named stays DELETING (DESIGN CHOICE,
log 120). -/
def execAbort (ref : CmdRef) (sqid cid : Nat) (s : State) : Host.Outcome State Fault Refusal :=
  if !(mayCommit s ref && decide (ref.sqid = 0)) then .next s
  else if 8 ≤ abortsOpen (s.ctl ref.ctl) then .next (failCmd ref 0x103 (recordEvent 0x1012 [sqid, cid, 1, 0] s))
  else
    let target : CmdRef := { ctl := ref.ctl, sqid := sqid, cid := cid }
    match robOf s target with
    | some e =>
      if robDone e || decide (target = ref) then
        .next (commitCmd ref 0 1 (recordEvent 0x1012 [sqid, cid, 1, 0] s))
      else .next (commitCmd ref 0 0 (recordEvent 0x1012 [sqid, cid, 0, 0] (abandonCmd target 0x07 s)))
    | none =>
      if waitsForEvent (s.ctl ref.ctl) sqid cid then
        .next (commitCmd ref 0 0 (recordEvent 0x1012 [sqid, cid, 0, 0] (abortAer ref.ctl cid s)))
      else .next (commitCmd ref 0 1 (recordEvent 0x1012 [sqid, cid, 1, 0] s))

/-- The resume of a halted queue (04 R130): the new head, and the check of LATE_TAIL and of the completion queue head. A resume that fails
changes REASON and FAULT_INFO only: HEAD stays at the faulting entry, a SKIP's too, with its CID_VALID, CID and TIME (DESIGN CHOICE, log 121). -/
def resumeQueue (ctl : Nat) (q : Sq) (h : HaltRec) (action newHead : Nat) (s : State) : State :=
  let c := s.ctl ctl
  let cqBad := match findCq c q.cqid with
    | some cq => decide (h.reason = 3) && !headAccepted cq cq.lastHead
    | none => false
  let fail := fun (reason info : Nat) =>
    raiseAen ctl 7 0 0xC2 (s.setCtl ctl { putSq c { q with halt := some { h with reason := reason, faultInfo := info } } with
      haltGen := c.haltGen + 1 })
  if cqBad then
    fail 3 (match findCq c q.cqid with | some cq => cq.lastHead | none => 0)
  else
    match tailCheck newHead q.tail q.size h.lateTail with
    | some reason => fail reason h.lateTail
    | none =>
      let c := if h.reason = 3 then
          match findCq c q.cqid with
          | some cq => putCq c { cq with head := cq.lastHead }
          | none => c
        else c
      let q' := { q with state := .active, halt := none, head := newHead, tail := h.lateTail, retried := false }
      recordEvent 0x1011 [q.id, action, newHead, 0] (s.setCtl ctl { putSq c q' with haltGen := c.haltGen + 1 })

/-- What Queue Resume checks first (04 R131). -/
def resumeStatus (c : Ctl) (sqid : Nat) (skip : Bool) : Nat :=
  match findSq c sqid with
  | none => 0x101
  | some q =>
    if sqid = 0 then 0x101
    else
      match q.halt with
      | none => 0x0C
      | some h => if skip && decide (h.reason ≤ 3) then 0x02 else 0

/-- Queue Resume with an action (04 R130, R131). -/
def doResume (ref : CmdRef) (sqid : Nat) (skip : Bool) (s : State) : State :=
  let c := s.ctl ref.ctl
  let status := resumeStatus c sqid skip
  if status ≠ 0 then failCmd ref status s
  else
    match findSq c sqid with
    | none => s
    | some q =>
      match q.halt with
      | none => s
      | some h =>
        let s := commitCmd ref 0 0 s
        let q := (findSq (s.ctl ref.ctl) sqid).getD q
        resumeQueue ref.ctl q h (if skip then 1 else 0) (if skip then (q.head + 1) % q.size else q.head) s

/-- QUEUE_RESUME_RETRY (04 R130). -/
def execQueueResumeRetry (ref : CmdRef) (sqid : Nat) (s : State) : Host.Outcome State Fault Refusal :=
  if mayCommit s ref && decide (ref.sqid = 0) then .next (doResume ref sqid false s) else .next s

/-- QUEUE_RESUME_SKIP (04 R130). -/
def execQueueResumeSkip (ref : CmdRef) (sqid : Nat) (s : State) : Host.Outcome State Fault Refusal :=
  if mayCommit s ref && decide (ref.sqid = 0) then .next (doResume ref sqid true s) else .next s

/-- ASYNCHRONOUS_EVENT_REQUEST (02 R50, 05 R150): held outside the order of its queue until an event is reported on it (DEDUCED,
log 15); a ninth completes with Asynchronous Event Request Limit Exceeded (AERL = 7). -/
def execAsynchronousEventRequest (ref : CmdRef) (s : State) : Host.Outcome State Fault Refusal :=
  if !(isOpen s ref && decide (ref.sqid = 0)) then .next s
  else
    let c := s.ctl ref.ctl
    if 8 ≤ c.aers.length then .next (failCmd ref 0x105 s)
    else
      let c := { c with aers := c.aers ++ [ref.cid], aens := c.aens.filter (aenAllowed c), sqs := c.sqs.map fun q =>
        if q.id = 0 then { q with rob := q.rob.filter fun e => !decide (e.cid = ref.cid) || e.dup } else q }
      .next (deliverAens ref.ctl 8 (updateLtr ref.ctl (s.setCtl ref.ctl c)))

/-- AGGREGATION_TIME_EXPIRY (03 R92): the pending interrupt of a vector is sent; in D3hot it is held. -/
def execAggregationTimeExpiry (ctl vec : Nat) (s : State) : Host.Outcome State Fault Refusal :=
  let c := s.ctl ctl
  if tblHas c.aggregated vec && !(s.fn (ctl - 1)).d3hot then
    .next (signalVec ctl vec (s.setCtl ctl { c with aggregated := tblDel c.aggregated vec }))
  else .next s

/-- Messages of vectors that are no longer masked are sent, and their pending bits clear (03 R90); in D3hot none is sent (R81). -/
def flushPba (fn : Nat) (s : State) : State :=
  let f := s.fn fn
  if msixEnabled f && !msixMasked f && !f.d3hot then
    let go := f.pba.filter fun v => f.unmasked.contains v
    go.reverse.foldl (fun s v => sendMsix (fn + 1) v s) (s.setFn fn { f with pba := f.pba.filter fun v => !go.contains v })
  else s

/-- A write of a vector's mask bit (03 R90): its pending message is sent when it is unmasked. -/
def maskVec (fn vec : Nat) (masked : Bool) (s : State) : State :=
  let f := s.fn fn
  let rest := f.unmasked.filter fun v => !decide (v = vec)
  flushPba fn (s.setFn fn { f with unmasked := if masked then rest else vec :: rest })

/-- MSIX_UNMASK (03 R90): the vector's pending message is sent. -/
def execMsixUnmask (ctl vec : Nat) (s : State) : Host.Outcome State Fault Refusal :=
  if !(barLive s ctl && decide (vec < 2048)) then .next (barRefused ctl s) else .next (maskVec (ctl - 1) vec false (hostArrives ctl s))

/-- A write of a dword of BAR4 (03 R85, R90): a vector's message address, data or mask. The PBA is read-only. -/
def bar4Write (fn off : Nat) (v : BitVec 32) (s : State) : State :=
  let vec := off / 16
  if 0x8000 ≤ off then s
  else if off % 16 = 12 then maskVec fn vec (v.getLsbD 0) s
  else
    let f := s.fn fn
    let m := tblGet f.vectors vec (0, 0)
    let m := if off % 16 = 0 then (((m.1 >>> 32) <<< 32) ||| (v &&& 0xFFFFFFFC#32).setWidth 64, m.2)
      else if off % 16 = 4 then ((m.1.setWidth 32).setWidth 64 ||| (v.setWidth 64 <<< 32), m.2) else (m.1, v)
    s.setFn fn { f with vectors := tblPut f.vectors vec m }

/-- What a dword of BAR4 reads (03 R85, R90). -/
def bar4Dword (s : State) (fn off : Nat) : Nat :=
  let f := s.fn fn
  let m := tblGet f.vectors (off / 16) (0, 0)
  if off < 0x8000 then
    if off % 16 = 0 then m.1.toNat % 2 ^ 32 else if off % 16 = 4 then m.1.toNat / 2 ^ 32 else if off % 16 = 8 then m.2.toNat
    else if f.unmasked.contains (off / 16) then 0 else 1
  else if off < 0x8100 then bitmapOf ((List.range 32).filter fun b => f.pba.contains ((off - 0x8000) * 8 + b))
  else 0

/-- HOST_DATA_READ_ERROR (03 R96): the command completes with Data Transfer Error (0x04) and has no effect. -/
def execHostDataReadError (ref : CmdRef) (s : State) : Host.Outcome State Fault Refusal :=
  match robOf s ref with
  | some e =>
    if robDone e then .next s
    else .next (abandonCmd ref 0x04 (aerAdvisory (ref.ctl - 1) none s))
  | none => .next s

end Sys2Proof.Machine
end

