-- ==== Sys2Proof/Machine/Modes.lean ====
section
/-!
DEFINITION. Device modes: the stop record, the dirty limit and destage level, the cache policy, the release of a vault image,
the constraint causes and Critical Warning bits, entry to service and entry to QUARANTINE (02 R44 to R64; 06 R188 to R194;
17 R494, R495).
-/

namespace Sys2Proof.Machine

/-! ## Dirty limit, destage level and policy (06 R188 to R194) -/

/-- L (06 R188): the lowest of half the usable frames, HU_DIRTY_LIMIT, and CEIL when it is not 0. -/
def dirtyLimitOf (s : State) : Nat :=
  let half := (liveFrames s.cache - retiredCount s.cache - cmbReserved s) / 2
  let l := min half s.gauge.huLimit
  if s.feats.ceil = 0 then l else min l (s.feats.ceil * 16384)

/-- A write or a set waits under R189. -/
def writesWait (s : State) : Bool :=
  (s.ctls.any fun p => !p.2.stalled.isEmpty || p.2.sqs.any fun q => q.rob.any fun e =>
    match e.job with
    | some j => decide (j.step = .waiting)
    | none => false) || s.reads.any fun j => j.pages.all fun p => decide (p.missing = 0)

/-- Blocks of a ring in use, and free (09 R267). -/
def ringUsed (r : Ring) : Nat := (r.tailBlock + 65534 - r.headBlock) % 65534
def ringFree (r : Ring) : Nat := 65533 - ringUsed r

/-- Some keeper's ring has fewer than 2,048 free blocks (09 R267). -/
def ringsLow (s : State) : Bool :=
  s.decks.decks.any fun d => d.2.rings.any fun r => r.keeper && decide (ringFree r < 2048)

/-- Destage level (06 R190; TRUMP priority in a normal shutdown, 02 R64; with R193's write-through, R198's refusal and R267's low ring). -/
def destageLevelOf (s : State) : Nat :=
  let d := dirtyCount s
  let l := s.cache.limit
  let anyDirty := s.cache.dir.any fun e => decide (e.state = .dirty) || decide (e.state = .destaging)
  let anyJ := s.cache.dir.any fun e => decide (e.state = .dirtyJ) || decide (e.state = .destagingJ)
  if decide (s.mode.shutdownKind = 1) || l < d || !(loneDirty s.cache).isEmpty || (s.cache.writeThrough && anyDirty) || s.cache.cmbRefused || ringsLow s then 4
  else if writesWait s then 3
  else if decide (3 * l ≤ 4 * d) || anyJ || s.cache.writeThrough then 2
  else if l ≤ 4 * d then 1
  else 0

/-- The lowest condition of R192 that holds, 1 to 4, or 0. -/
def wtCondition (s : State) : Nat :=
  if !s.gauge.huReady then 1
  else if s.cache.limit < 16384 then 2
  else if s.feats.forceWt then 3
  else if s.vault.imageValid then 4
  else 0

/-- Change to write-through when a condition of R192 holds (06 R192, R194): event 0x2001. After a completed shutdown the policy stands until
the return to service (log 125). -/
def policyCheck (s : State) : State :=
  let cond := wtCondition s
  if cond ≠ 0 ∧ s.cache.writeThrough = false ∧ s.mode.shutDone = false then
    let s := { s with cache := { s.cache with writeThrough := true, wtRecordDue := true } }
    wtRecord (recordEvent 0x2001 [0, 1, cond, 0] s)
  else s

/-- Change to write-back (06 R192, R194): the conditions have been false for 10 s and L has been at least 32,768 pages. -/
def toWriteBack (s : State) : State :=
  if s.cache.writeThrough && decide (wtCondition s = 0) && decide (32768 ≤ s.cache.limit) && s.serving && !s.mode.shutDone then
    let s := { s with cache := { s.cache with writeThrough := false, wtRecordDue := false } }
    writeStop 1 (recordEvent 0x2001 [1, 0, 0, 0] s)
  else s

/-- Release a vault image (02 R63): every page destaged, or readiness restored and no page left without a partner. Never in
QUARANTINE, and not between a completed shutdown and the return to service (02 R65). The stop record is written OPEN with IMAGE_VALID
cleared. -/
def maybeReleaseImage (s : State) : State :=
  if s.vault.imageValid && s.serving && !s.mode.shutDone &&
      (s.vault.imageTodo.isEmpty || (s.gauge.huReady && (loneDirty s.cache).isEmpty)) then
    writeStop 1 { s with vault := { s.vault with imageValid := false, imageTodo := [] } }
  else s

/-! ## Constraint causes and Critical Warning (02 R48 to R50) -/

/-- A link runs on 15 sublinks (01 R21). -/
def linkNarrow (l : Link) : Bool := l.spareUsed && decide (2 ≤ l.bad.length)

/-- The exhausted-spare-level cause (02 R48). -/
def spareExhausted (s : State) : Bool :=
  !s.cache.fenced.isEmpty ||
  s.fabric.links.any (fun p => (decide (4 ≤ p.1) && p.2.fenced) || linkNarrow p.2) ||
  !s.fabric.short.isEmpty ||
  s.cache.channels.any (fun p => p.2.failed) ||
  s.mode.halfDown.contains true || s.mode.engineDown.contains true || s.mode.cryptoDown.contains true

/-- The causes of DEV_STATUS are set and cleared (02 R48, 18 R511); POWER_CAP and HEAT are the scheduler's. -/
def noteCauses (s : State) : State :=
  { s with mode := { s.mode with holdupCause := s.cache.writeThrough, spareCause := spareExhausted s } }

/-- The lowest constraint cause code present, 0 when none is (02 R49). -/
def causeCode (s : State) : Nat :=
  if s.mode.capCause then 0x10
  else if s.mode.heatCause then 0x11
  else if s.mode.holdupCause then 0x12
  else if s.mode.spareCause then 0x13
  else 0

/-- Over-temperature threshold of the Temperature Threshold feature, in K (02 R50, 05 R153). -/
def overTempK (s : State) : Nat := (featValue (s.ctl 1) 0x04 373).toNat % 65536

/-- Critical Warning bits that hold now (02 R50, 13 R375). -/
def critWarnOf (s : State) : BitVec 8 :=
  let hot := decide ((Int.ofNat (overTempK s) - 273) * 10 < s.sched.tjMax) || s.mode.criticalTemp
  (if hot then 2 else 0) ||| (if s.mode.spareCause then 4 else 0) |||
    (if s.mode.mode = .quarantine then 8 else 0) ||| (if s.gauge.huReady then 0 else 16)

/-- Bring the Critical Warning bits up to date. -/
def updateCritWarn (s : State) : State := reportCritWarn (critWarnOf s) s

/-- Evaluate the constraint causes and take T11 or T12 (02 R46, R48). Each is an entry to CONSTRAINED or SERVE, so the stop record
is written OPEN (R60). After a completed shutdown the mode and the causes stand until the return to service (R65; DEDUCED, log 125). -/
def constraintEval (s : State) : State :=
  if s.mode.shutDone then updateCritWarn s
  else
  let s := noteCauses s
  let code := causeCode s
  let s := updateCritWarn s
  if s.mode.mode = .serve ∧ code ≠ 0 then writeStop 1 (transit 11 .constrained code s)
  else if s.mode.mode = .constrained ∧ code = 0 then writeStop 1 (transit 12 .serve 0 s)
  else s

/-! ## Service and QUARANTINE -/

/-- CSTS.RDY becomes 1 on every controller whose CC.EN is 1 (02 R55), with the events of standing warnings (R50). One that has discarded commands
whose DATA records were sent waits until no power loss can bring them back (04 R136, DEDUCED, log 122). -/
def setReady (s : State) : State :=
  s.ctlIds.foldl (fun s id =>
    if (s.ctl id).ccEn && !(s.ctl id).rdy && (s.ctl id).dropped.all (trimDone s) then raiseStanding id (s.setCtl id { s.ctl id with rdy := true }) else s) s

/-- Enter SERVE or CONSTRAINED from BOOT (T4, T5) or RESTORE (T8, T9): OPEN is written first (02 R46, R60). Under write-through with dirty
pages left its WRITE_THROUGH is clear, and the record is written again when D reaches 0 (R59, 06 R194). -/
def enterService (noServe noConstr : Nat) (s : State) : State :=
  let s := noteCauses s
  let code := causeCode s
  let s := if code = 0 then transit noServe .serve 0 s else transit noConstr .constrained code s
  let s := { s with
    mode := { s.mode with servedSinceT3 := true, shutDone := false, shutdownKind := 0 },
    power := { s.power with earlyTrips := 0 }
    cache := { s.cache with wtRecordDue := s.cache.writeThrough && decide (dirtyCount s ≠ 0) } }
  setReady (updateCritWarn (writeStop 1 s))

/-- Write commands of R118 that QUARANTINE rejects. -/
def isWriteOpcode (op : Nat) : Bool := [0x01, 0x08, 0x09].contains op

/-- Fetched writes that are not past their commit point complete with Namespace is Write Protected (17 R495 step 2). -/
def rejectWrites (s : State) : State :=
  s.ctlIds.foldl (fun s id =>
    (s.ctl id).sqs.foldl (fun s q =>
      if q.id = 0 then s
      else
        (q.rob.filter fun e => !robDone e && isWriteOpcode e.opcode).foldl
          (fun s e => abandonCmd { ctl := id, sqid := q.id, cid := e.cid } 0x20 s) s) s) s

/-- Enter QUARANTINE by T7, T10 or T13 (17 R494, R495). -/
def enterQuarantine (no code detail : Nat) (s : State) : State :=
  let s := transit no .quarantine code s
  let s := { s with mode := { s.mode with quarantineCause := code } }
  let s := rejectWrites s
  let s := updateCritWarn s
  let s := recordEvent 0xA020 [code, detail, 0, 0] s
  setReady s

/-- Event 0xA021 when QUARANTINE is left by a transition (17 R496). -/
def leaveQuarantine (no : Nat) (s : State) : State :=
  if s.mode.mode = .quarantine then
    recordEvent 0xA021 [no, 0, 0, 0] { s with mode := { s.mode with quarantineCause := 0 } }
  else s

/-! ## Controller enable and shutdown (02 R55, R64, R65; 04 R136) -/

/-- CC.EN becomes 1 (02 R55, 04 R103), with the values of AQA, MPS and AMS: the admin queues become active; CSTS.RDY follows at once in a mode of service. A return to service
after a completed shutdown writes the stop record OPEN (R60, R65). Values that NVMe does not allow are not accepted (log 17). -/
def enableCtl (ctl mps ams asqs acqs : Nat) (s : State) : State :=
  if !barLive s ctl then barRefused ctl s
  else if !(!(s.ctl ctl).ccEn && decide (mps ≤ 4) && decide (ams ≤ 1) && decide (1 ≤ asqs) && decide (asqs ≤ 4095) &&
      decide (1 ≤ acqs) && decide (acqs ≤ 4095)) then s
  else
    let s := hostArrives ctl s
    let c := s.ctl ctl
    let s := s.setCtl ctl { c with
      ccEn := true, mps := mps, ams := ams, shst := 0, aqa := BitVec.ofNat 32 (asqs + acqs * 2 ^ 16)
      sqs := [{ id := 0, size := asqs + 1, cqid := 0, half := ownerOf s ctl 0, base := c.asq.toNat }]
      cqs := [{ id := 0, size := acqs + 1, ien := true, iv := 0, base := c.acq.toNat }] }
    let s := if s.mode.shutDone && s.serving then
        writeStop 1 (policyCheck { s with mode := { s.mode with shutDone := false, shutdownKind := 0 } })
      else s
    if s.ready then setReady s else s

/-- CC_ENABLE (02 R55, 04 R103). -/
def execCcEnable (ctl mps ams asqs acqs : Nat) (s : State) : Host.Outcome State Fault Refusal := .next (enableCtl ctl mps ams asqs acqs s)

/-- CC.EN becomes 0 (04 R136): a controller reset. -/
def disableCtl (ctl : Nat) (s : State) : State :=
  if !barLive s ctl then barRefused ctl s else if (s.ctl ctl).ccEn then controllerReset ctl (hostArrives ctl s) else s

/-- CC_DISABLE (04 R136). -/
def execCcDisable (ctl : Nat) (s : State) : Host.Outcome State Fault Refusal := .next (disableCtl ctl s)

/-- CACHE_POLICY_TO_WRITE_BACK (06 R192, R194). -/
def execCachePolicyToWriteBack (s : State) : Host.Outcome State Fault Refusal := .next (toWriteBack s)

end Sys2Proof.Machine
end

