-- ==== Sys2Proof/Machine/Bar2.lean ====
section
/-!
DEFINITION. The Controller Memory Buffer and the peer windows: inbound BAR2 writes and reads (06 R175, R197 to R204).
-/

namespace Sys2Proof.Machine

/-! ## Controller Memory Buffer (06 R197 to R199) -/

/-- Write bytes of any length into the buffer, page by page; none when a page finds no frame. -/
def cmbWrite (ctl : Nat) : Nat → Nat → Bytes → Cache → Option Cache
  | 0, _, _, c => some c
  | n + 1, off, bs, c =>
    if bs.isEmpty then some c
    else
      let room := 4096 - off % 4096
      match cmbWritePage ctl (off / 4096) (off % 4096) (bs.take room) false c with
      | some c => cmbWrite ctl n (off + room) (bs.drop room) c
      | none => none

/-- Give what the controller has written to its buffer its frames, in order: what finds none yet, and the cache. -/
def placeLate (ctl : Nat) : List (Nat × Bytes) → Cache → List (Nat × Bytes) × Cache
  | [], c => ([], c)
  | w :: ws, c =>
    match cmbWrite ctl (w.2.length / 4096 + 2) w.1 w.2 c with
    | some c => placeLate ctl ws c
    | none => (w :: ws, c)

/-- Place what the controller has written to its buffer, as far as frames can be given. -/
def drainLate (ctl : Nat) (s : State) : State :=
  let c := s.ctl ctl
  if c.late.isEmpty then s
  else
    let r := placeLate ctl c.late s.cache
    { s.setCtl ctl { c with late := r.1 } with cache := r.2 }

/-- Event 0x2003 for a set, at most once in a second (06 R189). -/
def noteWait (at_ : Nat × Nat) (s : State) : State :=
  let due := match tblFind s.cache.waitNoted at_ with
    | some t => decide (1000000000 ≤ s.now - t)
    | none => true
  if due then
    recordEvent 0x2003 [at_.1, at_.2, dirtyCount s, s.cache.limit] { s with cache := { s.cache with waitNoted := tblPut s.cache.waitNoted at_ s.now } }
  else s

/-- A page of the buffer as one that asks for its frames. -/
def cmbPart (ctl page : Nat) : PagePart :=
  { ns := cmbKey ctl, vpage := page, mask := 0, zero := 0, poison := 0, data := [], spans := [], base := none, home := none }

/-! ## Peer windows and BAR2 (06 R200 to R203) -/

/-- A requester matches a window. -/
def ridMatches (w : PwinRegs) (rid : BitVec 16) : Bool := w.en && decide (rid &&& w.mask = w.rid &&& w.mask)

/-- A window decodes a TLP, and where in the buffer. -/
def winDecodes (w : PwinRegs) (t : Bar2Tlp) (write : Bool) : Option Nat :=
  let n := if write then t.data.length else t.len
  if decide (w.wbase * 4096 ≤ t.offset) && decide (t.offset + n ≤ (w.wbase + w.wsize) * 4096) && (if write then w.wr else w.rd) then
    some (w.tbase * 4096 + (t.offset - w.wbase * 4096))
  else none

/-- How a TLP is decoded (06 R201). -/
inductive Decoded where
  | at_ (offset : Nat)
  | rejected (win : Nat)
  deriving DecidableEq, Repr

/-- Window `n` of a controller. -/
def pwin (c : Ctl) (n : Nat) : Pwin := tblGet c.pwins n {}

/-- Decode an inbound BAR2 TLP against the active values (06 R201). -/
def decodeBar2 (c : Ctl) (t : Bar2Tlp) (write : Bool) : Decoded :=
  let hits := (List.range 16).filter fun n => ridMatches (pwin c n).active t.rid
  match hits.findSome? fun n => winDecodes (pwin c n).active t write with
  | some off => .at_ off
  | none =>
    match hits with
    | [] => .at_ t.offset
    | n :: _ => .rejected n

/-- Reject a TLP (06 R202). -/
def rejectBar2 (ctl win : Nat) (t : Bar2Tlp) (write : Bool) (s : State) : State :=
  let c := s.ctl ctl
  let w := pwin c win
  let w := { w with viol := true, violCnt := min 0xFFFF (w.violCnt + 1), vrid := t.rid }
  let s := recordEvent 0x2012 [ctl, win, t.rid.toNat, t.offset] (s.setCtl ctl { c with pwins := tblPut c.pwins win w })
  if write then s else sendTlp (ctl - 1) (.cpl (ctl - 1) .completerAbort []) (aerAdvisory (ctl - 1) (some 15) s)

/-- Carry out a decoded or disabled BAR2 TLP; none for a write whose set, or its mirror index, has no frame to give (06 R175, R184). -/
def tryBar2 (ctl : Nat) (write : Bool) (tlp : Bar2Tlp) (s : State) : Option State :=
  let c := s.ctl ctl
  if !cmbEnabled c then some (if write then s else sendTlp (ctl - 1) (.cpl (ctl - 1) .success (List.replicate tlp.len 0xFF)) s)
  else
    match decodeBar2 c tlp write with
    | .rejected n => some (rejectBar2 ctl n tlp write s)
    | .at_ off =>
      if write then
        if !c.late.isEmpty then none
        else match cmbWritePage ctl (off / 4096) (off % 4096) tlp.data tlp.poisoned s.cache with
        | some c =>
          let s := { s with cache := accessPages [(cmbKey ctl, off / 4096)] c }
          some (if tlp.poisoned then aerAdvisory (ctl - 1) (some 12) s else s)
        | none => none
      else
        let r := cmbBytes s ctl off tlp.len
        let s := { s with cache := accessPages [(cmbKey ctl, off / 4096)] s.cache }
        some (if r.2 then sendTlp (ctl - 1) (.cpl (ctl - 1) .poisoned []) s else sendTlp (ctl - 1) (.cpl (ctl - 1) .success r.1) s)

/-- A write waits for the set of its page, or of the oldest write before it: event 0x2003 (06 R175, R189). -/
def stallBar2 (ctl : Nat) (write : Bool) (t : Bar2Tlp) (s : State) : State :=
  let c := s.ctl ctl
  let off := match c.late, decodeBar2 c t write with
    | w :: _, _ => w.1
    | [], .at_ off => off
    | [], .rejected _ => 0
  noteWait (fullSet (cmbPart ctl (off / 4096)) s.cache) (s.setCtl ctl { c with stalled := [(write, t)] })

/-- Carry out an inbound TLP behind those that wait: a write waits for a frame, and what comes after it keeps its order. -/
def runBar2 (ctl : Nat) (write : Bool) (t : Bar2Tlp) (s : State) : State :=
  let s := drainLate ctl s
  let c := s.ctl ctl
  if c.stalled.isEmpty then
    match tryBar2 ctl write t s with
    | some s => s
    | none => stallBar2 ctl write t s
  else s.setCtl ctl { c with stalled := c.stalled ++ [(write, t)] }

/-- The TLPs of a controller that wait for a frame are tried again, in their order. -/
def drainStalled (ctl : Nat) (s : State) : State :=
  let s := drainLate ctl s
  (s.ctl ctl).stalled.foldl (fun s t => runBar2 ctl t.1 t.2 s) (s.setCtl ctl { s.ctl ctl with stalled := [] })

/-- Frames may have become free: every controller's waiting TLPs are tried again. -/
def retryStalled (s : State) : State := s.ctlIds.foldl (fun s id => if (s.ctl id).stalled.isEmpty && (s.ctl id).late.isEmpty then s else drainStalled id s) s

/-- Some window of a controller has PENDING set, so inbound TLPs are held (06 R203). -/
def winPending (c : Ctl) : Bool := c.pwins.any fun w => w.2.pending

/-- An inbound BAR2 TLP: held while a window is pending. -/
def inboundBar2 (write : Bool) (t : Bar2Tlp) (s : State) : State :=
  let ctl := t.fn + 1
  if !barLive s ctl then barRefused ctl s
  else
    let s := hostArrives ctl s
    let c := s.ctl ctl
    if winPending c && cmbEnabled c then s.setCtl ctl { c with held := c.held ++ [(write, t)] } else runBar2 ctl write t (drainStalled ctl s)

/-- BAR2_WRITE. -/
def execBar2Write (tlp : Bar2Tlp) (s : State) : Host.Outcome State Fault Refusal := .next (inboundBar2 true tlp s)

/-- BAR2_READ. -/
def execBar2Read (tlp : Bar2Tlp) (s : State) : Host.Outcome State Fault Refusal := .next (inboundBar2 false tlp s)

/-- A write of APPLY (06 R203): refused for a range that does not fit, and while PENDING is 1. -/
def applyWin (ctl win : Nat) (s : State) : State :=
  let c := s.ctl ctl
  let w := pwin c win
  if w.pending then recordEvent 0x2011 [ctl, win, 2, 0] s
  else if 262144 < w.staged.wbase + w.staged.wsize ∨ 262144 < w.staged.tbase + w.staged.wsize then recordEvent 0x2011 [ctl, win, 1, 0] s
  else s.setCtl ctl { c with pwins := tblPut c.pwins win { w with pending := true } }

/-- PWIN_APPLY. -/
def execPwinApply (ctl win : Nat) (s : State) : Host.Outcome State Fault Refusal :=
  if barLive s ctl && decide (win < 16) then .next (applyWin ctl win (hostArrives ctl s)) else .next (barRefused ctl s)

/-- PWIN_ACTIVATE (06 R203): once every TLP decoded before is retired, the staged values become active, PENDING clears, and the held TLPs are decoded in arrival order once no window
is pending. -/
def execPwinActivate (ctl win : Nat) (s : State) : Host.Outcome State Fault Refusal :=
  let s := drainStalled ctl s
  let c := s.ctl ctl
  let w := pwin c win
  if !w.pending || !c.stalled.isEmpty then .next s
  else
    let c := { c with pwins := tblPut c.pwins win { w with active := w.staged, pending := false } }
    let s := recordEvent 0x2010 [ctl, win, 0, 0] (s.setCtl ctl c)
    if winPending c then .next s
    else .next (c.held.foldl (fun s h => runBar2 ctl h.1 h.2 s) (s.setCtl ctl { s.ctl ctl with held := [] }))

/-- A held TLP is decoded; one that still finds no place is dropped. -/
def decodeAgain (ctl : Nat) (t : Bool × Bar2Tlp) (s : State) : State :=
  match tryBar2 ctl t.1 t.2 s with
  | some u => u
  | none => s

/-- The inbound TLPs of a function that has been reset are retired (04 R137; 06 R203, R204): those decoded first, then pending windows become active, and
the held TLPs are decoded by them; writes that still find no frame are discarded with the buffer. -/
def retireInbound (ctl : Nat) (s : State) : State :=
  let s := drainStalled ctl s
  let wins := (s.ctl ctl).pwins.filter fun w => w.2.pending
  let s := wins.foldl (fun s w =>
    recordEvent 0x2010 [ctl, w.1, 0, 0] (s.setCtl ctl { s.ctl ctl with pwins := tblPut (s.ctl ctl).pwins w.1 { w.2 with active := w.2.staged, pending := false } })) s
  let ts := (s.ctl ctl).stalled ++ (s.ctl ctl).held
  ts.foldl (fun s t => decodeAgain ctl t s) (s.setCtl ctl { s.ctl ctl with stalled := [], held := [] })

/-- A write of CMBMSC (06 R198, R199): a set CRE reserves 524,288 frames and lowers L at once, or is refused while D would exceed the new L; destage
level 4 then stays until a later write sets CRE or clears it, or a device reset (DESIGN CHOICE, log 155). A cleared CRE discards the contents. CBAI shows a CBA that is not aligned to 1 GiB (R197). -/
def cmbmscWrite (ctl : Nat) (cre cmse : Bool) (cba : Nat) (s : State) : State :=
  if !barLive s ctl then barRefused ctl s
  else
    let s := hostArrives ctl s
    let c := s.ctl ctl
    let set := { c with cre := cre, cmse := cmse, cba := cba, cbai := cmse && decide (cba % 2 ^ 30 ≠ 0) }
    if cre && !c.cre then
      let s1 := s.setCtl ctl set
      let l := dirtyLimitOf s1
      if l < dirtyCount s then
        { s.setCtl ctl { set with cre := false } with cache := { s.cache with cmbRefused := true } }
      else { s1 with cache := { s1.cache with limit := l, cmbRefused := false } }
    else if !cre && c.cre then
      let s1 := { s.setCtl ctl { set with late := [] } with cache := retireWaiting (discardCmb ctl s.cache) }
      retryStalled { s1 with cache := { s1.cache with limit := dirtyLimitOf s1, cmbRefused := false } }
    else s.setCtl ctl set

/-- CMBMSC_WRITE (06 R198). -/
def execCmbmscWrite (ctl : Nat) (cre cmse : Bool) (cba : Nat) (s : State) : Host.Outcome State Fault Refusal := .next (cmbmscWrite ctl cre cmse cba s)

end Sys2Proof.Machine
end

