-- ==== Sys2Proof/Machine/Gauge.lean ====
section
/-!
DEFINITION. The hold-up pack and the battery gauge: identity, state of charge, impedance, energy available, learning, charging,
calibration and ship mode (14 R386 to R412).
-/

namespace Sys2Proof.Machine

/-! ## Exact fractions -/

/-- Sum, difference, product and quotient of fractions. -/
def fAdd (a b : Frac) : Frac := { num := a.num * b.den + b.num * a.den, den := a.den * b.den }
def fNeg (a : Frac) : Frac := { num := -a.num, den := a.den }
def fSub (a b : Frac) : Frac := fAdd a (fNeg b)
def fMul (a b : Frac) : Frac := { num := a.num * b.num, den := a.den * b.den }
def fDiv (a b : Frac) : Frac :=
  if 0 ≤ b.num then { num := a.num * b.den, den := a.den * b.num.toNat }
  else { num := -(a.num * b.den), den := a.den * (-b.num).toNat }

/-- Order of fractions with positive denominators. -/
def fLe (a b : Frac) : Bool := decide (a.num * b.den ≤ b.num * a.den)
def fLt (a b : Frac) : Bool := decide (a.num * b.den < b.num * a.den)
def fMin (a b : Frac) : Frac := if fLe a b then a else b
def fMax (a b : Frac) : Frac := if fLe a b then b else a

/-- Floor of a fraction. -/
def fFloor (a : Frac) : Int := a.num / (a.den : Int)

/-- A fraction n/d. -/
def frac (n : Int) (d : Nat) : Frac := { num := n, den := d }

/-- The bits of a square root from bit `i` - 1 down, above the root `r` found so far. -/
def rootBits : Nat → Nat → Nat → Nat
  | 0, _, r => r
  | i + 1, x, r => if (r + 2 ^ i) * (r + 2 ^ i) ≤ x then rootBits i x (r + 2 ^ i) else rootBits i x r

/-- Floor of the square root. -/
def intRoot (x : Nat) : Nat := rootBits (Nat.log2 x / 2 + 1) x 0

/-- Floor of `a + √x` for a non-negative x: over the common denominator the root of an integer is floored, which leaves the floor
of the whole unchanged. -/
def floorPlusRoot (a x : Frac) : Int :=
  let p := a.num * x.den
  let r := intRoot (x.num.toNat * x.den * a.den * a.den)
  (p + (r : Int)) / ((a.den * x.den : Nat) : Int)

/-! ## Nameplate tables (14 R387, R394, R398) -/

/-- Nominal identity resistance in ohms. -/
def idNominal : List Nat :=
  [1000, 1500, 2000, 2700, 3600, 4700, 6200, 8200, 11000, 15000, 20000, 27000, 36000, 47000, 62000, 82000]

/-- Chemistry of an identity code: LiFePO4. -/
def isLfp (code : Nat) : Bool := decide (8 ≤ code)

/-- Cells of an identity code. -/
def cellsOfCode (code : Nat) : Nat := if code % 8 < 4 then 2 else 3

/-- Nameplate capacity in µAh, and z25 per cell in µΩ. -/
def nameCapUah (code : Nat) : Nat := [500000, 1000000, 2000000, 4000000].getD (code % 4) 0
def nameZ25 (code : Nat) : Nat :=
  if isLfp code then [40000, 25000, 15000, 10000].getD (code % 4) 0 else [50000, 30000, 18000, 12000].getD (code % 4) 0

/-- The identity code that a resistance selects: within ID_TOL of exactly one nominal value (14 R387). -/
def codeOfOhm (tol ohm : Nat) : Option Nat :=
  match (List.range 16).filter fun c =>
      let n := idNominal.getD c 0
      decide (100 * ohm ≤ (100 + tol) * n) && decide ((100 - tol) * n ≤ 100 * ohm) with
  | [c] => some c
  | _ => none

/-- Open-circuit voltage in mV at 0 %, 10 %, ... 100 % (14 R394). -/
def ocvTable (lfp : Bool) : List Nat :=
  if lfp then [2800, 3170, 3220, 3250, 3270, 3280, 3290, 3300, 3310, 3330, 3450]
  else [3000, 3450, 3580, 3640, 3690, 3740, 3810, 3890, 3970, 4060, 4180]

/-- OCV of a cell in mV at a state of charge from 0 to 1 (14 R394). -/
def ocvAt (lfp : Bool) (soc : Frac) : Frac :=
  let ten := fMul soc (frac 10 1)
  let i := min 9 (fFloor ten).toNat
  let v0 := (ocvTable lfp).getD i 0
  let v1 := (ocvTable lfp).getD (i + 1) 0
  fAdd (frac v0 1) (fMul (fSub ten (frac i 1)) (frac ((v1 : Int) - v0) 1))

/-- SoC of a cell voltage in mV inside the table (14 R394); none beyond its ends. -/
def socAt (lfp : Bool) (mv : Frac) : Option Frac :=
  let t := ocvTable lfp
  match (List.range 10).find? fun i => fLe (frac (t.getD i 0) 1) mv && fLe mv (frac (t.getD (i + 1) 0) 1) with
  | none => none
  | some i =>
    let v0 := t.getD i 0
    let v1 := t.getD (i + 1) 0
    some (fDiv (fAdd (frac i 1) (fDiv (fSub mv (frac v0 1)) (frac ((v1 : Int) - v0) 1))) (frac 10 1))

/-- SoC of a cell voltage; beyond the table it is a free value (log 18). -/
def socOfMv (lfp : Bool) (free : Nat) (mv : Frac) : Frac :=
  (socAt lfp mv).getD (frac ((Config.socBeyond free % 1000001 : Nat) : Int) 1000000)

/-- f of R398 by rows of temperature in 0.1 °C, in hundredths. -/
def fTable (lfp : Bool) : List (Int × Nat) :=
  if lfp then [(-200, 600), (-100, 350), (0, 220), (100, 150), (250, 100), (400, 85), (600, 75)]
  else [(-200, 400), (-100, 260), (0, 180), (100, 135), (250, 100), (400, 85), (600, 75)]

/-- Interpolate in rows of rising argument, held constant beyond the ends. -/
def interpRows (rows : List (Int × Nat)) (t : Int) : Frac :=
  match rows with
  | [] => frac 1 1
  | [r] => frac r.2 1
  | a :: b :: rest =>
    if t ≤ a.1 then frac a.2 1
    else if t ≤ b.1 then
      fAdd (frac a.2 1) (fMul (frac ((b.2 : Int) - a.2) 1) (frac (t - a.1) (b.1 - a.1).toNat))
    else interpRows (b :: rest) t

/-- f(T) of R398. -/
def fOfTemp (lfp : Bool) (dc : Int) : Frac := fDiv (interpRows (fTable lfp) dc) (frac 100 1)

/-- z_cell(T) in µΩ (14 R398). -/
def zCell (lfp : Bool) (z25 : Nat) (dc : Int) : Frac := fMul (frac z25 1) (fOfTemp lfp dc)

/-- z_pack in µΩ: the cells in series and z_ext = 10 mΩ (14 R398). -/
def zPack (code z25 : Nat) (dc : Int) : Frac :=
  fAdd (fMul (frac (cellsOfCode code) 1) (zCell (isLfp code) z25 dc)) (frac 10000 1)

/-! ## Energy available (14 R400, R410) -/

/-- What R400 computes: p_cap in mW, and e_available as `base + √root` in joules. -/
structure EnergyCalc where
  pcapMw : Int
  socStop : Frac
  base : Frac
  root : Frac
  deriving DecidableEq, Repr

/-- The procedure of R400. Voltages in V, resistance in Ω, charge in C. `2·v·(vo − i·zp)` of R400 is `vo + √(vo² − 4·zp·pm)`. -/
def energyCalc (code fccUah z25 : Nat) (dc : Int) (socUsed : Frac) (free : Nat) : EnergyCalc :=
  let lfp := isLfp code
  let cells := frac (cellsOfCode code) 1
  let vcut := fMul cells (if lfp then frac 250 100 else frac 300 100)
  let zp := fDiv (zPack code z25 dc) (frac 1000000 1)
  let pm := frac 588 10
  let ocvStop := fAdd vcut (fDiv (fMul pm zp) vcut)
  let socStop := socOfMv lfp free (fDiv (fMul ocvStop (frac 1000 1)) cells)
  let packOcv := fun soc => fDiv (fMul cells (ocvAt lfp soc)) (frac 1000 1)
  let pcap := fDiv (fMul vcut (fSub (packOcv socUsed) vcut)) zp
  if fLe socUsed socStop then
    { pcapMw := fFloor (fMul pcap (frac 1000 1)), socStop := socStop, base := frac 0 1, root := frac 0 1 }
  else
    let dq := fMul (fMul (frac fccUah 1000000) (fSub socUsed socStop)) (frac 3600 1)
    let vo := packOcv (fDiv (fAdd socUsed socStop) (frac 2 1))
    let disc := fMax (frac 0 1) (fSub (fMul vo vo) (fMul (fMul (frac 4 1) zp) pm))
    let k := fMul (frac 45 100) dq
    { pcapMw := fFloor (fMul pcap (frac 1000 1)), socStop := socStop, base := fMul k vo, root := fMul (fMul k k) disc }

/-- HU_DIRTY_LIMIT of R410 before readiness: pages for `n` flushes, at most half the installed cache. -/
def huLimitOf (n installedPages : Nat) (e : EnergyCalc) : Nat :=
  let scale := frac 2621440 (175 * n)
  let a := fMul (fSub e.base (frac (40 * n) 1)) scale
  let x := fMul e.root (fMul scale scale)
  min (installedPages / 2) (floorPlusRoot a x).toNat

/-! ## The gauge's state -/

/-- FCC in the count's unit, 1/24,000 of a µA·ms. -/
def fccUnits (fccUah : Nat) : Nat := fccUah * 3600000 * 24000

/-- SOC_CC (14 R393). -/
def socCc (g : Gauge) : Frac := if g.fccUah = 0 then frac 0 1 else frac g.charge (fccUnits g.fccUah)

/-- SOC_USED (14 R396). -/
def socUsedOf (g : Gauge) : Frac := fMin (socCc g) g.socV

/-- A state of charge in units of 0.01 %. -/
def socHundredths (f : Frac) : Nat := (fFloor (fMul f (frac 10000 1))).toNat

/-- The charge of a state of charge. -/
def chargeOf (fccUah : Nat) (soc : Frac) : Nat := (fFloor (fMul soc (frac (fccUnits fccUah) 1))).toNat

/-- VAULT_OK: at least three channels live and one image area erased (14 R409). -/
def vaultOk (s : State) : Bool := decide (3 ≤ s.vault.channels.length) && (s.vault.erasedA || s.vault.erasedB)

/-- PATH_OK: a path test passed within the last 48 h (14 R409). -/
def pathOk (s : State) : Bool :=
  s.gauge.pathPassed && decide (s.now - s.gauge.pathAt ≤ 172800000000000)

/-- Every condition of R409 but the last. -/
def readyButLimit (s : State) : Bool :=
  s.gauge.present && s.gauge.idCode.isSome && s.gauge.tempOk && s.gauge.gaugeOk && pathOk s && vaultOk s

/-- FLAGS byte and PACK_STATE of log 0xC5 (14 R421). -/
def gaugeFlags (s : State) : Nat :=
  let b := fun (x : Bool) (i : Nat) => if x then 2 ^ i else 0
  b s.gauge.learned 0 + b s.gauge.suspect 1 + b s.gauge.huReady 2 + b (decide (s.gauge.learning ≠ .idle)) 3 +
  b s.power.shipArmed 4 + b s.power.chgEn 5 + b s.gauge.rested 6 + b (pathOk s) 7
def packState (s : State) : Nat :=
  if !s.gauge.present then 0
  else if s.gauge.idCode.isNone && !s.gauge.identifying then 2
  else if !s.gauge.tempOk then 3
  else 1

/-- GEN of log 0xC5 rises at each change of FLAGS or PACK_STATE (14 R421). -/
def countGaugeLog (s : State) : State :=
  let v := gaugeFlags s + 256 * packState s
  if v = s.gauge.logFlags then s
  else { s with gauge := { s.gauge with logFlags := v, logGen := s.gauge.logGen + 1 } }

/-- HU_STAT (18 R514). -/
def huStat (s : State) : Nat :=
  let b := fun (x : Bool) (i : Nat) => if x then 2 ^ i else 0
  b s.gauge.huReady 0 + b s.gauge.present 1 + b s.gauge.idCode.isSome 2 + b s.gauge.tempOk 3 + b s.gauge.gaugeOk 4 +
  b (pathOk s) 5 + b (vaultOk s) 6 + b (decide (16384 ≤ s.gauge.huLimit)) 7 + b s.gauge.learned 8 + b s.gauge.suspect 9 +
  b (decide (s.gauge.learning ≠ .idle)) 10 + b s.power.chgEn 11 + b s.vault.imageValid 12 + b s.cache.writeThrough 13 +
  s.vault.channels.foldl (fun n c => n + 2 ^ (16 + c)) 0

/-- Set readiness and the limit (14 R409, R410): event 0x7001 on a change of readiness, then the policy and the warnings. -/
def setHoldup (limit : Nat) (s : State) : State :=
  let limit := if readyButLimit s then limit else 0
  let ready := readyButLimit s && decide (16384 ≤ limit)
  let old := s.gauge.huReady
  let s := { s with gauge := { s.gauge with huReady := ready, huLimit := limit } }
  let s := if ready ≠ old then recordEvent 0x7001 [if ready then 1 else 0, huStat s, limit, 0] s else s
  updateCritWarn (policyCheck (maybeReleaseImage s))

/-- Hold-up not ready at once (14 R389, R409). -/
def dropHoldup (s : State) : State := setHoldup 0 s

/-- A vault channel that has failed is dropped, which is a takeover (14 R413; 17 R491); with fewer than three live, hold-up is not ready (14 R409). -/
def dropVaultChannel (ch : Nat) (s : State) : State :=
  let s := if s.vault.channels.contains ch then takeover 0x07 2 0 0 s else s
  let s := { s with vault := { s.vault with channels := s.vault.channels.filter fun c => !decide (c = ch) } }
  if vaultOk s then s else countGaugeLog (dropHoldup s)

/-! ## Learned slots (14 R403, R404) -/

/-- The 64 bytes of a calibration record (14 R405). -/
def calBytes (c : CalRecord) : Bytes :=
  let signed := fun (n : Nat) (v : Int) => leBytes n (v % (2 ^ (8 * n) : Int)).toNat
  leBytes 2 c.version ++ leBytes 1 c.source ++ leBytes 1 c.idTol ++ leBytes 4 c.senseGain ++ signed 4 c.senseOffset ++
  (c.cellGain.take 3).flatMap (fun g => leBytes 4 g) ++ leBytes 2 c.thermBeta ++ zeros 2 ++ leBytes 4 c.idGain ++
  (c.avsOffset.take 5).flatMap (fun o => signed 2 o) ++ zeros 22

/-- The calibration record that boot flash holds (14 R405 to R407; 16 R455). -/
def calRecord (g : Gauge) : Option CalRecord := pairItem "WSDVCALB" calBytes g.calFlash

/-- CAL_CRC of the calibration values in force. -/
def calCrc (c : CalRecord) : BitVec 32 := crc32c (calBytes c)

/-- The 4,096 bytes of a learned slot (14 R403). -/
def slotBytes (l : LearnedSet) : Bytes :=
  let body := asciiBytes "GLRN" ++ leBytes 2 1 ++ leBytes 1 l.idCode ++ leBytes 1 ((if l.learned then 1 else 0) + (if l.suspect then 2 else 0)) ++
    leBytes 8 l.seqNo ++ leBytes 4 l.fccUah ++ leBytes 4 l.z25Uohm ++ leBytes 2 l.socCc ++ zeros 2 ++ leBytes 4 l.cycles ++
    leBytes 8 l.learnTime.toNat ++ leBytes 8 l.writeTime.toNat ++ leBytes 4 l.calCrc.toNat ++ zeros 4040
  body ++ leBytes 4 (crc32c body).toNat

/-- SEQ of a slot. -/
def gslotSeq : GaugeSlot → Option Nat
  | .valid l => some l.seqNo
  | .torn => none
  | .empty => none

/-- The valid slot with the highest SEQ, and its number (14 R404). -/
def learnedCurrent (g : Gauge) : Option (LearnedSet × Nat) :=
  match g.slot0, g.slot1 with
  | .valid a, .valid b => if b.seqNo < a.seqNo then some (a, 0) else some (b, 1)
  | .valid a, _ => some (a, 0)
  | _, .valid b => some (b, 1)
  | _, _ => none

/-- Write the learned set into the slot that does not hold the highest SEQ (14 R404). A write that does not finish leaves a torn
slot. -/
def writeSlot (ok : Bool) (s : State) : State :=
  let g := s.gauge
  let cur := learnedCurrent g
  let l : LearnedSet :=
    { idCode := g.idCode.getD 0xFF, learned := g.learned, suspect := g.suspect,
      seqNo := match cur with | some (c, _) => c.seqNo + 1 | none => 1,
      fccUah := g.fccUah, z25Uohm := g.z25Uohm, socCc := socHundredths (socCc g), cycles := g.cycles, learnTime := g.lastLearn,
      writeTime := s.recTime, calCrc := calCrc g.cal }
  let new := if ok then GaugeSlot.valid l else .torn
  let put := fun (n : Nat) (s : State) => if ok then emit (.learnedSlot n (slotBytes l)) s else s
  match cur with
  | some (_, 0) => put 1 { s with gauge := { g with slot1 := new } }
  | _ => put 0 { s with gauge := { g with slot0 := new } }

/-- Nameplate values of a code: unlearned (14 R390, R404). -/
def loadNameplate (code : Nat) (g : Gauge) : Gauge :=
  { g with fccUah := nameCapUah code, z25Uohm := nameZ25 code, learned := false, suspect := false, cycles := 0 }

/-- The gauge starts from its slots (14 R404): torn slots record 0x7008; with no valid slot, or another CAL_CRC, nameplate values. -/
def startGauge (s : State) : State :=
  let s := if s.gauge.slot0 = .torn then recordEvent 0x7008 [0, 0, 0, 0] s else s
  let s := if s.gauge.slot1 = .torn then recordEvent 0x7008 [1, 0, 0, 0] s else s
  match learnedCurrent s.gauge with
  | some (l, _) =>
    if l.calCrc = calCrc s.gauge.cal then
      { s with gauge := { s.gauge with
          fccUah := l.fccUah, z25Uohm := l.z25Uohm, learned := l.learned, suspect := l.suspect, cycles := l.cycles,
          lastLearn := l.learnTime, charge := chargeOf l.fccUah (frac l.socCc 10000) } }
    else { s with gauge := loadNameplate l.idCode s.gauge }
  | none =>
    match s.gauge.idCode with
    | some c => { s with gauge := loadNameplate c s.gauge }
    | none => s

/-! ## Pins (14 R388 to R391) -/

/-- A pin reads open above 500 kΩ (14 R388, 19 R528). -/
def pinOpen (ohm : Nat) : Bool := decide (500000 < ohm)

/-- A learning cycle ends, incomplete, with no write of a slot (14 R389, R401): its pack is gone. -/
def dropLearning (s : State) : State :=
  if s.gauge.learning = .idle then s
  else
    recordEvent 0x7007 [1, 1, s.gauge.fccUah / 1000, 0]
      { s with gauge := { s.gauge with learning := .idle }, power := { s.power with learnLoadEn := false } }

/-- Removal of the pack (14 R389); write-through takes its place (17 R491). -/
def removePack (s : State) : State :=
  let s := dropLearning s
  let s := { s with
    gauge := { s.gauge with present := false, identifying := false, idSamples := [], idCode := none, firstEval := false,
                            firstPath := false, fullCharge := false },
    power := { s.power with chgEn := false } }
  takeover 0xA1 2 200 0x7002 (recordEvent 0x7002 [0, 0, 0, 0] (dropHoldup s))

/-- The identity is the mean of 16 samples after an insertion, times ID_GAIN (14 R388, R390, R391, R405). -/
def identifyPack (s : State) : State :=
  let mean := s.gauge.idSamples.foldl (· + ·) 0 * s.gauge.cal.idGain / (16 * 16777216)
  let code := if mean < 500 then none else codeOfOhm s.gauge.cal.idTol mean
  let s := { s with gauge := { s.gauge with
    identifying := false, idSamples := [], idOhm := mean, idCode := code, firstEval := code.isSome, firstPath := code.isSome } }
  if code.isSome then s else recordEvent 0x7004 [mean / 10, 0, 0, 0] s

/-- GAUGE_PIN_SAMPLE (14 R388): five consecutive samples decide a removal or an insertion, in every mode except SHIP. -/
def execGaugePinSample (thermOhm idOhm : Nat) (s : State) : Host.Outcome State Fault Refusal :=
  if s.mode.mode = .ship ∨ s.power.sentinelDown = true ∨ s.power.sentinelOff = true then .next s
  else
    let g := s.gauge
    if pinOpen thermOhm || pinOpen idOhm then
      let run := min 5 (g.openRun + 1)
      let s := { s with gauge := { g with openRun := run, closedRun := 0 } }
      if run = 5 ∧ g.present = true then .next (countGaugeLog (removePack s)) else .next s
    else
      let run := min 5 (g.closedRun + 1)
      let s := { s with gauge := { g with openRun := 0, closedRun := run } }
      if g.present then
        if g.identifying then
          let samples := g.idSamples ++ [idOhm]
          let s := { s with gauge := { s.gauge with idSamples := samples } }
          if samples.length = 16 then .next (countGaugeLog (identifyPack s)) else .next s
        else .next s
      else if run = 5 then
        .next (countGaugeLog { s with gauge := { s.gauge with present := true, identifying := true, idSamples := [] } })
      else .next s

/-! ## Charge count (14 R393) -/

/-- One 1 ms current sample: SOC_CC falls by I × dt / FCC and by the self-discharge allowance of 0.1 % per day. -/
def countSample (ua : Int) (g : Gauge) : Gauge :=
  let c : Int := (g.charge : Int) - ua * 24000 - (g.fccUah : Int)
  let g1 := { g with charge := min c.toNat (fccUnits g.fccUah) }
  if g.learning = .discharging then { g1 with learnDq := (((g.learnDq : Int) + ua * 24000).toNat) } else g1

/-- The calibrated current in µA: reading × SENSE_GAIN + SENSE_OFFSET (14 R405). -/
def calCurrent (c : CalRecord) (ua : Int) : Int := ua * (c.senseGain : Int) / 16777216 + c.senseOffset

/-- GAUGE_CURRENT_SAMPLE (14 R393). -/
def execGaugeCurrentSample (currentUa : Int) (s : State) : Host.Outcome State Fault Refusal :=
  if s.power.sentinelDown = true ∨ s.power.sentinelOff = true ∨ s.mode.mode = .ship then .next s
  else
    .next { s with gauge := countSample (calCurrent s.gauge.cal currentUa) s.gauge }

/-! ## Evaluation (14 R395, R396, R400, R410, R411) -/

/-- Cell voltages after calibration, in mV. -/
def calCells (g : Gauge) (mv : List Nat) : List Nat :=
  (List.range mv.length).map fun i => mv.getD i 0 * g.cal.cellGain.getD i 0x1000000 / 16777216

/-- The lowest cell SoC, with `extraMv` added to every cell (14 R395). -/
def lowestSoc (code : Nat) (g : Gauge) (cells : List Nat) (ma : Int) (dc : Int) (extra : Frac) (free : Nat) : Frac :=
  let z := zCell (isLfp code) g.z25Uohm dc
  let drop := fDiv (fMul (frac ma 1) z) (frac 1000000 1)
  let socs := (List.range (min cells.length (cellsOfCode code))).map fun i =>
    socOfMv (isLfp code) (8 * free + i) (fAdd (fAdd (frac (cells.getD i 0 : Int) 1) drop) extra)
  match socs with
  | [] => frac 0 1
  | x :: xs => xs.foldl fMin x

/-- Width of the voltage tolerance and of the error of z_cell × I, in mV: 4 mV and z_cell × (0.5 % of I and 50 µA) (14 R392, R395;
the error of z_cell itself is not stated, log 19). -/
def bandMv (code : Nat) (g : Gauge) (ma : Int) (dc : Int) : Frac :=
  let z := zCell (isLfp code) g.z25Uohm dc
  let err := fAdd (frac ma.natAbs 200) (frac 5 100)
  fAdd (frac 4 1) (fDiv (fMul z err) (frac 1000000 1))

/-- The charger (14 R411; off in HOLDUP and SHIP, 19 R519): enabled only below 95 %, and, once enabled, until charging terminates or another condition ends
(DEDUCED, log 20). -/
def chargeRule (s : State) : State :=
  let hold := decide (s.mode.mode ≠ .holdup) && decide (s.mode.mode ≠ .ship) && s.gauge.present && s.gauge.idCode.isSome && decide (50 ≤ s.gauge.tempDc) && decide (s.gauge.tempDc ≤ 450) &&
    decide (s.gauge.learning = .idle)
  { s with power := { s.power with chgEn := hold && (s.power.chgEn || fLt (socUsedOf s.gauge) (frac 95 100)) } }

/-- The first voltage estimate after an insertion decides whether the pack is new (14 R390): event 0x7003. -/
def judgePack (code : Nat) (socV : Frac) (s : State) : State :=
  let isNew := match learnedCurrent s.gauge with
    | none => true
    | some (l, _) => decide (l.idCode ≠ code) ||
        fLt (frac 15 100) (fSub socV (frac l.socCc 10000)) || fLt (frac 15 100) (fSub (frac l.socCc 10000) socV)
  let g := { s.gauge with firstEval := false }
  if isNew then
    let g := loadNameplate code g
    let g := { g with charge := chargeOf g.fccUah socV, firstPath := false }
    recordEvent 0x7003 [code, 1, 0, 0] (writeSlot true { s with gauge := g })
  else recordEvent 0x7003 [code, 0, 0, 0] { s with gauge := g }

/-- R396: voltage wins when the upper edge of its band lies more than 3 % of FCC below the count. -/
def voltageRule (upper socV : Frac) (s : State) : State :=
  if fLt (fAdd upper (frac 3 100)) (socCc s.gauge) then
    let old := socHundredths (socCc s.gauge)
    let s := { s with gauge := { s.gauge with charge := chargeOf s.gauge.fccUah socV, suspect := true } }
    recordEvent 0x7005 [old, socHundredths socV, 0, 0] s
  else s

/-- The pack is at rest: |I| lies below FCC / 100 per hour (14 R397). -/
def atRest (g : Gauge) : Bool := decide (g.currentMa.natAbs * 100000 < g.fccUah)

/-- Temperature window of R391. -/
def tempRule (dc : Int) (g : Gauge) : Gauge :=
  if dc < -200 ∨ 600 < dc then { g with tempOk := false, tempWait := true }
  else if g.tempWait then g else { g with tempOk := true }

/-- End a learning cycle with an outcome: 0 complete, 1 incomplete, 2 suspect. -/
def endLearning (outcome : Nat) (g : Gauge) (s : State) : State :=
  let s := { s with gauge := { g with learning := .idle }, power := { s.power with learnLoadEn := false } }
  let s := writeSlot true s
  countGaugeLog (chargeRule (recordEvent 0x7007 [1, outcome, s.gauge.fccUah / 1000, 0] s))

/-- A learning cycle runs in SERVE only, with the pack between 10 °C and 45 °C (14 R401): outside them it ends, incomplete (DEDUCED, log 157). -/
def learnRule (s : State) : State :=
  if s.gauge.learning = .idle ∨ (s.mode.mode = .serve ∧ 100 ≤ s.gauge.tempDc ∧ s.gauge.tempDc ≤ 450) then s
  else endLearning 1 s.gauge s

/-- The first estimate after T1 sets SOC_CC (14 R393, R412). -/
def countFromV (s : State) : State :=
  if s.gauge.fromV then { s with gauge := { s.gauge with charge := chargeOf s.gauge.fccUah s.gauge.socV, fromV := false } } else s

/-- SOC_CC and SOC_USED of the evaluation, which log 0xC5 shows (14 R421). -/
def noteSoc (s : State) : State :=
  { s with gauge := { s.gauge with logSocCc := socHundredths (socCc s.gauge), logSocUsed := socHundredths (socUsedOf s.gauge) } }

/-- GAUGE_EVALUATION (14 R395 to R400, R410, R411). While the pack is absent or has no identity, the limit is 0. -/
def execGaugeEvaluation (read : GaugeRead) (s : State) : Host.Outcome State Fault Refusal :=
  if s.mode.mode = .ship ∨ s.power.sentinelOff = true then .next s
  else if s.power.sentinelDown then .next (countGaugeLog (dropHoldup { s with gauge := { s.gauge with gaugeOk := false } }))
  else
    let cells := calCells s.gauge read.cellMv
    let ma := calCurrent s.gauge.cal (1000 * read.currentMa) / 1000
    let g := { s.gauge with gaugeOk := true, cellMv := cells, currentMa := ma, tempDc := read.tempDc }
    let s := learnRule { s with gauge := tempRule read.tempDc { g with rested := g.rested && atRest g } }
    match s.gauge.idCode with
    | none => .next (countGaugeLog (noteSoc (chargeRule (dropHoldup s))))
    | some code =>
      let socV := lowestSoc code s.gauge cells ma read.tempDc (frac 0 1) s.freeCtr
      let s := if s.gauge.firstEval then judgePack code socV s else s
      let upper := lowestSoc code s.gauge cells ma read.tempDc (bandMv code s.gauge ma read.tempDc)
        (s.freeCtr + 1)
      let s := voltageRule upper socV (countFromV { s with gauge := { s.gauge with socV := socV } })
      let used := socUsedOf s.gauge
      let e := energyCalc code s.gauge.fccUah s.gauge.z25Uohm read.tempDc used (s.freeCtr + 2)
      let n := if s.gauge.learned && !s.gauge.suspect then 2 else 3
      let limit := huLimitOf n (4 * 16 * setsOf s.cache) e
      let s := { s with freeCtr := s.freeCtr + 3, gauge := { s.gauge with
        pcapMw := e.pcapMw.toNat,
        eAvailMj := (floorPlusRoot (fMul e.base (frac 1000 1)) (fMul e.root (frac 1000000 1))).toNat } }
      .next (countGaugeLog (noteSoc (chargeRule (setHoldup limit s))))

/-- PACK_REST_REANCHOR (14 R397): the pack has rested, so SOC_CC is set to SOC_V in either direction. -/
def execPackRestReanchor (s : State) : Host.Outcome State Fault Refusal :=
  if atRest s.gauge && s.gauge.present && s.gauge.idCode.isSome && !s.power.sentinelDown then
    let old := socHundredths (socCc s.gauge)
    let s := { s with gauge := { s.gauge with charge := chargeOf s.gauge.fccUah s.gauge.socV, rested := true } }
    .next (countGaugeLog (recordEvent 0x7006 [old, socHundredths s.gauge.socV, 0, 0] s))
  else .next s

/-- PACK_TEMP_WINDOW_RETURN (14 R391): back inside the window for 60 s. -/
def execPackTempWindowReturn (s : State) : Host.Outcome State Fault Refusal :=
  if s.gauge.tempWait && decide (-200 ≤ s.gauge.tempDc) && decide (s.gauge.tempDc ≤ 600) then
    .next (countGaugeLog { s with gauge := { s.gauge with tempWait := false, tempOk := true } })
  else .next s

/-! ## Path test (14 R399) -/

/-- PATH_TEST_START: HU_EN high with main power present, in BOOT, SERVE and CONSTRAINED. -/
def execPathTestStart (s : State) : Host.Outcome State Fault Refusal :=
  if (s.serving || decide (s.mode.mode = .boot)) && s.power.mainPg && !s.gauge.pathTest && !s.power.sentinelDown then
    .next { s with gauge := { s.gauge with pathTest := true }, power := { s.power with huEn := true } }
  else .next s

/-- z25 after a measurement z of the pack, in µΩ: (z − z_ext) / (cells × f(T)), with weight 1/4 on the newest value. -/
def newZ25 (code : Nat) (g : Gauge) (zUohm : Frac) : Nat :=
  let m := fDiv (fSub zUohm (frac 10000 1)) (fMul (frac (cellsOfCode code) 1) (fOfTemp (isLfp code) g.tempDc))
  (fFloor (fDiv (fAdd (fMul (frac 3 1) (frac g.z25Uohm 1)) m) (frac 4 1))).toNat

/-- The measured z25 of the first path test after an insertion differs from the slot's by more than 50 % (14 R390). -/
def impedanceNew (code : Nat) (g : Gauge) (zUohm : Frac) : Bool :=
  match learnedCurrent g with
  | none => false
  | some (l, _) =>
    let m := fDiv (fSub zUohm (frac 10000 1)) (fMul (frac (cellsOfCode code) 1) (fOfTemp (isLfp code) g.tempDc))
    fLt (frac l.z25Uohm 2) (fSub m (frac l.z25Uohm 1)) || fLt (frac l.z25Uohm 2) (fSub (frac l.z25Uohm 1) m)

/-- PATH_TEST_END (14 R399): passes when the current reached 1 A within 20 ms and the rails stayed in regulation. -/
def execPathTestEnd (peakMa : Nat) (railsOk : Bool) (dvMv diMa : Nat) (s : State) : Host.Outcome State Fault Refusal :=
  if !s.gauge.pathTest then .next s
  else
    let pass := decide (1000 ≤ peakMa) && railsOk
    let s := { s with power := { s.power with huEn := false },
                      gauge := { s.gauge with pathTest := false, pathPassed := pass, lastPathTest := s.recTime,
                                              pathAt := if pass then s.now else s.gauge.pathAt } }
    let zU := if diMa = 0 then frac 0 1 else frac (dvMv * 1000000) diMa
    let s := match s.gauge.idCode with
      | some code =>
        if pass ∧ diMa ≠ 0 then
          if s.gauge.firstPath && impedanceNew code s.gauge zU then
            let g := loadNameplate code s.gauge
            let g := { g with charge := chargeOf g.fccUah g.socV, firstPath := false }
            recordEvent 0x7003 [code, 1, 0, 0] (writeSlot true { s with gauge := g })
          else
            writeSlot true { s with gauge := { s.gauge with z25Uohm := newZ25 code s.gauge zU, firstPath := false } }
        else s
      | none => s
    .next (countGaugeLog (recordEvent 0x7031 [if pass then 1 else 0, (fFloor zU).toNat, peakMa, 0] s))

/-! ## Learning (14 R401) -/

/-- LEARNING_START: SERVE, 10 °C to 45 °C, a rested full charge, LEARN_EN 1. S1 is SOC_V, or 100 % for LiFePO4. -/
def execLearningStart (s : State) : Host.Outcome State Fault Refusal :=
  match s.gauge.idCode with
  | none => .next s
  | some code =>
    if decide (s.mode.mode = .serve) && decide (100 ≤ s.gauge.tempDc) && decide (s.gauge.tempDc ≤ 450) && s.gauge.learnEn &&
        s.gauge.fullCharge && (s.gauge.rested || isLfp code) && decide (s.gauge.learning = .idle) && s.gauge.present then
      let s := { s with
        gauge := { s.gauge with learning := .discharging, learnDq := 0, rested := false, fullCharge := false,
                                learnS1 := if isLfp code then frac 1 1 else s.gauge.socV },
        power := { s.power with learnLoadEn := true, chgEn := false } }
      .next (countGaugeLog (recordEvent 0x7007 [0, 0, s.gauge.fccUah / 1000, 0] s))
    else .next s

/-- LEARNING_DISCHARGE_STOP: the load is off and the pack rests. With LEARN_EN 0 the cycle stops here, incomplete (18 R514). -/
def execLearningDischargeStop (s : State) : Host.Outcome State Fault Refusal :=
  if s.gauge.learning = .discharging then
    if s.gauge.learnEn then
      .next { s with gauge := { s.gauge with learning := .resting, rested := false },
                     power := { s.power with learnLoadEn := false } }
    else .next (endLearning 1 s.gauge s)
  else .next s

/-- LEARNING_END: S2 is SOC_V after the rest; the new FCC is ΔQ / (S1 − S2) when S1 − S2 ≥ 30 %. A cycle is complete then, also when its FCC is not used
(DEDUCED, log 157). -/
def execLearningEnd (s : State) : Host.Outcome State Fault Refusal :=
  match s.gauge.idCode with
  | none => .next s
  | some code =>
    if s.gauge.learning ≠ .resting ∨ (s.gauge.learnEn = true ∧ s.gauge.rested = false) then .next s
    else
      let d := fSub s.gauge.learnS1 s.gauge.socV
      if s.gauge.learnEn = false ∨ fLt d (frac 30 100) = true then .next (endLearning 1 s.gauge s)
      else
        let fcc := (fFloor (fDiv (frac s.gauge.learnDq (3600000 * 24000)) d)).toNat
        let name := nameCapUah code
        if 2 * fcc < name ∨ 11 * name < 10 * fcc then
          .next (endLearning 2 { s.gauge with suspect := true, learned := true, cycles := s.gauge.cycles + 1, lastLearn := s.recTime } s)
        else
          let prev := s.gauge.fccUah
          let far := s.gauge.learned && (decide (12 * prev < 10 * fcc) || decide (10 * fcc < 8 * prev))
          let g := { s.gauge with
            fccUah := fcc, charge := chargeOf fcc (socCc s.gauge), suspect := far, learned := true, cycles := s.gauge.cycles + 1,
            lastLearn := s.recTime }
          .next (endLearning (if far then 2 else 0) g s)

/-- CHARGE_TERMINATION (14 R411). -/
def execChargeTermination (s : State) : Host.Outcome State Fault Refusal :=
  if s.power.chgEn then
    .next (countGaugeLog { s with power := { s.power with chgEn := false }, gauge := { s.gauge with fullCharge := true } })
  else .next s

/-- LEARNED_SLOT_WRITE (14 R404). -/
def execLearnedSlotWrite (ok : Bool) (s : State) : Host.Outcome State Fault Refusal :=
  if s.power.sentinelDown = true ∨ s.power.sentinelOff = true then .next s else .next (writeSlot ok s)

/-- The sentinel has a fault (01 R31, 14 R409): readings stop, hold-up is not ready and the cache goes write-through; the takeover is
recorded (17 R491). -/
def sentinelLost (s : State) : State :=
  let s := { s with power := { s.power with sentinelDown := true }, gauge := { s.gauge with gaugeOk := false } }
  countGaugeLog (takeover 0xA0 2 200 0x7001 (dropHoldup s))

/-- SENTINEL_FAULT (01 R31, 14 R409). -/
def execSentinelFault (s : State) : Host.Outcome State Fault Refusal := .next (sentinelLost s)

/-! ## Calibration and ship mode (14 R405 to R412) -/

/-- Every field of a written record lies in its range (14 R405). -/
def calInRange (c : CalRecord) : Bool :=
  decide (c.version = 1) && decide (2 ≤ c.idTol) && decide (c.idTol ≤ 15) &&
  decide (15099495 ≤ c.senseGain) && decide (c.senseGain ≤ 18454937) &&
  decide (-5000 ≤ c.senseOffset) && decide (c.senseOffset ≤ 5000) && decide (c.cellGain.length = 3) &&
  c.cellGain.all (fun g => decide (16441672 ≤ g) && decide (g ≤ 17112760)) &&
  decide (3000 ≤ c.thermBeta) && decide (c.thermBeta ≤ 4500) && decide (15938356 ≤ c.idGain) && decide (c.idGain ≤ 17616076) &&
  decide (c.avsOffset.length = 5) && c.avsOffset.all (fun o => decide (-50 ≤ o) && decide (o ≤ 50))

/-- CALIBRATION_ACCESS_READ (14 R406). -/
def execCalibrationAccessRead (ref : CmdRef) (len : Nat) (s : State) : Host.Outcome State Fault Refusal :=
  if !(mayCommit s ref && decide (ref.sqid = 0)) then .next s
  else if len ≠ 16 then .next (failCmd ref 0x02 s)
  else .next (commitCmd ref 0 0 (sendData ref (calBytes s.gauge.cal) s))

/-- SHIP_ENTER_ARM (14 R412): a learned slot is written first, then ARMED is set. -/
def execShipEnterArm (ref : CmdRef) (s : State) : Host.Outcome State Fault Refusal :=
  if !(mayCommit s ref && decide (ref.sqid = 0)) then .next s
  else
    let s := writeSlot true s
    let s := { s with power := { s.power with shipArmed := true } }
    .next (countGaugeLog (commitCmd ref 0 0 (recordEvent 0x7030 [1, 0, 0, 0] s)))

/-- SHIP_ENTER_DISARM (14 R412). -/
def execShipEnterDisarm (ref : CmdRef) (s : State) : Host.Outcome State Fault Refusal :=
  if !(mayCommit s ref && decide (ref.sqid = 0)) then .next s
  else
    let s := { s with power := { s.power with shipArmed := false } }
    .next (countGaugeLog (commitCmd ref 0 0 (recordEvent 0x7030 [0, 0, 0, 0] s)))

end Sys2Proof.Machine
end

