-- ==== Sys2Proof/Machine/Parity.lean ====
section
/-!
DEFINITION. Parity arithmetic: GF(2^8), coefficients, encoding, updating, decoding, syndromes and verdicts (00 R10; 08 R236 to
R250), and the Reed-Solomon encoder of a cache memory word (06 R167).
-/

namespace Sys2Proof.Machine

/-! ## The field (00 R10) -/

/-- Multiplication by g = 0x02 modulo 0x11D. -/
def gdouble (a : Byte) : Byte := if a.getLsbD 7 then (a <<< 1) ^^^ 0x1D else a <<< 1

/-- gmul: the product of two field elements. -/
def gmul (a b : Byte) : Byte :=
  [7, 6, 5, 4, 3, 2, 1, 0].foldl (fun r i => if b.getLsbD i then gdouble r ^^^ a else gdouble r) 0

/-- gexp: g to the power i. -/
def gexp : Nat → Byte
  | 0 => 1
  | i + 1 => gdouble (gexp i)

/-- The inverse, a^254; 0 for 0. -/
def ginv (a : Byte) : Byte :=
  let a2 := gmul a a
  let a4 := gmul a2 a2
  let a8 := gmul a4 a4
  let a16 := gmul a8 a8
  let a32 := gmul a16 a16
  let a64 := gmul a32 a32
  let a128 := gmul a64 a64
  gmul a2 (gmul a4 (gmul a8 (gmul a16 (gmul a32 (gmul a64 a128)))))

/-- gdiv: the quotient of two field elements. -/
def gdiv (a b : Byte) : Byte := gmul a (ginv b)

/-- A block with each byte multiplied by a constant. -/
def gmulBytes (c : Byte) (bs : Bytes) : Bytes :=
  if c = 1 then bs else if c = 0 then bs.map fun _ => 0 else bs.map (gmul c)

/-! ## Coefficients (R237) -/

/-- coef(j, i) for a deck with m parity rows (R237). -/
def coef (m j i : Nat) : Byte :=
  if j = 0 then 1
  else if m ≤ 2 then gexp i
  else
    let y : Byte := BitVec.ofNat 8 (3 + i)
    gdiv y (y ^^^ BitVec.ofNat 8 j)

/-! ## Encoding (R240) -/

/-- The blocks of one block row that are at hand, by chunk index. -/
abbrev RowBlocks := List (Nat × Bytes)

/-- The block of a chunk, zero bytes where it is not at hand. -/
def rowBlock (row : RowBlocks) (c : Nat) : Bytes := tblGet row c []

/-- Weighted sum of data blocks 0 to k − 1 in parity row j, over `n` bytes. -/
def weighted (k m n j : Nat) (row : RowBlocks) : Bytes :=
  (List.range k).foldl (fun acc i => xorBytes acc (gmulBytes (coef m j i) (rowBlock row i))) (zeros n)

/-- The parity blocks of a row: chunk k + j with its bytes (R240). -/
def encodeRow (k m n : Nat) (row : RowBlocks) : RowBlocks :=
  (List.range m).map fun j => (k + j, weighted k m n j row)

/-- The new parity block of row j when data blocks change (R242): old parity, old and new data of the changed chunks. -/
def updateParity (m j : Nat) (old : Bytes) (changes : List (Nat × Bytes × Bytes)) : Bytes :=
  changes.foldl (fun p c => xorBytes p (gmulBytes (coef m j c.1) (xorBytes c.2.1 c.2.2))) old

/-! ## Decoding (R243, R244) -/

/-- A row of the linear system: coefficients and the right side. -/
abbrev SysRow := List Byte × Bytes

/-- Multiply a row by a constant, and add a multiple of one row to another. -/
def scaleRow (f : Byte) (r : SysRow) : SysRow := (r.1.map (gmul f), gmulBytes f r.2)
def addRow (f : Byte) (src dst : SysRow) : SysRow :=
  (List.zipWith (fun d s => d ^^^ gmul f s) dst.1 src.1, xorBytes dst.2 (gmulBytes f src.2))

/-- One pivot step p of R244. -/
def pivotStep (rows : List SysRow) (p : Nat) : List SysRow :=
  match rows[p]? with
  | none => rows
  | some r =>
    let pr := scaleRow (gdiv 1 (r.1.getD p 0)) r
    (List.range rows.length).map fun i =>
      if i = p then pr
      else
        let ri := rows.getD i ([], [])
        addRow (ri.1.getD p 0) pr ri

/-- Parity rows used for a decode: those not lost, in rising order, as many as there are lost data chunks (R243). -/
def decodeRows (k m : Nat) (lost : List Nat) : List Nat :=
  ((List.range m).filter fun j => !lost.contains (k + j)).take (lost.filter (· < k)).length

/-- Chunks that a decode reads (R243). -/
def decodeReads (k m : Nat) (lost : List Nat) : List Nat :=
  (List.range k).filter (fun i => !lost.contains i) ++ (decodeRows k m lost).map (k + ·)

/-- The procedure of R244 on blocks of `n` bytes: every lost chunk with its block; none when more than m are lost. -/
def decodeLost (k m n : Nat) (lost : List Nat) (row : RowBlocks) : Option RowBlocks :=
  if m < lost.length then none
  else
    let ld := (List.range k).filter fun i => lost.contains i
    let sys := (decodeRows k m lost).map fun j =>
      (ld.map fun c => coef m j c,
       (List.range k).foldl (fun b i =>
         if ld.contains i then b else xorBytes b (gmulBytes (coef m j i) (rowBlock row i))) (fitBytes n (rowBlock row (k + j))))
    let solved := (List.range ld.length).foldl pivotStep sys
    let data := (List.range ld.length).map fun c => (ld.getD c 0, (solved.getD c ([], [])).2)
    let full := data ++ row.filter fun b => decide (b.1 < k) && !ld.contains b.1
    let par := (List.range m).filterMap fun j =>
      if lost.contains (k + j) then some (k + j, weighted k m n j full) else none
    some (data ++ par)

/-- The weight w_l(i) of read chunk i for lost chunk l (R246). -/
def decodeWeight (k m : Nat) (lost : List Nat) (l i : Nat) : Byte :=
  match decodeLost k m 1 lost [(i, [1])] with
  | some r => (tblGet r l []).headD 0
  | none => 0

/-! ## Streams (R241, R247; 09 R255) -/

/-- The operands of a stream in order, as chunk, OP, COEF_A and COEF_B: the first is a SEED, the last a LAST, the others ACCUMULATE (R241). -/
def streamOps (ws : List (Nat × Byte × Byte)) : List (Nat × Nat × Byte × Byte) :=
  (List.range ws.length).filterMap fun i =>
    (ws[i]?).map fun w => (w.1, (if i + 1 = ws.length then 3 else if i = 0 then 1 else 2), w.2)

/-- The stream that encodes a row of a hand (R241): COEF_A is coef(1, i) from m = 2 on, COEF_B coef(2, i) for m = 3; the lines are P, Q and T, those beyond
row m − 1 discarded. -/
def encodeStream (k m : Nat) : ParityStream :=
  { msyn := m, ops := streamOps ((List.range k).map fun i => (i, (if 2 ≤ m then coef m 1 i else 0), if m = 3 then coef m 2 i else 0))
    lines := (List.range 3).map fun j => if j < m then some (k + j) else none }

/-- A lost chunk whose weights are all 0x01 (R247). -/
def plainLost (k m : Nat) (lost : List Nat) (l : Nat) : Bool := (decodeReads k m lost).all fun i => decide (decodeWeight k m lost l i = 1)

/-- The needed lost chunks that take weighted lines, in rising order: all but the one that takes line 0 (R247). -/
def weightedLost (k m : Nat) (lost need : List Nat) : List Nat :=
  match need.find? (plainLost k m lost) with
  | some l => need.filter fun x => !decide (x = l)
  | none => need

/-- Streams of a decode that needs the lost chunks `need` (R247). -/
def decodeStreams (k m : Nat) (lost need : List Nat) : Nat := max 1 (ceilDiv (weightedLost k m lost need).length 2)

/-- The weight of a read chunk on a line that carries the `n`-th weighted chunk; 0 on a line without one (R247). -/
def lineWeight (k m : Nat) (lost need : List Nat) (n i : Nat) : Byte :=
  match (weightedLost k m lost need)[n]? with
  | some l => decodeWeight k m lost l i
  | none => 0

/-- The decode streams of a pattern of lost chunks (R247): every chunk read, once in each stream; the chunk whose weights are all 0x01 takes line 0 of the
first, and the weighted chunks take line 1, then line 2. MSYN is the deck's m, as in every flit that carries parity work (01 R32). -/
def decodePlan (k m : Nat) (lost need : List Nat) : List ParityStream :=
  let w := weightedLost k m lost need
  (List.range (decodeStreams k m lost need)).map fun n =>
    { msyn := m, ops := streamOps ((decodeReads k m lost).map fun i => (i, lineWeight k m lost need (2 * n) i, lineWeight k m lost need (2 * n + 1) i))
      lines := [if n = 0 then need.find? (plainLost k m lost) else none, w[2 * n]?, w[2 * n + 1]?] }

/-- The weight of an operand of a read-modify-write for parity row j: 0x01 for its own old value, 0x00 for another's, coef(j, i) for data
(09 R255). -/
def rmwWeight (k m j c : Nat) : Byte := if c < k then coef m j c else if c = k + j then 1 else 0

/-- The streams of a read-modify-write (09 R255): old and new data of the changed chunks and the old parity, two parity rows to a stream on its weighted
lines; line 0 is discarded. -/
def rmwStreams (k m : Nat) (changed rows : List Nat) : List ParityStream :=
  let ops := changed ++ changed ++ rows.map (k + ·)
  let line := fun n c => match rows[n]? with | some j => rmwWeight k m j c | none => 0
  (List.range (ceilDiv rows.length 2)).map fun n =>
    { msyn := m, ops := streamOps (ops.map fun c => (c, line (2 * n) c, line (2 * n + 1) c))
      lines := [none, (rows[2 * n]?).map (k + ·), (rows[2 * n + 1]?).map (k + ·)] }

/-! ## Locating one wrong chunk (R248 to R250) -/

/-- A verdict on a byte position or on a block (R248, R249). -/
inductive Verdict where
  | consistent
  | chunk (c : Nat)
  | unlocatable
  deriving DecidableEq, Repr

/-- Full syndromes of a row, one block for each parity row (R248). -/
def syndromes (k m n : Nat) (row : RowBlocks) : List Bytes :=
  (List.range m).map fun j => xorBytes (fitBytes n (rowBlock row (k + j))) (weighted k m n j row)

/-- The verdict of one position from its syndrome bytes (R248). -/
def positionVerdict (k m : Nat) (z : List Byte) : Verdict :=
  let nz := (List.range m).filter fun j => decide (z.getD j 0 ≠ 0)
  match nz with
  | [] => .consistent
  | [j] => if m = 1 then .unlocatable else .chunk (k + j)
  | _ =>
    if z.getD 0 0 = 0 then .unlocatable
    else
      match (List.range k).find? fun x => (List.range m).all fun j =>
          decide (j = 0) || decide (coef m j x = gdiv (z.getD j 0) (z.getD 0 0)) with
      | some x => .chunk x
      | none => .unlocatable

/-- Join the verdicts of two positions (R249). -/
def joinVerdict : Verdict → Verdict → Verdict
  | .consistent, v => v
  | v, .consistent => v
  | .chunk a, .chunk b => if a = b then .chunk a else .unlocatable
  | _, _ => .unlocatable

/-- The verdict of a block row (R249). -/
def rowVerdict (k m n : Nat) (row : RowBlocks) : Verdict :=
  let zs := syndromes k m n row
  (List.range n).foldl (fun v e => joinVerdict v (positionVerdict k m (zs.map fun z => z.getD e 0))) .consistent

/-- The corrected block of the chunk that a verdict names (R250). -/
def correctBlock (k m n c : Nat) (row : RowBlocks) : Bytes :=
  let zs := syndromes k m n row
  xorBytes (fitBytes n (rowBlock row c)) (zs.getD (if c < k then 0 else c - k) [])

/-! ## The cache memory word (06 R167) -/

/-- Multiply a polynomial, highest degree first, by (x + r). -/
def polyTimesRoot (p : List Byte) (r : Byte) : List Byte :=
  List.zipWith (· ^^^ ·) (p ++ [0]) (0 :: p.map (gmul r))

/-- The generator polynomial: the product of (x + g^j) for j = 0 to 35, highest degree first, 37 coefficients. -/
def rsGenerator : List Byte := (List.range 36).foldl (fun p j => polyTimesRoot p (gexp j)) [1]

/-- One step of the division: the remainder register takes one message byte. -/
def rsStep (gen : List Byte) (reg : List Byte) (b : Byte) : List Byte :=
  let f := b ^^^ reg.headD 0
  List.zipWith (fun r g => r ^^^ gmul f g) (reg.drop 1 ++ [0]) (gen.drop 1)

/-- The 36 check bytes of 72 data and metadata bytes; c[0] is the coefficient of the highest power (DEDUCED, log 25). -/
def rsCheck (msg : Bytes) : Bytes := msg.foldl (rsStep rsGenerator) (zeros 36)

end Sys2Proof.Machine
end

