-- ==== Sys2Proof/Machine/Decks.lean ====
section
/-!
DEFINITION. Decks: where a chunk lies now, bad-block lists, labels, the volume table, exposure and deck state, and the commands that
create, import and destroy a deck (07 R205 to R235; 10 R277, R284 to R288, R536).
-/

namespace Sys2Proof.Machine

/-! ## Units -/

/-- A volume. -/
def State.vol (s : State) (nsid : Nat) : Option Volume := tblFind s.decks.volumes nsid

/-- The state with a volume replaced. -/
def State.setVol (s : State) (nsid : Nat) (v : Volume) : State :=
  { s with decks := { s.decks with volumes := tblPut s.decks.volumes nsid v } }

/-- Insert a volume into a list in rising NSID order. -/
def insertVol (v : Volume) : List Volume → List Volume
  | [] => [v]
  | x :: xs => if v.nsid ≤ x.nsid then v :: x :: xs else x :: insertVol v xs

/-- The volumes of a deck, in rising NSID order. -/
def volumesOf (s : State) (id : Nat) : List Volume :=
  ((s.decks.volumes.map (·.2)).filter fun v => decide (v.deckId = id)).foldr insertVol []

/-! ## Where chunks lie now (07 R217, R222; 10 R290 to R293) -/

/-- Hands of a deck. -/
def handCount (d : Deck) : Nat := d.label.shape.rounds * handsPerRound d.label.shape

/-- Member table entry of a member index. -/
def memberOf (d : Deck) (mem : Nat) : Option MemberEntry := d.label.members[mem]?

/-- MSTATE of a member index; an index without an entry counts as FAILED. -/
def mstateOf (d : Deck) (mem : Nat) : MState := ((memberOf d mem).map (·.mstate)).getD .failed

/-- Index of the rebuild segment that holds a round (10 R291). -/
def segOf (segs : List (Nat × Nat)) (r : Nat) : Nat := (segs.filter fun g => decide (g.1 ≤ r)).length - 1

/-- Fail list entry `i` is rebuilt for a hand: its bit is set in the hand's segment, the sweep has passed the hand, or its chunk
is written already (10 R290, R291). -/
def entryDone (d : Deck) (i hd : Nat) : Bool :=
  let r := handRound d.label.shape hd
  let g := segOf d.segs r
  (((d.segs[g]?).map fun x : Nat × Nat => x.2).getD 0).testBit i || (decide (g = d.curSeg) && decide (r < d.cursor)) || d.rebuilt.contains (hd, i)

/-- The mover's condition of R217, with the controller's own progress (10 R290). -/
def moverDone (d : Deck) (hd : Nat) : Option Nat → Bool
  | none => true
  | some i =>
    match d.label.failList[i]? with
    | none => true
    | some e =>
      match e.fstate with
      | .rebuilt => true
      | .copyback => true
      | .rebuilding => entryDone d i hd

/-- Member index where chunk `c` of a hand has its place, when it has a slot (07 R217). -/
def memberAt (d : Deck) (hd c : Nat) : Option Nat := chunkMember d.label.shape d.label.failList hd c

/-- The chunk holds current data where it lies (07 R217). -/
def chunkCurrent (d : Deck) (hd c : Nat) : Bool :=
  let pl := chunkPlace d.label.shape d.label.failList hd c
  match pl.1 with
  | none => false
  | some x => decide (mstateOf d ((perm d.label.shape (handRound d.label.shape hd)).getD x 0) ≠ .failed) && moverDone d hd pl.2

/-- The chunk counts as missing: missing under R217, or on an ABSENT member (07 R222). -/
def chunkMissing (d : Deck) (hd c : Nat) : Bool :=
  !chunkCurrent d hd c || (match memberAt d hd c with
    | some mem => decide (mstateOf d mem = .absent)
    | none => true)

/-- The chunks of a hand that count as missing. -/
def missingOf (d : Deck) (hd : Nat) : List Nat := (List.range (widthOf d.label.shape)).filter (chunkMissing d hd)

/-- The chunk has a place on a live member, ACTIVE or REPLACING: the member index. -/
def livePlace (d : Deck) (hd c : Nat) : Option Nat :=
  match memberAt d hd c with
  | some mem => if mstateOf d mem = .active ∨ mstateOf d mem = .replacing then some mem else none
  | none => none

/-- The chunk is written by a hand update: it is current and its member is live (09 R254). -/
def chunkWritable (d : Deck) (hd c : Nat) : Bool := chunkCurrent d hd c && (livePlace d hd c).isSome

/-- Slot of a member index. -/
def slotOfMember (d : Deck) (mem : Nat) : Option Nat := (memberOf d mem).bind (·.slot)

/-- Member byte offset of a block row of a hand (07 R214, R215). -/
def rowOffset (d : Deck) (hd row : Nat) : Nat := blockOffset d.label hd row

/-- CAP of the drive in a slot. -/
def slotCap (s : State) (x : Nat) : Nat := ((s.slot x).info.map fun i => i.cap / 1048576 * 1048576).getD 0

/-- Identity and tagging of the drive in a slot. -/
def slotNguid (s : State) (x : Nat) : Nat := ((s.slot x).info.map (·.nguid)).getD 0
def slotTagged (s : State) (x : Nat) : Bool := ((s.slot x).info.map fun i => decide (i.metaBytes = 16)).getD false

/-- A layout with each member tagged as its drive is: a redeal's new layout carries tags on every drive with 16 metadata bytes, those of an
imported deck too (11 R324, R326). -/
def retag (s : State) (ld : Deck) : Deck :=
  { ld with label := { ld.label with members := ld.label.members.map fun e =>
      match e.slot with
      | some x => { e with tagged := slotTagged s x }
      | none => e } }

/-- The layout that a redeal builds, as a deck of its own (11 R312, R314). -/
def newLayout (d : Deck) : Option Deck :=
  d.label.redeal.map fun r =>
    let added := r.addSlots.map fun x => ({ slot := some x, mstate := .active, tagged := true, cap := 0, nguid := 0 } : MemberEntry)
    { d with label := { d.label with shape := r.newShape, generation := r.newGen, failList := [], members := d.label.members ++ added },
             segs := [], curSeg := 0xFF, rebuilt := [] }

/-! ## Bad-block lists (10 R284 to R288) -/

/-- A volume page is listed. -/
def isListed (v : Volume) (page : Nat) : Bool := v.bad.any fun b => decide (b.base = page / 64 * 64) && b.map.testBit (page % 64)

/-- Pages listed in a volume. -/
def listedCount (v : Volume) : Nat :=
  v.bad.foldl (fun n b => n + ((List.range 64).filter fun j => b.map.testBit j).length) 0

/-- Add a page to a bad-block list in rising order of BASE. -/
def addBad (page : Nat) : List BadEntry → List BadEntry
  | [] => [{ base := page / 64 * 64, map := 2 ^ (page % 64) }]
  | b :: bs =>
    if b.base = page / 64 * 64 then
      (if b.map.testBit (page % 64) then b else { b with map := b.map + 2 ^ (page % 64) }) :: bs
    else if page / 64 * 64 < b.base then { base := page / 64 * 64, map := 2 ^ (page % 64) } :: b :: bs
    else b :: addBad page bs

/-- Clear a page. -/
def clearBad (page : Nat) (l : List BadEntry) : List BadEntry :=
  (l.map fun b =>
    if b.base = page / 64 * 64 ∧ b.map.testBit (page % 64) = true then { b with map := b.map - 2 ^ (page % 64) } else b).filter
      fun b => decide (b.map ≠ 0)

/-- Volume that holds a deck hand, and its volume hand (07 R226). -/
def handOwner (s : State) (id hd : Nat) : Option (Volume × Nat) :=
  (volumesOf s id).findSome? fun v => (handExtent v.extents hd).map fun vh => (v, vh)

/-- A data block of a hand is listed in the volume that holds the hand. -/
def blockListed (s : State) (id : Nat) (d : Deck) (hd row c : Nat) : Bool :=
  match handOwner s id hd with
  | some (v, vh) => decide (c < d.label.shape.k) && isListed v (pageOfBlock d.label.shape vh row c)
  | none => false

/-- Every block of a data chunk is listed (07 R222). -/
def chunkListed (s : State) (id : Nat) (d : Deck) (hd c : Nat) : Bool :=
  (List.range (chunkBlocks d.label.shape)).all fun row => blockListed s id d hd row c

/-! ## Exposure and state (07 R222; 10 R277, R536) -/

/-- Exposure of a hand: chunks missing, wholly listed data chunks of a held hand left out (07 R222, 10 R277). -/
def handExposure (s : State) (id : Nat) (d : Deck) (hd : Nat) : Nat :=
  ((missingOf d hd).filter fun c => !chunkListed s id d hd c).length

/-- The deck hands that a volume holds. -/
def heldOf (v : Volume) : List Nat := v.extents.flatMap fun e => (List.range e.2.2).map (e.2.1 + ·)

/-- The deck hands that volumes hold, in rising NSID order. -/
def heldHands (s : State) (id : Nat) : List Nat := (volumesOf s id).flatMap heldOf

/-- Greatest exposure of any held hand (10 R277). A deck with no failed or absent member has exposure 0. -/
def deckExposure (s : State) (id : Nat) (d : Deck) : Nat :=
  if d.label.failList.isEmpty && d.label.members.all (fun e => decide (e.mstate = .active)) then 0
  else (heldHands s id).foldl (fun n hd => max n (handExposure s id d hd)) 0

/-- A hand lacks more than m chunks (10 R536). -/
def handLost (d : Deck) (hd : Nat) : Bool := decide (d.label.shape.m < (missingOf d hd).length)

/-- Rebuild or copy-back is running or waiting, or a keeper's fresh replica is not complete (07 R222). -/
def deckRebuilding (d : Deck) : Bool :=
  d.label.failList.any (fun e => decide (e.fstate ≠ .rebuilt)) || d.rings.any fun r => r.keeper && !r.complete

/-- DECK_STATE (07 R222) for an exposure. -/
def deckStateCode (d : Deck) (exposure : Nat) : Nat :=
  if d.label.shape.m < exposure then 7
  else if d.resync.isSome then 6
  else if deckRebuilding d then 4
  else if d.label.redeal.isSome then 5
  else min 3 exposure

/-! ## Labels (07 R219 to R223) -/

/-- Bytes of a member table entry (07 R220). -/
def memberBytes (e : MemberEntry) : Bytes :=
  leBytes 1 (e.slot.getD 0xFF) ++
  leBytes 1 (match e.mstate with | .active => 0 | .failed => 1 | .replacing => 2 | .absent => 3) ++
  leBytes 1 (if e.tagged then 1 else 0) ++ zeros 5 ++ leBytes 8 e.cap ++ leBytes 16 e.nguid

/-- Bytes of a fail list entry (07 R221). -/
def failBytes (e : FailEntry) : Bytes :=
  leBytes 1 e.member ++ leBytes 1 (match e.fstate with | .rebuilding => 0 | .rebuilt => 1 | .copyback => 2) ++ zeros 6 ++
  leBytes 8 e.watermark

/-- Dealing mode code. -/
def modeOf (m : DealMode) : Nat := match m with | .rotate => 0 | .shuffle => 1

/-- Bytes of the REDEAL field (11 R317). -/
def redealBytes : Option RedealField → Bytes
  | none => zeros 256
  | some r =>
    fitBytes 256 (leBytes 2 r.newGen ++ leBytes 1 (modeOf r.newShape.mode) ++ leBytes 1 r.newShape.k ++ leBytes 1 r.newShape.m ++
      leBytes 1 r.newShape.n ++ leBytes 1 r.newShape.s ++ leBytes 1 r.newShape.chunkShift ++ leBytes 8 r.newShape.seed.toNat ++
      leBytes 8 r.newShape.rounds ++ leBytes 1 (match r.phase with | .copy => 1 | .switch => 2) ++ zeros 7 ++ leBytes 4 r.wmNsid ++
      zeros 4 ++ leBytes 8 r.wmVhand ++ leBytes 8 r.started.toNat ++ leBytes 8 r.handsTotal ++
      fitBytes 48 ((r.addSlots ++ List.replicate (48 - r.addSlots.length) 0xFF).flatMap (leBytes 1)))

/-- The 4,096 bytes of a label copy on a member (07 R219). -/
def labelBytes (l : DeckLabel) (copy mem nguid cap : Nat) : Bytes :=
  let flags := (if l.cleanStop then 1 else 0) + (if l.redeal.isSome then 2 else 0) + (if l.imported then 4 else 0)
  let body := asciiBytes "WSDVDECK" ++ leBytes 2 2 ++ leBytes 1 copy ++ leBytes 1 mem ++ leBytes 1 l.deckId ++
    leBytes 1 (modeOf l.shape.mode) ++ leBytes 1 l.shape.k ++ leBytes 1 l.shape.m ++ leBytes 1 l.shape.n ++ leBytes 1 l.shape.s ++
    leBytes 1 l.shape.chunkShift ++ leBytes 1 l.deckState ++ leBytes 2 l.generation ++ leBytes 1 flags ++
    leBytes 1 l.failList.length ++ leBytes 1 (l.keeper0.getD 0xFF) ++ leBytes 1 (l.keeper1.getD 0xFF) ++ zeros 6 ++
    leBytes 16 l.uuid ++ leBytes 16 nguid ++ leBytes 8 l.shape.seed.toNat ++ leBytes 8 l.shape.rounds ++ leBytes 8 l.dataStart ++
    leBytes 8 l.journalStart ++ leBytes 8 l.voltStart ++ leBytes 8 cap ++ leBytes 8 l.labelSeq ++ leBytes 8 l.createTime.toNat ++
    fitBytes 256 (l.failList.flatMap failBytes) ++ redealBytes l.redeal ++ fitBytes 2048 (l.members.flatMap memberBytes) ++
    leBytes 8 l.wseqCeil ++ zeros 1396
  body ++ leBytes 4 (crc32c body).toNat

/-- The tag of a label, volume table or journal block on a tagged member (07 R231). -/
def metaTag (tagged : Bool) (data : Bytes) : Option ChunkTag :=
  let t : ChunkTag := { crc := 0, gen := 0, hand := 0xFFFFFFFFFF, chunk := 63, block := 0, wseq := 0 }
  if tagged then some { t with crc := tagCrc data t } else none

/-- Member byte offset of a label copy (07 R212). -/
def labelOffset (copy cap : Nat) : Nat :=
  if copy = 0 then 0 else if copy = 1 then 4096 else if copy = 2 then cap - 8192 else cap - 4096

/-- Write one pass of a label update to one member, when its drive can be reached; the drive then carries the label. -/
def writeLabelTo (l : DeckLabel) (copy mem : Nat) (e : MemberEntry) (s : State) : State :=
  match e.slot with
  | none => s
  | some x =>
    let v := s.slot x
    if slotReachable v then
      let b := labelBytes l copy mem e.nguid e.cap
      storeTo x (labelOffset copy e.cap) b (metaTag e.tagged b)
        (s.setSlot x { v with native := some { label := l, memberIndex := mem, nguid := e.nguid } })
    else s

/-- The members that a label update writes: the member table, and the added drives of a redeal (07 R223, 11 R313). -/
def labelTargets (s : State) (l : DeckLabel) : List MemberEntry :=
  l.members ++ (match l.redeal with
    | none => []
    | some r => r.addSlots.map fun x =>
        { slot := some x, mstate := .active, tagged := slotTagged s x, cap := slotCap s x, nguid := slotNguid s x })

/-- Passes of a label update, by copy, each on every reachable member (07 R223). -/
def writePasses (copies : List Nat) (l : DeckLabel) (s : State) : State :=
  let ms := labelTargets s l
  copies.foldl (fun s copy =>
    (List.range ms.length).foldl (fun s i =>
      match ms[i]? with
      | some e => writeLabelTo l copy i e s
      | none => s) s) s

/-- The passes of a label update in order: copy 0, copy 2, copy 1, copy 3 (07 R223). -/
def labelPasses : List Nat := [0, 2, 1, 3]

/-- The four passes of a label update. -/
def writeLabels (l : DeckLabel) (s : State) : State := writePasses labelPasses l s

/-- End of the run of segments from round 0 in which an entry is done, CUR_SEG to the cursor (10 R293). -/
def runEnd (d : Deck) (i : Nat) : Nat → Nat → Nat
  | 0, g => ((d.segs[g]?).map fun x : Nat × Nat => x.1).getD d.label.shape.rounds
  | n + 1, g =>
    match d.segs[g]? with
    | none => d.label.shape.rounds
    | some x =>
      if x.2.testBit i then runEnd d i n (g + 1)
      else if g = d.curSeg then max x.1 d.cursor
      else x.1

/-- The fail list with the WATERMARK of each REBUILDING entry as R293 gives it. -/
def watermarks (d : Deck) : List FailEntry :=
  (List.range d.label.failList.length).filterMap fun i =>
    (d.label.failList[i]?).map fun e =>
      if e.fstate = .rebuilding then { e with watermark := runEnd d i d.segs.length 0 } else e

/-- Hands of an extent list. -/
def extentTotal (ext : List (Nat × Nat × Nat)) : Nat := ext.foldl (fun n e => n + e.2.2) 0

/-- The copy position of a redeal, past the last hand once every hand is copied (11 R319, R330). -/
def copyPosition (run : RedealRun) : Nat × Nat :=
  run.position.getD (run.newExtents.foldl (fun (_ : Nat × Nat) x => (x.1, extentTotal x.2)) (0, 0))

/-- The REDEAL field as a label update writes it: WM_NSID and WM_VHAND hold the copy position (11 R317). -/
def redealField (d : Deck) : Option RedealField :=
  match d.label.redeal, d.redeal with
  | some r, some run => some { r with wmNsid := (copyPosition run).1, wmVhand := (copyPosition run).2 }
  | r, _ => r

/-- A label update with a fail list (07 R223): LABEL_SEQ is raised, WSEQ_CEIL is WSEQ + 2^24 (09 R252), and every copy is written. -/
def labelUpdateWith (id : Nat) (fails : Deck → List FailEntry) (s : State) : State :=
  match s.deck id with
  | none => s
  | some d =>
    let l := { d.label with
      labelSeq := d.label.labelSeq + 1, wseqCeil := d.wseq + 2 ^ 24, failList := fails d, redeal := redealField d }
    writeLabels l (s.setDeck id { d with label := l })

/-- A label update: REBUILDING entries carry the WATERMARK of R293. -/
def labelUpdate (id : Nat) (s : State) : State := labelUpdateWith id watermarks s

/-- A REBUILDING entry's rebuilt rounds have passed a further 1/64 of ROUNDS since the label was written (07 R223). -/
def watermarkDue (d : Deck) : Bool :=
  let step := max 1 (d.label.shape.rounds / 64)
  decide ((watermarks d).map (fun e => e.watermark / step) ≠ d.label.failList.map fun e => e.watermark / step)

/-- A label update that first changes the label. -/
def relabel (id : Nat) (f : DeckLabel → DeckLabel) (s : State) : State :=
  labelUpdate id (updDeck id (fun d => { d with label := f d.label }) s)

/-- Before the first member write to a deck other than a label write, CLEAN_STOP is cleared with a label update (07 R225). -/
def clearCleanStop (id : Nat) (s : State) : State :=
  match s.deck id with
  | some d => if d.label.cleanStop then relabel id (fun l => { l with cleanStop := false }) s else s
  | none => s

/-! ## Volume table (05 R143; 07 R226, R227) -/

/-- The 4,160 bytes of a Volume Map (05 R143), the HAND_DATA of the volume's deck given. -/
def mapBytes (v : Volume) (handData : Nat) : Bytes :=
  fitBytes 4160 (leBytes 4 v.nsid ++ leBytes 1 v.deckId ++ leBytes 1 v.lbaf ++ leBytes 2 v.deckGen ++ leBytes 8 v.nsze ++
    leBytes 8 v.handsAlloc ++ leBytes 4 handData ++ leBytes 2 v.extents.length ++ leBytes 1 v.crypt ++ zeros 33 ++
    v.extents.flatMap fun e => leBytes 5 e.1 ++ leBytes 5 e.2.1 ++ leBytes 4 e.2.2 ++ zeros 2)

/-- Bytes 4,248 to 8,187 of a volume table record (10 R284). -/
def badBytes (v : Volume) : Bytes :=
  fitBytes 3940 (leBytes 2 v.bad.length ++ leBytes 1 ((if v.overflow then 1 else 0) + (if v.writeLock then 2 else 0)) ++ zeros 5 ++
    v.bad.flatMap fun b => leBytes 5 b.base ++ zeros 3 ++ leBytes 8 b.map)

/-- The 8 KiB of a volume table record (07 R226). -/
def recordBytes (v : Volume) (handData : Nat) : Bytes :=
  let body := mapBytes v handData ++ leBytes 8 v.recSeq ++ leBytes 1 v.dps ++ leBytes 1 v.vstate ++ zeros 6 ++
    (if v.crypt = 1 then fitBytes 72 (Config.wrapKey wrappingKey v.key) else zeros 72) ++ badBytes v
  body ++ leBytes 4 (crc32c body).toNat

/-- The 4 KiB header of a volume table copy (07 R226). -/
def tableHeader (d : Deck) (gen volumes : Nat) : Bytes :=
  let body := asciiBytes "WSDVVOLT" ++ leBytes 2 1 ++ zeros 6 ++ leBytes 16 d.label.uuid ++ leBytes 8 d.tableSeq ++ leBytes 2 gen ++
    leBytes 2 volumes ++ zeros 4048
  body ++ leBytes 4 (crc32c body).toNat

/-- Member byte offset of the copy that a TABLE_SEQ is written to: the copies are written in turn, A for an odd value (R227;
DEDUCED, log 27). -/
def tableOffset (d : Deck) : Nat := d.label.voltStart + (if d.tableSeq % 2 = 1 then 0 else 9 * 1048576)

/-- TABLE_SEQ that a member's copy holds, the copy that the deck's next TABLE_SEQ is written to; 0 when nothing is known of it. -/
def heldSeq (d : Deck) (mem : Nat) : Nat :=
  match d.tables.find? fun x => decide (x.1 = mem) with
  | some (_, a, b) => if d.tableSeq % 2 = 1 then a else b
  | none => 0

/-- The member's copy now holds TABLE_SEQ. -/
def noteCopy (mem : Nat) (d : Deck) : Deck :=
  let old := ((d.tables.find? fun x => decide (x.1 = mem)).map fun x => x.2).getD (0, 0)
  { d with tables := (d.tables.filter fun x => !decide (x.1 = mem)) ++
      [(mem, if d.tableSeq % 2 = 1 then (d.tableSeq, old.2) else (old.1, d.tableSeq))] }

/-- The records of one update on one member: every record that differs from what its copy holds, those of deleted volumes zero (07 R227). -/
def tableRecords (d : Deck) (vs : List Volume) (seq : Nat) : List (Nat × Bytes) :=
  let at_ := fun n => tableOffset d + 4096 + (n - 1) * 8192
  ((vs.filter fun v => decide (seq < v.recSeq)).map fun v => (at_ v.nsid, recordBytes v (handBytes d.label.shape))) ++
    ((d.gone.filter fun g => decide (seq < g.2)).map fun g => (at_ g.1, zeros 8192))

/-- Write bytes to the blocks of a member's label, table or journal place, each block with its tag on a tagged member (R231). -/
def emitMeta (x at_ : Nat) (tagged : Bool) (bs : Bytes) (s : State) : State :=
  (List.range (bs.length / 4096)).foldl (fun s i =>
    let b := sliceBytes bs (4096 * i) 4096
    storeTo x (at_ + 4096 * i) b (metaTag tagged b) s) s

/-- Write blocks of the table to one member, when its drive can be reached. -/
def writeTable (id mem : Nat) (ws : Deck → List (Nat × Bytes)) (s : State) : State :=
  match s.deck id with
  | none => s
  | some d =>
    match (memberOf d mem).bind fun e => e.slot.map fun x => (e, x) with
    | some (e, x) =>
      if slotReachable (s.slot x) then (ws d).foldl (fun s w => emitMeta x w.1 e.tagged w.2 s) s else s
    | none => s

/-- The records of one update on one member. -/
def writeRecords (id mem : Nat) (s : State) : State :=
  writeTable id mem (fun d => tableRecords d (volumesOf s id) (heldSeq d mem)) s

/-- The header of one update on one member: its copy then holds the new TABLE_SEQ. -/
def writeHeader (id gen mem : Nat) (s : State) : State :=
  let s1 := writeTable id mem (fun d => [(tableOffset d, tableHeader d gen (volumesOf s id).length)]) s
  match s1.deck id with
  | none => s1
  | some d =>
    if ((memberOf d mem).bind (·.slot)).any fun x => slotReachable (s1.slot x) then s1.setDeck id (noteCopy mem d) else s1

/-- One atomic step of a deck's volume table under a generation (07 R227): the volumes named take REC_SEQ, or leave the table when they are
gone; the records are written to every reachable member's other copy, and only then the header with the new TABLE_SEQ. -/
def tableStep (id gen : Nat) (changed : List Nat) (s : State) : State :=
  match s.deck id with
  | none => s
  | some d =>
    let seq := d.tableSeq + 1
    let left := changed.filter fun n => (s.vol n).isNone
    let d := { d with tableSeq := seq, gone := (d.gone.filter fun g => !changed.contains g.1) ++ left.map fun n => (n, seq) }
    let s := s.setDeck id d
    let s := changed.foldl (fun s n =>
      match s.vol n with
      | some v => s.setVol n { v with recSeq := seq }
      | none => s) s
    let ms := List.range d.label.members.length
    ms.foldl (fun s mem => writeHeader id gen mem s) (ms.foldl (fun s mem => writeRecords id mem s) s)

/-- One atomic step of a deck's volume table: a member write, so CLEAN_STOP is cleared first (07 R225, R227). -/
def tableUpdateGen (id gen : Nat) (changed : List Nat) (s : State) : State := tableStep id gen changed (clearCleanStop id s)

/-- One atomic step of a deck's volume table. -/
def tableUpdate (id : Nat) (changed : List Nat) (s : State) : State :=
  tableUpdateGen id (((s.deck id).map fun d => d.label.generation).getD 0) changed s

/-- Change a volume in one step of its deck's volume table. -/
def updVolTable (nsid : Nat) (f : Volume → Volume) (s : State) : State :=
  match s.vol nsid with
  | some v => tableUpdate v.deckId [nsid] (s.setVol nsid (f v))
  | none => s

/-- A volume is write-protected: QUARANTINE, or WRITE_LOCK (05 R148; 10 R287). -/
def volProtected (s : State) (v : Volume) : Bool := v.writeLock || decide (s.mode.mode = .quarantine)

/-! ## Deck Status log (07 R232) -/

/-- Record of a deck. -/
def deckRecord (s : State) (id : Nat) : Bytes :=
  match s.deck id with
  | some d =>
    let l := d.label
    let b := fun (x : Bool) (i : Nat) => if x then 2 ^ i else 0
    let vs := volumesOf s id
    let held := vs.foldl (fun n v => n + v.handsAlloc) 0
    fitBytes 128 (leBytes 1 id ++ leBytes 1 1 ++ leBytes 1 l.deckState ++
      leBytes 1 (b d.pending 0 + b l.cleanStop 1 + b l.redeal.isSome 2 + b l.imported 3) ++ leBytes 1 (modeOf l.shape.mode) ++
      leBytes 1 l.shape.k ++ leBytes 1 l.shape.m ++ leBytes 1 l.shape.n ++ leBytes 1 l.shape.s ++ leBytes 1 l.shape.chunkShift ++
      leBytes 2 l.generation ++ leBytes 1 d.exposure ++ leBytes 1 l.failList.length ++ leBytes 1 (l.keeper0.getD 0xFF) ++
      leBytes 1 (l.keeper1.getD 0xFF) ++ leBytes 8 (bitmapOf (l.members.filterMap (·.slot))) ++ leBytes 8 l.shape.seed.toNat ++
      leBytes 8 l.shape.rounds ++ leBytes 8 (handCount d) ++ leBytes 8 (handCount d - held) ++
      leBytes 8 (vs.foldl (fun n v => n + listedCount v) 0) ++ leBytes 16 l.uuid)
  | none =>
    match s.decks.importable.find? fun i => decide (i.deckId = id) with
    | some i =>
      fitBytes 128 (leBytes 1 id ++ leBytes 1 1 ++ leBytes 1 0 ++ leBytes 1 ((if i.label.cleanStop then 2 else 0) + 16) ++ leBytes 1 0 ++
        leBytes 1 i.label.k ++ leBytes 1 i.label.m ++ leBytes 1 i.label.n ++ leBytes 1 0 ++ leBytes 1 16 ++ zeros 6 ++
        leBytes 8 (bitmapOf i.slots) ++ zeros 8 ++ leBytes 8 i.label.rounds ++ leBytes 8 i.label.rounds ++ leBytes 8 0 ++ zeros 8 ++
        leBytes 16 i.label.uuid)
    | none => zeros 128

/-- The 32 records. -/
def deckRecords (s : State) : List Bytes := (List.range 32).map (deckRecord s)

/-- GEN of the Deck Status log is raised by one when a record has changed since `old`. -/
def noteDecks (old s : State) : State :=
  if deckRecords old = deckRecords s then s
  else { s with decks := { s.decks with statusGen := s.decks.statusGen + 1 } }

/-- Log page 0xC0 with no volume named (07 R232). -/
def deckStatusLog (s : State) : Bytes :=
  leBytes 4 s.decks.statusGen ++ leBytes 1 s.decks.decks.length ++ zeros 59 ++ (deckRecords s).flatMap id

/-! ## Evaluation of a deck -/

/-- The state that a deck may take in the device mode (02 R68): any in BOOT and in service, RESYNCING in RESTORE, FAILED in QUARANTINE, and none in
the other modes. -/
def stateAllowed (m : DevMode) (found : Nat) : Bool :=
  match m with
  | .boot | .serve | .constrained => true
  | .restore => decide (found = 6)
  | .quarantine => decide (found = 7)
  | _ => false

/-- What a deck's state makes of its ANA group (05 R148): 0 none, 1 Inaccessible, 2 Persistent Loss. -/
def anaLoss (code : Nat) (pending : Bool) : Nat := if code = 7 then (if pending then 1 else 2) else 0

/-- Take a deck to another state: its label says so (07 R223); a deck that leaves OPTIMAL disarms fault injection (15 R448). -/
def takeState (id code old : Nat) (s : State) : State :=
  let s := if code ≠ old then relabel id (fun l => { l with deckState := code }) s else s
  if old = 0 ∧ code ≠ 0 then disarmFinj 7 s else s

/-- A deck has come to the end of its redundancy (10 R277; 05 R163): event 0x4005 and the report, with event 0x6010 while its work waits for an operational
state. -/
def noteExposed (id exp : Nat) (s : State) : State :=
  let s := raiseVendorAen 0xC0 (recordEvent 0x4005 [id, exp, 0, 0] s)
  if decide (3 ≤ s.mode.ps) && !noppme s then recordEvent 0x6010 [id, exp, s.mode.ps, 0] s else s

/-- Bring EXPOSURE and DECK_STATE up to date (07 R222; 10 R277, R283): a scan still due keeps the earlier state. A change of state is a
label update; exposure that reaches m records 0x4005 with its vendor event, and 0x6010 in PS3 or PS4 (05 R163; DEDUCED, log 28). A deck
that leaves OPTIMAL disarms fault injection (15 R448). A change of its ANA state is a change of view on every controller, since each one's ANA
log lists every deck (05 R148, R149). -/
def evalDeck (id : Nat) (s : State) : State :=
  match s.deck id with
  | none => s
  | some d =>
    let exp := deckExposure s id d
    let found := if d.scanDue then d.label.deckState else deckStateCode d exp
    let code := if stateAllowed s.mode.mode found then found else d.label.deckState
    let ana := anaLoss code d.pending
    let s := takeState id code d.label.deckState (s.setDeck id { d with exposure := exp, anaSeen := ana })
    let s := if ana ≠ d.anaSeen then anaChanged s.ctlIds s else s
    if d.label.shape.m ≤ exp ∧ d.exposure < d.label.shape.m then noteExposed id exp s else s

/-- List pages of a volume whole or not at all (10 R287, R288): events 0x4030 or 0x4031, the vendor event of log 0xC9. The Bool is
whether the listing was made. Listed blocks do not count as missing, so the deck is evaluated again (07 R222). -/
def listPages (nsid : Nat) (pages : List Nat) (s : State) : Bool × State :=
  match s.vol nsid, pages with
  | some v, p :: _ =>
    let bad := pages.foldl (fun l q => addBad q l) v.bad
    if 245 < bad.length then
      (false, recordEvent 0x4031 [nsid, p, 0, 0] (updVolTable nsid (fun v => { v with overflow := true }) s))
    else
      let s := evalDeck v.deckId (updVolTable nsid (fun v => { v with bad := bad }) s)
      (true, raiseVendorAen 0xC9 (recordEvent 0x4030 [nsid, p, pages.length, 0] s))
  | _, _ => (true, s)

/-- Clear listed pages of a volume in one volume table update (10 R286). -/
def clearPages (nsid : Nat) (pages : List Nat) (s : State) : State :=
  match s.vol nsid with
  | none => s
  | some v =>
    let hit := pages.filter (isListed v)
    if hit.isEmpty then s
    else
      let s := evalDeck v.deckId (updVolTable nsid (fun v => { v with bad := hit.foldl (fun l p => clearBad p l) v.bad }) s)
      hit.foldl (fun s p => recordEvent 0x4032 [nsid, p, 0, 0] s) s

/-! ## Creating a deck (07 R205 to R210) -/

/-- The shapes of R205. `n` is the number of slots named. -/
def shapeOk (a : ShapeArgs) : Bool :=
  let n := a.slots.length
  let w := a.k + a.m
  decide (a.deckId ≤ 31) && decide (a.chunkCode ≤ 4) && decide (1 ≤ a.k) &&
  (if a.k = 1 then decide (1 ≤ a.m) && decide (a.m ≤ 2) else decide (1 ≤ a.m) && decide (a.m ≤ 3) && decide (w ≤ 32)) &&
  (match a.mode with
   | .rotate => decide (n = w) && decide (a.s = 0)
   | .shuffle => decide (16 ≤ n) && decide (n ≤ 64) && decide (a.s ≤ 8) && decide (w + a.s ≤ n))

/-- DATA_START of a native deck (07 R212). -/
def nativeDataStart : Nat := 288 * 1048576

/-- A drive is usable (12 R335): NVM Express class code, version 1.4 or later, MPSMIN 0, the NVM command set, CMIC bits 0 and 1, and a
namespace 1 with NMIC bit 0. -/
def driveUsable (i : DriveInfo) : Bool :=
  decide (i.classCode = 0x010802) && decide (0x00010400 ≤ i.version) && decide (i.mpsMin = 0) && i.nvmSet && i.cmic.testBit 0 &&
    i.cmic.testBit 1 && i.ns1 && i.nmic.testBit 0

/-- Namespace 1 suits a deck (07 R206): 4,096 data bytes and 0 or 16 of metadata, no protection information, DLFEAT with deallocated blocks
and their metadata reading as zero, Dataset Management and Write Zeroes (bit places: NVMe, PRESUMED, log 137). -/
def driveFit (i : DriveInfo) : Bool :=
  decide (i.dataBytes = 4096) && (decide (i.metaBytes = 0) || decide (i.metaBytes = 16)) && !i.piOn && decide (i.dlfeat % 8 = 1) &&
    i.oncs.testBit 2 && i.oncs.testBit 3

/-- A drive is accepted as a member (07 R206). -/
def driveOk (v : Slot) (dataStart chunk : Nat) : Bool :=
  match v.info with
  | none => false
  | some i =>
    v.portA.usable && v.portB.usable && decide (v.portA.ident = some i.nguid) && decide (v.portB.ident = some i.nguid) && driveFit i &&
    decide (dataStart + 16 * chunk + 1048576 ≤ i.cap / 1048576 * 1048576)

/-- Lowest of a list of capacities. -/
def lowest : List Nat → Nat
  | [] => 0
  | [a] => a
  | a :: b :: l => min a (lowest (b :: l))

/-- Members attach port A to at least two home regions (07 R207). -/
def twoHomes (s : State) (slots : List Nat) : Bool :=
  match slots with
  | [] => false
  | x :: xs => xs.any fun y => decide (homeRegion s.slots y ≠ homeRegion s.slots x)

/-- No deck holds a slot. -/
def slotUnused (s : State) (x : Nat) : Bool :=
  !s.decks.decks.any fun d => d.2.label.members.any (fun e => decide (e.slot = some x)) ||
    (match d.2.label.redeal with | some r => r.addSlots.contains x | none => false)

/-- The keepers of a set of members given as (member index, slot) (07 R210; 09 R268): the lowest index, and the lowest of another home
region, else the lowest other. -/
def chooseKeepers (p : Nat) (ms : List (Nat × Nat)) : Option Nat × Option Nat :=
  match ms with
  | [] => (none, none)
  | a :: rest =>
    let other := match rest.find? fun b => decide (homeRegion p b.2 ≠ homeRegion p a.2) with
      | some b => some b.1
      | none => (rest.head?).map (·.1)
    (some a.1, other)

/-- The journal ring of a member as Deck Create leaves it (07 R228, R209 step 6). HEAD_BLOCK, TAIL_BLOCK and HEAD_RSEQ of a member that is no
keeper are those of a keeper: the manual gives none (DESIGN CHOICE, log 135). -/
def newRing (mem : Nat) (keeper : Bool) : Ring :=
  { member := mem, keeper := keeper, complete := keeper, epoch := if keeper then 1 else 0, hdrSeq := 1, headBlock := 2,
    tailBlock := 2, headRseq := 1, moved := 0, recs := [] }

/-- The 4 KiB of a member journal area header (07 R228). -/
def ringHeader (d : Deck) (r : Ring) : Bytes :=
  let body := asciiBytes "WSDVJRNL" ++ leBytes 2 1 ++ leBytes 1 (if r.keeper then 1 else 0) ++ leBytes 1 (if r.complete then 1 else 0) ++
    leBytes 2 d.label.generation ++ zeros 2 ++ leBytes 16 d.label.uuid ++ leBytes 8 r.hdrSeq ++ leBytes 8 r.epoch ++
    leBytes 4 r.headBlock ++ leBytes 4 r.tailBlock ++ leBytes 8 r.headRseq ++ zeros 4028
  body ++ leBytes 4 (crc32c body).toNat

/-- Header block that a HDR_SEQ is written to: 0 and 1 in turn, 0 for an odd value (07 R209, R228). -/
def headerBlock (r : Ring) : Nat := (r.hdrSeq + 1) % 2

/-- Write a ring's header to its member, with FUA (09 R253). -/
def emitRingHeader (d : Deck) (r : Ring) (s : State) : State :=
  match memberOf d r.member with
  | some e =>
    match e.slot with
    | some x =>
      if slotReachable (s.slot x) then
        issueTo x 0x01 (.ring d.label.deckId r.member 0) 4096 (ringHeader d r)
          (emit (.journalWrite x (d.label.journalStart + headerBlock r * 4096) (ringHeader d r) (metaTag e.tagged (ringHeader d r))) s)
      else s
    | none => s
  | none => s

/-- A deck as it begins with a label. TABLE_SEQ 0 stands before its first volume table update (DESIGN CHOICE, log 127). -/
def newDeck (l : DeckLabel) : Deck :=
  { label := l, pending := false, wseq := 1, jseq := 1, tableSeq := 0, gone := [], tables := [], journal := [], intents := [], batch := [], trimJ := [],
    trimW := [], rings := (List.range l.members.length).map fun i => newRing i (decide (l.keeper0 = some i) || decide (l.keeper1 = some i)),
    updates := [], locks := [], due := [], replay := [], resync := none, copyStarted := 0, segs := [(0, 0)], curSeg := 0xFF, cursor := 0, rebuilt := [],
    replaceSlot := none, hold := false, patrol := {}, redeal := none, scanDue := false, exposure := 0, dataLost := false }

/-- The drives of a deck become its members (12 R353). -/
def claimSlots (id : Nat) (l : DeckLabel) (s : State) : State :=
  (List.range l.members.length).foldl (fun s i =>
    match (l.members[i]?).bind (·.slot) with
    | some x =>
      recordEvent 0x5003 [x, 1, id, i]
        (s.setSlot x { s.slot x with cls := .member, deckId := some id, index := some i, health := 1000, classTime := s.recTime })
    | none => s) s

/-- A 64-byte AES-256-XTS key from the root of trust (05 R147; 07 R226). -/
def drawKey (s : State) : Nat × State :=
  let a := drawFree s
  let b := drawFree a.2
  let c := drawFree b.2
  let d := drawFree c.2
  (a.1.toNat + 2 ^ 128 * b.1.toNat + 2 ^ 256 * c.1.toNat + 2 ^ 384 * d.1.toNat, d.2)

/-- Namespace 1 of a drive but for the label places (07 R209, R211, R212), as byte ranges: 8 KiB to CAP − 8 KiB, and what lies beyond CAP. -/
def restRanges (s : State) (x : Nat) : List (Nat × Nat) :=
  let cap := slotCap s x
  let all := ((s.slot x).info.map (·.cap)).getD 0
  (8192, cap - 16384) :: (if cap < all then [(cap, all - cap)] else [])

/-- Deallocate a drive's namespace 1 but for the label places (07 R209 step 4, R211; 11 R313). -/
def emitDealloc (x : Nat) (s : State) : State := deallocOn x (restRanges s x) s

/-- The empty volume table header and the two journal area headers of a new deck, on every member (07 R209 step 6). The table begins with
TABLE_SEQ 1 in copy A, and copy B is left unwritten: the manual asks for one empty header and gives no TABLE_SEQ (DESIGN CHOICE, log 127). -/
def newStructures (id : Nat) (d : Deck) (s : State) : State :=
  let s := tableStep id d.label.generation [] (s.setDeck id d)
  d.rings.foldl (fun s r => emitRingHeader d { r with hdrSeq := 0 } (emitRingHeader d r s)) s

/-- Put a new deck into place: its structures, then its labels (07 R209 step 6). An import too begins with an empty volume table header and the
journal area headers, so that its members have them before its labels name their places; R235 lists the labels and the volume alone (DESIGN
CHOICE, log 127). -/
def installDeck (id : Nat) (d : Deck) (s : State) : State :=
  noteDecks s (claimSlots id d.label (writeLabels d.label (newStructures id d s)))

/-- Nothing but a device restart or an erase is allowed of a command under way: an admin command at its commit point. -/
def adminTurn (s : State) (ref : CmdRef) : Bool := mayCommit s ref && decide (ref.sqid = 0)

/-- Status that a Sanitize in progress, or one that has failed, gives a command (05 R158, R160), 0 for none. -/
def sanitizeBar (s : State) : Nat := if s.decks.sstat = 2 then 0x1D else if s.decks.sanFailed then 0x1C else 0

/-- Status that QUARANTINE (05 R152) or a Sanitize (05 R158; the commands limited are NVMe's, PRESUMED, log 29) gives a command
that changes decks or volumes, 0 for none. -/
def changeBar (s : State) : Nat := if s.mode.mode = .quarantine then 0x0C else sanitizeBar s

/-- A delete of a volume has taken its step and has not ended (05 R145): a Namespace Management command waits for it. -/
def deleting (s : State) (nsid : Nat) : Bool :=
  s.ctls.any fun p => p.2.sqs.any fun q => decide (q.id = 0) && q.rob.any fun e =>
    decide (e.opcode = 0x0D) && e.waits && decide (e.nsid = nsid)

/-- Checks of Deck Create (07 R209 steps 1 and 2). A DECK_ID at which an importable set is reported counts as in use, and a DECK_ID in use comes before
the checks of the members, since R209 gives no order between the two statuses (DESIGN CHOICE, log 136). -/
def createStatus (a : ShapeArgs) (s : State) : Nat :=
  if shapeOk a = false then 0x02
  else if (s.deck a.deckId).isSome || s.decks.importable.any (fun i => decide (i.deckId = a.deckId)) then 0x0C
  else if !(a.slots.all fun x => decide (x < s.slots) && slotUnused s x && decide ((s.slot x).cls = .newDrive) &&
      driveOk (s.slot x) nativeDataStart (2 ^ (14 + a.chunkCode))) then 0x02
  else if !twoHomes s a.slots then 0x02
  else
    let cap := lowest (a.slots.map (slotCap s))
    let rounds := (cap - nativeDataStart - 1048576) / 2 ^ (14 + a.chunkCode)
    let u := (a.slots.length - a.s) / (a.k + a.m)
    if 2 ^ 40 ≤ rounds * u then 0x02 else 0

/-- Member table of a set of slots in order (07 R208). -/
def memberTable (s : State) (slots : List Nat) (plain : Bool) : List MemberEntry :=
  slots.map fun x => { slot := some x, mstate := .active, tagged := !plain && slotTagged s x, cap := slotCap s x, nguid := slotNguid s x }

/-- Member indexes with their slots. -/
def withIndex (slots : List Nat) : List (Nat × Nat) := (List.range slots.length).map fun i => (i, slots.getD i 0)

/-- The label of a new deck (07 R209, R210). -/
def createLabel (a : ShapeArgs) (uuid : Uuid) (s : State) : DeckLabel :=
  let cap := lowest (a.slots.map (slotCap s))
  let chunk := 2 ^ (14 + a.chunkCode)
  let ks := chooseKeepers s.slots (withIndex a.slots)
  { deckId := a.deckId,
    shape := { mode := a.mode, k := a.k, m := a.m, n := a.slots.length, s := a.s, chunkShift := 14 + a.chunkCode, seed := a.seed,
               rounds := (cap - nativeDataStart - 1048576) / chunk },
    deckState := 0, generation := 1, cleanStop := true, imported := false, failList := [], keeper0 := ks.1, keeper1 := ks.2,
    uuid := uuid, dataStart := nativeDataStart, journalStart := 32 * 1048576, voltStart := 1048576, labelSeq := 1,
    createTime := s.recTime, redeal := none, members := memberTable s a.slots false, wseqCeil := 1 + 2 ^ 24 }

/-- Zero label copies on a drive, when it can be reached (07 R209, R211): blocks of a label's place, with their tag on a tagged member (R231). -/
def zeroCopies (copies : List Nat) (x cap : Nat) (tagged : Bool) (s : State) : State :=
  if slotReachable (s.slot x) then
    copies.foldl (fun s copy => storeTo x (labelOffset copy cap) (zeros 4096) (metaTag tagged (zeros 4096)) s)
      (s.setSlot x { s.slot x with native := none, fore := none })
  else s

/-- Deck Create whose member fails (07 R209): `passes` is 0 for a failure of step 4, and one more than the label passes that step 6 had begun for
one of step 6. What was written stays but for the label copies, which are zeroed, and no deck exists. -/
def abandonCreate (id passes : Nat) (l : DeckLabel) (slots : List Nat) (s : State) : State :=
  match passes with
  | 0 => s
  | n + 1 =>
    let s1 := writePasses (labelPasses.take n) l (newStructures id (newDeck l) s)
    let s2 := slots.foldl (fun s x => zeroCopies (labelPasses.take n) x (slotCap s x) (slotTagged s x) s) s1
    { s2 with decks := s.decks }

/-- DECK_CREATE (07 R209). -/
def execDeckCreate (ref : CmdRef) (args : ShapeArgs) (memberFails : Option Nat) (s : State) : Host.Outcome State Fault Refusal :=
  if !adminTurn s ref then .next s
  else if changeBar s ≠ 0 then .next (failCmd ref (changeBar s) s)
  else if createStatus args s ≠ 0 then .next (failCmd ref (createStatus args s) s)
  else
    let (u, s1) := drawFree s
    let l := createLabel args u.toNat s1
    let s2 := args.slots.foldl (fun s x => emitDealloc x s) s1
    match memberFails with
    | some passes => .next (failCmd ref 0x04 (abandonCreate args.deckId passes l args.slots s2))
    | none => .next (commitCmd ref 0 0 (installDeck args.deckId (newDeck l) s2))

/-! ## Importing a forerunner deck (07 R233 to R235) -/

/-- The importable set can be accepted (07 R234). -/
def importOk (i : Importable) (slots : List Nat) (s : State) : Bool :=
  decide (slots.length = i.label.n) && decide (bitmapOf slots = bitmapOf i.slots) && i.label.cleanStop &&
  slots.all fun x =>
    let v := s.slot x
    decide (v.cls = .importable) && slotReachable v && (match v.fore with
      | some f => decide (f.uuid = i.label.uuid) && decide (f.labelSeq = i.label.labelSeq) && f.cleanStop
      | none => false)

/-- Slots of an importable deck in member index order. -/
def importOrder (s : State) (n : Nat) (slots : List Nat) : List Nat :=
  (List.range n).filterMap fun i => slots.find? fun x =>
    match (s.slot x).fore with
    | some f => decide (f.memberIndex = i)
    | none => false

/-- The label of an imported deck (07 R235): LABEL_SEQ follows the forerunner's (DEDUCED, log 30). -/
def importLabel (i : Importable) (slots : List Nat) (s : State) : DeckLabel :=
  let cap := lowest (slots.map (slotCap s))
  let ks := chooseKeepers s.slots (withIndex slots)
  { deckId := i.deckId,
    shape := { mode := .rotate, k := i.label.k, m := i.label.m, n := i.label.n, s := 0, chunkShift := 16, seed := 0, rounds := i.label.rounds },
    deckState := 0, generation := 1, cleanStop := true, imported := true, failList := [], keeper0 := ks.1, keeper1 := ks.2,
    uuid := i.label.uuid, dataStart := i.label.dataStart, journalStart := cap - 288 * 1048576, voltStart := cap - 512 * 1048576,
    labelSeq := i.label.labelSeq + 1, createTime := s.recTime, redeal := none, members := memberTable s slots true,
    wseqCeil := 1 + 2 ^ 24 }

/-- Lowest free NSID, 1 to 1,024. -/
def freeNsid (s : State) : Option Nat := ((List.range 1024).map (· + 1)).find? fun n => (s.vol n).isNone

/-- A volume as it begins. -/
def newVolume (nsid deckId lbaf gen nsze hands crypt key dps : Nat) (ext : List (Nat × Nat × Nat)) : Volume :=
  { nsid := nsid, deckId := deckId, lbaf := lbaf, extended := false, deckGen := gen, nsze := nsze, handsAlloc := hands, crypt := crypt, extents := ext,
    dps := dps, vstate := 1, key := key, recSeq := 0, bad := [], overflow := false, writeLock := false, attached := [],
    formatLeft := none }

/-- Every shape field but DECK_ID and the slot bitmap, and the seed, is zero (07 R234). -/
def zeroShape (a : ShapeRest) : Bool :=
  decide (a.mode = .rotate) && decide (a.k = 0) && decide (a.m = 0) && decide (a.s = 0) && decide (a.chunkCode = 0) && decide (a.seed = 0)

/-- DECK_IMPORT (07 R234, R235): the volume is attached to every NVMe controller present (DEDUCED, log 30). -/
def execDeckImport (ref : CmdRef) (deckId : Nat) (slots : List Nat) (rest : ShapeRest) (s : State) : Host.Outcome State Fault Refusal :=
  if !adminTurn s ref then .next s
  else if changeBar s ≠ 0 then .next (failCmd ref (changeBar s) s)
  else
    match s.decks.importable.find? fun i => decide (i.deckId = deckId) with
    | none => .next (failCmd ref 0x02 s)
    | some i =>
      if !(zeroShape rest && importOk i slots s) then .next (failCmd ref 0x02 s)
      else
        match freeNsid s with
        | none => .next (failCmd ref 0x116 s)
        | some nsid =>
          let l := importLabel i (importOrder s i.label.n slots) s
          let s1 := installDeck deckId (newDeck l)
            { s with decks := { s.decks with importable := s.decks.importable.filter fun j => !decide (j.deckId = deckId) } }
          let v := { newVolume nsid deckId 2 1 (i.label.rounds * i.label.k * 16) i.label.rounds 0 0 0 [(0, 0, i.label.rounds)] with
            attached := s1.ctlIds }
          let s2 := tableUpdate deckId [nsid] (s1.setVol nsid v)
          .next (commitCmd ref 0 0 (namespaceChanged nsid s.ctlIds (noteDecks s s2)))

/-! ## Destroying a deck (07 R211) -/

/-- Class code. -/
def classCode (c : DriveClass) : Nat :=
  match c with
  | .empty => 0
  | .member => 1
  | .newDrive => 2
  | .returning => 3
  | .foreign => 4
  | .importable => 5
  | .unusable => 6

/-- Free a slot whose drive has been wiped of labels: the drive is NEW (12 R353). -/
def releaseSlot (x : Nat) (s : State) : State :=
  let v := s.slot x
  if v.present then
    recordEvent 0x5003 [x, 2, 0xFF, 0xFF]
      (s.setSlot x { v with cls := .newDrive, deckId := none, index := none, native := none, fore := none, classTime := s.recTime })
  else s.setSlot x { v with deckId := none, index := none }

/-- Zero every label copy on a reachable drive (07 R211; 11 R327; 12 R361). -/
def zeroLabels (x cap : Nat) (tagged : Bool) (s : State) : State := zeroCopies labelPasses x cap tagged s

/-- Free a slot whose drive cannot be reached and keeps its labels (07 R211): a drive that is there is FOREIGN, and the slot's commands and
ladder stand. -/
def leaveSlot (x : Nat) (s : State) : State :=
  let v := s.slot x
  let c := if !v.present then DriveClass.empty else if v.native.isSome then .foreign else .newDrive
  recordEvent 0x5003 [x, classCode c, 0xFF, 0xFF]
    (s.setSlot x { v with cls := c, deckId := none, index := none, pendingAt := none, removed := false, failDue := false, classTime := s.recTime })

/-- A destroyed deck's record leaves log 0xC8: its STATUS becomes none (11 R331). -/
def dropRedealLog (id : Nat) (s : State) : State :=
  match tblFind s.decks.redealLog id with
  | none => s
  | some _ => raiseVendorAen 0xC8 { s with decks := { s.decks with
      redealGen := s.decks.redealGen + 1, redealLog := tblDel s.decks.redealLog id } }

/-- DECK_DESTROY (07 R211). -/
def execDeckDestroy (ref : CmdRef) (deckId : Nat) (s : State) : Host.Outcome State Fault Refusal :=
  if !adminTurn s ref then .next s
  else if changeBar s ≠ 0 then .next (failCmd ref (changeBar s) s)
  else
    match s.deck deckId with
    | none => .next (failCmd ref 0x02 s)
    | some d =>
      if !(volumesOf s deckId).isEmpty || d.label.redeal.isSome then .next (failCmd ref 0x0C s)
      else
        let s1 := d.label.members.foldl (fun s e =>
          match e.slot with
          | some x => if slotReachable (s.slot x) then releaseSlot x (emitDealloc x (zeroLabels x e.cap e.tagged s)) else leaveSlot x s
          | none => s) s
        let s2 := dropRedealLog deckId { s1 with decks := { s1.decks with decks := tblDel s1.decks.decks deckId } }
        .next (commitCmd ref 0 0 (noteDecks s s2))

end Sys2Proof.Machine
end

