-- ==== Sys2Proof/Machine/Drives.lean ====
section
/-!
DEFINITION. Member drives as the other units see them: the health score, and the records of the Member Status log (12 R359, R362).
-/

namespace Sys2Proof.Machine

/-! ## Health (12 R359, R360) -/

/-- Charge a drive: the score falls, and a drive that falls to 600 or below is reported (12 R360). Whether the score makes the
controller declare a member failed is judged by `settleHealth`. -/
def charge (x n : Nat) (s : State) : State :=
  let v := s.slot x
  let h := v.health - n
  let s := s.setSlot x { v with health := h, failDue := v.failDue || (decide (h ≤ 250) && decide (v.cls = .member)) }
  if h ≤ 600 ∧ 600 < v.health then raiseVendorAen 0xC1 (recordEvent 0x5032 [x, h, 0, 0] s) else s

/-- A read media error of a block on a slot (12 R359, R362). -/
def chargeMedia (x : Nat) (s : State) : State := charge x 10 (updSlot x (fun v => { v with mediaErr := v.mediaErr + 1 }) s)

/-- A chunk tag failure of a block on a slot (12 R359, R362). -/
def chargeTag (x : Nat) (s : State) : State := charge x 25 (updSlot x (fun v => { v with tagFail := v.tagFail + 1 }) s)

/-! ## Member Status log (12 R362) -/

/-- MSTATE code of a slot's member index, 0xFF for a drive that is no member. -/
def slotMstate (s : State) (v : Slot) : Nat :=
  match v.deckId, v.index with
  | some d, some i =>
    match (s.deck d).bind fun d => memberOf d i with
    | some e => match e.mstate with | .active => 0 | .failed => 1 | .replacing => 2 | .absent => 3
    | none => 0xFF
  | _, _ => 0xFF

/-- The slot is an added drive of an active redeal (11 R317). -/
def isAdded (s : State) (x : Nat) : Bool :=
  s.decks.decks.any fun d => match d.2.label.redeal with | some r => r.addSlots.contains x | none => false

/-- Speed code of a port. -/
def speedCode (gt : Nat) : Nat :=
  if gt = 0 then 0 else if gt < 5 then 1 else if gt < 8 then 2 else if gt < 16 then 3 else if gt < 32 then 4 else if gt < 64 then 5 else 6

/-- PORT_A and PORT_B fields. -/
def portField (p : MPort) : Nat :=
  (if p.usable then 1 else 0) + (if p.contained then 2 else 0) + (if p.failed then 4 else 0) + (if p.reduced then 8 else 0) +
  speedCode p.speed * 256 + (p.width % 16) * 4096

/-- Failed-pending (12 R347). -/
def isPending (v : Slot) : Bool := v.pendingAt.isSome

/-- Ladder step in progress on a port: step 1 while a command that it reissued there is outstanding (R357, R362). -/
def ladderShown (p : MPort) : Nat :=
  if p.ladder ≠ 0 then p.ladder
  else if p.tags.any fun t => decide (t.step = 1) && decide (t.state = .outstanding) then 1 else 0

/-- State fields of a record: bytes 0 to 11. -/
def slotState (s : State) (x : Nat) : Bytes :=
  let v := s.slot x
  leBytes 1 x ++ leBytes 1 (classCode v.cls) ++ leBytes 1 (v.deckId.getD 0xFF) ++ leBytes 1 (v.index.getD 0xFF) ++
  leBytes 1 (slotMstate s v) ++
  leBytes 1 ((if v.present then 1 else 0) + (if v.power then 2 else 0) + (if isPending v then 4 else 0) + (if isAdded s x then 8 else 0)) ++
  leBytes 1 (ladderShown v.portA) ++ leBytes 1 (ladderShown v.portB) ++ leBytes 2 (portField v.portA) ++ leBytes 2 (portField v.portB)

/-- Record of a slot. -/
def slotRecord (s : State) (x : Nat) : Bytes :=
  if s.slots ≤ x then zeros 128
  else
    let v := s.slot x
    fitBytes 128 (slotState s x ++ leBytes 2 v.health ++ leBytes 2 v.temp ++ leBytes 16 (slotNguid s x) ++ leBytes 8 (slotCap s x) ++
      leBytes 8 ((v.info.map fun i => i.fwRev.toNat).getD 0) ++ leBytes 4 v.timeouts ++ leBytes 4 v.late ++ leBytes 4 v.mediaErr ++
      leBytes 4 v.tagFail ++ leBytes 4 v.contain ++ leBytes 4 v.retries ++ leBytes 4 v.ctrlResets ++ leBytes 4 v.busResets ++
      leBytes 4 v.powerCycles ++ leBytes 4 v.violations ++
      leBytes 2 ((slotTags v).filter fun t => decide (t.state = .withheld)).length ++ leBytes 1 v.critWarn.toNat ++ zeros 5 ++
      leBytes 8 v.classTime.toNat)

/-- GEN of the Member Status log is raised by one when a state field of a record has changed since `old` (12 R362; which fields are
state fields is DEDUCED, log 31). -/
def noteSlots (old s : State) : State :=
  if (List.range s.slots).map (slotState old) = (List.range s.slots).map (slotState s) then s
  else { s with members := { s.members with gen := s.members.gen + 1 } }

/-- Log page 0xC1 (12 R362). -/
def memberLog (s : State) : Bytes :=
  let present := (List.range s.slots).filter fun x => (s.slot x).present
  let members := (List.range s.slots).filter fun x => decide ((s.slot x).cls = .member)
  leBytes 4 s.members.gen ++ leBytes 1 s.slots ++ leBytes 1 present.length ++ leBytes 1 members.length ++ zeros 57 ++
    (List.range 64).flatMap (slotRecord s)

/-- End of a command that can change decks and slots. -/
def noteAll (old s : State) : State := noteSlots old (noteDecks old s)

end Sys2Proof.Machine
end

