-- ==== Sys2Proof/Machine/Journal.lean ====
section
/-!
DEFINITION. The stripe journal: records and their bytes, the keepers' rings, trims, keepers and fresh replicas (07 R228, R229; 09 R259
to R270).
-/

namespace Sys2Proof.Machine

/-! ## Record formats (09 R261 to R264) -/

/-- TYPE of a record. -/
def recType : JBody → Nat
  | .intent _ => 1
  | .data _ _ _ _ _ => 2
  | .trim _ _ => 3
  | .progress _ => 4
  | .replicaEnd => 5

/-- KIND of a hand update. -/
def kindCode : UpdKind → Nat
  | .full => 1
  | .rmw => 2
  | .rcw => 3

/-- The 64 bytes of an intent entry (09 R262). -/
def intentBytes (i : Intent) : Bytes :=
  leBytes 8 i.wseq ++ leBytes 5 i.hand ++ leBytes 1 (kindCode i.kind) ++ leBytes 1 i.blkFirst ++ leBytes 1 i.blkLast ++ leBytes 4 i.dmask ++
  leBytes 1 i.pmask ++ leBytes 1 ((if i.degraded then 1 else 0) + (if i.dataJ then 2 else 0)) ++ zeros 2 ++ leBytes 4 i.mmask ++ zeros 4 ++
  leBytes 8 i.reconJseq ++ zeros 24

/-- The 32-byte PATROL body (10 R304). -/
def patrolBytes (cursor passCount flags : Nat) (start : BitVec 64) (findings : Nat) : Bytes :=
  leBytes 8 cursor ++ leBytes 4 passCount ++ leBytes 1 flags ++ zeros 3 ++ leBytes 8 start.toNat ++ leBytes 8 findings

/-- A PATROL body read back (10 R304). SKIPPED shows the deck's state and is not kept. -/
def readPatrol (b : Bytes) : Patrol :=
  let flags := leNat (sliceBytes b 12 1)
  { cursor := leNat (sliceBytes b 0 8), passCount := leNat (sliceBytes b 8 4), running := flags.testBit 3, paused := flags.testBit 0,
    repairOff := flags.testBit 1, passStart := BitVec.ofNat 64 (leNat (sliceBytes b 16 8)), findings := leNat (sliceBytes b 24 8) }

/-- OP of a PROGRESS record. -/
def progressOp : Progress → Nat
  | .rebuild _ _ _ _ => 1
  | .copyback _ _ _ _ => 2
  | .redeal _ _ _ _ _ => 3
  | .resync _ _ => 4
  | .patrol _ _ _ _ _ => 5

/-- Body of a PROGRESS record (09 R264; 10 R292, R299, R304; 11 R330). -/
def progressBody : Progress → Bytes
  | .rebuild seq segs cur cursor =>
    leBytes 8 seq ++ leBytes 1 segs.length ++ leBytes 1 cur ++ zeros 6 ++ leBytes 8 cursor ++
      segs.flatMap fun g => leBytes 8 g.1 ++ leBytes 2 g.2 ++ zeros 6
  | .copyback mem slot wm started => leBytes 1 mem ++ leBytes 1 slot ++ zeros 6 ++ leBytes 8 wm ++ leBytes 8 started.toNat
  | .redeal phase nsid vhand done started =>
    leBytes 1 phase ++ zeros 3 ++ leBytes 4 nsid ++ leBytes 8 vhand ++ leBytes 8 done ++ leBytes 8 started.toNat
  | .resync wm started => leBytes 8 wm ++ leBytes 8 started.toNat
  | .patrol c n f st k => patrolBytes c n f st k

/-- Descriptor and data of a page of a DATA record (09 R263). -/
def jpageBytes (p : JPage) : Bytes :=
  leBytes 5 p.vpage ++ leBytes 1 p.valid.toNat ++ leBytes 1 p.zero.toNat ++ leBytes 1 p.poison.toNat ++ zeros 8 ++ fitBytes 4096 p.data

/-- Pages that one part of a DATA record holds: a payload of at most 2,080,736 bytes (09 R263). -/
def partPages : Nat := (2080736 - 16) / 4112

/-- Payload of a record, a DATA record as one part from page `first`. -/
def payloadBytes (pages : List JPage) (first total : Nat) : JBody → Bytes
  | .intent es => es.flatMap intentBytes
  | .data cntlid sqid nsid _ _ =>
    leBytes 2 cntlid ++ leBytes 2 sqid ++ leBytes 4 nsid ++ leBytes 2 total ++ leBytes 2 first ++ zeros 4 ++ pages.flatMap jpageBytes
  | .trim _ vs => vs.flatMap (leBytes 8)
  | .progress p => leBytes 1 (progressOp p) ++ zeros 1 ++ leBytes 2 (progressBody p).length ++ zeros 12 ++ progressBody p
  | .replicaEnd => []

/-- Blocks of a payload: r blocks hold r × 4,064 − 32 bytes. -/
def payloadBlocks (n : Nat) : Nat := max 1 (ceilDiv (n + 32) 4064)

/-- Blocks of a record (09 R261, R263). -/
def recBlocks : JBody → Nat
  | .data _ _ _ _ pages =>
    if pages.length ≤ partPages then payloadBlocks (16 + 4112 * pages.length)
    else payloadBlocks (16 + 4112 * partPages) + payloadBlocks (16 + 4112 * (pages.length - partPages))
  | .progress p => payloadBlocks (16 + (progressBody p).length)
  | _ => 1

/-- COUNT of a record part. -/
def recCount (pages : List JPage) : JBody → Nat
  | .intent es => es.length
  | .data _ _ _ _ _ => pages.length
  | .trim _ vs => vs.length
  | .progress _ => 1
  | .replicaEnd => 0

/-- The bytes of one part of a record: header and payload (09 R261). -/
def recPart (deckId part : Nat) (last : Bool) (first : Nat) (pages : List JPage) (r : JRec) : Bytes :=
  let total := match r.body with | .data _ _ _ _ ps => ps.length | _ => 0
  let flags := match r.body with
    | .data _ _ _ recon _ => (if last then 1 else 0) + (if recon then 2 else 0)
    | .trim e _ => if e then 1 else 0
    | _ => 0
  let pay := payloadBytes pages first total r.body
  leBytes 1 (recType r.body) ++ leBytes 1 flags ++ leBytes 2 (recCount pages r.body) ++ leBytes 4 pay.length ++ leBytes 8 r.jseq ++
    leBytes 2 r.gen ++ leBytes 1 deckId ++ leBytes 1 part ++ zeros 12 ++ pay

/-- The parts of a record. -/
def recParts (deckId : Nat) (r : JRec) : List Bytes :=
  match r.body with
  | .data _ _ _ _ ps =>
    if ps.length ≤ partPages then [recPart deckId 0 true 0 ps r]
    else [recPart deckId 0 false 0 (ps.take partPages) r, recPart deckId 1 true partPages (ps.drop partPages) r]
  | _ => [recPart deckId 0 true 0 [] r]

/-- The ring blocks of one part, as (block number, bytes): each with the header of R229. -/
def ringBlocks (epoch : Nat) : Nat → Nat → Nat → Bool → Bytes → List (Nat × Bytes)
  | 0, _, _, _, _ => []
  | n + 1, blk, rseq, first, bs =>
    let total := if first then n + 1 else 0
    let head := asciiBytes "JBLK" ++ leBytes 2 total ++ zeros 2 ++ leBytes 8 rseq ++ leBytes 8 epoch ++ zeros 4
    let body := fitBytes 4064 bs
    (blk, head ++ leBytes 4 (crc32c (head ++ body)).toNat ++ body) ::
      ringBlocks epoch n (if blk = 65535 then 2 else blk + 1) (rseq + 1) false (bs.drop 4064)

/-! ## Rings (07 R228; 09 R266, R267) -/

/-- The block that lies `n` blocks after a ring block. -/
def ringAfter (blk n : Nat) : Nat := 2 + (blk - 2 + n) % 65534

/-- A record is live for a ring until a TRIM record has named it, or a newer PROGRESS record has replaced it (09 R264, R272). TRIM and
REPLICA_END records themselves hold nothing to keep. -/
def recKept (d : Deck) (r : JRec) : Bool := d.journal.any (fun j => decide (j.jseq = r.jseq)) || d.trimJ.contains r.jseq

/-- Move the head past records that are no longer live. -/
def advanceHead (d : Deck) : List JRec → Ring → Ring
  | [], g => { g with recs := [] }
  | r :: rs, g =>
    if recKept d r then { g with recs := r :: rs }
    else advanceHead d rs { g with
      headBlock := ringAfter g.headBlock r.blocks, headRseq := g.headRseq + r.blocks, moved := g.moved + r.blocks }

/-- Write the header when the head has moved 1,024 blocks (09 R266). -/
def headerIfMoved (d : Deck) (g : Ring) (s : State) : Ring × State :=
  if 1024 ≤ g.moved then
    let g := { g with hdrSeq := g.hdrSeq + 1, moved := 0 }
    (g, emitRingHeader d g s)
  else (g, s)

/-- Write the blocks of a record to a keeper's ring, with FUA (09 R253), and move its tail. -/
def pushRing1 (id : Nat) (d : Deck) (g : Ring) (r : JRec) (s : State) : Ring × State :=
  let rseq := g.headRseq + ringUsed g
  let parts := recParts id r
  let blocks := (parts.foldl (fun (acc : List (Nat × Bytes) × Nat) p =>
    let n := payloadBlocks (p.length - 32)
    (acc.1 ++ ringBlocks g.epoch n (ringAfter g.tailBlock acc.2) (rseq + acc.2) true p, acc.2 + n)) ([], 0)).1
  let g' := { g with tailBlock := ringAfter g.tailBlock r.blocks, recs := g.recs ++ [r] }
  match memberOf d g.member with
  | none => (g', s)
  | some e =>
    match e.slot with
    | none => (g', s)
    | some x =>
      let s := blocks.foldl (fun s b => emit (.journalWrite x (d.label.journalStart + b.1 * 4096) b.2 (metaTag e.tagged b.2)) s) s
      let s := issueTo x 0x01 (.ring id g.member r.jseq) (r.blocks * 4096) (blocks.flatMap (·.2)) s
      if ringFree g' < 2048 ∧ 2048 ≤ ringFree g then (g', recordEvent 0x3022 [id, g.member, ringFree g', 0] s) else (g', s)

/-- Replace a ring of a deck. -/
def putRing (g : Ring) (d : Deck) : Deck := { d with rings := d.rings.map fun r => if r.member = g.member then g else r }

/-- Write a record to every current keeper. -/
def pushKeepers (id : Nat) (r : JRec) (s : State) : State :=
  match s.deck id with
  | none => s
  | some d =>
    (d.rings.filter (·.keeper)).foldl (fun s g =>
      match s.deck id with
      | none => s
      | some d =>
        let (g, s) := pushRing1 id d g r s
        s.setDeck id (putRing g d)) s

/-- Move every keeper's head. -/
def advanceHeads (id : Nat) (s : State) : State :=
  match s.deck id with
  | none => s
  | some d =>
    d.rings.foldl (fun s g =>
      match s.deck id with
      | none => s
      | some d =>
        if g.keeper then
          let (g, s) := headerIfMoved d (advanceHead d g.recs { g with recs := [] }) s
          s.setDeck id (putRing g d)
        else s) s

/-- A record is durable (09 R260): it is in the cache copies, and each current keeper's ring holds it and has completed its write. With no current
keeper nothing is waited for. -/
def recDurable (s : State) (id : Nat) (d : Deck) (jseq : Nat) : Bool :=
  (d.rings.filter (·.keeper)).all fun g => (g.recs.any fun r => decide (r.jseq = jseq)) && !anyTag (ringOpen id g.member jseq) s

/-- Two bodies are PROGRESS records of one operation. -/
def sameProgress (a b : JBody) : Bool :=
  match a, b with
  | .progress p, .progress q => decide (progressOp p = progressOp q)
  | _, _ => false

/-- Make a record (09 R259 to R264): it takes the next JSEQ, joins the authoritative journal when it is one that stays live, replaces
an older PROGRESS record of its operation, and is written to the keepers, CLEAN_STOP cleared before (07 R225). -/
def appendGen (id gen : Nat) (body : JBody) (keep : Bool) (s : State) : Nat × State :=
  let s := clearCleanStop id s
  match s.deck id with
  | none => (0, s)
  | some d =>
    let r : JRec := { jseq := d.jseq, gen := gen, body := body, blocks := recBlocks body }
    let old := d.journal.filter fun j => !sameProgress j.body body
    let s := s.setDeck id { d with jseq := d.jseq + 1, journal := if keep then old ++ [r] else d.journal }
    (r.jseq, advanceHeads id (pushKeepers id r s))

/-- A record of the deck's generation. -/
def appendRec (id : Nat) (body : JBody) (keep : Bool) (s : State) : Nat × State :=
  appendGen id (((s.deck id).map fun d => d.label.generation).getD 0) body keep s

/-- NEW_GEN of a deck's redeal, else its generation. -/
def intentGen (d : Deck) (newGen : Bool) : Nat :=
  if newGen then (d.label.redeal.map (·.newGen)).getD d.label.generation else d.label.generation

/-- A PROGRESS record. -/
def progressRec (id : Nat) (p : Progress) (s : State) : State := (appendRec id (.progress p) true s).2

/-! ## Intents and trims (09 R261, R264) -/

/-- One INTENT record of the open batch's entries of one generation (09 R261; 11 R321). -/
def closeBatchOf (id : Nat) (newGen : Bool) (s : State) : State :=
  match s.deck id with
  | none => s
  | some d =>
    let es := d.intents.filter fun i => d.batch.contains i.wseq && decide (i.newGen = newGen)
    if es.isEmpty then s
    else
      let (j, s) := appendGen id (intentGen d newGen) (.intent es) true s
      let ws := es.map (·.wseq)
      updDeck id (fun d => { d with
        batch := d.batch.filter (fun w => !ws.contains w),
        intents := d.intents.map fun i => if ws.contains i.wseq then { i with jseq := some j } else i }) s

/-- Close the open batch of intents (09 R261). -/
def closeBatch (id : Nat) (s : State) : State := closeBatchOf id true (closeBatchOf id false s)

/-- The write of a TRIM record to some current keeper has not completed (09 R260). -/
def trimOpen (s : State) (id : Nat) (d : Deck) (t : Nat × List Nat) : Bool :=
  (d.rings.filter (·.keeper)).any fun g => anyTag (ringOpen id g.member t.1) s

/-- Close a TRIM batch: one TRIM record of at most 504 values (09 R264). -/
def closeTrim (id : Nat) (entries : Bool) (s : State) : State :=
  match s.deck id with
  | none => s
  | some d =>
    let vs := (if entries then d.trimW else d.trimJ).take 504
    if vs.isEmpty then s
    else
      let s := if entries then s.setDeck id { d with trimW := d.trimW.drop 504 } else s.setDeck id { d with trimJ := d.trimJ.drop 504 }
      let (n, s) := appendRec id (.trim entries vs) false s
      if entries then s else updDeck id (fun d => { d with trims := d.trims.filter (trimOpen s id d) ++ [(n, vs)] }) s

/-- A record is no longer live: it leaves the authoritative journal and waits to be named (09 R264). -/
def releaseRec (id jseq : Nat) (s : State) : State :=
  match s.deck id with
  | none => s
  | some d =>
    if d.journal.any fun r => decide (r.jseq = jseq) then
      let s := s.setDeck id { d with journal := d.journal.filter (fun r => !decide (r.jseq = jseq)), trimJ := d.trimJ ++ [jseq] }
      if 504 ≤ d.trimJ.length + 1 then closeTrim id false s else s
    else s

/-- Release an intent entry: its WSEQ waits to be named; with its last entry the INTENT record is no longer live (09 R264, R265). -/
def releaseIntent (id wseq : Nat) (s : State) : State :=
  match s.deck id with
  | none => s
  | some d =>
    match d.intents.find? fun i => decide (i.wseq = wseq) with
    | none => s
    | some i =>
      let rest := d.intents.filter fun j => !decide (j.wseq = wseq)
      let s := s.setDeck id { d with intents := rest, batch := d.batch.erase wseq, trimW := if i.jseq.isSome then d.trimW ++ [wseq] else d.trimW }
      let s := if i.jseq.isSome && decide (504 ≤ d.trimW.length + 1) then closeTrim id true s else s
      match i.jseq with
      | some j => if rest.any fun x => decide (x.jseq = some j) then s else releaseRec id j s
      | none => s

/-- INTENT_BATCH_CLOSE (09 R261): 5 µs after the batch's first entry. -/
def execIntentBatchClose (deck : Nat) (s : State) : Host.Outcome State Fault Refusal := .next (closeBatch deck s)

/-- TRIM_BATCH_CLOSE (09 R264). -/
def execTrimBatchClose (deck : Nat) (entries : Bool) (s : State) : Host.Outcome State Fault Refusal := .next (closeTrim deck entries s)

/-- KEEPER_HEADER_WRITE (09 R266): 100 ms after a move of a head. -/
def execKeeperHeaderWrite (deck : Nat) (s : State) : Host.Outcome State Fault Refusal :=
  let due := ((s.deck deck).map fun d => d.rings.any fun g => g.keeper && decide (0 < g.moved)).getD false
  let s := if due then clearCleanStop deck s else s
  match s.deck deck with
  | none => .next s
  | some d =>
    .next (d.rings.foldl (fun s g =>
      match s.deck deck with
      | none => s
      | some d =>
        if g.keeper && decide (0 < g.moved) then
          let g := { g with hdrSeq := g.hdrSeq + 1, moved := 0 }
          emitRingHeader d g (s.setDeck deck (putRing g d))
        else s) s)

/-! ## Keepers (09 R268, R269) -/

/-- ACTIVE members as (index, slot). -/
def activeMembers (d : Deck) : List (Nat × Nat) :=
  (List.range d.label.members.length).filterMap fun i =>
    match d.label.members[i]? with
    | some e => if e.mstate = .active then e.slot.map fun x => (i, x) else none
    | none => none

/-- Current keepers: members whose ring has ROLE 0x01. -/
def keepersOf (d : Deck) : List Nat := (d.rings.filter (·.keeper)).map (·.member)

/-- Home region of a member index. -/
def memberHome (s : State) (d : Deck) (mem : Nat) : Option Nat := (slotOfMember d mem).map (homeRegion s.slots)

/-- The new keeper beside a survivor: any ACTIVE member but the survivor (09 R268). -/
def nextKeeper (s : State) (d : Deck) (survivor : Option Nat) : Option Nat :=
  let cand := (activeMembers d).filter fun a => decide (some a.1 ≠ survivor)
  match survivor with
  | none => (cand.head?).map (·.1)
  | some v =>
    match cand.find? fun a => decide (some (homeRegion s.slots a.2) ≠ memberHome s d v) with
    | some a => some a.1
    | none => (cand.head?).map (·.1)

/-- A record whose command or hand update waits for it to be durable (09 R269, R276): it has entries that are not, or pages that no command has committed. -/
def recWaits (d : Deck) (r : JRec) : Bool :=
  match r.body with
  | .intent _ => d.intents.any fun i => decide (i.jseq = some r.jseq) && !i.durable
  | .data _ _ _ _ ps => ps.any fun p => decide (p.ver = 0)
  | _ => false

/-- Step 1 of a fresh replica (09 R269), and the records that wait to be durable on it (R276); the older ones follow in step 2. -/
def beginReplica (id mem : Nat) (s : State) : State :=
  let s := clearCleanStop id s
  match s.deck id with
  | none => s
  | some d =>
    let g := (d.rings.find? fun r => decide (r.member = mem)).getD (newRing mem false)
    let g := { g with keeper := true, complete := false, epoch := g.epoch + 1, hdrSeq := g.hdrSeq + 1, headBlock := 2, tailBlock := 2,
                      headRseq := g.headRseq + ringUsed g, moved := 0, recs := [] }
    let rings := if d.rings.any fun r => decide (r.member = mem) then (putRing g d).rings else d.rings ++ [g]
    let s := emitRingHeader d g (s.setDeck id { d with rings := rings })
    let (g, s) := (d.journal.filter (recWaits d)).foldl (fun acc r => pushRing1 id d acc.1 r acc.2) (g, s)
    updDeck id (putRing g) s

/-- A ring is no keeper's any more: its header is written with ROLE 0x00 where the member can be reached (09 R266, R269). -/
def demoteRing (id mem : Nat) (s : State) : State :=
  let s := clearCleanStop id s
  match s.deck id with
  | none => s
  | some d =>
    match d.rings.find? fun r => decide (r.member = mem) with
    | none => s
    | some g =>
      let away := !((memberOf d mem).bind (·.slot)).any fun x => slotReachable (s.slot x)
      let g := { g with keeper := false, complete := false, hdrSeq := if away then g.hdrSeq else g.hdrSeq + 1, headerDue := away }
      emitRingHeader d g (s.setDeck id (putRing g d))

/-- Rings whose header with ROLE 0x00 waits for their member are written once it can be reached (09 R266, R269). -/
def payHeaders (id : Nat) (s : State) : State :=
  match s.deck id with
  | none => s
  | some d =>
    (d.rings.filter fun g => g.headerDue && ((memberOf d g.member).bind (·.slot)).any fun x => slotReachable (s.slot x)).foldl
      (fun s g => demoteRing id g.member s) s

/-- Keepers are the members that the label names (09 R266, R271): a ring of another member is no keeper's, and its header with ROLE 0x00 is due. -/
def nameKeepers (id : Nat) (s : State) : State :=
  updDeck id (fun d =>
    let named := d.label.keeper0.toList ++ d.label.keeper1.toList
    let rings := d.rings.map fun g =>
      if named.contains g.member then { g with keeper := true }
      else { g with keeper := false, complete := false, headerDue := g.headerDue || g.keeper }
    let new := (named.filter fun m => !d.rings.any fun g => decide (g.member = m)).map fun m => { newRing m true with complete := false }
    { d with rings := rings ++ new }) s

/-- Drop a keeper and replace it at once (09 R268), which is a takeover (17 R491). With no other ACTIVE member the label records 0xFF. -/
def dropKeeper (id mem : Nat) (s : State) : State :=
  match s.deck id with
  | none => s
  | some d =>
    if !(keepersOf d).contains mem then s
    else
      let s := demoteRing id mem s
      let s := dropTags (fun t => decide (t.state = .waiting) && (match t.work with | .ring i m _ => decide (i = id) && decide (m = mem) | _ => false)) s
      match nextKeeper s d (((keepersOf d).filter fun k => !decide (k = mem)).head?) with
      | some n =>
        let unit := 32 * ((memberHome s d mem).getD 0 + 1) + 0x11
        evalDeck id (beginReplica id n (takeover unit 2 50 0x3020 (recordEvent 0x3020 [id, mem, n, 0] s)))
      | none =>
        let s := recordEvent 0x3020 [id, mem, 0xFF, 0] s
        evalDeck id (relabel id (fun l =>
          { l with keeper0 := if l.keeper0 = some mem then none else l.keeper0, keeper1 := if l.keeper1 = some mem then none else l.keeper1 }) s)

/-- Two keepers on one home region, or a single keeper: begin a replica on an ACTIVE member that mends it (09 R268). -/
def improveKeepers (id : Nat) (s : State) : State :=
  match s.deck id with
  | none => s
  | some d =>
    match keepersOf d with
    | [a] =>
      match nextKeeper s d (some a) with
      | some n => evalDeck id (beginReplica id n (recordEvent 0x3020 [id, 0xFF, n, 0] s))
      | none => s
    | [a, b] =>
      if memberHome s d a = memberHome s d b then
        match (activeMembers d).find? fun m => decide (m.1 ≠ a) && decide (m.1 ≠ b) &&
            decide (some (homeRegion s.slots m.2) ≠ memberHome s d a) with
        | some n => evalDeck id (beginReplica id n.1 s)
        | none => s
      else s
    | _ => s

/-- A third keeper has its replica: of the two on one home region, the one with the higher index goes (09 R268). -/
def retireKeeper (id new : Nat) (s : State) : State :=
  match s.deck id with
  | none => s
  | some d =>
    match (keepersOf d).filter fun k => decide (k ≠ new) with
    | [a, b] =>
      let old := max a b
      demoteRing id old (recordEvent 0x3020 [id, old, new, 0] s)
    | _ => s

/-- REPLICA_COMPLETE (09 R269 steps 2 to 5): every live record that the ring lacks is written in rising JSEQ, then REPLICA_END; the
header shows REPLICA_COMPLETE, and a label update records the keeper. -/
def execReplicaComplete (deck member : Nat) (s : State) : Host.Outcome State Fault Refusal :=
  match s.deck deck with
  | none => .next s
  | some d =>
    match d.rings.find? fun r => decide (r.member = member) with
    | none => .next s
    | some g =>
      if !g.keeper || g.complete then .next s
      else
        let s := clearCleanStop deck s
        let d := (s.deck deck).getD d
        let todo := d.journal.filter fun r => !g.recs.any fun q => decide (q.jseq = r.jseq)
        let (g, s1) := todo.foldl (fun (acc : Ring × State) r => pushRing1 deck d acc.1 r acc.2) (g, s)
        let mark : JRec := { jseq := d.jseq, gen := d.label.generation, body := .replicaEnd, blocks := 1 }
        let (g, s1) := pushRing1 deck d g mark s1
        let g := { g with complete := true, hdrSeq := g.hdrSeq + 1 }
        let d := putRing g { d with jseq := d.jseq + 1 }
        let s2 := emitRingHeader d g (s1.setDeck deck d)
        let s3 := recordEvent 0x3021 [deck, member, g.epoch, 0] (retireKeeper deck member s2)
        let ks := ((s3.deck deck).map keepersOf).getD []
        let s4 := relabel deck (fun l =>
          if l.keeper0 = some member ∨ l.keeper1 = some member then l
          else if (l.keeper0.map ks.contains).getD false then { l with keeper1 := some member }
          else { l with keeper0 := some member }) s3
        .next (noteDecks s (evalDeck deck s4))

/-- Begin the ring of a member again, its blocks overwritten with zeros: the header, and for a keeper every live record (05 R158). -/
def rewriteRing (id : Nat) (g : Ring) (s : State) : State :=
  match s.deck id with
  | none => s
  | some d =>
    match (memberOf d g.member).bind (·.slot) with
    | none => s
    | some x =>
      if !slotReachable (s.slot x) then s
      else
        let g := { g with
          hdrSeq := g.hdrSeq + 1, epoch := if g.keeper then g.epoch + 1 else g.epoch, headBlock := 2, tailBlock := 2
          headRseq := g.headRseq + ringUsed g, moved := 0, recs := [], headerDue := false }
        let s := emitRingHeader d g (emit (.memberFill x (d.label.journalStart + 8192) (65534 * 4096) 0) s)
        let (g, s) := if g.keeper then d.journal.foldl (fun acc r => pushRing1 id d acc.1 r acc.2) (g, s) else (g, s)
        updDeck id (putRing g) s

/-- What a Format or a Sanitize has still to do on members that can be reached now (05 R157, R158). -/
def payDue (id : Nat) (s : State) : State :=
  match s.deck id with
  | none => s
  | some d =>
    let here := fun (w : DueWipe) => ((memberOf d w.member).bind (·.slot)).any fun x => slotReachable (s.slot x)
    let now := d.due.filter here
    if now.isEmpty then s
    else
      now.foldl (fun s w =>
        let x := ((memberOf d w.member).bind (·.slot)).getD 0
        let s := deallocOn x w.dealloc (w.fill.foldl (fun s r => emit (.memberFill x r.1 r.2 0) s) s)
        if !w.rewrite then s
        else
          let s := updDeck id (fun d => { d with tables := d.tables.filter fun t => !decide (t.1 = w.member) }) s
          let s := tableUpdate id [] (tableUpdate id [] s)
          match d.rings.find? fun g => decide (g.member = w.member) with
          | some g => rewriteRing id g s
          | none => s) (updDeck id (fun d => { d with due := d.due.filter fun w => !here w }) (clearCleanStop id s))

/-- Free blocks that a new DATA record must leave (09 R267). -/
def ringTakesData (d : Deck) (blocks : Nat) : Bool := (d.rings.filter (·.keeper)).all fun g => decide (1040 + blocks ≤ ringFree g)

/-- The two regions that hold the journal index entries of a hand (09 R257). -/
def indexRegions (s : State) (id hd : Nat) : List Nat :=
  let r := lockRegions s.cache.fenced id hd
  r.1.toList ++ r.2.toList

/-- A record has an entry of its own in the journal index: DATA records that are live, and the latest PROGRESS of each operation (09 R259). -/
def hasEntry (r : JRec) : Bool := match r.body with | .data _ _ _ _ _ => true | .progress _ => true | _ => false

/-- A request for a lock whose operation has reserved an intent entry (09 R259, R265 step 1). -/
def reservesEntry (q : LockReq) : Bool := decide (q.user = .update)

/-- Journal index entries in use in a region, primaries and copies: intents, the entries reserved by updates that have not filled them, DATA
descriptors and PROGRESS records (09 R257, R259). The last two lie where hand 0 of the deck does (DESIGN CHOICE, log 112). -/
def indexUsed (s : State) (region : Nat) : Nat :=
  s.decks.decks.foldl (fun n d =>
    let here := fun hd => (indexRegions s d.1 hd).contains region
    n + (d.2.intents.filter fun i => here i.hand).length +
      ((d.2.lockQueue ++ d.2.granted).filter fun q => reservesEntry q && here q.key).length +
      (if here 0 then (d.2.journal.filter hasEntry).length else 0)) 0

/-- Both index regions of a hand have a free entry (09 R259). -/
def indexRoom (s : State) (id hd : Nat) : Bool := (indexRegions s id hd).all fun r => decide (indexUsed s r < 8192)

/-! ## Stripe locks (09 R257, R258) -/

/-- Stripe locks in use in a region (09 R257). -/
def locksUsed (s : State) (region : Nat) : Nat :=
  s.decks.decks.foldl (fun n d => n + (d.2.locks.filter fun l => decide ((lockRegions s.cache.fenced d.1 l.1).1 = some region)).length) 0

/-- The lock table of a hand's lock region has room for one more lock (09 R257). -/
def lockSlot (s : State) (id hd : Nat) : Bool :=
  match (lockRegions s.cache.fenced id hd).1 with
  | some r => decide (locksUsed s r < 32768)
  | none => false

/-- No lock that is held bars a mode: SHARED goes beside SHARED only (09 R258). -/
def lockOpen (d : Deck) (key : Nat) (mode : LockMode) : Bool :=
  !d.locks.any fun l => decide (l.1 = key) && (decide (mode = .exclusive) || decide (l.2 = .exclusive))

/-- Somebody waits for the lock of a hand (09 R258). -/
def lockAwaited (d : Deck) (key : Nat) : Bool := d.lockQueue.any fun r => decide (r.key = key)

/-- A request has its lock: it was granted in its turn, or it can be granted at once, since nothing bars it, nobody waits before it, and the table has
room (09 R257, R258). -/
def lockGranted (s : State) (id : Nat) (d : Deck) (q : LockReq) : Bool :=
  d.granted.contains q || (lockOpen d q.key q.mode && !lockAwaited d q.key && lockSlot s id q.key)

/-- A request joins the queue, once. -/
def askLock (id : Nat) (q : LockReq) (s : State) : State :=
  updDeck id (fun d => if d.lockQueue.contains q || d.granted.contains q then d else { d with lockQueue := d.lockQueue ++ [q] }) s

/-- A request holds its lock until its operation ends. -/
def holdLock (q : LockReq) (d : Deck) : Deck :=
  if d.granted.contains q then d else { d with granted := d.granted ++ [q], locks := d.locks ++ [(q.key, q.mode)] }

/-- Grant a waiting request when it is the first for its hand and nothing bars it. -/
def grantNext (id : Nat) (s : State) (q : LockReq) : State :=
  match s.deck id with
  | none => s
  | some d =>
    if decide (d.lockQueue.find? (fun r => decide (r.key = q.key)) = some q) && lockOpen d q.key q.mode && lockSlot s id q.key then
      s.setDeck id (holdLock q { d with lockQueue := d.lockQueue.erase q })
    else s

/-- Grant what waits, in arrival order: a lock has been released (09 R257, R258). -/
def grantLocks (s : State) : State := s.decks.decks.foldl (fun s p => p.2.lockQueue.foldl (grantNext p.1) s) s

/-- Take the EXCLUSIVE lock of a hand for an operation that keeps it: one granted in its turn is already held. -/
def takeLock (key : Nat) (user : LockUser) (d : Deck) : Deck :=
  let q : LockReq := { key := key, mode := .exclusive, user := user }
  if d.granted.contains q then { d with granted := d.granted.erase q } else { d with locks := d.locks ++ [(key, .exclusive)] }

/-- Release the EXCLUSIVE lock of a hand. -/
def dropLock (key : Nat) (d : Deck) : Deck := { d with locks := d.locks.filter fun l => !decide (l.1 = key) }

/-- Release the EXCLUSIVE lock of a hand, and grant what waits for it. -/
def releaseLock (id key : Nat) (s : State) : State := grantLocks (updDeck id (dropLock key) s)

/-- The operation of a request has ended, or does not want its lock any more. -/
def endLock (id : Nat) (q : LockReq) (s : State) : State :=
  match s.deck id with
  | none => s
  | some d =>
    if d.granted.contains q then grantLocks (s.setDeck id { d with granted := d.granted.erase q, locks := d.locks.erase (q.key, q.mode) })
    else if d.lockQueue.contains q then grantLocks (s.setDeck id { d with lockQueue := d.lockQueue.erase q })
    else s

/-- Do a step that is whole under a lock (09 R258): the lock is taken before and released after; while it cannot be granted the request waits, and the step is
done when it is commanded again. A step that may not be done gives up its request. -/
def withLock (id : Nat) (q : LockReq) (may : Bool) (go : State → State) (s : State) : State :=
  match s.deck id with
  | none => s
  | some d => if !may then endLock id q s else if lockGranted s id d q then endLock id q (go s) else askLock id q s

/-- Updates that wait for a journal index entry reserve one and ask for their lock (09 R259). -/
def serveEntries (id : Nat) (s : State) : State :=
  match s.deck id with
  | none => s
  | some d =>
    grantLocks (d.entryWait.foldl (fun s hd =>
      if indexRoom s id hd then
        askLock id { key := hd, mode := .exclusive, user := .update } (updDeck id (fun d => { d with entryWait := d.entryWait.erase hd }) s)
      else s) s)

end Sys2Proof.Machine
end

