-- ==== Sys2Proof/Machine/Fail.lean ====
section
/-!
DEFINITION. Losing a member: the rebuild segments, abandoning a redeal, declaring a member failed, failed-pending, and the health rule
(07 R221; 09 R276; 10 R289, R291, R300; 11 R327, R328; 12 R347, R354, R360, R535).
-/

namespace Sys2Proof.Machine

/-! ## Rebuild segments (10 R291) -/

/-- Fail list entries that are REBUILDING, as bits. -/
def rebuildingBits (d : Deck) : List Nat :=
  (List.range d.label.failList.length).filter fun i =>
    match d.label.failList[i]? with
    | some e => decide (e.fstate = .rebuilding)
    | none => false

/-- Set bits in a mask. -/
def setBits (bits : List Nat) (m : Nat) : Nat := bits.foldl (fun m i => if m.testBit i then m else m + 2 ^ i) m

/-- Clear bits of REBUILDING entries in a mask. -/
def clearCount (d : Deck) (m : Nat) : Nat := ((rebuildingBits d).filter fun i => !m.testBit i).length

/-- Merge neighbouring segments with equal masks. -/
def mergeSegs : List (Nat × Nat) → List (Nat × Nat)
  | [] => []
  | a :: rest =>
    match mergeSegs rest with
    | [] => [a]
    | b :: l => if a.2 = b.2 then a :: l else a :: b :: l

/-- The segment to sweep: the most clear bits of REBUILDING entries, the lowest start on a tie; 0xFF when none has a clear bit. -/
def chooseSeg (d : Deck) : Nat :=
  ((List.range d.segs.length).foldl (fun (best : Nat × Nat) g =>
    let c := clearCount d ((d.segs.getD g (0, 0)).2)
    if best.2 < c then (g, c) else best) (0xFF, 0)).1

/-- The chunks noted as rebuilt whose entry's bit is not set in the hand's segment (10 R290). -/
def stillNoted (d : Deck) : List (Nat × Nat) :=
  d.rebuilt.filter fun x => !((d.segs.getD (segOf d.segs (handRound d.label.shape x.1)) (0, 0)).2.testBit x.2)

/-- Begin the sweep of the segment to be swept, from its start. Chunks that are rebuilt already stay current (10 R290). -/
def startSweep (d : Deck) : Deck :=
  let g := chooseSeg d
  { d with curSeg := g, cursor := (d.segs.getD g (0, 0)).1, rebuilt := stillNoted d }

/-- Length of segment `g` and the next together. -/
def pairLen (segs : List (Nat × Nat)) (rounds g : Nat) : Nat := ((segs.getD (g + 2) (rounds, 0)).1) - (segs.getD g (0, 0)).1

/-- Merge the two neighbouring segments with the smallest combined length, keeping only the bits set in both. -/
def squeeze (rounds : Nat) (segs : List (Nat × Nat)) : List (Nat × Nat) :=
  let best := (List.range (segs.length - 1)).foldl (fun (b : Nat) g => if pairLen segs rounds g < pairLen segs rounds b then g else b) 0
  (List.range segs.length).filterMap fun i =>
    if i = best + 1 then none
    else
      let x := segs.getD i (0, 0)
      some (if i = best then (x.1, x.2 &&& (segs.getD (i + 1) (0, 0)).2) else x)

/-- Split at a round: the rounds below it take extra bits (10 R291). At most 32 segments. -/
def splitAt (d : Deck) (r : Nat) (bits : List Nat) : List (Nat × Nat) :=
  let segs := if 32 ≤ d.segs.length then squeeze d.label.shape.rounds d.segs else d.segs
  let g := segOf segs r
  segs.flatMap fun x =>
    if x = segs.getD g (0, 0) then
      (if x.1 < r then [(x.1, setBits bits x.2), (r, x.2)] else [x])
    else [x]

/-- A REBUILD record (10 R292). -/
def rebuildRec (id : Nat) (s : State) : State :=
  let s := clearCleanStop id s
  match s.deck id with
  | some d => progressRec id (.rebuild d.label.labelSeq d.segs d.curSeg d.cursor) s
  | none => s

/-- An operation has ended: its PROGRESS record is no longer live (DEDUCED, log 32). -/
def endProgress (id op : Nat) (s : State) : State :=
  match s.deck id with
  | none => s
  | some d =>
    (d.journal.filter fun r => match r.body with | .progress p => decide (progressOp p = op) | _ => false).foldl
      (fun s r => releaseRec id r.jseq s) s

/-! ## Pages that are destaged (06 R191; 09 R270) -/

/-- The version of a page that an update took. -/
def verOf (c : Cache) (keyNs vpage ver : Nat) : Option DirEntry :=
  (versionsOf c keyNs vpage).find? fun e => decide (e.ver = ver)

/-- A destaged version becomes CLEAN without a mirror when it is still the newest, else SUPERSEDED (06 R191). -/
def finishVersion (keyNs vpage ver : Nat) (c : Cache) : Cache :=
  match verOf c keyNs vpage ver with
  | none => c
  | some e =>
    if (newestOf c keyNs vpage).map (·.ver) = some ver then
      let c := dropMirror e c
      updEntry e.region e.frame (fun x => { x with state := .clean }) c
    else updEntry e.region e.frame (fun x => { x with state := .superseded, epoch := epochOf c x.region, merging := false }) c

/-- The destaged pages of an update: every write durable. -/
def finishPages (u : HandUpd) (s : State) : State :=
  let key := u.nsid - 1
  let c := u.changed.foldl (fun c x => finishVersion key x.2.2.1 x.2.2.2 c) s.cache
  let c := u.recon.foldl (fun c p =>
    match newestOf c key p with
    | some e => if e.state = .dirty ∨ e.state = .dirtyJ then finishVersion key p e.ver c else c
    | none => c) c
  let done := u.changed.map fun x => (key, x.2.2.1)
  { s with cache := c, vault := { s.vault with imageTodo := s.vault.imageTodo.filter fun p => !done.contains p } }

/-- Sectors of a page that later DATA records of committed commands hold too. -/
def laterSectors (d : Deck) (jseq nsid vpage : Nat) : BitVec 8 :=
  d.journal.foldl (fun m r =>
    match r.body with
    | .data _ _ n _ ps =>
      if n = nsid ∧ jseq < r.jseq then
        ps.foldl (fun m p => if p.vpage = vpage ∧ p.ver ≠ 0 then m ||| p.valid else m) m
      else m
    | _ => m) 0

/-- A DATA record is still needed (09 R270): its command has not committed, or the newest version of a page of it is under the dirty journal and
has a sector that no later record holds. A version that lacks sectors supersedes the older one with its merge only, so the older record stays
for them (04 R123, R124; DEDUCED, log 108). -/
def dataNeeded (s : State) (d : Deck) (jseq nsid : Nat) (pages : List JPage) : Bool :=
  pages.any fun p => decide (p.ver = 0) ||
    (match newestOf s.cache (nsid - 1) p.vpage with
     | some e => decide (p.ver ≤ e.ver) && isDirtyState e.state &&
         decide (p.valid &&& ~~~ laterSectors d jseq nsid p.vpage ≠ 0)
     | none => false)

/-- Trim every DATA record that is no longer needed (09 R270). -/
def trimData (id : Nat) (s : State) : State :=
  match s.deck id with
  | none => s
  | some d =>
    d.journal.foldl (fun s r =>
      match r.body with
      | .data _ _ nsid _ pages => if dataNeeded s d r.jseq nsid pages then s else releaseRec id r.jseq s
      | _ => s) s

/-! ## Abandoning a redeal (11 R327) -/

/-- Lock key of a hand of the new layout (11 R320). -/
def newKey (hand : Nat) : Nat := 2 ^ 40 + hand

/-- The outcome of a redeal in log 0xC8 (11 R331), with its vendor event. -/
def logRedeal (id status reason : Nat) (ended : BitVec 64) (s : State) : State :=
  match tblFind s.decks.redealLog id with
  | none => s
  | some l =>
    let done := match (s.deck id).bind (·.redeal) with | some r => r.handsDone | none => l.handsDone
    raiseVendorAen 0xC8 { s with decks := { s.decks with
      redealGen := s.decks.redealGen + 1,
      redealLog := tblPut s.decks.redealLog id { l with status := status, reason := reason, ended := ended, handsDone := done } } }

/-- First updates of dual writes that are durable and whose second updates an abandonment has removed: their pages are destaged (11 R321, R327). -/
def finishFirsts (id : Nat) (s : State) : State :=
  match s.deck id with
  | none => s
  | some d =>
    let ended := d.updates.filter fun u => u.durable && u.dual.isEmpty && !u.second
    if ended.isEmpty then s
    else
      let s := s.setDeck id { d with updates := d.updates.filter fun u => !ended.contains u }
      trimData id (ended.foldl (fun s u => finishPages u s) s)

/-- Abandon a redeal (11 R327), with changes that belong to the same label update (R328). What was begun on the new layout is dropped: second updates,
their intents, and its locks. -/
def abandonRedeal (id reason : Nat) (f : DeckLabel → DeckLabel) (s : State) : State :=
  match s.deck id with
  | none => s
  | some d =>
    match d.label.redeal with
    | none => relabel id f s
    | some r =>
      let s := logRedeal id 4 reason s.recTime s
      let s := updDeck id (fun d => { d with
        redeal := none
        updates := (d.updates.filter fun u => !u.second).map (fun u => { u with dual := [] })
        intents := d.intents.filter fun i => !i.newGen
        batch := d.batch.filter fun w => !d.intents.any fun i => i.newGen && decide (i.wseq = w)
        locks := ((d.granted.filter fun q => decide (q.user = .redeal)).foldl (fun l q => l.erase (q.key, q.mode)) d.locks).filter fun l => decide (l.1 < 2 ^ 40)
        lockQueue := d.lockQueue.filter fun q => decide (q.key < 2 ^ 40) && decide (q.user ≠ .redeal)
        granted := d.granted.filter fun q => decide (q.key < 2 ^ 40) && decide (q.user ≠ .redeal) }) s
      let s := relabel id (fun l => f { l with redeal := none }) s
      let s := r.addSlots.foldl (fun s x => if slotReachable (s.slot x) then releaseSlot x (zeroLabels x (slotCap s x) (slotTagged s x) s) else s) s
      let old := (d.journal.filter fun j => decide (j.gen = r.newGen)).map (·.jseq)
      let s := old.foldl (fun s j => releaseRec id j s) (endProgress id 3 s)
      grantLocks (finishFirsts id (recordEvent 0x3042 [id, reason, 0, 0] s))

/-! ## The test of R535 -/

/-- Declaring the member failed leaves no held hand lacking more than m chunks (12 R535). -/
def mayFail (s : State) (id mem : Nat) : Bool :=
  match s.deck id with
  | none => false
  | some d =>
    (heldHands s id).all fun hd =>
      let on := (List.range (widthOf d.label.shape)).filter fun c => !chunkMissing d hd c && decide (memberAt d hd c = some mem)
      on.isEmpty || decide (handExposure s id d hd + on.length ≤ d.label.shape.m)

/-! ## Declaring a member failed (10 R289, R300; 09 R276) -/

/-- Set the state of a member table entry. -/
def setMstate (mem : Nat) (st : MState) (l : DeckLabel) : DeckLabel :=
  { l with members := (List.range l.members.length).filterMap fun i =>
      (l.members[i]?).map fun e => if i = mem then { e with mstate := st } else e }

/-- Writes to a failed member need not complete: their tags are let go and they hold no lock any more (09 R276). -/
def forgetWrites (id x : Nat) (s : State) : State :=
  updSlot x (fun v =>
    let keep := fun (t : MTag) => match t.work with
      | .write d _ _ | .ring d _ _ => decide (d ≠ id)
      | .flush | .store => decide (t.state ≠ .waiting)
      | .read _ _ _ _ => true
    { v with portA := { v.portA with tags := v.portA.tags.filter keep }, portB := { v.portB with tags := v.portB.tags.filter keep } }) s

/-- Leave failed-pending (12 R347). -/
def leavePending (x : Nat) (s : State) : State :=
  let v := s.slot x
  if isPending v then recordEvent 0x5020 [x, v.deckId.getD 0xFF, v.index.getD 0xFF, 1] (s.setSlot x { v with pendingAt := none }) else s

/-- A member that becomes failed: the drive is held as RETURNING (12 R353; DEDUCED, log 33). -/
def shelveDrive (x : Nat) (s : State) : State :=
  updSlot x (fun v => { v with cls := if v.present then .returning else .empty, failDue := false, readOnly := false }) (leavePending x s)

/-- Append a fail list entry for a member (10 R289, R291; 07 R221). A seventeenth failure gets none. -/
def appendEntry (id mem : Nat) (s : State) : State :=
  match s.deck id with
  | none => s
  | some d =>
    if 16 ≤ d.label.failList.length then s
    else
      let sh := d.label.shape
      let i := d.label.failList.length
      let noKitty := decide (sh.n ≤ handsPerRound sh * widthOf sh)
      let e : FailEntry := { member := mem, fstate := if noKitty then .rebuilt else .rebuilding, watermark := if noKitty then sh.rounds else 0 }
      let split := decide (d.curSeg < d.segs.length) && decide ((d.segs.getD d.curSeg (0, 0)).1 < d.cursor)
      let segs := if split then splitAt d d.cursor (rebuildingBits d) else d.segs
      let segs := if noKitty then segs.map fun g => (g.1, setBits [i] g.2) else segs
      let d' := { d with label := { d.label with failList := d.label.failList ++ [e] }, segs := segs }
      let s := s.setDeck id (startSweep d')
      if split then recordEvent 0x4004 [id, d.cursor, segs.length, 0] s else s

/-- Entries whose bit is set in every segment become REBUILT (10 R294). The entries, and the deck. -/
def markRebuilt (d : Deck) : List Nat × Deck :=
  let done := (rebuildingBits d).filter fun i => d.segs.all fun g => g.2.testBit i
  let fl := (List.range d.label.failList.length).filterMap fun i =>
    (d.label.failList[i]?).map fun e =>
      if done.contains i then { e with fstate := FState.rebuilt, watermark := d.label.shape.rounds } else e
  (done, { d with label := { d.label with failList := fl } })

/-- Entries whose bit is set in every segment become REBUILT, in a label update of their own, with event 0x4002 (10 R294). -/
def settleRebuilt (id : Nat) (s : State) : State :=
  match s.deck id with
  | none => s
  | some d =>
    let (done, d1) := markRebuilt d
    if done.isEmpty then s
    else done.foldl (fun s i =>
      recordEvent 0x4002 [id, i, ((d.label.failList[i]?).map (·.member)).getD 0xFF, 0] s) (labelUpdate id (s.setDeck id (startSweep d1)))

/-- The replacement fails during copy-back (10 R300): the entry returns with WATERMARK 0. Where the copy-back had copied nothing, every round is still
rebuilt, and the entry is REBUILT again at once (R294). -/
def replacementFails (id mem x : Nat) (s : State) : State :=
  match s.deck id with
  | none => s
  | some d =>
    let i := d.label.failList.length - 1
    let wm := ((d.label.failList[i]?).map (·.watermark)).getD 0
    let fl := d.label.failList.take i ++ [{ member := mem, fstate := .rebuilding, watermark := 0 }]
    let cut := splitAt d wm []
    let segs := cut.map fun g => if wm ≤ g.1 then (g.1, setBits [i] g.2) else (g.1, if g.2.testBit i then g.2 - 2 ^ i else g.2)
    let d := { d with label := { setMstate mem .failed d.label with failList := fl }, segs := segs }
    let s := s.setDeck id (startSweep d)
    settleRebuilt id (recordEvent 0x4012 [id, mem, x, wm] (endProgress id 2 (labelUpdateWith id (fun d => d.label.failList) s)))

/-- Declare a member failed (10 R289; 09 R268, R276; 11 R328). -/
def declareFailed (id mem : Nat) (s : State) : State :=
  match s.deck id with
  | none => s
  | some d =>
    let x := (slotOfMember d mem).getD 0xFF
    let st := mstateOf d mem
    if st = .failed then s
    else
      let s := if st = .replacing then replacementFails id mem x s
        else
          let s := appendEntry id mem s
          let s := abandonRedeal id 2 (setMstate mem .failed) s
          recordEvent 0x4001 [id, mem, x, ((s.deck id).map fun d => d.label.failList.length).getD 0] s
      let s := forgetWrites id x s
      let s := updDeck id (fun d => { d with updates := d.updates.map fun u => { u with todo := u.todo.filter fun w => !decide (w.slot = x) } }) s
      let s := if x = 0xFF then s else shelveDrive x s
      let s := updDeck id (fun d => { d with scanDue := d.scanDue || decide (d.label.shape.m < deckExposure s id d) }) s
      evalDeck id (rebuildRec id (dropKeeper id mem s))

/-- Declare failed the member that a slot holds. -/
def failSlot (x : Nat) (s : State) : State :=
  match (s.slot x).deckId, (s.slot x).index with
  | some id, some mem => declareFailed id mem s
  | _, _ => s

/-- The test of R535 for the member that a slot holds. -/
def slotMayFail (s : State) (x : Nat) : Bool :=
  match (s.slot x).deckId, (s.slot x).index with
  | some id, some mem => mayFail s id mem
  | _, _ => false

/-- A member becomes failed-pending (12 R347): event 0x5020. -/
def enterPending (x : Nat) (s : State) : State :=
  let v := s.slot x
  if v.cls = .member ∧ isPending v = false then
    recordEvent 0x5020 [x, v.deckId.getD 0xFF, v.index.getD 0xFF, 0] (s.setSlot x { v with pendingAt := some s.now })
  else s

/-- Enter or leave failed-pending as the ports of a member stand (12 R347); a media read-only member is not usable for writes (R360). -/
def judgePorts (x : Nat) (s : State) : State :=
  let v := s.slot x
  if v.cls ≠ .member then s
  else if !hasPort v || v.readOnly then enterPending x s
  else leavePending x s

/-- Members whose score asks for it are declared failed when R535 allows (12 R360); an armed fault injection spares its target (15
R448). -/
def settleHealth (x : Nat) (s : State) : State :=
  let v := s.slot x
  let spared := match s.guard.finj.armed with | some f => decide (f.target = 1) && decide (f.slotLink = x) | none => false
  if v.failDue && decide (v.cls = .member) && decide (v.health ≤ 250) && !spared && slotMayFail s x then
    recordEvent 0x5033 [x, v.health, 0, 0] (failSlot x s)
  else s

/-- Settle every slot. -/
def settleAll (s : State) : State := (listedSlots s).foldl (fun s x => if (s.slot x).failDue then settleHealth x s else s) s

end Sys2Proof.Machine
end

