-- ==== Sys2Proof/Machine/HandUpdate.lean ====
section
/-!
DEFINITION. Hand updates: the choice of the path, reconstruction, the intent, the member writes, and what follows when they have
completed and when they are durable (06 R191; 09 R251 to R256, R265; 10 R281, R282, R286, R287; 11 R321).
-/

namespace Sys2Proof.Machine

/-! ## Blocks as members hold them -/

/-- All bytes are zero. -/
def allZero (bs : Bytes) : Bool := bs.all fun b => decide (b = 0)

/-- The chunk tag of a block is right for its place (07 R231). -/
def tagOk (d : Deck) (hd row c : Nat) (data : Bytes) (t : ChunkTag) : Bool :=
  (tagZero t && allZero data) ||
  (decide (t.gen = d.label.generation) && decide (t.hand = hd) && decide (t.chunk = c) && decide (t.block = row) && decide (t.crc = tagCrc data t))

/-- The chunk lies on a tagged member. -/
def chunkTagged (d : Deck) (hd c : Nat) : Bool :=
  match (memberAt d hd c).bind (memberOf d) with
  | some e => e.tagged
  | none => false

/-- On a tagged member the block read carries a tag that is right (07 R231). -/
def tagRight (d : Deck) (hd : Nat) (r : BlockRead) : Bool :=
  match r.tag with
  | none => !chunkTagged d hd r.chunk
  | some t => tagOk d hd r.row r.chunk r.data t

/-- A block read is good: it was read, no poison came with it (12 R341), and on a tagged member its tag is right. -/
def readGood (d : Deck) (hd : Nat) (r : BlockRead) : Bool :=
  decide (r.status = .good) && tagRight d hd r && !d.lostReads.contains (hd, r.row, r.chunk)

/-- The drive whose block came with a wrong tag is charged (12 R359); a media error is charged at its completion. -/
def chargeTags (d : Deck) (hd row : Nat) (reads : List BlockRead) (s : State) : State :=
  reads.foldl (fun s r =>
    if r.row = row ∧ r.status = .good ∧ tagRight d hd r = false ∧ chunkMissing d hd r.chunk = false then
      match (memberAt d hd r.chunk).bind (slotOfMember d) with
      | some x => chargeTag x s
      | none => s
    else s) s

/-- The blocks of a row that are at hand: good reads of chunks that are not missing, and listed data blocks as zero (10 R281). -/
def atHand (s : State) (id : Nat) (d : Deck) (hd row : Nat) (reads : List BlockRead) : RowBlocks :=
  ((List.range d.label.shape.k).filter (blockListed s id d hd row)).map (fun c => (c, zeros 4096)) ++
  (reads.filter fun r => decide (r.row = row) && readGood d hd r && !chunkMissing d hd r.chunk).map fun r => (r.chunk, r.data)

/-- The data blocks of a row, lost ones decoded (08 R243, R244); none when more than m blocks of the row are lost. -/
def rowOld (d : Deck) (have_ : RowBlocks) : Option RowBlocks :=
  let sh := d.label.shape
  if (List.range sh.k).all (tblHas have_) then some have_
  else (decodeLost sh.k sh.m 4096 ((List.range (widthOf sh)).filter fun c => !tblHas have_ c) have_).map (· ++ have_)

/-- The decode streams that give the chunks a step needs and does not have (08 R247). -/
def lostStreams (d : Deck) (have_ : RowBlocks) (need : List Nat) : List ParityStream :=
  let sh := d.label.shape
  let need := need.filter fun c => !tblHas have_ c
  if need.isEmpty then [] else decodePlan sh.k sh.m ((List.range (widthOf sh)).filter fun c => !tblHas have_ c) need

/-- The streams that encode a row whose data, lost blocks decoded first, is at hand (08 R241, R247). -/
def encodeStreams (d : Deck) (have_ : RowBlocks) : List ParityStream :=
  lostStreams d have_ (List.range d.label.shape.k) ++ [encodeStream d.label.shape.k d.label.shape.m]

/-- Run a row's streams. -/
def runStreams (id hd row : Nat) (ss : List ParityStream) (s : State) : State := if ss.isEmpty then s else emit (.parityStreams id hd row ss) s

/-! ## Encryption (05 R147) -/

/-- First page of a volume's metadata area. -/
def metaPage (sh : Shape) (v : Volume) : Nat :=
  match lbaFormat v.lbaf with
  | some (l, _) => metaStart sh v.nsze l / 4096
  | none => 0

/-- Apply a function to each block of a data page, by LBA. -/
def mapLbas (l page : Nat) (f : Nat → Bytes → Bytes) (data : Bytes) : Bytes :=
  (List.range (4096 / l)).flatMap fun i => fitBytes l (f (page * (4096 / l) + i) (sliceBytes data (i * l) l))

/-- A page as members hold it: encrypted when the volume is, metadata pages apart. -/
def toMember (sh : Shape) (v : Volume) (page : Nat) (data : Bytes) : Bytes :=
  match lbaFormat v.lbaf with
  | some (l, _) =>
    if v.crypt = 1 ∧ page < metaPage sh v then mapLbas l page (Config.xtsEncrypt v.key) data else data
  | none => data

/-- A page from a member's block. A block of zeros is a deallocated one, which reads as zero whatever the key (05 R157, R158; that the members' zeros
are the mark is a DESIGN CHOICE, log 130). -/
def fromMember (sh : Shape) (v : Volume) (page : Nat) (data : Bytes) : Bytes :=
  match lbaFormat v.lbaf with
  | some (l, _) =>
    if v.crypt = 1 ∧ page < metaPage sh v then mapLbas l page (fun lba b => if b = zeros l then b else Config.xtsDecrypt v.key lba b) data else data
  | none => data

/-! ## Pages of a hand -/

/-- Volume page of the current layout that a page of the new layout holds (11 R316). -/
def oldPage (base base' page : Nat) : Option Nat :=
  if page < base' then (if page < base then some page else none) else some (page - base' + base)

/-- Volume and volume page of block (row, chunk) of a hand, in the current layout or the new one (07 R215, 09 R251, 11 R316). -/
def pageFor (s : State) (id : Nat) (d : Deck) (second : Bool) (hd row c : Nat) : Option (Volume × Nat) :=
  if second then
    match d.redeal with
    | none => none
    | some run =>
      match newLayout d with
      | none => none
      | some nd =>
        run.newExtents.findSome? fun x =>
          match handExtent x.2 hd, s.vol x.1 with
          | some vh, some v =>
            (oldPage (metaPage d.label.shape v) (metaPage nd.label.shape v) (pageOfBlock nd.label.shape vh row c)).map fun p => (v, p)
          | _, _ => none
  else (handOwner s id hd).map fun o => (o.1, pageOfBlock d.label.shape o.2 row c)

/-- The dirty page of a block that a destage takes: row, chunk, volume page, version. While a redeal is active a page still being
destaged is left (11 R321). -/
def dirtyBlock (s : State) (id : Nat) (d : Deck) (hd row c : Nat) : Option (Nat × Nat × Nat × Nat) :=
  match pageFor s id d false hd row c with
  | none => none
  | some (v, p) =>
    let vs := versionsOf s.cache (v.nsid - 1) p
    match vs with
    | [] => none
    | e :: rest =>
      let busy := d.label.redeal.isSome && rest.any fun x => decide (x.state = .destaging) || decide (x.state = .destagingJ)
      if (e.state = .dirty ∨ e.state = .dirtyJ) ∧ busy = false then some (row, c, p, e.ver) else none

/-- The dirty blocks of a hand (06 R191). -/
def dirtyBlocks (s : State) (id : Nat) (d : Deck) (hd : Nat) : List (Nat × Nat × Nat × Nat) :=
  (List.range (chunkBlocks d.label.shape)).flatMap fun row =>
    (List.range d.label.shape.k).filterMap fun c => dirtyBlock s id d hd row c

/-- Rows of a list of changed blocks, each once. -/
def rowsOf (ch : List (Nat × Nat × Nat × Nat)) : List Nat :=
  ch.foldl (fun l x => if l.contains x.1 then l else l ++ [x.1]) []

/-- A changed block's page lacks a VALID sector (09 R254). -/
def partial_ (s : State) (nsid : Nat) (x : Nat × Nat × Nat × Nat) : Bool :=
  match verOf s.cache (nsid - 1) x.2.2.1 x.2.2.2 with
  | some e => decide (e.valid ≠ 0xFF)
  | none => true

/-! ## The path (09 R254) -/

/-- Parity blocks of a hand that are present and live. -/
def parityAt (d : Deck) (hd : Nat) : List Nat := (List.range d.label.shape.m).filter fun j => chunkWritable d hd (d.label.shape.k + j)

/-- The path for a set of changed blocks. -/
def choosePath (s : State) (d : Deck) (hd nsid : Nat) (resyncing : Bool) (ch : List (Nat × Nat × Nat × Nat)) : UpdKind :=
  let k := d.label.shape.k
  let rows := rowsOf ch
  let p := (parityAt d hd).length
  let inRow := fun r => ch.filter fun x => decide (x.1 = r)
  let x := fun r => ((inRow r).filter (partial_ s nsid)).length
  if rows.all fun r => decide ((inRow r).length = k) && decide (x r = 0) then .full
  else if (List.range k).any fun c => chunkMissing d hd c then .rcw
  else if resyncing then .rcw
  else if rows.foldl (fun n r => n + (inRow r).length + p) 0 < rows.foldl (fun n r => n + (k - (inRow r).length) + x r) 0 then .rmw
  else .rcw

/-- The hand lies at or above the resync watermark of a deck (09 R254). -/
def aboveWatermark (d : Deck) (hd : Nat) : Bool :=
  match d.resync with
  | some (wm, _) => decide (wm ≤ hd)
  | none => false

/-- The hand is still to be resynced: it lies at or above the watermark, and no read has had it resynced ahead of it (09 R275). -/
def aboveResync (d : Deck) (hd : Nat) : Bool := aboveWatermark d hd && !d.resynced.contains hd

/-! ## Reconstruction (09 R256) -/

/-- A whole page as a part. -/
def wholePart (keyNs vpage : Nat) (data : Bytes) : PagePart :=
  { ns := keyNs, vpage := vpage, mask := 0xFF, zero := 0, poison := 0, data := data, spans := [], base := none, home := none }

/-- Install a whole page as the newest version in a state, its copy MIRROR (09 R256, 06 R184). None when no frame is free. -/
def installPage (st : PState) (keyNs vpage : Nat) (data : Bytes) (c : Cache) : Option Cache :=
  let older := versionsOf c keyNs vpage
  match placePart none st .mirror (wholePart keyNs vpage data) c with
  | none => none
  | some (p, c) =>
    match p.home with
    | none => none
    | some (r, f, r2, f2) =>
      let ver := c.nextVer
      some { c with
        nextVer := ver + 1
        dir := c.dir.map fun e =>
          if (e.region = r ∧ e.frame = f) ∨ (e.region = r2 ∧ e.frame = f2) then { e with ver := ver }
          else if older.any fun o => decide (o.region = e.region) && decide (o.frame = e.frame) then supersede (epochOf c) e
          else e }

/-- Blocks that a reconstruct-write must save: data chunks missing and unchanged in the written rows, not listed (09 R256). -/
def reconBlocks (s : State) (id : Nat) (d : Deck) (hd : Nat) (ch : List (Nat × Nat × Nat × Nat)) : List (Nat × Nat) :=
  (rowsOf ch).flatMap fun row =>
    ((List.range d.label.shape.k).filter fun c =>
      chunkMissing d hd c && !blockListed s id d hd row c && !ch.any fun x => decide (x.1 = row) && decide (x.2.1 = c)).map fun c => (row, c)

/-- Decode the blocks to save: volume page and data; a block that cannot be decoded is left out. -/
def decodeRecon (s : State) (id : Nat) (d : Deck) (hd : Nat) (todo : List (Nat × Nat)) (reads : List BlockRead) : List (Nat × Bytes) :=
  todo.filterMap fun b =>
    match rowOld d (atHand s id d hd b.1 reads), pageFor s id d false hd b.1 b.2 with
    | some row, some (v, p) => if tblHas row b.2 then some (p, fromMember d.label.shape v p (rowBlock row b.2)) else none
    | _, _ => none

/-- Install every reconstruction page, or none. -/
def installAll (st : PState) (keyNs : Nat) : List (Nat × Bytes) → Cache → Option Cache
  | [], c => some c
  | p :: ps, c =>
    match installPage st keyNs p.1 p.2 c with
    | some c => installAll st keyNs ps c
    | none => none

/-! ## Starting an update (09 R265 steps 1 to 4) -/

/-- Before the first member write of an update, each ABSENT member that it would place a chunk on is declared failed (12 R355). -/
def failAbsent (id hd : Nat) (s : State) : State :=
  match s.deck id with
  | none => s
  | some d =>
    (List.range (widthOf d.label.shape)).foldl (fun s c =>
      match memberAt d hd c with
      | some mem => if mstateOf d mem = .absent then declareFailed id mem s else s
      | none => s) s

/-- WSEQ may be taken: below WSEQ_CEIL; a label update is made when it has come to WSEQ_CEIL − 2^23 (09 R252). -/
def raiseCeil (id : Nat) (s : State) : State :=
  match s.deck id with
  | some d => if d.label.wseqCeil ≤ d.wseq + 2 ^ 23 then labelUpdate id s else s
  | none => s

/-- The state that pages take when destage begins (06 R191). -/
def markDestaging (keyNs : Nat) (ch : List (Nat × Nat × Nat × Nat)) (c : Cache) : Cache :=
  { c with dir := c.dir.map fun e =>
      if e.keyNs = keyNs ∧ ch.any (fun x => decide (x.2.2.1 = e.vpage) && decide (x.2.2.2 = e.ver)) = true then
        match e.state with
        | .dirty => { e with state := .destaging }
        | .dirtyJ => { e with state := .destagingJ }
        | _ => e
      else e }

/-- Lowest and highest row. -/
def firstRow (rows : List Nat) : Nat := rows.foldl min (rows.headD 0)
def lastRow (rows : List Nat) : Nat := rows.foldl max 0

/-- Read blocks of a row from the members that hold them now (10 R278). -/
def askReads (id : Nat) (d : Deck) (hd row : Nat) (cs : List Nat) (s : State) : State :=
  cs.foldl (fun s c =>
    let s := updDeck id (fun d => { d with lostReads := d.lostReads.filter fun l => !decide (l = (hd, row, c)) }) s
    match (memberAt d hd c).bind (slotOfMember d) with
    | some x =>
      if slotReachable (s.slot x) then issueTo x 0x02 (.read id hd c row) 4096 [] (emit (.memberRead x (rowOffset d hd row) 4096) s) else s
    | none => s) s

/-- Chunks of a row whose old data an update needs. -/
def neededOld (s : State) (kind : UpdKind) (nsid k row : Nat) (ch : List (Nat × Nat × Nat × Nat)) : List Nat :=
  (List.range k).filter fun c =>
    match ch.find? fun x => decide (x.1 = row) && decide (x.2.1 = c) with
    | some x => partial_ s nsid x
    | none => decide (kind ≠ .rmw)

/-- The blocks that an update reads of a row (09 R254, R265 step 5): for a read-modify-write the changed blocks and the parity; for a reconstruct-write the
blocks that do not change, and those that are merged. A missing one is decoded. -/
def pathReads (s : State) (d : Deck) (hd nsid : Nat) (kind : UpdKind) (ch : List (Nat × Nat × Nat × Nat)) (recon : List Nat) (row : Nat) : List Nat :=
  let sh := d.label.shape
  match kind with
  | .full => []
  | .rmw => ((ch.filter fun x => decide (x.1 = row)).map fun x => x.2.1) ++ (parityAt d hd).map (sh.k + ·)
  | .rcw =>
    let need := neededOld s kind nsid sh.k row ch
    if recon.isEmpty && need.any (chunkMissing d hd) then decodeReads sh.k sh.m (missingOf d hd) else need.filter fun c => !chunkMissing d hd c

/-- Make the intent entry and the update record, and issue the reads of the path (09 R262, R265 steps 4 and 5). `key` is the lock's key. -/
def beginUpdate (id : Nat) (d : Deck) (hd key : Nat) (second : Bool) (parent nsid reconJseq : Nat) (recon : List Nat) (dataJ : Bool)
    (kind : UpdKind) (ch : List (Nat × Nat × Nat × Nat)) (s : State) : State :=
  let k := d.label.shape.k
  let rows := rowsOf ch
  let i : Intent :=
    { wseq := d.wseq, hand := hd, kind := kind, blkFirst := firstRow rows, blkLast := lastRow rows,
      dmask := bitmapOf (((List.range k).filter fun c => chunkWritable d hd c && ch.any fun x => decide (x.2.1 = c))),
      pmask := bitmapOf (parityAt d hd), degraded := !recon.isEmpty, dataJ := dataJ,
      mmask := bitmapOf ((List.range k).filter fun c => chunkMissing d hd c),
      reconJseq := reconJseq, jseq := none, durable := false, newGen := second }
  let u : HandUpd :=
    { hand := hd, wseq := d.wseq, kind := kind, blkFirst := firstRow rows, blkLast := lastRow rows, changed := ch, nsid := nsid,
      issued := false, todo := [], complete := false, durable := false, second := second, parent := parent, dual := [],
      reconJseq := reconJseq, recon := recon }
  let s := updDeck id (fun d => takeLock key .update { d with
    wseq := d.wseq + 1, intents := d.intents ++ [i], batch := d.batch ++ [i.wseq], updates := d.updates ++ [u] }) s
  let s := match s.deck id with
    | some d => if 63 ≤ d.batch.length then closeBatch id s else s
    | none => s
  rows.foldl (fun s row => askReads id d hd row (pathReads s d hd nsid kind ch recon row) s) s

/-- A volume is affected by a redeal: it has metadata, and its metadata area moves (11 R316). -/
def affected (d : Deck) (v : Volume) : Bool :=
  match newLayout d, lbaFormat v.lbaf with
  | some nd, some (_, m) => decide (0 < m) && decide (metaPage d.label.shape v ≠ metaPage nd.label.shape v)
  | _, _ => false

/-- The switch of a redeal is draining the deck (11 R324). -/
def isDraining (d : Deck) : Bool := match d.redeal with | some r => r.draining | none => false

/-- A dirty page that the drain must destage: one in the metadata area of an affected volume, or one held in a DATA record that holds
such a page (11 R324). -/
def drainPage (s : State) (d : Deck) (nsid page : Nat) : Bool :=
  match s.vol nsid with
  | none => false
  | some v =>
    affected d v && (decide (metaPage d.label.shape v ≤ page) || d.journal.any fun r =>
      match r.body with
      | .data _ _ n _ ps => decide (n = nsid) && ps.any (fun p => decide (metaPage d.label.shape v ≤ p.vpage)) &&
          ps.any fun p => decide (p.vpage = page)
      | _ => false)

/-- The newest versions of a hand's dirty blocks. -/
def dirtyVersions (s : State) (nsid : Nat) (ch : List (Nat × Nat × Nat × Nat)) : List DirEntry :=
  ch.filterMap fun x => verOf s.cache (nsid - 1) x.2.2.1 x.2.2.2

/-- The place of a hand in the order of destage (06 R191): 0 with a page without a partner, 1 with its data chunks wholly dirty and every sector
VALID, else 2; and since when its longest dirty page is dirty. -/
def handRank (s : State) (id : Nat) (d : Deck) (hd nsid : Nat) : Nat × Nat :=
  let ch := dirtyBlocks s id d hd
  let es := dirtyVersions s nsid ch
  let cls := if es.any fun e => decide (e.linkRegion = e.region) then 0
    else if ch.length = chunkBlocks d.label.shape * d.label.shape.k ∧ (es.all fun e => decide (e.valid = 0xFF)) = true then 1 else 2
  (cls, es.foldl (fun n e => min n e.since) s.now)

/-- Level 0 destages full hands and pages dirty for more than 30 s only (06 R190). -/
def levelTakes (s : State) (rank : Nat × Nat) : Bool :=
  decide (destageLevelOf s ≠ 0) || decide (rank.1 = 1) || decide (rank.2 + 30000000000 < s.now)

/-- The hand of a deck that a page of a volume lies in. -/
def pageHand (s : State) (v : Volume) (page : Nat) : Option Nat :=
  match s.deck v.deckId with
  | some d => extentHand v.extents (blockOfPage d.label.shape page).1
  | none => none

/-- Hands that hold a dirty page: deck and hand. -/
def dirtyHands (s : State) : List (Nat × Nat) :=
  (s.cache.dir.filterMap fun e =>
    if e.state = .dirty ∨ e.state = .dirtyJ then
      (s.vol (e.keyNs + 1)).bind fun v => (pageHand s v e.vpage).map fun h => (v.deckId, h)
    else none).eraseDups

/-- Hand updates of a hand may start: the device serves, and no switch drains the deck unless the drain needs the hand (11 R324). -/
def mayUpdate (s : State) (id : Nat) (d : Deck) (hd nsid : Nat) : Bool :=
  s.serving && (!isDraining d || (dirtyBlocks s id d hd).any fun x => drainPage s d nsid x.2.2.1)

/-- A hand holds a dirty metadata page of a volume that the switch will affect, in the last 1/64 of the copy: destaged as at level 2 (11 R324). -/
def copyEnding (s : State) (id : Nat) (d : Deck) (hd : Nat) (v : Volume) : Bool :=
  match d.label.redeal, d.redeal with
  | some r, some run => decide (63 * r.handsTotal ≤ 64 * run.handsDone) && affected d v &&
      (dirtyBlocks s id d hd).any fun x => decide (metaPage d.label.shape v ≤ x.2.2.1)
  | _, _ => false

/-- A hand is to be destaged: it holds dirty pages that the level in force takes. -/
def destageWants (s : State) (id hd : Nat) : Bool :=
  match s.deck id, handOwner s id hd with
  | some d, some (v, _) =>
    mayUpdate s id d hd v.nsid && !(dirtyBlocks s id d hd).isEmpty &&
    (isDraining d || copyEnding s id d hd v || levelTakes s (handRank s id d hd v.nsid))
  | _, _ => false

/-- The destage of a hand could start now: its lock and an intent entry can be had. -/
def destageReady (s : State) (id hd : Nat) : Bool :=
  destageWants s id hd && indexRoom s id hd &&
    ((s.deck id).map fun d => lockGranted s id d { key := hd, mode := .exclusive, user := .update }).getD false

/-- A rank comes before another in the order of R191; only the third class is ordered by age. -/
def rankBefore (a b : Nat × Nat) : Bool := decide (a.1 < b.1) || (decide (a.1 = b.1) && decide (a.1 = 2) && decide (a.2 < b.2))

/-- It is a hand's turn to be destaged (06 R191): no other hand that is ready comes before it. A drain of its deck takes its hands in any
order (11 R324). -/
def destageTurn (s : State) (id hd : Nat) : Bool :=
  destageWants s id hd &&
    (match s.deck id, handOwner s id hd with
    | some d, some (v, _) =>
      isDraining d || !(dirtyHands s).any fun o =>
        decide (o ≠ (id, hd)) && destageReady s o.1 o.2 &&
        (match s.deck o.1, handOwner s o.1 o.2 with
        | some d', some (v', _) => rankBefore (handRank s o.1 d' o.2 v'.nsid) (handRank s id d hd v.nsid)
        | _, _ => false)
    | _, _ => false)

/-- The DATA record of an update's reconstruction pages now names the versions that they became (09 R256). -/
def stampRecon (s : State) (nsid jseq : Nat) (r : JRec) : JRec :=
  if r.jseq = jseq then
    match r.body with
    | .data a b n x ps => { r with body := .data a b n x (ps.map fun p => { p with ver := ((newestOf s.cache (nsid - 1) p.vpage).map (·.ver)).getD 0 }) }
    | _ => r
  else r

/-- Updates of a deck whose RECON record is durable go on (09 R256, R265 step 3): their reconstruction pages become DIRTY_J, and the intent is made. -/
def settleStarts (id : Nat) (s : State) : State :=
  match s.deck id with
  | none => s
  | some d0 =>
    d0.starting.foldl (fun s h =>
      match s.deck id with
      | none => s
      | some d =>
        if recDurable s id d h.jseq then
          match installAll .dirtyJ (h.nsid - 1) h.pages s.cache with
          | none => s
          | some c =>
            let s := { s with cache := c }
            let s := raiseCeil id (updDeck id (fun d => { d with
              starting := d.starting.filter fun x => !decide (x.jseq = h.jseq), journal := d.journal.map (stampRecon s h.nsid h.jseq) }) s)
            match s.deck id with
            | some d => beginUpdate id d h.hand h.hand false 0 h.nsid h.jseq (h.pages.map (·.1)) h.dataJ h.kind h.changed s
            | none => s
        else s) s

/-- A page of a RECON record, not yet a version (09 R256). -/
def reconPage (p : Nat × Bytes) : JPage := { vpage := p.1, valid := 0xFF, zero := 0, poison := 0, data := p.2, ver := 0 }

/-- Start an update of a hand whose lock is granted (09 R265 steps 2 to 4). Under write-through the reconstruction pages go into a RECON record first, and the
intent waits until it is durable; with no room for that record the update waits (R267). -/
def startUpdate (id hd : Nat) (v : Volume) (reads : List BlockRead) (s : State) : State :=
  match s.deck id with
  | none => s
  | some d =>
    let ch := dirtyBlocks s id d hd
    let kind := choosePath s d hd v.nsid (aboveWatermark d hd) ch
    let todo := if kind = .rcw then reconBlocks s id d hd ch else []
    let rec_ := decodeRecon s id d hd todo reads
    let dataJ := ch.any fun x => match verOf s.cache (v.nsid - 1) x.2.2.1 x.2.2.2 with
      | some e => decide (e.state = .dirtyJ)
      | none => false
    let s := (rowsOf ch).foldl (fun s row =>
      runStreams id hd row (lostStreams d (atHand s id d hd row reads) ((todo.filter fun b => decide (b.1 = row)).map (·.2))) s) s
    if s.cache.writeThrough && !rec_.isEmpty then
      let body := JBody.data 0 0 v.nsid true (rec_.map reconPage)
      if !(ringTakesData d (recBlocks body) && indexRoom s id 0) then s
      else
        let (j, s) := appendRec id body true { s with cache := markDestaging (v.nsid - 1) ch s.cache }
        settleStarts id (updDeck id (fun d => holdLock { key := hd, mode := .exclusive, user := .update } { d with
          starting := d.starting ++ [{ hand := hd, nsid := v.nsid, kind := kind, dataJ := dataJ, changed := ch, jseq := j, pages := rec_ }] }) s)
    else
      match installAll .dirty (v.nsid - 1) rec_ s.cache with
      | none => s
      | some c => beginUpdate id d hd hd false 0 v.nsid 0 (rec_.map (·.1)) dataJ kind ch { s with cache := markDestaging (v.nsid - 1) ch c }

/-- HAND_UPDATE_START (09 R257 to R259, R265): it is the hand's turn to be destaged (06 R190, R191). With no free intent entry the update waits for one; then
it waits for the hand's lock. Merges of the hand's pages are completed, an ABSENT member is declared failed first, CLEAN_STOP is cleared, and the
update begins. -/
def execHandUpdateStart (deck hand : Nat) (reads : List BlockRead) (s : State) : Host.Outcome State Fault Refusal :=
  match s.deck deck with
  | none => .next s
  | some d =>
    match handOwner s deck hand with
    | none => .next s
    | some (v, _) =>
      let q : LockReq := { key := hand, mode := .exclusive, user := .update }
      if d.starting.any fun h => decide (h.hand = hand) then .next (settleStarts deck s)
      else if !destageTurn s deck hand then .next (endLock deck q (updDeck deck (fun d => { d with entryWait := d.entryWait.erase hand }) s))
      else if !d.granted.contains q && !d.lockQueue.contains q && !indexRoom s deck hand then
        .next (updDeck deck (fun d => if d.entryWait.contains hand then d else { d with entryWait := d.entryWait ++ [hand] }) s)
      else if !lockGranted s deck d q then .next (askLock deck q (updDeck deck (fun d => { d with entryWait := d.entryWait.erase hand }) s))
      else
        let s1 := { s with cache := (dirtyBlocks s deck d hand).foldl (fun c x => mergePage (v.nsid - 1) x.2.2.1 c) s.cache }
        let s2 := (rowsOf (dirtyBlocks s deck d hand)).foldl (fun s row => chargeTags d hand row reads s) s1
        .next (noteAll s (settleAll (startUpdate deck hand v reads (raiseCeil deck (clearCleanStop deck (failAbsent deck hand
          (updDeck deck (fun d => { d with entryWait := d.entryWait.erase hand }) s2)))))))

/-! ## The member writes (09 R265 steps 5 to 7) -/

/-- The new content of a changed block as the cache holds it: VALID sectors, ZERO and POISON sectors as zero, the rest from the old
page (09 R254; 15 R427). -/
def newPage (c : Cache) (keyNs vpage ver : Nat) (old : Bytes) : Bytes :=
  match verOf c keyNs vpage ver with
  | none => old
  | some e => (List.range 8).flatMap fun i =>
      if bitOf e.valid i then
        (if bitOf e.poison i then zeros 512 else (sectorData c i (resolveSector [e] false i)).getD (zeros 512))
      else sliceBytes old (512 * i) 512

/-- What a row of an update has at hand: good reads, listed blocks as zero, and the reconstruction pages. -/
def updHave (s : State) (id : Nat) (d : Deck) (u : HandUpd) (row : Nat) (reads : List BlockRead) : RowBlocks :=
  let rec_ := (List.range d.label.shape.k).filterMap fun c =>
    match pageFor s id d u.second u.hand row c with
    | some (v, p) =>
      if u.recon.contains p then
        match newestOf s.cache (v.nsid - 1) p with
        | some e => some (c, toMember d.label.shape v p (newPage s.cache (v.nsid - 1) p e.ver (zeros 4096)))
        | none => none
      else none
    | none => none
  if u.second then
    match newLayout d with
    | some nd => (reads.filter fun r => decide (r.row = row) && readGood (retag s nd) u.hand r).map fun r => (r.chunk, r.data)
    | none => []
  else rec_ ++ atHand s id d u.hand row reads

/-- The layout that an update writes. -/
def updLayout (d : Deck) (u : HandUpd) : Deck := if u.second then (newLayout d).getD d else d

/-- A read-modify-write of a row can be made: the old parity and the old blocks that change are at hand. -/
def rmwReady (ld : Deck) (u : HandUpd) (have_ : RowBlocks) (row : Nat) : Bool :=
  decide (u.kind = .rmw) && (parityAt ld u.hand).all (fun j => tblHas have_ (ld.label.shape.k + j)) &&
    (u.changed.filter fun x => decide (x.1 = row)).all fun x => tblHas have_ x.2.1

/-- Data chunks of a row that are lost, and that the update does not write anew as a whole: more than m blocks of the row are lost (10 R282). -/
def lostIn (s : State) (id : Nat) (d : Deck) (u : HandUpd) (reads : List BlockRead) (row : Nat) : List Nat :=
  let ld := updLayout d u
  let have_ := updHave s id d u row reads
  if rmwReady ld u have_ row || (rowOld ld have_).isSome then []
  else (neededOld s .rcw u.nsid ld.label.shape.k row u.changed).filter fun c => !tblHas have_ c

/-- A changed block has a place that its new content is written to: its chunk is current there, or the block was listed and the place lies on a live member
(10 R281). -/
def blockWritable (s : State) (id : Nat) (d ld : Deck) (u : HandUpd) (row c : Nat) : Bool :=
  chunkWritable ld u.hand c || (!u.second && blockListed s id d u.hand row c && (livePlace ld u.hand c).isSome)

/-- The new blocks of a row: changed data and parity. Lost blocks of a row that has lost more than m are zero, and are written as zero where they have a
place (10 R282 step 3); while they could not be listed the row gets no parity and no zero (R287). `s0` is the state before the listings. -/
def rowWrites (s0 s : State) (id : Nat) (d0 d : Deck) (u : HandUpd) (reads : List BlockRead) (listed : Bool) (row : Nat) : RowBlocks :=
  let ld := updLayout d u
  let sh := ld.label.shape
  let have_ := updHave s id d u row reads
  let lost := lostIn s0 id d0 u reads row
  let bare := (lost.map fun c => (c, zeros 4096)) ++ have_
  let old := if lost.isEmpty then (rowOld ld have_).getD have_ else bare
  let data := u.changed.filterMap fun x =>
    if x.1 = row then
      match pageFor s id d u.second u.hand row x.2.1 with
      | some (v, p) =>
        let was := fromMember d.label.shape v p (fitBytes 4096 (rowBlock old x.2.1))
        some (x.2.1, toMember d.label.shape v p (newPage s.cache (v.nsid - 1) p x.2.2.2 was))
      | none => none
    else none
  let zero := lost.filter fun c => (livePlace ld u.hand c).isSome && !tblHas data c
  let par :=
    if !listed && !lost.isEmpty then []
    else if rmwReady ld u have_ row then
      (parityAt ld u.hand).map fun j =>
        (sh.k + j, updateParity sh.m j (rowBlock have_ (sh.k + j)) (data.map fun x => (x.1, rowBlock have_ x.1, x.2)))
    else (encodeRow sh.k sh.m 4096 (data ++ old)).filter fun x => (parityAt ld u.hand).contains (x.1 - sh.k)
  data.filter (fun x => blockWritable s0 id d ld u row x.1) ++ (if listed then zero.map fun c => (c, zeros 4096) else []) ++ par

/-- Make an intent entry durable at once in a record of its own. Its WSEQ and the state. -/
def durableIntent (id : Nat) (i : Intent) (s : State) : Nat × State :=
  let s := raiseCeil id s
  match s.deck id with
  | none => (0, s)
  | some d =>
    let i := { i with wseq := d.wseq, durable := true }
    let s := s.setDeck id { d with wseq := d.wseq + 1 }
    let (j, s) := appendGen id (intentGen d i.newGen) (.intent [i]) true s
    (i.wseq, updDeck id (fun d => { d with intents := d.intents ++ [{ i with jseq := some j }] }) s)

/-- Data chunks of a list. -/
def dataOnly (d : Deck) (l : List Nat) : List Nat := l.filter fun c => decide (c < d.label.shape.k)

/-- Parity chunks with a place on a live member, by row index. -/
def liveParity (d : Deck) (hd : Nat) : List Nat :=
  (List.range d.label.shape.m).filter fun j => (livePlace d hd (d.label.shape.k + j)).isSome

/-- The intent of step 1 of R282. -/
def overflowIntent (d : Deck) (hd first last : Nat) (lost : List Nat) : Intent :=
  { wseq := 0, hand := hd, kind := .rcw, blkFirst := first, blkLast := last, dmask := bitmapOf (dataOnly d lost),
    pmask := bitmapOf (liveParity d hd), degraded := true, dataJ := false, mmask := bitmapOf (dataOnly d lost), reconJseq := 0,
    jseq := none, durable := false, newGen := false }

/-- The chunk tag of a block that an update writes (07 R230, 09 R252). -/
def updTag (ld : Deck) (e : MemberEntry) (hd row c wseq : Nat) (data : Bytes) : Option ChunkTag :=
  let t : ChunkTag := { crc := 0, gen := ld.label.generation, hand := hd, chunk := c, block := row, wseq := wseq % 2 ^ 28 }
  if e.tagged then some { t with crc := tagCrc data t } else none

/-- A write of one block to its place, for the member that holds it. -/
def blockWrite (ld : Deck) (hd row c wseq : Nat) (data : Bytes) : Option WaitWrite :=
  match memberAt ld hd c with
  | none => none
  | some mem =>
    match memberOf ld mem with
    | none => none
    | some e => e.slot.map fun x =>
        { slot := x, chunk := c, offset := rowOffset ld hd row, data := data, tag := updTag ld e hd row c wseq data }

/-- Send block writes: one command for each chunk; a drive with a volatile cache then has writes to flush (09 R253). -/
def sendWrites (id hd : Nat) (ws : List WaitWrite) (s : State) : State :=
  let s := ws.foldl (fun s w => emit (.memberWrite w.slot w.offset w.data w.tag) s) s
  let heads := ws.foldl (fun (l : List (Nat × Nat)) w => if l.contains (w.slot, w.chunk) then l else l ++ [(w.slot, w.chunk)]) []
  heads.foldl (fun s h =>
    let own := ws.filter fun w => decide (w.slot = h.1)
    issueTo h.1 0x01 (.write id hd h.2) (4096 * own.length) (own.flatMap (·.data)) s) s

/-- The streams of a row of an update (09 R255). -/
def rowStreams (d : Deck) (u : HandUpd) (row : Nat) : List ParityStream :=
  let ld := updLayout d u
  let sh := ld.label.shape
  match u.kind with
  | .rmw => rmwStreams sh.k sh.m ((u.changed.filter fun x => decide (x.1 = row)).map fun x => x.2.1) (parityAt ld u.hand)
  | _ => [encodeStream sh.k sh.m]

/-- Put an update back. -/
def putUpd (u : HandUpd) (d : Deck) : Deck :=
  { d with updates := d.updates.map fun x => if x.wseq = u.wseq then u else x }

/-- Rows of an update that have lost more than m blocks (10 R282). -/
def overflowRows (s : State) (id : Nat) (d : Deck) (u : HandUpd) (reads : List BlockRead) : List Nat :=
  (rowsOf u.changed).filter fun row => !(lostIn s id d u reads row).isEmpty

/-- A listing that was refused locks the volume for writing (10 R287). -/
def lockIfRefused (nsid : Nat) (r : Bool × State) : Bool × State :=
  if r.1 then r else (false, updVolTable nsid (fun v => { v with writeLock := true }) r.2)

/-- Steps 1 and 2 of R282 for the rows of an update that have lost more than m blocks: an intent of their own, and one listing of their lost blocks. With the
listing refused, WRITE_LOCK is set and that intent is released (10 R287). The Bool is whether the rows are listed; the number the WSEQ of the intent. -/
def listLost (id : Nat) (u : HandUpd) (reads : List BlockRead) (s : State) : Bool × Option Nat × State :=
  match s.deck id with
  | none => (true, none, s)
  | some d =>
    let rows := overflowRows s id d u reads
    if rows.isEmpty then (true, none, s)
    else
      let lost := (rows.flatMap (lostIn s id d u reads)).eraseDups
      let pages := rows.flatMap fun row => (lostIn s id d u reads row).filterMap fun c => (pageFor s id d u.second u.hand row c).map (·.2)
      let i := overflowIntent (updLayout d u) u.hand (firstRow rows) (lastRow rows) lost
      let (w, s) := durableIntent id { i with newGen := u.second } s
      let (ok, s) := lockIfRefused u.nsid (listPages u.nsid pages s)
      if ok then (true, some w, s) else (false, none, releaseIntent id w s)

/-- Versions with every sector VALID and none POISON clear their listing; versions with a POISON sector are listed (10 R286, R287; 15 R427). -/
def relist (u : HandUpd) (s : State) : State :=
  let es := u.changed.filterMap fun x => verOf s.cache (u.nsid - 1) x.2.2.1 x.2.2.2
  let s := clearPages u.nsid ((es.filter fun e => decide (e.valid = 0xFF) && decide (e.poison = 0)).map (·.vpage)) s
  match s.vol u.nsid with
  | none => s
  | some v =>
    let bad := ((es.filter fun e => decide (e.poison ≠ 0)).map (·.vpage)).filter fun p => !isListed v p
    if bad.isEmpty then s else (lockIfRefused u.nsid (listPages u.nsid bad s)).2

/-- Issue the writes of an update (09 R265 step 7): those to a failed-pending member wait (12 R347). A changed page of a row that gets no parity stays dirty
when its block has no place (10 R287). -/
def issueUpdate (id : Nat) (u : HandUpd) (reads : List BlockRead) (s0 : State) : State :=
  match s0.deck id with
  | none => s0
  | some d0 =>
    let lostRows := overflowRows s0 id d0 u reads
    let (listed, extra, s) := listLost id u reads s0
    let s := relist u s
    match s.deck id with
    | none => s
    | some d =>
      let ld := updLayout d u
      let ws := (rowsOf u.changed).flatMap fun row =>
        (rowWrites s0 s id d0 d u reads listed row).filterMap fun b => blockWrite (if u.second then retag s ld else ld) u.hand row b.1 u.wseq b.2
      let now := ws.filter fun w => slotReachable (s.slot w.slot)
      let later := ws.filter fun w => !slotReachable (s.slot w.slot)
      let bare := fun row => !listed && lostRows.contains row
      let gone := u.changed.filter fun x => bare x.1 && !blockWritable s0 id d ld u x.1 x.2.1
      let back := fun (e : DirEntry) =>
        if e.keyNs = u.nsid - 1 ∧ gone.any (fun x => decide (x.2.2.1 = e.vpage) && decide (x.2.2.2 = e.ver)) = true then
          match e.state with
          | .destaging => { e with state := .dirty }
          | .destagingJ => { e with state := .dirtyJ }
          | _ => e
        else e
      let s := updDeck id (fun d => { d with lostReads := d.lostReads.filter fun l => !decide (l.1 = u.hand) }) s
      let s := { s with cache := accessPages (u.changed.map fun x => (u.nsid - 1, x.2.2.1)) { s.cache with dir := s.cache.dir.map back } }
      let rows := (rowsOf u.changed).filter fun row => !bare row
      let u := { u with issued := true, todo := later, changed := u.changed.filter (fun x => !gone.contains x), overflow := extra }
      let s := updDeck id (putUpd u) s
      let s := rows.foldl (fun s row => runStreams id u.hand row (rowStreams d u row) s) s
      sendWrites id (if u.second then newKey u.hand else u.hand) now s

/-- INTENT_DURABLE (09 R260, R265): the record that carries the intent is durable on every current keeper; the update's member writes are
issued. -/
def execIntentDurable (deck wseq : Nat) (reads : List BlockRead) (s : State) : Host.Outcome State Fault Refusal :=
  match s.deck deck with
  | none => .next s
  | some d =>
    match d.intents.find? (fun i => decide (i.wseq = wseq)), d.updates.find? (fun u => decide (u.wseq = wseq)) with
    | some i, some u =>
      if !i.jseq.any (recDurable s deck d) || u.issued then .next s
      else
        let s1 := s.setDeck deck { d with intents := d.intents.map fun x => if x.jseq = i.jseq then { x with durable := true } else x }
        let s2 := if u.second then s1 else (rowsOf u.changed).foldl (fun s row => chargeTags d u.hand row reads s) s1
        .next (noteAll s (settleAll (issueUpdate deck u reads s2)))
    | _, _ => .next s

/-- Send the writes that waited for a slot which can be reached again (12 R347, R354). -/
def sendWaiting (x : Nat) (s : State) : State :=
  s.decks.decks.foldl (fun s p =>
    p.2.updates.foldl (fun s u =>
      let now := u.todo.filter fun w => decide (w.slot = x)
      if now.isEmpty then s
      else
        sendWrites p.1 (if u.second then newKey u.hand else u.hand) now
          (updDeck p.1 (putUpd { u with todo := u.todo.filter fun w => !decide (w.slot = x) }) s)) s) s

/-! ## Completion (09 R265 steps 8 and 9; 11 R321) -/

/-- Deck hands of the new layout, below the copy position or copied beyond it, that hold a changed page (11 R319, R321). -/
def dualHands (s : State) (d : Deck) (u : HandUpd) : List Nat :=
  match d.redeal, newLayout d with
  | some run, some nd =>
    let ext := tblGet run.newExtents u.nsid []
    u.changed.foldl (fun l x =>
      match s.vol u.nsid with
      | none => l
      | some v =>
        let base := metaPage d.label.shape v
        let base' := metaPage nd.label.shape v
        let p := if x.2.2.1 < base then x.2.2.1 else x.2.2.1 - base + base'
        let vh := (blockOfPage nd.label.shape p).1
        let copied := match run.position with
          | none => true
          | some (n, h) => decide (u.nsid < n) || (decide (u.nsid = n) && decide (vh < h)) || run.copied.contains (u.nsid, vh)
        match extentHand ext vh with
        | some hd => if copied && !l.contains hd then l ++ [hd] else l
        | none => l) []
  | _, _ => []

/-- The changed blocks of a first update as they lie in a hand of the new layout. -/
def dualBlocks (s : State) (d nd : Deck) (run : RedealRun) (u : HandUpd) (hd : Nat) : List (Nat × Nat × Nat × Nat) :=
  u.changed.filterMap fun x =>
    match s.vol u.nsid with
    | none => none
    | some v =>
      let base := metaPage d.label.shape v
      let base' := metaPage nd.label.shape v
      let p := if x.2.2.1 < base then x.2.2.1 else x.2.2.1 - base + base'
      let b := blockOfPage nd.label.shape p
      if extentHand (tblGet run.newExtents u.nsid []) b.1 = some hd then some (b.2.1, b.2.2, x.2.2.1, x.2.2.2) else none

/-- Start the second updates whose new hand's lock is free (11 R321). -/
def startDuals (id : Nat) (s : State) : State :=
  match s.deck id with
  | none => s
  | some d0 =>
    d0.updates.foldl (fun s u =>
      u.dual.foldl (fun s hd =>
        match s.deck id with
        | none => s
        | some d =>
          match d.redeal, newLayout d with
          | some run, some nd =>
            let q : LockReq := { key := newKey hd, mode := .exclusive, user := .update }
            if !d.granted.contains q && !d.lockQueue.contains q && !indexRoom s id hd then s
            else if !lockGranted s id d q then askLock id q s
            else
              let ch := dualBlocks s d nd run u hd
              let kind := choosePath s nd hd u.nsid false ch
              let nd := { nd with wseq := d.wseq }
              let s := beginUpdate id nd hd (newKey hd) true u.wseq u.nsid 0 [] false kind ch s
              updDeck id (fun d => { d with updates := d.updates.map fun x => if x.wseq = u.wseq then { x with dual := x.dual.erase hd } else x }) s
          | _, _ => s) s) s

/-- Slots that an update has written. -/
def updSlots (d : Deck) (u : HandUpd) : List Nat :=
  let ld := updLayout d u
  (List.range (widthOf ld.label.shape)).filterMap fun c =>
    if (livePlace ld u.hand c).isSome && (decide (ld.label.shape.k ≤ c) || u.overflow.isSome || u.changed.any fun x => decide (x.2.1 = c)) then
      (memberAt ld u.hand c).bind (slotOfMember ld)
    else none

/-- HAND_UPDATE_WRITES_COMPLETE (09 R265 step 8, R253; 12 R346): the lock is released, unless a write still waits or a tag of one is
quarantined or withheld; then the second updates of a dual write begin (11 R321). -/
def execHandUpdateWritesComplete (deck wseq : Nat) (s : State) : Host.Outcome State Fault Refusal :=
  match s.deck deck with
  | none => .next s
  | some d =>
    match d.updates.find? fun u => decide (u.wseq = wseq) with
    | none => .next s
    | some u =>
      let key := if u.second then newKey u.hand else u.hand
      if !u.issued || u.complete || !u.todo.isEmpty || handHeld s deck key then .next s
      else
        let s1 := dropTags (isHandWrite deck key) s
        let s2 := (updSlots d u).foldl (fun s x =>
          updSlot x (fun v => { v with unflushed := v.unflushed || ((v.info.map (·.vwc)).getD false) }) s) s1
        let u := { u with complete := true, dual := if u.second then [] else dualHands s d u }
        .next (startDuals deck (releaseLock deck key (updDeck deck (putUpd u) s2)))

/-- Issue a Flush to a member with completed writes that are not yet durable (09 R253). -/
def flushSlot (x : Nat) (s : State) : State :=
  let v := s.slot x
  if v.unflushed && slotReachable v then
    let port := (servingPort v).getD 0
    issueOn x port 0x00 .flush 0 [] (emit (.memberCmd x port 0x00 0) (updSlot x (fun v => { v with unflushed := false }) s))
  else s

/-- MEMBER_FLUSH_DEADLINE (09 R253). -/
def execMemberFlushDeadline (slot : Nat) (s : State) : Host.Outcome State Fault Refusal := .next (flushSlot slot s)

/-- Every Flush that makes the writes of an update durable has been issued and has completed (09 R253). -/
def flushed (s : State) (d : Deck) (u : HandUpd) : Bool :=
  (updSlots d u).all fun x =>
    let v := s.slot x
    !v.unflushed && !(slotTags v).any fun t => decide (t.work = .flush)

/-- HAND_UPDATE_DURABLE (06 R191; 09 R265 step 9; 11 R321): the intent is released; when the other update of a dual write is durable
too, the pages become CLEAN, their DATA records are trimmed, frames that waited for the destage retire (06 R196), and the image is released
when it holds nothing else (02 R63). -/
def execHandUpdateDurable (deck wseq : Nat) (s : State) : Host.Outcome State Fault Refusal :=
  match s.deck deck with
  | none => .next s
  | some d =>
    match d.updates.find? fun u => decide (u.wseq = wseq) with
    | none => .next s
    | some u =>
      if !u.complete || u.durable || !flushed s d u then .next s
      else
        let s1 := releaseIntent deck wseq (updDeck deck (putUpd { u with durable := true }) s)
        let s1 := serveEntries deck (match u.overflow with | some w => releaseIntent deck w s1 | none => s1)
        let root := if u.second then u.parent else u.wseq
        match s1.deck deck with
        | none => .next s1
        | some d1 =>
          let group := d1.updates.filter fun x => decide (x.wseq = root) || (x.second && decide (x.parent = root))
          if group.all fun x => x.durable && x.dual.isEmpty then
            let s2 := s1.setDeck deck { d1 with updates := d1.updates.filter fun x => !group.contains x }
            let s3 := (group.filter fun x => !x.second).foldl (fun s x => finishPages x s) s2
            .next (retryStalled (maybeReleaseImage (wtRecord (trimData deck { s3 with cache := retireDestaged s3.cache }))))
          else .next s1

end Sys2Proof.Machine
end

