-- ==== Sys2Proof/Machine/Protection.lean ====
section
/-! DEFINITION. Protection information of host blocks: its codes, its fields, its generation and its check (15 R433). -/

namespace Sys2Proof.Machine

/-- The host transfers no metadata: PRACT = 1, and the metadata is the protection information (15 R433; 05 R146). -/
def stripsPi (v : Volume) (pract : Bool) : Bool := pract && decide (v.dps % 8 ≠ 0)

/-- SCT and SC of a failed protection information check (15 R433). -/
def piStatus : PiError → Nat
  | .guard => 0x282
  | .appTag => 0x283
  | .refTag => 0x284

/-- One bit of the 16-bit guard: the polynomial 0x8BB7, most significant bit first (PRESUMED: the NVM Command Set's, assumption 141). -/
def guard16Step (r : BitVec 16) : BitVec 16 := if r.msb then (r <<< 1) ^^^ 0x8BB7 else r <<< 1

def guard16Byte (r : BitVec 16) (b : Byte) : BitVec 16 :=
  let r := r ^^^ (b.setWidth 16 <<< 8)
  guard16Step (guard16Step (guard16Step (guard16Step (guard16Step (guard16Step (guard16Step (guard16Step r)))))))

/-- The 16-bit guard of formats 1 and 3. -/
def guard16 (bs : Bytes) : Nat := (bs.foldl guard16Byte 0).toNat

/-- One bit of the 64-bit guard: the reflected polynomial of the NVM Command Set (PRESUMED, assumption 141). -/
def guard64Step (r : BitVec 64) : BitVec 64 := if r.getLsbD 0 then (r >>> 1) ^^^ 0x9A6C9329AC4BC9B5 else r >>> 1

def guard64Byte (r : BitVec 64) (b : Byte) : BitVec 64 :=
  let r := r ^^^ b.setWidth 64
  guard64Step (guard64Step (guard64Step (guard64Step (guard64Step (guard64Step (guard64Step (guard64Step r)))))))

/-- The 64-bit guard of format 4. -/
def guard64 (bs : Bytes) : Nat := ((bs.foldl guard64Byte 0xFFFFFFFFFFFFFFFF) ^^^ 0xFFFFFFFFFFFFFFFF).toNat

/-- Bytes of the guard of a volume's format: 8 for format 4, else 2 (15 R433). -/
def guardLen (v : Volume) : Nat := if v.lbaf = 4 then 8 else 2

/-- Bytes of the reference tag beside it. -/
def refLen (v : Volume) : Nat := if v.lbaf = 4 then 6 else 4

/-- The guard of one block of a volume. -/
def guardOf (v : Volume) (block : Bytes) : Nat := if v.lbaf = 4 then guard64 block else guard16 block

/-- The number that bytes hold, most significant first. -/
def bigNat (bs : Bytes) : Nat := leNat bs.reverse

/-- The reference tag of the `i`th block of a command: it rises with the block, but for type 3 (PRESUMED, assumption 141). -/
def refTagAt (v : Volume) (a : PiArgs) (i : Nat) : Nat :=
  (if v.dps % 8 = 3 then a.refTag else a.refTag + i) % 256 ^ refLen v

/-- The protection information of the `i`th block of a command: guard, application tag, reference tag. -/
def piOf (v : Volume) (a : PiArgs) (i : Nat) (block : Bytes) : Bytes :=
  beBytes (guardLen v) (guardOf v block) ++ beBytes 2 a.appTag ++ beBytes (refLen v) (refTagAt v a i)

/-- The stored tags bear an escape value, so nothing of the block is checked (15 R433). -/
def piEscape (v : Volume) (app ref : Nat) : Bool :=
  decide (app = 0xFFFF) && (decide (v.dps % 8 ≠ 3) || decide (ref = 256 ^ refLen v - 1))

/-- The checks that PRCHK selects of the `i`th block: guard, application tag under its mask, reference tag (15 R433). -/
def piCheckBlock (v : Volume) (a : PiArgs) (i : Nat) (block pi : Bytes) : Option PiError :=
  let g := guardLen v
  let app := bigNat (sliceBytes pi g 2)
  let ref := bigNat (sliceBytes pi (g + 2) (refLen v))
  if piEscape v app ref then none
  else if a.prchk.getLsbD 2 && !decide (bigNat (sliceBytes pi 0 g) = guardOf v block) then some .guard
  else if a.prchk.getLsbD 1 && !decide (app &&& a.appMask = a.appTag &&& a.appMask) then some .appTag
  else if a.prchk.getLsbD 0 && decide (v.dps % 8 ≠ 3) && !decide (ref = refTagAt v a i) then some .refTag
  else none

/-- The first failed check of a command's blocks; none where the volume has no protection information. -/
def piCheck (v : Volume) (a : PiArgs) (blocks : Nat) (data md : Bytes) : Option PiError :=
  let f := (lbaFormat v.lbaf).getD (4096, 0)
  if v.dps % 8 = 0 then none
  else (List.range blocks).findSome? fun i => piCheckBlock v a i (sliceBytes data (f.1 * i) f.1) (sliceBytes md (f.2 * i) f.2)

/-- The protection information the controller generates for a write with PRACT = 1 (15 R433). -/
def piGenerate (v : Volume) (a : PiArgs) (blocks : Nat) (data : Bytes) : Bytes :=
  let l := ((lbaFormat v.lbaf).getD (4096, 0)).1
  (List.range blocks).flatMap fun i => piOf v a i (sliceBytes data (l * i) l)

/-- The metadata a write stores: the host's, or what the controller generates; or the failed check (15 R433). -/
def protectWrite (v : Volume) (a : PiArgs) (pract : Bool) (blocks : Nat) (data md : Bytes) : Except PiError Bytes :=
  if stripsPi v pract then .ok (piGenerate v a blocks data)
  else
    match piCheck v a blocks data md with
    | some e => .error e
    | none => .ok md

end Sys2Proof.Machine
end

