-- ==== Sys2Proof/Machine/IO.lean ====
section
/-!
DEFINITION. I/O commands: data pointers, the checks of a command, reads with their fills, the staging and the switch of writes, the
Controller Memory Buffer and the peer windows (04 R114 to R125, R135; 06 R177 to R183, R189, R193, R197 to R204; 09 R270; 10 R285).
-/

namespace Sys2Proof.Machine

/-! ## Data in the Controller Memory Buffer -/

/-- Write data that lies in a poisoned sector of the buffer (06 R199). -/
def dataPoisoned (s : State) (ctl : Nat) (ps : List (Option Nat × Nat)) : Bool :=
  ps.any fun p => match p.1.bind fun a => inCmb (s.ctl ctl) a p.2 with
    | some off => (cmbBytes s ctl off p.2).2
    | none => false

/-- The bytes of a transfer from the host: the pieces that lie in the buffer as it holds them (06 R197), the others as read from host memory. -/
def heldData (s : State) (ctl : Nat) : List (Option Nat × Nat) → Bytes → Bytes
  | [], bs => bs
  | p :: ps, bs =>
    (match p.1.bind fun a => inCmb (s.ctl ctl) a p.2 with
     | some off => (cmbBytes s ctl off p.2).1
     | none => bs.take p.2) ++ heldData s ctl ps (bs.drop p.2)

/-- Halt a queue at the entry of a command that is fetched (04 R126, R127): the command and those after it are no longer fetched, and
leave nothing. A queue that is HALTED at a later entry takes the record of this one. -/
def haltAt (ref : CmdRef) (reason info : Nat) (s : State) : State :=
  match findSq (s.ctl ref.ctl) ref.sqid with
  | none => s
  | some q =>
    let before := q.rob.takeWhile fun e => decide (e.cid ≠ ref.cid)
    let gone := q.rob.drop before.length
    let s := keepDropped ref.ctl (gone.foldl (fun s e => dropWork { ref with cid := e.cid } s) s)
    let q' := { q with rob := before, head := (q.head + q.size - gone.length % q.size) % q.size }
    updateLtr ref.ctl (wtRecord (haltAs ref.ctl q' reason info (some ref.cid) s))

/-! ## Checks of an I/O command -/

/-- Why a volume cannot be reached (05 R148; 02 R68), as the path status of NVMe (PRESUMED, log 35): Persistent Loss, Inaccessible, or
not ready; 0 when it can. -/
def offlineStatus (s : State) (v : Volume) : Nat :=
  if s.mode.mode = .quarantine ∧ s.mode.bootFault = 3 then 0x82
  else
    match s.deck v.deckId with
    | none => 0x82
    | some d =>
      if d.label.deckState = 7 then (if d.pending then 0x302 else 0x301)
      else if s.mode.mode = .quarantine ∧ d.dataLost = true then 0x82 else 0

/-- Status of a volume for a command, 0 when it may go on (05 R145, R157, R158, R160; 10 R287; 17 R495). -/
def volStatus (s : State) (ctl nsid : Nat) (isWrite : Bool) : Nat :=
  match s.vol nsid with
  | none => 0x0B
  | some v =>
    if !v.attached.contains ctl then 0x02
    else if sanitizeBar s ≠ 0 then sanitizeBar s
    else if v.formatLeft.isSome || decide (v.vstate = 2) then 0x84
    else if offlineStatus s v ≠ 0 then offlineStatus s v
    else if isWrite && volProtected s v then 0x20
    else 0

/-- L and M of a volume. -/
def volFormat (v : Volume) : Nat × Nat := (lbaFormat v.lbaf).getD (4096, 0)

/-- Bytes that move through the data pointer. -/
def transferLen (v : Volume) (blocks : Nat) (pract : Bool) : Nat :=
  let f := volFormat v
  blocks * f.1 + (if v.extended && !stripsPi v pract then blocks * f.2 else 0)

/-- Bytes of the separate metadata buffer of a command, 0 when it has none. -/
def separateLen (v : Volume) (blocks : Nat) (pract : Bool) : Nat := if v.extended || stripsPi v pract then 0 else blocks * (volFormat v).2

/-- The pieces of host memory of an I/O command's transfer: those of its data pointer, and its separate metadata buffer (04 R114). -/
def ioPieces (mps : Nat) (v : Volume) (a : IoArgs) : List (Option Nat × Nat) :=
  let n := separateLen v (a.nlb + 1) a.pract
  ptrPieces mps (transferLen v (a.nlb + 1) a.pract) a.ptr ++ (match a.mptr with | some p => if n = 0 then [] else [(some p, n)] | none => [])

/-- The order in which a transfer moves data and metadata: extended metadata follows the data of each block, separate metadata follows all data
(05 R146; NVMe's layout, PRESUMED, log 34). -/
def joinTransfer (v : Volume) (blocks : Nat) (pract : Bool) (data md : Bytes) : Bytes :=
  let f := volFormat v
  if stripsPi v pract then data
  else if v.extended then (List.range blocks).flatMap fun i => sliceBytes data (f.1 * i) f.1 ++ sliceBytes md (f.2 * i) f.2
  else data ++ md

/-- The data and the metadata of a transfer's bytes. -/
def splitTransfer (v : Volume) (blocks : Nat) (pract : Bool) (bs : Bytes) : Bytes × Bytes :=
  let f := volFormat v
  if v.extended && !stripsPi v pract then
    ((List.range blocks).flatMap fun i => sliceBytes bs ((f.1 + f.2) * i) f.1, (List.range blocks).flatMap fun i => sliceBytes bs ((f.1 + f.2) * i + f.1) f.2)
  else (bs.take (blocks * f.1), bs.drop (blocks * f.1))

/-- A failed protection information check: event 0x8030, and the command completes without effect (15 R433). -/
def failPi (ref : CmdRef) (e : PiError) (s : State) : State :=
  abandonCmd ref (piStatus e) (recordEvent 0x8030 [ref.ctl, ref.sqid, ref.cid, piStatus e] s)

/-- Checks of NSID, size and range that the commands with an LBA range share (04 R118), 0 when they pass. -/
def rangeStatus (s : State) (a : IoArgs) (isWrite : Bool) : Nat :=
  let st := volStatus s a.ref.ctl a.nsid isWrite
  if st ≠ 0 then st
  else
    match s.vol a.nsid with
    | none => 0x0B
    | some v =>
      if 2 * 1048576 < (a.nlb + 1) * (volFormat v).1 then 0x02
      else if v.nsze < a.slba + a.nlb + 1 then 0x80
      else 0

/-- An I/O command may take its step: its entry is open, on an I/O queue, in a mode of service. -/
def ioOpen (s : State) (ref : CmdRef) : Bool := isOpen s ref && decide (ref.sqid ≠ 0) && s.ready

/-- A command is held: it touches the metadata area of an affected volume while the switch of a redeal drains the deck (11 R324). -/
def metaHeld (s : State) (nsid : Nat) : Bool :=
  match s.vol nsid with
  | none => false
  | some v => match s.deck v.deckId with
    | some d => isDraining d && affected d v
    | none => false

/-! ## Page parts of a write -/

/-- Data and metadata byte ranges of a block range in a volume (05 R144). -/
def byteRanges (sh : Shape) (v : Volume) (slba blocks : Nat) : (Nat × Nat) × (Nat × Nat) :=
  let f := volFormat v
  ((slba * f.1, blocks * f.1), (metaStart sh v.nsze f.1 + slba * f.2, blocks * f.2))

/-- Volume pages that a byte range touches. -/
def pagesOf (off len : Nat) : List Nat :=
  if len = 0 then [] else (List.range ((off + len - 1) / 4096 - off / 4096 + 1)).map (off / 4096 + ·)

/-- The part of one page in a byte range that is written: whole sectors by `mask`, sectors partly written by `spans` too (log 36). -/
def partOf (keyNs page off len : Nat) (data : Bytes) (zero : Bool) : PagePart :=
  let lo := max off (page * 4096) - page * 4096
  let hi := min (off + len) ((page + 1) * 4096) - page * 4096
  let bytes := sliceBytes data (max off (page * 4096) - off) (hi - lo)
  let touched := sectorMask (lo / 512) (ceilDiv hi 512)
  let whole := sectorMask (ceilDiv lo 512) (hi / 512)
  let edge := (List.range 8).filterMap fun i =>
    if bitOf touched i && !bitOf whole i then
      let a := max lo (512 * i)
      let b := min hi (512 * (i + 1))
      some (a, sliceBytes bytes (a - lo) (b - a))
    else none
  { ns := keyNs, vpage := page, mask := touched, zero := if zero then whole else 0, poison := 0,
    data := zeros lo ++ bytes ++ zeros (4096 - hi), spans := edge, base := none, home := none }

/-- The parts of a write of a block range: data, and metadata. -/
def writeParts (sh : Shape) (v : Volume) (slba blocks : Nat) (data md : Bytes) (zero : Bool) : List PagePart :=
  let r := byteRanges sh v slba blocks
  (pagesOf r.1.1 r.1.2).map (fun p => partOf (v.nsid - 1) p r.1.1 r.1.2 data zero) ++
  (pagesOf r.2.1 r.2.2).map fun p => partOf (v.nsid - 1) p r.2.1 r.2.2 md zero

/-- Two parts of one page, made one: the metadata area's first page is never a data page, so only ranges of one command meet here. -/
def joinPart (a b : PagePart) : PagePart :=
  let data := (List.range 8).flatMap fun i => sliceBytes (if bitOf b.mask i then b.data else a.data) (512 * i) 512
  { a with mask := a.mask ||| b.mask, zero := (a.zero &&& ~~~ b.mask) ||| b.zero, data := data, spans := a.spans ++ b.spans }

/-- Add a part to a list that has one part for each page. -/
def addPart (p : PagePart) : List PagePart → List PagePart
  | [] => [p]
  | q :: qs => if q.ns = p.ns ∧ q.vpage = p.vpage then joinPart q p :: qs else q :: addPart p qs

/-- The sector of a page that a partly written sector is completed with: the newest committed version's, else the members' as a fill
brought it; none while it is not at hand. -/
def baseSector (c : Cache) (p : PagePart) (i : Nat) : Option Bytes :=
  match sectorData c i (resolveSector (versionsOf c p.ns p.vpage) false i) with
  | some b => some b
  | none => p.base.map fun b => sliceBytes b (512 * i) 512

/-- Sectors of a part that are partly written. -/
def edgeSectors (p : PagePart) : List Nat := (List.range 8).filter fun i => p.spans.any fun x => decide (x.1 / 512 = i)

/-- Every partly written sector can be completed. -/
def baseReady (c : Cache) (p : PagePart) : Bool := (edgeSectors p).all fun i => (baseSector c p i).isSome

/-- The data of a part with its partly written sectors completed. -/
def mergedData (c : Cache) (p : PagePart) : Bytes :=
  (List.range 8).flatMap fun i =>
    if (edgeSectors p).contains i then
      p.spans.foldl (fun b x =>
        if x.1 / 512 = i then b.take (x.1 % 512) ++ x.2 ++ b.drop (x.1 % 512 + x.2.length) else b)
        ((baseSector c p i).getD (zeros 512))
    else sliceBytes p.data (512 * i) 512

/-! ## Staging (06 R179, R182, R189) -/

/-- Raise SEQ_RESERVED before the first host write after a boot or a flush (14 R416). -/
def raiseSeq (s : State) : State :=
  if s.vault.seqRaised then s
  else
    let s := reserveSeq s
    { s with vault := { s.vault with seqRaised := true } }

/-- The place of a page's block: deck hand, row and chunk (05 R144; 07 R214, R215). -/
def fillPlace (d : Deck) (v : Volume) (page : Nat) : Option (Nat × Nat × Nat) :=
  let b := blockOfPage d.label.shape page
  (extentHand v.extents b.1).map fun hd => (hd, b.2.1, b.2.2)

/-- The request of a decode for the SHARED lock of its hand (09 R258; 10 R278). -/
def decodeReq (hd keyNs vpage : Nat) : LockReq := { key := hd, mode := .shared, user := .decode keyNs vpage }

/-- Allocate the frame of a fill, which draws its WSEQ (06 R173, R178), and read its block from its member when it is present. Else the SHARED lock of the
hand is taken, or waited for, and the blocks that the decode needs are read (10 R278). -/
def beginFill (id : Nat) (d : Deck) (v : Volume) (page : Nat) (s : State) : State :=
  let key := v.nsid - 1
  if s.cache.fills.contains (key, page) then s
  else
    let c := { s.cache with fills := (key, page) :: s.cache.fills }
    let c := match (pageRegions c.fenced key page).1 with
      | some r =>
        match allocFrame r (pageSet key page (setsOf c)) c with
        | some (f, c) =>
          let (w, c) := drawWseq r c
          { c with dir := newEntry r f .fill key page 0 0 0 r (f % 16) w none :: c.dir }
        | none => c
      | none => c
    let s := { s with cache := c }
    match fillPlace d v page with
    | none => s
    | some (hd, row, ch) =>
      let sh := d.label.shape
      let q := decodeReq hd key page
      if !chunkMissing d hd ch then askReads id d hd row [ch] s
      else if !lockGranted s id d q then askLock id q s
      else askReads id d hd row (decodeReads sh.k sh.m (missingOf d hd)) (updDeck id (holdLock q) s)

/-- Ask for the pages that partly written sectors need (06 R178). -/
def askBase (parts : List PagePart) (s : State) : State :=
  parts.foldl (fun s p =>
    if baseReady s.cache p then s
    else
      match s.vol (p.ns + 1) with
      | none => s
      | some v =>
        match s.deck v.deckId with
        | some d => beginFill v.deckId d v p.vpage s
        | none => s) s

/-- The primary set of a page, which a wait for the dirty limit names. -/
def primarySet (p : PagePart) (c : Cache) : Nat × Nat :=
  (((pageRegions c.fenced p.ns p.vpage).1).getD 0, pageSet p.ns p.vpage (setsOf c))

/-- Put a command's write job. -/
def putJob (ref : CmdRef) (j : WriteJob) (s : State) : State := updRob ref (fun e => { e with job := some j }) s

/-- Stage a write when it is admitted and every set has frames to give (06 R179, R189); else it waits, as one that needs a fill, or that would
be the fifth version of a page (R182), does too. A wait for the dirty limit names the primary set of the first page (DEDUCED, log 124). -/
def tryStage (ref : CmdRef) (parts : List PagePart) (s : State) : State :=
  let wt := s.cache.writeThrough
  let wait := fun (step : WriteStep) (s : State) => putJob ref { step := step, parts := parts, journaled := wt, jseq := 0 } s
  if !parts.all (baseReady s.cache) then askBase parts (wait .blocked s)
  else if !wt && decide (s.cache.limit < dirtyCount s + parts.length) then
    match parts with
    | [] => wait .waiting s
    | p :: _ => noteWait (primarySet p s.cache) (wait .waiting s)
  else
    let full := parts.map fun p => { p with data := mergedData s.cache p }
    match stageParts ref full s.cache with
    | none =>
      match stageBlock ref full s.cache with
      | some at_ => noteWait at_ (wait .waiting s)
      | none => wait .blocked s
    | some (ps, c) => putJob ref { step := .staged, parts := ps, journaled := wt, jseq := 0, order := c.stagedCount + 1 }
        (raiseSeq { s with cache := { accessPages (ps.map fun p => (p.ns, p.vpage)) c with stagedCount := c.stagedCount + 1 } })

/-- Begin a write of parts by a command. -/
def beginWrite (ref : CmdRef) (nsid : Nat) (parts : List PagePart) (s : State) : State :=
  tryStage ref parts (updRob ref (fun e => { e with nsid := nsid }) s)

/-- End the checks of a data pointer: go on, a status, or a halt. -/
def afterPtr (ref : CmdRef) (c : PtrCheck) (go : State → State) (s : State) : State :=
  match c with
  | .good => go s
  | .status n => failCmd ref n s
  | .halt reason info => haltAt ref reason info s

/-- An I/O command with the lists and segments of its data pointer that lie in the buffer as it holds them (06 R197). -/
def cmbArgs (s : State) (v : Volume) (a : IoArgs) : IoArgs :=
  { a with ptr := cmbPtr s a.ref.ctl (transferLen v (a.nlb + 1) a.pract) a.ptr }

/-- The checks of an I/O command's data pointer (04 R114 to R117). -/
def checkIo (s : State) (v : Volume) (isRead : Bool) (a : IoArgs) : PtrCheck :=
  checkPtr (s.ctl a.ref.ctl).mps isRead (transferLen v (a.nlb + 1) a.pract) a.ptr

/-- The data and metadata that an I/O command moves from the host: what lies in the buffer as it holds it, the rest as read from host memory. -/
def hostTransfer (s : State) (v : Volume) (a : IoArgs) (data md : Bytes) : Bytes × Bytes :=
  splitTransfer v (a.nlb + 1) a.pract
    (heldData s a.ref.ctl (ioPieces (s.ctl a.ref.ctl).mps v a) (joinTransfer v (a.nlb + 1) a.pract data md))

/-- IO_WRITE (04 R117, R118; 06 R179, R189; 15 R433). -/
def execIoWrite (args : IoArgs) (data metaData : Bytes) (s : State) : Host.Outcome State Fault Refusal :=
  let ref := args.ref
  if !ioOpen s ref || ((robOf s ref).bind (·.job)).isSome || metaHeld s args.nsid then .next s
  else
    let st := rangeStatus s args true
    if st ≠ 0 then .next (failCmd ref st s)
    else
      match s.vol args.nsid with
      | none => .next s
      | some v =>
        match s.deck v.deckId with
        | none => .next s
        | some d =>
          let a := cmbArgs s v args
          let ps := ioPieces (s.ctl ref.ctl).mps v a
          .next (afterPtr ref (checkIo s v false a) (fun s =>
            if dataPoisoned s ref.ctl ps then failCmd ref 0x04 s
            else
              let x := hostTransfer s v a data metaData
              match protectWrite v args.pi args.pract (args.nlb + 1) x.1 x.2 with
              | .error e => failPi ref e s
              | .ok md =>
                beginWrite ref args.nsid (writeParts d.label.shape v args.slba (args.nlb + 1) x.1 md false)
                  (requestPieces ref ps s)) s)

/-- IO_WRITE_ZEROES (04 R118; 06 R176, R177): every sector of the range, its metadata too, becomes zero. -/
def execIoWriteZeroes (args : IoArgs) (s : State) : Host.Outcome State Fault Refusal :=
  let ref := args.ref
  if !ioOpen s ref || ((robOf s ref).bind (·.job)).isSome || metaHeld s args.nsid then .next s
  else
    let st := rangeStatus s args true
    if st ≠ 0 then .next (failCmd ref st s)
    else
      match s.vol args.nsid with
      | none => .next s
      | some v =>
        match s.deck v.deckId with
        | none => .next s
        | some d => .next (beginWrite ref args.nsid (writeParts d.label.shape v args.slba (args.nlb + 1) [] [] true) s)

/-- The ranges of a Dataset Management command, those in the buffer as it holds them (06 R197; 16 bytes a range, NVMe's layout, PRESUMED, log 34). -/
def heldRanges (s : State) (ref : CmdRef) (ranges : List DsmRange) : List DsmRange :=
  match robOf s ref with
  | none => ranges
  | some e =>
    let ps := ptrPieces (s.ctl ref.ctl).mps (16 * ranges.length) e.ptr
    if ps.all fun p => (p.1.bind fun a => inCmb (s.ctl ref.ctl) a p.2).isNone then ranges
    else
      let bs := heldData s ref.ctl ps (ranges.flatMap fun r => zeros 4 ++ leBytes 4 r.len ++ leBytes 8 r.slba)
      (List.range ranges.length).map fun i => { slba := leNat (sliceBytes bs (16 * i + 8) 8), len := leNat (sliceBytes bs (16 * i + 4) 4) }

/-- IO_DATASET_MANAGEMENT (04 R118): at most 256 ranges and 2 MiB in total; deallocated blocks read as zero. Without the deallocate
attribute nothing changes. -/
def execIoDatasetManagement (ref : CmdRef) (nsid : Nat) (deallocate : Bool) (ranges : List DsmRange) (s : State) :
    Host.Outcome State Fault Refusal :=
  if !ioOpen s ref || ((robOf s ref).bind (·.job)).isSome || metaHeld s nsid then .next s
  else
    let st := volStatus s ref.ctl nsid true
    if st ≠ 0 then .next (failCmd ref st s)
    else
      match s.vol nsid with
      | none => .next s
      | some v =>
        match s.deck v.deckId with
        | none => .next s
        | some d =>
          let ranges := heldRanges s ref ranges
          let total := ranges.foldl (fun n r => n + r.len) 0 * (volFormat v).1
          if ranges.length = 0 ∨ 256 < ranges.length ∨ 2 * 1048576 < total then .next (failCmd ref 0x02 s)
          else if ranges.any fun r => decide (v.nsze < r.slba + r.len) then .next (failCmd ref 0x80 s)
          else
            let parts := if deallocate then
                (ranges.flatMap fun r => if r.len = 0 then [] else writeParts d.label.shape v r.slba r.len [] [] true).foldl
                  (fun l p => addPart p l) []
              else []
            .next (beginWrite ref nsid parts s)

/-- WRITE_ADMIT (06 R189): a write that waits is tried again. -/
def execWriteAdmit (ref : CmdRef) (s : State) : Host.Outcome State Fault Refusal :=
  match (robOf s ref).bind (·.job) with
  | some j => if j.step.hasFrames = false ∧ isOpen s ref = true then .next (tryStage ref j.parts s) else .next s
  | none => .next s

/-! ## Data journaling (06 R193; 09 R270) -/

/-- Every earlier write of the queue is past its commit point or has a durable DATA record, so that the records which a stop brings back are a prefix
of the queue's writes (04 R123; 09 R270). -/
def earlierDurable : List RobEntry → Nat → Bool
  | [], _ => true
  | e :: es, cid =>
    if e.cid = cid then true
    else
      (robDone e || (match e.job with
       | some j => j.journaled && decide (j.step = .recordDurable)
       | none => !isWriteOpcode e.opcode)) && earlierDurable es cid

/-- The order at which the writes of a queue up to a command have all taken their frames: none while one of them has none (09 R270). -/
def stagedOrder : List RobEntry → Nat → Option Nat
  | [], _ => none
  | e :: es, cid =>
    let here := match e.job with
      | some j => if robDone e then some 0 else if j.step.hasFrames then some j.order else none
      | none => if robDone e || !isWriteOpcode e.opcode then some 0 else none
    if e.cid = cid then here else here.bind fun n => (stagedOrder es cid).map (max n)

/-- Pages of a job. -/
def jobPages (j : WriteJob) : List (Nat × Nat) := j.parts.map fun p => (p.ns, p.vpage)

/-- A STAGED command of another queue overlaps, has not committed, and goes first: its record is under way, or its queue took its frames before this
command's queue did (09 R270; which of two waits is DEDUCED, log 37). -/
def overlapAhead (s : State) (ref : CmdRef) (pages : List (Nat × Nat)) : Bool :=
  let mine := (findSq (s.ctl ref.ctl) ref.sqid).bind fun q => stagedOrder q.rob ref.cid
  s.ctls.any fun c => c.2.sqs.any fun q => (decide (c.1 ≠ ref.ctl) || decide (q.id ≠ ref.sqid)) && q.rob.any fun e =>
    !robDone e && (match e.job with
      | some j => j.step.hasFrames && (jobPages j).any pages.contains &&
          (decide (j.step ≠ .staged) || (match stagedOrder q.rob e.cid, mine with | some n, some m => decide (n < m) | _, _ => false))
      | none => false)

/-- The pages of a job as a DATA record holds them (09 R263). -/
def jobRecord (parts : List PagePart) : List JPage :=
  parts.map fun p => { vpage := p.vpage, valid := p.mask ||| p.zero, zero := p.zero, poison := p.poison, data := p.data, ver := 0 }

/-- DATA_RECORD_SEND (09 R259, R267, R270): one record holds the whole command; it waits for the record of the queue's previous write, for an
overlapping command, and for room in the rings and in the journal index. -/
def execDataRecordSend (ref : CmdRef) (s : State) : Host.Outcome State Fault Refusal :=
  match (robOf s ref).bind (·.job), (robOf s ref).map (·.nsid), findSq (s.ctl ref.ctl) ref.sqid with
  | some j, some nsid, some q =>
    match (s.vol nsid).map (·.deckId) with
    | none => .next s
    | some id =>
      let body := JBody.data ref.ctl ref.sqid nsid false (jobRecord j.parts)
      let room := match s.deck id with | some d => ringTakesData d (recBlocks body) && indexRoom s id 0 | none => false
      if j.journaled && decide (j.step = .staged) && isOpen s ref && earlierDurable q.rob ref.cid &&
          !overlapAhead s ref (jobPages j) && room && s.serving then
        let (n, s1) := appendRec id body true (clearCleanStop id s)
        .next (noteAll s (putJob ref { j with step := .recordSent, jseq := n } s1))
      else .next s
  | _, _, _ => .next s

/-- DATA_RECORD_DURABLE (06 R193; 09 R260): the record is durable on every current keeper. -/
def execDataRecordDurable (ref : CmdRef) (s : State) : Host.Outcome State Fault Refusal :=
  match (robOf s ref).bind (·.job), (robOf s ref).map (·.nsid) with
  | some j, some nsid =>
    let id := ((s.vol nsid).map (·.deckId)).getD 0
    let durable := match s.deck id with | some d => recDurable s id d j.jseq | none => false
    if j.step = .recordSent ∧ isOpen s ref = true ∧ durable = true then .next (putJob ref { j with step := .recordDurable } s)
    else .next s
  | _, _ => .next s

/-! ## The directory switch (06 R180) -/

/-- Rewrite the staged frames of a part whose partly written sectors must follow the newest committed version. -/
def remerge (ref : CmdRef) (p : PagePart) (c : Cache) : Cache :=
  if p.spans.isEmpty then c
  else
    let data := mergedData c p
    let own := c.dir.filter fun e => decide (e.state = .staged) && decide (e.stageRef = some ref) && decide (e.keyNs = p.ns) && decide (e.vpage = p.vpage)
    { c with dram := own.foldl (fun m e => writeSectors e.region e.frame p.mask p.zero data m) c.dram }

/-- The DATA record of a command names the versions that its pages became. -/
def stampRecord (id jseq : Nat) (parts : List PagePart) (s : State) : State :=
  let c := s.cache
  let ver := fun (vpage : Nat) => match parts.find? fun p => decide (p.vpage = vpage) with
    | some p => ((newestOf c p.ns vpage).map (·.ver)).getD 0
    | none => 0
  updDeck id (fun d => { d with journal := d.journal.map fun r =>
    if r.jseq = jseq then
      match r.body with
      | .data a b n x ps => { r with body := .data a b n x (ps.map fun p => { p with ver := ver p.vpage }) }
      | _ => r
    else r }) s

/-- DIRECTORY_SWITCH (06 R180 to R182): in its turn, once every frame is written and, under write-through, its record is durable. -/
def execDirectorySwitch (ref : CmdRef) (s : State) : Host.Outcome State Fault Refusal :=
  match (robOf s ref).bind (·.job), (robOf s ref).map (·.nsid) with
  | some j, some nsid =>
    let ripe := if j.journaled then decide (j.step = .recordDurable) else decide (j.step = .staged)
    if ripe && mayCommit s ref then
      let c := j.parts.foldl (fun c p => remerge ref p c) s.cache
      let s1 := { s with cache := convertParts s.now ref j.journaled j.parts c }
      let id := ((s.vol nsid).map (·.deckId)).getD 0
      let s2 := commitCmd ref 0 0 (if j.journaled then stampRecord id j.jseq j.parts s1 else s1)
      .next (trimData id s2)
    else .next s
  | _, _ => .next s

/-- MERGE_SUPERSEDED (06 R182). -/
def execMergeSuperseded (ns vpage : Nat) (s : State) : Host.Outcome State Fault Refusal :=
  .next { s with cache := accessPages [(ns, vpage)] (mergePage ns vpage s.cache) }

/-- EPOCH_CLOSE (06 R183). -/
def execEpochClose (region : Nat) (s : State) : Host.Outcome State Fault Refusal :=
  if region < 4 then .next (retryStalled { s with cache := closeEpoch region s.cache }) else .next s

/-- IO_FLUSH (04 R118, R135): it commits once every earlier command of its queue has been posted. -/
def execIoFlush (ref : CmdRef) (nsid : Nat) (s : State) : Host.Outcome State Fault Refusal :=
  if !ioOpen s ref then .next s
  else
    let st := if nsid = 0xFFFFFFFF then sanitizeBar s else volStatus s ref.ctl nsid false
    if st ≠ 0 then .next (failCmd ref st s)
    else
      match findSq (s.ctl ref.ctl) ref.sqid with
      | none => .next s
      | some q => if (q.rob.head?).map (·.cid) = some ref.cid then .next (commitCmd ref 0 0 s) else .next s

/-! ## Reads (06 R177, R178, R181; 10 R278, R285) -/

/-- Sectors of a page in a byte range. -/
def wantMask (page off len : Nat) : BitVec 8 :=
  let lo := max off (page * 4096) - page * 4096
  let hi := min (off + len) ((page + 1) * 4096) - page * 4096
  if hi ≤ lo then 0 else sectorMask (lo / 512) (ceilDiv hi 512)

/-- Resolve one page of a read (06 R177). -/
def resolvePage (c : Cache) (keyNs page : Nat) (want : BitVec 8) : ReadPage :=
  let vs := versionsOf c keyNs page
  let one := fun i : Nat => resolveSector vs false i
  { vpage := page, want := want,
    missing := BitVec.ofNat 8 (bitmapOf ((List.range 8).filter fun i => bitOf want i && decide (one i = .member))),
    poison := BitVec.ofNat 8 (bitmapOf ((List.range 8).filter fun i => bitOf want i && decide (one i = .poisoned))),
    data := (List.range 8).flatMap fun i => (sectorData c i (one i)).getD (zeros 512) }

/-- A page that the read needs is listed and not wholly held by the cache (10 R285). -/
def listedPage (v : Volume) (p : ReadPage) : Bool := isListed v p.vpage && decide (p.missing ≠ 0)

/-- Bytes of a read's pages from a volume byte offset. -/
def pagesBytes (pages : List ReadPage) (off len : Nat) : Bytes :=
  let ps := pagesOf off len
  sliceBytes (ps.flatMap fun n => match pages.find? fun p => decide (p.vpage = n) with
    | some p => fitBytes 4096 p.data
    | none => zeros 4096) (off % 4096) len

/-- Write the pieces of a transfer that lie in the Controller Memory Buffer there (06 R197): the cache, and the bytes that go to host memory; what a bit
bucket takes goes nowhere (04 R116). None when a page of the buffer finds no frame. -/
def scatterData (ctl : Nat) (c : Ctl) : List (Option Nat × Nat) → Bytes → Cache → Option (Bytes × Cache)
  | [], bs, m => some (bs, m)
  | (none, n) :: ps, bs, m => scatterData ctl c ps (bs.drop n) m
  | (some a, n) :: ps, bs, m =>
    match inCmb c a n with
    | some off =>
      match cmbWrite ctl (n / 4096 + 2) off (bs.take n) m with
      | some m => scatterData ctl c ps (bs.drop n) m
      | none => none
    | none => (scatterData ctl c ps (bs.drop n) m).map fun r => (bs.take n ++ r.1, r.2)

/-- The transfer of a read leaves: the parts that lie in the Controller Memory Buffer are stored there, after the writes of the buffer that wait, and the rest
goes to the host. None while the buffer has no frame for it. -/
def deliverRead (j : ReadJob) (out : Bytes) (s : State) : Option State :=
  let s := drainLate j.ref.ctl s
  if !(s.ctl j.ref.ctl).late.isEmpty then none
  else
    match scatterData j.ref.ctl (s.ctl j.ref.ctl) j.pieces out s.cache with
    | none => none
    | some (host, c) => some (if host.isEmpty then { s with cache := c } else sendData j.ref host { s with cache := c })

/-- End a read whose sectors are all at hand: a poisoned sector gives Data Transfer Error, a failed check its status, a comparison that
differs Compare Failure; a Read's data goes to the host (06 R178; 04 R118; 15 R433). A Read into the Controller Memory Buffer waits while a
page of it finds no frame (06 R175). -/
def finishRead (j : ReadJob) (s : State) : State :=
  let s0 := s
  let s := { s with reads := s.reads.filter fun x => !decide (x.ref = j.ref) }
  let data := pagesBytes j.pages j.from_ j.len
  let md := pagesBytes j.pages j.mdFrom j.mdLen
  if j.pages.any fun p => decide (p.poison ≠ 0) then failCmd j.ref 0x04 s
  else
    match (s.vol (j.keyNs + 1)).bind fun v => piCheck v j.pi j.blocks data md with
    | some e => failPi j.ref e s
    | none =>
      let strip := match s.vol (j.keyNs + 1) with | some v => stripsPi v j.pract | none => false
      match j.compare with
      | some (d, m) => if d = data ∧ (m = md ∨ j.mdLen = 0 ∨ strip = true) then commitCmd j.ref 0 0 s else failCmd j.ref 0x285 s
      | none =>
        if !j.toHost then commitCmd j.ref 0 0 s
        else
          let out := match s.vol (j.keyNs + 1) with | some v => joinTransfer v j.blocks j.pract data md | none => data ++ md
          match deliverRead j out s with
          | none => if s0.reads.any (fun x => decide (x.ref = j.ref)) then s0 else { s0 with reads := s0.reads ++ [j] }
          | some s => commitCmd j.ref 0 0 s

/-- The lowest LBA of a command from `slba` on that has data or metadata in a page (10 R285; 05 R144). -/
def firstLba (sh : Shape) (v : Volume) (slba vpage : Nat) : Nat :=
  let f := volFormat v
  if vpage < metaPage sh v then max slba (vpage * 4096 / f.1)
  else max slba ((vpage * 4096 - metaStart sh v.nsze f.1) / max 1 f.2)

/-- Start a read, compare or verify: resolve every page before any data moves, then serve it or begin its fills (06 R177, R178, R181). -/
def startRead (a : IoArgs) (v : Volume) (d : Deck) (compare : Option (Bytes × Bytes)) (toHost : Bool) (s : State) : State :=
  let r := byteRanges d.label.shape v a.slba (a.nlb + 1)
  let key := v.nsid - 1
  let ps := (pagesOf r.1.1 r.1.2).map (fun p => resolvePage s.cache key p (wantMask p r.1.1 r.1.2)) ++
    (pagesOf r.2.1 r.2.2).map fun p => resolvePage s.cache key p (wantMask p r.2.1 r.2.2)
  match (ps.filter (listedPage v)).map fun p => firstLba d.label.shape v a.slba p.vpage with
  | l :: ls =>
    failCmd a.ref 0x281 (updRob a.ref (fun e => { e with nsid := a.nsid, lba := ls.foldl min l }) s)
  | [] =>
    let s := { s with cache := accessPages (ps.map fun p => (key, p.vpage)) (ps.foldl (fun c p => touchPage key p.vpage c) s.cache) }
    let j : ReadJob :=
      { ref := a.ref, keyNs := key, pages := ps, from_ := r.1.1, len := r.1.2, mdFrom := r.2.1, mdLen := r.2.2, compare := compare,
        toHost := toHost, pi := a.pi, blocks := a.nlb + 1, pract := a.pract
        pieces := if toHost then ioPieces (s.ctl a.ref.ctl).mps v a else [] }
    let s := updRob a.ref (fun e => { e with nsid := a.nsid }) s
    if ps.all fun p => decide (p.missing = 0) then finishRead j s
    else
      let s := { s with reads := s.reads ++ [j] }
      (ps.filter fun p => decide (p.missing ≠ 0)).foldl (fun s p => beginFill v.deckId d v p.vpage s) s

/-- A read, compare or verify in its turn (04 R119, R121). -/
def readLike (a : IoArgs) (compare : Option (Bytes × Bytes)) (toHost : Bool) (s : State) : State :=
  if !(ioOpen s a.ref) || s.reads.any (fun j => decide (j.ref = a.ref)) || metaHeld s a.nsid then s
  else
    let st := rangeStatus s a false
    if st ≠ 0 then failCmd a.ref st s
    else
      match s.vol a.nsid with
      | none => s
      | some v =>
        match s.deck v.deckId with
        | none => s
        | some d =>
          let a := cmbArgs s v a
          let ps := ioPieces (s.ctl a.ref.ctl).mps v a
          let check := if toHost || compare.isSome then checkIo s v toHost a else .good
          let with_ := compare.map fun x => hostTransfer s v a x.1 x.2
          afterPtr a.ref check (fun s => if isTurn s a.ref then startRead a v d with_ toHost (if compare.isSome then requestPieces a.ref ps s else s) else s) s

/-- IO_READ. -/
def execIoRead (args : IoArgs) (s : State) : Host.Outcome State Fault Refusal := .next (readLike args none true s)

/-- IO_COMPARE. -/
def execIoCompare (args : IoArgs) (data metaData : Bytes) (s : State) : Host.Outcome State Fault Refusal :=
  .next (readLike args (some (data, metaData)) false s)

/-- IO_VERIFY. -/
def execIoVerify (args : IoArgs) (s : State) : Host.Outcome State Fault Refusal := .next (readLike args none false s)

/-- Give a page's member data to a read. -/
def feedJob (keyNs vpage : Nat) (data : Bytes) (j : ReadJob) : ReadJob :=
  if j.keyNs = keyNs then
    { j with pages := j.pages.map fun p =>
        if p.vpage = vpage then
          { p with missing := 0, data := (List.range 8).flatMap fun i =>
              sliceBytes (if bitOf p.missing i then data else p.data) (512 * i) 512 }
        else p }
  else j

/-- Give a page's member data to the writes that wait for it. -/
def feedWrites (keyNs vpage : Nat) (data : Bytes) (s : State) : State :=
  { s with ctls := s.ctls.map fun c => (c.1, { c.2 with sqs := c.2.sqs.map fun q => { q with rob := q.rob.map fun e =>
      { e with job := e.job.map fun j => { j with parts := j.parts.map fun p =>
          if p.ns = keyNs ∧ p.vpage = vpage then { p with base := some data } else p } } } }) }

/-- Install a fill (06 R178): CLEAN when no committed version exists, else its frame is FREE. -/
def installFill (keyNs vpage : Nat) (data : Bytes) (c : Cache) : Cache :=
  let c := { c with fills := c.fills.filter fun f => !decide (f = (keyNs, vpage)) }
  match c.dir.find? fun e => decide (e.state = .fill) && decide (e.keyNs = keyNs) && decide (e.vpage = vpage) with
  | none => c
  | some e =>
    if (versionsOf c keyNs vpage).isEmpty then
      let c := updEntry e.region e.frame (fun x => { x with state := .clean, valid := 0xFF, ver := c.nextVer }) c
      { c with nextVer := c.nextVer + 1, dram := memPut c.dram (frameAddr e.region e.frame) (fitBytes 4096 data) }
    else freeFrame e.region e.frame c

/-- A fill has failed: its frame is FREE, and the commands that need it complete with Unrecovered Read Error (10 R282, R285). -/
def failFill (keyNs vpage : Nat) (s : State) : State :=
  let c := { s.cache with
    fills := s.cache.fills.filter fun f => !decide (f = (keyNs, vpage))
    dir := s.cache.dir.filter fun e => !(decide (e.state = .fill) && decide (e.keyNs = keyNs) && decide (e.vpage = vpage)) }
  let s := { s with cache := c }
  let hit := s.reads.filter fun j => decide (j.keyNs = keyNs) && j.pages.any fun p => decide (p.vpage = vpage) && decide (p.missing ≠ 0)
  let s := hit.foldl (fun s j => abandonCmd j.ref 0x281 s) s
  s.ctls.foldl (fun s c => c.2.sqs.foldl (fun s q => (q.rob.filter fun e =>
    match e.job with
    | some j => !j.step.hasFrames && j.parts.any fun p => decide (p.ns = keyNs) && decide (p.vpage = vpage) && !baseReady s.cache p
    | none => false).foldl (fun s e => abandonCmd { ctl := c.1, sqid := q.id, cid := e.cid } 0x281 s) s) s) s

/-- A page has arrived: it is installed, and the commands that wait for it go on (06 R178). -/
def servePage (ns : Nat) (v : Volume) (d : Deck) (vpage : Nat) (data : Bytes) (s : State) : State :=
  let plain := fromMember d.label.shape v vpage (fitBytes 4096 data)
  let s := feedWrites ns vpage plain { s with
    cache := accessPages [(ns, vpage)] (installFill ns vpage plain s.cache), reads := s.reads.map (feedJob ns vpage plain) }
  let done := s.reads.filter fun j => j.pages.all fun p => decide (p.missing = 0)
  done.foldl (fun s j => finishRead j s) s

/-- The blocks that a fill brings make its page, or call for more (10 R278): the block as its member gave it, or decoded under the SHARED lock
of its hand; too many blocks lost, and the commands that need it end; else the reads of the decode go out, and the fill stays open, as it does while the
lock is waited for. A hand at or above the watermark of a resync is resynced first (09 R275). -/
def takeFill (ns id : Nat) (d : Deck) (v : Volume) (vpage : Nat) (at_ : Nat × Nat × Nat) (reads : List BlockRead) (s : State) : State :=
  let hd := at_.1
  let row := at_.2.1
  let c := at_.2.2
  let sh := d.label.shape
  let q := decodeReq hd ns vpage
  let have_ := atHand s id d hd row reads
  let lost := (List.range (widthOf sh)).filter fun x =>
    !tblHas have_ x && (chunkMissing d hd x || reads.any fun r => decide (r.row = row) && decide (r.chunk = x))
  if tblHas have_ c then endLock id q (servePage ns v d vpage (rowBlock have_ c) (chargeTags d hd row reads s))
  else if aboveResync d hd then endLock id q (chargeTags d hd row reads s)
  else if !lockGranted s id d q then askLock id q (chargeTags d hd row reads s)
  else if sh.m < lost.length then endLock id q (failFill ns vpage (chargeTags d hd row reads s))
  else
    match rowOld d have_ with
    | some full =>
      endLock id q (servePage ns v d vpage (rowBlock full c)
        (runStreams id hd row (decodePlan sh.k sh.m lost [c]) (chargeTags d hd row reads s)))
    | none =>
      askReads id d hd row ((decodeReads sh.k sh.m lost).filter fun x => !tblHas have_ x) (updDeck id (holdLock q) (chargeTags d hd row reads s))

/-- FILL_COMPLETE (06 R178; 10 R278): the blocks of the page's row that its reads have brought. -/
def execFillComplete (ns vpage : Nat) (own : Option BlockRead) (others : List BlockRead) (s : State) : Host.Outcome State Fault Refusal :=
  if !s.cache.fills.contains (ns, vpage) then .next s
  else
    match s.vol (ns + 1) with
    | none => .next (failFill ns vpage s)
    | some v =>
      match s.deck v.deckId with
      | none => .next (failFill ns vpage s)
      | some d =>
        match fillPlace d v vpage with
        | none => .next (failFill ns vpage s)
        | some at_ => .next (settleAll (takeFill ns v.deckId d v vpage at_ (own.toList ++ others) s))

end Sys2Proof.Machine
end

