-- ==== Sys2Proof/Machine/Sched.lean ====
section
/-!
DEFINITION. The power scheduler: the window's measurements, the cap in force, the grants, the voltages, heat, and the
autonomous idle states (13 R363 to R385; 19 R527, R531).
-/

namespace Sys2Proof.Machine

/-! ## The table of R365 -/

/-- Rows of R365: voltage in mV, rates in MB/s at 0, 50, 85 and 105 °C, energy factor in thousandths. -/
def rateRows : List (Nat × List Nat × Nat) :=
  [(550, [6800, 6400, 6100, 5900], 538), (600, [9600, 9200, 8800, 8600], 640), (650, [12400, 12000, 11400, 11000], 751),
   (700, [14600, 14200, 13400, 13000], 871), (750, [16500, 16000, 15100, 14600], 1000), (800, [18200, 17600, 16600, 16000], 1138),
   (850, [19600, 19000, 17900, 17200], 1284), (900, [20800, 20200, 19000, 18300], 1440)]

/-- The table's temperatures in 0.1 °C. -/
def rateTemps : List Int := [0, 500, 850, 1050]

/-- A row's rate at a temperature from 0 °C to 105 °C, by linear interpolation (R365). -/
def rowRate (rates : List Nat) (dc : Int) : Frac :=
  interpRows ((List.range 4).map fun i => (rateTemps.getD i 0, rates.getD i 0)) dc

/-- Linear interpolation between the rows of R365 that a voltage lies between. -/
def betweenRows (f : (Nat × List Nat × Nat) → Frac) (mv : Nat) : Frac :=
  let i := min 6 ((mv - 550) / 50)
  match rateRows[i]?, rateRows[i + 1]? with
  | some a, some b => fAdd (f a) (fMul (fSub (f b) (f a)) (frac ((mv : Int) - a.1) 50))
  | _, _ => frac 0 1

/-- Cell rate of R365 in MB/s at a voltage and temperature; beyond the table's temperatures a free value (log 22). -/
def tableRate (mv : Nat) (dc : Int) : Frac :=
  if 0 ≤ dc ∧ dc ≤ 1050 then betweenRows (fun r => rowRate r.2.1 dc) mv else frac (Config.rateBeyond mv dc) 1

/-- Energy factor of R365 in thousandths, between rows by linear interpolation (DEDUCED, log 23). -/
def energyFactor (mv : Nat) : Frac := betweenRows (fun r => frac r.2.2 1) mv

/-! ## Measurements of the window that ends (R368, R370, R371) -/

/-- Work of a class in a domain. -/
def classWork (m : List (List Work)) (c d : Nat) : Work := (m.getD c []).getD d {}

/-- Work at the start values of the cost table, in nJ (R371): 20 and 6 µJ per MB, 0.35 µJ a command, 0.05 µJ a page, 0.20 µJ a member
command. -/
def workCost (w : Work) : Nat := (20 * w.parity + 6 * w.hops) / 1000 + 350 * w.cmds + 50 * w.pages + 200 * w.members

/-- Work of a class in a domain at start values. -/
def workAt (m : List (List Work)) (c d : Nat) : Nat := workCost (classWork m c d)

/-- Measured cell rate in MB/s: 64 bytes a flit over the busy time in periods of 10 ns; a domain with no busy time keeps its
earlier rate (R370). -/
def newRate (old flits busy : Nat) : Nat := if busy = 0 then old else flits * 6400 / busy

/-- Work that all classes completed in a domain, at start values. -/
def completedIn (m : WindowMeas) (d : Nat) : Nat := (List.range 7).foldl (fun n c => n + workAt m.completed c d) 0

/-- Energy of a class in a domain: the core energy divided in proportion to the weighted completions (R370), in µJ. -/
def classEnergy (m : WindowMeas) (c d : Nat) : Nat :=
  if completedIn m d = 0 then 0 else m.coreUj.getD d 0 * workAt m.completed c d / completedIn m d

/-- Energy that a class spent in the window. -/
def spentBy (m : WindowMeas) (c : Nat) : Nat := (List.range 5).foldl (fun n d => n + classEnergy m c d) 0

/-- The cost average of a class in a domain with weight 1/8 on the newest window (R370). -/
def newCost (m : WindowMeas) (c d : Nat) (old : Nat × Nat) : Nat × Nat :=
  if workAt m.completed c d = 0 then old
  else
    let now := classEnergy m c d * 1000 * 65536 / workAt m.completed c d
    (if old.2 = 0 then now else (7 * old.1 + now) / 8, min 10 (old.2 + 1))

/-- Every class in every domain. -/
def classDomains : List (Nat × Nat) := (List.range 7).flatMap fun c => (List.range 5).map fun d => (c, d)

/-- The ratio that prices a class's work in a domain, in 1/65,536: the average once it has been measured over 10 windows, before
that the energy factor at the setpoint (R371). Destage (class 7) is priced as HOST. -/
def costRatio (sc : Sched) (c d : Nat) : Nat :=
  let e := tblGet sc.costs (if c = 7 then 1 else c, d) (0, 0)
  if 10 ≤ e.2 then e.1 else (fFloor (fMul (energyFactor (sc.vset.getD d 750)) (frac 65536 1000))).toNat

/-- Request of a class in a domain, and in all domains, in tokens (R378). -/
def requestIn (sc : Sched) (m : WindowMeas) (c d : Nat) : Int :=
  ((workAt m.queued c d * costRatio sc c d / 65536000 : Nat) : Int)
def requestOf (sc : Sched) (m : WindowMeas) (c : Nat) : Int :=
  (List.range 5).foldl (fun n d => n + requestIn sc m c d) 0

/-- Rail power of a window: the measured one, or the last good one scaled by the domain's completion count (R368). -/
def railPower (sc : Sched) (m : WindowMeas) (d : Nat) : Nat :=
  if m.avsAck.getD d true then m.railMw.getD d 0
  else if sc.goodFlits.getD d 0 = 0 then sc.goodMw.getD d 0
  else sc.goodMw.getD d 0 * m.flits.getD d 0 / sc.goodFlits.getD d 0

/-- A list of one value for each domain. -/
def perDomain {α : Type} (f : Nat → α) : List α := (List.range 5).map f

/-- Device power averaged over the last 10 windows, in mW (R371: PWR_NOW). -/
def powerNow (sc : Sched) : Nat :=
  let l := sc.hist.take 10
  if l.isEmpty then 0 else l.foldl (fun n w => n + w.powerMw) 0 / l.length

/-! ## The cap in force (R372 to R376) -/

/-- CAP_W in mW: 0 stands for 125 W (18 R512). -/
def capUserMw (s : State) : Nat := if s.feats.capW = 0 then 125000 else s.feats.capW * 1000

/-- Maximum power of a power state in mW (05 R161). -/
def psMaxMw (ps : Nat) : Nat := [125000, 90000, 60000, 15000, 6000].getD ps 125000

/-- The cap in force of a window with its term (R372); `background` says that REBUILD or RESYNC work runs in PS3 or PS4 (05 R163).
On a tie the first term of R372 is named. -/
def capTerms (background : Bool) (s : State) : List (Nat × Nat) :=
  let psCap := if 3 ≤ s.mode.ps ∧ background = true then 60000 else psMaxMw s.mode.ps
  [(capUserMw s, 0), (psCap, 1)] ++ (if s.sched.startup then [(60000, 2)] else []) ++ [(s.sched.thermMw, 3)] ++
    (if s.sched.missing.isEmpty then [] else [(60000, 4)])
def capInForce (background : Bool) (s : State) : Nat × Nat :=
  (capTerms background s).foldl (fun best t => if t.1 < best.1 then t else best) (capUserMw s, 0)

/-- The cap cause can be present: the cap in force equals the Power Cap feature or the power state maximum (R372). -/
def capIsUser (background : Bool) (s : State) : Bool :=
  let cap := (capInForce background s).1
  decide (cap = capUserMw s) || decide (some cap = ((capTerms background s)[1]?).map (·.1))

/-! ## The grants (R379, R380; 18 R513) -/

/-- What R379 decides: b_work, left after TRUMP, the new debt, the grants TRUMP to SANITIZE and the spare left. -/
structure Grants where
  bWork : Int
  left : Int
  debt : Int
  grant : List Int
  spare : Int
  deriving DecidableEq, Repr

/-- Divisor of the floors (18 R513). -/
def floorDivisor (floors : List Nat) : Nat := max 100 (floors.foldl (· + ·) 0)

/-- The pass that hands the spare down the list in priority order (R379). -/
def passSpare : List (Int × Int) → Int → List Int × Int
  | [], spare => ([], spare)
  | (req, g) :: rest, spare =>
    let add := min (req - g) spare
    let r := passSpare rest (spare - add)
    ((g + add) :: r.1, r.2)

/-- The procedure of R379, with the floor grants of 18 R513. `reqs` runs TRUMP to SANITIZE. -/
def decideGrants (budget fixed debt : Int) (floors : List Nat) (reqs : List Int) : Grants :=
  let bWork := budget - fixed - debt
  let left := bWork - reqs.getD 0 0
  let debt' := if left < 0 then 0 - left else 0
  let left := if left < 0 then 0 else left
  let base := (List.range 6).map fun i =>
    (reqs.getD (i + 1) 0, min (reqs.getD (i + 1) 0) ((floors.getD i 0 : Int) * left / (floorDivisor floors : Int)))
  let spare := left - base.foldl (fun n p => n + p.2) 0
  let r := passSpare base spare
  { bWork := bWork, left := left, debt := debt', grant := reqs.getD 0 0 :: r.1, spare := r.2 }

/-- Destage's part of the HOST grant (R380): level, host command request, destage request, D, L, HOST grant, and the energy that
every class left unspent. -/
def destagePart (level : Nat) (hostReq destReq : Int) (d l : Nat) (hostGrant spare : Int) : Int :=
  if level = 4 then destReq
  else if level = 0 then min destReq spare
  else
    let share :=
      if level = 3 then hostGrant
      else if level = 2 then hostGrant / 2
      else if l = 0 then hostGrant / 2
      else hostGrant * (4 * (d : Int) - l) / (4 * l)
    let host := min hostReq (hostGrant - min destReq share)
    min destReq (hostGrant - host)

/-- Bytes that patrol asks for a deck in a window of 100 µs (10 R302): A × w × C / (PASS_HOURS × 3,600) bytes per second, and twice that while the fraction of
the pass elapsed exceeds the fraction done by more than 0.05. -/
def patrolTarget (s : State) (id : Nat) (d : Deck) : Nat :=
  let held := heldHands s id
  let hours := max 1 s.decks.passHours
  let rate := held.length * widthOf d.label.shape * chunkBytes d.label.shape / (hours * 36000000)
  let whole := hours * 3600000000000
  let past := (s.recTime - d.patrol.passStart).toNat
  let done := (held.filter fun h => decide (h < d.patrol.cursor)).length
  if !(d.patrol.running && decide (d.label.deckState ≤ 3) && !d.patrol.paused && !s.decks.patrolPause) then 0
  else if whole * held.length < 20 * (past * held.length - done * whole) then 2 * rate
  else rate

/-- Request of PATROL (10 R302): its queued work, but no more than the target of the decks whose pass runs; with no such deck what is queued is repairs, which
are not paced (10 R280). The target is met as a share of the queued bytes (DESIGN CHOICE, log 148). -/
def patrolAsk (s : State) (m : WindowMeas) : Int :=
  let req := requestOf s.sched m 5
  let queued := (List.range 5).foldl (fun n d => n + (classWork m.queued 5 d).parity) 0
  let target := s.decks.decks.foldl (fun n p => n + patrolTarget s p.1 p.2) 0
  if target = 0 ∨ queued ≤ target then req else req * (target : Int) / (queued : Int)

/-- Requests of the seven classes (R378, R380; 05 R163; 10 R302). Destage is asked for with TRUMP at level 4, with HOST at levels 3 to 1, and
not at all at level 0. In PS3 and PS4 only TRUMP, REBUILD and RESYNC ask, the last two with NOPPME; in HOLDUP only TRUMP (14 R418). -/
def requestsOf (s : State) (m : WindowMeas) : List Int :=
  let r := requestOf s.sched m
  let level := s.cache.level
  let allow := fun (c : Nat) =>
    decide (s.mode.mode ≠ .holdup) && (decide (s.mode.ps < 3) || ((decide (c = 2) || decide (c = 3)) && noppme s))
  let pick := fun c v => if allow c then v else 0
  [r 0 + (if level = 4 then r 7 else 0), pick 1 (r 1 + (if 1 ≤ level ∧ level ≤ 3 then r 7 else 0)), pick 2 (r 2), pick 3 (r 3),
   pick 4 (r 4), pick 5 (patrolAsk s m), pick 6 (r 6)]

/-- Split a grant among the domains in proportion to their requests of the class (R379). -/
def splitGrant (sc : Sched) (m : WindowMeas) (c : Nat) (grant : Int) : List Int :=
  let total := requestOf sc m c
  perDomain fun d => if total = 0 then 0 else grant * requestIn sc m c d / total

/-! ## Voltages (R364, R367, R374, R381) -/

/-- Lowest voltage allowed for a domain: 0.55 V in PS3 and PS4 where no REBUILD or RESYNC work runs in it, else 0.65 V (R364). -/
def vMin (s : State) (m : WindowMeas) (d : Nat) : Nat :=
  if 3 ≤ s.mode.ps ∧ workAt m.queued 2 d = 0 ∧ workAt m.queued 3 d = 0 then 550 else 650

/-- Highest voltage allowed for a domain: 0.75 V above 100 °C (R374). -/
def vMax (sc : Sched) (d : Nat) : Nat := if 1000 < sc.temps.getD d 0 then 750 else 900

/-- A voltage's rate finishes the need within 100 µs: rate(d, v) × 100 µs ≥ need, with 1 MB/s × 100 µs = 100 bytes (R381). -/
def rateMeets (sc : Sched) (d need v : Nat) : Bool :=
  let t := sc.temps.getD d 0
  let present := tableRate (sc.vset.getD d 750) t
  fLe (fMul (frac need 1) present) (fMul (frac (sc.rates.getD d 0 * 100) 1) (tableRate v t))

/-- Bytes that the work granted to a domain makes each of its ungated cells process (R381): the parity bytes of each class in the share of its
request that was granted, divided by the cells; in the hub a command counts as one flit of 64 bytes, as R385 counts it. -/
def grantedBytes (sc : Sched) (m : WindowMeas) (d : Nat) : Nat :=
  let bytes := fun c => let w := classWork m.queued c d; if d = 0 then 64 * w.cmds else w.parity
  (List.range 7).foldl (fun n c =>
    let req := requestIn sc m c d
    n + (if req = 0 then 0 else ((bytes c : Int) * (sc.domGrants.getD c []).getD d 0 / req).toNat)) 0
def needOf (sc : Sched) (m : WindowMeas) (d : Nat) : Nat := ceilDiv (grantedBytes sc m d) (max 1 (m.cells.getD d 0))

/-- vreq of R381. -/
def vReq (s : State) (m : WindowMeas) (d : Nat) : Nat :=
  let lo := vMin s m d
  let hi := vMax s.sched d
  let vs := (List.range ((hi - lo) / 5 + 1)).map fun i => lo + 5 * i
  let v := (vs.find? fun v => rateMeets s.sched d (needOf s.sched m d) v).getD hi
  if m.leftover.getD d false then max v (s.sched.vset.getD d 750 + 5) else v

/-- The voltage of a domain for the next window: at most 20 mV from the present one (R367, R381); a held rail keeps its setpoint
(R368). The result stays within what R367 and R374 allow. -/
def nextVolt (s : State) (m : WindowMeas) (d : Nat) : Nat :=
  let v := s.sched.vset.getD d 750
  if s.sched.held.contains d then v
  else max (v - 20) (min (v + 20) (min (vReq s m d) (vMax s.sched d)))

/-- Every VCORE domain is set to 0.75 V over AVSBus, whatever its regulator held (02 R53; R366). -/
def setAllVolts (s : State) : State :=
  (List.range 5).foldl (fun s d =>
    emit (.avs d ((750 : Int) + s.gauge.cal.avsOffset.getD d 0).toNat)
      { s with sched := { s.sched with vset := s.sched.vset.set d 750, sent := s.sched.sent.set d (750 + s.gauge.cal.avsOffset.getD d 0) } }) s

/-- Write the setpoints that change on AVSBus, with the calibration's AVS_OFFSET added (R366; 14 R405); a rail that is held is not written (R368). -/
def writeVolts (vs : List Nat) (s : State) : State :=
  (List.range 5).foldl (fun s d =>
    let v := vs.getD d 750
    let mv := (v : Int) + s.gauge.cal.avsOffset.getD d 0
    if s.sched.held.contains d then s
    else if s.sched.sent.getD d 750 = mv then { s with sched := { s.sched with vset := s.sched.vset.set d v } }
    else emit (.avs d mv.toNat) { s with sched := { s.sched with vset := s.sched.vset.set d v, sent := s.sched.sent.set d mv } }) s

/-! ## Heat (R374 to R376) -/

/-- T: the highest junction temperature, a missing die counting as 105 °C. -/
def highest (temps : List Int) : Int :=
  match temps with
  | [] => 0
  | t :: ts => ts.foldl max t

/-- The thermal cap of the next window (R374), in mW: 0.1 W per °C is 10 mW per 0.1 °C. -/
def nextTherm (t : Int) (therm now : Nat) : Nat :=
  if 1000 < t then max 40000 (((min therm now : Nat) : Int) - (t - 1000) * 10).toNat
  else if t < 970 then min 125000 (therm + 2)
  else therm

/-- Temperatures of a window: the reading, the last one where there is none, 105 °C for a missing die (R374, R376). A missing die
has returned after 100 windows of readings, 10 ms. -/
def takeTemps (m : WindowMeas) (sc : Sched) : Sched :=
  let runs := perDomain fun d =>
    if sc.missing.contains d ∧ (m.temps.getD d none).isSome = true then sc.tempRuns.getD d 0 + 1 else 0
  let missing := sc.missing.filter fun d => decide (runs.getD d 0 < 100)
  let temps := perDomain fun d =>
    if missing.contains d then 1050 else (m.temps.getD d none).getD (sc.temps.getD d 0)
  { sc with tempRuns := runs, missing := missing, temps := temps, tjMax := highest temps }

/-- Heat cause with event 0x6002, and the rule of 110 °C with event 0x6006 (R374, R375). -/
def heatRules (s : State) : State :=
  let t := s.sched.tjMax
  let hot := decide (1000 < t)
  let s :=
    if hot ≠ s.mode.heatCause then
      recordEvent 0x6002 [(t % 4294967296).toNat, if hot then 0 else 1, 0, 0] { s with mode := { s.mode with heatCause := hot } }
    else s
  if 1100 ≤ t then
    let s := { s with sched := { s.sched with thermMw := 40000 } }
    if s.mode.criticalTemp then s
    else
      let die := ((List.range 5).find? fun d => decide (s.sched.temps.getD d 0 = t)).getD 0
      recordEvent 0x6006 [t.toNat, die, 0, 0] { s with mode := { s.mode with criticalTemp := true } }
  else if t < 1050 then { s with mode := { s.mode with criticalTemp := false } }
  else s

/-! ## The window -/

/-- Acknowledgements of R368, one outcome a rail a window (DESIGN CHOICE, log 156): one that answers has its setpoint read back and is in control; three in a
row that do not hold the rail at the last setpoint read back, with event 0x6004 and the takeover of 17 R491. -/
def avsRules (m : WindowMeas) (s : State) : State :=
  (List.range 5).foldl (fun s d =>
    if m.avsAck.getD d true then
      { s with sched := { s.sched with
        nacks := s.sched.nacks.set d 0, held := s.sched.held.filter (· ≠ d), vback := s.sched.vback.set d (s.sched.vset.getD d 750),
        goodMw := s.sched.goodMw.set d (m.railMw.getD d 0), goodFlits := s.sched.goodFlits.set d (m.flits.getD d 0) } }
    else
      let n := s.sched.nacks.getD d 0 + 1
      let s := { s with sched := { s.sched with nacks := s.sched.nacks.set d n } }
      if n = 3 then
        takeover 0x09 3 100 0x6004
          (recordEvent 0x6004 [d, s.sched.vback.getD d 750, 0, 0] { s with sched := { s.sched with
            held := d :: s.sched.held, vset := s.sched.vset.set d (s.sched.vback.getD d 750) } })
      else s) s

/-- Busy time in percent of the window, over the domain's cells (R385). -/
def busyPercent (m : WindowMeas) (d : Nat) : Nat :=
  let c := m.cells.getD d 0
  if c = 0 then 0 else min 100 (m.busy.getD d 0 * 100 / (10000 * c))

/-- Measure the window (R370, R371). The fixed energy is the device's without the core energy that completions carry. -/
def measureWindow (m : WindowMeas) (g : Grants) (reqs : List Int) (capMw : Nat) (s : State) : State :=
  let sc := s.sched
  let rails := perDomain (railPower sc m)
  let power := rails.foldl Nat.add 0 + sc.otherMw
  let core := (perDomain fun d => if completedIn m d = 0 then 0 else m.coreUj.getD d 0).foldl Nat.add 0
  let sample : WindowSample :=
    { powerMw := power, spent := (List.range 7).map (spentBy m),
      short := (List.range 7).map fun c => decide (g.grant.getD c 0 < reqs.getD c 0), capMw := capMw }
  { s with sched := { sc with
      windows := sc.windows + 1,
      rates := perDomain fun d => newRate (sc.rates.getD d 16000) (m.flits.getD d 0) (m.busy.getD d 0),
      costs := classDomains.foldl (fun t k => tblPut t k (newCost m k.1 k.2 (tblGet t k (0, 0)))) sc.costs,
      flits := perDomain fun d => m.flits.getD d 0, busy := perDomain fun d => m.busy.getD d 0,
      busyPct := perDomain (busyPercent m), railMw := rails, fixedUj := ((power / 10 : Nat) : Int) - ((core : Nat) : Int),
      hist := (sample :: sc.hist).take 10000 } }

/-- TRUMP energy over the budget left after the fixed energy (R377): every window counts, and at most one event 0x6003 a second. A debt that only
remains from an earlier window is no new excess. `left` is that budget. -/
def excessRule (left trump : Int) (capMw : Nat) (s : State) : State :=
  if left < trump ∧ 0 < trump then
    let s := { s with sched := { s.sched with exceedCount := min 0xFFFFFFFF (s.sched.exceedCount + 1), exceedLast := some s.now } }
    let due := match s.sched.exceedAt with
      | none => true
      | some t => decide (1000000000 ≤ s.now - t)
    if due then
      recordEvent 0x6003 [(trump - max 0 left).toNat, capMw, 0, 0] { s with sched := { s.sched with exceedAt := some s.now } }
    else s
  else s

/-- At destage level 3 or 4 every channel leaves self-refresh (R383). -/
def wakeChannels (s : State) : State :=
  if 3 ≤ s.cache.level then
    { s with cache := { s.cache with channels := s.cache.channels.map fun p => (p.1, { p.2 with selfRefresh := false }) } }
  else s

/-- The dirty limit and destage level of a window (06 R188, R190). -/
def evalCache (s : State) : State :=
  let s := { s with cache := { s.cache with limit := dirtyLimitOf s } }
  let s := policyCheck s
  wakeChannels { s with cache := { s.cache with level := destageLevelOf s } }

/-- Tokens that the parity blocks have not spent in a window lapse (R378). -/
def lapseTokens (f : Fabric) : Fabric := { f with blocks := f.blocks.map fun p => (p.1, { p.2 with deficit := [0, 0, 0, 0, 0, 0, 0] }) }

/-- Decide the grants of the window and take them into the state. -/
def grantWindow (m : WindowMeas) (s : State) : State × Grants × List Int × Nat :=
  let reqs := requestsOf s m
  let background := decide (0 < reqs.getD 2 0) || decide (0 < reqs.getD 3 0)
  let cap := capInForce background s
  let capMw := if s.mode.mode = .holdup then min cap.1 28000 else cap.1
  let g := decideGrants ((capMw : Int) / 10) s.sched.fixedUj s.sched.debt s.feats.floors reqs
  let hostReq := requestOf s.sched m 1
  let dest := destagePart s.cache.level hostReq (requestOf s.sched m 7) (dirtyCount s) s.cache.limit (g.grant.getD 1 0) g.spare
  let s' := { s with
    fabric := lapseTokens s.fabric
    sched := { s.sched with
      bWork := g.bWork, debt := g.debt, requests := reqs, grants := g.grant, destageGrant := dest, capMw := capMw, capSrc := cap.2,
      domGrants := (List.range 7).map fun c => splitGrant s.sched m c (g.grant.getD c 0) },
    mode := { s.mode with
      capCause := capIsUser background s && decide (g.grant.getD 1 0 < reqs.getD 1 0) && decide (s.mode.mode ≠ .holdup) } }
  (s', g, reqs, capMw)

/-- PMBUS_POWER_READ (R371): power of the other package rails, used in the windows until the next reading. -/
def execPmbusPowerRead (mw : Nat) (s : State) : Host.Outcome State Fault Refusal :=
  if s.hubPowered then .next { s with sched := { s.sched with otherMw := mw } } else .next s

/-- STARTUP_CAP_END (R373): 10 s after the scheduler started. -/
def execStartupCapEnd (s : State) : Host.Outcome State Fault Refusal :=
  if s.sched.startup && s.hubPowered && decide (s.mode.mode ≠ .holdup) then
    .next (recordEvent 0x6001 [0, 0, 0, 0] { s with sched := { s.sched with startup := false } })
  else .next s

/-- DIE_TEMP_MISSING (R376; 17 R491; the level of a unit that 01 R26 does not name is a DESIGN CHOICE, log 45). -/
def execDieTempMissing (die : Nat) (s : State) : Host.Outcome State Fault Refusal :=
  if s.hubPowered && decide (die < 5) && !s.sched.missing.contains die then
    .next (takeover 0xA5 2 100 0x6007 (recordEvent 0x6007 [die, 0, 0, 0]
      { s with sched := { s.sched with missing := die :: s.sched.missing, tempRuns := s.sched.tempRuns.set die 0 } }))
  else .next s

/-- THERMTRIP_ASSERT (19 R531): a die at 120 °C by the sentinel's own sensors, in every mode except SHIP. -/
def execThermtripAssert (die : Nat) (temp : Int) (s : State) : Host.Outcome State Fault Refusal :=
  if decide (s.mode.mode ≠ .ship) && decide (1200 ≤ temp) && !s.power.thermTrip && !s.power.sentinelDown then
    let s := { s with power := { s.power with thermTrip := true } }
    .next (emit (.pin "THERMTRIP_N" false) (recordEvent 0x6022 [die, 0, temp.toNat, 0] s))
  else .next s

/-- THERMTRIP_RELEASE (19 R531): every die below 100 °C. -/
def execThermtripRelease (die : Nat) (temp : Int) (s : State) : Host.Outcome State Fault Refusal :=
  if s.power.thermTrip && decide (temp < 1000) && !s.power.sentinelDown then
    let s := { s with power := { s.power with thermTrip := false } }
    .next (emit (.pin "THERMTRIP_N" true) (recordEvent 0x6022 [die, 1, (temp % 4294967296).toNat, 0] s))
  else .next s

/-- CRYSTAL_STOP (19 R527). -/
def execCrystalStop (s : State) : Host.Outcome State Fault Refusal :=
  if !s.power.crystalStopped && !s.power.sentinelOff then
    .next (recordEvent 0x6023 [0, 0, 0, 0] { s with power := { s.power with crystalStopped := true } })
  else .next s

/-- CRYSTAL_RUNS_AGAIN (19 R527). -/
def execCrystalRunsAgain (s : State) : Host.Outcome State Fault Refusal :=
  .next { s with power := { s.power with crystalStopped := false } }

/-! ## Idle states (R382 to R384) -/

/-- A channel may enter self-refresh: its timer is on, or PS3 or PS4 sends it there whatever the timer holds, and destage lies below
level 3. -/
def mayRefresh (s : State) : Bool :=
  (decide (s.feats.memSrUs ≠ 0) || decide (3 ≤ s.mode.ps)) && decide (s.cache.level < 3)

/-- MEM_SELF_REFRESH_ENTRY (R382): the channel has had no access for MEM_SR_US. -/
def execMemSelfRefreshEntry (ch : Nat) (s : State) : Host.Outcome State Fault Refusal :=
  let c := s.chan ch
  if s.hubPowered && mayRefresh s && decide (ch < 8) && c.trained && !c.failed && !c.selfRefresh then
    .next { s.setChan ch { c with selfRefresh := true } with sched := { s.sched with srEntries := s.sched.srEntries + 1 } }
  else .next s

/-- A parity block of a region; block 8 is the spare, gated until it is taken into use (01 R26, R30). -/
def State.pblock (s : State) (region block : Nat) : PBlock :=
  tblGet s.fabric.blocks (region, block) (if block = 8 then { active := false, gated := true } else {})

/-- The state with a parity block replaced. -/
def State.setPblock (s : State) (region block : Nat) (b : PBlock) : State :=
  { s with fabric := { s.fabric with blocks := tblPut s.fabric.blocks (region, block) b } }

/-- A block without anything of a stream, whose whole stream is reissued. -/
def dropStream (stream : Nat) (b : PBlock) : PBlock :=
  { b with
    setups := tblDel b.setups stream
    lines := b.lines.filter fun l => !decide (l.1.1 = stream)
    finished := b.finished.filter fun f => !decide (f.1 = stream)
    waiting := b.waiting.filter fun w => !decide (w.tag.stream.toNat = stream) }

/-- PARITY_BLOCK_GATE (R382): no open stream for BLOCK_GATE_US. -/
def execParityBlockGate (region block : Nat) (s : State) : Host.Outcome State Fault Refusal :=
  let b := s.pblock region block
  if s.hubPowered && (decide (s.feats.blockGateUs ≠ 0) || decide (3 ≤ s.mode.ps)) && decide (region < 4) && decide (block < 9) &&
      b.active && !b.gated && b.lines.isEmpty && b.waiting.isEmpty then
    .next { s.setPblock region block { b with gated := true, setups := [], finished := [] } with
      sched := { s.sched with gateEntries := s.sched.gateEntries + 1 } }
  else .next s

/-- Dirty pages remain, of any kind (05 R161). -/
def anyDirty (s : State) : Bool := s.cache.dir.any fun e => isDirtyState e.state

/-- The member in a slot is a keeper of its deck. -/
def isKeeperSlot (s : State) (x : Nat) : Bool :=
  match (s.slot x).deckId, (s.slot x).index with
  | some id, some mem => ((s.deck id).map fun d => d.rings.any fun r => r.keeper && decide (r.member = mem)).getD false
  | _, _ => false

/-- Nothing keeps a member port from L1.2 (13 R382, R383): usable, with L1.2, nothing outstanding, and no keeper's under write-through. -/
def mayL12 (s : State) (x : Nat) (p : MPort) : Bool :=
  p.usable && p.l12ok && !p.l12 && p.tags.isEmpty && !(s.cache.writeThrough && isKeeperSlot s x)

/-- Member links in L1.2 (05 R161; 13 R384), with the entries counted. -/
def idleLinks (s : State) : State :=
  let n := s.members.slots.foldl (fun n p =>
    n + (if mayL12 s p.1 p.2.portA then 1 else 0) + (if mayL12 s p.1 p.2.portB then 1 else 0)) 0
  { s with
    members := { s.members with slots := s.members.slots.map fun p => (p.1, { p.2 with
      portA := { p.2.portA with l12 := p.2.portA.l12 || mayL12 s p.1 p.2.portA }
      portB := { p.2.portB with l12 := p.2.portB.l12 || mayL12 s p.1 p.2.portB } }) }
    sched := { s.sched with l12Entries := s.sched.l12Entries + n } }

/-- The lowest power state of a drive, by its exit latencies in µs, whose exit latency is at most 45 ms (05 R161). -/
def restState (exitUs : List Nat) : Nat := ((List.range exitUs.length).filter fun i => decide (exitUs.getD i 0 ≤ 45000)).getLast?.getD 0

/-- Members go to that power state, by Set Features of Power Management (05 R161). -/
def restMembers (s : State) : State :=
  (s.members.slots.filter fun p => decide (p.2.cls = .member)).foldl (fun s p =>
    let n := ((p.2.info.map fun i => restState i.exitUs).getD 0)
    if n = 0 ∨ (p.2.portA.usable || p.2.portB.usable) = false then s
    else emit (.memberFeature p.1 0x02 n) (updSlot p.1 (fun v => { v with ps := n }) s)) s

/-- Enter a non-operational power state (05 R161): channels in self-refresh, member links in L1.2, blocks gated; in PS4 the members rest too. -/
def enterIdlePs (ps : Nat) (s : State) : State :=
  let s1 := { s with
    mode := { s.mode with ps := ps, lastOpPs := if s.mode.ps < 3 then s.mode.ps else s.mode.lastOpPs, psTarget := none } }
  let s2 := (List.range 8).foldl (fun s i =>
    let c := s.chan i
    if c.trained && !c.failed then s.setChan i { c with selfRefresh := true } else s) s1
  let s2 := idleLinks (if ps = 4 then restMembers s2 else s2)
  (List.range 36).foldl (fun s i =>
    let b := s.pblock (i / 9) (i % 9)
    if b.active && b.lines.isEmpty && b.waiting.isEmpty then
      s.setPblock (i / 9) (i % 9) { b with gated := true, setups := [], finished := [] }
    else s) s2

/-- Go to a power state (05 R161, R164): PS4 waits until every dirty page is destaged. -/
def goToPs (ps : Nat) (s : State) : State :=
  if ps < 3 then { s with mode := { s.mode with ps := ps, lastOpPs := ps, psTarget := none } }
  else if ps = 4 ∧ anyDirty s = true then { s with mode := { s.mode with psTarget := some ps } }
  else enterIdlePs ps s

/-- The last dirty page has been destaged: a waiting entry goes on (05 R161). -/
def settlePs (s : State) : State :=
  match s.mode.psTarget with
  | some ps => if anyDirty s then s else enterIdlePs ps s
  | none => s

/-- APST is enabled on a controller: APSTE, bit 0 of the feature's CDW11 (05 R164; NVMe). -/
def apstOn (c : Ctl) : Bool := (featValue c 0x0C 0).getLsbD 0

/-- APST_TRANSITION (05 R164): the timer of the present state's entry has expired. -/
def execApstTransition (ctl : Nat) (s : State) : Host.Outcome State Fault Refusal :=
  match tblFind (s.ctl ctl).apst s.mode.ps with
  | none => .next s
  | some (target, idle) =>
    if s.serving && ctlExists s ctl && apstOn (s.ctl ctl) && decide (idle ≠ 0) && decide (3 ≤ target) && decide (target ≤ 4) &&
        decide (s.mode.ps < target) && decide ((s.ctlIds.foldl (fun n id => n + openCount (s.ctl id)) 0) = 0) then
      .next (goToPs target s)
    else .next s

/-- Units whose idle timer is 0 leave their idle state (13 R384), but in PS3 and PS4. -/
def applyTimers (s : State) : State :=
  if 3 ≤ s.mode.ps then s
  else
    let f := s.feats
    { s with
      cache := if f.memSrUs = 0 then
          { s.cache with channels := s.cache.channels.map fun p => (p.1, { p.2 with selfRefresh := false }) } else s.cache
      members := if f.linkL12Us = 0 then
          { s.members with slots := s.members.slots.map fun p =>
            (p.1, { p.2 with portA := { p.2.portA with l12 := false }, portB := { p.2.portB with l12 := false } }) } else s.members
      fabric := if f.blockGateUs = 0 then
          { s.fabric with blocks := s.fabric.blocks.map fun p => (p.1, { p.2 with gated := p.2.gated && !p.2.active }) } else s.fabric }

/-- Blocks of a region that its granted parity work needs (R383): a block takes twice the cell rate for m ≤ 2, and the cell rate where a deck has m = 3
(R365; DEDUCED, log 156). -/
def blocksNeeded (s : State) (m : WindowMeas) (region : Nat) : Nat :=
  let k := if s.decks.decks.any fun p => decide (p.2.label.shape.m = 3) then 1 else 2
  ceilDiv (grantedBytes s.sched m (region + 1)) (max 1 (100 * k * s.sched.rates.getD (region + 1) 16000))

/-- The scheduler ungates blocks where a region's granted parity work needs more than are ungated (R383), the lowest numbers first. -/
def ungateBlocks (m : WindowMeas) (s : State) : State :=
  (List.range 4).foldl (fun s region =>
    let active := (List.range 9).filter fun b => (s.pblock region b).active && !(s.pblock region b).quarantined
    let gated := active.filter fun b => (s.pblock region b).gated
    (gated.take (blocksNeeded s m region - (active.length - gated.length))).foldl (fun s b =>
      s.setPblock region b { s.pblock region b with gated := false }) s) s

/-- The ports of a deck's keepers leave L1.2 while the cache runs write-through (R383). -/
def wakeKeepers (s : State) : State :=
  if !s.cache.writeThrough then s
  else
    let slots := s.members.slots.map fun p =>
      if isKeeperSlot s p.1 then (p.1, { p.2 with portA := { p.2.portA with l12 := false }, portB := { p.2.portB with l12 := false } }) else p
    { s with members := { s.members with slots := slots } }

/-- Each rail's setpoint, current and status are read once a window (R366, R367). -/
def readRails (s : State) : State := (List.range 5).foldl (fun s d => emit (.avsRead d) s) s

/-- SCHEDULER_WINDOW (13 R369 to R381): the window's grants under the cap in force, its measurements, heat, the voltages of the next
window, the dirty limit and destage level, and the constraint causes (02 R48). TRUMP work ends PS3 and PS4 (05 R163), and idle timers that are 0 apply (R384). In HOLDUP the voltages stay at R418's. -/
def execSchedulerWindow (meas : WindowMeas) (s : State) : Host.Outcome State Fault Refusal :=
  if !s.hubPowered then .next s
  else
    let debt := s.sched.debt
    let (s, g, reqs, capMw) := grantWindow meas s
    let s := excessRule (g.bWork + debt) (g.grant.getD 0 0) capMw s
    let s := avsRules meas (readRails s)
    let s := measureWindow meas g reqs capMw s
    let s := { s with sched := takeTemps meas s.sched }
    let s := { s with sched := { s.sched with thermMw := nextTherm s.sched.tjMax s.sched.thermMw (powerNow s.sched) } }
    let s := heatRules s
    if s.mode.mode = .holdup then .next s
    else
      let s := if 0 < reqs.getD 0 0 then wakeHost s else s
      let s := writeVolts (perDomain (nextVolt s meas)) (ungateBlocks meas s)
      .next (settlePs (wakeKeepers (applyTimers (constraintEval (evalCache s)))))

/-! ## Power and Scheduler log (R385) -/

/-- A signed value in `n` bytes. -/
def leSigned (n : Nat) (v : Int) : Bytes := leBytes n (v % (2 ^ (8 * n) : Int)).toNat

/-- FLAGS of the log. -/
def schedFlags (s : State) : Nat :=
  (if s.sched.startup then 1 else 0) + (if s.mode.heatCause then 2 else 0) + (if s.mode.capCause then 4 else 0) +
  (match s.sched.exceedLast with | some t => if s.now - t < 1000000000 then 8 else 0 | none => 0) +
  (if s.sched.held.isEmpty then 0 else 16)

/-- Highest 1 ms average of the last second: ten windows each. -/
def peakMs : Nat → List WindowSample → Nat
  | 0, _ => 0
  | n + 1, l =>
    match l with
    | [] => 0
    | _ => max ((l.take 10).foldl (fun a w => a + w.powerMw) 0 / (l.take 10).length) (peakMs n (l.drop 10))

/-- Mean power of the last second. -/
def meanPower (l : List WindowSample) : Nat :=
  if l.isEmpty then 0 else l.foldl (fun n w => n + w.powerMw) 0 / l.length

/-- Share of work energy of a class over the last second, in 0.01 %. -/
def shareOf (l : List WindowSample) (c : Nat) : Nat :=
  let total := l.foldl (fun n w => n + w.spent.foldl (· + ·) 0) 0
  if total = 0 then 0 else l.foldl (fun n w => n + w.spent.getD c 0) 0 * 10000 / total

/-- Parity blocks gated, of 36. -/
def gatedBlocks (s : State) : Nat :=
  (List.range 4).foldl (fun n r => n + ((List.range 9).filter fun b => (s.pblock r b).gated).length) 0

/-- Exit latency of a gated block at the present corner: 0.5 µs at 16 GB/s, and times scale with the inverse of the slowest region's
cell rate (R365, R382; DEDUCED, log 24). -/
def gateExitNs (sc : Sched) : Nat :=
  let r := (sc.rates.drop 1).foldl min 20800
  if r = 0 then 800 else ceilDiv (500 * 16000) r

/-- The log's bytes; `portsL12` and `l12ExitNs` come from the member ports. -/
def schedLog (portsL12 l12ExitNs : Nat) (s : State) : Bytes :=
  let sc := s.sched
  let head := leBytes 8 sc.windows ++ leBytes 4 (capUserMw s) ++ leBytes 4 sc.capMw ++ leBytes 1 sc.capSrc ++
    leBytes 1 (schedFlags s) ++ leSigned 2 sc.tjMax ++ leBytes 4 (powerNow sc) ++ leBytes 4 (meanPower sc.hist) ++
    leBytes 4 (peakMs 1000 sc.hist) ++ leSigned 4 sc.fixedUj ++ leSigned 4 sc.bWork ++ leBytes 4 sc.exceedCount ++
    leBytes 4 (if sc.startup then (10000000000 - (s.now - sc.startAt)) / 1000000 else 0) ++ leBytes 4 sc.thermMw ++
    leSigned 4 sc.debt ++ zeros 8
  let dom := (List.range 5).flatMap fun d =>
    leBytes 2 (sc.vset.getD d 0) ++ leSigned 2 (sc.temps.getD d 0) ++ leBytes 4 (sc.flits.getD d 0) ++
    leBytes 4 (sc.railMw.getD d 0) ++ leBytes 2 (if d = 0 then 0 else sc.rates.getD d 0) ++ leBytes 1 (sc.busyPct.getD d 0) ++ zeros 1
  let cls := (List.range 7).flatMap fun c =>
    leBytes 1 (if c = 0 then 0xFF else s.feats.floors.getD (c - 1) 0 * 100 / floorDivisor s.feats.floors) ++ zeros 1 ++
    leBytes 2 (shareOf sc.hist c) ++ leSigned 4 (sc.requests.getD c 0) ++ leSigned 4 (sc.grants.getD c 0) ++
    leBytes 4 (sc.hist.filter fun w => w.short.getD c false).length
  let sr := (List.range 8).foldl (fun n i => if (s.chan i).selfRefresh then n + 2 ^ i else n) 0
  let tail := leBytes 1 sr ++ leBytes 1 s.cache.level ++ leBytes 2 (gatedBlocks s) ++ leBytes 2 portsL12 ++ zeros 2 ++
    leBytes 4 3000 ++ leBytes 4 l12ExitNs ++ leBytes 4 (gateExitNs sc) ++ zeros 4 ++ leBytes 8 sc.srEntries ++ leBytes 8 sc.l12Entries ++
    leBytes 8 sc.gateEntries ++ zeros 208
  head ++ dom ++ cls ++ tail

end Sys2Proof.Machine
end

