-- ==== Sys2Proof/Machine/Readback.lean ====
section
/-!
DEFINITION. What a member holds, read back from its blocks: deck labels, forerunner labels, the volume table, and the journal ring (07 R219
to R221, R224, R226 to R229, R233; 09 R261 to R264; 10 R284, R292, R304; 11 R317). A code that the manual calls invalid makes the copy or
the record that carries it invalid (DESIGN CHOICE, log 134).
-/

namespace Sys2Proof.Machine

/-! ## Blocks and fields -/

/-- The 4,096 bytes at an offset of a drive's namespace 1, as bring-up found them: a block that is not listed is all zero. -/
def blockAt (i : DriveInfo) (off : Nat) : Bytes := ((i.blocks.find? fun b => decide (b.1 = off)).map (·.2)).getD (zeros 4096)

/-- A field of a structure: `len` bytes at `off`, least significant first (00 R6). -/
def fieldAt (b : Bytes) (off len : Nat) : Nat := leNat ((b.drop off).take len)

/-- A structure carries a MAGIC and a VERSION, and the CRC-32C that follows its `n` bytes. -/
def structOk (magic : String) (version n : Nat) (b : Bytes) : Bool :=
  decide (b.take 8 = asciiBytes magic) && decide (fieldAt b 8 2 = version) && decide (fieldAt b n 4 = (crc32c (b.take n)).toNat)

/-- Of some copies, the one with the highest sequence number; of equals the first. -/
def bestOf {α : Type} (seqOf : α → Nat) (l : List α) : Option α :=
  l.foldl (fun best a => match best with
    | none => some a
    | some b => if seqOf b < seqOf a then some a else some b) none

/-! ## Deck labels (07 R219 to R221, R224; 11 R317) -/

/-- MSTATE of a code. -/
def mstateCoded : Nat → Option MState
  | 0 => some .active
  | 1 => some .failed
  | 2 => some .replacing
  | 3 => some .absent
  | _ => none

/-- FSTATE of a code. -/
def fstateCoded : Nat → Option FState
  | 0 => some .rebuilding
  | 1 => some .rebuilt
  | 2 => some .copyback
  | _ => none

/-- Dealing mode of a code. -/
def modeCoded : Nat → Option DealMode
  | 0 => some .rotate
  | 1 => some .shuffle
  | _ => none

/-- A number that 0xFF marks as absent. -/
def orNone (n : Nat) : Option Nat := if n = 0xFF then none else some n

/-- The first `n` entries of a table of `size` bytes an entry, each read by `f`; none when one of them is invalid. -/
def readTableOf {α : Type} (f : Bytes → Option α) (size : Nat) : Nat → Bytes → Option (List α)
  | 0, _ => some []
  | n + 1, b => (f (b.take size)).bind fun a => (readTableOf f size n (b.drop size)).map fun l => a :: l

/-- A member table entry (07 R220). -/
def readMember (b : Bytes) : Option MemberEntry :=
  (mstateCoded (fieldAt b 1 1)).map fun st =>
    { slot := orNone (fieldAt b 0 1), mstate := st, tagged := (fieldAt b 2 1).testBit 0, cap := fieldAt b 8 8, nguid := fieldAt b 16 16 }

/-- A fail list entry (07 R221). -/
def readFail (b : Bytes) : Option FailEntry :=
  (fstateCoded (fieldAt b 1 1)).map fun st => { member := fieldAt b 0 1, fstate := st, watermark := fieldAt b 8 8 }

/-- The REDEAL field of a deck of `n` members (11 R317). -/
def readRedeal (n : Nat) (b : Bytes) : Option RedealField :=
  (modeCoded (fieldAt b 2 1)).bind fun mode =>
    (if fieldAt b 24 1 = 1 then some RedealPhase.copy else if fieldAt b 24 1 = 2 then some RedealPhase.switch else none).map fun ph =>
      { newGen := fieldAt b 0 2
        newShape := { mode := mode, k := fieldAt b 3 1, m := fieldAt b 4 1, n := fieldAt b 5 1, s := fieldAt b 6 1,
                      chunkShift := fieldAt b 7 1, seed := BitVec.ofNat 64 (fieldAt b 8 8), rounds := fieldAt b 16 8 }
        phase := ph, wmNsid := fieldAt b 32 4, wmVhand := fieldAt b 40 8, started := BitVec.ofNat 64 (fieldAt b 48 8)
        handsTotal := fieldAt b 56 8, addSlots := (List.range (fieldAt b 5 1 - n)).map fun i => fieldAt b (64 + i) 1 }

/-- A native label copy: valid by MAGIC, VERSION and CRC (07 R219, R224 step 1). -/
def readLabel (b : Bytes) : Option NativeLabel :=
  if structOk "WSDVDECK" 2 4092 b then
    let flags := fieldAt b 22 1
    let n := fieldAt b 16 1
    (modeCoded (fieldAt b 13 1)).bind fun mode =>
    (readTableOf readMember 32 (min n 64) (b.drop 640)).bind fun members =>
    (readTableOf readFail 16 (min (fieldAt b 23 1) 16) (b.drop 128)).bind fun fails =>
    (if flags.testBit 1 then (readRedeal n (b.drop 384)).map some else some none).bind fun redeal =>
    if 7 < fieldAt b 19 1 then none
    else some {
      memberIndex := fieldAt b 11 1, nguid := fieldAt b 48 16
      label :=
        { deckId := fieldAt b 12 1
          shape := { mode := mode, k := fieldAt b 14 1, m := fieldAt b 15 1, n := n, s := fieldAt b 17 1, chunkShift := fieldAt b 18 1,
                     seed := BitVec.ofNat 64 (fieldAt b 64 8), rounds := fieldAt b 72 8 }
          deckState := fieldAt b 19 1, generation := fieldAt b 20 2, cleanStop := flags.testBit 0, imported := flags.testBit 2
          failList := fails, keeper0 := orNone (fieldAt b 24 1), keeper1 := orNone (fieldAt b 25 1), uuid := fieldAt b 32 16
          dataStart := fieldAt b 80 8, journalStart := fieldAt b 88 8, voltStart := fieldAt b 96 8, labelSeq := fieldAt b 112 8
          createTime := BitVec.ofNat 64 (fieldAt b 120 8), redeal := redeal, members := members, wseqCeil := fieldAt b 2688 8 } }
  else none

/-- The native label of a drive: its valid copy with the highest LABEL_SEQ (07 R212, R224 step 1). -/
def nativeOf (i : DriveInfo) : Option NativeLabel :=
  bestOf (fun l => l.label.labelSeq)
    ([0, 1, 2, 3].filterMap fun copy => readLabel (blockAt i (labelOffset copy (i.cap / 1048576 * 1048576))))

/-- A forerunner label copy: valid by MAGIC, VERSION and CRC (07 R233). -/
def readFore (b : Bytes) : Option ForeLabel :=
  if structOk "WSDVDECK" 1 508 b then
    some { k := fieldAt b 10 1, m := fieldAt b 11 1, n := fieldAt b 12 1, memberIndex := fieldAt b 13 1
           cleanStop := (fieldAt b 14 1).testBit 0, uuid := fieldAt b 16 16, dataStart := fieldAt b 32 8, rounds := fieldAt b 40 8
           labelSeq := fieldAt b 48 8 }
  else none

/-- The forerunner label of a drive: its copies lie at bytes 0 and 512 (07 R233); of two valid ones, that with the higher LABEL_SEQ. -/
def foreOf (i : DriveInfo) : Option ForeLabel :=
  bestOf (fun l => l.labelSeq) ([0, 512].filterMap fun off => readFore ((blockAt i 0).drop off))

/-! ## The volume table (05 R143; 07 R226, R227; 10 R284) -/

/-- An extent of a Volume Map (05 R143). -/
def readExtent (b : Bytes) : Option (Nat × Nat × Nat) := some (fieldAt b 0 5, fieldAt b 5 5, fieldAt b 10 4)

/-- An entry of a bad-block list (10 R284). -/
def readBad (b : Bytes) : Option BadEntry := some { base := fieldAt b 0 5, map := fieldAt b 8 8 }

/-- A used record of a volume table. What it does not hold, the layout of metadata and the attachments, is as the block takes it up: separate
metadata, and every controller attached (DESIGN CHOICE, log 43). -/
def readVolume (ctls : List Nat) (r : Bytes) : Volume :=
  let flags := fieldAt r 4250 1
  { nsid := fieldAt r 0 4, deckId := fieldAt r 4 1, lbaf := fieldAt r 5 1, extended := false, deckGen := fieldAt r 6 2
    nsze := fieldAt r 8 8, handsAlloc := fieldAt r 16 8, crypt := fieldAt r 30 1
    extents := (readTableOf readExtent 16 (min (fieldAt r 28 2) 256) (r.drop 64)).getD []
    dps := fieldAt r 4168 1, vstate := fieldAt r 4169 1
    key := if fieldAt r 30 1 = 1 then Config.unwrapKey wrappingKey ((r.drop 4176).take 72) else 0
    recSeq := fieldAt r 4160 8, bad := (readTableOf readBad 16 (min (fieldAt r 4248 2) 245) (r.drop 4256)).getD []
    overflow := flags.testBit 0, writeLock := flags.testBit 1, attached := ctls, formatLeft := none }

/-- The used records of a volume table copy (07 R226): those whose NSID field is not 0. -/
def usedRecords (i : DriveInfo) (at_ : Nat) : List Bytes :=
  ((List.range 1024).map fun x => blockAt i (at_ + 4096 + x * 8192) ++ blockAt i (at_ + 8192 + x * 8192)).filter
    fun r => decide (fieldAt r 0 4 ≠ 0)

/-- A volume table copy as (TABLE_SEQ, records): valid when its header is valid, of this deck, and every used record has a valid CRC (07 R227;
the DECK_UUID is DEDUCED, log 134). A copy whose GENERATION is not the label's belongs to a switch that did not commit, and is not the table
(11 R325). -/
def readTable (i : DriveInfo) (l : DeckLabel) (at_ : Nat) : Option (Nat × List Bytes) :=
  let h := blockAt i at_
  if structOk "WSDVVOLT" 1 4092 h && decide (fieldAt h 16 16 = l.uuid) && decide (fieldAt h 40 2 = l.generation) then
    let recs := usedRecords i at_
    if recs.all fun r => decide (fieldAt r 8188 4 = (crc32c (r.take 8188)).toNat) then some (fieldAt h 32 8, recs) else none
  else none

/-- The volume table of a deck: the valid copy with the higher TABLE_SEQ over all its members (07 R227). -/
def deckTable (drives : List DriveInfo) (l : DeckLabel) : Option (Nat × List Bytes) :=
  bestOf (fun t => t.1) (drives.flatMap fun i => [l.voltStart, l.voltStart + 9 * 1048576].filterMap (readTable i l))

/-- NSIDs of the records that the two copies of a drive's table hold, whether the copies are valid or not. -/
def recordIds (i : DriveInfo) (l : DeckLabel) : List Nat :=
  (i.blocks.filter fun b => [0, 9 * 1048576].any fun c =>
    let at_ := l.voltStart + c + 4096
    decide (at_ ≤ b.1) && decide (b.1 < at_ + 1024 * 8192) && decide ((b.1 - at_) % 8192 = 0) && decide (fieldAt b.2 0 4 ≠ 0)).map
      fun b => fieldAt b.2 0 4

/-- TABLE_SEQ of the two copies of a drive, 0 for one that is not valid. -/
def copySeqs (i : DriveInfo) (l : DeckLabel) : Nat × Nat :=
  let seq := fun c => ((readTable i l (l.voltStart + c)).map fun t => t.1).getD 0
  (seq 0, seq (9 * 1048576))

/-! ## The journal ring (07 R228, R229; 09 R261 to R264) -/

/-- A journal area header of a member as a ring without records (07 R228). -/
def readHeader (i : DriveInfo) (l : DeckLabel) (mem block : Nat) : Option Ring :=
  let h := blockAt i (l.journalStart + block * 4096)
  if structOk "WSDVJRNL" 1 4092 h && decide (fieldAt h 16 16 = l.uuid) then
    some { member := mem, keeper := decide (fieldAt h 10 1 = 1), complete := (fieldAt h 11 1).testBit 0, epoch := fieldAt h 40 8
           hdrSeq := fieldAt h 32 8, headBlock := fieldAt h 48 4, tailBlock := fieldAt h 52 4, headRseq := fieldAt h 56 8, moved := 0, recs := [] }
  else none

/-- A ring block is the one that the reader waits for (07 R229). -/
def ringBlockOk (epoch rseq : Nat) (b : Bytes) : Bool :=
  decide (b.take 4 = asciiBytes "JBLK") && decide (fieldAt b 8 8 = rseq) && decide (fieldAt b 16 8 = epoch) &&
    decide (fieldAt b 28 4 = (crc32c (b.take 28 ++ b.drop 32)).toNat)

/-- The blocks of a ring from a block on, up to the first that is not valid (07 R229). -/
def ringRun (i : DriveInfo) (l : DeckLabel) (epoch : Nat) : Nat → Nat → Nat → List Bytes
  | 0, _, _ => []
  | n + 1, blk, rseq =>
    let b := blockAt i (l.journalStart + blk * 4096)
    if ringBlockOk epoch rseq b then b :: ringRun i l epoch n (ringAfter blk 1) (rseq + 1) else []

/-- KIND of an intent. -/
def kindCoded (n : Nat) : UpdKind := if n = 1 then .full else if n = 2 then .rmw else .rcw

/-- An intent entry of a record (09 R262). -/
def readIntent (jseq : Nat) (newGen : Bool) (b : Bytes) : Option Intent :=
  some { wseq := fieldAt b 0 8, hand := fieldAt b 8 5, kind := kindCoded (fieldAt b 13 1), blkFirst := fieldAt b 14 1, blkLast := fieldAt b 15 1
         dmask := fieldAt b 16 4, pmask := fieldAt b 20 1, degraded := (fieldAt b 21 1).testBit 0, dataJ := (fieldAt b 21 1).testBit 1
         mmask := fieldAt b 24 4, reconJseq := fieldAt b 32 8, jseq := some jseq, durable := true, newGen := newGen }

/-- A page of a DATA record (09 R263). -/
def readJPage (b : Bytes) : Option JPage :=
  some { vpage := fieldAt b 0 5, valid := BitVec.ofNat 8 (fieldAt b 5 1), zero := BitVec.ofNat 8 (fieldAt b 6 1)
         poison := BitVec.ofNat 8 (fieldAt b 7 1), data := (b.drop 16).take 4096, ver := 0 }

/-- The value of a TRIM record. -/
def readValue (b : Bytes) : Option Nat := some (fieldAt b 0 8)

/-- A segment of a REBUILD body (10 R292). -/
def readSeg (b : Bytes) : Option (Nat × Nat) := some (fieldAt b 0 8, fieldAt b 8 2)

/-- The payload of a PROGRESS record (09 R264; 10 R292, R299, R304; 11 R330). -/
def readProgress (p : Bytes) : Option Progress :=
  let b := p.drop 16
  let time := fun off => BitVec.ofNat 64 (fieldAt b off 8)
  match fieldAt p 0 1 with
  | 1 => some (.rebuild (fieldAt b 0 8) ((readTableOf readSeg 16 (min (fieldAt b 8 1) 32) (b.drop 24)).getD []) (fieldAt b 9 1) (fieldAt b 16 8))
  | 2 => some (.copyback (fieldAt b 0 1) (fieldAt b 1 1) (fieldAt b 8 8) (time 16))
  | 3 => some (.redeal (fieldAt b 0 1) (fieldAt b 4 4) (fieldAt b 8 8) (fieldAt b 16 8) (time 24))
  | 4 => some (.resync (fieldAt b 0 8) (time 8))
  | 5 => some (.patrol (fieldAt b 0 8) (fieldAt b 8 4) (fieldAt b 12 1) (time 16) (fieldAt b 24 8))
  | _ => none

/-- A record that counts for nothing but the ring blocks it takes: one whose TYPE or OP is invalid, or a part of a DATA record whose other
part is missing (09 R261, R263). -/
def idleRec (jseq gen blocks : Nat) : JRec := { jseq := jseq, gen := gen, body := .trim false [], blocks := blocks }

/-- The body of a record part: header and payload `b` (09 R261 to R264). -/
def readBody (l : DeckLabel) (b : Bytes) : Option JBody :=
  let p := b.drop 32
  let count := fieldAt b 2 2
  match fieldAt b 0 1 with
  | 1 => (readTableOf (readIntent (fieldAt b 8 8) (decide (fieldAt b 16 2 ≠ l.generation))) 64 (min count 63) p).map .intent
  | 2 => (readTableOf readJPage 4112 (min count 528) (p.drop 16)).map
      fun ps => .data (fieldAt p 0 2) (fieldAt p 2 2) (fieldAt p 4 4) ((fieldAt b 1 1).testBit 1) ps
  | 3 => (readTableOf readValue 8 (min count 504) p).map fun vs => .trim ((fieldAt b 1 1).testBit 0) vs
  | 4 => (readProgress p).map .progress
  | 5 => some .replicaEnd
  | _ => none

/-- One record part that begins at the front of a ring's blocks, as (PART, LAST_PART, record); the blocks that follow it. -/
def readPart (l : DeckLabel) (b : Bytes) (rest : List Bytes) : (Nat × Bool × JRec) × List Bytes :=
  let n := fieldAt b 4 2
  let bytes := (b :: rest.take (n - 1)).flatMap fun x => x.drop 32
  let r : JRec := idleRec (fieldAt bytes 8 8) (fieldAt bytes 16 2) (min n (rest.length + 1))
  let whole := decide (1 ≤ n) && decide (n ≤ rest.length + 1)
  let body := if whole then (readBody l bytes).getD r.body else r.body
  ((fieldAt bytes 19 1, decide (fieldAt bytes 0 1 ≠ 2) || (fieldAt bytes 1 1).testBit 0, { r with body := body, blocks := max 1 r.blocks }),
    rest.drop (n - 1))

/-- The parts of the records of a ring's blocks. -/
def readParts (l : DeckLabel) : Nat → List Bytes → List (Nat × Bool × JRec)
  | 0, _ => []
  | _, [] => []
  | n + 1, b :: rest =>
    let r := readPart l b rest
    r.1 :: readParts l n r.2

/-- The records of a ring's parts: a DATA record counts when every part is there (09 R263). -/
def joinParts : List (Nat × Bool × JRec) → List JRec
  | [] => []
  | [a] => [if a.1 = 0 ∧ a.2.1 = true then a.2.2 else idleRec a.2.2.jseq a.2.2.gen a.2.2.blocks]
  | a :: b :: rest =>
    if a.1 = 0 ∧ a.2.1 = true then a.2.2 :: joinParts (b :: rest)
    else
      match a.2.2.body, b.2.2.body with
      | .data c q v x ps, .data _ _ _ _ qs =>
        if a.1 = 0 ∧ b.1 = 1 ∧ b.2.1 = true ∧ b.2.2.jseq = a.2.2.jseq then
          { a.2.2 with body := .data c q v x (ps ++ qs), blocks := a.2.2.blocks + b.2.2.blocks } :: joinParts rest
        else idleRec a.2.2.jseq a.2.2.gen a.2.2.blocks :: joinParts (b :: rest)
      | _, _ => idleRec a.2.2.jseq a.2.2.gen a.2.2.blocks :: joinParts (b :: rest)

/-- The journal ring of a member: its current header, the valid one with the higher HDR_SEQ, and the records that it leads to (07 R228,
R229). A member without a valid header has the ring of a member that is no keeper. -/
def readRing (i : DriveInfo) (l : DeckLabel) (mem : Nat) : Ring :=
  match bestOf (fun g => g.hdrSeq) ([0, 1].filterMap (readHeader i l mem)) with
  | none => { newRing mem false with hdrSeq := 0 }
  | some g =>
    if g.keeper then
      let run := ringRun i l g.epoch 65534 g.headBlock g.headRseq
      { g with tailBlock := ringAfter g.headBlock run.length, recs := joinParts (readParts l run.length run) }
    else g

end Sys2Proof.Machine
end

