-- ==== Sys2Proof/Machine/Rebuild.lean ====
section
/-!
DEFINITION. Rows and hands repaired in the background: patrol findings, rows that lose more than m blocks, replay of an intent, resync,
the failure scan, rebuild into kitty slots, and copy-back to a replacement (09 R273 to R275; 10 R280 to R300, R308, R536).
Each of these steps is whole: its member writes are durable when it ends (DESIGN CHOICE, log 39).
-/

namespace Sys2Proof.Machine

/-! ## Tags and rows -/

/-- WSEQ a precedes b (10 R306). -/
def precedes (a b : Nat) : Bool :=
  let x := (b + 2 ^ 28 - a % 2 ^ 28) % 2 ^ 28
  decide (1 ≤ x) && decide (x < 2 ^ 27)

/-- The higher of two WSEQ values under R306. -/
def laterWseq (a b : Nat) : Nat := if precedes a b then b else a

/-- Highest of a list of WSEQ values, 0 when there is none. -/
def highestWseq : List Nat → Nat
  | [] => 0
  | a :: l => l.foldl laterWseq a

/-- Tags of a row's good blocks that are not all zero: chunk and WSEQ. -/
def rowTags (d : Deck) (hd row : Nat) (reads : List BlockRead) : List (Nat × Nat) :=
  reads.filterMap fun r =>
    if r.row = row ∧ readGood d hd r = true ∧ chunkMissing d hd r.chunk = false then
      match r.tag with
      | some t => if tagZero t then none else some (r.chunk, t.wseq)
      | none => none
    else none

/-- The WSEQ that a repaired block carries: the highest among the tags of the row's blocks, or 0 (09 R274; 10 R290, R305). -/
def rowWseq (d : Deck) (hd row : Nat) (reads : List BlockRead) : Nat := highestWseq ((rowTags d hd row reads).map (·.2))

/-- A read shows that a block is lost: it failed with a media error, or the block's tag is wrong (10 R277). A timeout is no evidence about a
block (10 R280). -/
def readLost (d : Deck) (hd : Nat) (r : BlockRead) : Bool :=
  decide (r.status = .mediaError) || (decide (r.status = .good) && !readGood d hd r)

/-- Blocks of a row that are lost (10 R277): not at hand, and their chunk is missing or a read shows it. A listed block is at hand, as zero. -/
def lostOfRow (d : Deck) (hd row : Nat) (reads : List BlockRead) (have_ : RowBlocks) : List Nat :=
  (List.range (widthOf d.label.shape)).filter fun c =>
    !tblHas have_ c && (chunkMissing d hd c || reads.any fun r => decide (r.row = row) && decide (r.chunk = c) && readLost d hd r)

/-- Every data block of a row is at hand or known to be lost. -/
def rowKnown (d : Deck) (have_ : RowBlocks) (lost : List Nat) : Bool :=
  (List.range d.label.shape.k).all fun c => tblHas have_ c || lost.contains c

/-- A row has lost more than m blocks, and what it still has of its data is at hand (10 R282). -/
def rowOverflowed (d : Deck) (hd row : Nat) (reads : List BlockRead) (have_ : RowBlocks) : Bool :=
  let lost := lostOfRow d hd row reads have_
  decide (d.label.shape.m < lost.length) && rowKnown d have_ lost

/-- The reads of a row suffice: its data can be had, or it has lost more than m blocks. -/
def rowSettled (s : State) (id : Nat) (d : Deck) (hd : Nat) (reads : List BlockRead) (row : Nat) : Bool :=
  let have_ := atHand s id d hd row reads
  (rowOld d have_).isSome || rowOverflowed d hd row reads have_

/-- The reads of every row of a hand suffice. -/
def handSettled (s : State) (id : Nat) (d : Deck) (hd : Nat) (reads : List BlockRead) : Bool :=
  (List.range (chunkBlocks d.label.shape)).all (rowSettled s id d hd reads)

/-- Every block of a row, when at most m are lost: data, then parity as it should be (08 R240, R243). -/
def fullRow (d : Deck) (have_ : RowBlocks) : Option RowBlocks :=
  (rowOld d have_).map fun old => old.filter (fun x => decide (x.1 < d.label.shape.k)) ++ encodeRow d.label.shape.k d.label.shape.m 4096 old

/-- Chunks of a row whose block a read error or a tag failure has lost, with the finding each gives. A timeout is no evidence about a block
(10 R280), and a listed block is not lost (10 R277). -/
def failedReads (s : State) (id : Nat) (d : Deck) (hd row : Nat) (reads : List BlockRead) : List (Nat × Nat) :=
  (List.range (widthOf d.label.shape)).filterMap fun c =>
    match reads.find? fun r => decide (r.row = row) && decide (r.chunk = c) && !chunkMissing d hd c && readLost d hd r with
    | some r => if blockListed s id d hd row c then none else some (if r.status = .good ∧ tagRight d hd r = false then 2 else 1, c)
    | none => none

/-- A read of the row timed out: what the row has lost is not known (10 R280, R305). -/
def rowTimedOut (row : Nat) (reads : List BlockRead) : Bool := reads.any fun r => decide (r.row = row) && decide (r.status = .timeout)

/-- Charge the drives whose blocks a step could not read or whose tags were wrong (12 R359). -/
def chargeReads (d : Deck) (hd : Nat) (reads : List BlockRead) (s : State) : State :=
  reads.foldl (fun s r =>
    match (memberAt d hd r.chunk).bind (slotOfMember d) with
    | none => s
    | some x =>
      if r.status = .mediaError then chargeMedia x s
      else if r.status = .good ∧ tagRight d hd r = false then chargeTag x s
      else s) s

/-- The drives that block writes go to can all be reached. -/
def reachAll (s : State) (ws : List WaitWrite) : Bool := ws.all fun w => slotReachable (s.slot w.slot)

/-- Region that issues a rebuild stream: the one that attaches the drive receiving the chunk, by port A while it serves (01 R40). -/
def rebuildRegion (s : State) (x : Nat) : Nat := portRegion s.slots x ((servingPort (s.slot x)).getD 0)

/-- A write of one block to a member, issued by the region that attaches it on its own port (01 R38, R40). -/
def emitBlock (w : WaitWrite) (s : State) : State :=
  let region := rebuildRegion s w.slot
  let s := emit (.memberWrite w.slot w.offset w.data w.tag) s
  match if slotReachable (s.slot w.slot) then portFrom s region w.slot else none with
  | some port => issueOn w.slot port 0x01 .store 4096 w.data (emit (.memberIssue region w.slot port 0x01) s)
  | none => holdCommand w.slot 0x01 .store 4096 w.data 0 false s

/-- Write blocks to members, durably. -/
def emitBlocks (ws : List WaitWrite) (s : State) : State := ws.foldl (fun s w => emitBlock w s) s

/-- The resync watermark has passed the hand, or no resync runs (09 R275). -/
def belowResync (d : Deck) (hd : Nat) : Bool := !aboveWatermark d hd

/-! ## Findings (10 R308) -/

/-- Every chunk of the hand that has a place lies on a tagged member: a tagged row (DEDUCED, log 40). -/
def taggedRow (d : Deck) (hd : Nat) : Bool :=
  (List.range (widthOf d.label.shape)).all fun c =>
    match (memberAt d hd c).bind (memberOf d) with
    | some e => e.tagged
    | none => true

/-- Record a finding: the log, GEN, event 0x4022, and the charge of R359 for 0x04 and 0x05 on a plain member. -/
def addFinding (id hd row code chunk action : Nat) (fromHost : Bool) (s : State) : State :=
  match s.deck id with
  | none => s
  | some d =>
    let owner := handOwner s id hd
    let f : Finding :=
      { time := s.recTime, hand := hd, deckId := id, chunk := chunk, block := row,
        member := if chunk = 0xFF then 0xFF else (memberAt d hd chunk).getD 0xFF,
        finding := code, action := action, tagged := taggedRow d hd, fromHost := fromHost,
        nsid := (owner.map fun o => o.1.nsid).getD 0,
        vpage := match owner with
          | some (_, vh) => if chunk < d.label.shape.k then pageOfBlock d.label.shape vh row chunk else 0
          | none => 0 }
    let l := s.decks.findings ++ [f]
    let s := { s with decks := { s.decks with
      findGen := s.decks.findGen + 1, findTotal := s.decks.findTotal + 1,
      findings := l.drop (l.length - 1024), findDropped := s.decks.findDropped + (l.length - 1024) } }
    let s := updDeck id (fun d => { d with patrol := { d.patrol with findings := d.patrol.findings + 1 } }) s
    let s := recordEvent 0x4022 [id, hd, code, action] s
    if (code = 4 ∨ code = 5) ∧ chunk ≠ 0xFF ∧ chunkTagged d hd chunk = false then
      match (memberAt d hd chunk).bind (slotOfMember d) with
      | some x => charge x 25 s
      | none => s
    else s

/-! ## Rows that lose more than m blocks (10 R282, R287, R536) -/

/-- Where a block of a chunk is written: its place on a live member, or a slot given in its stead (10 R298). -/
def writeAt (d : Deck) (hd row : Nat) (stead : Option (Nat × MemberEntry)) (wseq : Nat) (b : Nat × Bytes) : Option WaitWrite :=
  match stead with
  | some (c, e) =>
    if b.1 = c then
      e.slot.map fun x => { slot := x, chunk := c, offset := rowOffset d hd row, data := b.2, tag := updTag d e hd row c wseq b.2 }
    else if (livePlace d hd b.1).isSome then blockWrite d hd row b.1 wseq b.2 else none
  | none => if (livePlace d hd b.1).isSome then blockWrite d hd row b.1 wseq b.2 else none

/-- Step 3 of R282 for one row: zero to each lost data block that has a place, and every parity block that has one. -/
def overflowWrites (d : Deck) (hd row : Nat) (stead : Option (Nat × MemberEntry)) (wseq : Nat) (have_ : RowBlocks) (lost : List Nat) :
    List WaitWrite :=
  let data := (dataOnly d lost).map fun c => (c, zeros 4096)
  ((data ++ encodeRow d.label.shape.k d.label.shape.m 4096 (data ++ have_)).filterMap (writeAt d hd row stead wseq))

/-- Volume pages of the lost data blocks of a row that are not listed yet. -/
def lostPages (d : Deck) (v : Volume) (vh row : Nat) (lost : List Nat) : List Nat :=
  ((dataOnly d lost).map (pageOfBlock d.label.shape vh row)).filter fun p => !isListed v p

/-- Step 2 of R282: list the pages of a held hand; a hand that no volume holds lists nothing. The Bool is whether the step may go on. -/
def listRow (id : Nat) (d : Deck) (hd row : Nat) (lost : List Nat) (s : State) : Bool × State :=
  match handOwner s id hd with
  | none => (true, s)
  | some (v, vh) =>
    let (ok, s) := listPages v.nsid (lostPages d v vh row lost) s
    if ok then (true, s) else (false, updVolTable v.nsid (fun v => { v with writeLock := true }) s)

/-- Make one row consistent (10 R282), its EXCLUSIVE lock held for the whole step. The Bool is whether the row was made consistent. -/
def consistRow (id hd row : Nat) (stead : Option (Nat × MemberEntry)) (have_ : RowBlocks) (lost : List Nat) (s : State) : Bool × State :=
  match s.deck id with
  | none => (false, s)
  | some d =>
    let (w, s) := durableIntent id (overflowIntent d hd row row lost) s
    let (ok, s) := listRow id d hd row lost s
    let s := if ok then emitBlocks (overflowWrites d hd row stead w have_ lost)
        (runStreams id hd row [encodeStream d.label.shape.k d.label.shape.m] s) else s
    (ok, releaseIntent id w s)

/-- ROW_OVERFLOW_CONSISTENCY (10 R282, R287): when the blocks of the row that are lost, as its reads show, exceed m. -/
def execRowOverflowConsistency (deck hand row : Nat) (lost others : List BlockRead) (s : State) : Host.Outcome State Fault Refusal :=
  let reads := lost ++ others
  match s.deck deck with
  | none => .next s
  | some d =>
    let have_ := atHand s deck d hand row reads
    let gone := lostOfRow d hand row reads have_
    let may := s.serving && indexRoom s deck hand && decide (hand < handCount d) && decide (row < chunkBlocks d.label.shape) &&
      rowOverflowed d hand row reads have_ && reachAll s (overflowWrites d hand row none 0 have_ gone)
    .next (withLock deck { key := hand, mode := .exclusive, user := .overflow row } may
      (fun s => noteAll s (evalDeck deck (consistRow deck hand row none have_ gone (clearCleanStop deck s)).2)) s)

/-! ## Replay of an intent (09 R273; 11 R329) -/

/-- A whole page of the DATA record that an entry names. -/
def recordedPage (d : Deck) (jseq vpage : Nat) : Option Bytes :=
  (d.journal.find? fun r => decide (r.jseq = jseq)).bind fun r =>
    match r.body with
    | .data _ _ _ _ ps => (ps.find? fun q => decide (q.vpage = vpage) && decide (q.valid = 0xFF)).map (·.data)
    | _ => none

/-- A block that a replay takes from its reconstruction page: the newest version in the cache, when every sector of it is VALID, or else the DATA
record that the entry names. -/
def replaySource (s : State) (id : Nat) (d : Deck) (i : Intent) (row c : Nat) : Option Bytes :=
  match pageFor s id d i.newGen i.hand row c with
  | none => none
  | some (v, p) =>
    let cached := match newestOf s.cache (v.nsid - 1) p with
      | some e => if e.valid = 0xFF then some (newPage s.cache (v.nsid - 1) p e.ver (zeros 4096)) else none
      | none => none
    (cached.orElse fun _ => recordedPage d i.reconJseq p).map (toMember d.label.shape v p)

/-- Data chunks of MMASK. -/
def maskChunks (k mask : Nat) : List Nat := (List.range k).filter mask.testBit

/-- What a replay has of a row: the chunks of MMASK from their pages, zero where no source holds them, and the blocks read. -/
def replayHave (s : State) (id : Nat) (d ld : Deck) (i : Intent) (row : Nat) (reads : List BlockRead) : RowBlocks :=
  let gone := maskChunks ld.label.shape.k i.mmask
  gone.map (fun c => (c, (replaySource s id d i row c).getD (zeros 4096))) ++
  (if i.newGen then
    (reads.filter fun r => decide (r.row = row) && readGood ld i.hand r && !gone.contains r.chunk).map fun r => (r.chunk, r.data)
   else (atHand s id d i.hand row reads).filter fun b => !gone.contains b.1)

/-- The rows of an intent. -/
def intentRows (i : Intent) : List Nat := (List.range (i.blkLast + 1 - i.blkFirst)).map (i.blkFirst + ·)

/-- Chunks of MMASK whose block in a row no source holds. -/
def unsourced (s : State) (id : Nat) (d ld : Deck) (i : Intent) (row : Nat) : List Nat :=
  (maskChunks ld.label.shape.k i.mmask).filter fun c => (replaySource s id d i row c).isNone

/-- List the blocks that no source holds, in one listing, with event 0x3032. The Bool is whether they are listed. -/
def listUnsourced (id : Nat) (d ld : Deck) (i : Intent) (s : State) : Bool × State :=
  let owned := (intentRows i).flatMap fun row => (unsourced s id d ld i row).filterMap fun c => pageFor s id d i.newGen i.hand row c
  if (intentRows i).all fun row => (unsourced s id d ld i row).isEmpty then (true, s)
  else
    let nsid := (owned.head?.map fun o => o.1.nsid).getD 0
    let (ok, s) := listPages nsid (owned.map (·.2)) s
    lockIfRefused nsid (ok, recordEvent 0x3032 [id, i.hand, i.blkFirst, i.blkLast] s)

/-- Writes of one row of a replay whose data can be had: the parity; step 3 of R282 also writes zero to the blocks of MMASK that have a place and no
source. -/
def replayWrites (s : State) (id : Nat) (d ld : Deck) (i : Intent) (reads : List BlockRead) (row : Nat) : List WaitWrite :=
  match fullRow ld (replayHave s id d ld i row reads) with
  | none => []
  | some full =>
    (full.filter fun b => decide (ld.label.shape.k ≤ b.1) && chunkCurrent ld i.hand b.1 || (unsourced s id d ld i row).contains b.1).filterMap
      (writeAt ld i.hand row none i.wseq)

/-- What a row of a replay needs has been read: each data block is at hand or lost. -/
def replayKnown (s : State) (id : Nat) (d ld : Deck) (i : Intent) (reads : List BlockRead) (row : Nat) : Bool :=
  let have_ := replayHave s id d ld i row reads
  (rowOld ld have_).isSome || rowKnown ld have_ (lostOfRow ld i.hand row reads have_)

/-- The layout that an intent lies in. -/
def replayLayout (s : State) (d : Deck) (i : Intent) : Deck := if i.newGen then retag s ((newLayout d).getD d) else d

/-- One row of a replay. A row that has lost more than m blocks is made consistent under R282, with the blocks that are lost listed; one whose blocks R287 does
not let be listed is left as found, and so is such a row of a second update (DESIGN CHOICE, log 146). -/
def replayRow (id : Nat) (i : Intent) (reads : List BlockRead) (listed : Bool) (s : State) (row : Nat) : State :=
  match s.deck id with
  | none => s
  | some d =>
    let ld := replayLayout s d i
    let have_ := replayHave s id d ld i row reads
    if !listed && !(unsourced s id d ld i row).isEmpty then s
    else if (rowOld ld have_).isSome then
      emitBlocks (replayWrites s id d ld i reads row) (runStreams id i.hand row (encodeStreams ld have_) s)
    else if i.newGen then s
    else (consistRow id i.hand row none have_ (lostOfRow d i.hand row reads have_) s).2

/-- The reads and the drives that the replay of an intent needs are there. -/
def replayReady (s : State) (deck : Nat) (d : Deck) (i : Intent) (reads : List BlockRead) : Bool :=
  let ld := replayLayout s d i
  reachAll s ((intentRows i).flatMap (replayWrites s deck d ld i reads)) && (intentRows i).all (replayKnown s deck d ld i reads)

/-- A full resync begins (09 R274): event 0x3031. -/
def beginResync (id : Nat) (s : State) : State :=
  let started := s.recTime
  let s := updDeck id (fun d => { d with resync := some (0, started), resyncDue := false, resynced := [] }) s
  recordEvent 0x3031 [id, 0, 0, 0] (progressRec id (.resync 0 started) s)

/-- The resync of a deck that lost records above the vault's begins once the vault's have been replayed (09 R271). -/
def resyncIfDue (id : Nat) (s : State) : State :=
  match s.deck id with
  | some d => if d.resyncDue && d.replay.isEmpty then beginResync id s else s
  | none => s

/-- Replay an intent: its rows are made consistent, and the entry and its lock are released (09 R272, R273). -/
def replayIntent (deck : Nat) (i : Intent) (reads : List BlockRead) (s : State) : State :=
  match s.deck deck with
  | none => s
  | some d =>
    let ld := replayLayout s d i
    let s1 := clearCleanStop deck (chargeReads ld i.hand reads s)
    let (ok, s2) := listUnsourced deck d ld i s1
    let s3 := releaseIntent deck i.wseq ((intentRows i).foldl (replayRow deck i reads ok) s2)
    let rest := d.replay.filter fun x => !decide (x.wseq = i.wseq)
    let s4 := updDeck deck (fun d => { d with replay := rest }) s3
    let still := rest.any fun x => decide (x.hand = i.hand) && decide (x.newGen = i.newGen)
    resyncIfDue deck (if still then s4 else releaseLock deck (if i.newGen then newKey i.hand else i.hand) s4)

/-- INTENT_REPLAY (09 R272, R273). -/
def execIntentReplay (deck wseq : Nat) (reads : List BlockRead) (s : State) : Host.Outcome State Fault Refusal :=
  match s.deck deck with
  | none => .next s
  | some d =>
    match d.replay.find? fun i => decide (i.wseq = wseq) with
    | none => .next s
    | some i =>
      if s.ready && replayReady s deck d i reads then .next (noteAll s (settleAll (evalDeck deck (replayIntent deck i reads s)))) else .next s

/-! ## Resync (09 R274, R275) -/

/-- Work on one row of a resync: parity follows data; a row that has lost more than m blocks is made consistent. -/
def resyncRow (id hd : Nat) (reads : List BlockRead) (s : State) (row : Nat) : State :=
  match s.deck id with
  | none => s
  | some d =>
    let have_ := atHand s id d hd row reads
    match fullRow d have_ with
    | none => (consistRow id hd row none have_ (lostOfRow d hd row reads have_) s).2
    | some full =>
      let par := full.filter fun b => decide (d.label.shape.k ≤ b.1) && chunkWritable d hd b.1 && decide (rowBlock have_ b.1 ≠ b.2)
      emitBlocks (par.filterMap fun b => blockWrite d hd row b.1 (rowWseq d hd row reads) b.2) (runStreams id hd row (encodeStreams d have_) s)

/-- The drives that hold the given chunks of a hand can be reached. -/
def placesReachable (s : State) (d : Deck) (hd : Nat) (cs : List Nat) : Bool :=
  cs.all fun c =>
    match (livePlace d hd c).bind (slotOfMember d) with
    | some x => slotReachable (s.slot x)
    | none => true

/-- The parity chunks of a hand. -/
def parityChunks (d : Deck) : List Nat := (List.range d.label.shape.m).map (d.label.shape.k + ·)

/-- The resync has passed its last hand: event 0x3031, WSEQ resumes at WSEQ_CEIL (09 R252, R274). -/
def endResync (id : Nat) (s : State) : State :=
  let s := updDeck id (fun d => { d with resync := none, wseq := max d.wseq d.label.wseqCeil }) s
  labelUpdate id (recordEvent 0x3031 [id, 1, 0, 0] (endProgress id 4 s))

/-- Steps of 1/1,024 of a total, at least 1. -/
def per1024 (n : Nat) : Nat := max 1 (n / 1024)

/-- REBUILD and RESYNC work runs: in service, and in PS3 and PS4 only with NOPPME = 1 (05 R163). -/
def urgentRuns (s : State) : Bool := s.serving && !s.mode.shutDone && (decide (s.mode.ps ≤ 2) || noppme s)

/-- Other background work runs: in service and in an operational power state (05 R163). -/
def plainRuns (s : State) : Bool := s.serving && !s.mode.shutDone && decide (s.mode.ps ≤ 2)

/-- Resync one hand under its lock: the hand at WATERMARK raises it; a later one does not, and is noted. -/
def resyncHand (deck hand wm : Nat) (started : BitVec 64) (reads : List BlockRead) (s : State) : State :=
  match s.deck deck with
  | none => s
  | some d =>
    let s1 := chargeReads d hand reads (clearCleanStop deck s)
    let s2 := (List.range (chunkBlocks d.label.shape)).foldl (resyncRow deck hand reads) s1
    if hand ≠ wm then noteAll s (settleAll (evalDeck deck (updDeck deck (fun d => { d with resynced := d.resynced ++ [hand] }) s2)))
    else
      let s3 := updDeck deck (fun d => { d with resync := some (wm + 1, started), resynced := d.resynced.filter fun h => decide (wm < h) }) s2
      let s4 :=
        if handCount d ≤ wm + 1 then endResync deck s3
        else if (wm + 1) % per1024 (handCount d) = 0 then progressRec deck (.resync (wm + 1) started) s3
        else s3
      noteAll s (settleAll (evalDeck deck s4))

/-- RESYNC_HAND (09 R274, R275): the next hand raises WATERMARK; a later hand, resynced for a decode, does not. -/
def execResyncHand (deck hand : Nat) (reads : List BlockRead) (s : State) : Host.Outcome State Fault Refusal :=
  match s.deck deck with
  | none => .next s
  | some d =>
    match d.resync with
    | none => .next s
    | some (wm, started) =>
      let may := urgentRuns s && decide (wm ≤ hand) && decide (hand < handCount d) && indexRoom s deck hand &&
        placesReachable s d hand (parityChunks d) && handSettled s deck d hand reads
      .next (withLock deck { key := hand, mode := .exclusive, user := .resync } may (resyncHand deck hand wm started reads) s)

/-! ## The failure scan (10 R283) -/

/-- The intent of a hand that the scan holds, while step 3 of R282 is still to be made for it. -/
def scanHeld (d : Deck) (hd : Nat) : Option Intent :=
  d.intents.find? fun i => decide (i.hand = hd) && i.degraded && !i.newGen && !d.updates.any (fun u => decide (u.wseq = i.wseq)) &&
    !d.replay.any (fun r => decide (r.wseq = i.wseq)) && d.locks.any fun l => decide (l.1 = hd)

/-- Some hand of the deck waits for step 3. -/
def anyScanHeld (d : Deck) : Bool := d.intents.any fun i => (scanHeld d i.hand).isSome

/-- Scan locks held in the lock region of a hand. -/
def scanLocks (s : State) (id : Nat) (d : Deck) (hd : Nat) : Nat :=
  (d.intents.filter fun i => (scanHeld d i.hand).isSome &&
    decide ((lockRegions s.cache.fenced id i.hand).1 = (lockRegions s.cache.fenced id hd).1)).length

/-- Steps 1 and 2 of R282 for every row of a hand; the lock is kept. A refused listing releases both. -/
def scanHand (id hd : Nat) (s : State) : State :=
  match s.deck id with
  | none => s
  | some d =>
    match handOwner s id hd with
    | none => s
    | some (v, vh) =>
      let lost := (missingOf d hd).filter fun c => !chunkListed s id d hd c
      let last := chunkBlocks d.label.shape - 1
      let (w, s) := durableIntent id (overflowIntent d hd 0 last lost) (updDeck id (takeLock hd .scan) s)
      let pages := (List.range (chunkBlocks d.label.shape)).flatMap fun row => lostPages d v vh row lost
      let (ok, s) := listPages v.nsid pages s
      if ok then s else releaseLock id hd (releaseIntent id w s)

/-- One hand of the scan: the Bool says that the scan has not had to pause. A hand whose lock is held is asked for, and a scan that has paused takes no later
hand, since the locks are taken in rising hand number. -/
def scanStep (id : Nat) (acc : Bool × State) (hd : Nat) : Bool × State :=
  match acc.2.deck id with
  | none => acc
  | some d =>
    if !acc.1 || decide (handExposure acc.2 id d hd ≤ d.label.shape.m) then acc
    else if !(indexRoom acc.2 id hd && decide (scanLocks acc.2 id d hd < 16384)) then (false, acc.2)
    else if lockGranted acc.2 id d { key := hd, mode := .exclusive, user := .scan } then (true, scanHand id hd acc.2)
    else (false, askLock id { key := hd, mode := .exclusive, user := .scan } acc.2)

/-- Insert a number into a rising list. -/
def insertNat (n : Nat) : List Nat → List Nat
  | [] => [n]
  | x :: xs => if n ≤ x then n :: x :: xs else x :: insertNat n xs

/-- The held hands of a deck in rising hand number. -/
def handsRising (s : State) (id : Nat) : List Nat := (heldHands s id).foldr insertNat []

/-- FAILURE_SCAN (10 R283, R287): every held hand that lacks more than m chunks is locked and listed, in rising hand number; a scan that
meets a held lock or a full table pauses, and the deck state keeps its value until it ends. -/
def execFailureScan (deck : Nat) (s : State) : Host.Outcome State Fault Refusal :=
  match s.deck deck with
  | none => .next s
  | some d =>
    if !d.scanDue then .next s
    else
      let (done, s1) := (handsRising s deck).foldl (scanStep deck) (true, s)
      if done then .next (noteAll s (evalDeck deck (updDeck deck (fun d => { d with scanDue := false }) s1)))
      else .next (noteAll s s1)

/-! ## Repair of a block that a host read or a rebuild met (10 R280, R296) -/

/-- The intent of a repair: a hand update of KIND 0x03 (10 R305). -/
def repairIntent (d : Deck) (hd row : Nat) (cs : List Nat) : Intent :=
  { wseq := 0, hand := hd, kind := .rcw, blkFirst := row, blkLast := row, dmask := bitmapOf (dataOnly d cs),
    pmask := bitmapOf (parityAt d hd), degraded := false, dataJ := false,
    mmask := 0, reconJseq := 0, jseq := none, durable := false, newGen := false }

/-- Write blocks of a row in place as a repair, each with the highest WSEQ of the row's tags, the decoding done by `ss`. -/
def repairBlocks (id hd row : Nat) (bs : RowBlocks) (reads : List BlockRead) (ss : List ParityStream) (s : State) : State :=
  match s.deck id with
  | none => s
  | some d =>
    let (w, s) := durableIntent id (repairIntent d hd row (bs.map (·.1))) (runStreams id hd row ss s)
    let ws := bs.filterMap fun b => blockWrite d hd row b.1 (rowWseq d hd row reads) b.2
    releaseIntent id w (emitBlocks ws s)

/-- The repair of a block, its lock held: it is rewritten in place with its decoded content, with a finding that has FROM_HOST_READ set; a row that has
lost more than m blocks is handled under R282. -/
def repairRead (id hd row chunk code : Nat) (reads : List BlockRead) (s : State) : State :=
  match s.deck id with
  | none => s
  | some d =>
    let have_ := (atHand s id d hd row reads).filter fun b => !decide (b.1 = chunk)
    match fullRow d have_ with
    | some full =>
      addFinding id hd row code chunk 1 true
        (repairBlocks id hd row [(chunk, rowBlock full chunk)] (reads.filter fun r => !decide (r.chunk = chunk)) (lostStreams d have_ [chunk]) s)
    | none =>
      let (ok, s) := consistRow id hd row none have_ (lostOfRow d hd row reads have_) s
      evalDeck id (addFinding id hd row 7 0xFF (if ok then 4 else 0) true s)

/-- The request for the lock of a repair. -/
def repairLock (hd row : Nat) : LockReq := { key := hd, mode := .exclusive, user := .repair row }

/-- READ_ERROR_REPAIR (10 R280, R305): a block that a read found unreadable, or with a wrong tag, is repaired. The drive was charged when the block was
read (12 R359). -/
def execReadErrorRepair (deck hand row chunk : Nat) (own : Option BlockRead) (others : List BlockRead) (s : State) :
    Host.Outcome State Fault Refusal :=
  let reads := own.toList ++ others
  match s.deck deck with
  | none => .next s
  | some d =>
    let found := ((failedReads s deck d hand row reads).find? fun f => decide (f.2 = chunk)).map (·.1)
    let may := plainRuns s && !d.patrol.repairOff && indexRoom s deck hand && placesReachable s d hand [chunk] && found.isSome &&
      decide (hand < handCount d) && decide (row < chunkBlocks d.label.shape) && chunkWritable d hand chunk && rowSettled s deck d hand reads row
    .next (withLock deck (repairLock hand row) may (fun s =>
      let others := reads.filter fun r => !decide (r.chunk = chunk)
      noteAll s (settleAll (repairRead deck hand row chunk (found.getD 1) reads (chargeReads d hand others (clearCleanStop deck s))))) s)

/-- Blocks of survivors that a rebuild found unreadable are repaired under R280 (10 R296), where the lock of the hand can be had at once; otherwise
READ_ERROR_REPAIR does it when the lock is granted. FROM_HOST_READ is set, as R280 says (DESIGN CHOICE, log 147). -/
def mendSurvivors (id hd : Nat) (reads : List BlockRead) (s : State) (row : Nat) : State :=
  match s.deck id with
  | none => s
  | some d =>
    (failedReads s id d hd row reads).foldl (fun s f =>
      match s.deck id with
      | none => s
      | some d =>
        let may := !d.patrol.repairOff && chunkWritable d hd f.2 && placesReachable s d hd [f.2] && indexRoom s id hd && rowSettled s id d hd reads row
        if may then withLock id (repairLock hd row) true (repairRead id hd row f.2 f.1 reads) s else s) s

/-! ## Rebuild (10 R290 to R294, R536) -/

/-- Rebuild Control does not hold rebuild and copy-back work: HOLD has no effect while EXPOSURE equals m (10 R295). -/
def notHeld (d : Deck) : Bool := !d.hold || decide (d.exposure = d.label.shape.m)

/-- Rebuild or copy-back work may be issued (10 R283, R295). -/
def rebuildRuns (s : State) (d : Deck) : Bool := urgentRuns s && notHeld d && !d.scanDue

/-- The mover entry of a chunk is REBUILDING and not yet done for the hand. -/
def needsRebuild (d : Deck) (hd c : Nat) : Bool :=
  let pl := chunkPlace d.label.shape d.label.failList hd c
  pl.1.isSome && (match pl.2 with
    | none => false
    | some i =>
      match d.label.failList[i]? with
      | some e => decide (e.fstate = .rebuilding) && !entryDone d i hd
      | none => false)

/-- Chunks of a hand to rebuild: placed in a kitty slot by a REBUILDING entry and not yet rebuilt. -/
def rebuildTargets (d : Deck) (hd : Nat) : List Nat := (List.range (widthOf d.label.shape)).filter (needsRebuild d hd)

/-- Those of them whose kitty slot lies on a live member; one on an ABSENT member waits until that member returns or fails (10 R290). -/
def rebuildNow (d : Deck) (hd : Nat) : List Nat := (rebuildTargets d hd).filter fun c => (livePlace d hd c).isSome

/-- A chunk and its fail list entry: what is noted when the chunk is rebuilt. -/
def rebuiltNote (d : Deck) (hd c : Nat) : Option (Nat × Nat) :=
  (chunkPlace d.label.shape d.label.failList hd c).2.map fun i => (hd, i)

/-- Every hand of a round is rebuilt. -/
def roundDone (d : Deck) (r : Nat) : Bool :=
  (List.range (handsPerRound d.label.shape)).all fun q => (rebuildTargets d (r * handsPerRound d.label.shape + q)).isEmpty

/-- The first round from `r` on that is not done, at most `n` rounds further. -/
def advanceRounds (d : Deck) : Nat → Nat → Nat
  | 0, r => r
  | n + 1, r => if roundDone d r then advanceRounds d n (r + 1) else r

/-- End of the segment being swept. -/
def segEnd (d : Deck) : Nat := (((d.segs[d.curSeg + 1]?).map fun x : Nat × Nat => x.1).getD d.label.shape.rounds)

/-- Move the cursor past the rounds that are done. -/
def moveCursor (d : Deck) : Deck :=
  let c := advanceRounds d (segEnd d - d.cursor) d.cursor
  { d with cursor := c, rebuilt := d.rebuilt.filter fun x => decide (segOf d.segs (handRound d.label.shape x.1) ≠ d.curSeg) || decide (c ≤ handRound d.label.shape x.1) }

/-- A hand goes before the others of its round: none has a higher exposure (10 R291). -/
def mostExposed (s : State) (id : Nat) (d : Deck) (hd : Nat) : Bool :=
  let u := handsPerRound d.label.shape
  (List.range u).all fun q =>
    let h := handRound d.label.shape hd * u + q
    (rebuildNow d h).isEmpty || decide (handExposure s id d h ≤ handExposure s id d hd)

/-- One row of a rebuild: the blocks of the chunks in `cs`, written to their kitty places. The Bool is whether the row could be had. -/
def rebuildRow (id hd : Nat) (cs : List Nat) (reads : List BlockRead) (acc : Bool × State) (row : Nat) : Bool × State :=
  match acc.2.deck id with
  | none => acc
  | some d =>
    let s := acc.2
    let have_ := atHand s id d hd row reads
    match fullRow d have_ with
    | some full =>
      let ws := cs.filterMap fun c =>
        blockWrite d hd row c (rowWseq d hd row reads) (if blockListed s id d hd row c then zeros 4096 else rowBlock full c)
      (acc.1, emitBlocks ws (runStreams id hd row (lostStreams d have_ cs) s))
    | none =>
      let (ok, s) := consistRow id hd row none have_ (lostOfRow d hd row reads have_) s
      (acc.1 && ok, s)

/-- Step 3 of R282 for one row of a hand that the scan holds. A row with further lost blocks that are not listed is made consistent with those
blocks listed first. -/
def finishScanRow (id hd : Nat) (i : Intent) (reads : List BlockRead) (s : State) (row : Nat) : State :=
  match s.deck id with
  | none => s
  | some d =>
    let have_ := atHand s id d hd row reads
    let lost := lostOfRow d hd row reads have_
    let all := lost ++ (maskChunks d.label.shape.k i.mmask).filter (tblHas have_)
    if (List.range d.label.shape.k).all (tblHas have_) then
      emitBlocks (overflowWrites d hd row none i.wseq have_ all) (runStreams id hd row [encodeStream d.label.shape.k d.label.shape.m] s)
    else if (rowOld d have_).isSome then
      match fullRow d have_ with
      | none => s
      | some full =>
        let zero := ((maskChunks d.label.shape.k i.mmask).filter (tblHas have_)).map fun c => (c, zeros 4096)
        let par := full.filter fun b => decide (d.label.shape.k ≤ b.1)
        emitBlocks ((zero ++ par).filterMap (writeAt d hd row none i.wseq)) (runStreams id hd row (encodeStreams d have_) s)
    else (consistRow id hd row none have_ all s).2

/-- Step 3 of R282 for a hand that the scan holds (10 R283): the intent and the lock are released. -/
def finishScanHand (id hd : Nat) (i : Intent) (reads : List BlockRead) (s : State) : State :=
  releaseLock id hd (releaseIntent id i.wseq ((intentRows i).foldl (finishScanRow id hd i reads) s))

/-- The label follows a REBUILDING entry's WATERMARK at each 1/64 of ROUNDS (07 R223). -/
def settleWatermark (id : Nat) (s : State) : State :=
  match s.deck id with
  | some d => if watermarkDue d then labelUpdate id s else s
  | none => s

/-- Rebuild one hand under its lock: its lost chunks are decoded and written into their kitty slots, and are current from then on; survivors that
could not be read are repaired. -/
def rebuildHand (deck hand : Nat) (cs : List Nat) (reads : List BlockRead) (s : State) : State :=
  match s.deck deck with
  | none => s
  | some d =>
    let s1 := chargeReads d hand reads (clearCleanStop deck s)
    let (ok, s2) := (List.range (chunkBlocks d.label.shape)).foldl (rebuildRow deck hand cs reads) (true, s1)
    let s3 := if ok then updDeck deck (fun d => moveCursor { d with rebuilt := d.rebuilt ++ cs.filterMap (rebuiltNote d hand) }) s2 else s2
    noteAll s (evalDeck deck (settleWatermark deck s3))

/-- REBUILD_HAND (10 R283, R290, R291, R296, R536; 09 R275): a hand held by the scan first gets step 3 of R282; otherwise the hand is rebuilt under its
SHARED lock. Rounds at the cursor with nothing to rebuild are passed. -/
def execRebuildHand (deck hand : Nat) (reads : List BlockRead) (s : State) : Host.Outcome State Fault Refusal :=
  match s.deck deck with
  | none => .next s
  | some d0 =>
    match scanHeld d0 hand with
    | some i =>
      if s.serving && (intentRows i).all (rowSettled s deck d0 hand reads) then
        .next (noteAll s (settleAll (evalDeck deck (finishScanHand deck hand i reads (chargeReads d0 hand reads (clearCleanStop deck s))))))
      else .next s
    | none =>
      let d := moveCursor d0
      let cs := rebuildNow d hand
      let r := handRound d.label.shape hand
      let may := rebuildRuns s d && !anyScanHeld d && decide (segOf d.segs r = d.curSeg) && decide (d.cursor ≤ r) && decide (r < d.cursor + 64) &&
        !cs.isEmpty && mostExposed s deck d hand && belowResync d hand && indexRoom s deck hand && placesReachable s d hand cs &&
        handSettled s deck d hand reads
      .next (withLock deck { key := hand, mode := .shared, user := .rebuild } may (fun s =>
        let s1 := rebuildHand deck hand cs reads (s.setDeck deck d)
        noteAll s (settleAll (evalDeck deck ((List.range (chunkBlocks d.label.shape)).foldl (mendSurvivors deck hand reads) s1)))) s)

/-- A drive fits in the place of a failed member (07 R206; 10 R295). -/
def replacementFits (s : State) (d : Deck) (x : Nat) : Bool :=
  let l := d.label
  let cap := slotCap s x
  decide (x < s.slots) && driveOk (s.slot x) l.dataStart (chunkBytes l.shape) &&
  decide (l.dataStart + l.shape.rounds * (chunkBytes l.shape) + 8192 ≤ cap) &&
  (!l.imported || decide (l.journalStart + 256 * 1048576 + 8192 ≤ cap))

/-- A drive named by REPLACE may take the place of a failed member: it is in the class NEW (10 R295). -/
def replacementOk (s : State) (d : Deck) (x : Nat) : Bool := decide ((s.slot x).cls = .newDrive) && replacementFits s d x

/-- The drive is the one that failed as the last entry, returned (12 R354). -/
def isReturned (s : State) (id mem x : Nat) : Bool :=
  decide ((s.slot x).cls = .returning) && decide ((s.slot x).deckId = some id) && decide ((s.slot x).index = some mem)

/-- Write a whole volume table copy at a member's byte offset from the current values: every record in use, then the header. -/
def writeTableCopy (id x : Nat) (tagged : Bool) (at_ : Nat) (s : State) : State :=
  match s.deck id with
  | none => s
  | some d =>
    let put := fun (off : Nat) (bs : Bytes) (s : State) => emitMeta x off tagged bs s
    let vs := volumesOf s id
    put at_ (tableHeader d d.label.generation vs.length)
      (vs.foldl (fun s v => put (at_ + 4096 + (v.nsid - 1) * 8192) (recordBytes v (handBytes d.label.shape)) s) s)

/-- Write both volume table copies and both journal headers of a deck to one drive, CLEAN_STOP cleared before (07 R225; 10 R298; 11 R313). -/
def writeStructures (id x : Nat) (tagged : Bool) (ring : Ring) (s : State) : State :=
  match s.deck id with
  | none => s
  | some d =>
    let s := clearCleanStop id s
    let s := [0, 9 * 1048576].foldl (fun s copy => writeTableCopy id x tagged (d.label.voltStart + copy) s) s
    let s := updDeck id (fun d => { d with
      tables := (d.tables.filter fun x => !decide (x.1 = ring.member)) ++ [(ring.member, d.tableSeq, d.tableSeq)] }) s
    [ring, { ring with hdrSeq := ring.hdrSeq - 1 }].foldl (fun s g =>
      issueTo x 0x01 (.ring id ring.member 0) 4096 (ringHeader d g)
        (emit (.journalWrite x (d.label.journalStart + headerBlock g * 4096) (ringHeader d g) (metaTag tagged (ringHeader d g))) s)) s

/-- Write the copies of a deck's label as it stands to the drive that replaces a member (10 R298). -/
def labelReplacement (l : DeckLabel) (mem : Nat) (e : MemberEntry) (s : State) : State :=
  labelPasses.foldl (fun s copy => writeLabelTo l copy mem e s) s

/-- Begin copy-back of the last entry to the drive in a slot (07 R218; 10 R298): labels and structures, then the label update; event 0x4010. -/
def beginCopyback (id x : Nat) (s : State) : State :=
  match s.deck id with
  | none => s
  | some d =>
    match d.label.failList.getLast? with
    | none => s
    | some e =>
      let mem := e.member
      let entry : MemberEntry :=
        { slot := some x, mstate := .replacing, tagged := !d.label.imported && slotTagged s x, cap := slotCap s x, nguid := slotNguid s x }
      let s := clearCleanStop id s
      let s := labelReplacement (((s.deck id).map fun d => d.label).getD d.label) mem entry s
      let s := writeStructures id x entry.tagged (newRing mem false) s
      let rings := d.rings.filter fun r => !decide (r.member = mem)
      let s := updDeck id (fun d => { d with
        copyStarted := s.recTime, replaceSlot := none, rings := rings ++ [newRing mem false] }) s
      let s := relabel id (fun l => { l with
        members := (List.range l.members.length).filterMap fun i => (l.members[i]?).map fun m => if i = mem then entry else m
        failList := l.failList.dropLast ++ [{ e with fstate := .copyback, watermark := 0 }] }) s
      let v := s.slot x
      let s := recordEvent 0x5003 [x, 1, id, mem]
        (s.setSlot x { v with cls := .member, deckId := some id, index := some mem, health := 1000, classTime := s.recTime })
      recordEvent 0x4010 [id, mem, x, 0] s

/-- Begin a recorded copy-back once the last entry is REBUILT, unless Rebuild Control holds it (10 R295). -/
def startRecorded (id : Nat) (s : State) : State :=
  match s.deck id with
  | none => s
  | some d =>
    match d.label.failList.getLast?, d.replaceSlot with
    | some e, some x => if e.fstate = .rebuilt ∧ notHeld d = true ∧ (replacementOk s d x || (isReturned s id e.member x && replacementFits s d x)) = true then
        beginCopyback id x s
      else s
    | _, _ => s

/-- REBUILD_SEGMENT_END (10 R291, R292, R294): the cursor has come to the segment's end: its bits are set, equal neighbours merge, entries set everywhere
become REBUILT with event 0x4002, and the next sweep begins. -/
def execRebuildSegmentEnd (deck : Nat) (s : State) : Host.Outcome State Fault Refusal :=
  match (s.deck deck).map moveCursor with
  | none => .next s
  | some d =>
    match d.segs[d.curSeg]? with
    | none => .next s
    | some g =>
      if d.cursor < segEnd d then .next s
      else
        let segs := mergeSegs (d.segs.set d.curSeg (g.1, setBits (rebuildingBits d) g.2))
        let s1 := settleWatermark deck (settleRebuilt deck (s.setDeck deck (startSweep { d with segs := segs })))
        .next (noteAll s (evalDeck deck (startRecorded deck (rebuildRec deck s1))))

/-- REBUILD_PROGRESS_WRITE (10 R292). -/
def execRebuildProgressWrite (deck : Nat) (s : State) : Host.Outcome State Fault Refusal :=
  match s.deck deck with
  | some d => if d.curSeg < d.segs.length then .next (rebuildRec deck s) else .next s
  | none => .next s

/-! ## Copy-back (07 R218; 10 R298 to R300) -/

/-- The chunk of a hand that R217 places on a member when the last entry is left out. -/
def copyChunk (d : Deck) (mem hd : Nat) : Option Nat :=
  (List.range (widthOf d.label.shape)).find? fun c => decide (chunkMember d.label.shape d.label.failList.dropLast hd c = some mem)

/-- A good read of a chunk's own block, where the chunk is current. -/
def ownRead (d : Deck) (hd row c : Nat) (reads : List BlockRead) : Option BlockRead :=
  reads.find? fun r => decide (r.row = row) && decide (r.chunk = c) && readGood d hd r && !chunkMissing d hd c

/-- One row of a chunk copied to the replacement. The Bool is whether the row could be had. -/
def copyRow (id hd c : Nat) (e : MemberEntry) (reads : List BlockRead) (acc : Bool × State) (row : Nat) : Bool × State :=
  match acc.2.deck id with
  | none => acc
  | some d =>
    let s := acc.2
    let have_ := atHand s id d hd row reads
    let own := ownRead d hd row c reads
    let wseq := match own.bind (·.tag) with
      | some t => t.wseq
      | none => rowWseq d hd row reads
    let ss := if own.isSome || blockListed s id d hd row c then [] else lostStreams d have_ [c]
    match (if blockListed s id d hd row c then some (zeros 4096)
           else match own with
             | some r => some r.data
             | none => (fullRow d have_).map fun f => rowBlock f c) with
    | some b => (acc.1, emitBlocks ((writeAt d hd row (some (c, e)) wseq (c, b)).toList) (runStreams id hd row ss s))
    | none =>
      let (ok, s) := consistRow id hd row (some (c, e)) have_ (lostOfRow d hd row reads have_) s
      (acc.1 && ok, s)

/-- The reads of a hand suffice to copy one of its chunks. -/
def copySettled (s : State) (id : Nat) (d : Deck) (hd c : Nat) (reads : List BlockRead) : Bool :=
  (List.range (chunkBlocks d.label.shape)).all fun row =>
    blockListed s id d hd row c || (ownRead d hd row c reads).isSome || rowSettled s id d hd reads row

/-- End of copy-back (07 R218): the entry leaves the list, the member is ACTIVE; event 0x4011. -/
def endCopyback (id mem x : Nat) (s : State) : State :=
  match s.deck id with
  | none => s
  | some d =>
    let i := d.label.failList.length - 1
    let segs := mergeSegs (d.segs.map fun g => (g.1, if g.2.testBit i then g.2 - 2 ^ i else g.2))
    let s := s.setDeck id (startSweep { d with segs := segs, label := { d.label with failList := d.label.failList.dropLast } })
    let s := relabel id (setMstate mem .active) s
    let s := recordEvent 0x4011 [id, mem, x, 0] (endProgress id 2 s)
    let s := if ((s.deck id).map fun d => d.label.failList.isEmpty).getD true then endProgress id 1 s else rebuildRec id s
    improveKeepers id s

/-- The request for the SHARED lock of a hand of a round of copy-back. -/
def copybackLock (hd : Nat) : LockReq := { key := hd, mode := .shared, user := .copyback }

/-- Copy the round at WATERMARK: `todo` gives each hand with its chunk. WATERMARK rises; the label follows at every 1/64 of ROUNDS (07 R223). -/
def copyRound (deck : Nat) (fe : FailEntry) (e : MemberEntry) (todo : List (Nat × Nat)) (reads : List (Nat × List BlockRead)) (s : State) : State :=
  match s.deck deck with
  | none => s
  | some d =>
    let s1 := clearCleanStop deck s
    let (ok, s2) := todo.foldl (fun acc h =>
      let rs := tblGet reads h.1 []
      (List.range (chunkBlocks d.label.shape)).foldl (copyRow deck h.1 h.2 e rs) (acc.1, chargeReads d h.1 rs acc.2)) (true, s1)
    if !ok then noteAll s (settleAll (evalDeck deck s2))
    else
      let wm := fe.watermark + 1
      let s3 := updDeck deck (fun d => { d with label := { d.label with
        failList := d.label.failList.dropLast ++ [{ fe with watermark := wm }] } }) s2
      let s4 :=
        if d.label.shape.rounds ≤ wm then endCopyback deck fe.member (e.slot.getD 0xFF) s3
        else if wm % max 1 (d.label.shape.rounds / 64) = 0 then labelUpdate deck s3
        else s3
      noteAll s (settleAll (evalDeck deck s4))

/-- COPYBACK_ROUND (10 R298): the round at WATERMARK is copied or decoded to the replacement, each hand under its SHARED lock. A copy-back that is recorded
and may run is begun (R295). -/
def execCopybackRound (deck : Nat) (reads : List (Nat × List BlockRead)) (s : State) : Host.Outcome State Fault Refusal :=
  match s.deck deck with
  | none => .next s
  | some d =>
    match d.label.failList.getLast? with
    | none => .next s
    | some fe =>
      if fe.fstate ≠ .copyback then
        .next (if rebuildRuns s d then noteAll s (evalDeck deck (startRecorded deck s)) else s)
      else
      match memberOf d fe.member with
      | none => .next s
      | some e =>
        let u := handsPerRound d.label.shape
        let todo := (List.range u).filterMap fun q => (copyChunk d fe.member (fe.watermark * u + q)).map fun c => (fe.watermark * u + q, c)
        let may := rebuildRuns s d && !anyScanHeld d && slotReachable (s.slot (e.slot.getD 0xFF)) && decide (fe.watermark < d.label.shape.rounds) &&
          todo.all fun h => belowResync d h.1 && indexRoom s deck h.1 && copySettled s deck d h.1 h.2 (tblGet reads h.1 [])
        let free := fun (h : Nat × Nat) => lockGranted s deck d (copybackLock h.1)
        if !may then .next (todo.foldl (fun s h => endLock deck (copybackLock h.1) s) s)
        else
          match todo.find? fun h => !free h with
          | some h => .next (askLock deck (copybackLock h.1) s)
          | none => .next (todo.foldl (fun s h => endLock deck (copybackLock h.1) s) (copyRound deck fe e todo reads s))

/-- COPYBACK_PROGRESS_WRITE (10 R299). -/
def execCopybackProgressWrite (deck : Nat) (s : State) : Host.Outcome State Fault Refusal :=
  match s.deck deck with
  | none => .next s
  | some d =>
    match d.label.failList.getLast? with
    | some e =>
      if e.fstate = .copyback then
        .next (progressRec deck (.copyback e.member ((slotOfMember d e.member).getD 0xFF) e.watermark d.copyStarted) s)
      else .next s
    | none => .next s

/-! ## Rebuild Control (10 R295) -/

/-- An admin command at its turn that QUARANTINE refuses (05 R152). -/
def quarantineBar (s : State) : Nat := if s.mode.mode = .quarantine then 0x0C else 0

/-- Set or clear HOLD. -/
def setHold (ref : CmdRef) (deckId : Nat) (hold : Bool) (s : State) : State :=
  if !adminTurn s ref then s
  else if quarantineBar s ≠ 0 then failCmd ref (quarantineBar s) s
  else
    match s.deck deckId with
    | none => failCmd ref 0x02 s
    | some d =>
      let s := s.setDeck deckId { d with hold := hold }
      let s := if d.hold = hold then s else recordEvent 0x4003 [deckId, if hold then 1 else 0, 0, 0] s
      commitCmd ref 0 0 (if hold then s else noteAll s (evalDeck deckId (startRecorded deckId s)))

/-- REBUILD_CONTROL_RESUME. -/
def execRebuildControlResume (ref : CmdRef) (deckId : Nat) (s : State) : Host.Outcome State Fault Refusal := .next (setHold ref deckId false s)

/-- REBUILD_CONTROL_HOLD. -/
def execRebuildControlHold (ref : CmdRef) (deckId : Nat) (s : State) : Host.Outcome State Fault Refusal := .next (setHold ref deckId true s)

/-- REBUILD_CONTROL_REPLACE. -/
def execRebuildControlReplace (ref : CmdRef) (deckId slot : Nat) (s : State) : Host.Outcome State Fault Refusal :=
  if !adminTurn s ref then .next s
  else if quarantineBar s ≠ 0 then .next (failCmd ref (quarantineBar s) s)
  else
    match s.deck deckId with
    | none => .next (failCmd ref 0x02 s)
    | some d =>
      if !replacementOk s d slot then .next (failCmd ref 0x02 s)
      else
        match d.label.failList.getLast? with
        | none => .next (failCmd ref 0x0C s)
        | some e =>
          match e.fstate with
          | .copyback => .next (failCmd ref 0x0C s)
          | .rebuilding => .next (commitCmd ref 0 0 (s.setDeck deckId { d with replaceSlot := some slot }))
          | .rebuilt =>
            let s1 := s.setDeck deckId { d with replaceSlot := some slot }
            .next (noteAll s (evalDeck deckId (commitCmd ref 0 0 (startRecorded deckId s1))))

/-- Rounds of an entry that are rebuilt: its segments with the bit set, and the sweep's part. -/
def roundsDone (d : Deck) (i : Nat) : Nat :=
  (List.range d.segs.length).foldl (fun n g =>
    match d.segs[g]? with
    | none => n
    | some x =>
      let stop := ((d.segs[g + 1]?).map fun y : Nat × Nat => y.1).getD d.label.shape.rounds
      if x.2.testBit i then n + (stop - x.1) else if g = d.curSeg then n + (d.cursor - x.1) else n) 0

/-- Completion Dword 0 of STATUS. -/
def rebuildStatus (d : Deck) : Nat :=
  let bits := rebuildingBits d
  let lo := if bits.isEmpty then 0xFFFF
    else min 0xFFFE (bits.foldl (fun n i => n + roundsDone d i) 0 * 65536 / max 1 (bits.length * d.label.shape.rounds))
  let hi := match d.label.failList.getLast? with
    | some e => if e.fstate = .copyback then min 0xFFFE (e.watermark * 65536 / max 1 d.label.shape.rounds) else 0xFFFF
    | none => 0xFFFF
  lo + hi * 65536

/-- REBUILD_CONTROL_STATUS. -/
def execRebuildControlStatus (ref : CmdRef) (deckId : Nat) (s : State) : Host.Outcome State Fault Refusal :=
  if !adminTurn s ref then .next s
  else if quarantineBar s ≠ 0 then .next (failCmd ref (quarantineBar s) s)
  else
    match s.deck deckId with
    | none => .next (failCmd ref 0x02 s)
    | some d => .next (commitCmd ref 0 (rebuildStatus d) s)

end Sys2Proof.Machine
end

