-- ==== Sys2Proof/Machine/Patrol.lean ====
section
/-!
DEFINITION. Patrol: passes, the decision on a block row, repairs, positions, Patrol Control and log page 0xC9 (10 R288, R301 to R309).
-/

namespace Sys2Proof.Machine

/-! ## Where a pass stands (10 R301 to R304, R309) -/

/-- Patrol checks the deck: OPTIMAL or DEGRADED (10 R309); else it shows SKIPPED. -/
def patrolEligible (d : Deck) : Bool := decide (d.label.deckState ≤ 3)

/-- FLAGS of the PATROL body (10 R304). -/
def patrolFlags (d : Deck) : Nat :=
  (if d.patrol.paused then 1 else 0) + (if d.patrol.repairOff then 2 else 0) + (if patrolEligible d then 0 else 4) +
  (if d.patrol.running then 8 else 0)

/-- The next held hand from a hand on (10 R301). -/
def nextHeld (s : State) (id hd : Nat) : Option Nat := (handsRising s id).find? fun h => decide (hd ≤ h)

/-- End the pass when the cursor has passed the last held hand: event 0x4021, PASS_COUNT counts it (10 R302). -/
def endPass (id : Nat) (s : State) : State :=
  match s.deck id with
  | none => s
  | some d =>
    if d.patrol.running && (nextHeld s id d.patrol.cursor).isNone then
      let n := d.patrol.passCount + 1
      recordEvent 0x4021 [id, n, d.patrol.findings, 0]
        (s.setDeck id { d with patrol := { d.patrol with running := false, passCount := n } })
    else s

/-- Begin a pass at hand 0: event 0x4020 (10 R302, R307). Its first work is to read the label and table copies (R301). -/
def beginPass (id : Nat) (s : State) : State :=
  match s.deck id with
  | none => s
  | some d =>
    let p := { d.patrol with cursor := 0, row := 0, suspects := [], copiesDue := true, running := true, passStart := s.recTime, findings := 0 }
    recordEvent 0x4020 [id, d.patrol.passCount, 0, 0] (s.setDeck id { d with patrol := p })

/-- Patrol work of a deck may run (10 R307, R309; 05 R163). -/
def patrolRuns (s : State) (d : Deck) : Bool :=
  plainRuns s && patrolEligible d && !d.patrol.paused && !s.decks.patrolPause

/-- The label and volume table copies of one member, as a pass reads them at its start: a copy that is not valid is written again from the
current values (10 R301). A table is no label, so CLEAN_STOP is cleared before it is written (07 R225). -/
def mendMember (id : Nat) (s : State) (r : Nat × List (Nat × Bytes)) : State :=
  match s.deck id with
  | none => s
  | some d =>
    match (memberOf d r.1).bind fun e => e.slot.bind fun x => (s.slot x).info.map fun i => (e, x, { i with blocks := r.2 }) with
    | none => s
    | some (e, x, i) =>
      if slotReachable (s.slot x) then
        let labels := [0, 1, 2, 3].filter fun c => (readLabel (blockAt i (labelOffset c e.cap))).isNone
        let tables := [0, 9 * 1048576].filter fun c => (readTable i d.label (d.label.voltStart + c)).isNone
        let s := labels.foldl (fun s c => writeLabelTo d.label c r.1 e s) s
        tables.foldl (fun s c => writeTableCopy id x e.tagged (d.label.voltStart + c) (clearCleanStop id s)) s
      else s

/-- Read the label and table copies at the start of a pass (10 R301). -/
def mendCopies (pass : PassStart) (s : State) : State :=
  updDeck pass.deck (fun d => { d with patrol := { d.patrol with copiesDue := false } }) (pass.copies.foldl (mendMember pass.deck) s)

/-- PATROL_PASS_START (10 R301, R302): PASS_HOURS have passed since the last pass began, and no pass runs. Every label copy and both volume
table copies of every member are read: `copies` holds the blocks of each member of which a copy may not be valid. For a pass that Patrol Control began the
copies are read now. -/
def execPatrolPassStart (pass : PassStart) (s : State) : Host.Outcome State Fault Refusal :=
  match s.deck pass.deck with
  | none => .next s
  | some d =>
    if !patrolRuns s d then .next s
    else
      let s1 := endPass pass.deck s
      match s1.deck pass.deck with
      | none => .next s1
      | some d1 =>
        if d1.patrol.running then .next (if d1.patrol.copiesDue then mendCopies pass s1 else s1)
        else .next (endPass pass.deck (mendCopies pass (beginPass pass.deck s1)))

/-! ## The decision on a row (10 R305, R306) -/

/-- What a row calls for. -/
inductive RowAct where
  /-- A read timed out. -/
  | undecided
  | nothing
  | list
  | rewrite
  | parity
  | correct
  deriving DecidableEq, Repr

/-- Tags of a row's parity blocks, the ones that are all zero too: chunk and tag. -/
def parityTags (d : Deck) (hd row : Nat) (reads : List BlockRead) : List (Nat × ChunkTag) :=
  reads.filterMap fun r =>
    if r.row = row ∧ d.label.shape.k ≤ r.chunk ∧ readGood d hd r = true ∧ chunkMissing d hd r.chunk = false then r.tag.map fun t => (r.chunk, t) else none

/-- Parity chunks whose block is stale (10 R306). `data` has the WSEQ of the data blocks' tags that are not all zero. -/
def staleParity (data : List Nat) (par : List (Nat × ChunkTag)) : List Nat :=
  (par.filter fun t =>
    !data.isEmpty && (tagZero t.2 || precedes t.2.wseq (highestWseq data)) || par.any fun u => precedes t.2.wseq u.2.wseq).map (·.1)

/-- Every block of a row that has a place is at hand or lost: no read of it is missing. -/
def rowRead (d : Deck) (hd : Nat) (have_ : RowBlocks) (lost : List Nat) : Bool :=
  (List.range (widthOf d.label.shape)).all fun c => tblHas have_ c || lost.contains c || (memberAt d hd c).isNone

/-- The decision of R305 on a row, with its findings as (code, chunk). A row of which a block could not be read, because a read timed out or its drive cannot
be reached, is not decided. A row with several lost or stale blocks has a finding for each (DEDUCED, log 40). -/
def decideRow (s : State) (id : Nat) (d : Deck) (hd row : Nat) (reads : List BlockRead) : RowAct × List (Nat × Nat) :=
  let sh := d.label.shape
  let have_ := atHand s id d hd row reads
  let lost := lostOfRow d hd row reads have_
  let bad := failedReads s id d hd row reads
  if rowTimedOut row reads || !rowRead d hd have_ lost then (.undecided, [])
  else if sh.m < lost.length then (.list, [(7, 0xFF)])
  else if !bad.isEmpty then (.rewrite, bad)
  else if !lost.isEmpty || !(missingOf d hd).isEmpty then (.nothing, [])
  else
    let data := ((rowTags d hd row reads).filter fun t => decide (t.1 < sh.k)).map (·.2)
    let st := if taggedRow d hd then staleParity data (parityTags d hd row reads) else []
    if !st.isEmpty then (.parity, st.map fun c => (3, c))
    else
      match rowVerdict sh.k sh.m 4096 have_ with
      | .consistent => (.nothing, [])
      | .unlocatable => (.parity, [(6, 0xFF)])
      | .chunk c =>
        if sh.k ≤ c then (.correct, [(4, c)])
        else if chunkTagged d hd c then (.parity, [(5, c)])
        else (.correct, [(5, c)])

/-- ACTION of each act. -/
def actionCode : RowAct → Nat
  | .list => 4
  | .rewrite => 1
  | .parity => 3
  | .correct => 2
  | _ => 0

/-- Record findings with one action. -/
def addFindings (id hd row action : Nat) (fs : List (Nat × Nat)) (s : State) : State :=
  fs.foldl (fun s f => addFinding id hd row f.1 f.2 action false s) s

/-- Move the cursor past a row; after the last row of the last held hand the pass ends. -/
def stepCursor (id hd row : Nat) (s : State) : State :=
  match s.deck id with
  | none => s
  | some d =>
    let p := if row + 1 < chunkBlocks d.label.shape then { d.patrol with cursor := hd, row := row + 1 }
      else { d.patrol with cursor := hd + 1, row := 0 }
    endPass id (s.setDeck id { d with patrol := p })

/-- The check of a row, its lock held: charges, and its findings. With repair on, a row that calls for a repair is read again by PATROL_REPAIR before
anything is recorded; with repair off its findings are recorded with ACTION NONE. -/
def checkRow (deck hand row : Nat) (reads : List BlockRead) (s : State) : State :=
  match s.deck deck with
  | none => s
  | some d =>
    let fs := (decideRow s deck d hand row reads).2
    let s1 := chargeReads d hand (reads.filter fun r => decide (r.row = row)) s
    let s2 :=
      if fs.isEmpty then s1
      else if d.patrol.repairOff then addFindings deck hand row 0 fs s1
      else
        updDeck deck (fun d => { d with patrol := { d.patrol with suspects := d.patrol.suspects ++ [(hand, row, fs)] } }) s1
    noteAll s (settleAll (stepCursor deck hand row s2))

/-- PATROL_ROW (10 R301, R305): the next row of the next held hand, under the SHARED lock. The copies of labels and tables are read before. -/
def execPatrolRow (deck hand row : Nat) (reads : List BlockRead) (s : State) : Host.Outcome State Fault Refusal :=
  match s.deck deck with
  | none => .next s
  | some d =>
    let may := patrolRuns s d && d.patrol.running && !d.patrol.copiesDue && decide (nextHeld s deck d.patrol.cursor = some hand) &&
      decide (row = if hand = d.patrol.cursor then d.patrol.row else 0)
    .next (withLock deck { key := hand, mode := .shared, user := .check } may (checkRow deck hand row reads) s)

/-! ## Repairs (10 R305) -/

/-- The blocks that a repair writes. -/
def repairOf (s : State) (id : Nat) (d : Deck) (hd row : Nat) (act : RowAct) (fs : List (Nat × Nat)) (reads : List BlockRead) : RowBlocks :=
  let sh := d.label.shape
  let have_ := atHand s id d hd row reads
  match act with
  | .rewrite => (fullRow d have_).elim [] fun full => fs.map fun f => (f.2, rowBlock full f.2)
  | .correct => fs.map fun f => (f.2, correctBlock sh.k sh.m 4096 f.2 have_)
  | .parity =>
    (encodeRow sh.k sh.m 4096 have_).filter fun b => decide (rowBlock have_ b.1 ≠ b.2) || fs.any fun f => decide (f = (3, b.1))
  | _ => []

/-- The streams of a repair: the decode of what is rewritten, or the encoding that parity follows (08 R241, R247). -/
def repairStreams (d : Deck) (act : RowAct) (fs : List (Nat × Nat)) (have_ : RowBlocks) : List ParityStream :=
  match act with
  | .rewrite => lostStreams d have_ (fs.map (·.2))
  | .parity => encodeStreams d have_
  | _ => []

/-- The repair of a row, its lock held: the row is decided again. The same verdict is repaired and recorded with its action; a consistent row records
nothing; any other verdict is recorded with ACTION NONE. -/
def mendRow (deck hand row : Nat) (sus : Nat × Nat × List (Nat × Nat)) (reads : List BlockRead) (s : State) : State :=
  match s.deck deck with
  | none => s
  | some d =>
    let (act, fs) := decideRow s deck d hand row reads
    let s1 := updDeck deck (fun d => { d with patrol := { d.patrol with suspects := d.patrol.suspects.erase sus } }) s
    if fs.isEmpty then s1
    else if fs ≠ sus.2.2 ∨ d.patrol.repairOff = true then noteAll s (settleAll (addFindings deck hand row 0 fs s1))
    else
      let s2 := clearCleanStop deck s1
      let have_ := atHand s2 deck d hand row reads
      let (action, s3) :=
        if act = .list then
          let (ok, s3) := consistRow deck hand row none have_ (lostOfRow d hand row reads have_) s2
          (if ok then 4 else 0, s3)
        else
          (actionCode act, repairBlocks deck hand row (repairOf s2 deck d hand row act fs reads) reads (repairStreams d act fs have_) s2)
      noteAll s (settleAll (evalDeck deck (addFindings deck hand row action fs s3)))

/-- PATROL_REPAIR (10 R305, R309): the row is read again under the EXCLUSIVE lock, while patrol of the deck runs. -/
def execPatrolRepair (deck hand row : Nat) (reads : List BlockRead) (s : State) : Host.Outcome State Fault Refusal :=
  match s.deck deck with
  | none => .next s
  | some d =>
    match d.patrol.suspects.find? fun x => decide (x.1 = hand) && decide (x.2.1 = row) with
    | none => .next s
    | some sus =>
      let may := patrolRuns s d && indexRoom s deck hand && decide (hand < handCount d)
      .next (withLock deck (repairLock hand row) may (mendRow deck hand row sus reads) s)

/-! ## Positions (10 R303, R304) -/

/-- A PATROL record of a deck. -/
def patrolRec (id : Nat) (s : State) : State :=
  match s.deck id with
  | some d => progressRec id (.patrol d.patrol.cursor d.patrol.passCount (patrolFlags d) d.patrol.passStart d.patrol.findings) s
  | none => s

/-- PATROL_PROGRESS_WRITE. -/
def execPatrolProgressWrite (deck : Nat) (s : State) : Host.Outcome State Fault Refusal := .next (patrolRec deck s)

/-- The 4,096 bytes of a patrol page (10 R303). -/
def patrolPageBytes (s : State) (seq : Nat) : Bytes :=
  let body := asciiBytes "PTRL" ++ leBytes 2 1 ++ zeros 2 ++ leBytes 8 seq ++
    ((List.range 32).flatMap fun id => match s.deck id with
      | some d => leBytes 16 d.label.uuid ++ patrolBytes d.patrol.cursor d.patrol.passCount (patrolFlags d) d.patrol.passStart d.patrol.findings
      | none => zeros 48) ++ zeros 2540
  body ++ leBytes 4 (crc32c body).toNat

/-- SEQ of a copy of the patrol page, when the copy is valid (10 R303). -/
def patrolPageSeq (b : Bytes) : Option Nat :=
  if b.length = 4096 ∧ b.take 4 = asciiBytes "PTRL" ∧ leNat (sliceBytes b 4 2) = 1 ∧ leNat (sliceBytes b 4092 4) = (crc32c (b.take 4092)).toNat then
    some (leNat (sliceBytes b 8 8))
  else none

/-- The positions that the copy of the patrol page keeps, by DECK_UUID. -/
def pagePositions (b : Bytes) : List (Nat × Patrol) :=
  (List.range 32).map fun i => (leNat (sliceBytes b (16 + 48 * i) 16), readPatrol (sliceBytes b (32 + 48 * i) 32))

/-- The position of a deck on the patrol page (10 R303): among the valid copies that hold its DECK_UUID, the one with the higher SEQ. -/
def pagePosition (s : State) (uuid : Nat) : Option Patrol :=
  let at_ := fun (b : Bytes) => (patrolPageSeq b).bind fun n => ((pagePositions b).find? fun x => decide (x.1 = uuid)).map fun x => (n, x.2)
  match at_ s.decks.patrolA, at_ s.decks.patrolB with
  | some a, some b => some (if a.1 < b.1 then b.2 else a.2)
  | a, b => (a.orElse fun _ => b).map (·.2)

/-- Write every deck's position to the vault patrol page: the copies are written in turn, each with the next SEQ. -/
def writePatrolPage (s : State) : State :=
  let a := (patrolPageSeq s.decks.patrolA).getD 0
  let b := (patrolPageSeq s.decks.patrolB).getD 0
  let bs := patrolPageBytes s (max a b + 1)
  let s := emit (.patrolPage bs) s
  { s with decks := if a ≤ b then { s.decks with patrolA := bs } else { s.decks with patrolB := bs } }

/-- PATROL_PAGE_WRITE. -/
def execPatrolPageWrite (s : State) : Host.Outcome State Fault Refusal := if s.serving then .next (writePatrolPage s) else .next s

/-! ## Patrol Control (10 R307) -/

/-- Apply an action to the deck named, or to every deck for 0xFF. -/
def patrolControl (ref : CmdRef) (deckId : Nat) (f : Nat → State → State) (s : State) : State :=
  if !adminTurn s ref then s
  else if quarantineBar s ≠ 0 then failCmd ref (quarantineBar s) s
  else if deckId = 0xFF then commitCmd ref 0 0 (s.decks.decks.foldl (fun s d => f d.1 s) s)
  else
    match s.deck deckId with
    | none => failCmd ref 0x02 s
    | some _ => commitCmd ref 0 0 (f deckId s)

/-- Change the patrol position of a deck. -/
def updPatrol (f : Patrol → Patrol) (id : Nat) (s : State) : State := updDeck id (fun d => { d with patrol := f d.patrol }) s

/-- PATROL_CONTROL_RESUME. -/
def execPatrolControlResume (ref : CmdRef) (deckId : Nat) (s : State) : Host.Outcome State Fault Refusal :=
  .next (patrolControl ref deckId (updPatrol fun p => { p with paused := false }) s)

/-- PATROL_CONTROL_PAUSE. -/
def execPatrolControlPause (ref : CmdRef) (deckId : Nat) (s : State) : Host.Outcome State Fault Refusal :=
  .next (patrolControl ref deckId (updPatrol fun p => { p with paused := true }) s)

/-- PATROL_CONTROL_RESTART. -/
def execPatrolControlRestart (ref : CmdRef) (deckId : Nat) (s : State) : Host.Outcome State Fault Refusal :=
  .next (patrolControl ref deckId beginPass s)

/-- PATROL_CONTROL_REPAIR_ON. -/
def execPatrolControlRepairOn (ref : CmdRef) (deckId : Nat) (s : State) : Host.Outcome State Fault Refusal :=
  .next (patrolControl ref deckId (updPatrol fun p => { p with repairOff := false }) s)

/-- PATROL_CONTROL_REPAIR_OFF. -/
def execPatrolControlRepairOff (ref : CmdRef) (deckId : Nat) (s : State) : Host.Outcome State Fault Refusal :=
  .next (patrolControl ref deckId (updPatrol fun p => { p with repairOff := true }) s)

/-! ## Log page 0xC9 (10 R288, R308) -/

/-- The 32 bytes of a finding record. -/
def findingBytes (f : Finding) : Bytes :=
  leBytes 8 f.time.toNat ++ leBytes 5 f.hand ++ leBytes 1 f.deckId ++ leBytes 1 f.chunk ++ leBytes 1 f.block ++ leBytes 1 f.member ++
  leBytes 1 f.finding ++ leBytes 1 f.action ++ leBytes 1 ((if f.tagged then 1 else 0) + (if f.fromHost then 2 else 0)) ++
  leBytes 4 f.nsid ++ leBytes 5 f.vpage ++ zeros 3

/-- Patrol Findings, 33,856 bytes. -/
def patrolLog (s : State) : Bytes :=
  fitBytes 33856 (leBytes 4 s.decks.findGen ++ leBytes 2 s.decks.findings.length ++ zeros 2 ++ leBytes 8 s.decks.findTotal ++
    leBytes 8 s.decks.findDropped ++ zeros 40 ++
    ((List.range 32).flatMap fun i => match s.deck i with
      | some d => patrolBytes d.patrol.cursor d.patrol.passCount (patrolFlags d) d.patrol.passStart d.patrol.findings
      | none => zeros 32) ++
    s.decks.findings.flatMap findingBytes)

/-- The bad-block list of a volume, 3,936 bytes. -/
def badListLog (v : Volume) : Bytes := leBytes 4 v.nsid ++ zeros 4 ++ (badBytes v).take 3928

end Sys2Proof.Machine
end

