-- ==== Sys2Proof/Machine/Redeal.lean ====
section
/-!
DEFINITION. Redeal: the checks, the allocation of the new layout, the copy, the generation switch, the release of old rounds, and log page
0xC8 (11 R310 to R331).
-/

namespace Sys2Proof.Machine

/-! ## Rounds and byte ranges (05 R142; 11 R314, R315) -/

/-- Byte ranges of the hand area, from DATA_START, that an extent list holds under a shape: (first, past the last). -/
def extentBytes (sh : Shape) (ext : List (Nat × Nat × Nat)) : List (Nat × Nat) :=
  let u := handsPerRound sh
  ext.map fun e => (e.2.1 / u * chunkBytes sh, (e.2.1 + e.2.2) / u * chunkBytes sh)

/-- Insert a byte range in rising order of its start. -/
def insertRange (a : Nat × Nat) : List (Nat × Nat) → List (Nat × Nat)
  | [] => [a]
  | x :: xs => if a.1 ≤ x.1 then a :: x :: xs else x :: insertRange a xs

/-- What is left of [from, stop) outside ranges in rising order. -/
def gapsOf (stop : Nat) : Nat → List (Nat × Nat) → List (Nat × Nat)
  | from_, [] => if from_ < stop then [(from_, stop)] else []
  | from_, r :: rs =>
    if from_ < r.1 then (from_, min r.1 stop) :: gapsOf stop (max from_ r.2) rs else gapsOf stop (max from_ r.2) rs

/-- Byte ranges of the current rounds that the volumes hold (11 R314). -/
def takenBytes (s : State) (id : Nat) (d : Deck) : List (Nat × Nat) :=
  ((volumesOf s id).flatMap fun v => extentBytes d.label.shape v.extents).foldr insertRange []

/-- Byte ranges that no allocation of a volume may use: those that volumes hold, and those of the last switch not yet released (11 R324). -/
def usedBytes (s : State) (id : Nat) (d : Deck) : List (Nat × Nat) :=
  (match d.redeal with | some r => r.oldBytes | none => []).foldr insertRange (takenBytes s id d)

/-- Runs of rounds of a shape, as (first, count), that lie within byte ranges. -/
def roundRuns (sh : Shape) (gaps : List (Nat × Nat)) : List (Nat × Nat) :=
  gaps.filterMap fun g =>
    let a := ceilDiv g.1 (chunkBytes sh)
    let b := min sh.rounds (g.2 / chunkBytes sh)
    if a < b then some (a, b - a) else none

/-- Take `n` rounds from the lowest runs: the extents from a volume hand on, and the runs left; none when they do not suffice. -/
def takeRounds (u : Nat) : List (Nat × Nat) → Nat → Nat → Option (List (Nat × Nat × Nat) × List (Nat × Nat))
  | [], n, _ => if n = 0 then some ([], []) else none
  | (a, c) :: runs, n, vh =>
    if n = 0 then some ([], (a, c) :: runs)
    else if n < c then some ([(vh, a * u, n * u)], (a + n, c - n) :: runs)
    else if c = 0 then takeRounds u runs n vh
    else (takeRounds u runs (n - c) (vh + c * u)).map fun r => ((vh, a * u, c * u) :: r.1, r.2)

/-- Hands that a volume needs under a shape (05 R142). -/
def volHands (sh : Shape) (v : Volume) : Nat :=
  match lbaFormat v.lbaf with
  | some (l, m) => handsNeeded sh v.nsze l m
  | none => 0

/-- New extents of the volumes, in rising NSID order (11 R315); none when some volume cannot be placed in 256 extents. -/
def allocVolumes (sh : Shape) : List Volume → List (Nat × Nat) → Option (Tbl Nat (List (Nat × Nat × Nat)))
  | [], _ => some []
  | v :: vs, runs =>
    match takeRounds (handsPerRound sh) runs (volHands sh v / handsPerRound sh) 0 with
    | none => none
    | some (ext, runs) => if 256 < ext.length then none else (allocVolumes sh vs runs).map fun t => (v.nsid, ext) :: t

/-- The allocation of the new layout (11 R314, R315). -/
def newAlloc (s : State) (id : Nat) (d : Deck) (sh : Shape) : Option (Tbl Nat (List (Nat × Nat × Nat))) :=
  allocVolumes sh (volumesOf s id) (roundRuns sh (gapsOf (sh.rounds * chunkBytes sh) 0 (takenBytes s id d)))

/-! ## Starting a redeal (11 R310 to R313, R317) -/

/-- NEW_GEN (11 R317). -/
def nextGen (g : Nat) : Nat := if g = 65535 then 1 else g + 1

/-- Slots of the current members. -/
def memberSlots (d : Deck) : List Nat := d.label.members.filterMap (·.slot)

/-- The shape of the new layout (11 R310, R314). -/
def redealShape (d : Deck) (a : ShapeArgs) : Shape :=
  { mode := a.mode, k := a.k, m := a.m, n := a.slots.length, s := a.s, chunkShift := 14 + a.chunkCode, seed := a.seed,
    rounds := d.label.shape.rounds * chunkBytes d.label.shape / 2 ^ (14 + a.chunkCode) }

/-- The added drives, in rising slot order (11 R312). -/
def addedSlots (d : Deck) (a : ShapeArgs) : List Nat := (a.slots.filter fun x => !(memberSlots d).contains x).foldr insertNat []

/-- Conditions of R310. -/
def redealFieldsOk (s : State) (d : Deck) (a : ShapeArgs) : Bool :=
  let sh := redealShape d a
  shapeOk a && (memberSlots d).all a.slots.contains &&
  ((addedSlots d a).all fun x => decide (x < s.slots) && decide ((s.slot x).cls = .newDrive) && slotUnused s x &&
    driveOk (s.slot x) d.label.dataStart (chunkBytes sh) && decide (lowest (d.label.members.map (·.cap)) ≤ slotCap s x)) &&
  twoHomes s a.slots && decide (sh.rounds * handsPerRound sh < 2 ^ 40)

/-- Redeals active in the device. -/
def activeRedeals (s : State) : Nat := (s.decks.decks.filter fun d => d.2.label.redeal.isSome).length

/-- A Format NVM is in progress on some volume. -/
def anyFormat (s : State) : Bool := s.decks.volumes.any fun p => p.2.formatLeft.isSome

/-- Conditions of R311 that refuse a redeal. -/
def redealBusy (s : State) (d : Deck) : Bool :=
  decide (d.label.deckState ≠ 0) || !d.label.failList.isEmpty ||
  d.label.members.any (fun e => decide (e.mstate = .replacing) || decide (e.mstate = .absent)) ||
  d.label.redeal.isSome || decide (4 ≤ activeRedeals s) || s.decks.wipe.isSome || decide (s.decks.sstat = 2) || anyFormat s

/-- The first new hand in copy order: the lowest NSID that has one (11 R319). -/
def firstHand (ext : Tbl Nat (List (Nat × Nat × Nat))) : Option (Nat × Nat) := (ext.find? fun x => !x.2.isEmpty).map fun x => (x.1, 0)

/-- DECK_REDEAL (11 R310 to R313). R311 and R323 are tested before the shape (DESIGN CHOICE, log 149). While old rounds of the last switch are not yet
released, the command waits: the new layout may not use them (R324), and a restart could not compute such an allocation again (R315). -/
def execDeckRedeal (ref : CmdRef) (args : ShapeArgs) (s : State) : Host.Outcome State Fault Refusal :=
  if !adminTurn s ref then .next s
  else if s.mode.mode = .quarantine then .next (failCmd ref 0x0C s)
  else
    match s.deck args.deckId with
    | none => .next (failCmd ref (if changeBar s ≠ 0 then changeBar s else 0x02) s)
    | some d =>
      if redealBusy s d then .next (failCmd ref 0x0C s)
      else if changeBar s ≠ 0 then .next (failCmd ref (changeBar s) s)
      else if !redealFieldsOk s d args then .next (failCmd ref 0x02 s)
      else if d.redeal.isSome then .next s
      else
        let id := args.deckId
        let sh := redealShape d args
        match newAlloc s id d sh with
        | none => .next (failCmd ref 0x115 s)
        | some ext =>
          let add := addedSlots d args
          let total := ext.foldl (fun n x => n + extentTotal x.2) 0
          let pos := firstHand ext
          let field : RedealField :=
            { newGen := nextGen d.label.generation, newShape := sh, phase := .copy, wmNsid := (pos.map (·.1)).getD 0, wmVhand := 0,
              started := s.recTime, handsTotal := total, addSlots := add }
          let run : RedealRun :=
            { position := pos, copied := [], handsDone := 0, newExtents := ext, draining := false, oldBytes := [], oldRounds := 0, copyAt := [] }
          let s1 := (List.range add.length).foldl (fun s i =>
            let x := add.getD i 0
            writeStructures id x (slotTagged s x) (newRing (d.label.members.length + i) false) (emitDealloc x s)) s
          let s2 := relabel id (fun l => { l with redeal := some field }) (updDeck id (fun d => { d with redeal := some run }) s1)
          let s3 := recordEvent 0x3040 [id, field.newGen, 0, 0] s2
          let log : RedealLog :=
            { status := 1, reason := 0, oldGen := d.label.generation, newGen := field.newGen, newShape := sh, handsTotal := total,
              handsDone := 0, started := field.started, ended := 0 }
          let s4 := logRedeal id 1 0 0 { s3 with decks := { s3.decks with redealLog := tblPut s3.decks.redealLog id log } }
          .next (noteAll s (evalDeck id (commitCmd ref 0 0 s4)))

/-- DECK_REDEAL_CANCEL (11 R310, R328): every field other than DECK_ID must be zero. -/
def execDeckRedealCancel (ref : CmdRef) (deckId : Nat) (rest : List Nat × ShapeRest) (s : State) : Host.Outcome State Fault Refusal :=
  if !adminTurn s ref then .next s
  else if changeBar s ≠ 0 then .next (failCmd ref (changeBar s) s)
  else
    match s.deck deckId with
    | none => .next (failCmd ref 0x02 s)
    | some d =>
      if !(zeroShape rest.2 && rest.1.isEmpty) then .next (failCmd ref 0x02 s)
      else if d.label.redeal.isNone || isDraining d then .next (failCmd ref 0x0C s)
      else .next (noteAll s (evalDeck deckId (commitCmd ref 0 0 (abandonRedeal deckId 1 (fun l => l) s))))

/-! ## The copy (11 R316, R319, R320) -/

/-- The next new hand in copy order. -/
def handAfter (ext : Tbl Nat (List (Nat × Nat × Nat))) (p : Nat × Nat) : Option (Nat × Nat) :=
  if p.2 + 1 < extentTotal (tblGet ext p.1 []) then some (p.1, p.2 + 1)
  else (ext.find? fun x => decide (p.1 < x.1) && !x.2.isEmpty).map fun x => (x.1, 0)

/-- Move the copy position past hands already copied. -/
def nextPosition (ext : Tbl Nat (List (Nat × Nat × Nat))) (copied : List (Nat × Nat)) : Nat → Option (Nat × Nat) → Option (Nat × Nat)
  | _, none => none
  | 0, some p => some p
  | n + 1, some p => if copied.contains p then nextPosition ext copied n (handAfter ext p) else some p

/-- A new hand lies among the 64 in flight from the position. -/
def inFlight (ext : Tbl Nat (List (Nat × Nat × Nat))) (h : Nat × Nat) : Nat → Option (Nat × Nat) → Bool
  | _, none => false
  | 0, some _ => false
  | n + 1, some p => decide (p = h) || inFlight ext h n (handAfter ext p)

/-- The block of the current layout that fills block (row, chunk) of a new volume hand: its hand, row, chunk and volume page (11 R316). -/
def sourceBlock (d nd : Deck) (v : Volume) (vh row c : Nat) : Option (Nat × Nat × Nat × Nat) :=
  match oldPage (metaPage d.label.shape v) (metaPage nd.label.shape v) (pageOfBlock nd.label.shape vh row c) with
  | none => none
  | some p =>
    let b := blockOfPage d.label.shape p
    (extentHand v.extents b.1).map fun hd => (hd, b.2.1, b.2.2, p)

/-- Bytes of a volume page that the volume's data or metadata fills (11 R316). -/
def pageFill (sh : Shape) (v : Volume) (p : Nat) : Nat :=
  match lbaFormat v.lbaf with
  | none => 0
  | some (l, m) =>
    let base := metaPage sh v
    if p < base then min 4096 (v.nsze * l - p * 4096) else min 4096 (v.nsze * m - (p - base) * 4096)

/-- A block of the current layout, decoded when it is lost (10 R278): none while more than m blocks of its row are lost. -/
def currentBlock (s : State) (id : Nat) (d : Deck) (hd row c : Nat) (reads : Tbl Nat (List BlockRead)) : Option Bytes :=
  let have_ := atHand s id d hd row (tblGet reads hd [])
  if tblHas have_ c then some (rowBlock have_ c) else (rowOld d have_).map fun full => rowBlock full c

/-- The data of a block of the new hand: none while its source has not been had. -/
def copyBlock (s : State) (id : Nat) (d nd : Deck) (v : Volume) (vh : Nat) (reads : Tbl Nat (List BlockRead)) (row c : Nat) : Option Bytes :=
  match sourceBlock d nd v vh row c with
  | none => some (zeros 4096)
  | some (hd, row', c', p) =>
    let n := pageFill d.label.shape v p
    if n = 0 || blockListed s id d hd row' c' then some (zeros 4096)
    else (currentBlock s id d hd row' c' reads).map fun b => fitBytes 4096 (b.take n)

/-- The member writes of a new hand; none while some source block has not been had. -/
def copyWrites (s : State) (id : Nat) (d nd : Deck) (v : Volume) (vh hd : Nat) (reads : Tbl Nat (List BlockRead)) : Option (List WaitWrite) :=
  let sh := nd.label.shape
  (List.range (chunkBlocks sh)).foldl (fun acc row =>
    match acc with
    | none => none
    | some ws =>
      let data := (List.range sh.k).filterMap fun c => (copyBlock s id d nd v vh reads row c).map fun b => (c, b)
      if data.length < sh.k then none
      else some (ws ++ (data ++ encodeRow sh.k sh.m 4096 data).filterMap fun b => blockWrite (retag s nd) hd row b.1 d.wseq b.2)) (some [])

/-- Current hands that hold a source byte of a new hand. -/
def sourceHands (d nd : Deck) (v : Volume) (vh : Nat) : List Nat :=
  ((List.range (chunkBlocks nd.label.shape)).flatMap fun row =>
    (List.range nd.label.shape.k).filterMap fun c => (sourceBlock d nd v vh row c).map (·.1)).foldl
      (fun l h => if l.contains h then l else l ++ [h]) []

/-- Every member is ACTIVE and every added drive can be reached (11 R328). -/
def redealReady (s : State) (d : Deck) (r : RedealField) : Bool :=
  d.label.members.all (fun e => decide (e.mstate = .active)) && r.addSlots.all fun x => slotReachable (s.slot x)

/-- The streams of a new hand: the decode of the source blocks that are lost, and the encoding in the new shape (08 R241, R247). -/
def copyStreams (s : State) (id : Nat) (d nd : Deck) (v : Volume) (vh : Nat) (reads : Tbl Nat (List BlockRead)) (row : Nat) : List ParityStream :=
  ((List.range nd.label.shape.k).flatMap fun c =>
    match sourceBlock d nd v vh row c with
    | some (hd, row', c', _) =>
      if blockListed s id d hd row' c' then [] else lostStreams d (atHand s id d hd row' (tblGet reads hd [])) [c']
    | none => []) ++ [encodeStream nd.label.shape.k nd.label.shape.m]

/-- The locks of a copy, in the order in which they are taken (11 R320). -/
def copyLocks (d nd : Deck) (v : Volume) (vh hd : Nat) : List LockReq :=
  ((sourceHands d nd v vh).foldr insertNat []).map (fun h => ({ key := h, mode := .shared, user := .redeal } : LockReq)) ++
    [{ key := newKey hd, mode := .exclusive, user := .redeal }]

/-- Copy one new hand, its locks held (11 R320): the writes, and the position, which a label update follows at every 1/64 of HANDS_TOTAL (R317). -/
def copyHand (deck nsid vhand hd : Nat) (r : RedealField) (run : RedealRun) (nd : Deck) (v : Volume) (reads : List (Nat × List BlockRead))
    (ws : List WaitWrite) (s : State) : State :=
  match s.deck deck with
  | none => s
  | some d =>
    let s1 := (List.range (chunkBlocks nd.label.shape)).foldl (fun s row => runStreams deck hd row (copyStreams s deck d nd v vhand reads row) s)
      (reads.foldl (fun s r => chargeReads d r.1 r.2 s) (clearCleanStop deck s))
    let s1 := emitBlocks ws s1
    let copied := run.copied ++ [(nsid, vhand)]
    let pos := nextPosition run.newExtents copied 64 run.position
    let run := { run with
      position := pos, copied := copied.filter fun h => inFlight run.newExtents h 64 pos, handsDone := run.handsDone + 1,
      copyAt := s.now :: run.copyAt.filter fun t => decide (s.now < t + 10000000000) }
    let s2 := updDeck deck (fun d => { d with redeal := some run }) s1
    let s3 := if run.handsDone % max 1 (r.handsTotal / 64) = 0 then labelUpdate deck s2 else s2
    noteAll s (settleAll { s3 with decks := { s3.decks with redealGen := s3.decks.redealGen + 1 } })

/-- REDEAL_COPY_HAND (11 R319, R320): `reads` are the blocks read of each current hand that holds a source byte. -/
def execRedealCopyHand (deck nsid vhand : Nat) (reads : List (Nat × List BlockRead)) (s : State) : Host.Outcome State Fault Refusal :=
  match s.deck deck with
  | none => .next s
  | some d =>
    match d.label.redeal, d.redeal, newLayout d, s.vol nsid with
    | some r, some run, some nd, some v =>
      match extentHand (tblGet run.newExtents nsid []) vhand with
      | none => .next s
      | some hd =>
        let qs := copyLocks d nd v vhand hd
        let stop := qs.foldl (fun s q => endLock deck q s)
        match (if plainRuns s && redealReady s d r && !run.copied.contains (nsid, vhand) && inFlight run.newExtents (nsid, vhand) 64 run.position then
            copyWrites s deck d nd v vhand hd reads else none) with
        | none => .next (stop s)
        | some ws =>
          if !reachAll s ws then .next (stop s)
          else
            match qs.find? fun q => !lockGranted s deck d q with
            | some q => .next (askLock deck q s)
            | none => .next (stop (copyHand deck nsid vhand hd r run nd v reads ws s))
    | _, _, _, _ => .next s

/-- A REDEAL record (11 R330): the position, past the last hand once every hand is copied. -/
def redealRec (id : Nat) (s : State) : State :=
  match s.deck id with
  | none => s
  | some d =>
    match d.label.redeal, d.redeal with
    | some r, some run =>
      let p := copyPosition run
      progressRec id (.redeal (match r.phase with | .copy => 1 | .switch => 2) p.1 p.2 (run.handsDone - run.copied.length) r.started) s
    | _, _ => s

/-- REDEAL_PROGRESS_WRITE (11 R330). -/
def execRedealProgressWrite (deck : Nat) (s : State) : Host.Outcome State Fault Refusal := .next (redealRec deck s)

/-! ## The generation switch (11 R324 to R326) -/

/-- Volumes that the switch affects, with the first page of their metadata area. -/
def affectedVols (s : State) (id : Nat) (d : Deck) : List (Volume × Nat) :=
  ((volumesOf s id).filter (affected d)).map fun v => (v, metaPage d.label.shape v)

/-- The drain has ended: no hand update of the deck is in flight, nothing of an affected metadata area is dirty, staged or being filled,
no DATA record holds a page of one, and the TRIM records are durable. -/
def drained (s : State) (id : Nat) (d : Deck) : Bool :=
  d.updates.isEmpty && d.starting.isEmpty && d.locks.isEmpty &&
  ((affectedVols s id d).isEmpty || (d.trimJ.isEmpty && !d.trims.any (trimOpen s id d))) &&
  (affectedVols s id d).all fun x =>
    let key := x.1.nsid - 1
    !(s.cache.dir.any fun e => decide (e.keyNs = key) && decide (x.2 ≤ e.vpage) && (isDirtyState e.state || decide (e.state = .staged))) &&
    !(s.cache.fills.any fun f => decide (f.1 = key) && decide (x.2 ≤ f.2)) &&
    !(d.journal.any fun r => match r.body with
      | .data _ _ n _ ps => decide (n = x.1.nsid) && ps.any fun p => decide (x.2 ≤ p.vpage)
      | _ => false)

/-- The first part of the switch: PHASE SWITCH, and no new hand update starts. -/
def beginDrain (id : Nat) (s : State) : State :=
  let s := relabel id (fun l => { l with redeal := l.redeal.map fun f => { f with phase := .switch } }) s
  let s := broadcast (updDeck id (fun d => { d with redeal := d.redeal.map fun r => { r with draining := true } }) s)
  logRedeal id 2 0 0 (redealRec id s)

/-- The drain goes on: a Flush is issued at once to every member with completed writes that are not durable, and the TRIM records that the drain needs are
made. -/
def pushDrain (id : Nat) (s : State) : State :=
  match s.deck id with
  | none => s
  | some d =>
    let s := (memberSlots d).foldl (fun s x => flushSlot x s) s
    if (affectedVols s id d).isEmpty then s else (List.range (d.trimJ.length / 504 + 1)).foldl (fun s _ => closeTrim id false s) s

/-- A bad-block list re-based for an affected volume (11 R324). -/
def rebase (base base' : Nat) (l : List BadEntry) : List BadEntry :=
  (l.flatMap fun b => ((List.range 64).filter b.map.testBit).map (b.base + ·)).foldl
    (fun acc p => addBad (if p < base then p else p - base + base') acc) []

/-- A volume in the new layout. -/
def switchedVol (d nd : Deck) (r : RedealField) (run : RedealRun) (v : Volume) : Volume :=
  let ext := tblGet run.newExtents v.nsid []
  let base := metaPage d.label.shape v
  let base' := metaPage nd.label.shape v
  { v with
    extents := ext, handsAlloc := extentTotal ext, deckGen := r.newGen,
    bad := if affected d v then rebase base base' v.bad else v.bad }

/-- The members in the new layout (11 R324): the added drives ACTIVE, tagged as they are. -/
def switchedMembers (s : State) (d : Deck) (r : RedealField) : List MemberEntry :=
  d.label.members.map (fun e => match e.slot with
    | some x => { e with tagged := if d.label.imported then slotTagged s x else e.tagged }
    | none => e) ++
  r.addSlots.map fun x => { slot := some x, mstate := .active, tagged := slotTagged s x, cap := slotCap s x, nguid := slotNguid s x }

/-- Member reads of a deck that have not ended: slot, port and tag. -/
def openReads (s : State) (id : Nat) : List (Nat × Nat × Nat) :=
  (listedSlots s).flatMap fun x => [0, 1].flatMap fun port =>
    (portOf (s.slot x) port).tags.filterMap fun t =>
      match t.work with
      | .read i _ _ _ => if i = id ∧ t.state = .outstanding then some (x, port, t.tag) else none
      | _ => none

/-- Steps 2 to 5 of the switch. The volume table is written first, in the new shape and on the added drives too. -/
def commitSwitch (id : Nat) (d nd : Deck) (r : RedealField) (run : RedealRun) (s : State) : State :=
  let old := (volumesOf s id).flatMap fun v => extentBytes d.label.shape v.extents
  let rounds := (volumesOf s id).foldl (fun n v => n + extentTotal v.extents / handsPerRound d.label.shape) 0
  let drop := affectedVols s id d
  let c := s.cache
  let s := clearCleanStop id { s with cache := { c with
    dir := c.dir.filter fun e => !drop.any fun x => decide (x.1.nsid = e.keyNs + 1) && decide (x.2 ≤ e.vpage) } }
  let vs := volumesOf s id
  let members := switchedMembers s d r
  let s := vs.foldl (fun s v => s.setVol v.nsid (switchedVol d nd r run v)) s
  let s := updDeck id (fun d => { d with label := { d.label with shape := r.newShape, members := members } }) s
  let s := tableStep id r.newGen (vs.map (·.nsid)) s
  let s := endProgress id 3 (logRedeal id 3 0 s.recTime s)
  let n := d.label.members.length
  let reads := openReads s id
  let s := updDeck id (fun d => { d with
    redeal := some { run with
      position := none, copied := [], newExtents := [], draining := false, oldBytes := run.oldBytes ++ old, oldRounds := run.oldRounds + rounds
      oldReads := reads }
    segs := [(0, 0)], curSeg := 0xFF, cursor := 0, rebuilt := []
    rings := d.rings ++ (List.range r.addSlots.length).map fun i => newRing (n + i) false }) s
  let s := relabel id (fun l => { l with generation := r.newGen, imported := false, redeal := none }) s
  let s := (List.range r.addSlots.length).foldl (fun s i =>
    let x := r.addSlots.getD i 0
    recordEvent 0x5003 [x, 1, id, n + i]
      (s.setSlot x { s.slot x with cls := .member, deckId := some id, index := some (n + i), health := 1000, classTime := s.recTime })) s
  evalDeck id (beginPass id (recordEvent 0x3041 [id, r.newGen, 0, 0] (broadcast s)))

/-- GENERATION_SWITCH (11 R324 to R326): every hand is copied. The first arrival begins the drain; the switch is made once the drain has
ended. A re-based list of more than 245 entries abandons the redeal. -/
def execGenerationSwitch (deck : Nat) (s : State) : Host.Outcome State Fault Refusal :=
  match s.deck deck with
  | none => .next s
  | some d0 =>
    match d0.label.redeal, d0.redeal with
    | some r, some run =>
      if !(s.serving && run.position.isNone && redealReady s d0 r) then .next s
      else
        let s1 := pushDrain deck (if run.draining then s else beginDrain deck s)
        match s1.deck deck with
        | none => .next s1
        | some d =>
          match newLayout d, d.label.redeal, d.redeal with
          | some nd, some r, some run =>
            if !drained s1 deck d then .next (noteAll s s1)
            else if (volumesOf s1 deck).any fun v => decide (245 < (switchedVol d nd r run v).bad.length) then
              .next (noteAll s (evalDeck deck (abandonRedeal deck 4 (fun l => l) s1)))
            else .next (noteAll s (commitSwitch deck d nd r run s1))
          | _, _, _ => .next s1
    | _, _ => .next s

/-- OLD_ROUNDS_RELEASE (11 R324): every member read issued before the switch has ended; event 0x3044. -/
def execOldRoundsRelease (deck : Nat) (s : State) : Host.Outcome State Fault Refusal :=
  match s.deck deck with
  | none => .next s
  | some d =>
    match d.redeal with
    | none => .next s
    | some run =>
      if d.label.redeal.isSome || run.oldReads.any (openReads s deck).contains then .next s
      else .next (recordEvent 0x3044 [deck, run.oldRounds, 0, 0] (s.setDeck deck { d with redeal := none }))

/-! ## Log page 0xC8 (11 R331) -/

/-- Record of a deck. -/
def redealRecord (s : State) (id : Nat) : Bytes :=
  match tblFind s.decks.redealLog id with
  | none => leBytes 1 id ++ zeros 63
  | some l =>
    let run := (s.deck id).bind fun d => if d.label.redeal.isSome then d.redeal else none
    let done := (run.map (·.handsDone)).getD l.handsDone
    let bytes := widthOf l.newShape * chunkBytes l.newShape
    let rate := ((run.map fun r => (r.copyAt.filter fun t => decide (s.now < t + 10000000000)).length).getD 0) * bytes / 10
    leBytes 1 id ++ leBytes 1 l.status ++ leBytes 1 l.reason ++ zeros 1 ++ leBytes 2 l.oldGen ++ leBytes 2 l.newGen ++
      leBytes 1 (modeOf l.newShape.mode) ++ leBytes 1 l.newShape.k ++ leBytes 1 l.newShape.m ++ leBytes 1 l.newShape.n ++
      leBytes 1 l.newShape.s ++ leBytes 1 l.newShape.chunkShift ++ zeros 2 ++ leBytes 8 l.handsTotal ++ leBytes 8 done ++
      leBytes 8 l.started.toNat ++ leBytes 8 l.ended.toNat ++ leBytes 8 rate ++ zeros 8

/-- Redeal Progress, 2,112 bytes. -/
def redealLogPage (s : State) : Bytes :=
  leBytes 4 s.decks.redealGen ++ leBytes 1 (activeRedeals s) ++ zeros 59 ++ (List.range 32).flatMap (redealRecord s)

end Sys2Proof.Machine
end

