-- ==== Sys2Proof/Machine/Assemble.lean ====
section
/-!
DEFINITION. Classes of drives and the decks that their labels make: classification, the return of a member, and assembly at the end of the
boot member window (02 R57; 07 R224, R234; 12 R353 to R355; 17 R499).
-/

namespace Sys2Proof.Machine

/-! ## Classes (12 R353) -/

/-- A present deck with a DECK_UUID. -/
def deckOfUuid (s : State) (u : Uuid) : Option (Nat × Deck) := s.decks.decks.find? fun p => decide (p.2.label.uuid = u)

/-- The label's index and identity are those of a member of the deck. -/
def labelFits (d : Deck) (n : NativeLabel) : Bool :=
  decide (n.memberIndex < d.label.shape.n) && decide ((memberOf d n.memberIndex).map (·.nguid) = some n.nguid)

/-- The label is one of an added drive that ADD_SLOT names (11 R318). Its drive stays in the class NEW (DEDUCED, log 41). -/
def labelAdded (d : Deck) (n : NativeLabel) (x : Nat) : Bool :=
  match d.label.redeal with
  | some r => decide (d.label.members.length ≤ n.memberIndex) && decide (r.addSlots[n.memberIndex - d.label.members.length]? = some x)
  | none => false

/-- Class of a usable drive by its labels, with the deck and index of a returning one. -/
def labelClass (s : State) (x : Nat) : DriveClass × Option (Nat × Nat) :=
  let v := s.slot x
  match v.native with
  | some n =>
    match deckOfUuid s n.label.uuid with
    | some (id, d) =>
      if labelFits d n then (.returning, some (id, n.memberIndex))
      else if labelAdded d n x then (.newDrive, none)
      else (.foreign, none)
    | none => (.foreign, none)
  | none => (if v.fore.isSome then .importable else .newDrive, none)

/-- Classify a drive: class, CLASS_TIME, event 0x5003. -/
def setClass (x : Nat) (c : DriveClass) (at_ : Option (Nat × Nat)) (s : State) : State :=
  let v := s.slot x
  recordEvent 0x5003 [x, classCode c, (at_.map (·.1)).getD 0xFF, (at_.map (·.2)).getD 0xFF]
    (s.setSlot x { v with cls := c, deckId := at_.map (·.1), index := at_.map (·.2), classTime := s.recTime })

/-! ## The return of a member (12 R354) -/

/-- The state that an ABSENT index takes up again: REPLACING for the target of a copy-back, else ACTIVE (02 R57; 07 R218; DEDUCED, log 42). -/
def backState (d : Deck) (mem : Nat) : MState :=
  match d.label.failList.getLast? with
  | some e => if e.member = mem ∧ e.fstate = .copyback then .replacing else .active
  | none => .active

/-- A member index is now in a slot; an earlier slot of it holds it no more. -/
def moveMember (id mem x : Nat) (s : State) : State :=
  match s.deck id with
  | none => s
  | some d =>
    let s := match slotOfMember d mem with
      | some y =>
        if y ≠ x ∧ (s.slot y).deckId = some id ∧ (s.slot y).index = some mem then
          updSlot y (fun v => { v with cls := if v.present then v.cls else .empty, deckId := none, index := none, failDue := false }) (leavePending y s)
        else s
      | none => s
    let upd := fun (u : HandUpd) => { u with todo := u.todo.map fun w => if some w.slot = slotOfMember d mem then { w with slot := x } else w }
    s.setDeck id { d with
      updates := d.updates.map upd
      label := { d.label with members := (List.range d.label.members.length).filterMap fun i =>
        (d.label.members[i]?).map fun e => if i = mem then { e with slot := some x } else e } }

/-- The drive in a slot is a member again. -/
def joinMember (id mem x : Nat) (s : State) : State := setClass x .member (some (id, mem)) (moveMember id mem x s)

/-- A member that has returned and keeps no journal has its header written with ROLE 0x00 (09 R269). -/
def returnHeader (id mem : Nat) (s : State) : State :=
  match s.deck id with
  | none => s
  | some d => if (d.rings.find? fun g => decide (g.member = mem)).any (fun g => !g.keeper) then demoteRing id mem s else s

/-- PENDING_MEMBERS stays set while the deck lacks more than m members (02 R57). -/
def judgeWaiting (id : Nat) (s : State) : State := updDeck id (fun d => { d with pending := d.pending && decide (d.label.shape.m < d.exposure) }) s

/-- R354: what a RETURNING drive becomes, by the state of its index. In QUARANTINE deck states change only to FAILED, so an ABSENT or
FAILED index waits (02 R68). -/
def returnDrive (x : Nat) (s : State) : State :=
  match (s.slot x).deckId, (s.slot x).index with
  | some id, some mem =>
    match s.deck id with
    | none => s
    | some d =>
      let quiet := decide (s.mode.mode = .quarantine)
      match mstateOf d mem with
      | .active | .replacing =>
        let s := joinMember id mem x s
        let s := if quiet then s else payDue id (returnHeader id mem (labelUpdate id s))
        sendWaiting x (leavePending x s)
      | .absent =>
        if quiet then s
        else
          let s := payDue id (joinMember id mem x s)
          improveKeepers id (judgeWaiting id (evalDeck id (returnHeader id mem (relabel id (setMstate mem (backState d mem)) s))))
      | .failed =>
        match d.label.failList.getLast? with
        | none => s
        | some e =>
          if quiet || decide (e.member ≠ mem) then s
          else evalDeck id (startRecorded id (s.setDeck id { d with replaceSlot := some x }))
  | _, _ => s

/-! ## Assembly (02 R57; 07 R224, R234; 12 R353) -/

/-- Add a value to a list that lacks it. -/
def addNew (u : Nat) (l : List Nat) : List Nat := if l.contains u then l else l ++ [u]

/-- Slots with a usable drive of a class, rising. -/
def slotsOf (s : State) (c : DriveClass) : List Nat := (List.range s.slots).filter fun x => decide ((s.slot x).cls = c)

/-- The labels of the drives that wait for assembly: slot and label. -/
def bootLabels (s : State) : List (Nat × NativeLabel) := (slotsOf s .foreign).filterMap fun x => (s.slot x).native.map fun n => (x, n)

/-- The label of a deck (07 R224 step 2). -/
def chooseLabel (ls : List (Nat × NativeLabel)) : Option DeckLabel :=
  (ls.filter fun p =>
    match p.2.label.members[p.2.memberIndex]? with
    | some e => decide (p.2.memberIndex < p.2.label.shape.n) && decide (e.mstate ≠ .failed)
    | none => false).foldl (fun best p =>
      match best with
      | none => some p.2.label
      | some (l : DeckLabel) => if l.labelSeq < p.2.label.labelSeq then some p.2.label else best) none

/-- Slot of the drive that carries a member index of a label. -/
def holderOf (ls : List (Nat × NativeLabel)) (l : DeckLabel) (mem : Nat) : Option Nat :=
  (ls.find? fun p => decide (p.2.memberIndex = mem) && decide ((l.members[mem]?).map (·.nguid) = some p.2.nguid)).map (·.1)

/-- The member table at the close of the window: arrived members take up their state, the others are ABSENT (02 R57; 07 R220). -/
def arrivedMembers (ls : List (Nat × NativeLabel)) (d : Deck) : List MemberEntry :=
  (List.range d.label.members.length).filterMap fun i =>
    (d.label.members[i]?).map fun e =>
      match holderOf ls d.label i with
      | some x => { e with slot := some x, mstate := if e.mstate = .absent then backState d i else e.mstate }
      | none => { e with slot := none, mstate := if e.mstate = .failed then .failed else .absent }

/-- What bring-up found on the drive that carries a member index. -/
def driveOfIndex (ls : List (Nat × NativeLabel)) (l : DeckLabel) (mem : Nat) (s : State) : Option DriveInfo :=
  (holderOf ls l mem).bind fun x => (s.slot x).info

/-- A volume as its record gives it; what the record does not hold stays as the block last held it (log 43), and so does the key that it holds
wrapped. -/
def takeVolume (ctls : List Nat) (held : List Volume) (r : Bytes) : Volume :=
  let v := readVolume ctls r
  match held.find? fun h => decide (h.nsid = v.nsid) with
  | none => v
  | some h =>
    { v with
      extended := h.extended, attached := h.attached, formatLeft := h.formatLeft
      key := if v.crypt = 1 ∧ h.crypt = 1 ∧ (r.drop 4176).take 72 = fitBytes 72 (Config.wrapKey wrappingKey h.key) then h.key else v.key }

/-- A deck as its members' own structures give it: the volume table (07 R227), and each member's ring (07 R228, R229). What no structure that can be
read holds is as the block last held it, when it has held the deck before (log 43). -/
def readDeck (held : Option (Deck × List Volume)) (ls : List (Nat × NativeLabel)) (l : DeckLabel) (s : State) : Deck × List Volume :=
  let at_ := (List.range l.members.length).filterMap fun i => (driveOfIndex ls l i s).map fun f => (i, f)
  let d := (held.map (·.1)).getD (newDeck l)
  let rings := (List.range l.members.length).map fun i =>
    match at_.find? fun x => decide (x.1 = i) with
    | some (i, f) => readRing f l i
    | none => (if held.isSome then d.rings.find? fun g => decide (g.member = i) else none).getD { newRing i false with complete := false }
  let tables := at_.map fun x => (x.1, copySeqs x.2 l)
  let d := { d with rings := rings, tables := tables ++ d.tables.filter fun t => !(at_.map (·.1)).contains t.1 }
  match deckTable (at_.map (·.2)) l with
  | none => (d, (held.map (·.2)).getD [])
  | some (seq, recs) =>
    let vs := recs.map (takeVolume s.ctlIds ((held.map (·.2)).getD []))
    let left := ((at_.flatMap fun x => recordIds x.2 l).foldl (fun l u => addNew u l) []).filter fun n => !vs.any fun v => decide (v.nsid = n)
    ({ d with tableSeq := seq, gone := (d.gone.filter fun g => !left.contains g.1) ++ left.map fun n => (n, seq) }, vs)

/-- Take up a deck from its members' structures, with what this block knows of it from when it last held it. -/
def recallDeck (ls : List (Nat × NativeLabel)) (l : DeckLabel) (s : State) : (Deck × List Volume) × State :=
  (readDeck (s.decks.away.find? fun p => decide (p.1.label.uuid = l.uuid)) ls l s,
   { s with decks := { s.decks with away := s.decks.away.filter fun q => !decide (q.1.label.uuid = l.uuid) } })

/-- The volumes of a deck, as its table gives them, unless their NSID is held. -/
def seatVolumes (id : Nat) (vs : List Volume) (s : State) : State :=
  vs.foldl (fun s v => if (s.vol v.nsid).isSome then s else s.setVol v.nsid { v with deckId := id }) s

/-- Each arrived drive of a deck is its member; one whose index has failed is RETURNING (12 R353, R354). -/
def seatMembers (id : Nat) (members : List MemberEntry) (s : State) : State :=
  (List.range members.length).foldl (fun s i =>
    match members[i]?.bind fun e => e.slot.map fun x => (x, e.mstate) with
    | some p => setClass p.1 (if p.2 = .failed then .returning else .member) (some (id, i)) s
    | none => s) s

/-- The drive that failed as the last fail list entry has returned: it is to be the replacement (12 R354). -/
def nameReturned (id : Nat) (ls : List (Nat × NativeLabel)) (l : DeckLabel) (s : State) : State :=
  match (s.deck id).bind fun d => d.label.failList.getLast?.bind fun e => if mstateOf d e.member = .failed then holderOf ls l e.member else none with
  | some x => updDeck id (fun d => { d with replaceSlot := some x }) s
  | none => s

/-- Assemble the deck of a DECK_UUID when its DECK_ID is free. WSEQ resumes at WSEQ_CEIL (09 R252). Volumes whose NSID another deck's
volume has taken are left out (DESIGN CHOICE, log 43). -/
def assembleDeck (s : State) (u : Uuid) : State :=
  let ls := (bootLabels s).filter fun p => decide (p.2.label.uuid = u)
  match chooseLabel ls with
  | none => s
  | some l =>
    let id := l.deckId
    if 31 < id ∨ (s.deck id).isSome then s
    else
      let r := recallDeck ls l s
      let members := arrivedMembers ls { r.1.1 with label := l }
      let stale := decide (members ≠ l.members) || ls.any fun p => decide (p.2.label.labelSeq < l.labelSeq)
      let d := { r.1.1 with label := { l with members := members }, wseq := max 1 l.wseqCeil, scanDue := false, pending := false }
      let s := seatVolumes id r.1.2 (r.2.setDeck id d)
      let s := ls.foldl (fun s p => if labelAdded d p.2 p.1 then setClass p.1 .newDrive none s else s) (seatMembers id members s)
      let s := if stale then labelUpdate id s else s
      let s := updDeck id (fun d => { d with
        pending := decide (d.label.shape.m < deckExposure s id d) && d.label.members.any fun e => decide (e.mstate = .absent) }) s
      nameReturned id ls l (evalDeck id s)

/-- Lowest free DECK_ID. -/
def freeDeckId (s : State) : Option Nat :=
  (List.range 32).find? fun i => (s.deck i).isNone && !s.decks.importable.any fun j => decide (j.deckId = i)

/-- Report a set of forerunner drives (07 R234). -/
def reportImportable (s : State) (u : Uuid) : State :=
  let ls := (slotsOf s .importable).filterMap fun x => (s.slot x).fore.map fun f => (x, f)
  let set_ := ls.filter fun p => decide (p.2.uuid = u)
  match freeDeckId s, set_ with
  | some id, p :: _ =>
    let best := set_.foldl (fun (b : ForeLabel) q => if b.labelSeq < q.2.labelSeq then q.2 else b) p.2
    { s with decks := { s.decks with
      importable := s.decks.importable ++ [{ deckId := id, label := best, slots := set_.map fun q : Nat × ForeLabel => q.1 }] } }
  | _, _ => s

/-- Slots whose drive is ready on one port only: such a drive is UNUSABLE (12 R352). -/
def halfUp (s : State) : List Nat :=
  (List.range s.slots).filter fun x =>
    let v := s.slot x
    decide (v.cls = .empty) && v.present && decide (v.portA.ident.isSome ≠ v.portB.ident.isSome)

/-- The boot member window closes: the decks are assembled, their states set, and forerunner sets reported. Decks no drive of which has
arrived are not present. -/
def closeWindow (s : State) : State :=
  if s.mode.windowClosed then s
  else
    let gone := s.decks.decks.map fun p => (p.2, volumesOf s p.1)
    let s := { s with
      mode := { s.mode with windowClosed := true }
      decks := { s.decks with decks := [], volumes := [], importable := [], away := s.decks.away ++ gone } }
    let s := (halfUp s).foldl (fun s x => setClass x .unusable none s) s
    let uuids := (bootLabels s).foldl (fun l p => addNew p.2.label.uuid l) []
    let s := uuids.foldl assembleDeck s
    let s := (slotsOf s .foreign).foldl (fun s x => setClass x .foreign none s) s
    let fores := ((slotsOf s .importable).filterMap fun x => (s.slot x).fore.map fun f => f.uuid).foldl (fun l u => addNew u l) []
    fores.foldl reportImportable s

/-- Every present drive has been classified, so the window ends (17 R499). -/
def allClassified (s : State) : Bool :=
  let there := (List.range s.slots).filter fun x => (s.slot x).present
  !there.isEmpty && there.all fun x => decide ((s.slot x).cls ≠ .empty)

/-- In BOOT, before the window has closed. -/
def inWindow (s : State) : Bool := decide (s.mode.mode = .boot) && !s.mode.windowClosed

/-- End the window early (17 R499). -/
def windowEnd (s : State) : State := if inWindow s && allClassified s then closeWindow s else s

/-- BOOT_MEMBER_WINDOW_CLOSE (02 R57). -/
def execBootMemberWindowClose (s : State) : Host.Outcome State Fault Refusal :=
  if inWindow s then .next (noteAll s (closeWindow s)) else .next s

end Sys2Proof.Machine
end

