-- ==== Sys2Proof/Machine/Members.lean ====
section
/-!
DEFINITION. The member ports: bring-up, completions and timeouts, the member ladder, containment, presence, slot power, health and inbound
TLPs (12 R332 to R360; 13 R382, R383; 15 R448, R449; 16 R463).
-/

namespace Sys2Proof.Machine

/-! ## Fault injection on a member link (15 R448, R449) -/

/-- A packet on a member port: whether the armed descriptor takes it, and the count of what has passed. Stage 1 packets carry their match
code; every packet is eligible at stage 0. -/
def injectAt (x port dir kind : Nat) (s : State) : Option FinjDesc × State :=
  let f := s.guard.finj
  match f.armed with
  | none => (none, s)
  | some a =>
    if a.target = 1 ∧ a.slotLink = x ∧ a.portSub = port ∧ a.dir = dir ∧ (a.stage = 0 ∨ a.matchKind = kind) then
      if f.toPass ≠ 0 then (none, { s with guard := { s.guard with finj := { f with toPass := f.toPass - 1 } } })
      else
        let s := { s with guard := { s.guard with finj := { f with toPass := a.interval, done := f.done + 1 } } }
        let s := recordEvent 0xF011 [a.target, a.action, f.done + 1, 0] s
        (some a, if a.count ≤ f.done + 1 then disarmFinj 1 s else s)
    else (none, s)

/-- Payload that an injected CORRUPT of the transaction stage changes: one dword xored with the mask, when the payload reaches that far (15 R445,
R449). -/
def corruptPayload (fault : Option FinjDesc) (data : Bytes) : Bytes :=
  match fault with
  | some a => if a.stage = 1 ∧ a.action = 2 then xorBytes data ((zeros (4 * a.corruptDw) ++ leBytes 4 a.corruptMask.toNat).take data.length) else data
  | none => data

/-! ## Tags -/

/-- The tag of a command on a port. -/
def findTag (s : State) (x port tag : Nat) : Option MTag := (portOf (s.slot x) port).tags.find? fun t => decide (t.tag = tag)

/-- Change the tag of a command. -/
def updTagOf (x port tag : Nat) (f : MTag → MTag) (s : State) : State :=
  updPort x port (fun p => { p with tags := p.tags.map fun t => if t.tag = tag then f t else t }) s

/-- Free a tag. -/
def freeTag (x port tag : Nat) (s : State) : State :=
  updPort x port (fun p => { p with tags := p.tags.filter fun t => !decide (t.tag = tag) }) s

/-- Reissue a command with a new tag, through the other port when it is usable, else through the same. For a failed-pending drive a read is decoded, and
any other command waits (12 R347, R348, R357). -/
def reissue (x port : Nat) (t : MTag) (step : Nat) (errored : Bool) (s : State) : State :=
  if !slotReachable (s.slot x) then (if isReadWork t.work then s else holdCommand x t.opcode t.work t.len t.buf step errored s)
  else if portUsable s x (otherPort port) then issueAgain x (otherPort port) t.opcode t.work t.len t.buf step errored s
  else issueAgain x port t.opcode t.work t.len t.buf step errored s

/-- A read that can be decoded: with its chunk lost too, the hand lacks at most m chunks (12 R357). -/
def decodable (s : State) (t : MTag) : Bool :=
  match t.work with
  | .read id hd c _ =>
    match s.deck id with
    | some d =>
      let lost := missingOf d hd
      decide ((if lost.contains c then lost.length else lost.length + 1) ≤ d.label.shape.m)
    | none => false
  | _ => false

/-- Issue the waiting commands of a slot, oldest first: after a step has succeeded, or, as step 0, when a tag has become free. What finds no tag waits
again (12 R337, R357). -/
def wakeWrites (x step : Nat) (s : State) : State :=
  match if slotReachable (s.slot x) then servingPort (s.slot x) else none with
  | none => s
  | some port =>
    let ws := (s.slot x).portA.tags.filter fun t => decide (t.state = .waiting)
    let s := updPort x 0 (fun p => { p with tags := p.tags.filter fun t => !decide (t.state = .waiting) }) s
    ws.foldl (fun s t => issueAgain x port t.opcode t.work t.len t.buf (max t.step step) t.errored s) s

/-- The outstanding commands of a port that can no longer be used: their tags are quarantined, reads are reissued or decoded, and writes
reissued or left to wait (12 R348 steps 2 to 4). -/
def evacuate (x port : Nat) (s : State) : State :=
  let ts := (portOf (s.slot x) port).tags.filter fun t => decide (t.state = .outstanding)
  let s := updPort x port (fun p => { p with tags := p.tags.map fun t => if t.state = .outstanding then { t with state := .quarantined false } else t }) s
  ts.foldl (fun s t => reissue x port t (max t.step 1) t.errored s) s

/-- Free the quarantined and withheld tags of a port. -/
def freeHeld (x port : Nat) (s : State) : State :=
  updPort x port (fun p => { p with tags := p.tags.filter fun t => decide (t.state = .outstanding) || decide (t.state = .waiting) }) s

/-! ## The ladder (12 R357, R358) -/

/-- Charge and counter of a step. -/
def countStep (x n : Nat) (s : State) : State :=
  if n = 1 then updSlot x (fun v => { v with retries := v.retries + 1 }) s
  else if n = 2 then charge x 100 (updSlot x (fun v => { v with ctrlResets := v.ctrlResets + 1 }) s)
  else if n = 3 then charge x 150 (updSlot x (fun v => { v with busResets := v.busResets + 1 }) s)
  else charge x 300 (updSlot x (fun v => { v with powerCycles := v.powerCycles + 1 }) s)

/-- A port goes out of use for a step. -/
def stopPort (n : Nat) (p : MPort) : MPort := { p with ladder := n, usable := false, timeoutAt := [], l12 := false }

/-- Begin step 2 or 3 on a port. -/
def beginStep (x port n : Nat) (s : State) : State :=
  let s := countStep x n (recordEvent 0x5030 [x, port, n, 0] s)
  judgePorts x (evacuate x port (updPort x port (stopPort n) s))

/-- Begin step 4 on a slot: PERST# low, power off, both ports out of use; the member becomes failed-pending (12 R356, R358). -/
def beginCycle (x port : Nat) (s : State) : State :=
  let s := countStep x 4 (recordEvent 0x5030 [x, port, 4, 0] s)
  let s := updSlot x (fun v => { v with portA := stopPort 4 v.portA, portB := stopPort 4 v.portB, perst := true, power := false }) s
  enterPending x (evacuate x 1 (evacuate x 0 (recordEvent 0x5040 [x, 0, 0, 0] s)))

/-- An added drive of a redeal has failed: the redeal is abandoned with reason 0x03 (11 R328). -/
def dropAdded (x : Nat) (s : State) : State :=
  (s.decks.decks.filter fun d => match d.2.label.redeal with | some r => r.addSlots.contains x | none => false).foldl
    (fun s d => abandonRedeal d.1 3 id s) s

/-- A port on which step 3 has failed ends a release of containment (12 R349). It is marked, and step 4 follows for a member whose other port is not usable either; a drive that is no
member is UNUSABLE (12 R352, R357, R358). -/
def failPort (x port : Nat) (s : State) : State :=
  let dpc := decide ((portOf (s.slot x) port).dpcCause ≠ 0)
  let s := updPort x port (fun p => { p with failed := true, ladder := 0, dpcCause := 0, contained := false }) s
  let s := if dpc then recordEvent 0x5006 [x, port, 0, 0] s else s
  let v := s.slot x
  if v.cls = .member then (if portUsable s x (otherPort port) then s else beginCycle x port s)
  else if v.present ∧ v.cls ≠ .unusable then dropAdded x (setClass x .unusable none s)
  else s

/-- Take a port to a ladder step, unless it is at that step or a later one, contained or failed. -/
def takeStep (x port n : Nat) (s : State) : State :=
  let p := portOf (s.slot x) port
  if !((s.slot x).present && (s.slot x).power) || p.contained || p.failed || decide (n ≤ p.ladder) then s
  else if n ≤ 3 then beginStep x port n s
  else failPort x port s

/-- The step in progress on a port has failed (12 R357). The failure of step 4 declares the member failed (12 R347). -/
def failStep (x port : Nat) (s : State) : State :=
  let n := (portOf (s.slot x) port).ladder
  if n = 2 then beginStep x port 3 s
  else if n = 3 then failPort x port s
  else if n = 4 then
    failSlot x (updSlot x (fun v => { v with
      portA := { v.portA with ladder := 0, failed := true }, portB := { v.portB with ladder := 0, failed := true } }) s)
  else s

/-- What the ports of a drive that have been brought up report is that of one usable drive (12 R335, R336 step 6). -/
def portsAgree (v : Slot) : Bool :=
  match v.portA.ident, v.portB.ident with
  | some a, some b => decide (a = b) && v.portA.fit && v.portB.fit
  | some _, none => v.portA.fit
  | none, some _ => v.portB.fit
  | none, none => true

/-- The member's identity has been read on the port, and agrees with the slot's drive. -/
def portKnown (v : Slot) (p : MPort) : Bool :=
  match p.ident, v.info with
  | some i, some f => decide (i = f.nguid) && driveUsable f && portsAgree v
  | _, _ => false

/-- A member whose label copies are older than the deck's is brought up to date (07 R224); QUARANTINE writes no label. -/
def refreshLabel (x : Nat) (s : State) : State :=
  let v := s.slot x
  match v.deckId, v.index with
  | some id, some mem =>
    match s.deck id with
    | none => s
    | some d =>
      match memberOf d mem with
      | none => s
      | some e =>
        if v.cls = .member ∧ s.mode.mode ≠ .quarantine ∧ v.native.map (fun n => n.label) ≠ some d.label then
          [0, 2, 1, 3].foldl (fun s copy => writeLabelTo d.label copy mem e s) s
        else s
  | _, _ => s

/-- What waited for members of a deck to be reachable: erasure and deallocation, and headers of rings that are no keeper's any more (05 R157, R158;
09 R266). -/
def settleMember (id : Nat) (s : State) : State := payHeaders id (payDue id s)

/-- The drive of a member may be reachable again: it leaves failed-pending, its labels are brought up to date, and the writes that
waited for it are sent (12 R347, R354). -/
def resumeReach (x : Nat) (s : State) : State :=
  let s := judgePorts x s
  if isPending (s.slot x) then s
  else
    let s := refreshLabel x s
    sendWaiting x (if s.serving then settleMember ((s.slot x).deckId.getD 0xFF) s else s)

/-- A port may be used: its region is not fenced (01 R31). -/
def portLit (s : State) (x port : Nat) : Bool := !s.cache.fenced.contains (portRegion s.slots x port)

/-- Queue creation for a port (12 R336 step 5, R337): the completion queues, then the submission queues, of 128 entries each; completion queue q
has vector q. The command encodings are NVMe's (PRESUMED, log 139). -/
def queueTraffic (x port qpp : Nat) : List Out :=
  ((List.range qpp).map fun q => .memberAdmin x port 0x05 (q + 1 + 127 * 65536) (3 + (q + 1) * 65536)) ++
    (List.range qpp).map fun q => .memberAdmin x port 0x01 (q + 1 + 127 * 65536) (1 + (q + 1) * 65536)

/-- What a region sends to a port while it brings it up: steps 3 to 6 of R336, and steps 1 and 2 before them when the link was brought up too. The
encodings are NVMe's (PRESUMED, log 139). -/
def bringUpTraffic (p x port : Nat) (link : Bool) (info : DriveInfo) : List Out :=
  let base := queueBase + rootPort p x port * 65536
  let qpp := qppOf p
  let admin := fun (op a b : Nat) => Out.memberAdmin x port op a b
  (if link then
    [.memberTrain x port (portRegion p x port) (rootPort p x port) (firstLane p x port) (64 / p) (Config.memberBar x port),
     .memberSetup x port (min 512 info.mps) 512] ++
      (List.range (qpp + 1)).map fun v => .memberMsix x port v (msiBase + 64 * rootPort p x port + 4 * v)
   else []) ++
  [.memberReg x port 0x14 0, .memberReg x port 0x24 (15 + 15 * 65536), .memberReg x port 0x28 base, .memberReg x port 0x30 (base + 4096),
   .memberReg x port 0x14 0x00460001,
   admin 0x06 1 0, admin 0x06 0 0, admin 0x06 3 0, admin 0x02 (3 + 127 * 65536) 0,
   admin 0x09 0x07 (qpp - 1 + (qpp - 1) * 65536)] ++ queueTraffic x port qpp ++
  [admin 0x09 0x0B 0xFF, admin 0x0C 0 0, admin 0x0C 0 0, admin 0x0C 0 0, admin 0x0C 0 0, admin 0x09 0x0E 0]

/-- Bring up a port whose drive is known (12 R336). -/
def initPort (x port : Nat) (link : Bool) (s : State) : State :=
  match (s.slot x).info with
  | some info => (bringUpTraffic s.slots x port link info).foldl (fun s o => emit o s) s
  | none => s

/-- A step has succeeded on a port: event 0x5031, its tags are freed, and the port is usable once its identity is known; a release of
containment ends with event 0x5006 (12 R349, R357). -/
def passStep (x port : Nat) (s : State) : State :=
  let n := (portOf (s.slot x) port).ladder
  let dpc := decide ((portOf (s.slot x) port).dpcCause ≠ 0)
  let s := recordEvent 0x5031 [x, port, n, 0] (freeHeld x port (initPort x port (decide (2 < n)) s))
  let s := updPort x port (fun p => { p with
    ladder := 0, failed := false, contained := false, dpcCause := 0, vectors := [], usable := portLit s x port && portKnown (s.slot x) p }) s
  let s := if dpc then recordEvent 0x5006 [x, port, 0, 0] s else s
  resumeReach x (wakeWrites x n (judgePorts x s))

/-- A command has failed after it was reissued: its port goes to the next step, and the command, unless it is a read that can be decoded, waits for the
end of that step (12 R357). -/
def nextStep (x port : Nat) (t : MTag) (s : State) : State :=
  let s := takeStep x port (t.step + 1) s
  if decodable s t then s else holdCommand x t.opcode t.work t.len t.buf (t.step + 1) false s

/-- Step 1 for a command: a read that can be decoded is served from parity, any other command is reissued once (12 R357). -/
def retryCommand (x port : Nat) (t : MTag) (errored : Bool) (s : State) : State :=
  let s := countStep x 1 (recordEvent 0x5030 [x, port, 1, 0] s)
  if decodable s t then recordEvent 0x5031 [x, port, 1, 0] s else reissue x port t 1 errored s

/-! ## Completions and timeouts (12 R343 to R346) -/

/-- A write has completed with an error both when issued and when reissued: the member is declared failed, or becomes failed-pending and the write
waits (12 R347, R357); an added drive of a redeal fails (11 R328). -/
def writeFails (x : Nat) (t : MTag) (s : State) : State :=
  if isAdded s x then dropAdded x (setClass x .unusable none s)
  else if slotMayFail s x then failSlot x s else holdCommand x t.opcode t.work t.len t.buf t.step true (enterPending x s)

/-- The blocks of a read that came with poison are lost (12 R341). -/
def loseBlocks (t : MTag) (s : State) : State :=
  match t.work with
  | .read id hd c row => updDeck id (fun d => { d with lostReads := d.lostReads ++ t.lost.map fun b => (hd, row + b, c) }) s
  | _ => s

/-- The journal writes of a deck have moved on: updates that waited for their RECON record begin (09 R265 step 3), and a controller that waited for TRIM
records becomes ready (04 R136). -/
def settleRing (t : MTag) (s : State) : State :=
  match t.work with
  | .ring id _ _ =>
    let s := settleStarts id s
    if s.ready then setReady s else s
  | _ => s

/-- I/O queue of a tag on its port (12 R338). -/
def tagQueue (s : State) (x port tag : Nat) : Nat := (tag - tagBase s.slots x port) / 128

/-- MEMBER_COMPLETION (12 R344, R357, R359). An injected DROP loses the completion (15 R449). After a Flush that failed and may not be sent again, the
member has writes that are not durable (09 R253). -/
def execMemberCompletion (cpl : MemberCpl) (s : State) : Host.Outcome State Fault Refusal :=
  match findTag s cpl.slot cpl.port cpl.tag with
  | none => .next s
  | some t =>
    if t.state ≠ .outstanding then .next s
    else
      let (inj, s1) := injectAt cpl.slot cpl.port 0 1 s
      let dropped := match inj with | some a => decide (a.stage = 1) && decide (a.action = 1) | none => false
      if dropped then .next s1
      else
        let v := tagQueue s cpl.slot cpl.port cpl.tag + 1
        let s1 := updPort cpl.slot cpl.port (fun p => { p with vectors := p.vectors.filter fun u => !decide (u = v) }) s1
        let s2 := wakeWrites cpl.slot 0 (freeTag cpl.slot cpl.port cpl.tag s1)
        if cpl.status = 0 then
          let s3 := settleRing t (loseBlocks t s2)
          .next (noteAll s (if t.step = 1 then recordEvent 0x5031 [cpl.slot, cpl.port, 1, 0] s3 else s3))
        else
          let s3 := if cpl.mediaError && decide (t.opcode = 0x02) then chargeMedia cpl.slot s2 else s2
          let s4 :=
            if t.step = 0 then
              (if !cpl.dnr || decide (t.opcode = 0x01) then retryCommand cpl.slot cpl.port t true s3
               else if t.work = .flush then updSlot cpl.slot (fun v => { v with unflushed := true }) s3
               else s3)
            else if decide (t.opcode = 0x01) && decide (t.step = 1) && t.errored then writeFails cpl.slot t s3
            else nextStep cpl.slot cpl.port t s3
          .next (noteAll s (settleAll s4))

/-- Note an I/O timeout on a port: two within one second take it to step 2 (12 R357). -/
def noteTimeout (x port : Nat) (s : State) : State :=
  let now := s.now
  let s := updPort x port (fun p => { p with timeoutAt := now :: p.timeoutAt.filter fun t => decide (now < t + 1000000000) }) s
  if 2 ≤ (portOf (s.slot x) port).timeoutAt.length then takeStep x port 2 s else s

/-- A keeper whose journal write has not completed in time is dropped (09 R268). -/
def lateRing (t : MTag) (s : State) : State := match t.work with | .ring id mem _ => settleRing t (dropKeeper id mem s) | _ => s

/-- What memberCommandTimeout does once it is handled. -/
def handleMemberCommandTimeout (slot port tag : Nat) (s : State) : State :=
  match findTag s slot port tag with
  | none => s
  | some t =>
    if t.state = .waiting then
      let ts := (portOf (s.slot slot) port).tags.filter fun t => decide (t.state = .waiting)
      (noteAll s (settleAll (ts.foldl (fun s t => lateRing t s) s)))
    else if t.state ≠ .outstanding then s
    else
      let s1 := updTagOf slot port tag (fun t => { t with state := .quarantined false }) s
      let s1 := emit (.memberCmd slot port 0x08 tag) (updSlot slot (fun v => { v with timeouts := v.timeouts + 1 }) s1)
      let s1 := charge slot 40 (recordEvent 0x5010 [slot, port, tag, t.opcode] s1)
      let s2 := lateRing t s1
      let s3 := if t.step = 0 then retryCommand slot port t false s2 else nextStep slot port t s2
      (noteAll s (settleAll (noteTimeout slot port s3)))

/-- MEMBER_COMMAND_TIMEOUT (12 R344): quarantine, Abort, event 0x5010, and ladder step 1 or the step after the command's last one. A
keeper whose journal write timed out is dropped (09 R268); a journal write that waits for a port or a tag is named by the number that stands for
no tag, on port 0 (DESIGN CHOICE, log 151). -/
def execMemberCommandTimeout (slot port tag : Nat) (s : State) : Host.Outcome State Fault Refusal :=
  .next (if switching s then deferEvent (.memberCommandTimeout slot port tag) s else handleMemberCommandTimeout slot port tag s)

/-- What memberAdminTimeout does once it is handled. -/
def handleMemberAdminTimeout (slot port : Nat) (s : State) : State :=
  (noteAll s (settleAll (takeStep slot port 2 s)))

/-- MEMBER_ADMIN_TIMEOUT (12 R343, R357): ladder step 2. -/
def execMemberAdminTimeout (slot port : Nat) (s : State) : Host.Outcome State Fault Refusal :=
  .next (if switching s then deferEvent (.memberAdminTimeout slot port) s else handleMemberAdminTimeout slot port s)

/-- What memberPcieCompletionTimeout does once it is handled. -/
def handleMemberPcieCompletionTimeout (slot port : Nat) (s : State) : State :=
  (noteAll s (settleAll (takeStep slot port 3 s)))

/-- MEMBER_PCIE_COMPLETION_TIMEOUT (12 R343, R357): ladder step 3. -/
def execMemberPcieCompletionTimeout (slot port : Nat) (s : State) : Host.Outcome State Fault Refusal :=
  .next (if switching s then deferEvent (.memberPcieCompletionTimeout slot port) s else handleMemberPcieCompletionTimeout slot port s)

/-- LATE_COMPLETION (12 R345): discarded; the tag will be free when its quarantine ends. -/
def execLateCompletion (slot port tag : Nat) (s : State) : Host.Outcome State Fault Refusal :=
  match findTag s slot port tag with
  | none => .next s
  | some t =>
    if t.state ≠ .quarantined false then .next s
    else
      let s1 := updTagOf slot port tag (fun t => { t with state := .quarantined true }) s
      let s1 := recordEvent 0x5011 [slot, port, tag, 0] (updSlot slot (fun v => { v with late := v.late + 1 }) s1)
      .next (noteAll s (settleAll (charge slot 20 s1)))

/-- Tags of a port that are withheld. -/
def withheldOn (s : State) (x port : Nat) : Nat := ((portOf (s.slot x) port).tags.filter fun t => decide (t.state = .withheld)).length

/-- TAG_QUARANTINE_END (12 R345, R357): the tag is free, or withheld; eight withheld tags take the port to step 2. -/
def execTagQuarantineEnd (slot port tag : Nat) (s : State) : Host.Outcome State Fault Refusal :=
  match findTag s slot port tag with
  | none => .next s
  | some t =>
    match t.state with
    | .quarantined true => .next (wakeWrites slot 0 (freeTag slot port tag s))
    | .quarantined false =>
      let s1 := recordEvent 0x5012 [slot, port, tag, 0] (updTagOf slot port tag (fun t => { t with state := .withheld }) s)
      .next (noteAll s (settleAll (if 8 ≤ withheldOn s1 slot port then takeStep slot port 2 s1 else s1)))
    | .outstanding | .withheld | .waiting => .next s

/-- What withheldTagTimeout does once it is handled. -/
def handleWithheldTagTimeout (slot port : Nat) (s : State) : State :=
  if withheldOn s slot port = 0 then s else (noteAll s (settleAll (takeStep slot port 2 s)))

/-- WITHHELD_TAG_TIMEOUT (12 R357): a tag withheld for more than 1 s takes the port to step 2. -/
def execWithheldTagTimeout (slot port : Nat) (s : State) : Host.Outcome State Fault Refusal :=
  .next (if switching s then deferEvent (.withheldTagTimeout slot port) s else handleWithheldTagTimeout slot port s)

/-- The end of a step that a command reports. -/
def endStep (x port n : Nat) (ok : Bool) (s : State) : State :=
  if (portOf (s.slot x) port).ladder ≠ n then s
  else noteAll s (settleAll (if ok then passStep x port s else failStep x port s))

/-- MEMBER_CONTROLLER_RESET (12 R357): the end of step 2. -/
def execMemberControllerReset (slot port : Nat) (ok : Bool) (s : State) : Host.Outcome State Fault Refusal := .next (endStep slot port 2 ok s)

/-- SECONDARY_BUS_RESET (12 R357): the end of step 3. -/
def execSecondaryBusReset (slot port : Nat) (ok : Bool) (s : State) : Host.Outcome State Fault Refusal := .next (endStep slot port 3 ok s)

/-- SLOT_POWER_CYCLE (12 R356, R357): the end of step 4, with slot power on again and PERST# high. -/
def execSlotPowerCycle (slot : Nat) (ok : Bool) (s : State) : Host.Outcome State Fault Refusal :=
  if (s.slot slot).portA.ladder ≠ 4 then .next s
  else
    let s1 := recordEvent 0x5040 [slot, 1, 0, 0] (updSlot slot (fun v => { v with power := true, perst := false }) s)
    if ok then .next (noteAll s (settleAll (passStep slot 1 (passStep slot 0 s1))))
    else .next (noteAll s (settleAll (failStep slot 0 s1)))

/-- What ladderStepBoundExpiry does once it is handled. -/
def handleLadderStepBoundExpiry (slot port : Nat) (s : State) : State :=
  if (portOf (s.slot slot) port).ladder = 0 then s else (noteAll s (settleAll (failStep slot port s)))

/-- LADDER_STEP_BOUND_EXPIRY (12 R357): the step in progress has not succeeded within its bound. -/
def execLadderStepBoundExpiry (slot port : Nat) (s : State) : Host.Outcome State Fault Refusal :=
  .next (if switching s then deferEvent (.ladderStepBoundExpiry slot port) s else handleLadderStepBoundExpiry slot port s)

/-- FAILED_PORT_RETRY (12 R358): step 3 is tried again on a failed port. -/
def execFailedPortRetry (slot port : Nat) (s : State) : Host.Outcome State Fault Refusal :=
  let v := s.slot slot
  if (portOf v port).failed && decide ((portOf v port).ladder = 0) && v.present && v.power then
    .next (noteAll s (settleAll (beginStep slot port 3 s)))
  else .next s

/-! ## Containment (12 R348, R349) -/

/-- What dpcTrigger does once it is handled. -/
def handleDpcTrigger (slot port cause : Nat) (s : State) : State :=
  let v := s.slot slot
  if !(v.present && v.power) || (portOf v port).contained then s
  else
    let s1 := recordEvent 0x5005 [slot, port, cause, 0] (updSlot slot (fun v => { v with contain := v.contain + 1 }) s)
    let s1 := updPort slot port (fun p => { stopPort 0 p with contained := true, dpcCause := cause }) s1
    let s2 := judgePorts slot (evacuate slot port s1)
    let src := 32 * (portRegion s.slots slot port + 1) + 0x11
    (noteAll s (if portUsable s2 slot (otherPort port) then takeover src 1 60 0x5005 s2 else s2))

/-- DPC_TRIGGER: with the other port usable, it takes over (17 R491). -/
def execDpcTrigger (slot port cause : Nat) (s : State) : Host.Outcome State Fault Refusal :=
  .next (if switching s then deferEvent (.dpcTrigger slot port cause) s else handleDpcTrigger slot port cause s)

/-- What containmentRelease does once it is handled. -/
def handleContainmentRelease (slot port : Nat) (s : State) : State :=
  let v := s.slot slot
  if !(portOf v port).contained then s
  else if v.present then
    let s1 := charge slot 150 (updPort slot port (fun p => { p with contained := false }) s)
    (noteAll s (settleAll (beginStep slot port 3 s1)))
  else
    let s1 := updPort slot port (fun p => { p with contained := false, dpcCause := 0 }) (freeHeld slot port s)
    (noteAll s (recordEvent 0x5006 [slot, port, 1, 0] s1))

/-- CONTAINMENT_RELEASE: with the drive present the health is charged and step 3 follows; after a removal the tags are freed. -/
def execContainmentRelease (slot port : Nat) (s : State) : Host.Outcome State Fault Refusal :=
  .next (if switching s then deferEvent (.containmentRelease slot port) s else handleContainmentRelease slot port s)

/-! ## Presence and slot power (12 R350, R351, R352, R356; 02 R56) -/

/-- Slot power off, with PERST# low before it (12 R356). The commands outstanding there are lost; writes to a member wait. -/
def powerOff (x : Nat) (s : State) : State :=
  let down := fun (p : MPort) => { p with speed := 0, width := 0, usable := false, ident := none, ladder := 0, failed := false,
                                          reduced := false, timeoutAt := [], lateTried := false, l12 := false, fit := true, queue := [], vectors := [] }
  let s := updSlot x (fun v => { v with portA := down v.portA, portB := down v.portB, perst := true }) s
  let s := evacuate x 1 (evacuate x 0 s)
  let s := [0, 1].foldl (fun s port => if (portOf (s.slot x) port).contained then s else freeHeld x port s) s
  if (s.slot x).power then recordEvent 0x5040 [x, 0, 0, 0] (updSlot x (fun v => { v with power := false }) s) else s

/-- The presence inputs are read: by the home regions, and by the sentinel in STANDBY (12 R350); in SHIP nothing reads them (19 R519). -/
def presenceRead (s : State) : Bool := s.hubPowered || (decide (s.mode.mode ≠ .ship) && !s.power.sentinelOff)

/-- A change of presence is acted on; in STANDBY and in HOLDUP it waits for the next BOOT (19 R519). -/
def presenceActs (s : State) : Bool := s.hubPowered && decide (s.mode.mode ≠ .holdup)

/-- What prsntRemoval does once it is handled. -/
def handlePrsntRemoval (slot : Nat) (s : State) : State :=
  let v := s.slot slot
  if !(v.present && presenceRead s) then s
  else if !presenceActs s then (updSlot slot (fun v => { v with present := false }) s)
  else
    let s1 := recordEvent 0x5002 [slot, 0, 0, 0] (updSlot slot (fun v => { v with present := false, removed := true }) s)
    let s1 := { s1 with members := { s1.members with powerQueue := s1.members.powerQueue.filter fun x => !decide (x = slot) } }
    let s2 := powerOff slot (enterPending slot s1)
    let s3 := if v.cls = .member then s2
      else updSlot slot (fun v => { v with cls := .empty, deckId := none, index := none, info := none, native := none, fore := none, removed := false }) s2
    (noteAll s (dropAdded slot s3))

/-- PRSNT_REMOVAL (12 R351): event 0x5002, failed-pending for a member, power off. An added drive of a redeal fails (11 R328). -/
def execPrsntRemoval (slot : Nat) (s : State) : Host.Outcome State Fault Refusal :=
  .next (if switching s then deferEvent (.prsntRemoval slot) s else handlePrsntRemoval slot s)

/-- Ask for slot power (12 R356). -/
def askPower (x : Nat) (s : State) : State :=
  if (s.slot x).power || s.members.powerQueue.contains x then s
  else { s with members := { s.members with powerQueue := s.members.powerQueue ++ [x] } }

/-- What prsntInsertion does once it is handled. -/
def handlePrsntInsertion (slot : Nat) (s : State) : State :=
  if (s.slot slot).present || !presenceRead s || decide (s.slots ≤ slot) then s
  else if !presenceActs s then (updSlot slot (fun v => { v with present := true }) s)
  else
    let s1 := updSlot slot (fun v => { v with present := true, health := 1000, failDue := false }) s
    (noteAll s (askPower slot (recordEvent 0x5001 [slot, 0, 0, 0] s1)))

/-- PRSNT_INSERTION (12 R351, R359). -/
def execPrsntInsertion (slot : Nat) (s : State) : Host.Outcome State Fault Refusal :=
  .next (if switching s then deferEvent (.prsntInsertion slot) s else handlePrsntInsertion slot s)

/-- SLOT_POWER_ON (12 R356): the first request of the queue is served, and the ONLINE command that made it completes. -/
def execSlotPowerOn (s : State) : Host.Outcome State Fault Refusal :=
  match s.members.powerQueue with
  | [] => .next s
  | x :: rest =>
    if !(s.hubPowered && decide (s.mode.mode ≠ .holdup)) then .next s
    else
      let refs := (s.members.onlineRefs.filter fun p => decide (p.1 = x)).map (·.2)
      let s1 := { s with members := { s.members with
        powerQueue := rest, onlineRefs := s.members.onlineRefs.filter fun p => !decide (p.1 = x) } }
      let s2 := if (s1.slot x).present then recordEvent 0x5040 [x, 1, 0, 0] (updSlot x (fun v => { v with power := true, perst := true }) s1) else s1
      .next (noteAll s (refs.foldl (fun s r => commitCmd r 0 0 s) s2))

/-- STAGGER_GROUP_ENABLE (02 R56): the group's slot power enables rise together; a BOOT that finds slot power on leaves it. -/
def execStaggerGroupEnable (group : Nat) (s : State) : Host.Outcome State Fault Refusal :=
  if s.mode.mode ≠ .boot ∨ 8 ≤ group then .next s
  else
    let xs := (List.range s.slots).filter fun x => decide (x % 8 = group) && !(s.slot x).power
    .next (noteAll s (xs.foldl (fun s x => recordEvent 0x5040 [x, 1, 0, 0] (updSlot x (fun v => { v with power := true, perst := true }) s)) s))

/-- MEMBER_PERST_DEASSERT (12 R352). -/
def execMemberPerstDeassert (slot : Nat) (s : State) : Host.Outcome State Fault Refusal :=
  if (s.slot slot).power && s.hubPowered && decide (s.mode.mode ≠ .holdup) then .next (updSlot slot (fun v => { v with perst := false }) s)
  else .next s

/-- What memberPortReadyTimeout does once it is handled. -/
def handleMemberPortReadyTimeout (slot port : Nat) (s : State) : State :=
  let v := s.slot slot
  let p := portOf v port
  if decide (s.mode.mode = .boot) || !(v.present && v.power && !v.perst) || p.ident.isSome || p.lateTried || decide (p.ladder ≠ 0) then s
  else (noteAll s (settleAll (beginStep slot port 3 (updPort slot port (fun p => { p with lateTried := true }) s))))

/-- MEMBER_PORT_READY_TIMEOUT (12 R352): outside BOOT, step 3 is taken once on a port that is late. -/
def execMemberPortReadyTimeout (slot port : Nat) (s : State) : Host.Outcome State Fault Refusal :=
  .next (if switching s then deferEvent (.memberPortReadyTimeout slot port) s else handleMemberPortReadyTimeout slot port s)

/-! ## Bring-up (12 R334 to R336, R353, R354; 16 R463) -/

/-- Make or renew the member record of a drive (16 R463): event 0x9041 when its SPDM verification failed. -/
def measureDrive (x : Nat) (info : DriveInfo) (s : State) : State :=
  let r : MemberRec :=
    { slot := x, cls := classCode (s.slot x).cls, spdm := info.spdm, late := decide (s.mode.mode ≠ .boot), afi := info.afi, fr := info.fwRev,
      nguid := info.nguid, measure := info.meas }
  let s := match info.spdmError with | some e => recordEvent 0x9041 [x, e, 0, 0] s | none => s
  let rest := s.trust.measured.filter fun m => !decide (m.slot = x)
  let lo := rest.filter fun m => decide (m.slot < x)
  let hi := rest.filter fun m => decide (x < m.slot)
  { s with trust := { s.trust with measured := lo ++ r :: hi } }

/-- The class of the drive in a slot is in its member record too. -/
def recordClass (x : Nat) (s : State) : State :=
  { s with trust := { s.trust with measured := s.trust.measured.map fun m => if m.slot = x then { m with cls := classCode (s.slot x).cls } else m } }

/-- The slot still holds a failed-pending member, and the drive in it is another (12 R347). -/
def strangerIn (s : State) (x : Nat) : Bool :=
  let v := s.slot x
  decide (v.cls = .member) && isPending v &&
    (match v.deckId, v.index, v.info with
     | some id, some mem, some f => decide ((((s.deck id).bind fun d => memberOf d mem).map (·.nguid)) ≠ some f.nguid)
     | _, _, _ => false)

/-- Classify a drive whose ports are up (12 R353, R354). In the boot member window a drive with a native label waits for the assembly. -/
def classify (x : Nat) (s : State) : State :=
  let v := s.slot x
  if inWindow s && v.native.isSome then windowEnd (s.setSlot x { v with cls := .foreign, deckId := none, index := none })
  else
    let c := labelClass s x
    let s := recordClass x (setClass x c.1 c.2 s)
    if inWindow s then windowEnd s
    else if c.1 = .returning then recordClass x (returnDrive x s)
    else s

/-- Both ports of a drive have been brought up: it is classified, resumes as the member it was, or stays aside while the slot's member is
failed-pending. A drive whose ports do not agree is UNUSABLE; a member that turns out so is written no more, is failed-pending, and takes that class
once it is declared failed (DEDUCED, log 152). -/
def settlePorts (x : Nat) (s : State) : State :=
  let v := s.slot x
  match v.info with
  | none => s
  | some f =>
    if v.portA.ident.isNone || v.portB.ident.isNone then s
    else if strangerIn s x then updSlot x (fun v => { v with portA := { v.portA with usable := false }, portB := { v.portB with usable := false } }) s
    else if v.cls = .member then
      (if portsAgree v then s
       else judgePorts x (updSlot x (fun v => { v with portA := { v.portA with usable := false }, portB := { v.portB with usable := false } }) s))
    else if !(driveUsable f && portsAgree v) then windowEnd (dropAdded x (setClass x .unusable none s))
    else classify x s

/-- Steps 1 to 7 of R336 on a port: what the port and the drive have shown, and the reads of the drive's labels. -/
def learnDrive (x port speed width : Nat) (info : DriveInfo) (s : State) : State :=
  let low := decide (speed < 64) || decide (width < min (64 / s.slots) info.maxWidth)
  let s1 := if low then recordEvent 0x5004 [x, port, speed, width] s else s
  let s1 := updSlot x (fun v => { v with info := some info, native := nativeOf info, fore := foreOf info }) s1
  let s1 := if (portOf (s.slot x) port).ladder = 0 then initPort x port true s1 else s1
  let s1 := [0, 1, 2, 3].foldl (fun s copy => emit (.memberRead x (labelOffset copy (slotCap s x)) 4096) s) s1
  updPort x port (fun p => { p with
    speed := speed, width := width, reduced := low, ident := some info.nguid, fit := driveUsable info, failed := false, l12ok := info.l12ok, lateTried := false
    usable := driveUsable info && decide (p.ladder = 0) }) s1

/-- A member that has come back is reachable again; its removal is forgotten once it is failed-pending no more (12 R347, R354). -/
def rejoin (x : Nat) (s : State) : State :=
  if (s.slot x).cls = .member then
    let woken := resumeReach x (wakeWrites x 1 s)
    if isPending (woken.slot x) then woken else updSlot x (fun v => { v with removed := false }) woken
  else s

/-- What memberPortBringup does once it is handled. -/
def handleMemberPortBringup (slot port : Nat) (speed width : Nat) (info : DriveInfo) (s : State) : State :=
  let v := s.slot slot
  if !(v.present && v.power && !v.perst && s.hubPowered && decide (s.mode.mode ≠ .holdup)) || (portOf v port).usable ||
      (portOf v port).contained || s.cache.fenced.contains (portRegion s.slots slot port) then s
  else
    let s1 := measureDrive slot info (learnDrive slot port speed width info s)
    let s2 := if strangerIn s1 slot then updPort slot port (fun p => { p with usable := false }) s1 else s1
    let s3 := if (portOf (s2.slot slot) port).ladder ≠ 0 then passStep slot port s2 else s2
    noteAll s (settleAll (rejoin slot (settlePorts slot s3)))

/-- MEMBER_PORT_BRINGUP (12 R336): the port is brought up and its labels are read; a port below 64 GT/s or full width records event 0x5004. -/
def execMemberPortBringup (slot port : Nat) (speed width : Nat) (info : DriveInfo) (s : State) : Host.Outcome State Fault Refusal :=
  .next (if switching s then deferEvent (.memberPortBringup slot port speed width info) s else handleMemberPortBringup slot port speed width info s)

/-- What failedPendingTimeout does once it is handled. -/
def handleFailedPendingTimeout (slot : Nat) (final : Bool) (s : State) : State :=
  let v := s.slot slot
  if !isPending v then s
  else if (final && v.removed) || slotMayFail s slot then
    let stranger := strangerIn s slot
    let s1 := failSlot slot s
    let s2 := updSlot slot (fun v => { v with removed := false }) s1
    let s3 := if stranger then
        let s2 := updSlot slot (fun v => { v with
          portA := { v.portA with usable := portLit s2 slot 0 && portKnown v v.portA }
          portB := { v.portB with usable := portLit s2 slot 1 && portKnown v v.portB } }) s2
        settlePorts slot s2
      else if portsAgree (s2.slot slot) then s2
      else settlePorts slot s2
    (noteAll s s3)
  else s

/-- FAILED_PENDING_TIMEOUT (12 R347, R535): after 2 s when R535 allows, and in any case 120 s after a removal. A drive that has waited in
the slot is then classified. -/
def execFailedPendingTimeout (slot : Nat) (final : Bool) (s : State) : Host.Outcome State Fault Refusal :=
  .next (if switching s then deferEvent (.failedPendingTimeout slot final) s else handleFailedPendingTimeout slot final s)

/-! ## Health, asynchronous events and idle ports (12 R359, R360; 13 R382, R383) -/

/-- HEALTH_RECOVERY_TICK (12 R359): a full minute without a new charge. -/
def execHealthRecoveryTick (slot : Nat) (s : State) : Host.Outcome State Fault Refusal :=
  let v := s.slot slot
  if v.present && decide (v.health < 1000) then .next (s.setSlot slot { v with health := v.health + 1, failDue := v.failDue && decide (v.health < 250) })
  else .next s

/-- A member reports media read-only (12 R360). -/
def mediaReadOnly (x : Nat) (s : State) : State :=
  if (s.slot x).cls ≠ .member then s
  else if slotMayFail s x then failSlot x s
  else judgePorts x (updSlot x (fun v => { v with readOnly := true }) s)

/-- What memberAsyncEvent does once it is handled. -/
def handleMemberAsyncEvent (slot : Nat) (critWarn : BitVec 8) (fwChange : Option Nat) (temp : Nat) (s : State) : State :=
  let v := s.slot slot
  if !(v.present && (portServes v.portA || portServes v.portB)) then s
  else
    let fresh := (List.range 8).filter fun i => critWarn.getLsbD i && !v.critWarn.getLsbD i
    let s1 := s.setSlot slot { v with critWarn := critWarn, temp := temp }
    let s2 := fresh.foldl (fun s _ => charge slot 300 s) s1
    let s3 := match fwChange, v.info with
      | some m, some f => measureDrive slot { f with meas := m } (updSlot slot (fun v => { v with info := some { f with meas := m } }) s2)
      | _, _ => s2
    let s4 := if critWarn.getLsbD 3 then mediaReadOnly slot s3 else s3
    (noteAll s (settleAll s4))

/-- MEMBER_ASYNC_EVENT (12 R359, R360; 16 R463). -/
def execMemberAsyncEvent (slot : Nat) (critWarn : BitVec 8) (fwChange : Option Nat) (temp : Nat) (s : State) : Host.Outcome State Fault Refusal :=
  .next (if switching s then deferEvent (.memberAsyncEvent slot critWarn fwChange temp) s else handleMemberAsyncEvent slot critWarn fwChange temp s)

/-- MEMBER_PORT_L12_ENTRY (13 R382 to R384): a port with nothing outstanding or queued enters L1.2. -/
def execMemberPortL12Entry (slot port : Nat) (s : State) : Host.Outcome State Fault Refusal :=
  let p := portOf (s.slot slot) port
  let timer := decide (s.feats.linkL12Us ≠ 0) || decide (3 ≤ s.mode.ps)
  if mayL12 s slot p && timer then
    .next (updPort slot port (fun p => { p with l12 := true })
      { s with sched := { s.sched with l12Entries := s.sched.l12Entries + 1 } })
  else .next s

/-! ## Inbound TLPs (12 R339 to R342) -/

/-- An item of a port's area in the QUEUE window lets a TLP through (12 R339): submission queues are read, completion queues written, the
admin buffer both. -/
def queueAllows (qpp : Nat) (write : Bool) (off len : Nat) : Bool :=
  let within := fun (base size : Nat) => decide (base ≤ off) && decide (off + len ≤ base + size)
  within 8192 4096 ||
  (if write then within 4096 256 || (List.range qpp).any fun q => within (20480 + 12288 * q) 2048
   else within 0 1024 || (List.range qpp).any fun q => within (12288 + 12288 * q) 8192)

/-- The computed PRP list of a tag (12 R340): entry i is the address of page i + 1. -/
def prpList (tag off len : Nat) : Bytes :=
  sliceBytes ((List.range 64).flatMap fun i => leBytes 8 (dataBase + tag * 262144 + 4096 * (i + 1))) off len

/-- A tag whose command is quarantined or withheld. -/
def tagBlocked (t : MTag) : Bool := match t.state with | .quarantined _ => true | .withheld => true | _ => false

/-- What an inbound TLP meets. -/
inductive Inbound where
  /-- Let through; a read returns these bytes. -/
  | pass (data : Bytes)
  /-- A write to the port's area of the QUEUE window, at an offset. -/
  | toQueue (off : Nat)
  /-- An MSI-X message: its vector. -/
  | message (vec : Nat)
  /-- Into the DATA window of a tag, at an offset in its transfer. -/
  | toTag (t : MTag) (off : Nat)
  /-- The tag is quarantined: discarded, or completed with Completer Abort. -/
  | blocked
  | violation
  deriving DecidableEq, Repr

/-- What a read of a port's area of the QUEUE window returns: the admin data buffer as the drive has written it, or submission queue entries, which a
standard lays out (12 R339). -/
def queueRead (s : State) (x port off len : Nat) : Bytes :=
  if 8192 ≤ off ∧ off + len ≤ 12288 then memRead (portOf (s.slot x) port).queue off len
  else fitBytes len (Config.submission s.out.length off)

/-- Decode an inbound TLP by the windows (12 R339 to R342, R344). -/
def decodeInbound (s : State) (t : MemberTlp) : Inbound :=
  let rp := rootPort s.slots t.slot t.port
  let inside := fun (base size : Nat) => decide (base ≤ t.addr) && decide (t.addr + t.len ≤ base + size)
  if inside (queueBase + rp * 65536) 65536 then
    let off := t.addr - queueBase - rp * 65536
    if queueAllows (qppOf s.slots) t.write off t.len then
      (if t.write then .toQueue off else .pass (queueRead s t.slot t.port off t.len))
    else .violation
  else if inside (msiBase + 64 * rp) 64 then
    if t.write && decide (t.len = 4) && decide (t.addr % 4 = 0) then .message ((t.addr - msiBase - 64 * rp) / 4) else .violation
  else if inside listBase 2097152 then
    let tag := (t.addr - listBase) / 512
    match findTag s t.slot t.port tag with
    | some g => if t.write then .violation else if tagBlocked g then .blocked else .pass (prpList tag ((t.addr - listBase) % 512) t.len)
    | none => .violation
  else if inside dataBase 1073741824 then
    let off := t.addr - dataBase
    match findTag s t.slot t.port (off / 262144) with
    | some g =>
      if tagBlocked g then .blocked
      else if off % 262144 + t.len ≤ g.len ∧ ((t.write = true ∧ g.opcode = 0x02) ∨ (t.write = false ∧ g.opcode ≠ 0x02)) then
        .toTag g (off % 262144)
      else .violation
    | none => .violation
  else .violation

/-- A data write of a drive in its command's buffer: poison marks the blocks that it touches as lost (12 R341). -/
def fillBuffer (tlp : MemberTlp) (off : Nat) (t : MTag) : MTag :=
  let held := fitBytes t.len t.buf
  let t := { t with buf := held.take off ++ fitBytes tlp.len tlp.data ++ held.drop (off + tlp.len) }
  if tlp.poisoned then
    { t with lost := ((List.range ((off + tlp.len - 1) / 4096 + 1)).filter fun b => decide (off / 4096 ≤ b)).foldl (fun l b => addNew b l) t.lost }
  else t

/-- MEMBER_INBOUND_TLP (12 R339, R341, R342): a violation is counted, charged and never contains the port. -/
def execMemberInboundTlp (tlp : MemberTlp) (s : State) : Host.Outcome State Fault Refusal :=
  let v := s.slot tlp.slot
  if !(v.present && decide ((portOf v tlp.port).speed ≠ 0)) || (portOf v tlp.port).contained then .next s
  else
    let answer := fun (st : CplStatus) (bs : Bytes) (s : State) => if tlp.write then s else emit (.memberCpl tlp.slot tlp.port st bs) s
    match decodeInbound s tlp with
    | .pass bs => .next (answer .success bs s)
    | .toQueue off => .next (updPort tlp.slot tlp.port (fun p => { p with queue := memPut p.queue off (fitBytes tlp.len tlp.data) }) s)
    | .message vec => .next (updPort tlp.slot tlp.port (fun p => { p with vectors := addNew vec p.vectors }) s)
    | .blocked => .next (answer .completerAbort [] s)
    | .toTag t off =>
      let (fault, s1) := injectAt tlp.slot tlp.port (if tlp.write then 0 else 1) (if tlp.write then 2 else 3) s
      let came := { tlp with data := corruptPayload fault tlp.data }
      let s2 := if tlp.write then updTagOf tlp.slot tlp.port t.tag (fillBuffer came off) s1 else s1
      if tlp.write && tlp.poisoned then .next (noteAll s (settleAll (chargeMedia tlp.slot s2)))
      else .next (answer .success (corruptPayload fault (sliceBytes t.buf off tlp.len)) s2)
    | .violation =>
      let s1 := recordEvent 0x5013 [tlp.slot, tlp.port, tlp.addr % 2 ^ 32, tlp.addr / 2 ^ 32]
        (updSlot tlp.slot (fun v => { v with violations := v.violations + 1 }) s)
      .next (noteAll s (settleAll (answer .unsupportedRequest [] (charge tlp.slot 100 s1))))

end Sys2Proof.Machine
end

