-- ==== Sys2Proof/Machine/MemberControl.lean ====
section
/-!
DEFINITION. Member Control, admin opcode 0xC4 (12 R361; 11 R323).
-/

namespace Sys2Proof.Machine

/-- Owner authorisation in force for a scope bit: 0 fault injection, 1 calibration, 2 memory clear (05 R152; 16 R475). -/
def authorised (s : State) (bit : Nat) : Bool := match s.trust.auth with | some (sc, _) => sc.getLsbD bit | none => false

/-- Event 0x5041 of an action. -/
def noteAction (slot action cdw11 : Nat) (s : State) : State := recordEvent 0x5041 [slot, action, cdw11, 0] s

/-- A drive of a deck in redeal: a member of it or an added drive (11 R323). -/
def inRedeal (s : State) (x : Nat) : Bool :=
  isAdded s x || (match (s.slot x).deckId with
    | some id => decide ((s.slot x).cls = .member) && ((s.deck id).map fun d => d.label.redeal.isSome).getD false
    | none => false)

/-- Status that taking the drive of a slot out of service meets, 0 for none. -/
def outStatus (s : State) (x : Nat) : Nat :=
  if inRedeal s x then 0x0C
  else if decide ((s.slot x).cls = .member) && !slotMayFail s x then 0x0C
  else 0

/-- MEMBER_CONTROL_ONLINE: completes once slot power is on (12 R361; DEDUCED, log 109). -/
def execMemberControlOnline (ref : CmdRef) (slot cdw11 : Nat) (s : State) : Host.Outcome State Fault Refusal :=
  if !adminTurn s ref then .next s
  else if s.slots ≤ slot ∨ (s.slot slot).present = false then .next (failCmd ref 0x02 s)
  else
    let s1 := noteAction slot 0 cdw11 s
    if (s.slot slot).power then .next (commitCmd ref 0 0 s1)
    else
      let s2 := askPower slot (waitCmd ref 0 s1)
      .next { s2 with members := { s2.members with onlineRefs := s2.members.onlineRefs ++ [(slot, ref)] } }

/-- A Flush on every usable port of a slot (opcode 0x00). -/
def flushPorts (x : Nat) (s : State) : State :=
  [0, 1].foldl (fun s port => if portUsable s x port then issueOn x port 0x00 .flush 0 [] (emit (.memberCmd x port 0x00 0) s) else s) s

/-- No Flush waits for a drive that the host has had powered off. -/
def dropFlushes (x : Nat) (s : State) : State :=
  updPort x 0 (fun p => { p with tags := p.tags.filter fun t => !(decide (t.state = .waiting) && decide (t.work = .flush)) }) s

/-- MEMBER_CONTROL_OFFLINE. -/
def execMemberControlOffline (ref : CmdRef) (slot cdw11 : Nat) (s : State) : Host.Outcome State Fault Refusal :=
  if !adminTurn s ref then .next s
  else if s.slots ≤ slot ∨ (s.slot slot).present = false then .next (failCmd ref 0x02 s)
  else if outStatus s slot ≠ 0 then .next (failCmd ref (outStatus s slot) s)
  else
    let s1 := noteAction slot 1 cdw11 s
    let s2 := if (s.slot slot).cls = .member then failSlot slot s1 else s1
    .next (noteAll s (commitCmd ref 0 0 (dropFlushes slot (powerOff slot (flushPorts slot s2)))))

/-- MEMBER_CONTROL_FAIL. -/
def execMemberControlFail (ref : CmdRef) (slot cdw11 : Nat) (s : State) : Host.Outcome State Fault Refusal :=
  if !adminTurn s ref then .next s
  else if s.slots ≤ slot ∨ (s.slot slot).cls ≠ .member then .next (failCmd ref 0x02 s)
  else if outStatus s slot ≠ 0 then .next (failCmd ref (outStatus s slot) s)
  else .next (noteAll s (commitCmd ref 0 0 (failSlot slot (noteAction slot 2 cdw11 s))))

/-- Classes that ERASE applies to. -/
def mayErase (c : DriveClass) : Bool :=
  match c with
  | .newDrive | .returning | .foreign | .importable => true
  | .empty | .member | .unusable => false

/-- MEMBER_CONTROL_ERASE. A drive that cannot be reached cannot be written, and the command completes with Command Sequence Error
(DESIGN CHOICE, log 44). -/
def execMemberControlErase (ref : CmdRef) (slot cdw11 : Nat) (s : State) : Host.Outcome State Fault Refusal :=
  if !adminTurn s ref then .next s
  else if s.slots ≤ slot ∨ mayErase (s.slot slot).cls = false then .next (failCmd ref 0x02 s)
  else if inRedeal s slot || !slotReachable (s.slot slot) then .next (failCmd ref 0x0C s)
  else .next (noteAll s (commitCmd ref 0 0 (recordClass slot (releaseSlot slot (zeroLabels slot (slotCap s slot) (slotTagged s slot) (noteAction slot 3 cdw11 s))))))

/-- MEMBER_CONTROL_PORT_RESET: CDW11 [0] names the port. -/
def execMemberControlPortReset (ref : CmdRef) (slot cdw11 : Nat) (s : State) : Host.Outcome State Fault Refusal :=
  let port := cdw11 % 2
  if !adminTurn s ref then .next s
  else if s.slots ≤ slot ∨ (s.slot slot).present = false then .next (failCmd ref 0x02 s)
  else if portUsable s slot (otherPort port) = false then .next (failCmd ref 0x0C s)
  else .next (noteAll s (settleAll (commitCmd ref 0 0 (beginStep slot port 3 (noteAction slot 4 cdw11 s)))))

/-- MEMBER_CONTROL_CLEAR. -/
def execMemberControlClear (ref : CmdRef) (slot cdw11 : Nat) (s : State) : Host.Outcome State Fault Refusal :=
  if !adminTurn s ref then .next s
  else if s.slots ≤ slot ∨ (s.slot slot).present = false then .next (failCmd ref 0x02 s)
  else
    let s1 := updSlot slot (fun v => { v with
      health := 1000, failDue := false, timeouts := 0, late := 0, mediaErr := 0, tagFail := 0, contain := 0, retries := 0, ctrlResets := 0,
      busResets := 0, powerCycles := 0, violations := 0 }) (noteAction slot 5 cdw11 s)
    .next (commitCmd ref 0 0 s1)

/-- A retirement entry (15 R441). -/
def retBytes (e : RetEntry) : Bytes :=
  leBytes 1 e.kind ++ leBytes 1 e.region ++ leBytes 1 e.channel ++ leBytes 1 e.unit ++ leBytes 4 e.frame ++ leBytes 8 e.time.toNat

/-- Write the retirement block (15 R437; 16 R455): its payload is the entry list. -/
def storeTable (t : List RetEntry) (s : State) : State :=
  { s with guard := { s.guard with table := t, tableFlash := pairPut "WSDVRETR" (fun l => l.flatMap retBytes) t s.guard.tableFlash } }

/-- The retirement table that boot flash holds; none when no copy is valid. -/
def loadTable (s : State) : State :=
  { s with guard := { s.guard with table := (pairItem "WSDVRETR" (fun l : List RetEntry => l.flatMap retBytes) s.guard.tableFlash).getD [] } }

/-- MEMBER_CONTROL_MEM_CLEAR: every retirement entry of the channel goes; it takes effect at the next device reset or cold start. -/
def execMemberControlMemClear (ref : CmdRef) (slot cdw11 : Nat) (s : State) : Host.Outcome State Fault Refusal :=
  let ch := cdw11 % 8
  if !adminTurn s ref then .next s
  else if authorised s 2 = false then .next (failCmd ref 0x15 s)
  else if slot ≠ 0xFF then .next (failCmd ref 0x02 s)
  else
    let keep := s.guard.table.filter fun e => !decide (e.channel = ch)
    let gone := s.guard.table.length - keep.length
    let s1 := storeTable keep s
    .next (commitCmd ref 0 0 (recordEvent 0x8008 [ch, gone, 0, 0] (noteAction 0xFF 6 cdw11 s1)))

end Sys2Proof.Machine
end

