-- ==== Sys2Proof/Machine/Guard.lean ====
section
/-!
DEFINITION. Integrity of the memories: the decoder's classes, device marks, retirement of frames, banks and channels, SRAM errors and row
repair, and the Memory Errors and Retirement log (15 R426 to R441; 06 R196; 02 R53).
-/

namespace Sys2Proof.Machine

/-- SOURCE byte of a unit: die in bits 7 to 5, unit in bits 4 to 0 (16 R477). -/
def sourceOf (die unit : Nat) : Nat := 32 * die + unit

/-! ## The decoder (15 R426, R427) -/

/-- Class of a word. -/
inductive WordClass where
  | clean
  | ceSym
  | ceDev (dev : Nat)
  | ue
  deriving DecidableEq, Repr

/-- Sum of a list. -/
def sumOf (l : List Nat) : Nat := l.foldl (· + ·) 0

/-- The only device with symbols in error, when there is one. -/
def loneDevice (per : List Nat) : Option Nat :=
  match (List.range per.length).filter fun d => decide (per.getD d 0 ≠ 0) with
  | [d] => some d
  | _ => none

/-- Classify a word by the pattern of its errors and the device marked on its channel (15 R426). -/
def wordClass (mark : Option Nat) (per : List Nat) : WordClass :=
  let n := sumOf per
  if n = 0 then .clean
  else
    match mark with
    | some d => if n - per.getD d 0 ≤ 9 then .ceSym else .ue
    | none =>
      if n ≤ 4 then .ceSym
      else
        match loneDevice per with
        | some d => if n ≤ 18 then .ceDev d else .ue
        | none => .ue

/-! ## The retirement table (15 R434 to R437; 06 R196) -/

/-- The table changes: the block is written, and GEN of log 0xC7 rises. -/
def putTable (t : List RetEntry) (s : State) : State :=
  let s := storeTable t s
  { s with guard := { s.guard with gen := s.guard.gen + 1 } }

/-- The table with a bank, device or channel entry; with 1,024 entries it has no room for one, and R437 makes room for frames only (DESIGN CHOICE, log 46). -/
def tableWith (e : RetEntry) (t : List RetEntry) : List RetEntry := if 1024 ≤ t.length then t else t ++ [e]

/-- Frame entries of the table in a bank of a channel. -/
def bankEntries (t : List RetEntry) (ch bank : Nat) : List RetEntry :=
  t.filter fun e => decide (e.kind = 1) && decide (e.channel = ch) && decide (frameBank e.frame = bank)

/-- Retired frames of a channel; one that check-bit test mode holds is not retired (15 R443, R444). -/
def channelRetired (s : State) (ch : Nat) : List DirEntry :=
  s.cache.dir.filter fun e => decide (e.state = .retired) && decide (frameChannel e.region e.frame = ch) &&
    !s.guard.ecct.frames.any fun f => decide (f.2.1 = e.region) && decide (f.2.2 = e.frame)

/-- Frames retired one by one in a bank of a channel. -/
def bankRetired (s : State) (ch bank : Nat) : Nat := ((channelRetired s ch).filter fun e => decide (frameBank e.frame = bank)).length

/-- Banks retired on a channel. -/
def banksOf (t : List RetEntry) (ch : Nat) : List Nat := (t.filter fun e => decide (e.kind = 2) && decide (e.channel = ch)).map (·.unit)

/-- Every frame of a list of a region goes out of use: the FREE ones at once, then the others, their content moved (06 R196). -/
def retireAll (region : Nat) (frames : List Nat) (c : Cache) : Cache :=
  let free := frames.filter fun f => (entryAt c region f).isNone
  let used := frames.filter fun f => (entryAt c region f).isSome
  used.foldl (fun c f => retireFrame region f c) { c with dir := free.map (retiredEntry region) ++ c.dir }

/-- Frames of a channel: its way parity in every set of its region (06 R170). -/
def channelFrames (c : Cache) (ch : Nat) : List Nat := (List.range (16 * setsOf c)).filter fun f => decide (frameChannel (ch / 2) f = ch)

/-- A memory channel fails (15 R436): 1 training, 2 banks, 3 devices. The takeover is recorded (17 R491). -/
def failChannel (ch reason : Nat) (s : State) : State :=
  if (s.chan ch).failed then s
  else
    let s := s.setChan ch { s.chan ch with failed := true, failReason := reason }
    let e : RetEntry := { kind := 4, region := ch / 2, channel := ch, unit := 0, frame := 0, time := s.recTime }
    let s := putTable (tableWith e s.guard.table) s
    let s := { s with cache := retireAll (ch / 2) (channelFrames s.cache ch) s.cache }
    takeover (sourceOf (ch / 2 + 1) (2 + ch % 2)) 1 150 0x8007 (recordEvent 0x8007 [ch, reason, 0, 0] s)

/-- Retire a bank (15 R435): its frames go, and one bank entry takes the place of frame entries. A fifth bank fails the channel. -/
def retireBank (ch bank : Nat) (s : State) : State :=
  if (banksOf s.guard.table ch).contains bank then s
  else if 4 ≤ (banksOf s.guard.table ch).length then failChannel ch 2 s
  else
    let e : RetEntry := { kind := 2, region := ch / 2, channel := ch, unit := bank, frame := 0, time := s.recTime }
    let keep := s.guard.table.filter fun x => !(bankEntries s.guard.table ch bank).contains x
    let s := putTable (tableWith e keep) s
    let s := { s with cache := retireAll (ch / 2) (bankFrames s.cache (ch / 2) ch bank) s.cache }
    recordEvent 0x2020 [ch / 2, ch, bank, 1] s

/-- The (channel, bank) with the most frame entries, when it has more than one. -/
def fullestBank (t : List RetEntry) : Option (Nat × Nat) :=
  ((List.range 8).flatMap fun ch => (List.range 16).map fun b => (ch, b)).foldl (fun best x =>
    let n := (bankEntries t x.1 x.2).length
    match best with
    | none => if 1 < n then some x else none
    | some (b : Nat × Nat) => if (bankEntries t b.1 b.2).length < n then some x else some b) none

/-- Enter a retired frame in the table (15 R437). The Bool is VOLATILE: the frame is retired for the present boot only. -/
def enterFrame (region ch frame : Nat) (s : State) : Bool × State :=
  let e : RetEntry := { kind := 1, region := region, channel := ch, unit := 0, frame := frame, time := s.recTime }
  if s.guard.table.length < 1024 then (false, putTable (s.guard.table ++ [e]) s)
  else
    match fullestBank s.guard.table with
    | some b =>
      let s := retireBank b.1 b.2 s
      if s.guard.table.length < 1024 then (false, putTable (s.guard.table ++ [e]) s) else (true, s)
    | none => (true, { s with guard := { s.guard with gen := s.guard.gen + 1 } })

/-- Retire a frame (15 R434, R435): event 0x2020; eight frames of a bank retire the bank. -/
def retireOne (region frame : Nat) (s : State) : State :=
  match entryAt s.cache region frame with
  | some e => if e.state = .retired then s else go s
  | none => go s
where
  /-- The frame goes out of use. -/
  go (s : State) : State :=
    let ch := frameChannel region frame
    let s := { s with cache := retireFrame region frame s.cache }
    let (vol, s) := enterFrame region ch frame s
    let s := recordEvent 0x2020 [region, ch, frame, if vol then 2 else 0] s
    if 8 ≤ bankRetired s ch (frameBank frame) then retireBank ch (frameBank frame) s else s

/-! ## Device marks (15 R428) -/

/-- Different frames in which CE-DEV decodes name a device since a time. -/
def namedFrames (l : List (Nat × Nat × Nat)) (dev since : Nat) : Nat :=
  ((l.filter fun x => decide (x.1 = dev) && decide (since ≤ x.2.2)).foldl (fun (acc : List Nat) x => if acc.contains x.2.1 then acc else x.2.1 :: acc) []).length

/-- A CE-DEV decode names a device: the mark rule. Times are model time in ns. -/
def nameDevice (ch dev frame : Nat) (s : State) : State :=
  let c := s.chan ch
  let l := (dev, frame, s.now) :: c.ceDev.filter fun x => decide (s.now < x.2.2 + 86400000000000)
  let s := s.setChan ch { c with ceDev := l }
  if 2 ≤ namedFrames l dev (s.now - 60000000000) ∨ 8 ≤ namedFrames l dev (s.now - 86400000000000) then
    if c.marks.contains dev then s
    else if c.marks.isEmpty then
      let e : RetEntry := { kind := 3, region := ch / 2, channel := ch, unit := dev, frame := 0, time := s.recTime }
      let s := s.setChan ch { s.chan ch with marks := [dev], markTime := s.recTime }
      let s := putTable (tableWith e s.guard.table) s
      takeover (sourceOf (ch / 2 + 1) (2 + ch % 2)) 0 0 0x8005 (recordEvent 0x8005 [ch, dev, 0, 0] s)
    else failChannel ch 3 s
  else s

/-! ## Decoded words -/

/-- Set the POISON bit of a sector in an entry and its partner (15 R427). -/
def poisonSector (e : DirEntry) (sec : Nat) (c : Cache) : Cache :=
  let bit : BitVec 8 := BitVec.ofNat 8 (2 ^ sec)
  let set1 := fun x : DirEntry => { x with poison := x.poison ||| bit }
  let c := updEntry e.region e.frame set1 c
  match partnerOf e with
  | some (r, f) => updEntry r f set1 c
  | none => c

/-- A word of a frame is uncorrectable (15 R427, R434): its content is taken from the partner copy, refilled from the members, or
poisoned when no copy can be read; the frame is retired. A page with no partner has lost its only copy, so its sector is poisoned
(DEDUCED, log 46). -/
def uncorrectable (e : DirEntry) (sec : Nat) (partnerBad : Bool) (s : State) : State :=
  let needs := isDirtyState e.state || decide (e.state = .mirror) || decide (e.state = .cmb) || decide (e.state = .cmbMirror) || decide (e.state = .staged)
  let lost := needs && (partnerBad || (partnerOf e).isNone)
  let s := if lost then
      recordEvent 0x8003 [e.region, e.frame, sec, if (partnerOf e).isSome then 1 else 0] { s with cache := poisonSector e sec s.cache }
    else s
  let s := retireOne e.region e.frame (if lost then s else aerAbsorbed s)
  match (if lost then partnerOf e else none) with
  | some (r, f) => retireOne r f s
  | none => s

/-- Work that TRUMP does: in SERVE, CONSTRAINED and QUARANTINE. -/
def trumpRuns (s : State) : Bool := s.ready

/-- DRAM_SCRUB (15 R426 to R429, R434): a word of a sector that is VALID and not ZERO. A corrected word is a fault absorbed (03 R96). -/
def execDramScrub (region frame word : Nat) (errs : WordErrors) (again partnerBad : Bool) (s : State) : Host.Outcome State Fault Refusal :=
  let ch := frameChannel region frame
  let c := s.chan ch
  match entryAt s.cache region frame with
  | none => .next s
  | some e =>
    if !(trumpRuns s && decide (word < 64) && bitOf e.valid (word / 8) && !bitOf e.zero (word / 8) && !c.failed) || decide (e.state = .retired) then .next s
    else
      let c := { c with selfRefresh := false }
      let s := s.setChan ch c
      let cls := wordClass c.marks.head? errs.perDevice
      let bad := decide (cls = .ue) || !errs.metaOk
      let g := s.guard
      if bad then
        let s1 := s.setChan ch { c with ue := c.ue + 1 }
        let s1 := { s1 with guard := { g with ue := g.ue + 1, metaMismatch := if cls = .ue then g.metaMismatch else g.metaMismatch + 1 } }
        .next (uncorrectable e (word / 8) partnerBad s1)
      else
        match cls with
        | .clean => .next s
        | .ceSym =>
          let s1 := { s.setChan ch { c with ceSym := c.ceSym + 1 } with guard := { g with ceSym := g.ceSym + 1 } }
          .next (aerAbsorbed (if again then retireOne region frame s1 else s1))
        | .ceDev d =>
          let s1 := { s.setChan ch { c with ceDevCount := c.ceDevCount + 1 } with guard := { g with ceDev := g.ceDev + 1 } }
          let s2 := nameDevice ch d frame s1
          .next (aerAbsorbed (if again then retireOne region frame s2 else s2))
        | .ue => .next s

/-- MEMORY_TRAINING_COMPLETE (02 R53; 06 R165; 15 R436): training, or the exit from self-refresh, of a channel in BOOT. CH0 gives the
density; a channel of another density, trained before or after it, or with a failure, has failed. -/
def execMemoryTrainingComplete (ch : Nat) (ok halfDensity : Bool) (s : State) : Host.Outcome State Fault Refusal :=
  if s.mode.mode ≠ .boot ∨ 8 ≤ ch ∨ (s.chan ch).trained = true then .next s
  else
    let up := fun (s : State) => s.setChan ch { s.chan ch with trained := true, selfRefresh := false, half := halfDensity }
    if !ok then .next (failChannel ch 1 s)
    else if ch = 0 then
      let s1 := up { s with cache := { s.cache with halfDensity := halfDensity } }
      .next ((List.range 8).foldl (fun s n =>
        if (s.chan n).trained && !(s.chan n).failed && decide ((s.chan n).half ≠ halfDensity) then failChannel n 1 s else s) s1)
    else if (s.chan 0).trained && decide (halfDensity ≠ s.cache.halfDensity) then .next (failChannel ch 1 s)
    else .next (up s)

/-! ## SRAM (15 R430, R431, R438 to R440) -/

/-- Order of the table of R431. -/
def arrayCode (a : SramArray) : Nat :=
  match a with
  | .directory => 0
  | .mirrorIndex => 1
  | .journalIndex => 2
  | .stripeLocks => 3
  | .reorderBuffer => 4
  | .queueContext => 5
  | .staging => 6
  | .streamBuffers => 7
  | .coreMemory => 8
  | .eventRing => 9

/-- A directory entry is lost with its word: it is rebuilt from its partner; with none, or CLEAN or FILL, it becomes FREE and its frame is
retired. A dirty page lost that way has lost both its copies, so the device enters QUARANTINE (DEDUCED, log 46). -/
def loseEntry (region frame : Nat) (s : State) : State :=
  match entryAt s.cache region frame with
  | none => s
  | some e =>
    if (partnerOf e).isSome && !decide (e.state = .clean) && !decide (e.state = .fill) || decide (e.state = .retired) then s
    else
      let dirty := isDirtyState e.state
      let s := retireOne region frame { s with cache := freeFrame region frame s.cache }
      if dirty && s.serving then enterQuarantine 13 6 frame s else s

/-- A stream of a parity block is reissued from its first operand (01 R30). -/
def reissueStream (region block stream : Nat) (s : State) : State :=
  emit (.reissue region block stream) (s.setPblock region block (dropStream stream (s.pblock region block)))

/-- A record of the sentinel ring is lost, and counted (15 R431; 16 R481). -/
def loseRecord (pos : Nat) (s : State) : State :=
  { s with recorder := { s.recorder with sentRing := s.recorder.sentRing.eraseIdx pos, lost := min 0xFFFF (s.recorder.lost + 1) } }

/-- The recovery action of an array (15 R431). Arrays that are rebuilt from what the state holds leave it as it is; a core pair that restarts is a takeover
(17 R491). -/
def recoverWord (t : SramTarget) (copyLost : Bool) (s : State) : State :=
  match t.array with
  | .directory => loseEntry (t.die - 1) t.frame s
  | .reorderBuffer =>
    if copyLost then
      match robOf s t.ref with
      | some e =>
        let s := recordEvent 0x8015 [t.ref.ctl, t.ref.sqid, t.ref.cid, 0] s
        if robDone e then updRob t.ref (fun e => { e with doom := some 0x06 }) s else abandonCmd t.ref 0x06 s
      | none => s
    else s
  | .queueContext => if copyLost then s.setCtl t.ref.ctl { s.ctl t.ref.ctl with cfs := true } else s
  | .eventRing => loseRecord t.frame s
  | .streamBuffers => if t.die = 0 then s else t.streams.foldl (fun s x => reissueStream (t.die - 1) x.1 x.2 s) s
  | .coreMemory => if 5 ≤ t.die then s else takeover (sourceOf t.die (if t.die = 0 then 1 + t.half else 1)) 1 150 0x8011 s
  | .mirrorIndex | .journalIndex | .stripeLocks | .staging => s

/-- SRAM_SCRUB (15 R430, R431): a single-bit error is corrected and written back; a double-bit error records event 0x8011 and takes the
array's action. Either is a fault absorbed (03 R96). -/
def execSramScrub (target : SramTarget) (finding : SramFinding) (s : State) : Host.Outcome State Fault Refusal :=
  if !(s.hubPowered || decide (target.die = 5)) || decide (finding.bits = 0) then .next s
  else if finding.bits = 1 then .next (aerAbsorbed { s with guard := { s.guard with sramSec := s.guard.sramSec + 1 } })
  else
    let s1 := { s with guard := { s.guard with sramDed := s.guard.sramDed + 1 } }
    let s1 := recordEvent 0x8011 [target.die, target.macroNo, target.row, arrayCode target.array] s1
    .next (recoverWord target finding.copyLost (aerAbsorbed s1))

/-- Spare rows of a macro that have been used. -/
def usedSpares (s : State) (die macroNo : Nat) : Nat :=
  (s.guard.repairs.filter fun r => decide (r.die = die) && decide (r.macroNo = macroNo)).length

/-- Repair a row (15 R438 to R440): the next free spare takes the row, and an earlier entry of the row is made VOID; with no spare or
no map entry left the row stays, with event 0x8013. -/
def repairRow (die macroNo row : Nat) (s : State) : State :=
  if !(s.hubPowered || decide (die = 5)) || decide (5 < die) || decide (1023 < macroNo) || decide (511 < row) then s
  else
    let spare := usedSpares s die macroNo
    if 8 ≤ spare ∨ 1024 ≤ s.guard.repairs.length then recordEvent 0x8013 [die, macroNo, row, 0] s
    else
      let old := s.guard.repairs.map fun r => if r.torn = false ∧ r.die = die ∧ r.macroNo = macroNo ∧ r.row = row then { r with void := true } else r
      let s1 := { s with guard := { s.guard with
        repairs := old ++ [{ void := false, die := die, macroNo := macroNo, row := row, spare := spare }], gen := s.guard.gen + 1 } }
      recordEvent 0x8012 [die, macroNo, row, spare] s1

/-- BOOT meets a repair map entry whose CHECK is wrong: it is ignored, with event 0x8014 (15 R440). -/
def tearRepair (i : Nat) (s : State) : State :=
  match s.guard.repairs[i]? with
  | none => s
  | some r =>
    recordEvent 0x8014 [i, 0, 0, 0] { s with guard := { s.guard with repairs := s.guard.repairs.set i { r with torn := true } } }

/-- SRAM_ROW_REPAIR. -/
def execSramRowRepair (die macroNo row : Nat) (s : State) : Host.Outcome State Fault Refusal := .next (repairRow die macroNo row s)

/-! ## Memory Errors and Retirement log (15 R439, R441) -/

/-- A repair map entry as 32 bits (15 R439). A torn one reads with a wrong CHECK (DESIGN CHOICE, log 142). -/
def repairWord (r : RepairEntry) : Nat :=
  let body := 2 ^ 31 + (if r.void then 2 ^ 30 else 0) + r.die * 2 ^ 27 + r.macroNo * 2 ^ 17 + r.row * 2 ^ 8 + r.spare * 16
  body + if r.torn then 15 else (body / 16) % 15

/-- Record of a memory channel (15 R441). -/
def channelBytes (s : State) (ch : Nat) : Bytes :=
  let c := s.chan ch
  let frames := (channelRetired s ch).length
  leBytes 1 ch ++ leBytes 1 (if c.failed then 1 else 0) ++ leBytes 1 (c.marks.headD 0xFF) ++ leBytes 1 0 ++
    leBytes 2 (bitmapOf (banksOf s.guard.table ch)) ++ leBytes 2 0 ++ leBytes 4 frames ++ leBytes 4 c.ceSym ++ leBytes 4 c.ceDevCount ++
    leBytes 4 c.ue ++ leBytes 8 c.markTime.toNat

/-- Log page 0xC7. -/
def memoryLog (s : State) : Bytes :=
  let g := s.guard
  fitBytes 512 (leBytes 4 g.gen ++ leBytes 2 g.table.length ++ leBytes 2 g.repairs.length ++ leBytes 8 g.ceSym ++ leBytes 8 g.ceDev ++
    leBytes 8 g.ue ++ leBytes 8 g.metaMismatch ++ leBytes 8 g.sramSec ++ leBytes 8 g.sramDed ++ leBytes 4 g.residue ++ leBytes 4 g.mod15 ++
    (List.range 8).flatMap (channelBytes s)) ++
  fitBytes 16384 (g.table.flatMap retBytes) ++ fitBytes 4096 (g.repairs.flatMap fun r => leBytes 4 (repairWord r))

end Sys2Proof.Machine
end

