-- ==== Sys2Proof/Machine/Test.lean ====
section
/-!
DEFINITION. Check-bit test mode and the arming of fault injection (15 R442 to R449).
-/

namespace Sys2Proof.Machine

/-! ## Check-bit test mode -/

/-- A register field of type RWL may be written: CC.EN is 0 in every controller (18 R502). -/
def rwlOpen (s : State) : Bool := s.ctlIds.all fun id => !(s.ctl id).ccEn

/-- The highest-numbered frame of a channel that is not retired and can be emptied, among its `n` lowest (R443). -/
def highestFrame (c : Cache) (ch : Nat) : Nat → Option (Nat × Cache)
  | 0 => none
  | n + 1 =>
    let f := 2 * n + ch % 2
    let region := ch / 2
    if (entryAt c region f).any fun e => decide (e.state = .retired) then highestFrame c ch n
    else
      let c' := retireFrame region f c
      if (entryAt c' region f).any fun e => decide (e.state = .retired) then some (f, c') else highestFrame c ch n

/-- A live channel: neither failed nor of a fenced region. -/
def chanLive (s : State) (ch : Nat) : Bool := !(s.chan ch).failed && !s.cache.fenced.contains (ch / 2)

/-- Take the test frame of each live channel (R443). -/
def takeTestFrames (s : State) : State :=
  (List.range 8).foldl (fun s ch =>
    if chanLive s ch then
      match highestFrame s.cache ch (8 * setsOf s.cache) with
      | some (f, c) =>
        { s with cache := c, guard := { s.guard with ecct := { s.guard.ecct with frames := s.guard.ecct.frames ++ [(ch, ch / 2, f)] } } }
      | none => s
    else s) s

/-- Return the test frames to FREE (R443). -/
def dropTestFrames (s : State) : State :=
  let fs := s.guard.ecct.frames
  let dir := s.cache.dir.filter fun e =>
    !(decide (e.state = .retired) && fs.any fun f => decide (f.2.1 = e.region) && decide (f.2.2 = e.frame))
  { s with
    cache := { s.cache with dir := dir }
    guard := { s.guard with ecct := { s.guard.ecct with testEn := false, frames := [], dramWords := [] } } }

/-- ECCT_TEST_EN_SET (R443; RWL, 18 R502). -/
def execEcctTestEnSet (en : Bool) (s : State) : Host.Outcome State Fault Refusal :=
  let s := if hubAnswers s then hostArrives 1 s else s
  if !hubAnswers s || !rwlOpen s || decide (s.guard.ecct.testEn = en) then .next s
  else if en then
    .next (takeTestFrames { s with guard := { s.guard with ecct := { s.guard.ecct with testEn := true } } })
  else .next (dropTestFrames s)

/-- Fields of ECCT_ADDR (R442). -/
def ecctWord (e : Ecct) : Nat := e.addr.toNat % 64
def ecctChannel (e : Ecct) : Nat := e.addr.toNat / 2 ^ 8 % 8
def ecctArray (e : Ecct) : Nat := e.addr.toNat / 2 ^ 48 % 4096
def ecctDie (e : Ecct) : Nat := e.addr.toNat / 2 ^ 60 % 8
def ecctSram (e : Ecct) : Bool := e.addr.getLsbD 63

/-- Key of the test word that ECCT_ADDR names. -/
def ecctKey (e : Ecct) : Nat × Nat := if ecctSram e then (ecctDie e, ecctArray e) else (ecctChannel e, ecctWord e)

/-- The test word that ECCT_ADDR names exists: a live channel's test frame, or a macro of a die (R439, R443). -/
def ecctExists (e : Ecct) : Bool :=
  if ecctSram e then decide (ecctDie e ≤ 5) && decide (ecctArray e < 1024) else e.frames.any fun f => decide (f.1 = ecctChannel e)

/-- Test words of the target. -/
def ecctWords (e : Ecct) : Tbl (Nat × Nat) TestWord := if ecctSram e then e.sramWords else e.dramWords

/-- The target's table with the word that ECCT_ADDR names replaced. -/
def ecctPut (e : Ecct) (w : TestWord) : Ecct :=
  if ecctSram e then { e with sramWords := tblPut e.sramWords (ecctKey e) w } else { e with dramWords := tblPut e.dramWords (ecctKey e) w }

/-- Metadata of a test word: FRES, ADDR_CHK for VPAGE 0 and NSIDM1 0, SEQ 0 (R444, 06 R171). -/
def testMeta (data : Bytes) (word : Nat) : Bytes := leBytes 4 (flitResidue data).toNat ++ leBytes 2 (word % 4096) ++ leBytes 2 0

/-- The word that WRITE stores (R444). -/
def encodeTest (e : Ecct) : TestWord :=
  if ecctSram e then
    let d := e.data.take 8
    { data := d, md := [], chk := [Config.secded d], dataMask := zeros 8, mdMask := [], chkMask := zeros 1 }
  else
    let md := testMeta e.data (ecctWord e)
    { data := e.data, md := md, chk := rsCheck (e.data ++ md), dataMask := zeros 64, mdMask := zeros 8, chkMask := zeros 36 }

/-- The word after FLIP: ECCT_DATA, ECCT_CHK and META_MASK are masks (R444). -/
def flipTest (e : Ecct) (w : TestWord) : TestWord :=
  let md := (List.range w.mdMask.length).map fun i => if i = e.metaByte then e.metaMask else 0
  { w with
    dataMask := xorBytes w.dataMask (fitBytes w.dataMask.length e.data)
    mdMask := xorBytes w.mdMask md
    chkMask := xorBytes w.chkMask (fitBytes w.chkMask.length e.chk) }

/-- Symbols in error on each of the six devices, from the masks in the order of c[0] to c[107] (06 R167). -/
def devErrors (w : TestWord) : List Nat :=
  let m := w.dataMask ++ w.mdMask ++ w.chkMask
  (List.range 6).map fun d => ((sliceBytes m (18 * d) 18).filter fun b => decide (b ≠ 0)).length

/-- Bits that a mask sets. -/
def maskBits (m : Bytes) : Nat := m.foldl (fun n b => n + ((List.range 8).filter fun i => b.getLsbD i).length) 0

/-- What READ finds: RESULT, SYMS, DEV_FOUND, META_ERR, and the data; none where the manual states no value (log 48). -/
structure TestRead where
  result : Nat
  syms : Nat
  dev : Nat
  metaErr : Bool
  data : Option Bytes

/-- Decode an RL-DRAM test word (R426, R427). A mask that is itself a codeword has a zero syndrome, so what is read is the changed word,
and its metadata is checked as it reads. -/
def readDram (e : Ecct) (w : TestWord) : TestRead :=
  let per := devErrors w
  let data := xorBytes w.data w.dataMask
  let md := xorBytes w.md w.mdMask
  if rsCheck (w.dataMask ++ w.mdMask) = w.chkMask then
    if md = testMeta data (ecctWord e) then { result := 0, syms := 0, dev := 7, metaErr := false, data := some data }
    else { result := 2, syms := 0, dev := 7, metaErr := true, data := none }
  else
    match wordClass (if e.testMark then some e.dev else none) per with
    | .clean => { result := 0, syms := 0, dev := 7, metaErr := false, data := some w.data }
    | .ceSym => { result := 1, syms := sumOf per, dev := 7, metaErr := false, data := some w.data }
    | .ceDev d => { result := 1, syms := sumOf per, dev := d, metaErr := false, data := some w.data }
    | .ue => { result := 2, syms := 0, dev := 7, metaErr := false, data := none }

/-- Decode an SRAM test word (R430): one bit is corrected, two are detected; more have no stated result. -/
def readSram (free : Bytes) (w : TestWord) : TestRead :=
  let n := maskBits w.dataMask + maskBits w.chkMask
  if n = 0 then { result := 0, syms := 0, dev := 7, metaErr := false, data := some w.data }
  else if n = 1 then { result := 1, syms := 1, dev := 7, metaErr := false, data := some w.data }
  else if n = 2 then { result := 2, syms := 0, dev := 7, metaErr := false, data := none }
  else { result := leNat (free.take 1) % 3, syms := leNat ((free.drop 1).take 1) % 2, dev := 7, metaErr := false, data := none }

/-- What READ finds in a word that nothing has written: no value is stated (06 R176, log 48). -/
def readUnwritten (free : Bytes) : TestRead :=
  { result := leNat (free.take 1) % 3, syms := leNat ((free.drop 1).take 1) % 32, dev := leNat ((free.drop 2).take 1) % 8,
    metaErr := decide (leNat ((free.drop 3).take 1) % 2 = 1), data := none }

/-- Event 0xF001 of a test operation (R444). -/
def noteTest (op : Nat) (s : State) : State :=
  recordEvent 0xF001 [op, if ecctSram s.guard.ecct then 1 else 0, s.guard.ecct.result, 0] s

/-- ECCT_DATA with new data: the first 8 bytes for an SRAM target. -/
def takeData (e : Ecct) (d : Bytes) : Bytes := if ecctSram e then fitBytes 8 d ++ e.data.drop 8 else fitBytes 64 d

/-- ECCT_CHK with new check bytes. -/
def takeChk (e : Ecct) (c : Bytes) : Bytes := if ecctSram e then fitBytes 1 c ++ e.chk.drop 1 else fitBytes 36 c

/-- The test registers with an operation's code in OP. -/
def withOp (op : Nat) (s : State) : State := { s with guard := { s.guard with ecct := { s.guard.ecct with op := op } } }

/-- GO is taken: test mode is on and the controller answers (R442). -/
def ecctLive (s : State) : Bool := hubAnswers s && s.guard.ecct.testEn

/-- The registers after READ. -/
def afterRead (e : Ecct) (r : TestRead) (free : Bytes) : Ecct :=
  { e with
    result := r.result, syms := r.syms, devFound := r.dev, metaErr := r.metaErr
    data := takeData e (r.data.getD free) }

/-- WRITE (R444). -/
def testWrite (s : State) : State :=
  let e := s.guard.ecct
  if ecctExists e then { s with guard := { s.guard with ecct := ecctPut e (encodeTest e) } } else s

/-- FLIP (R444). A word that nothing has written stays one. -/
def testFlip (s : State) : State :=
  let e := s.guard.ecct
  match tblFind (ecctWords e) (ecctKey e) with
  | some w => if ecctExists e then { s with guard := { s.guard with ecct := ecctPut e (flipTest e w) } } else s
  | none => s

/-- READ (R444). -/
def testRead (s : State) : State :=
  let e := s.guard.ecct
  if !ecctExists e then s
  else
    let free := Config.testData s.freeCtr
    let r := match tblFind (ecctWords e) (ecctKey e) with
      | some w => if ecctSram e then readSram free w else readDram e w
      | none => readUnwritten free
    { s with freeCtr := s.freeCtr + 1, guard := { s.guard with ecct := afterRead e r free } }

/-- RAW_READ (R444): the stored bytes, without decoding. -/
def testRaw (s : State) : State :=
  let e := s.guard.ecct
  if !ecctExists e then s
  else
    let free := Config.testData s.freeCtr
    let bytes := match tblFind (ecctWords e) (ecctKey e) with
      | some w => (xorBytes w.data w.dataMask, xorBytes w.chk w.chkMask)
      | none => (free, free.drop 64)
    { s with
      freeCtr := s.freeCtr + 1
      guard := { s.guard with ecct := { e with data := takeData e bytes.1, chk := takeChk e bytes.2 } } }

/-- A test operation by its OP code: 0 WRITE, 1 FLIP, 2 READ, 3 RAW_READ (R442); each records event 0xF001. -/
def runTest (op : Nat) (s : State) : State :=
  if !ecctLive s then s
  else
    let s := withOp op s
    let s := match op with
      | 0 => testWrite s
      | 1 => testFlip s
      | 2 => testRead s
      | _ => testRaw s
    noteTest op s

/-- A write of a command bit of ECCT_CTL: an access of BAR0, which ends L1, PS3 and PS4 (03 R93; 05 R163). It and the other register commands
that name no function come by controller 1's (DESIGN CHOICE, log 144). -/
def testCommand (op : Nat) (s : State) : State := if hubAnswers s then runTest op (hostArrives 1 s) else s

/-- ECCT_WRITE (R444). -/
def execEcctWrite (s : State) : Host.Outcome State Fault Refusal := .next (testCommand 0 s)

/-- ECCT_FLIP (R444). -/
def execEcctFlip (s : State) : Host.Outcome State Fault Refusal := .next (testCommand 1 s)

/-- ECCT_READ (R444). -/
def execEcctRead (s : State) : Host.Outcome State Fault Refusal := .next (testCommand 2 s)

/-- ECCT_RAW_READ (R444). -/
def execEcctRawRead (s : State) : Host.Outcome State Fault Refusal := .next (testCommand 3 s)

/-! ## Fault injection (15 R445 to R449) -/

/-- A descriptor as its 32 bytes spell it (R445). -/
def descOf (b : Bytes) : FinjDesc :=
  let at_ := fun (off len : Nat) => leNat (sliceBytes b off len)
  { target := at_ 0 1, action := at_ 1 1, stage := at_ 2 1, dir := at_ 3 1, slotLink := at_ 4 1, portSub := at_ 5 1, matchKind := at_ 6 1,
    reorderDepth := at_ 7 1, count := at_ 8 4, interval := at_ 12 4, skip := at_ 16 4, corruptMask := BitVec.ofNat 32 (at_ 20 4),
    corruptDw := at_ 24 2 }

/-- The combinations that the table of R449 lists. -/
def comboListed (d : FinjDesc) : Bool :=
  match d.target, d.action, d.stage, d.matchKind with
  | 1, 1, 0, 0 | 1, 2, 0, 0 | 1, 1, 1, 1 | 1, 3, 1, 1 => true
  | 1, 2, 1, 2 => decide (d.dir = 0)
  | 1, 2, 1, 3 => decide (d.dir = 1)
  | 2, 1, 0, 0 | 2, 2, 0, 0 | 2, 3, 0, 0 => true
  | _, _, _, _ => false

/-- A descriptor with every field in its range (R445) and a listed combination (R449). The range of REORDER_DEPTH is asked of REORDER
only (DEDUCED, log 49). -/
def descValid (p : Nat) (d : FinjDesc) : Bool :=
  comboListed d && decide (d.dir ≤ 1) && decide (1 ≤ d.count) && decide (d.count ≤ 65535) &&
  (decide (d.action ≠ 3) || (decide (1 ≤ d.reorderDepth) && decide (d.reorderDepth ≤ 8))) &&
  (if d.target = 1 then decide (d.slotLink < p) && decide (d.portSub ≤ 1)
   else decide (d.slotLink < 8) && (decide (d.portSub ≤ 16) || decide (d.portSub = 0xFF)))

/-- A tagged member is in a slot. -/
def taggedMember (s : State) (x : Nat) : Bool := decide ((s.slot x).cls = .member) && slotTagged s x

/-- REFUSE of an arm, 0 when R447 allows it; of several codes the lowest (R446; DESIGN CHOICE, log 49). -/
def armRefusal (d : FinjDesc) (s : State) : Nat :=
  if authorised s 0 = false then 1
  else if s.mode.mode ≠ .serve ∨ causeCode s ≠ 0 then 2
  else if s.decks.decks.any fun p => decide (p.2.label.deckState ≠ 0) then 3
  else if d.target = 1 ∧ d.slotLink < s.slots ∧ d.portSub ≤ 1 ∧ portUsable s d.slotLink (otherPort d.portSub) = false then 4
  else if d.target = 2 ∧ (tblGet s.fabric.links d.slotLink {}).spareUsed = true then 5
  else if descValid s.slots d = false then 6
  else if d.target = 1 ∧ d.action = 2 ∧ d.stage = 1 ∧ taggedMember s d.slotLink = false then 7
  else if s.guard.finj.armed.isSome then 8
  else 0

/-- Arm a descriptor, or refuse it (R446 to R448). -/
def armFinj (d : FinjDesc) (s : State) : State :=
  let why := armRefusal d s
  if why = 0 then
    let f := { s.guard.finj with armed := some d, done := 0, toPass := d.skip }
    recordEvent 0xF010 [d.target, d.action, d.slotLink, d.count] { s with guard := { s.guard with finj := f } }
  else { s with guard := { s.guard with finj := { s.guard.finj with refuse := why } } }

/-- FINJ_ARM (R446, R447): by register, ignored without authorisation; by command, a refusal completes with Operation Denied (0x15),
Invalid Field (0x02) or Command Sequence Error (0x0C). The command's descriptor is 8 dwords long (R445; 05 R151): another length is Invalid Field. -/
def execFinjArm (byCmd : Option FinjCmd) (s : State) : Host.Outcome State Fault Refusal :=
  match byCmd with
  | none =>
    if !hubAnswers s then .next s
    else
      let s := hostArrives 1 s
      if authorised s 0 then .next (armFinj (descOf s.guard.finj.bytes) s) else .next s
  | some c =>
    if !adminTurn s c.ref then .next s
    else if authorised s 0 && decide (c.len ≠ 8) then .next (failCmd c.ref 0x02 s)
    else
      let why := armRefusal c.desc s
      let status := if why = 0 then 0 else if why = 1 then 0x15 else if why = 6 then 0x02 else 0x0C
      .next (endCmd c.ref status 0 (armFinj c.desc s))

/-- FINJ_DISARM (R446, R448). -/
def execFinjDisarm (byCmd : Option CmdRef) (s : State) : Host.Outcome State Fault Refusal :=
  match byCmd with
  | none =>
    if !hubAnswers s then .next s
    else
      let s := hostArrives 1 s
      if authorised s 0 then .next (disarmFinj 8 s) else .next s
  | some ref =>
    if !adminTurn s ref then .next s
    else if authorised s 0 then .next (commitCmd ref 0 0 (disarmFinj 8 s))
    else .next (failCmd ref 0x15 s)

/-- FINJ_EXPIRY (R448): 60 s after arming. -/
def execFinjExpiry (s : State) : Host.Outcome State Fault Refusal := .next (disarmFinj 2 s)

/-- A fault of the armed descriptor is injected (R448): event 0xF011; the last one disarms. -/
def countFault (a : FinjDesc) (s : State) : State :=
  let f := s.guard.finj
  let s := recordEvent 0xF011 [a.target, a.action, f.done + 1, 0]
    { s with guard := { s.guard with finj := { f with toPass := a.interval, done := f.done + 1 } } }
  if a.count ≤ f.done + 1 then disarmFinj 1 s else s

/-- A flit error that is reported on a link and sublink: the armed descriptor of a Glildo link takes it (R448, R449; log 49). -/
def injectFlit (link sub : Nat) (s : State) : State :=
  match s.guard.finj.armed with
  | none => s
  | some a => if a.target = 2 ∧ a.slotLink = link ∧ a.action ≠ 3 ∧ (a.portSub = 0xFF ∨ a.portSub = sub) then countFault a s else s

/-- Whether the armed descriptor of a Glildo link faults a flit that crosses the link in a direction on a sublink, with what has passed counted (R445: SKIP,
then INTERVAL between faults). -/
def flitFault (link dir sub : Nat) (s : State) : Option FinjDesc × State :=
  let f := s.guard.finj
  match f.armed with
  | none => (none, s)
  | some a =>
    if a.target = 2 ∧ a.slotLink = link ∧ a.dir = dir ∧ (a.portSub = 0xFF ∨ a.portSub = sub) then
      if f.toPass ≠ 0 then (none, { s with guard := { s.guard with finj := { f with toPass := f.toPass - 1 } } })
      else (some a, countFault a s)
    else (none, s)

end Sys2Proof.Machine
end

