-- ==== Sys2Proof/Machine/Fabric.lean ====
section
/-!
DEFINITION. The Glildo fabric, the parity blocks, region fences, hub halves and the checks of integer units and engines (01 R17 to R42;
06 R185; 15 R424, R425, R432; 17 R491 to R494).
-/

namespace Sys2Proof.Machine

/-! ## Shared operations -/

/-- Record a mismatch event of a unit, at most once per second for each unit (15 R432). -/
def noteOnce (unit code : Nat) (params : List Nat) (s : State) : State :=
  let fresh := match tblFind s.guard.noted (unit, code) with
    | some t => decide (t + 1000000000 ≤ s.now)
    | none => true
  if fresh then recordEvent code params { s with guard := { s.guard with noted := tblPut s.guard.noted (unit, code) s.now } } else s

/-- A flit residue mismatch in a unit: counted, event 0x8020 with the stream, and a correctable internal error (03 R96). -/
def noteResidue (unit stream : Nat) (s : State) : State :=
  aerAbsorbed <| noteOnce unit 0x8020 [unit, stream, 0, 0] { s with guard := { s.guard with residue := s.guard.residue + 1 } }

/-- A fault that no level can absorb (17 R494): T13. BOOT and RESTORE have no such transition: the condition is evaluated again in the mode of service
that follows (02 R47). -/
def noLevel (code detail : Nat) (s : State) : State :=
  if s.serving then enterQuarantine 13 code detail s
  else if s.mode.mode = .boot ∨ s.mode.mode = .restore then { s with mode := { s.mode with faultDue := s.mode.faultDue.orElse fun _ => some (code, detail) } }
  else s

/-- Block quarantined: event 0x8023 (01 R26). -/
def quarantineUnit (unit why : Nat) (s : State) : State :=
  recordEvent 0x8023 [unit, Config.blockReason why, 0, 0] { s with guard := { s.guard with quarantined := unit :: s.guard.quarantined } }

/-! ## Region fences (01 R31, R42; 06 R185) -/

/-- Some dirty page has no copy outside a region (R42). -/
def dirtyOnlyIn (s : State) (region : Nat) : Bool :=
  s.cache.dir.any fun e => decide (e.region = region) && isDirtyState e.state && (partnerOf e).isNone

/-- Some drive is served on a port of a region and on no other: its other port lies on a fenced region, or is contained, failed or not
usable (R42). -/
def driveOnlyIn (s : State) (region : Nat) : Option Nat :=
  (listedSlots s).find? fun x => (s.slot x).present && [0, 1].any fun port =>
    decide (portRegion s.slots x port = region) &&
    (s.cache.fenced.contains (portRegion s.slots x (otherPort port)) ||
      (portUsable s x port && !portUsable s x (otherPort port)))

/-- Commands whose pages are staged and not committed. -/
def stagedRefs (s : State) : List (CmdRef × WriteJob) :=
  s.ctls.flatMap fun c => c.2.sqs.flatMap fun q => q.rob.filterMap fun e =>
    match e.job with
    | some j => if robDone e || !j.step.hasFrames then none else some ({ ctl := c.1, sqid := q.id, cid := e.cid }, j)
    | none => none

/-- Stage the pages of a command again under the new placement (06 R185 step 4); where a set has no frame to give, it waits (R189). -/
def restage (x : CmdRef × WriteJob) (s : State) : State :=
  let parts := x.2.parts.map fun p => { p with home := none }
  match stageParts x.1 parts s.cache with
  | some (ps, c) => putJob x.1 { x.2 with parts := ps } { s with cache := c }
  | none => putJob x.1 { x.2 with parts := parts, step := .waiting } s

/-- The member ports of a region go out of use: each drive is served on its other port (R31). -/
def dropPorts (region : Nat) (s : State) : State :=
  (listedSlots s).foldl (fun s x => [0, 1].foldl (fun s port =>
    if portRegion s.slots x port = region then judgePorts x (evacuate x port (updPort x port (stopPort 0) s)) else s) s) s

/-- Ring links of a region: A–B is 4, B–C 5, C–D 6, D–A 7 (R21, R24). -/
def ringLinks (region : Nat) : List Nat := [4 + region, 4 + (region + 3) % 4]

/-- Link `i`. -/
def State.link (s : State) (i : Nat) : Link := tblGet s.fabric.links i {}

/-- The state with a link replaced. -/
def State.setLink (s : State) (i : Nat) (l : Link) : State := { s with fabric := { s.fabric with links := tblPut s.fabric.links i l } }

/-- Fence links. -/
def fenceLinks (ls : List Nat) (s : State) : State := ls.foldl (fun s i => s.setLink i { s.link i with fenced := true }) s

/-- Hops round the ring from a region to another, with the direction: links with rising letters when `up` (R24). -/
def ringHops (up : Bool) : Nat → Nat → Nat → List (Nat × Bool)
  | 0, _, _ => []
  | n + 1, src, dst =>
    if src = dst then []
    else if up then (4 + src, true) :: ringHops up n ((src + 1) % 4) dst
    else (4 + (src + 3) % 4, false) :: ringHops up n ((src + 3) % 4) dst

/-- Links from a region, or from the hub (4), to a region, with their directions (R24): the star link for the hub; between neighbours
their ring link; in two hops by the lowest bit of the stream; the other direction when a link on the way is fenced. -/
def routeOf (s : State) (src dst stream : Nat) : List (Nat × Bool) :=
  if src = dst then []
  else if src = 4 then [(dst, true)]
  else
    let up := if (src + 1) % 4 = dst then true else if (dst + 1) % 4 = src then false else decide (stream % 2 = 0)
    let way := ringHops up 4 src dst
    if way.any fun l => (s.link l.1).fenced then ringHops (!up) 4 src dst else way

/-- The region that a flit held back has reached: that of the receiver's buffer, or else where it began. -/
def flitAt (f : Transit) : Nat :=
  match f.held with
  | some (l, up) => if l < 4 then l else if up then (l + 1) % 4 else l - 4
  | none => f.src

/-- The flits that are held back are routed again after a fence (R24): each from the region that it has reached. What a fenced region held is lost
with it, and its issuing core, when it lives, sends it again (DEDUCED, log 115). -/
def reroute (s : State) : State :=
  let again := fun (f : Transit) =>
    if !s.cache.fenced.contains (flitAt f) then some { f with path := routeOf s (flitAt f) f.region f.tag.stream.toNat }
    else if s.cache.fenced.contains f.src then none
    else some { f with path := routeOf s f.src f.region f.tag.stream.toNat, held := none }
  { s with fabric := { s.fabric with transit := s.fabric.transit.filterMap again } }

/-- The parity blocks of a region stop, and the flits bound for them are dropped. -/
def stopBlocks (region : Nat) (s : State) : State :=
  let s := { s with fabric := { s.fabric with transit := s.fabric.transit.filter fun f => !decide (f.region = region) } }
  (List.range 9).foldl (fun s b =>
    s.setPblock region b { s.pblock region b with setups := [], lines := [], finished := [], waiting := [] }) s

/-- Fence a region (R31, R42; 06 R185 steps 1, 2 and 4, and the begin of step 3). A fault that would take the only copy of a dirty page
or both ports of a drive puts the controller in QUARANTINE instead. -/
def fenceRegion (region reason : Nat) (s : State) : State :=
  if s.cache.fenced.contains region then s
  else if s.serving && dirtyOnlyIn s region then noLevel 6 region s
  else if s.serving && !s.cache.fenced.isEmpty && (driveOnlyIn s region).isSome then noLevel 7 ((driveOnlyIn s region).getD 0) s
  else
    let jobs := stagedRefs s
    let s1 := { s with cache := fenceCache region s.cache }
    let s2 := jobs.foldl (fun s x => restage x s) s1
    let s3 := reroute (stopBlocks region (fenceLinks (region :: ringLinks region) s2))
    let s4 := recordEvent 0x8024 [region, reason, 0, 0] (settleAll (dropPorts region s3))
    let s5 := recordEvent 0x2004 [region, 0, (needPartner s4.cache).length, 0] { s4 with
      cache := { s4.cache with remirroring := region :: s4.cache.remirroring } }
    constraintEval (takeover (sourceOf (region + 1) 0) 2 200 0x8024 s5)

/-- Mirror every page again that has no partner (06 R185 step 3). A page whose set has no frame to give stays for destage. -/
def remirrorAll (c : Cache) : Cache := (needPartner c).foldl (fun c e => remirrorPage e c) c

/-- REMIRROR_COMPLETE (06 R185): the work of step 3 is done: event 0x2004. -/
def execRemirrorComplete (region : Nat) (s : State) : Host.Outcome State Fault Refusal :=
  if !s.hubPowered || !s.cache.remirroring.contains region then .next s
  else
    let n := (needPartner s.cache).length
    let c := accessPages ((needPartner s.cache).map fun e => (e.keyNs, e.vpage)) (remirrorAll s.cache)
    let c := { c with remirroring := c.remirroring.filter fun r => !decide (r = region) }
    .next (maybeReleaseImage (recordEvent 0x2004 [region, 1, n - (needPartner c).length, 0] { s with cache := c }))

/-! ## Glildo links (01 R21 to R25; 15 R432) -/

/-- SOURCE byte of a link: the Glildo unit of the region at its end, the first of the two for a ring link (16 R477). -/
def linkUnit (link : Nat) : Nat := sourceOf (link % 4 + 1) 0x12

/-- Regions that a set of regions reaches over one ring link more. -/
def reachMore (s : State) (fenced : List Nat) (set : List Nat) : List Nat :=
  (List.range 4).filter fun r => !fenced.contains r &&
    (set.contains r || (set.contains ((r + 3) % 4) && !(s.link (4 + (r + 3) % 4)).fenced) || (set.contains ((r + 1) % 4) && !(s.link (4 + r)).fenced))

/-- Every live region reaches every other over ring links that are not fenced. -/
def ringJoined (s : State) (fenced : List Nat) : Bool :=
  match (List.range 4).filter fun r => !fenced.contains r with
  | [] => true
  | r :: rs =>
    let reached := reachMore s fenced (reachMore s fenced (reachMore s fenced [r]))
    rs.all reached.contains

/-- A ring link is fenced and traffic takes the other direction (R24). Where that leaves live regions apart, the fence of a region at its
end absorbs the fault when it can (R27, DEDUCED, log 51), and else no level does. -/
def fenceRing (link : Nat) (s : State) : State :=
  let s1 := takeover (linkUnit link) 2 10 0 (reroute (fenceLinks [link] s))
  if ringJoined s1 s1.cache.fenced then s1
  else
    let ends := [link - 4, (link - 3) % 4].filter fun r => !s1.cache.fenced.contains r
    match ends.find? fun r => ringJoined s1 (r :: s1.cache.fenced) with
    | some r => fenceRegion r (Config.fenceReason 2) s1
    | none => noLevel 9 link s1

/-- A stalled link (R22): a ring link is fenced, a star link fences its region. -/
def stallLink (link : Nat) (s : State) : State :=
  if (s.link link).fenced then s
  else if link < 4 then fenceRegion link (Config.fenceReason 1) s
  else fenceRing link s

/-- A sublink goes out of service (R21): the spare takes its traffic, the second failed sublink narrows the link, and one more is taken as
a stalled link (R27, DEDUCED, log 51). -/
def spareSublink (link sub : Nat) (injected : Bool) (s : State) : State :=
  let l := s.link link
  let l' := { l with
    bad := sub :: l.bad, spareUsed := true, replays := l.replays.filter fun r => !decide (r.1 = sub)
    injected := if injected then sub :: l.injected else l.injected }
  let s1 := s.setLink link l'
  if l.bad.length < 2 then takeover (linkUnit link) 0 5 0x8020 s1 else stallLink link s1

/-! ## Parity blocks (01 R26 to R37) -/

/-- The streams open on a block that is quarantined go to other blocks of the region: their set-ups are written there, and each is issued
again from its first operand (R30): what the other block still held of a stream of that identifier goes. Several blocks take them in turn, and a
stream counts as open from its set-up until it is rejected or replaced, since no rule says when it closes (DESIGN CHOICE, log 114). -/
def moveStreams (region : Nat) (setups : Tbl Nat StreamSetup) (to_ : List Nat) (s : State) : State :=
  (setups.zip (List.range setups.length)).foldl (fun s x =>
    match to_[x.2 % max 1 to_.length]? with
    | some b =>
      emit (.reissue region b x.1.1)
        (s.setPblock region b
          { dropStream x.1.1 (s.pblock region b) with setups := tblPut (dropStream x.1.1 (s.pblock region b)).setups x.1.1 x.1.2, gated := false })
    | none => s) s

/-- Blocks of a region that are in use. -/
def activeBlocks (s : State) (region : Nat) : List Nat := (List.range 9).filter fun i => (s.pblock region i).active

/-- Quarantine a parity block (R30): the spare block takes its place and its streams; with the spare in use the other active blocks take
them, and a region with none left is fenced (R27). -/
def quarantineBlock (region block why : Nat) (s : State) : State :=
  let unit := sourceOf (region + 1) (8 + block)
  let b := s.pblock region block
  if b.quarantined || !b.active then s
  else
    let gone := { b with
      quarantined := true, active := false, setups := [], lines := [], finished := [], waiting := [] }
    let s1 := quarantineUnit unit why (s.setPblock region block gone)
    let spare := s1.pblock region 8
    let s2 :=
      if block ≠ 8 && !spare.active && !spare.quarantined then
        moveStreams region b.setups [8] (s1.setPblock region 8 { spare with active := true, gated := false })
      else
        let s2 := { s1 with fabric := { s1.fabric with
          short := if s1.fabric.short.contains region then s1.fabric.short else region :: s1.fabric.short } }
        moveStreams region b.setups (activeBlocks s2 region) s2
    if (activeBlocks s2 region).isEmpty then fenceRegion region (Config.fenceReason 5) s2 else takeover unit 1 60 0x8023 s2

/-- Retire a cell (R29): event 0x8022, and the spare cell takes its streams. A second failed cell quarantines the block. -/
def retireCell (region block cell : Nat) (s : State) : State :=
  let b := s.pblock region block
  if b.retiredCells.contains cell || !decide (cell < 3) then s
  else
    let s1 := recordEvent 0x8022 [region, block, cell, 0] (s.setPblock region block { b with retiredCells := cell :: b.retiredCells })
    if b.retiredCells.isEmpty then takeover (sourceOf (region + 1) (8 + block)) 0 2 0x8022 s1 else quarantineBlock region block 2 s1

/-- The 16 bytes of a flit tag as a number, each field at its bit offset (R32). -/
def packTag (t : FlitTag) : BitVec 128 :=
  t.stream.zeroExtend 128 ||| t.op.zeroExtend 128 <<< 12 ||| t.hand.zeroExtend 128 <<< 16 ||| t.chunk.zeroExtend 128 <<< 56 |||
  t.msyn.zeroExtend 128 <<< 62 ||| t.coefA.zeroExtend 128 <<< 64 ||| t.coefB.zeroExtend 128 <<< 72 ||| t.foff.zeroExtend 128 <<< 80 |||
  t.ares.zeroExtend 128 <<< 92 ||| t.fres.zeroExtend 128 <<< 96

/-- The fields of a flit tag from its 16 bytes (R32). -/
def unpackTag (w : BitVec 128) : FlitTag :=
  { stream := w.extractLsb' 0 12, op := w.extractLsb' 12 4, hand := w.extractLsb' 16 40, chunk := w.extractLsb' 56 6
    msyn := w.extractLsb' 62 2, coefA := w.extractLsb' 64 8, coefB := w.extractLsb' 72 8, foff := w.extractLsb' 80 12
    ares := w.extractLsb' 92 4, fres := w.extractLsb' 96 32 }

/-- The tag decoder rejects a flit (R36): a reserved OP, a CHUNK not below the width, an ARES that is wrong. R36 names these three; that an
MSYN other than the stream's and a stream without a set-up are rejected too, and that a PASS flit, which carries no parity work, is checked
for its ARES only, is a DESIGN CHOICE (log 115). -/
def tagRejected (b : PBlock) (t : FlitTag) : Bool :=
  decide (5 ≤ t.op.toNat) || decide (t.ares.toNat ≠ mod15 (t.hand.toNat + t.foff.toNat)) ||
  (decide (t.op.toNat ≠ 0) && (match tblFind b.setups t.stream.toNat with
    | some u => decide (u.width ≤ t.chunk.toNat) || decide (t.msyn.toNat ≠ u.msyn)
    | none => true))

/-- Reject a stream (R36): the issuing core issues it again once; a second rejection on the block quarantines it, and R30 moves its streams. Flits
of the stream that a link still holds back are dropped with it: the stream comes again whole (DESIGN CHOICE, log 115). -/
def rejectStream (region block stream : Nat) (s : State) : State :=
  let b := s.pblock region block
  let mine := fun (f : Transit) => decide (f.region = region) && decide (f.block = block) && decide (f.tag.stream.toNat = stream)
  let s := { s with fabric := { s.fabric with transit := s.fabric.transit.filter fun f => !mine f } }
  if b.rejected.isEmpty then
    emit (.reissue region block stream) (s.setPblock region block { dropStream stream b with rejected := [stream] })
  else quarantineBlock region block 1 (s.setPblock region block { b with rejected := stream :: b.rejected })

/-- A line for one more offset is free: at most four offsets of a stream and 128 streams (R34). -/
def lineFree (b : PBlock) (stream : Nat) : Bool :=
  let streams := b.lines.foldl (fun l x => if l.contains x.1.1 then l else x.1.1 :: l) []
  decide ((b.lines.filter fun l => decide (l.1.1 = stream)).length < 4) && (streams.contains stream || decide (streams.length < 128))

/-- An empty set of lines. -/
def zeroLine : AccLine := { count := 0, seeds := 0, lasts := 0, checks := 0, p := zeros 64, q := zeros 64, t := zeros 64 }

/-- One operand xored into the lines (R33, R35). -/
def accumulate (t : FlitTag) (d : Bytes) (l : AccLine) : AccLine :=
  { count := l.count + 1
    seeds := l.seeds + (if t.op.toNat = 1 then 1 else 0)
    lasts := l.lasts + (if t.op.toNat = 3 then 1 else 0)
    checks := l.checks + (if t.op.toNat = 4 then 1 else 0)
    p := xorBytes l.p d
    q := xorBytes l.q (gmulBytes t.coefA d)
    t := xorBytes l.t (gmulBytes t.coefB d) }

/-- The marks of a complete offset (R35). -/
def marksOk (n : Nat) (l : AccLine) : Bool := decide (l.lasts + l.checks = 1) && (decide (n < 2) || decide (l.seeds = 1))

/-- What an operand does in a block: the block, what it emits, and whether its stream is rejected. -/
structure OperandEnd where
  block : PBlock
  out : Option Out
  bad : Bool

/-- Take one operand that the tag decoder has passed (R34, R35). One that finds no line waits, and keeps its receiver buffer. -/
def takeOperand (region block : Nat) (o : Operand) (b : PBlock) : OperandEnd :=
  let t := o.tag
  let d := o.data
  let stream := t.stream.toNat
  let key := (stream, t.foff.toNat)
  match tblFind b.setups stream with
  | none => { block := b, out := none, bad := true }
  | some u =>
    if b.finished.contains key then { block := b, out := none, bad := true }
    else if !tblHas b.lines key && !lineFree b stream then { block := { b with waiting := b.waiting ++ [o] }, out := none, bad := false }
    else
      let l := accumulate t d (tblGet b.lines key zeroLine)
      if l.count < u.count then { block := { b with lines := tblPut b.lines key l }, out := none, bad := false }
      else
        let done := { b with lines := tblDel b.lines key, finished := key :: b.finished }
        if marksOk u.count l = false then { block := done, out := none, bad := true }
        else if u.check then
          let zero := (l.p ++ l.q ++ l.t).all fun x => decide (x = 0)
          { block := done, out := some (.checkFlag region block stream key.2 zero), bad := false }
        else { block := done, out := some (.parity region block stream key.2 l.p l.q l.t), bad := false }

/-- Bring an operand into the state. -/
def feedOperand (region block : Nat) (o : Operand) (s : State) : State :=
  let e := takeOperand region block o (s.pblock region block)
  let s1 := s.setPblock region block e.block
  let s2 := match e.out with
    | some o => emit o s1
    | none => s1
  if e.bad then rejectStream region block o.tag.stream.toNat s2 else s2

/-- A waiting operand finds a line now: its offset has one, or one more is free. -/
def mayTake (b : PBlock) (o : Operand) : Bool := tblHas b.lines (o.tag.stream.toNat, o.tag.foff.toNat) || lineFree b o.tag.stream.toNat

/-- Work class of an operand: that of its stream's set-up, 0 TRUMP to 6 SANITIZE (13 R378). -/
def operandClass (b : PBlock) (o : Operand) : Nat := ((tblFind b.setups o.tag.stream.toNat).map (·.cls)).getD 0

/-- Price of an operand in picojoules: 64 bytes of parity work at the start value of 20 µJ per MB, scaled by the measured cost of its class
(13 R370, R371). -/
def operandPrice (s : State) (region cls : Nat) : Nat := max 1 (1280 * costRatio s.sched cls (region + 1) / 65536)

/-- Quantum of a class in a region's blocks: its grant there, in picojoules (13 R378). -/
def classQuantum (s : State) (region cls : Nat) : Nat := 1000000 * ((s.sched.domGrants.getD cls []).getD (region + 1) 0).toNat

/-- Deficit round-robin among the classes with an operand that may be taken: the class served, from the one served last on, and the deficits that
it leaves. A class without work loses its deficit. -/
def drrTurn (price quantum : Nat → Nat) (has_ : Nat → Bool) : Nat → Nat → List Nat → Nat × List Nat
  | 0, c, d => (c, d)
  | n + 1, c, d =>
    if has_ c && decide (price c ≤ d.getD c 0) then (c, d.set c (d.getD c 0 - price c))
    else
      let d1 := if has_ c then d else d.set c 0
      let c1 := (c + 1) % 7
      drrTurn price quantum has_ n c1 (if has_ c1 then d1.set c1 (d1.getD c1 0 + quantum c1) else d1)

/-- The class whose turn it is in a block, with the block's deficits after it (R26; 13 R378); none when no class that has work holds tokens. -/
def classTurn (s : State) (region : Nat) (b : PBlock) : Option (Nat × List Nat) :=
  let has_ := fun c => (b.waiting.filter (mayTake b)).any fun o => decide (operandClass b o = c)
  let r := drrTurn (operandPrice s region) (classQuantum s region) has_ 15 b.drrClass b.deficit
  if has_ r.1 && (decide (0 < classQuantum s region r.1) || decide (r.2 ≠ b.deficit)) then some r else none

/-- The waiting operand whose turn it is (R26, R34): of the class whose turn it is, or of any class when none holds tokens; round-robin among streams
in the order of their identifiers, after the stream served last; of one stream, the oldest. The order of the round, and that work goes on without
tokens, are a DESIGN CHOICE (log 116). -/
def nextOperand (b : PBlock) (cls : Option Nat) : Option Operand :=
  let turn := fun (o : Operand) => (o.tag.stream.toNat + 4095 - b.served) % 4096
  (b.waiting.filter fun o => mayTake b o && cls.all fun c => decide (operandClass b o = c)).foldl (fun best o =>
    match best with
    | none => some o
    | some x => if turn o < turn x then some o else best) none

/-- Operands that wait are taken in their turn as long as lines are free (R34). -/
def feedWaiting (region block : Nat) : Nat → State → State
  | 0, s => s
  | n + 1, s =>
    let b := s.pblock region block
    let turn := classTurn s region b
    match nextOperand b (turn.map (·.1)) with
    | none => s
    | some o =>
      feedWaiting region block n
        (feedOperand region block o (s.setPblock region block { b with
          waiting := b.waiting.erase o, served := o.tag.stream.toNat
          drrClass := (turn.map (·.1)).getD b.drrClass, deficit := (turn.map (·.2)).getD b.deficit }))

/-- The coefficient stage's check (R37, R29): each mismatch is noted and counted (DEDUCED, log 117), a second one retires the cell. -/
def checkCell (region block stream : Nat) (c : CellCheck) (s : State) : State :=
  let unit := sourceOf (region + 1) (8 + block)
  match c with
  | .good => s
  | .once => noteResidue unit stream s
  | .twice cell => retireCell region block cell (noteResidue unit stream (noteResidue unit stream s))

/-- A set-up that the tag decoder can hold (R35): the operand count is 1 to 32. -/
def setupOk (u : StreamSetup) : Bool := decide (1 ≤ u.count) && decide (u.count ≤ 32)

/-- Flits that occupy a receiver buffer of a link in one direction: those held back after crossing it, and operands that wait in a block
(R22, R34). -/
def buffersUsed (s : State) (via : Nat × Bool) : Nat :=
  (s.fabric.transit.filter fun f => decide (f.held = some via)).length +
  s.fabric.blocks.foldl (fun n b => n + (b.2.waiting.filter fun o => decide (o.via = some via)).length) 0

/-- The sender has a credit of a link in one direction: the receiver has a flit buffer free (R22). -/
def hasCredit (s : State) (via : Nat × Bool) : Bool := decide (buffersUsed s via < Config.linkCredits)

/-- A flit crosses links as long as each gives a credit: the links still to cross, and the buffer it then occupies (R22). -/
def crossLinks (s : State) : List (Nat × Bool) → Option (Nat × Bool) → List (Nat × Bool) × Option (Nat × Bool)
  | [], at_ => ([], at_)
  | l :: ls, at_ => if !(s.link l.1).fenced && hasCredit s l then crossLinks s ls (some l) else (l :: ls, at_)

/-- A flit has reached its parity block (R33 to R37): a rejected one, a PASS flit, which goes on unchanged, or an operand. A block that is not
in use takes nothing. -/
def arrive (f : Transit) (s : State) : State :=
  let b := s.pblock f.region f.block
  if !b.active || s.cache.fenced.contains f.region then s
  else if tagRejected b f.tag then rejectStream f.region f.block f.tag.stream.toNat s
  else if f.tag.op.toNat = 0 then emit (.flit f.region f.block (packTag f.tag) f.data) s
  else
    let s1 := checkCell f.region f.block f.tag.stream.toNat f.check s
    if (s1.pblock f.region f.block).active then
      let s2 := feedOperand f.region f.block { tag := f.tag, data := f.data, via := f.held } s1
      feedWaiting f.region f.block (s2.pblock f.region f.block).waiting.length s2
    else s1

/-- Send a flit: it goes as far as credits let it, and arrives or is held back. -/
def sendFlit (f : Transit) (s : State) : State :=
  let w := crossLinks s f.path f.held
  if w.1.isEmpty then arrive { f with path := [], held := w.2 } s
  else { s with fabric := { s.fabric with transit := s.fabric.transit ++ [{ f with path := w.1, held := w.2 }] } }

/-- Flits that were held back are sent on, oldest first (R22). -/
def sendHeld (s : State) : State :=
  s.fabric.transit.foldl (fun s f =>
    if s.fabric.transit.contains f then sendFlit f { s with fabric := { s.fabric with transit := s.fabric.transit.erase f } } else s) s

/-- What regionFault does once it is handled. -/
def handleRegionFault (region reason : Nat) (s : State) : State :=
  if s.hubPowered && decide (region < 4) then (noteAll s (sendHeld (fenceRegion region reason s))) else s

/-- REGION_FAULT (R31). -/
def execRegionFault (region reason : Nat) (s : State) : Host.Outcome State Fault Refusal :=
  .next (if switching s then deferEvent (.regionFault region reason) s else handleRegionFault region reason s)

/-- What glildoLinkStall does once it is handled. -/
def handleGlildoLinkStall (link : Nat) (s : State) : State :=
  if s.hubPowered && decide (link < 8) then (noteAll s (sendHeld (stallLink link s))) else s

/-- GLILDO_LINK_STALL (R22). -/
def execGlildoLinkStall (link : Nat) (s : State) : Host.Outcome State Fault Refusal :=
  .next (if switching s then deferEvent (.glildoLinkStall link) s else handleGlildoLinkStall link s)

/-- A flit that a receiver of a link discards is replayed (15 R432); the third failure of a sublink within 1 ms spares it. -/
def failFlit (link sub : Nat) (injected : Bool) (s : State) : State :=
  let l := s.link link
  let recent := (sub, s.now) :: (l.replays.filter fun r => decide (s.now ≤ r.2 + 1000000))
  let s := s.setLink link { l with replays := recent }
  if 3 ≤ (recent.filter fun r => decide (r.1 = sub)).length then spareSublink link sub injected s else s

/-- A flit crosses a link (15 R448, R449): the armed descriptor may drop or corrupt it, and it is replayed; one that is reordered is no error. Its sublink
is a free value, the spare taking a failed one's place (log 49). -/
def crossFault (stream : Nat) (l : Nat × Bool) (s : State) : State :=
  let n := Config.sublinkOf s.freeCtr % 16
  let sub := if (s.link l.1).bad.contains n then 16 else n
  let (fault, s) := flitFault l.1 (if l.2 then 0 else 1) sub { s with freeCtr := s.freeCtr + 1 }
  match fault with
  | none => s
  | some a =>
    if a.action = 3 then s
    else failFlit l.1 sub true (if a.action = 2 then noteResidue (linkUnit l.1) stream s else s)

/-- GLILDO_FLIT_ERROR (R432): the flit is replayed; the third failure of a sublink within 1 ms spares it. -/
def execGlildoFlitError (link sub : Nat) (s : State) : Host.Outcome State Fault Refusal :=
  let l := s.link link
  if !s.hubPowered || !decide (link < 8) || !decide (sub < 17) || l.fenced || l.bad.contains sub || (decide (sub = 16) && !l.spareUsed) then .next s
  else
    let armed := match s.guard.finj.armed with | some a => decide (a.target = 2) && decide (a.slotLink = link) | none => false
    .next (noteAll s (sendHeld (failFlit link sub armed (noteResidue (linkUnit link) 0 (injectFlit link sub s)))))

/-- PARITY_OPERAND (R22 to R24, R32 to R37). A set-up goes to the tag decoder; the flit travels from the issuing region, or the hub, over
the links of R24. A receiver discards a flit whose FRES is not the residue of its data, and the sender replays it (15 R432). Work that arrives at a gated block ends
its gating (13 R382). -/
def execParityOperand (way : FlitWay) (block : Nat) (tag : FlitTag) (data : Bytes) (check : CellCheck) (setup : Option StreamSetup) (s : State) :
    Host.Outcome State Fault Refusal :=
  let src := way.src
  let region := way.region
  let b := s.pblock region block
  let stream := tag.stream.toNat
  if !s.hubPowered || !decide (src ≤ 4) || !decide (region < 4) || !decide (block < 9) || s.cache.fenced.contains region ||
      s.cache.fenced.contains src || !b.active || !(setup.all setupOk) then .next s
  else
    let b1 := match setup with
      | some u => { dropStream stream b with setups := tblPut (dropStream stream b).setups stream u, gated := false }
      | none => { b with gated := false }
    let s1 := s.setPblock region block b1
    let d := fitBytes 64 data
    if tag.fres ≠ flitResidue d then .next (noteResidue (sourceOf (region + 1) 0x12) stream s1)
    else
      let s2 := (routeOf s1 src region stream).foldl (fun s l => crossFault stream l s) s1
      let f : Transit :=
        { src := src, region := region, block := block, tag := tag, data := d, check := check, path := routeOf s2 src region stream, held := none }
      .next (noteAll s (sendHeld (sendFlit f s2)))

/-! ## Hub halves and units of the hub (01 R17, R26; 03 R72; 15 R424, R425, R432) -/

/-- NVMe controllers that a hub half normally serves (03 R72). -/
def halfCtls (s : State) (half : Nat) : List Nat := if s.power.hostBif then [half + 1] else [1]

/-- Hub common units, SOURCE units 0x05 to 0x0A (01 R16, 16 R477). -/
def commonUnits : List Nat := [5, 6, 7, 8, 9, 10]

/-- A hub half can take over everything of the other: it is in service with its queue engine, its crypto engine set and its copies of the
common units (01 R27). -/
def halfWhole (s : State) (half : Nat) : Bool :=
  !s.mode.halfDown.getD half false && !s.mode.engineDown.getD half false && !s.mode.cryptoDown.getD half false &&
  !(s.mode.commonDown.any fun c => decide (c.2 = half))

/-- A hub half fails over (03 R72): event 0x8025, and its copies of the common units give way. With both down, code 0x08; with a unit of
the other half out of service no level absorbs the fault (01 R27). -/
def failHalf (half : Nat) (s : State) : State :=
  if s.mode.halfDown.getD half false then s
  else
    let s1 := { s with mode := { s.mode with halfDown := s.mode.halfDown.set half true } }
    let s2 := recordEvent 0x8025 [half, 0, 0, 0] s1
    if s.mode.halfDown.getD (1 - half) false then noLevel 8 half s2
    else if !halfWhole s (1 - half) then noLevel 9 (sourceOf 0 (1 + half)) s2
    else
      let s3 := moveQueues half { s2 with mode := { s2.mode with
        activeHalf := 1 - half, commonHalf := s2.mode.commonHalf.map fun _ => 1 - half } }
      let s4 := takeover (sourceOf 0 (1 + half)) 3 200 0x8025 s3
      if s4.decks.decks.isEmpty then s4 else anaChanged (halfCtls s4 half) s4

/-- HUB_HALF_FAULT (03 R72). -/
def execHubHalfFault (half : Nat) (s : State) : Host.Outcome State Fault Refusal :=
  if s.hubPowered && decide (half < 2) then .next (failHalf half s) else .next s

/-- LOCKSTEP_MISMATCH (15 R432): the pair restarts; a second mismatch within 10 s fences the region or fails over the hub half. -/
def execLockstepMismatch (die half : Nat) (s : State) : Host.Outcome State Fault Refusal :=
  if !s.hubPowered || !decide (die ≤ 4) || !decide (half < 2) || (decide (die ≠ 0) && s.cache.fenced.contains (die - 1)) then .next s
  else
    let key := (die, if die = 0 then half else 0)
    let again := match tblFind s.guard.lockstepAt key with
      | some t => decide (s.now < t + 10000000000)
      | none => false
    let s1 := { s with guard := { s.guard with lockstepAt := tblPut s.guard.lockstepAt key s.now } }
    if again then
      if die = 0 then .next (failHalf half s1) else .next (noteAll s (fenceRegion (die - 1) (Config.fenceReason 3) s1))
    else .next (takeover (sourceOf die (if die = 0 then 1 + half else 1)) 1 150 0 s1)

/-- A queue engine is quarantined: the other half's engine takes its work while it can (15 R432; 01 R27). -/
def failEngine (half : Nat) (s : State) : State :=
  let unit := sourceOf 0 (3 + half)
  if s.mode.engineDown.getD half false then s
  else
    let s1 := quarantineUnit unit 3 { s with mode := { s.mode with engineDown := s.mode.engineDown.set half true } }
    if s.mode.engineDown.getD (1 - half) false || s.mode.halfDown.getD (1 - half) false then noLevel 9 unit s1
    else takeover unit 1 100 0x8023 (moveQueues half s1)

/-- The active copy of a hub common unit is quarantined: the copy in the other half takes over (01 R17); with that copy or its half out
of service no level absorbs the fault (01 R27). -/
def failCommon (unit : Nat) (s : State) : State :=
  let n := unit % 32
  let half := s.mode.commonHalf.getD (n - 5) 0
  let s1 := quarantineUnit unit 3 { s with mode := { s.mode with commonDown := (n, half) :: s.mode.commonDown } }
  if s.mode.halfDown.getD (1 - half) false || s.mode.commonDown.contains (n, 1 - half) then noLevel 9 unit s1
  else takeover unit 1 200 0x8023 { s1 with mode := { s1.mode with commonHalf := s1.mode.commonHalf.set (n - 5) (1 - half) } }

/-- Quarantine the unit that a SOURCE byte names, at the block level of 01 R26; a unit without a spare at that level is escalated (R27;
which units have one is DEDUCED, log 51). -/
def quarantineSource (source : Nat) (s : State) : State :=
  let die := source / 32
  let unit := source % 32
  if die = 0 then
    if unit = 1 ∨ unit = 2 then failHalf (unit - 1) s
    else if unit = 3 ∨ unit = 4 then failEngine (unit - 3) s
    else if 5 ≤ unit ∧ unit ≤ 0x0A then failCommon source s
    else s
  else if die ≤ 4 then
    if s.cache.fenced.contains (die - 1) then s
    else if 8 ≤ unit ∧ unit ≤ 0x10 then quarantineBlock (die - 1) (unit - 8) 3 s
    else if unit = 2 ∨ unit = 3 then failChannel (2 * (die - 1) + (unit - 2)) (Config.blockReason 3) (quarantineUnit source 3 s)
    else if unit = 0x11 then
      if (driveOnlyIn s (die - 1)).isSome then fenceRegion (die - 1) (Config.fenceReason 4) (quarantineUnit source 3 s)
      else takeover source 1 60 0x8023 (settleAll (dropPorts (die - 1) (quarantineUnit source 3 s)))
    else if unit ≤ 0x12 then fenceRegion (die - 1) (Config.fenceReason 4) s
    else s
  else if die = 5 ∧ unit ≤ 5 then sentinelLost (quarantineUnit source 3 s)
  else s

/-- MOD15_MISMATCH (15 R425): repeated once; a second mismatch of the unit within 1 s quarantines it. -/
def execMod15Mismatch (source : BitVec 8) (s : State) : Host.Outcome State Fault Refusal :=
  let unit := source.toNat
  if !s.hubPowered then .next s
  else
    let again := match tblFind s.guard.mod15At unit with
      | some t => decide (s.now < t + 1000000000)
      | none => false
    let s1 := { s with guard := { s.guard with mod15 := s.guard.mod15 + 1, mod15At := tblPut s.guard.mod15At unit s.now } }
    let s2 := noteOnce unit 0x8021 [unit, 0, 0, 0] s1
    if again then .next (noteAll s (quarantineSource unit s2)) else .next (aerAbsorbed s2)

/-- CRYPTO_RESIDUE_MISMATCH (15 R424): repeated once; a second mismatch quarantines the engine set, and the other half's set takes over. -/
def execCryptoResidueMismatch (half : Nat) (second : Bool) (s : State) : Host.Outcome State Fault Refusal :=
  let unit := sourceOf 0 0
  if !s.hubPowered || !decide (half < 2) || s.mode.cryptoDown.getD half false then .next s
  else
    let s1 := noteResidue unit 0 s
    if second = false then .next s1
    else
      let s1 := noteResidue unit 0 s1
      let s2 := quarantineUnit unit 4 { s1 with mode := { s1.mode with cryptoDown := s1.mode.cryptoDown.set half true } }
      if s.mode.cryptoDown.getD (1 - half) false || s.mode.halfDown.getD (1 - half) false then .next (noLevel 9 unit s2) else .next (takeover unit 1 50 0x8023 s2)

end Sys2Proof.Machine
end

