-- ==== Sys2Proof/Machine/Trust.lean ====
section
/-!
DEFINITION. Trust: firmware slots, fuses, the heartwood log, SPDM, the owner, calibration writes and the recorder's freeze and spill
(03 R99, R100; 04 R138; 14 R406; 16 R450 to R484).
-/

namespace Sys2Proof.Machine

/-! ## Recorder (R482, R483) -/

/-- Append a record to the spill area: with all 32 sectors full, the sector with the oldest records is erased. -/
def spillOne (l : List EventRec) (r : EventRec) : List EventRec := if l.length < 65536 then l ++ [r] else l.drop 2048 ++ [r]

/-- SPILL_BATCH (R483): the waiting records up to what the limit of 1,024 in ten batches leaves; the rest counts in SPILL_LOST. -/
def execSpillBatch (s : State) : Host.Outcome State Fault Refusal :=
  if !hubAnswers s then .next s
  else
    let r := s.recorder
    let n := min r.spillWait.length (1024 - sumOf r.spillBatches)
    let r' := { r with
      spill := (r.spillWait.take n).foldl spillOne r.spill
      spillWait := []
      spillBatches := (n :: r.spillBatches).take 9
      spillLost := r.spillLost + (r.spillWait.length - n) }
    .next { s with recorder := r' }

/-- The catch-up of BOOT (R483): records of the sentinel ring that belong in the spill area and are newer than its newest record. -/
def spillCatchUp (s : State) : State :=
  let r := s.recorder
  let due := r.sentRing.filter fun x => spills x && afterSpill r x
  { s with recorder := { r with spill := due.foldl spillOne r.spill, spillWait := [] } }

/-- RECORDER_FREEZE (R482). -/
def execRecorderFreeze (ref : CmdRef) (s : State) : Host.Outcome State Fault Refusal :=
  if adminTurn s ref then .next (commitCmd ref 0 0 (freezeRing false s)) else .next s

/-- RECORDER_THAW (R482). -/
def execRecorderThaw (ref : CmdRef) (s : State) : Host.Outcome State Fault Refusal :=
  if adminTurn s ref then .next (commitCmd ref 0 0 (thawRing s)) else .next s

/-- Write FROZEN (R481, R482). -/
def writeFrozen (frozen : Bool) (s : State) : State := if frozen then freezeRing false s else thawRing s

/-- EVR_FREEZE_WRITE (R481): live while CC.EN = 1. -/
def execEvrFreezeWrite (frozen : Bool) (s : State) : Host.Outcome State Fault Refusal :=
  if hubAnswers s then .next (writeFrozen frozen (hostArrives 1 s)) else .next s

/-! ## Firmware images (R456 to R462) -/

/-- Image of a slot. -/
def imageOf (t : Trust) (slot : Nat) : Option FwImage := if slot = 1 then t.image1 else if slot = 2 then t.image2 else none

/-- The state with the image of a slot replaced. -/
def putImage (slot : Nat) (i : Option FwImage) (s : State) : State :=
  if slot = 1 then { s with trust := { s.trust with image1 := i } } else { s with trust := { s.trust with image2 := i } }

/-- The format check of R457: MAGIC, VERSION, FSL_LEN at most 256 KiB (R456), and both loaders inside 8 MiB. -/
def imageFormatOk (i : FwImage) : Bool :=
  decide (i.magic = 0x4D49574656445357 ∧ i.version = 1 ∧ i.fslLen ≤ 262144) &&
    decide (i.fslOffset + i.fslLen ≤ 8388608 ∧ i.mainOffset + i.mainLen ≤ 8388608)

/-- The digests of the loaders, as measured, are those of the header (R457). -/
def imageDigestsOk (i : FwImage) : Bool := decide (i.fslMeasured = i.fslDigest ∧ i.mainMeasured = i.mainDigest)

/-- The check that an image fails (R457, event 0x9002): 1 format, 2 key, 3 signature, 4 digest, 5 SVN; 0 when it verifies. -/
def imageFault (t : Trust) : Option FwImage → Nat
  | none => 1
  | some i =>
    if imageFormatOk i = false then 1
    else if i.keyOk = false ∨ t.keyRevoke.getLsbD i.keyIndex = true then 2
    else if i.sigOk = false then 3
    else if imageDigestsOk i = false then 4
    else if i.svn < t.fwSvn then 5 else 0

/-- The image of a slot verifies. -/
def slotVerifies (t : Trust) (slot : Nat) : Bool := decide (imageFault t (imageOf t slot) = 0)

/-- Payload of slot control: ACTIVE_SLOT, PENDING_SLOT, 14 reserved bytes (R458). -/
def slotControl (p : Nat × Nat) : Bytes := leBytes 1 p.1 ++ leBytes 1 p.2 ++ zeros 14

/-- Write slot control (R455, R458). -/
def putSlots (active pending : Nat) (s : State) : State :=
  let t := s.trust
  { s with trust := { t with
      activeSlot := active, pendingSlot := pending, slotFlash := pairPut "WSDVSLOT" slotControl (active, pending) t.slotFlash } }

/-- Slot control as boot flash holds it: 1 and 0 when no valid copy exists (R458). -/
def loadSlots (s : State) : State :=
  let p := (pairItem "WSDVSLOT" slotControl s.trust.slotFlash).getD (1, 0)
  { s with trust := { s.trust with activeSlot := p.1, pendingSlot := p.2 } }

/-- Boot from a slot (R459). -/
def bootSlot (slot first : Nat) (s : State) : State :=
  let s := if slot = s.trust.pendingSlot then putSlots slot 0 s else s
  let t := s.trust
  let s := { s with trust := { t with running := slot, image := imageOf t slot, fallback := decide (slot ≠ first) } }
  if slot = first then s else recordEvent 0x9003 [slot, first, 0, 0] s

/-- A slot that fails verification: event 0x9002, and a pending slot is pending no more (R459). -/
def rejectSlot (slot : Nat) (s : State) : State :=
  let s := recordEvent 0x9002 [slot, imageFault s.trust (imageOf s.trust slot), 0, 0] s
  if s.trust.pendingSlot = slot then putSlots s.trust.activeSlot 0 s else s

/-- The boot ROM chooses a slot, or runs the recovery loader (R459). -/
def chooseSlot (s : State) : State :=
  let s := loadSlots s
  let t := s.trust
  let first := if t.pendingSlot ≠ 0 then t.pendingSlot else t.activeSlot
  let other := 3 - first
  let s := { s with trust := { t with pendingTried := decide (t.pendingSlot ≠ 0) } }
  if slotVerifies s.trust first then bootSlot first first s
  else
    let s := rejectSlot first s
    if slotVerifies s.trust other then bootSlot other first s
    else
      let s := rejectSlot other s
      { s with
        trust := { s.trust with running := 0, image := none, fallback := false }
        mode := { s.mode with bootFault := 3 } }

/-- The value that FW_SVN is raised to at the end of a boot (R461): the lower SVN of two images that both verify; with one that does not, none is
(DEDUCED, log 54). -/
def svnTarget (t : Trust) : Nat :=
  match t.image with
  | some i =>
    if i.raiseSvn then max t.fwSvn i.svn
    else
      match t.image1, t.image2 with
      | some a, some b =>
        if slotVerifies t 1 && slotVerifies t 2 then max t.fwSvn (min a.svn b.svn) else t.fwSvn
      | _, _ => t.fwSvn
  | none => t.fwSvn

/-- Raise FW_SVN (R461): event 0x9004. -/
def raiseSvn (s : State) : State :=
  let new := min 64 (svnTarget s.trust)
  if s.trust.fwSvn < new then recordEvent 0x9004 [s.trust.fwSvn, new, 0, 0] { s with trust := { s.trust with fwSvn := new } } else s

/-- Blow the KEY_REVOKE bits that the running image asks for, never its own key's (R462): event 0x9006 for each. -/
def revokeKeys (s : State) : State :=
  match s.trust.image with
  | none => s
  | some i =>
    [0, 1, 2, 3].foldl (fun s n =>
      if i.revoke.getLsbD n && decide (n ≠ i.keyIndex) && !s.trust.keyRevoke.getLsbD n then
        recordEvent 0x9006 [n, i.keyIndex, 0, 0] { s with trust := { s.trust with keyRevoke := s.trust.keyRevoke ||| BitVec.ofNat 4 (2 ^ n) } }
      else s) s

/-! ## The heartwood log (R463 to R471) -/

/-- SHA-384 as it stands in a structure. -/
def digest (bs : Bytes) : Bytes := beBytes 48 (Config.sha384 bs)

/-- The newest entry, a held one included (R471). -/
def lastEntry (t : Trust) : Option HwEntry := match t.held with | some h => some h | none => t.entries.getLast?

/-- Every entry, the held one last. -/
def allEntries (t : Trust) : List HwEntry := t.entries ++ t.held.toList

/-- All bytes of an entry (R464). -/
def entryBytes (kind units seqNo : Nat) (prev : Option HwEntry) (s : State) (body : Bytes) : Bytes :=
  let prevHash := match prev with | some p => digest p.bytes | none => zeros 48
  let header := asciiBytes "HWST" ++ leBytes 1 kind ++ leBytes 1 1 ++ leBytes 2 units ++ leBytes 4 seqNo ++ zeros 4 ++ prevHash ++
    leBytes 8 s.mode.bootCount ++ leBytes 8 s.recTime.toNat ++ leBytes 8 Config.dsn.toNat ++ zeros 8
  let signed := fitBytes (units * 512 - 96) (header ++ body)
  signed ++ fitBytes 96 (Config.sign deviceIdPrivate signed)

/-- A member record of 80 bytes (R466). -/
def memberRecBytes (m : MemberRec) : Bytes :=
  leBytes 1 m.slot ++ leBytes 1 m.cls ++ leBytes 1 ((if m.spdm then 1 else 0) + if m.late then 2 else 0) ++ leBytes 1 m.afi ++ zeros 4 ++
    leBytes 8 m.fr.toNat ++ leBytes 16 m.nguid ++ beBytes 48 m.measure

/-- Body of a MEMBERS entry (R466). -/
def membersBody (l : List MemberRec) : Bytes := leBytes 1 l.length ++ zeros 15 ++ l.flatMap memberRecBytes

/-- Units of a MEMBERS entry (R466). -/
def membersUnits (n : Nat) : Nat := ceilDiv (208 + 80 * n) 512

/-- SHA-384 of the calibration record in force, of the owner key, and of the body of the MEMBERS entry in force (R465). -/
def calDigest (s : State) : Bytes := digest (calBytes s.gauge.cal)
def ownerDigest (t : Trust) : Bytes := match t.ownerKey with | some k => digest (beBytes 96 k) | none => zeros 48
def membersDigest (t : Trust) : Bytes := match t.members with | some m => digest (membersBody m.2) | none => zeros 48

/-- The Alias private key of the running image (R452). The recovery loader has none. -/
def aliasOf (t : Trust) : Nat := (t.image.map fun i => aliasPrivate i.fslDigest i.mainDigest i.svn).getD 0

/-- The Alias public key of the running image (R452). -/
def aliasKey (t : Trust) : Bytes :=
  match t.image with
  | some _ => Config.p384Public (aliasOf t)
  | none => []

/-- Body of a BOOT entry (R465). -/
def bootBody (stopState : Nat) (s : State) : Bytes :=
  let t := s.trust
  let flags := (if t.fallback then 1 else 0) + (if t.running = 0 then 2 else 0) + (if t.calDefault then 4 else 0) +
    (if t.certInvalid then 8 else 0) + (if t.pendingTried then 16 else 0)
  let i := t.image
  let nat := fun (f : FwImage → Nat) => (i.map f).getD 0
  leBytes 1 t.running ++ leBytes 1 flags ++ leBytes 1 (if s.power.hostBif then 1 else 0) ++ leBytes 1 s.power.mbrCfg.toNat ++
    leBytes 1 s.mode.rcvLastCause ++ leBytes 1 stopState ++ zeros 2 ++ leBytes 4 (nat (·.svn)) ++ leBytes 4 (min 64 (svnTarget t)) ++
    leBytes 8 (nat (·.fwRev.toNat)) ++ beBytes 48 (nat (·.fslDigest)) ++ beBytes 48 (nat (·.mainDigest)) ++ calDigest s ++ ownerDigest t ++
    membersDigest t ++ leBytes 4 ((t.members.map fun m : Nat × List MemberRec => m.1).getD 0) ++ leBytes 4 Config.romVersion ++ digest (aliasKey t)

/-- Open the next segment (R470): an erased one after the present one, or the one with the lowest SEQ, which is erased: event 0x9021.
The second part tells that the segment erased held the MEMBERS entry in force. -/
def openSegment (s : State) : State × Bool :=
  let t := s.trust
  let cur := (t.nextUnit - 1) / 2048
  let order := (List.range 44).map fun i => (cur + 1 + i) % 44
  match order.find? fun g => t.erased.contains g with
  | some g => ({ s with trust := { t with nextUnit := g * 2048, erased := t.erased.filter fun x => !decide (x = g) } }, false)
  | none =>
    match t.entries with
    | [] => ({ s with trust := { t with nextUnit := (cur + 1) % 44 * 2048 } }, false)
    | e :: _ =>
      let g := (e.unitAt.getD 0) / 2048
      let inSeg := fun (u : Nat) => decide (u / 2048 = g)
      let gone := t.entries.filter fun x => inSeg (x.unitAt.getD 0)
      let lostMembers := match t.members with | some m => gone.any fun x => decide (x.seqNo = m.1) | none => false
      let t' := { t with
        nextUnit := g * 2048, entries := t.entries.filter fun x => !inSeg (x.unitAt.getD 0)
        garbage := t.garbage.filter fun u => !inSeg u, erasedCount := t.erasedCount + 1 }
      (recordEvent 0x9021 [g, e.seqNo, 0, 0] { s with trust := t' }, lostMembers)

/-- Event 0x9022, once per boot while fewer than four segments are erased (R470). -/
def noteLow (s : State) : State :=
  if s.trust.erased.length < 4 && !s.trust.lowNoted then
    recordEvent 0x9022 [s.trust.erased.length, 0, 0, 0] { s with trust := { s.trust with lowNoted := true } }
  else s

/-- An entry of the next SEQ, not yet programmed. -/
def makeEntry (kind units : Nat) (body : Bytes) (s : State) : HwEntry :=
  let prev := lastEntry s.trust
  let n := ((prev.map (·.seqNo)).getD 0) + 1
  { seqNo := n, kind := kind, units := units, unitAt := none, bootCount := s.mode.bootCount, body := body,
    bytes := entryBytes kind units n prev s body }

/-- An entry of `units` does not fit in what is left of the segment (R464). -/
def needsSegment (t : Trust) (units : Nat) : Bool := decide (t.nextUnit % 2048 = 0 ∧ t.nextUnit ≠ 0) || decide (2048 < t.nextUnit % 2048 + units)

/-- Program an entry at the next units: event 0x9001. -/
def programEntry (e : HwEntry) (s : State) : State :=
  let t := s.trust
  recordEvent 0x9001 [e.seqNo, e.kind, e.units, 0]
    { s with trust := { t with entries := t.entries ++ [{ e with unitAt := some t.nextUnit }], nextUnit := t.nextUnit + e.units } }

/-- Room for an entry: a new segment where it needs one, with a fresh copy of the MEMBERS entry where the erased segment held it (R470;
the copy follows the erase, log 53). -/
def roomFor (units : Nat) (s : State) : State :=
  if needsSegment s.trust units then
    let (s1, lost) := openSegment s
    let s2 := noteLow s1
    match lost, s2.trust.members with
    | true, some m =>
      let e := makeEntry 3 (membersUnits m.2.length) (membersBody m.2) s2
      let s3 := programEntry e s2
      { s3 with trust := { s3.trust with members := some (e.seqNo, m.2) } }
    | _, _ => s2
  else s

/-- Program a held entry (R468). -/
def programHeld (s : State) : State :=
  match s.trust.held with
  | some h => programEntry h (roomFor h.units { s with trust := { s.trust with held := none } })
  | none => s

/-- Append an entry (R464, R468); a held entry goes first, since the new one's PREV_HASH covers it (log 53). -/
def hwAppend (kind units : Nat) (body : Bytes) (s : State) : State :=
  let s1 := roomFor units (programHeld s)
  programEntry (makeEntry kind units body s1) s1

/-- A unit that a failed program leaves behind (R468). -/
def wasteUnit (s : State) : State :=
  let s1 := roomFor 1 s
  { s1 with trust := { s1.trust with garbage := s1.trust.garbage ++ [s1.trust.nextUnit], nextUnit := s1.trust.nextUnit + 1 } }

/-- The BOOT entry (R467, R468): after eight failed attempts it is held, with event 0x9023. -/
def appendBoot (ok : Bool) (stopState : Nat) (s : State) : State :=
  let body := bootBody stopState s
  if ok then hwAppend 1 1 body s
  else
    let s1 := (List.range 8).foldl (fun s _ => wasteUnit s) s
    let e := makeEntry 1 1 body s1
    recordEvent 0x9023 [e.seqNo, 8, 0, 0] { s1 with trust := { s1.trust with held := some e } }

/-- HEARTWOOD_APPEND_RETRY (R468): every 60 s while an entry is held. -/
def execHeartwoodAppendRetry (ok : Bool) (s : State) : Host.Outcome State Fault Refusal :=
  if !hubAnswers s || s.trust.held.isNone then .next s
  else if ok then .next (programHeld s)
  else .next (wasteUnit s)

/-- Append a MEMBERS entry when the set of records differs from the one in force (R463, R467). -/
def appendMembers (s : State) : State :=
  let now_ := s.trust.measured
  let old := (s.trust.members.map fun m : Nat × List MemberRec => m.2)
  if old = some now_ then s
  else
    let s1 := hwAppend 3 (membersUnits now_.length) (membersBody now_) s
    { s1 with trust := { s1.trust with members := some (((lastEntry s1.trust).map (·.seqNo)).getD 0, now_) } }

/-- MEMBERS_ENTRY_APPEND (R463): after BOOT, with event 0x9040 for each record that differs. -/
def execMembersEntryAppend (s : State) : Host.Outcome State Fault Refusal :=
  let old := (s.trust.members.map fun m : Nat × List MemberRec => m.2).getD []
  if !hubAnswers s || decide (s.mode.mode = .boot) || decide (s.trust.members.isSome ∧ old = s.trust.measured) then .next s
  else
    let changed := s.trust.measured.filter fun m => !old.contains m
    .next (appendMembers (changed.foldl (fun s m => recordEvent 0x9040 [m.slot, if m.spdm then 1 else 0, 0, 0] s) s))

/-- Torn units that the scan of BOOT meets in the segment at work (R469): event 0x9020. -/
def noteTorn (s : State) : State :=
  let g := (s.trust.nextUnit - 1) / 2048
  match s.trust.garbage.filter fun u => decide (u / 2048 = g) with
  | [] => s
  | u :: us => recordEvent 0x9020 [u, us.length + 1, 0, 0] s

/-- Whole entries that fit in a number of bytes (R471). -/
def entriesWithin : Nat → List HwEntry → List HwEntry
  | _, [] => []
  | room, e :: es => if e.bytes.length ≤ room then e :: entriesWithin (room - e.bytes.length) es else []

/-- SEQ of the latest BOOT entry. -/
def latestBoot (t : Trust) : Nat := (((allEntries t).filter fun e => decide (e.kind = 1)).getLast?.map (·.seqNo)).getD 0

/-- BOOT_STATEMENT_GET (R471). -/
def execBootStatementGet (ref : CmdRef) (len first : Nat) (s : State) : Host.Outcome State Fault Refusal :=
  if !adminTurn s ref then .next s
  else
    let from_ := if first = 0 then latestBoot s.trust else first
    let es := entriesWithin (4 * len) ((allEntries s.trust).filter fun e => decide (from_ ≤ e.seqNo))
    if !(allEntries s.trust).any (fun e => decide (e.seqNo = from_)) || es.isEmpty then .next (failCmd ref 0x02 s)
    else .next (commitCmd ref 0 es.length (sendData ref (es.flatMap (·.bytes)) s))

/-- Log page 0xC4 (R471). -/
def heartwoodLog (s : State) : Bytes :=
  let t := s.trust
  let used := sumOf (t.entries.map (·.units))
  let seqOf := fun (e : Option HwEntry) => (e.map (·.seqNo)).getD 0
  leBytes 4 (seqOf (allEntries t).head?) ++ leBytes 4 (seqOf (lastEntry t)) ++ leBytes 4 used ++ leBytes 4 90112 ++ leBytes 4 t.erasedCount ++
    leBytes 1 (if t.held.isSome then 1 else 0) ++ zeros 11 ++ fitBytes 96 deviceIdKey ++ zeros 128 ++ (allEntries t).flatMap (·.bytes)

/-! ## Firmware download and commit (R460; 04 R138) -/

/-- The download slot: the one not running (R460); under the recovery loader the one that is not ACTIVE_SLOT (DEDUCED, log 54). -/
def downloadSlot (t : Trust) : Nat := 3 - (if t.running = 0 then t.activeSlot else t.running)

/-- The header of the download slot holds its bytes once this piece is programmed: the first download after a reset or a commit erases it, and a
piece that begins the image programs it (R460). A header programmed in parts stays unread (DESIGN CHOICE, log 54). -/
def headerWhole (t : Trust) (offset len : Nat) : Bool := t.header.getD false || decide (offset = 0 ∧ 512 ≤ len)

/-- FIRMWARE_IMAGE_DOWNLOAD (R460): the piece is programmed into the download slot, which then reads as `image`; without its header it reads as
no image at all. A piece that ends above 8 MiB lies outside the slot. -/
def execFirmwareImageDownload (ref : CmdRef) (offset len : Nat) (image : Option FwImage) (s : State) : Host.Outcome State Fault Refusal :=
  if !adminTurn s ref then .next s
  else
    let t := s.trust
    let slot := downloadSlot t
    if t.claim.any fun c => decide (c ≠ ref.ctl) then .next (failCmd ref 0x0C s)
    else if 8388608 < offset + len then .next (failCmd ref 0x02 s)
    else
      let whole := headerWhole t offset len
      let s1 := putImage slot (if whole then image else none) s
      let s2 := if t.pendingSlot = slot then putSlots t.activeSlot 0 s1 else s1
      .next (commitCmd ref 0 0 { s2 with trust := { s2.trust with claim := some ref.ctl, header := some whole } })

/-- FIRMWARE_DOWNLOAD_CLAIM_END (R460): 60 s with no download. -/
def execFirmwareDownloadClaimEnd (s : State) : Host.Outcome State Fault Refusal :=
  .next { s with trust := { s.trust with claim := none } }

/-- A Firmware Commit that succeeds under the recovery loader is followed by a device reset (R459). -/
def afterCommit (s : State) : State :=
  { s with trust := { s.trust with claim := none, header := none, selfReset := s.trust.selfReset || decide (s.trust.running = 0) } }

/-- FIRMWARE_COMMIT_ACTIVATE (04 R138; R460): fetching stops on both controllers; the activation ends with a command of its own. -/
def beginActivation (ref : CmdRef) (fs : Nat) (s : State) : State :=
  let slot := downloadSlot s.trust
  if s.trust.activating.isSome then s
  else if fs ≠ 0 ∧ fs ≠ slot then failCmd ref 0x106 s
  else
    let s1 := s.ctlIds.foldl (fun s id => if (aenConfig (s.ctl id)).getLsbD 9 then raiseAen id 2 1 0x03 s else s) s
    let s2 := s1.ctlIds.foldl (fun s id => s.setCtl id { s.ctl id with pp := true }) s1
    waitCmd ref 0 { s2 with trust := { s2.trust with activating := some { ref := ref, toSlot := slot } } }

/-- FIRMWARE_COMMIT (R460): Commit Actions 000b, 001b, 010b and 011b. -/
def execFirmwareCommit (ref : CmdRef) (fs ca : Nat) (s : State) : Host.Outcome State Fault Refusal :=
  if !adminTurn s ref then .next s
  else
    let t := s.trust
    let slot := if ca = 2 then fs else downloadSlot t
    if ca = 3 then .next (beginActivation ref fs s)
    else if 3 < ca then .next (failCmd ref 0x02 s)
    else if ca = 2 ∧ fs ≠ 1 ∧ fs ≠ 2 then .next (failCmd ref 0x106 s)
    else if ca ≠ 2 ∧ fs ≠ 0 ∧ fs ≠ slot then .next (failCmd ref 0x106 s)
    else if slotVerifies t slot = false then .next (failCmd ref 0x107 { s with trust := { t with claim := none, header := none } })
    else
      let s1 := if ca = 0 then s else putSlots t.activeSlot slot s
      .next (commitCmd ref 0 0 (afterCommit s1))

/-- FIRMWARE_COMMIT_ACTIVATE (04 R138; R460). -/
def execFirmwareCommitActivate (ref : CmdRef) (fs : Nat) (s : State) : Host.Outcome State Fault Refusal :=
  if adminTurn s ref then .next (beginActivation ref fs s) else .next s

/-- Body of an ACTIVATION entry (R466). -/
def activationBody (t : Trust) (slot : Nat) (new : FwImage) : Bytes :=
  let oldRev := (t.image.map (·.fwRev.toNat)).getD 0
  leBytes 1 t.running ++ leBytes 1 slot ++ zeros 2 ++ leBytes 4 new.svn ++ leBytes 8 oldRev ++ leBytes 8 new.fwRev.toNat ++
    beBytes 48 new.fslDigest ++ beBytes 48 new.mainDigest ++ leBytes 8 (latestBoot t)

/-- Fetching resumes, and no activation is under way. -/
def endActivation (s : State) : State :=
  let s1 := s.ctlIds.foldl (fun s id => s.setCtl id { s.ctl id with pp := false }) s
  { s1 with trust := { s1.trust with activating := none, claim := none, header := none } }

/-- The SPDM connections of both mailboxes end (R472, 03 R100). -/
def endSpdm (s : State) : State := { s with fns := s.fns.map fun p => (p.1, { p.2 with spdm := .none }) }

/-- An event that was queued during the switch (04 R138). -/
def handleEvent (i : DeferredEvent) (s : State) : State :=
  match i with
  | .dpcTrigger slot port cause => handleDpcTrigger slot port cause s
  | .prsntRemoval slot => handlePrsntRemoval slot s
  | .prsntInsertion slot => handlePrsntInsertion slot s
  | .memberCommandTimeout slot port tag => handleMemberCommandTimeout slot port tag s
  | .memberAdminTimeout slot port => handleMemberAdminTimeout slot port s
  | .memberPcieCompletionTimeout slot port => handleMemberPcieCompletionTimeout slot port s
  | .memberAsyncEvent slot critWarn fwChange temp => handleMemberAsyncEvent slot critWarn fwChange temp s
  | .memberPortReadyTimeout slot port => handleMemberPortReadyTimeout slot port s
  | .failedPendingTimeout slot final => handleFailedPendingTimeout slot final s
  | .withheldTagTimeout slot port => handleWithheldTagTimeout slot port s
  | .ladderStepBoundExpiry slot port => handleLadderStepBoundExpiry slot port s
  | .memberPortBringup slot port speed width info => handleMemberPortBringup slot port speed width info s
  | .containmentRelease slot port => handleContainmentRelease slot port s
  | .glildoLinkStall link => handleGlildoLinkStall link s
  | .regionFault region reason => handleRegionFault region reason s

/-- The events queued during the switch are handed over, oldest first (04 R138). -/
def handOver (s : State) : State :=
  s.trust.deferred.foldl (fun s i => handleEvent i s) { s with trust := { s.trust with deferred := [] } }

/-- FIRMWARE_ACTIVATION_COMPLETE (04 R138; R460, R466): the image is verified, measured and recorded before it runs; one that needs a reset
becomes pending, and one that fails leaves the old image running. The image that runs then handles the events queued; after an activation that a reset
of its controller has ended, this is where the old image does. Which events are queued is a DESIGN CHOICE (log 145). -/
def execFirmwareActivationComplete (s : State) : Host.Outcome State Fault Refusal :=
  match s.trust.activating with
  | none => .next (handOver s)
  | some a =>
    let t := s.trust
    match imageOf t a.toSlot with
    | none => .next (handOver (failCmd a.ref 0x107 (endActivation s)))
    | some i =>
      if slotVerifies t a.toSlot = false then .next (handOver (failCmd a.ref 0x107 (endActivation s)))
      else if i.needsReset then
        .next (handOver (failCmd a.ref 0x10B (afterCommit (endActivation (putSlots t.activeSlot a.toSlot s)))))
      else
        let s1 := hwAppend 2 1 (activationBody t a.toSlot i) s
        let s2 := putSlots a.toSlot t.pendingSlot { s1 with trust := { s1.trust with running := a.toSlot, image := some i } }
        let s3 := endSpdm (recordEvent 0x9005 [t.running, a.toSlot, i.svn, 0] s2)
        .next (handOver (commitCmd a.ref 0 0 (endActivation s3)))

/-! ## DOE and SPDM (03 R99, R100; R472) -/

/-- The mailbox of a function works (03 R100): from the end of Request Retry Status, in every mode with the host link. A mailbox in Error
answers nothing until an abort (PCI Express, PRESUMED, log 55). -/
def doeLive (s : State) (fn : Nat) : Bool :=
  hubAnswers s && ctlExists s (fn + 1) && !(s.port (ctlPort s (fn + 1))).rrs

/-- Dwords of a byte string, the last filled with zeros. -/
def dwordsOf (bs : Bytes) : List (BitVec 32) :=
  (List.range (ceilDiv bs.length 4)).map fun i => BitVec.ofNat 32 (leNat (sliceBytes bs (4 * i) 4))

/-- A data object in the read mailbox (03 R99): vendor 0x0001 with the protocol, the length in dwords, the content (PCI Express, PRESUMED, log 55). -/
def doeObject (protocol : Nat) (content : Bytes) : List (BitVec 32) :=
  let ds := dwordsOf content
  BitVec.ofNat 32 (1 + protocol * 2 ^ 16) :: BitVec.ofNat 32 (ds.length + 2) :: ds

/-- A mailbox answers the object that was transferred to it: it is no longer busy, and the response is ready to be read (03 R99). -/
def doeAnswer (fn protocol : Nat) (content : Bytes) (s : State) : State :=
  s.setFn fn { s.fn fn with doeIn := [], doeBusy := false, doeOut := doeObject protocol content }

/-- DOE_DISCOVERY (03 R99): index 0 is DOE Discovery, index 1 CMA/SPDM; vendor ID, protocol, next index (PCI Express, PRESUMED, log 55). -/
def execDoeDiscovery (fn index : Nat) (s : State) : Host.Outcome State Fault Refusal :=
  if !doeLive s fn || (s.fn fn).doeError then .next s
  else
    let answer := if index = 0 then leBytes 2 1 ++ leBytes 1 0 ++ leBytes 1 1
      else if index = 1 then leBytes 2 1 ++ leBytes 1 1 ++ leBytes 1 0 else leBytes 2 0xFFFF ++ zeros 2
    .next (emit (.doe fn 0 answer) (doeAnswer fn 0 answer s))

/-- DOE Abort: the object in transfer and the unread response are discarded, and Error and Busy clear (03 R99). -/
def doeAbort (fn : Nat) (s : State) : State :=
  s.setFn fn { s.fn fn with doeError := false, doeBusy := false, doeIn := [], doeOut := [] }

/-- DOE_ABORT (03 R99). -/
def execDoeAbort (fn : Nat) (s : State) : Host.Outcome State Fault Refusal :=
  if doeLive s fn then .next (doeAbort fn s) else .next s

/-- DOE_UNSUPPORTED_PROTOCOL (03 R99): the Error bit, and no response. -/
def execDoeUnsupportedProtocol (fn : Nat) (s : State) : Host.Outcome State Fault Refusal :=
  if doeLive s fn then .next (s.setFn fn { s.fn fn with doeError := true, doeIn := [], doeBusy := false, doeOut := [] }) else .next s

/-- An SPDM response of a function: SPDM 1.2's header before its data (PRESUMED, log 55). -/
def answerSpdm (fn code : Nat) (data : Bytes) (s : State) : State :=
  emit (.doe fn code data) (doeAnswer fn 1 (leBytes 1 0x12 ++ leBytes 1 code ++ zeros 2 ++ data) s)

/-- An SPDM ERROR response: 0x01 InvalidRequest, 0x04 UnexpectedRequest (SPDM, PRESUMED, log 55). -/
def spdmError (fn err : Nat) (s : State) : State := answerSpdm fn 0x7F (leBytes 1 err) s

/-- Answer an SPDM request in a connection state, or UnexpectedRequest. -/
def spdmIn (fn : Nat) (want : SpdmState) (go : State → State) (s : State) : Host.Outcome State Fault Refusal :=
  if !doeLive s fn || (s.fn fn).doeError then .next s
  else if (s.fn fn).spdm = want then .next (go s)
  else .next (spdmError fn 0x04 s)

/-- SPDM_GET_VERSION: SPDM 1.2; a new connection begins. -/
def execSpdmGetVersion (fn : Nat) (s : State) : Host.Outcome State Fault Refusal :=
  if !doeLive s fn || (s.fn fn).doeError then .next s
  else .next (answerSpdm fn 0x04 (leBytes 2 0x1200) (s.setFn fn { s.fn fn with spdm := .version }))

/-- SPDM_GET_CAPABILITIES: CERT_CAP, CHAL_CAP and MEAS_CAP with signatures (R472). -/
def execSpdmGetCapabilities (fn : Nat) (s : State) : Host.Outcome State Fault Refusal :=
  spdmIn fn .version (fun s => answerSpdm fn 0x61 (leBytes 4 0x16) (s.setFn fn { s.fn fn with spdm := .capabilities })) s

/-- SPDM_NEGOTIATE_ALGORITHMS: SHA-384 and ECDSA P-384 only (R472). -/
def execSpdmNegotiateAlgorithms (fn : Nat) (offered : Bool) (s : State) : Host.Outcome State Fault Refusal :=
  spdmIn fn .capabilities (fun s =>
    if offered then answerSpdm fn 0x63 (leBytes 4 0x80 ++ leBytes 4 0x02) (s.setFn fn { s.fn fn with spdm := .negotiated })
    else spdmError fn 0x01 s) s

/-- The chain of slot 0, none when the certificate block is invalid (R453, R472). -/
def chainOf (t : Trust) : Option Bytes := if t.certInvalid then none else some (Config.certChain ++ aliasKey t)

/-- SPDM_GET_DIGESTS. -/
def execSpdmGetDigests (fn : Nat) (s : State) : Host.Outcome State Fault Refusal :=
  spdmIn fn .negotiated (fun s => answerSpdm fn 0x01 (match chainOf s.trust with | some c => leBytes 1 1 ++ digest c | none => leBytes 1 0) s) s

/-- SPDM_GET_CERTIFICATE: slot 0 only. -/
def execSpdmGetCertificate (fn : Nat) (args : SpdmArgs) (s : State) : Host.Outcome State Fault Refusal :=
  spdmIn fn .negotiated (fun s =>
    match chainOf s.trust with
    | some c => if args.slot = 0 then answerSpdm fn 0x02 c s else spdmError fn 0x01 s
    | none => spdmError fn 0x01 s) s

/-- A measurement by its index (R472). -/
def measurement (s : State) (index : Nat) : Option Bytes :=
  let t := s.trust
  let nat := fun (f : FwImage → Nat) => (t.image.map f).getD 0
  match index with
  | 1 => some (beBytes 48 Config.romDigest)
  | 2 => some (beBytes 48 (nat (·.fslDigest)))
  | 3 => some (beBytes 48 (nat (·.mainDigest)))
  | 4 => some (leBytes 8 (nat (·.fwRev.toNat)))
  | 5 => some (leBytes 4 (nat (·.svn)) ++ leBytes 4 t.fwSvn)
  | 6 => some (calDigest s)
  | 7 => some (leBytes 1 (if s.power.hostBif then 1 else 0) ++ leBytes 1 s.power.mbrCfg.toNat ++
      (List.range 6).map (fun d => (Config.dieStep d)) ++ leBytes 4 Config.bankCrc.toNat)
  | 8 => some (ownerDigest t)
  | 9 => some ((t.members.map fun m : Nat × List MemberRec => membersBody m.2).getD [])
  | 10 => some (leBytes 4 (((lastEntry t).map (·.seqNo)).getD 0) ++ (match lastEntry t with | some e => digest e.bytes | none => zeros 48))
  | _ => none

/-- A measurement summary: SHA-384 over measurements joined (R472). -/
def summaryOf (s : State) (l : List Nat) : Bytes := digest (l.flatMap fun i => (measurement s i).getD [])

/-- SPDM_CHALLENGE: the summary is of indices 1, 2, 3 and 5 (type 1), or of all ten (type 0xFF); signed with the Alias key. -/
def execSpdmChallenge (fn : Nat) (args : SpdmArgs) (s : State) : Host.Outcome State Fault Refusal :=
  spdmIn fn .negotiated (fun s =>
    match chainOf s.trust with
    | none => spdmError fn 0x01 s
    | some c =>
      if args.slot ≠ 0 then spdmError fn 0x01 s
      else
        let summary := if args.index = 1 then summaryOf s [1, 2, 3, 5] else if args.index = 0xFF then summaryOf s ((List.range 10).map (· + 1)) else []
        let body := digest c ++ summary ++ leBytes 32 args.nonce
        answerSpdm fn 0x03 (body ++ Config.sign (aliasOf s.trust) body) s) s

/-- Measurement value type of an index, with bit 7 for the raw representation (R472; the numbers are SPDM's, PRESUMED, log 55). -/
def measurementType (index : Nat) : Nat :=
  match index with
  | 1 => 0x00
  | 4 => 0x86
  | 5 => 0x87
  | 6 | 8 => 0x03
  | 7 => 0x82
  | 9 | 10 => 0x84
  | _ => 0x01

/-- A measurement block: index, specification, size, value type, value size and value (R472; SPDM's form, PRESUMED, log 55). -/
def measurementBlock (s : State) (index : Nat) : Bytes :=
  let v := (measurement s index).getD []
  leBytes 1 index ++ leBytes 1 1 ++ leBytes 2 (v.length + 3) ++ leBytes 1 (measurementType index) ++ leBytes 2 v.length ++ v

/-- SPDM_GET_MEASUREMENTS: index 0 asks how many there are, 0xFF for all; signed with the Alias key. -/
def execSpdmGetMeasurements (fn : Nat) (args : SpdmArgs) (s : State) : Host.Outcome State Fault Refusal :=
  spdmIn fn .negotiated (fun s =>
    if args.index = 0 then answerSpdm fn 0x60 (leBytes 1 10) s
    else if decide (args.index = 0xFF) || (measurement s args.index).isSome then
      let body := (if args.index = 0xFF then ((List.range 10).map (· + 1)).flatMap (measurementBlock s) else measurementBlock s args.index) ++ leBytes 32 args.nonce
      answerSpdm fn 0x60 (body ++ Config.sign (aliasOf s.trust) body) s
    else spdmError fn 0x01 s) s

/-! ## Owner (R473 to R475) -/

/-- Owner authorisation ends: event 0x9011, and fault injection is disarmed (15 R448). -/
def endAuth (s : State) : State :=
  match s.trust.auth with
  | none => s
  | some a => disarmFinj 6 (recordEvent 0x9011 [a.1.toNat, 0, 0, 0] { s with trust := { s.trust with auth := none } })

/-- OWNER_AUTH_EXPIRY (R475). -/
def execOwnerAuthExpiry (s : State) : Host.Outcome State Fault Refusal := .next (endAuth s)

/-- OWNER_CHALLENGE_GET (R474): a new nonce of 48 random bytes, OWNER_SEQ, STATE and DSN. -/
def execOwnerChallengeGet (ref : CmdRef) (len : Nat) (s : State) : Host.Outcome State Fault Refusal :=
  if !adminTurn s ref then .next s
  else if len ≠ 16 then .next (failCmd ref 0x02 s)
  else
    let (a, s1) := drawFree s
    let (b, s2) := drawFree s1
    let (c, s3) := drawFree s2
    let nonce := a.toNat + b.toNat * 2 ^ 128 + c.toNat * 2 ^ 256
    let s4 := { s3 with trust := { s3.trust with nonce := some (nonce, s3.now) } }
    let data := leBytes 48 nonce ++ leBytes 4 s.trust.ownerCount ++ leBytes 1 (if s.trust.ownerKey.isSome then 1 else 0) ++ zeros 3 ++
      leBytes 8 Config.dsn.toNat
    .next (commitCmd ref 0 0 (sendData ref data s4))

/-- A nonce is the current one, made at most 60 s ago (R474). -/
def nonceOk (s : State) (n : Nat) : Bool :=
  match s.trust.nonce with
  | some (v, at_) => decide (v = n) && decide (s.now ≤ at_ + 60000000000)
  | none => false

/-- Why a PROVISION is refused, 0 when it is accepted (R474, R475). With no owner there is no signature to check, the nonce is zero, and
nothing is there to clear. -/
def provisionFault (a : Provision) (s : State) : Nat :=
  let t := s.trust
  if a.lengthOk = false ∨ a.reservedZero = false then 1
  else if 64 ≤ t.ownerCount ∨ (a.clear = true ∧ t.ownerKey.isNone = true) then 2
  else if a.ownerSeq ≠ t.ownerCount + 1 then 3
  else if a.dsn ≠ Config.dsn then 4
  else if (if t.ownerKey.isSome then !nonceOk s a.nonce else decide (a.nonce ≠ 0)) then 5
  else if t.ownerKey.isSome = true ∧ a.sigOk = false then 6 else 0

/-- A refused owner command: event 0x9012, with Invalid Field (0x02) or Operation Denied (0x15). -/
def refuseOwner (ref : CmdRef) (action why : Nat) (s : State) : State :=
  failCmd ref (if why = 1 ∨ why = 7 then 0x02 else 0x15) (recordEvent 0x9012 [action, Config.ownerReason why, 0, 0] s)

/-- The owner block's payload (R473): OWNER_SEQ, STATE, OWNER_KEY and MAC. -/
def ownerBytes (b : OwnerBlock) : Bytes :=
  leBytes 4 b.seqNo ++ leBytes 1 (if b.key.isSome then 1 else 0) ++ zeros 3 ++ beBytes 96 (b.key.getD 0) ++ beBytes 48 b.mac

/-- The MAC that a block of these fields bears. -/
def ownerMacOf (seqNo : Nat) (key : Option Nat) : Nat := ownerMac ((ownerBytes { seqNo := seqNo, key := key, mac := 0 }).take 104)

/-- Write the owner block (R473). -/
def putOwner (key : Option Nat) (s : State) : State :=
  let t := s.trust
  let b : OwnerBlock := { seqNo := t.ownerCount, key := key, mac := ownerMacOf t.ownerCount key }
  { s with trust := { t with ownerKey := key, ownerFlash := pairPut "WSDVOWNR" ownerBytes b t.ownerFlash } }

/-- BOOT reads the owner block (R473): one whose MAC is wrong or whose OWNER_SEQ is not OWNER_COUNT means no owner, with event 0x9012; so does
a missing block once OWNER_COUNT has been blown (DEDUCED, log 52). -/
def loadOwner (s : State) : State :=
  let t := s.trust
  let none_ := { s with trust := { t with ownerKey := none } }
  let bad := recordEvent 0x9012 [0, Config.ownerReason 8, 0, 0] none_
  match pairItem "WSDVOWNR" ownerBytes t.ownerFlash with
  | some b => if b.mac = ownerMacOf b.seqNo b.key ∧ b.seqNo = t.ownerCount then { s with trust := { t with ownerKey := b.key } } else bad
  | none => if t.ownerCount = 0 then none_ else bad

/-- OWNER_PROVISION (R474): one OWNER_COUNT bit, the owner block, an OWNER entry, the end of any authorisation, event 0x9010. -/
def execOwnerProvision (ref : CmdRef) (args : Provision) (s : State) : Host.Outcome State Fault Refusal :=
  if !adminTurn s ref then .next s
  else
    let why := provisionFault args s
    if why ≠ 0 then .next (refuseOwner ref 0 why s)
    else
      let action := if args.clear then 2 else 1
      let key := if args.clear then none else some args.ownerKey
      let s1 := putOwner key { s with trust := { s.trust with ownerCount := s.trust.ownerCount + 1, nonce := none } }
      let s2 := hwAppend 4 1 (leBytes 1 action ++ zeros 3 ++ leBytes 4 args.ownerSeq ++ ownerDigest s1.trust) s1
      .next (commitCmd ref 0 0 (recordEvent 0x9010 [action, args.ownerSeq, 0, 0] (endAuth s2)))

/-- Why an AUTH is refused, 0 when it is accepted (R475). A duration above its range is an invalid field (DESIGN CHOICE, log 52). -/
def authFault (a : OwnerAuthArgs) (s : State) : Nat :=
  let t := s.trust
  if a.lengthOk = false ∨ a.reservedZero = false then 1
  else if t.ownerKey.isNone then 2
  else if 86400 < a.durationS then 7
  else if a.ownerSeq ≠ t.ownerCount then 3
  else if a.dsn ≠ Config.dsn then 4
  else if nonceOk s a.nonce = false then 5
  else if a.sigOk = false then 6 else 0

/-- OWNER_AUTH (R475): authorisation for a scope, or its end with duration 0. A grant replaces the one in force. -/
def execOwnerAuth (ref : CmdRef) (args : OwnerAuthArgs) (s : State) : Host.Outcome State Fault Refusal :=
  if !adminTurn s ref then .next s
  else
    let why := authFault args s
    if why ≠ 0 then .next (refuseOwner ref 2 why s)
    else
      let s1 := { s with trust := { s.trust with nonce := none } }
      if args.durationS = 0 then .next (commitCmd ref 0 0 (endAuth s1))
      else
        let s2 := { s1 with trust := { s1.trust with auth := some (args.scope, s.now + args.durationS * 1000000000) } }
        let s3 := if args.scope.getLsbD 0 then s2 else disarmFinj 6 s2
        .next (commitCmd ref 0 0 (recordEvent 0x9011 [args.scope.toNat, args.durationS, 0, 0] s3))

/-! ## Calibration writes (14 R406) -/

/-- CALIBRATION_ACCESS_WRITE (14 R406, 05 R152): the record replaces the one in boot flash, with SOURCE 1, and the gauge becomes
unlearned (14 R404). AVS_OFFSET is read by the next scheduler window. -/
def execCalibrationAccessWrite (ref : CmdRef) (len : Nat) (cal : CalRecord) (s : State) : Host.Outcome State Fault Refusal :=
  if !adminTurn s ref then .next s
  else if authorised s 1 = false then .next (failCmd ref 0x15 s)
  else if len ≠ 16 ∨ calInRange cal = false then .next (failCmd ref 0x02 s)
  else
    let c := { cal with source := 1 }
    let g := { s.gauge with cal := c, calFlash := pairPut "WSDVCALB" calBytes c s.gauge.calFlash, learned := false }
    let g := match g.idCode with | some code => loadNameplate code g | none => g
    .next (commitCmd ref 0 0 (countGaugeLog (recordEvent 0x7010 [0, 0, 0, 0] { s with gauge := g })))

end Sys2Proof.Machine
end

