-- ==== Sys2Proof/Machine/Logs.lean ====
section
/-!
DEFINITION. Log pages, Identify and the NVMe-MI requests (04 R129; 05 R140, R143, R148, R149, R153, R156, R161; 10 R288; 14 R421;
16 R484). The structures of NVMe have its layout (PRESUMED, log 6): fields that the manual gives hold its values, optional features that it
does not name read absent (00 R3), reserved bytes are zero (00 R8), and what neither fixes is free (log 9).
-/

namespace Sys2Proof.Machine

/-! ## Structures of NVMe -/

/-- `n` bytes of a standard structure at an offset, free. -/
def freeBytes (kind at_ n : Nat) (s : State) : Nat × Bytes := (at_, sliceBytes (Config.standardData kind s.freeCtr) at_ n)

/-- One byte of a standard structure at an offset: free in the bits of a mask, 0 in the others, which are reserved (00 R8). -/
def freeMasked (kind at_ : Nat) (mask : Byte) (s : State) : Nat × Bytes := (at_, (freeBytes kind at_ 1 s).2.map (· &&& mask))

/-- An identification string of the device in its `n` bytes. -/
def identBytes (kind n : Nat) : Bytes := fitBytes n (Config.identity kind)

/-- Bytes with some fields overlaid: offset and content. -/
def overlay (base : Bytes) (fields : List (Nat × Bytes)) : Bytes :=
  fields.foldl (fun b f => b.take f.1 ++ f.2 ++ b.drop (f.1 + f.2.length)) base

/-- The log pages that the controller supports (05 R153). -/
def logPages : List Nat :=
  [0x00, 0x01, 0x02, 0x03, 0x04, 0x05, 0x0C, 0x81, 0xC0, 0xC1, 0xC2, 0xC3, 0xC4, 0xC5, 0xC6, 0xC7, 0xC8, 0xC9]

/-- Supported Log Pages, 0x00: LSUPP, bit 0 of each page's dword. -/
def supportedLog : Bytes := (List.range 256).flatMap fun i => leBytes 4 (if logPages.contains i then 1 else 0)

/-- An error entry of 64 bytes: count, queue, command, status, LBA, NSID; the parameter error location is free, with its reserved bits 15:11 zero. -/
def errBytes (s : State) (e : ErrEntry) : Bytes :=
  overlay (zeros 64)
    [freeBytes 0x101 14 1 s, freeMasked 0x101 15 0x07 s, (0, leBytes 8 e.count), (8, leBytes 2 e.sqid), (10, leBytes 2 e.cid), (12, leBytes 2 (2 * e.status)), (16, leBytes 8 e.lba),
     (24, leBytes 4 e.nsid)]

/-- Error Information, 0x01: 256 entries, newest first. -/
def errorLog (c : Ctl) (s : State) : Bytes := fitBytes 16384 (c.errLog.flatMap (errBytes s))

/-- Composite temperature in K: the highest junction temperature (05 R153). -/
def compositeK (s : State) : Nat := (s.sched.tjMax / 10 + 273).toNat

/-- SMART / Health Information, 0x02 (02 R50; 05 R153): the spare and wear figures, the counts of data, commands and hours, and the times above
the warning temperatures are free. -/
def smartLog (s : State) (ctl : Nat) : Bytes :=
  overlay (zeros 512)
    [freeBytes 0x102 3 3 s, freeBytes 0x102 32 144 s, freeBytes 0x102 192 8 s, (0, leBytes 1 s.mode.critWarn.toNat), (1, leBytes 2 (compositeK s)),
     (176, leBytes 16 (s.ctl ctl).errCount)]

/-- Firmware Slot Information, 0x03: the running slot, the slot of the next reset, and the revisions. -/
def slotLog (s : State) : Bytes :=
  let t := s.trust
  let rev := fun (i : Option FwImage) => leBytes 8 ((i.map (·.fwRev.toNat)).getD 0)
  overlay (zeros 512) [(0, leBytes 1 (t.running + 16 * t.pendingSlot)), (8, rev t.image1), (16, rev t.image2)]

/-- Changed Namespace List, 0x04, in rising order. -/
def changedLog (c : Ctl) : Bytes := fitBytes 4096 ((c.changedNs.foldr insertNat []).flatMap fun n => leBytes 4 n)

/-- Direction of a vendor command's data (05 R151): 0 none, 1 from host, 2 to host; 3 either, by the command's own field. -/
def vendorDirection (opcode : Nat) : Nat :=
  if opcode = 0xD0 then 1 else if opcode = 0xCC then 2 else if opcode = 0xCA ∨ opcode = 0xD1 then 3 else 0

/-- Commands Supported and Effects, 0x05: CSUPP, bit 0 of each command's dword; its other effect bits, the submission and execution limits and the
scope bits are free, UUID selection is absent (00 R3), and the reserved bits are 0 but for the direction of a vendor command's data, whose place
in them R151 does not give (log 131). -/
def effectsLog (s : State) : Bytes :=
  let one := fun (known : Nat → Bool) (i : Nat) =>
    let w := leNat (sliceBytes (Config.standardData 0x105 s.freeCtr) (4 * i) 4)
    if known i then leBytes 4 ((BitVec.ofNat 32 w &&& 0x03F7001E#32) ||| 1#32 |||
      (if 0xC0 ≤ i then Config.effectsDirection (vendorDirection i) &&& 0x3FE0#32 else 0)).toNat
    else zeros 4
  fitBytes 4096 ((List.range 256).flatMap (one adminOpcodes.contains) ++ (List.range 256).flatMap (one ioOpcodes.contains))

/-- ANA state of a deck on an NVMe controller (05 R148): 1 Optimized, 2 Non-optimized, 3 Inaccessible, 4 Persistent Loss (NVMe's codes). -/
def anaState (s : State) (ctl : Nat) (d : Deck) : Nat :=
  if d.label.deckState = 7 then (if d.pending then 3 else 4)
  else if [0, 1].any fun h => s.mode.halfDown.getD h false && (halfCtls s h).contains ctl then 2
  else 1

/-- ANA group descriptor of a deck: DECK_ID + 1, its volumes on the controller, the change count, the state. -/
def anaGroup (s : State) (ctl : Nat) (groupsOnly : Bool) (p : Nat × Deck) : Bytes :=
  let ns := if groupsOnly then [] else ((volumesOf s p.1).filter fun v => v.attached.contains ctl).map (·.nsid)
  leBytes 4 (p.1 + 1) ++ leBytes 4 ns.length ++ leBytes 8 (s.ctl ctl).anaCount ++ leBytes 1 (anaState s ctl p.2) ++ zeros 15 ++
    ns.flatMap fun n => leBytes 4 n

/-- Asymmetric Namespace Access, 0x0C (05 R148, R149); bit 0 of the Log Specific Field asks for the groups alone. -/
def anaLog (s : State) (ctl lsp : Nat) : Bytes :=
  let ds := (List.range 32).filterMap fun i => (s.deck i).map fun d => (i, d)
  leBytes 8 (s.ctl ctl).anaCount ++ leBytes 2 ds.length ++ zeros 6 ++ ds.flatMap (anaGroup s ctl (decide (lsp % 2 = 1)))

/-- Sanitize Status, 0x81 (05 R159, R160): SPROG in units of 1/65,536; SSTAT with the overwrite passes completed; CDW10 of the last Sanitize; no
time estimates. Global Data Erased is free. -/
def sanitizeLog (s : State) : Bytes :=
  let prog := match s.decks.wipe with
    | some w => if s.decks.sstat = 2 ∧ w.kind ≠ 1 then min w.done 65535 else 65535
    | none => 65535
  let passes := match s.decks.wipe with
    | some w => if w.kind = 4 then w.done * w.owpass / 65536 else 0
    | none => s.decks.lastPasses
  overlay (zeros 512)
    [(0, leBytes 2 prog), (2, leBytes 1 (s.decks.sstat % 8 + passes % 32 * 8)), (3, ((Config.standardData 0x181 s.freeCtr).drop 3).take 1 |>.map (· &&& 1)),
     (4, leBytes 4 s.decks.lastSanitize), (8, List.replicate 24 0xFF)]

/-! ## Pages of the manual -/

/-- A 32-byte record of log 0xC2 (04 R129). -/
def haltBytes (q : Sq) (h : HaltRec) : Bytes :=
  leBytes 2 q.id ++ leBytes 2 q.cqid ++ leBytes 1 h.reason ++ leBytes 1 (if h.cidValid then 1 else 0) ++ leBytes 2 h.cid ++ leBytes 4 h.head ++
    leBytes 4 h.tail ++ leBytes 4 h.faultInfo ++ leBytes 4 h.lateTail ++ leBytes 8 h.time.toNat

/-- A queue with its halt record, in rising order of identifier. -/
def insertHalt (q : Sq × HaltRec) : List (Sq × HaltRec) → List (Sq × HaltRec)
  | [] => [q]
  | x :: xs => if q.1.id ≤ x.1.id then q :: x :: xs else x :: insertHalt q xs

/-- Halted queues of a controller in rising order of identifier. -/
def haltedQueues (c : Ctl) : List (Sq × HaltRec) :=
  (c.sqs.filterMap fun q => if q.state = .halted then q.halt.map fun h => (q, h) else none).foldr insertHalt []

/-- Queue Halt Records, 0xC2 (04 R129). -/
def haltLog (c : Ctl) : Bytes :=
  let l := haltedQueues c
  leBytes 4 c.haltGen ++ leBytes 2 l.length ++ zeros 58 ++ l.flatMap fun x => haltBytes x.1 x.2

/-- The 32 bytes of an event record (16 R476). -/
def eventBytes (r : EventRec) : Bytes :=
  leBytes 4 r.seqNo ++ leBytes 8 r.time.toNat ++ leBytes 2 r.code ++ leBytes 1 r.source ++ leBytes 1 r.severity ++
    fitBytes 16 (r.params.flatMap fun p => leBytes 4 p)

/-- Records of a source of log 0xC3 (16 R484): 0 the hub ring, 1 the sentinel ring, 2 the spill area. -/
def recorderSource (r : Recorder) (src : Nat) : List EventRec :=
  if src = 0 then r.hubRing else if src = 1 then r.sentRing else r.spill

/-- Event Recorder, 0xC3 (16 R484). -/
def recorderLog (r : Recorder) (src : Nat) : Bytes :=
  let l := recorderSource r src
  let b := fun (x : Bool) (i : Nat) => if x then 2 ^ i else 0
  leBytes 4 r.nextSeq ++ leBytes 4 ((l.head?.map (·.seqNo)).getD r.nextSeq) ++ leBytes 4 l.length ++ leBytes 4 r.lost ++
    leBytes 4 r.spillLost ++ leBytes 1 src ++ leBytes 1 (b r.frozen 0 + b r.byTrigger 1 + b r.timestamp.isSome 2) ++ zeros 2 ++
    leBytes 4 r.freezeSeq ++ zeros 36 ++ l.flatMap eventBytes

/-- Hold-up and Gauge, 0xC5 (14 R421). SLOT_SEQ is the SEQ of the valid slot with the highest SEQ. -/
def gaugeLog (s : State) : Bytes :=
  let g := s.gauge
  let v := s.vault
  let code := g.idCode
  let n := fun (f : Nat → Nat) => (code.map f).getD 0
  let z := n fun c => (fFloor (zPack c g.z25Uohm g.tempDc)).toNat
  let cellMv := fun i => g.cellMv.getD i 0
  let pack := (List.range (n cellsOfCode)).foldl (fun a i => a + cellMv i) 0
  fitBytes 512 (leBytes 4 g.logGen ++ leBytes 1 (packState s) ++ leBytes 1 (code.getD 0xFF) ++ leBytes 1 (n fun c => if isLfp c then 1 else 0) ++
    leBytes 1 (n cellsOfCode) ++ leBytes 2 (n fun c => nameCapUah c / 1000) ++ leBytes 2 (g.fccUah / 1000) ++ leBytes 2 (g.z25Uohm / 100) ++
    leBytes 1 (gaugeFlags s) ++ leBytes 1 (if g.learned && !g.suspect then 2 else 3) ++ leBytes 2 g.logSocCc ++
    leBytes 2 (socHundredths g.socV) ++ leBytes 2 g.logSocUsed ++ leBytes 2 pack ++ leSigned 4 g.currentMa ++
    (List.range 3).flatMap (fun i => leBytes 2 (if i < n cellsOfCode then cellMv i else 0)) ++ leSigned 2 g.tempDc ++ leBytes 4 z ++
    leBytes 4 g.pcapMw ++ leBytes 4 g.eAvailMj ++ leBytes 4 g.huLimit ++ leBytes 4 g.cycles ++ leBytes 8 g.lastLearn.toNat ++
    leBytes 8 g.lastPathTest.toNat ++ leBytes 4 (((learnedCurrent g).map fun x : LearnedSet × Nat => x.1.seqNo).getD 0) ++ zeros 4 ++
    leBytes 8 v.flushTime.toNat ++ leBytes 4 v.flushPages ++ leBytes 4 v.flushMs ++ leBytes 4 v.flushMj ++ leBytes 2 v.flushMinMv ++
    leBytes 1 v.flushResult ++ zeros 1 ++
    leBytes 1 ((if v.erasedA then 1 else 0) + (if v.erasedB then 2 else 0) + (if v.imageValid then 4 else 0)) ++
    leBytes 1 (bitmapOf v.channels) ++ zeros 2 ++
    leBytes 4 (match v.image with | some i => if v.imageValid then i.imageSeq else 0 | none => 0) ++ leBytes 4 v.badBlocks.length)

/-- Power and Scheduler, 0xC6 (13 R385): the L1.2 figures of the member ports. -/
def powerLog (s : State) : Bytes :=
  let ports := (listedSlots s).flatMap fun x => [(s.slot x).portA, (s.slot x).portB]
  schedLog (ports.filter (·.l12)).length (if ports.any (·.l12ok) then 100000 else 0) s

/-! ## Get Log Page (05 R143, R153; 10 R288) -/

/-- The bytes of a log page, or the status with which the command completes. SMART / Health of one namespace is not supported: Invalid Field
(NVMe, PRESUMED, log 6). -/
def logPage (s : State) (ctl lid lsp nsid : Nat) : Nat × Bytes :=
  let c := s.ctl ctl
  let byNs := fun (whole : Bytes) (one : Volume → Bytes) =>
    if nsid = 0 ∨ nsid = 0xFFFFFFFF then (0, whole)
    else match s.vol nsid with
      | some v => (0, one v)
      | none => (0x0B, [])
  match lid with
  | 0x00 => (0, supportedLog)
  | 0x01 => (0, errorLog c s)
  | 0x02 => if nsid = 0 ∨ nsid = 0xFFFFFFFF then (0, smartLog s ctl) else (0x02, [])
  | 0x03 => (0, slotLog s)
  | 0x04 => (0, changedLog c)
  | 0x05 => (0, effectsLog s)
  | 0x0C => (0, anaLog s ctl lsp)
  | 0x81 => (0, sanitizeLog s)
  | 0xC0 => byNs (deckStatusLog s) fun v => mapBytes v (((s.deck v.deckId).map fun d => handBytes d.label.shape).getD 0)
  | 0xC1 => (0, memberLog s)
  | 0xC2 => (0, haltLog c)
  | 0xC3 => if 2 < lsp then (0x02, []) else (0, recorderLog s.recorder lsp)
  | 0xC4 => (0, heartwoodLog s)
  | 0xC5 => (0, gaugeLog s)
  | 0xC6 => (0, powerLog s)
  | 0xC7 => (0, memoryLog s)
  | 0xC8 => (0, redealLogPage s)
  | 0xC9 => byNs (patrolLog s) badListLog
  | _ => (0x109, [])

/-- Event types that a read of a log page re-enables (NVMe, PRESUMED, log 6). -/
def aenKindsOf (lid : Nat) : List Nat :=
  if lid = 0x01 then [0] else if lid = 0x02 then [1] else if [0x03, 0x04, 0x0C].contains lid then [2] else if lid = 0x81 then [6]
  else if 0xC0 ≤ lid then [7] else []

/-- A read of a log page without Retain Asynchronous Event: its events are re-enabled, and the Changed Namespace List is emptied. -/
def logRead (ctl lid : Nat) (s : State) : State :=
  let c := s.ctl ctl
  let c1 := { c with
    aenMasked := c.aenMasked.filter fun k => !(aenKindsOf lid).contains k
    changedNs := if lid = 0x04 then [] else c.changedNs }
  deliverAens ctl 8 (s.setCtl ctl c1)

/-- A free value of a standard structure has been used. -/
def tickFree (s : State) : State := { s with freeCtr := s.freeCtr + 1 }

/-- GET_LOG_PAGE (05 R153): the bytes from the offset on; bytes beyond the page read as zero. Bit 7 of `lsp` is Retain Asynchronous
Event. -/
def execGetLogPage (ref : CmdRef) (lid lsp nsid offset len : Nat) (s : State) : Host.Outcome State Fault Refusal :=
  if !adminTurn s ref then .next s
  else
    let r := logPage s ref.ctl lid (lsp % 128) nsid
    if r.1 ≠ 0 then .next (failCmd ref r.1 s)
    else
      let s1 := commitCmd ref 0 0 (tickFree (sendData ref (sliceBytes r.2 offset len) s))
      if lsp < 128 then .next (logRead ref.ctl lid s1) else .next s1

/-! ## Identify (05 R140, R148 to R150, R153, R161) -/

/-- The CNS values that the controller supports (05 R150). -/
def identifyCns : List Nat := [0x00, 0x01, 0x02, 0x03, 0x06, 0x08, 0x0A, 0x10, 0x11, 0x12, 0x13, 0x14, 0x15]

/-- Fields of a power state descriptor (05 R161): maximum power in 0.01 W, NOPS, ENLAT, EXLAT, and the relative performance, which is free. -/
def powerState (i : Nat) : List (Nat × Bytes) :=
  let row := [(12500, 0, 0), (9000, 100, 100), (6000, 100, 100), (1500, 2000, 1000), (600, 5000000, 50000)].getD i (0, 0, 0)
  [(2048 + 32 * i, leBytes 2 row.1), (2051 + 32 * i, leBytes 1 (if 3 ≤ i then 2 else 0)), (2052 + 32 * i, leBytes 4 row.2.1),
   (2056 + 32 * i, leBytes 4 row.2.2), (2060 + 32 * i, (identBytes (16 + i) 4).map (· &&& 0x1F))]

/-- Bytes of data that the decks hold, and those of them that no volume takes. -/
def totalBytes (s : State) : Nat := s.decks.decks.foldl (fun n p => n + handCount p.2 * handBytes p.2.label.shape) 0
def heldBytes (s : State) : Nat :=
  s.decks.volumes.foldl (fun n p => n + p.2.handsAlloc * ((s.deck p.2.deckId).map fun d => handBytes d.label.shape).getD 0) 0

/-- Identify Controller, CNS 0x01: the values that the manual gives, at NVMe's offsets (00 R3; 03 R71, R82; 04 R101, R116, R118, R125; 05 R140, R146
to R163). CMIC, OAES, CTRATT, LPA, ONCS, VWC, MEC and the capacities follow from what the manual supports (DEDUCED, log 6). Bit 17 of SGLS, the byte-aligned
contiguous metadata buffer, reads 0 (DESIGN CHOICE, log 6). -/
def identifyCtl (s : State) (ctl : Nat) : Bytes :=
  let two := s.power.hostBif
  overlay (zeros 4096) <|
    [(0, leBytes 2 0x1F5C), (2, leBytes 2 0x1F5C), (4, identBytes 0 20), (24, identBytes 1 40), (64, leBytes 8 ((s.trust.image.map (·.fwRev.toNat)).getD 0)),
     (73, identBytes 3 3), (76, leBytes 1 (if two then 0x0B else 0x08)), (77, leBytes 1 9), (78, leBytes 2 ctl), (80, leBytes 4 0x00020000),
     (84, leBytes 4 4500000), (88, leBytes 4 5000000), (92, leBytes 4 0x900), (96, leBytes 4 0x2), (111, leBytes 1 1), (112, identBytes 4 16),
     (253, leBytes 1 1), (255, leBytes 1 1), (256, leBytes 2 0x004E), (258, leBytes 1 7), (259, leBytes 1 7), (260, leBytes 1 0x14),
     (261, leBytes 1 0x26), (262, leBytes 1 255), (263, leBytes 1 4), (265, leBytes 1 1), (266, leBytes 2 373), (268, leBytes 2 383),
     (270, leBytes 2 2), (280, leBytes 16 (totalBytes s)), (296, leBytes 16 (totalBytes s - heldBytes s)), (319, leBytes 1 1), (328, leBytes 4 7),
     (342, leBytes 1 1), (343, leBytes 1 0x4F), (344, leBytes 4 32), (348, leBytes 4 32), (512, leBytes 1 0x66), (513, leBytes 1 0x44),
     (516, leBytes 4 1024), (520, leBytes 2 0xDD), (522, leBytes 2 0), (524, leBytes 1 0x04), (525, leBytes 1 0x06), (526, leBytes 2 511),
     (528, leBytes 2 511), (536, leBytes 4 0x00010001), (540, leBytes 4 1024), (768, identBytes 2 256)] ++ (List.range 5).flatMap powerState

/-- The five LBA formats (05 R146): metadata bytes, log2 of the block size, relative performance. -/
def lbafBytes : Bytes :=
  [(0, 9, 2), (8, 9, 2), (0, 12, 0), (8, 12, 1), (16, 12, 1)].flatMap fun f : Nat × Nat × Nat => leBytes 2 f.1 ++ leBytes 1 f.2.1 ++ leBytes 1 f.2.2

/-- What every namespace reports alike (05 R140, R146, R157; CNS 0x00 with NSID 0xFFFF_FFFF): NSFEAT with the atomic write fields and without thin
provisioning, five formats, MC, DPC, NMIC, FPI, and DLFEAT: deallocated blocks read as zero. -/
def nsCommon : List (Nat × Bytes) :=
  [(24, leBytes 1 2), (25, leBytes 1 4), (27, leBytes 1 0x03), (28, leBytes 1 0x1F), (30, leBytes 1 1), (32, leBytes 1 0x80), (33, leBytes 1 1),
   (128, lbafBytes)]

/-- FPI of a volume: 0x80 with the percentage that remains (05 R157). -/
def fpiOf (v : Volume) : Nat := 0x80 + (v.formatLeft.getD 0) % 128

/-- NGUID of a volume. -/
def nguidOf (s : State) (v : Volume) : Bytes := fitBytes 16 (Config.nguid (((s.deck v.deckId).map fun d => d.label.uuid).getD 0) v.nsid)

/-- NSATTR bit 0: write protected (05 R148). -/
def nsAttr (s : State) (v : Volume) : Nat := if volProtected s v then 1 else 0

/-- Identify Namespace, CNS 0x00 and 0x11: NSZE, NCAP, NUSE, FLBAS, DPS, FPI, NAWUN, NAWUPF, NACWU, NVMCAP, ANAGRPID, NSATTR and NGUID beside
what every namespace reports (04 R125; 05 R140, R146, R148, R157). -/
def identifyNs (s : State) (v : Volume) : Bytes :=
  let flbas := v.lbaf + (if v.extended then 16 else 0)
  let aw := 2 * 1048576 / (volFormat v).1 - 1
  overlay (zeros 4096) <| nsCommon ++
    [(0, leBytes 8 v.nsze), (8, leBytes 8 v.nsze), (16, leBytes 8 v.nsze), (26, leBytes 1 flbas), (29, leBytes 1 v.dps), (32, leBytes 1 (fpiOf v)),
     (34, leBytes 2 aw), (36, leBytes 2 aw), (38, zeros 8),
     (48, leBytes 16 (v.handsAlloc * ((s.deck v.deckId).map fun d => handBytes d.label.shape).getD 0)), (92, leBytes 4 (v.deckId + 1)),
     (99, leBytes 1 (nsAttr s v)), (104, nguidOf s v)]

/-- Namespace identification descriptors, CNS 0x03: NGUID, and the NVM command set. -/
def identifyDescs (s : State) (v : Volume) : Bytes :=
  fitBytes 4096 (leBytes 1 2 ++ leBytes 1 16 ++ zeros 2 ++ nguidOf s v ++ leBytes 1 4 ++ leBytes 1 1 ++ zeros 3)

/-- Command set independent Identify Namespace, CNS 0x08: NMIC, FPI, ANAGRPID, NSATTR, and ready (05 R140, R148, R157). -/
def identifyIndep (s : State) (v : Volume) : Bytes :=
  overlay (zeros 4096) [(1, leBytes 1 1), (3, leBytes 1 (fpiOf v)), (4, leBytes 4 (v.deckId + 1)), (8, leBytes 1 (nsAttr s v)), (14, leBytes 1 1)]

/-- NVM command set Identify Controller, CNS 0x06: VSL and WZSL are 9, 2 MiB (04 R118). -/
def identifyCmdSet : Bytes := overlay (zeros 4096) [(0, leBytes 1 9), (1, leBytes 1 9)]

/-- NVM command set Identify Namespace by format, CNS 0x0A: format 4 has the 64-bit guard and no storage tag (05 R146). -/
def identifyFormats : Bytes := overlay (zeros 4096) [(12 + 16, leBytes 4 (2 * 2 ^ 7))]

/-- Primary controller capabilities, CNS 0x14: controller and port; no virtualisation resource exists (03 R84). -/
def identifyPrimary (ctl : Nat) : Bytes := overlay (zeros 4096) [(0, leBytes 2 ctl), (2, leBytes 2 (ctl - 1))]

/-- NSIDs of a list of volumes above one, in rising order, as a list of at most 1,024. -/
def nsidList (vs : List (Nat × Volume)) (above : Nat) : Bytes :=
  fitBytes 4096 ((((vs.map (·.1)).filter fun n => decide (above < n)).foldr insertNat []).flatMap fun n => leBytes 4 n)

/-- A controller list: count, then identifiers. -/
def ctlList (l : List Nat) : Bytes := fitBytes 4096 (leBytes 2 l.length ++ l.flatMap fun n => leBytes 2 n)

/-- The bytes of an Identify structure, or the status. A namespace that is not attached reads as zeros under CNS 0x00 (NVMe). -/
def identifyData (s : State) (ctl cns nsid cntid : Nat) : Nat × Bytes :=
  let attached := s.decks.volumes.filter fun p => p.2.attached.contains ctl
  let ofVol := fun (needAttached : Bool) (f : Volume → Bytes) =>
    match s.vol nsid with
    | none => (0x0B, [])
    | some v => if needAttached && !v.attached.contains ctl then (0, zeros 4096) else (0, f v)
  match cns with
  | 0x00 => if nsid = 0xFFFFFFFF then (0, overlay (zeros 4096) nsCommon) else ofVol true (identifyNs s)
  | 0x01 => (0, identifyCtl s ctl)
  | 0x02 => (0, nsidList attached nsid)
  | 0x03 => ofVol true (identifyDescs s)
  | 0x06 => (0, identifyCmdSet)
  | 0x08 => ofVol true (identifyIndep s)
  | 0x0A => (0, identifyFormats)
  | 0x10 => (0, nsidList s.decks.volumes nsid)
  | 0x11 => ofVol false (identifyNs s)
  | 0x12 => match s.vol nsid with
    | some v => (0, ctlList ((v.attached.filter fun i => decide (cntid ≤ i)).foldr insertNat []))
    | none => (0x0B, [])
  | 0x13 => (0, ctlList (s.ctlIds.filter fun i => decide (cntid ≤ i)))
  | 0x14 => (0, identifyPrimary ctl)
  | 0x15 => (0, zeros 4096)
  | _ => (0x02, [])

/-- IDENTIFY (05 R150). -/
def execIdentify (ref : CmdRef) (cns nsid cntid : Nat) (s : State) : Host.Outcome State Fault Refusal :=
  if !adminTurn s ref then .next s
  else
    let r := identifyData s ref.ctl cns nsid cntid
    if r.1 ≠ 0 then .next (failCmd ref r.1 s)
    else .next (commitCmd ref 0 0 (tickFree (sendData ref r.2 s)))

end Sys2Proof.Machine
end

