-- ==== Sys2Proof/Machine/Features.lean ====
section
/-!
DEFINITION. Set Features and Get Features, and the values that registers and features share (05 R154, R155, R161 to R164; 13 R384; 18 R506,
R512, R513).
-/

namespace Sys2Proof.Machine

/-! ## Values shared with registers (18 R506) -/

/-- Watts that a CAP_W value means (05 R155). -/
def capWatts (w : Nat) : Nat := if w = 0 then 125 else w

/-- CAP_W lies in its range (05 R155, 18 R512). -/
def capOk (w : Nat) : Bool := decide (w = 0) || (decide (40 ≤ w) && decide (w ≤ 125))

/-- Set CAP_W (18 R512): a change records event 0x6005 (13 R385). -/
def setCap (w : Nat) (s : State) : State :=
  if w = s.feats.capW then s
  else recordEvent 0x6005 [capWatts s.feats.capW, capWatts w, 0, 0] { s with feats := { s.feats with capW := w } }

/-- Set the six floors (18 R512). -/
def setFloors (l : List Nat) (s : State) : State := { s with feats := { s.feats with floors := l } }

/-! ## Standard features (05 R154) -/

/-- A feature can be saved. -/
def saveable (fid : Nat) : Bool := ! [0x07, 0x09, 0x0E].contains fid

/-- The standard features. -/
def standardFids : List Nat := [0x01, 0x02, 0x04, 0x07, 0x08, 0x09, 0x0A, 0x0B, 0x0C, 0x0E, 0x11]

/-- The vendor features (05 R155). -/
def vendorFids : List Nat := [0xC0, 0xC1, 0xC2, 0xC3, 0xC4, 0xC5]

/-- Default of a standard feature (05 R154, R163; 02 R50; the others DESIGN CHOICE, log 13). -/
def stdDefault (fid : Nat) : BitVec 32 :=
  if fid = 0x04 then 373 else if fid = 0x0B then 0x9FF else if fid = 0x11 then 1 else 0

/-- Key under which a Temperature Threshold value is kept: THSEL 0 over, 1 under (NVMe). -/
def featKey (fid : Nat) (cdw11 : BitVec 32) : Nat :=
  if fid = 0x04 ∧ ((cdw11 >>> 20) &&& 3) = 1 then 0x104 else fid

/-- The APST entry of a power state in the 256 data bytes: ITPS in bits 7:3, ITPT in bits 31:8 (05 R164; NVMe). -/
def apstEntry (data : Bytes) (i : Nat) : Nat × Nat :=
  let w := leNat (sliceBytes data (8 * i) 4)
  (w / 8 % 32, w / 256)

/-- The entries of an APST table whose time is not 0. -/
def apstTable (data : Bytes) : Tbl Nat (Nat × Nat) :=
  (List.range 32).filterMap fun i => if (apstEntry data i).2 = 0 then none else some (i, apstEntry data i)

/-- Every entry of an APST table names PS3 or PS4. -/
def apstOk (t : Tbl Nat (Nat × Nat)) : Bool := t.all fun e => decide (3 ≤ e.2.1) && decide (e.2.1 ≤ 4)

/-- The 256 bytes of an APST table. -/
def apstBytes (t : Tbl Nat (Nat × Nat)) : Bytes :=
  (List.range 32).flatMap fun i =>
    match tblFind t i with
    | some e => leBytes 4 (e.1 * 8 + e.2 * 256) ++ zeros 4
    | none => zeros 8

/-- Some I/O queue exists on a controller. -/
def ioQueuesExist (c : Ctl) : Bool := c.sqs.any (fun q => decide (q.id ≠ 0)) || c.cqs.any fun q => decide (q.id ≠ 0)

/-- Store a value of a standard feature, and its saved value when it is saved. -/
def storeStd (ctl key : Nat) (sv : Bool) (v : BitVec 32) (s : State) : State :=
  let c := s.ctl ctl
  s.setCtl ctl { c with
    feats := tblPut c.feats key v
    featsSaved := if sv then tblPut c.featsSaved key v else c.featsSaved }

/-- Set a standard feature: status, Dword 0 and the state after (05 R154). -/
def setStandard (ctl : Nat) (a : FeatureArgs) (s : State) : Nat × Nat × State :=
  let c := s.ctl ctl
  let v := a.cdw11
  let low := (v &&& 0xFFFF).toNat
  let store := fun (s : State) => storeStd ctl (featKey a.fid v) a.sv v s
  if a.fid = 0x02 then
    let ps := low % 32
    if 4 < ps then (0x02, 0, s) else (0, 0, goToPs ps (store s))
  else if a.fid = 0x04 then
    let sel := ((v >>> 16) &&& 0xF).toNat
    if (sel ≠ 0 ∧ sel ≠ 15) ∨ 1 < ((v >>> 20) &&& 3).toNat then (0x02, 0, s) else (0, 0, updateCritWarn (store s))
  else if a.fid = 0x07 then
    if low = 65535 ∨ (v >>> 16).toNat = 65535 then (0x02, 0, s)
    else if ioQueuesExist c then (0x0C, 0, s) else (0, 2047 + 2047 * 65536, s)
  else if a.fid = 0x09 then
    if 2048 ≤ low then (0x02, 0, s)
    else
      let rest := c.noCoalesce.filter fun i => !decide (i = low)
      (0, 0, s.setCtl ctl { c with noCoalesce := if v.getLsbD 16 then low :: rest else rest })
  else if a.fid = 0x0C then
    let t := apstTable a.data
    if apstOk t = false then (0x02, 0, s)
    else
      let s := store s
      let c := s.ctl ctl
      (0, 0, s.setCtl ctl { c with apst := t, apstSaved := if a.sv then t else c.apstSaved })
  else if a.fid = 0x0E then
    (0, 0, { s with recorder := { s.recorder with timestamp := some (leNat (sliceBytes a.data 0 6), s.now) } })
  else (0, 0, store s)

/-! ## Vendor features (05 R155) -/

/-- The low 16 bits of a value, and bit 16. -/
def low16 (v : BitVec 32) : Nat := (v &&& 0xFFFF).toNat

/-- Bytes 0 to 5 of the data of Class Floors. -/
def floorBytes (data : Bytes) : List Nat := (List.range 6).map fun i => leNat (sliceBytes data i 1)

/-- The three timers of Unit Idle Timers. -/
def timerAt (data : Bytes) (i : Nat) : Nat := leNat (sliceBytes data (4 * i) 4)

/-- Keep CDW11 as the saved value of a vendor feature. -/
def saveVendor (a : FeatureArgs) (s : State) : State :=
  if a.sv then { s with feats := { s.feats with saved := tblPut s.feats.saved a.fid a.cdw11 } } else s

/-- Set the values that Patrol Rate, Dirty Limit Policy and Member Completion Timeout hold. -/
def setPatrolRate (v : BitVec 32) (s : State) : State :=
  { s with decks := { s.decks with passHours := low16 v, patrolPause := v.getLsbD 16 } }
def setDirtyPolicy (v : BitVec 32) (s : State) : State :=
  { s with feats := { s.feats with ceil := low16 v, forceWt := v.getLsbD 16 } }
def setMemberTimeout (v : BitVec 32) (s : State) : State := { s with feats := { s.feats with memberTimeout := low16 v } }
def setTimers (t : Nat × Nat × Nat) (s : State) : State :=
  { s with feats := { s.feats with memSrUs := t.1, linkL12Us := t.2.1, blockGateUs := t.2.2 } }

/-- Set a vendor feature: status and the state after. A value outside its range changes nothing. -/
def setVendor (a : FeatureArgs) (s : State) : Nat × State :=
  let v := a.cdw11
  let n := low16 v
  if a.fid = 0xC0 then
    let w := n % 256
    if capOk w = false then (0x02, s)
    else
      let s := setCap w s
      (0, if a.sv then { s with feats := { s.feats with capSaved := some w } } else s)
  else if a.fid = 0xC1 then
    let l := floorBytes a.data
    if l.any (fun f => decide (100 < f)) ∨ 100 < sumOf l then (0x02, s)
    else
      let s := setFloors l s
      (0, if a.sv then { s with feats := { s.feats with floorsSaved := some l } } else s)
  else if a.fid = 0xC2 then
    if n < 24 ∨ 8760 < n then (0x02, s) else (0, saveVendor a (setPatrolRate v s))
  else if a.fid = 0xC3 then
    if 128 < n then (0x02, s) else (0, policyCheck (saveVendor a (setDirtyPolicy v s)))
  else if a.fid = 0xC4 then
    let t := (timerAt a.data 0, timerAt a.data 1, timerAt a.data 2)
    if 10000000 < t.1 ∨ 10000000 < t.2.1 ∨ 10000000 < t.2.2 then (0x02, s)
    else
      let s := setTimers t s
      (0, if a.sv then { s with feats := { s.feats with timersSaved := some t } } else s)
  else
    if n < 5 ∨ 50000 < n then (0x02, s) else (0, saveVendor a (setMemberTimeout v s))

/-- SET_FEATURES (05 R154, R155): an identifier that is not listed, 0x02; Save of one that cannot be saved, Feature Identifier Not
Saveable (0x10D; NVMe's status, PRESUMED, log 6). -/
def execSetFeatures (ref : CmdRef) (args : FeatureArgs) (s : State) : Host.Outcome State Fault Refusal :=
  if !adminTurn s ref then .next s
  else if !(standardFids ++ vendorFids).contains args.fid then .next (failCmd ref 0x02 s)
  else if args.sv && !saveable args.fid then .next (failCmd ref 0x10D s)
  else if standardFids.contains args.fid then
    let r := setStandard ref.ctl args s
    .next (endCmd ref r.1 r.2.1 r.2.2)
  else
    let r := setVendor args s
    .next (endCmd ref r.1 0 r.2)

/-! ## Get Features -/

/-- Milliseconds of the Timestamp now, since it was set or since the count began (05 R154; NVMe). -/
def timestampMs (s : State) : Nat :=
  match s.recorder.timestamp with
  | some (ms, at_) => ms + (s.now - at_) / 1000000
  | none => (s.now - s.recorder.unsetFrom) / 1000000

/-- The data of a feature that carries some: the value in force, or the default (`dflt`), or the saved value. -/
def featData (s : State) (ctl fid sel : Nat) : Option Bytes :=
  let c := s.ctl ctl
  let f := s.feats
  if fid = 0x0C then some (apstBytes (if sel = 0 then c.apst else if sel = 2 then c.apstSaved else []))
  else if fid = 0x0E then
    some (if sel = 0 then leBytes 6 (timestampMs s) ++ leBytes 1 (if s.recorder.timestamp.isSome then 2 else 0) ++ zeros 1 else zeros 8)
  else if fid = 0xC1 then
    let dflt := [50, 20, 10, 5, 2, 1]
    some ((if sel = 0 then f.floors else if sel = 2 then f.floorsSaved.getD dflt else dflt).flatMap (leBytes 1) ++ zeros 2)
  else if fid = 0xC4 then
    let dflt := (1000, 10000, 100)
    let t := if sel = 0 then (f.memSrUs, f.linkL12Us, f.blockGateUs) else if sel = 2 then f.timersSaved.getD dflt else dflt
    some (leBytes 4 t.1 ++ leBytes 4 t.2.1 ++ leBytes 4 t.2.2 ++ zeros 4)
  else none

/-- A value with bit 16 from a flag. -/
def withFlag (n : Nat) (b : Bool) : Nat := n + if b then 65536 else 0

/-- Dword 0 of Get Features: the value in force (`sel` 0), the default (1), or the saved value (2), which is the default while none is
saved. -/
def featDw0 (s : State) (ctl fid sel : Nat) (cdw11 : BitVec 32) : Nat :=
  let c := s.ctl ctl
  let f := s.feats
  let key := featKey fid cdw11
  let saved := fun (dflt : Nat) => if sel = 2 then ((tblFind f.saved fid).map (·.toNat)).getD dflt else dflt
  if fid = 0x07 then 2047 + 2047 * 65536
  else if fid = 0x09 then withFlag (low16 cdw11) (decide (sel = 0) && c.noCoalesce.contains (low16 cdw11))
  else if fid = 0x02 ∧ sel = 0 then s.mode.ps
  else if standardFids.contains fid then
    (if sel = 0 then featValue c key (stdDefault key) else if sel = 2 then tblGet c.featsSaved key (stdDefault key) else stdDefault key).toNat
  else if fid = 0xC0 then if sel = 0 then f.capW else if sel = 2 then f.capSaved.getD 125 else 125
  else if fid = 0xC2 then if sel = 0 then withFlag s.decks.passHours s.decks.patrolPause else saved 168
  else if fid = 0xC3 then if sel = 0 then withFlag f.ceil f.forceWt else saved 0
  else if fid = 0xC5 then if sel = 0 then f.memberTimeout else saved 20
  else 0

/-- What Get Features returns: status, Dword 0, and data when the feature carries some. SEL 3 asks for the capabilities: bit 0 saveable,
bit 2 changeable (NVMe, PRESUMED, log 6). -/
def getFeature (s : State) (ctl fid sel : Nat) (cdw11 : BitVec 32) : Nat × Nat × Option Bytes :=
  if !(standardFids ++ vendorFids).contains fid ∨ 3 < sel then (0x02, 0, none)
  else if sel = 3 then (0, (if saveable fid then 5 else 4), none)
  else (0, featDw0 s ctl fid sel cdw11, featData s ctl fid sel)

/-- GET_FEATURES (05 R154, R155). -/
def execGetFeatures (ref : CmdRef) (fid sel cdw11 : Nat) (s : State) : Host.Outcome State Fault Refusal :=
  if !adminTurn s ref then .next s
  else
    let r := getFeature s ref.ctl fid sel (BitVec.ofNat 32 cdw11)
    if r.1 ≠ 0 then .next (failCmd ref r.1 s)
    else
      let s1 := match r.2.2 with | some d => sendData ref d s | none => s
      .next (commitCmd ref 0 r.2.1 s1)

end Sys2Proof.Machine
end

