-- ==== Sys2Proof/Machine/Namespaces.lean ====
section
/-!
DEFINITION. Namespaces: create, delete, attach; Format and Sanitize (05 R140 to R147, R157 to R160; 10 R536; 11 R323).
-/

namespace Sys2Proof.Machine

/-! ## Creation (05 R141, R142) -/

/-- A format index and protection settings that R146 allows: types 1 to 3 need metadata of 8 bytes or more. -/
def formatOk (lbaf dps : Nat) : Bool :=
  match lbaFormat lbaf with
  | some f => decide (dps % 8 = 0) || (decide (dps % 8 ≤ 3) && decide (8 ≤ f.2))
  | none => false

/-- LBA format index of an FLBAS byte: bits 3:0, with bits 6:5 above them (NVMe). -/
def flbasIndex (f : Nat) : Nat := f % 16 + 16 * (f / 32 % 4)

/-- A round of a deck is withheld: some hand of it lacks more than m chunks (10 R536). -/
def roundWithheld (d : Deck) (r : Nat) : Bool :=
  let u := handsPerRound d.label.shape
  (List.range u).any fun i => handLost d (r * u + i)

/-- Some chunk of the deck can be missing: a member is not ACTIVE, or the fail list is not empty. -/
def anyMissing (d : Deck) : Bool := !d.label.failList.isEmpty || d.label.members.any fun e => decide (e.mstate ≠ .active)

/-- The parts of a run of rounds, from `a` on, that are not withheld. -/
def openRuns (d : Deck) : Nat → Nat → List (Nat × Nat)
  | _, 0 => []
  | a, n + 1 =>
    if roundWithheld d a then openRuns d (a + 1) n
    else
      match openRuns d (a + 1) n with
      | (b, c) :: rest => if b = a + 1 then (a, c + 1) :: rest else (a, 1) :: (b, c) :: rest
      | [] => [(a, 1)]

/-- Free rounds of a deck as runs (05 R142): no volume holds them and R536 does not withhold them. -/
def freeRuns (s : State) (id : Nat) (d : Deck) : List (Nat × Nat) :=
  let sh := d.label.shape
  let runs := roundRuns sh (gapsOf (sh.rounds * chunkBytes sh) 0 (usedBytes s id d))
  if anyMissing d then runs.flatMap fun r => openRuns d r.1 r.2 else runs

/-- Checks of a create that need no allocation (05 R140, R141, R146; 11 R323). The status of a DECK_ID that names no deck is Invalid Field
(DEDUCED, log 56). -/
def nsCreateStatus (s : State) (a : NsCreate) : Nat :=
  if changeBar s ≠ 0 then changeBar s
  else
    match s.deck a.deckId with
    | none => 0x02
    | some d =>
      if d.label.redeal.isSome then 0x0C
      else if a.ncap ≠ a.nsze ∨ a.nsze = 0 ∨ a.nmic % 2 = 0 ∨ 1 < a.crypt then 0x02
      else if formatOk (flbasIndex a.flbas) a.dps = false then 0x10A
      else if (freeNsid s).isNone then 0x116
      else 0

/-- Hands and extents of a new volume (05 R142), none when the deck lacks them. -/
def nsExtents (s : State) (a : NsCreate) (d : Deck) : Option (Nat × List (Nat × Nat × Nat)) :=
  let sh := d.label.shape
  let f := (lbaFormat (flbasIndex a.flbas)).getD (4096, 0)
  let hands := handsNeeded sh a.nsze f.1 f.2
  match takeRounds (handsPerRound sh) (freeRuns s a.deckId d) (hands / handsPerRound sh) 0 with
  | some (ext, _) => if 256 < ext.length then none else some (hands, ext)
  | none => none

/-- NAMESPACE_MANAGEMENT_CREATE (05 R141, R142, R147): Dword 0 is the NSID. -/
def execNamespaceManagementCreate (ref : CmdRef) (args : NsCreate) (s : State) : Host.Outcome State Fault Refusal :=
  if !adminTurn s ref then .next s
  else if nsCreateStatus s args ≠ 0 then .next (failCmd ref (nsCreateStatus s args) s)
  else
    match s.deck args.deckId, freeNsid s with
    | some d, some nsid =>
      match nsExtents s args d with
      | none => .next (failCmd ref 0x115 s)
      | some (hands, ext) =>
        let (key, s1) := if args.crypt = 1 then drawKey s else (0, s)
        let v := { newVolume nsid args.deckId (flbasIndex args.flbas) d.label.generation args.nsze hands args.crypt key args.dps ext with
          extended := args.flbas / 16 % 2 = 1 }
        let s2 := tableUpdate args.deckId [nsid] (s1.setVol nsid v)
        .next (commitCmd ref 0 nsid (noteAll s (evalDeck args.deckId s2)))
    | _, _ => .next s

/-! ## Deletion (05 R145) -/

/-- Namespace Management deletion of a volume (05 R145; 11 R323). -/
def nsDeleteStatus (s : State) (nsid : Nat) : Nat :=
  if changeBar s ≠ 0 then changeBar s
  else
    match s.vol nsid with
    | none => 0x0B
    | some v =>
      if deleting s nsid then 0x0B
      else
        match s.deck v.deckId with
        | some d => if d.label.redeal.isSome then 0x0C else 0
        | none => 0

/-- NAMESPACE_MANAGEMENT_DELETE (05 R145): it ends with NAMESPACE_DELETE_COMMIT. -/
def execNamespaceManagementDelete (ref : CmdRef) (nsid : Nat) (s : State) : Host.Outcome State Fault Refusal :=
  if !adminTurn s ref then .next s
  else if nsDeleteStatus s nsid ≠ 0 then .next (failCmd ref (nsDeleteStatus s nsid) s)
  else .next (waitCmd ref nsid s)

/-- Some command of an I/O queue names a volume and has not been posted. -/
def ioOpenOn (s : State) (nsid : Nat) : Bool :=
  s.ctls.any fun p => p.2.sqs.any fun q => decide (q.id ≠ 0) && q.rob.any fun e => decide (e.nsid = nsid)

/-- A hand update of a volume is in flight. -/
def updatesOn (s : State) (nsid : Nat) : Bool := s.decks.decks.any fun p => p.2.updates.any fun u => decide (u.nsid = nsid)

/-- Drop every cache page of a volume, clean and dirty, with its fills and its part of a vault image. -/
def dropPages (nsid : Nat) (s : State) : State :=
  let key := nsid - 1
  { s with
    cache := { s.cache with
      dir := s.cache.dir.filter fun e => !decide (e.keyNs = key) || decide (e.state = .retired)
      fills := s.cache.fills.filter fun f => !decide (f.1 = key) }
    vault := { s.vault with imageTodo := s.vault.imageTodo.filter fun p => !decide (p.1 = key) } }

/-- End the admin commands that wait for a volume, by opcode. -/
def endWaiting (opcode : Nat) (f : RobEntry → Bool) (s : State) : State :=
  { s with ctls := s.ctls.map fun p => (p.1, { p.2 with sqs := p.2.sqs.map fun q =>
      if q.id = 0 then
        { q with rob := q.rob.map fun e =>
            if e.opcode = opcode ∧ e.waits = true ∧ f e = true then { e with committed := true, waits := false } else e }
      else q }) }

/-- NAMESPACE_DELETE_COMMIT (05 R145): every command to the volume has been posted; the pages go, and the hands are freed in one step of
the volume table. -/
def execNamespaceDeleteCommit (nsid : Nat) (s : State) : Host.Outcome State Fault Refusal :=
  match s.vol nsid with
  | none => .next s
  | some v =>
    if !deleting s nsid || ioOpenOn s nsid || updatesOn s nsid then .next s
    else
      let s1 := dropPages nsid { s with decks := { s.decks with volumes := tblDel s.decks.volumes nsid } }
      let s2 := trimData v.deckId (tableUpdate v.deckId [nsid] s1)
      let s3 := endWaiting 0x0D (fun e => decide (e.nsid = nsid)) (namespaceChanged nsid v.attached s2)
      .next (noteAll s (evalDeck v.deckId (maybeReleaseImage (wtRecord s3))))

/-! ## Attachment (05 R150; its statuses are NVMe's, PRESUMED, log 6) -/

/-- Status of a Namespace Attachment. -/
def attachStatus (s : State) (nsid sel : Nat) (ctls : List Nat) : Nat :=
  if sanitizeBar s ≠ 0 then sanitizeBar s
  else if 1 < sel then 0x02
  else
    match s.vol nsid with
    | none => 0x0B
    | some v =>
      if deleting s nsid then 0x0B
      else if ctls.isEmpty || !ctls.all s.ctlIds.contains then 0x11C
      else if sel = 0 ∧ (ctls.any v.attached.contains) = true then 0x118
      else if sel = 1 ∧ (ctls.all v.attached.contains) = false then 0x11A
      else 0

/-- NAMESPACE_ATTACHMENT (05 R150). -/
def execNamespaceAttachment (ref : CmdRef) (nsid sel : Nat) (ctls : List Nat) (s : State) : Host.Outcome State Fault Refusal :=
  if !adminTurn s ref then .next s
  else if attachStatus s nsid sel ctls ≠ 0 then .next (failCmd ref (attachStatus s nsid sel ctls) s)
  else
    match s.vol nsid with
    | none => .next s
    | some v =>
      let now := if sel = 0 then v.attached ++ ctls else v.attached.filter fun i => !ctls.contains i
      .next (commitCmd ref 0 0 (namespaceChanged nsid ctls (s.setVol nsid { v with attached := now })))

/-! ## Format (05 R157, R159) -/

/-- Volumes that a Format names. -/
def formatNsids (s : State) (nsid : Nat) : List Nat :=
  if nsid = 0xFFFFFFFF then (s.decks.volumes.map (·.1)).foldr insertNat [] else [nsid]

/-- Status of a Format (05 R157; 11 R323). A second Format or Sanitize job at once completes with Format In Progress (DEDUCED, log 56). -/
def formatStatus (s : State) (nsid lbaf dps ses : Nat) : Nat :=
  let ns := formatNsids s nsid
  if changeBar s ≠ 0 then changeBar s
  else if ns.any fun n => (s.vol n).isNone || deleting s n then 0x0B
  else if ns.any fun n => match (s.vol n).bind fun v => s.deck v.deckId with
      | some d => d.label.redeal.isSome
      | none => false then 0x0C
  else if 2 < ses then 0x02
  else if formatOk (flbasIndex lbaf) dps = false then 0x10A
  else if ses = 2 ∧ (ns.any fun n => match s.vol n with | some v => decide (v.crypt = 0) | none => false) = true then 0x10A
  else if s.decks.wipe.isSome || ns.any fun n => match s.vol n with | some v => v.formatLeft.isSome | none => false then 0x84
  else 0

/-- Uncommitted I/O to a volume is given up with a status. -/
def giveUpIo (nsid status : Nat) (s : State) : State :=
  s.ctlIds.foldl (fun s id => (s.ctl id).sqs.foldl (fun s q =>
    if q.id = 0 then s
    else (q.rob.filter fun e => !robDone e && decide (e.nsid = nsid)).foldl
      (fun s e => abandonCmd { ctl := id, sqid := q.id, cid := e.cid } status s) s) s) s

/-- Slots of a deck's members that can be reached. -/
def reachedSlots (s : State) (d : Deck) : List Nat := (d.label.members.filterMap (·.slot)).filter fun x => slotReachable (s.slot x)

/-- Rounds of a volume, as runs: first round and count. -/
def volumeRuns (d : Deck) (v : Volume) : List (Nat × Nat) :=
  let u := handsPerRound d.label.shape
  v.extents.map fun g => (g.2.1 / u, ceilDiv g.2.2 u)

/-- Bytes of every member that a run of rounds takes: offset and length. -/
def runBytes (d : Deck) (r : Nat × Nat) : Nat × Nat :=
  (d.label.dataStart + r.1 * chunkBytes d.label.shape, r.2 * chunkBytes d.label.shape)

/-- Members of a deck that cannot be reached: what a Format or a Sanitize does to them is done on their return. -/
def awayMembers (s : State) (d : Deck) : List Nat :=
  (List.range d.label.members.length).filter fun i => !((memberOf d i).bind (·.slot)).any fun x => slotReachable (s.slot x)

/-- Leave work for the members of a deck that cannot be reached. -/
def leaveDue (id : Nat) (fill dealloc : List (Nat × Nat)) (rewrite : Bool) (s : State) : State :=
  updDeck id (fun d => { d with
    due := d.due ++ (awayMembers s d).map fun i => { member := i, fill := fill, dealloc := dealloc, rewrite := rewrite } }) s

/-- Deallocate the hands of a volume on every member of its deck; with `zero` a member that is away is overwritten on its return too. -/
def deallocHands (d : Deck) (v : Volume) (zero : Bool) (s : State) : State :=
  let rs := (volumeRuns d v).map (runBytes d)
  leaveDue v.deckId (if zero then rs else []) rs false ((reachedSlots s d).foldl (fun s x => deallocOn x rs s) s)

/-- The hand area of a deck's members, as a byte range. -/
def handArea (d : Deck) : Nat × Nat := runBytes d (0, d.label.shape.rounds)

/-- The places of a deck's volume table and journal area, as byte ranges: the two copies, and the ring's blocks. -/
def tableArea (d : Deck) : List (Nat × Nat) := [(d.label.voltStart, 18 * 1048576), (d.label.journalStart + 8192, 65534 * 4096)]

/-- The volume as a format leaves it. -/
def formatted (d : Deck) (lbaf dps key : Nat) (v : Volume) : Volume :=
  let f := (lbaFormat (flbasIndex lbaf)).getD (4096, 0)
  { v with
    lbaf := flbasIndex lbaf, extended := lbaf / 16 % 2 = 1, dps := dps, key := key, nsze := largestNsze d.label.shape v.handsAlloc f.1 f.2
    bad := [], overflow := false, writeLock := false, vstate := 2, formatLeft := some 100 }

/-- Format one volume: the key first, pages dropped, hands deallocated, one step of the volume table. Its bad-block list is empty, so the deck is
evaluated again (07 R222). -/
def formatOne (lbaf dps ses : Nat) (s : State) (nsid : Nat) : State :=
  match s.vol nsid with
  | none => s
  | some v =>
    match s.deck v.deckId with
    | none => s
    | some d =>
      let s := giveUpIo nsid 0x84 s
      let (key, s) := if ses = 2 then drawKey s else (v.key, s)
      let s := dropPages nsid (deallocHands d v (decide (ses = 1)) (s.setVol nsid (formatted d lbaf dps key v)))
      evalDeck v.deckId (trimData v.deckId (tableUpdate v.deckId [nsid] s))

/-- Payload of the progress record. The manual calls it private to the controller (16 R455; DESIGN CHOICE, log 133). -/
def wipeBytes (w : WipeJob) : Bytes :=
  leBytes 1 w.kind ++ leBytes 1 w.ses ++ leBytes 1 w.owpass ++ leBytes 1 (if w.invert then 1 else 0) ++ leBytes 4 w.done ++
    leBytes 4 w.pattern.toNat ++ w.nsids.flatMap (leBytes 2)

/-- The progress record that boot flash holds (05 R159). -/
def wipeRecord (d : Decks) : Option WipeJob := pairItem "WSDVPROG" wipeBytes d.wipeFlash

/-- Write the progress record (05 R159). The command that began the work is no part of it. -/
def putWipe (w : WipeJob) (s : State) : State :=
  { s with decks := { s.decks with wipe := some w, wipeFlash := pairPut "WSDVPROG" wipeBytes { w with ref := none } s.decks.wipeFlash } }

/-- The work has ended: no progress record is left. -/
def dropWipe (s : State) : State := { s with decks := { s.decks with wipe := none, wipeFlash := {} } }

/-- The part of a list of runs between two positions in rounds. -/
def sliceRuns (a b : Nat) : List (Nat × Nat) → List (Nat × Nat)
  | [] => []
  | r :: rs =>
    let lo := min a r.2
    let hi := min b r.2
    (if lo < hi then [(r.1 + lo, hi - lo)] else []) ++ sliceRuns (a - r.2) (b - r.2) rs

/-- Overwrite runs of rounds on members with a pattern. -/
def fillRuns (d : Deck) (slots : List Nat) (runs : List (Nat × Nat)) (pattern : BitVec 32) (s : State) : State :=
  slots.foldl (fun s x => runs.foldl (fun s r => emit (.memberFill x (runBytes d r).1 (runBytes d r).2 pattern) s) s) s

/-- The member supports Sanitize Block Erase (05 R158). -/
def eraseOk (s : State) (x : Nat) : Bool := ((s.slot x).info.map fun i => i.blockErase).getD false

/-- A part of the overwriting of a deck's hand area (05 R158), between two points of the work in units of 1/65,536: `passes` passes, the pattern
inverted in every other one when asked for. -/
def overwritePart (d : Deck) (slots : List Nat) (a b passes : Nat) (pattern : BitVec 32) (invert : Bool) (s : State) : State :=
  let n := d.label.shape.rounds
  (List.range passes).foldl (fun s i =>
    let lo := n * passes * a / 65536 - i * n
    let hi := n * passes * b / 65536 - i * n
    fillRuns d slots (sliceRuns lo hi [(0, n)]) (if invert && decide (i % 2 = 1) then ~~~pattern else pattern) s) s

/-- The member writes of a step of the work: a Format with SES = 001b overwrites the volumes' hands with zeros; a block erase overwrites the hand
area of the members without Sanitize Block Erase with zeros; an overwrite writes the host's pattern (05 R157, R158). -/
def wipePart (w : WipeJob) (a b : Nat) (s : State) : State :=
  if w.kind = 1 then
    w.nsids.foldl (fun s n =>
      match s.vol n with
      | some v =>
        match s.deck v.deckId with
        | some d =>
          let runs := volumeRuns d v
          let total := runs.foldl (fun n r => n + r.2) 0
          fillRuns d (reachedSlots s d) (sliceRuns (total * a / 65536) (total * b / 65536) runs) 0 s
        | none => s
      | none => s) s
  else if w.kind = 2 then s
  else
    s.decks.decks.foldl (fun s p =>
      let slots := reachedSlots s p.2
      if w.kind = 3 then overwritePart p.2 (slots.filter fun x => !eraseOk s x) a b 1 0 false s
      else overwritePart p.2 slots a b w.owpass w.pattern w.invert s) s

/-- FORMAT_NVM (05 R157): of every volume while none exists it has nothing to do; it begins once no hand update of the volumes is in flight, and ends with FORMAT_COMPLETE. -/
def execFormatNvm (ref : CmdRef) (nsid lbaf dps ses : Nat) (s : State) : Host.Outcome State Fault Refusal :=
  if !adminTurn s ref then .next s
  else if formatStatus s nsid lbaf dps ses ≠ 0 then .next (failCmd ref (formatStatus s nsid lbaf dps ses) s)
  else
    let ns := formatNsids s nsid
    if ns.isEmpty then .next (commitCmd ref 0 0 s)
    else if ns.any (updatesOn s) then .next s
    else
      let s1 := ns.foldl (formatOne lbaf dps ses) s
      let job : WipeJob :=
        { kind := 1, nsids := ns, done := 0, ses := ses, pattern := 0, owpass := 0, invert := false, ref := some ref }
      let s2 := if ses = 1 then putWipe job s1 else s1
      .next (noteAll s (maybeReleaseImage (wtRecord (waitCmd ref nsid s2))))

/-- Percent of a wipe that remains. -/
def percentLeft (done : Nat) : Nat := ceilDiv ((65536 - done) * 100) 65536

/-- FORMAT_SANITIZE_PROGRESS (05 R159): a step of the work, SANITIZE class work (13 R378). -/
def execFormatSanitizeProgress (done : Nat) (s : State) : Host.Outcome State Fault Refusal :=
  match s.decks.wipe with
  | none => .next s
  | some w =>
    if !plainRuns s || decide (65536 < done) || decide (done ≤ w.done) then .next s
    else
      let s1 := putWipe { w with done := done } (wipePart w w.done done s)
      if w.kind = 1 then
        .next (w.nsids.foldl (fun s n => match s.vol n with
          | some v => s.setVol n { v with formatLeft := v.formatLeft.map fun _ => percentLeft done }
          | none => s) s1)
      else .next s1

/-- The format of a volume ends: one step of the volume table. -/
def endFormat (s : State) (nsid : Nat) : State :=
  match s.vol nsid with
  | none => s
  | some v =>
    if v.formatLeft.isNone then s
    else
      namespaceChanged nsid v.attached
        (tableUpdate v.deckId [nsid] (s.setVol nsid { v with vstate := 1, formatLeft := none }))

/-- FORMAT_COMPLETE (05 R157): the format of a volume, or of all, has ended; the command completes with the last of its volumes. -/
def execFormatComplete (nsid : Nat) (s : State) : Host.Outcome State Fault Refusal :=
  let ns := formatNsids s nsid
  if ns.all fun n => match s.vol n with | some v => v.formatLeft.isNone | none => true then .next s
  else
    let s0 := match s.decks.wipe with
      | some w =>
        let open_ := w.nsids.filter fun n => ((s.vol n).bind fun v => v.formatLeft).isSome
        if w.kind = 1 && open_.all ns.contains then wipePart w w.done 65536 s else s
      | none => s
    let s1 := ns.foldl endFormat s0
    let left := match s1.decks.wipe with
      | some w => decide (w.kind = 1) && !(w.nsids.any fun n => match s1.vol n with | some v => v.formatLeft.isSome | none => false)
      | none => false
    let s2 := if left then dropWipe s1 else s1
    let s3 := endWaiting 0x80 (fun e => decide (e.nsid = nsid) || (decide (e.nsid = 0xFFFFFFFF) && !anyFormat s2)) s2
    .next (noteAll s s3)

/-! ## Sanitize (05 R158 to R160) -/

/-- Status of a Sanitize (05 R152, R158, R160; 11 R323). -/
def sanitizeStatus (s : State) (sanact : Nat) : Nat :=
  if s.mode.mode = .quarantine then 0x0C
  else if 0 < activeRedeals s then 0x0C
  else if s.decks.sstat = 2 then 0x1D
  else if sanact = 0 ∨ 4 < sanact then 0x02
  else if sanact = 1 then 0
  else if s.decks.wipe.isSome || anyFormat s then 0x84
  else if sanact = 4 ∧ (s.decks.volumes.any fun p => decide (p.2.crypt = 0)) = true then 0x02
  else 0

/-- Drop what a Sanitize removes at once: the pages of every volume, the vault image, the journaled data and the bad-block lists; every hand is
deallocated. A write lock stays until a Format (10 R287). What a member that is away holds goes on its return: its hand area when the action
overwrites it, and its volume table and journal area. -/
def wipeAll (overwrite : Bool) (s : State) : State :=
  let s := s.decks.volumes.foldl (fun s p =>
    let s := dropPages p.1 (giveUpIo p.1 0x1D s)
    match s.deck p.2.deckId with
    | some _ => s.setVol p.1 { p.2 with vstate := 3, bad := [], overflow := false }
    | none => s) s
  let s := s.decks.decks.foldl (fun s p =>
    let s := (reachedSlots s p.2).foldl (fun s x => deallocOn x [handArea p.2] s) s
    let s := leaveDue p.1 ((if overwrite then [handArea p.2] else []) ++ tableArea p.2) [handArea p.2] true s
    evalDeck p.1 (trimData p.1 (tableUpdate p.1 ((volumesOf s p.1).map (·.nsid)) s))) s
  let had := s.vault.imageValid
  let s := { s with vault := { s.vault with image := none, imageValid := false, imageTodo := [], erasedA := true, erasedB := true } }
  if had then writeStop 1 s else s

/-- SANITIZE (05 R158): 1 Exit Failure Mode, 2 block erase, 3 overwrite, 4 crypto erase. An action begins once no hand update is in
flight, and ends with SANITIZE_COMPLETE. -/
def execSanitize (ref : CmdRef) (sanact owpass : Nat) (oipbp : Bool) (pattern : BitVec 32) (s : State) :
    Host.Outcome State Fault Refusal :=
  if !adminTurn s ref then .next s
  else if sanitizeStatus s sanact ≠ 0 then .next (failCmd ref (sanitizeStatus s sanact) s)
  else if sanact = 1 then
    let s1 := { s with decks := { s.decks with sanFailed := false, volumes := s.decks.volumes.map fun p => (p.1, { p.2 with vstate := 1 }) } }
    .next (commitCmd ref 0 0 s1)
  else if s.decks.decks.any fun p => !p.2.updates.isEmpty then .next s
  else
    let kind := if sanact = 4 then 2 else if sanact = 2 then 3 else 4
    let job : WipeJob :=
      { kind := kind, nsids := s.decks.volumes.map (·.1), done := 0, ses := 0, pattern := pattern,
        owpass := if owpass = 0 then 16 else owpass, invert := oipbp, ref := some ref }
    let s1 := wipeAll (decide (sanact ≠ 4)) s
    let s1 := if kind = 3 then
        s1.decks.decks.foldl (fun s p => ((reachedSlots s p.2).filter (eraseOk s)).foldl (fun s x => emit (.memberCmd x 0 0x84 2) s) s) s1
      else s1
    let s2 := putWipe job { s1 with decks := { s1.decks with
      sstat := 2, sanFailed := false, lastSanitize := sanact + (owpass % 16) * 16 + (if oipbp then 256 else 0) } }
    .next (noteAll s (wtRecord (waitCmd ref 0 s2)))

/-- New keys for every encrypted volume (05 R158, R160). -/
def rekey (s : State) : State :=
  s.decks.volumes.foldl (fun s p =>
    match s.vol p.1 with
    | some v =>
      let (k, s) := drawKey s
      s.setVol p.1 { v with key := k }
    | none => s) s

/-- Rewrite labels, both volume table copies and the journal areas of every deck from the controller's copies (05 R158): no copy keeps an old
wrapped key, and no ring a page of data. What the work has left in the hand area is deallocated, so that every block reads as zero. -/
def rewriteDecks (s : State) : State :=
  s.decks.decks.foldl (fun s p =>
    let ns := (volumesOf s p.1).map (·.nsid)
    let s := (reachedSlots s p.2).foldl (fun s x =>
      deallocOn x [handArea p.2] (emit (.memberFill x p.2.label.voltStart (18 * 1048576) 0) s)) s
    let s := updDeck p.1 (fun d => { d with tables := [] }) s
    let s := tableUpdate p.1 ns (tableUpdate p.1 ns (labelUpdate p.1 s))
    match s.deck p.1 with
    | some d => d.rings.foldl (fun s g => rewriteRing p.1 g s) s
    | none => s) s

/-- SANITIZE_COMPLETE (05 R158 to R160): on success the keys are replaced in one step and the members' structures rewritten; a failure
keeps the volumes restricted. The event is NVMe's Sanitize Operation Completed (PRESUMED, log 6). -/
def execSanitizeComplete (ok : Bool) (s : State) : Host.Outcome State Fault Refusal :=
  match s.decks.wipe with
  | none => .next s
  | some w =>
    if w.kind = 1 then .next s
    else
      let s0 := dropWipe (if ok then wipePart w w.done 65536 s else s)
      let s1 := { s0 with decks := { s0.decks with
        sstat := if ok then 1 else 3, sanFailed := !ok, lastPasses := if w.kind = 4 then (if ok then w.owpass else w.done * w.owpass / 65536) else 0 } }
      let s2 := if ok then
          let s := { s1 with decks := { s1.decks with volumes := s1.decks.volumes.map fun p => (p.1, { p.2 with vstate := 1 }) } }
          rewriteDecks (if w.kind = 2 then rekey s else s)
        else s1
      let s3 := match w.ref with
        | some r => endCmd r (if ok then 0 else 0x1C) 0 s2
        | none => s2
      .next (noteAll s (s3.ctlIds.foldl (fun s id => raiseAen id 6 1 0x81 s) s3))

end Sys2Proof.Machine
end

