-- ==== Sys2Proof/Machine/Mi.lean ====
section
/-!
DEFINITION. NVMe-MI: the requests of the sideband, and NVMe-MI Send and Receive (05 R150, R156). The forms of the messages and the layout of the
data structures are NVMe-MI's (PRESUMED, log 9): fields that the manual gives hold its values, optional features that it does not name read absent
(00 R3), reserved bytes are zero (00 R8), and what neither fixes is free.
-/

namespace Sys2Proof.Machine

/-- A flag at a bit place. -/
def flagAt (b : Bool) (i : Nat) : Nat := if b then 2 ^ i else 0

/-- CSTS: RDY, CFS, SHST, PP. -/
def cstsValue (c : Ctl) : Nat := flagAt c.rdy 0 + flagAt c.cfs 1 + c.shst * 4 + flagAt c.pp 5

/-! ## Data structures of NVMe-MI -/

/-- PCI Express ports of the device: the sideband's port has the next identifier. -/
def pciePorts (s : State) : Nat := if s.power.hostBif then 2 else 1

/-- NVM Subsystem Information: ports, NVMe-MI 1.2. -/
def miSubsystem (s : State) : Bytes := overlay (zeros 32) [(0, leBytes 1 (pciePorts s)), (1, leBytes 1 1), (2, leBytes 1 2)]

/-- Port Information of a PCI Express port: 512 bytes of payload, 2.5 to 64 GT/s, and the link as it runs (03 R70, R73, R75). -/
def miPciePort (s : State) (port : Nat) : Bytes :=
  let p := s.port port
  overlay (zeros 32)
    [(0, leBytes 1 1), freeBytes 0x300 2 2 s, (8, leBytes 1 2), (9, leBytes 1 0x3F), (10, leBytes 1 (linkSpeedCode p.speed)),
     (11, leBytes 1 (fullWidth s)), (12, leBytes 1 p.width), (13, leBytes 1 port)]

/-- Port Information of the sideband: address 0x1D, SMBus to 1 MHz, and I3C (19). -/
def miSidebandPort (s : State) : Bytes :=
  overlay (zeros 32) [(0, leBytes 1 2), freeBytes 0x300 2 2 s, (10, leBytes 1 (2 * 0x1D)), (11, leBytes 1 0x83)]

/-- Controller Information: its port, its routing identifier, and the identifiers of 03 R82. -/
def miController (s : State) (ctl : Nat) : Bytes :=
  overlay (zeros 32)
    [(0, leBytes 1 (if s.power.hostBif then ctl - 1 else 0)), freeMasked 0x301 5 1 s, freeBytes 0x301 6 2 s, (8, leBytes 2 0x1F5C),
     (10, leBytes 2 0x6480), (12, leBytes 2 0x1F5C), (14, leBytes 2 0x6480)]

/-- Read NVMe-MI Data Structure: by the type in bits 31:24 of its parameter, the port in 23:16 and the controller in 15:0. No optional command and
no Management Endpoint Buffer exists. -/
def miStructure (s : State) (param : Nat) : Nat × Bytes :=
  let port := param / 2 ^ 16 % 2 ^ 8
  let ctl := param % 2 ^ 16
  match param / 2 ^ 24 with
  | 0 => (0, miSubsystem s)
  | 1 => if port < pciePorts s then (0, miPciePort s port) else if port = pciePorts s then (0, miSidebandPort s) else (0x04, [])
  | 2 => (0, (ctlList (s.ctlIds.filter fun i => decide (ctl ≤ i))).take (2 + 2 * (s.ctlIds.filter fun i => decide (ctl ≤ i)).length))
  | 3 => if s.ctlIds.contains ctl then (0, miController s ctl) else (0x04, [])
  | 4 | 5 => (0, leBytes 2 0)
  | _ => (0x04, [])

/-- Composite temperature in °C as NVMe-MI writes it: 0x80 while the hub has no power to measure it. -/
def miTemp (s : State) : Nat :=
  let t := s.sched.tjMax / 10
  if !s.hubPowered then 0x80 else if 127 ≤ t then 0x7F else if t ≤ -60 then 0xC4 else (t % 256).toNat

/-- NVM Subsystem Health Status: status with the links that are up, the inverse of the Critical Warning, temperature, wear, and the composite
controller status. -/
def miSubsystemHealth (s : State) : Bytes :=
  let links := flagAt (s.port 0).linkUp 3 + flagAt (s.power.hostBif && (s.port 1).linkUp) 2
  overlay (zeros 8)
    [(0, (freeMasked 0x302 0 0x30 s).2.map (· ||| BitVec.ofNat 8 links)), (1, leBytes 1 (255 - s.mode.critWarn.toNat)), (2, leBytes 1 (miTemp s)),
     freeBytes 0x302 3 2 s, freeMasked 0x302 5 0x1F s]

/-- Controller Health Data of a controller: CSTS, temperature in K, Critical Warning; wear and spare are free. -/
def miControllerHealth (s : State) (ctl : Nat) : Bytes :=
  overlay (zeros 16)
    [(0, leBytes 2 ctl), (2, leBytes 2 (cstsValue (s.ctl ctl))), (4, leBytes 2 (if s.hubPowered then compositeK s else 0)), freeBytes 0x303 6 2 s,
     (8, leBytes 1 s.mode.critWarn.toNat)]

/-- Bits of a configuration that its value holds, by identifier: 1 SMBus frequency, 2 health status change, which holds none, 3 MCTP transmission
unit. -/
def miConfigMask (param : Nat) : Option (BitVec 32) :=
  match param % 256 with
  | 1 => some 0xF#32
  | 2 => some 0#32
  | 3 => some 0xFFFF#32
  | _ => none

/-- The value of a configuration: free until it has been set. -/
def miConfigValue (s : State) (param : Nat) : BitVec 32 :=
  match tblFind s.power.miConfig param with
  | some v => BitVec.ofNat 32 v
  | none => BitVec.ofNat 32 (leNat (freeBytes 0x304 0 4 s).2)

/-- An NVMe-MI answer: response status and data. -/
abbrev MiAnswer := Nat × Bytes

/-- The requests of R156: 0 Read NVMe-MI Data Structure, 1 NVM Subsystem Health Status Poll, 2 Controller Health Status Poll,
3 Configuration Get, 4 Configuration Set. In STANDBY the last two are answered Management Endpoint Busy; a type, port, controller or configuration that does
not exist is an Invalid Parameter (0x04). -/
def miAnswer (req param value : Nat) (s : State) : MiAnswer × State :=
  let busy : MiAnswer := (Config.miBusy, [])
  if req = 0 then (miStructure s param, tickFree s)
  else if req = 1 then ((0, miSubsystemHealth s), tickFree s)
  else if req = 2 then ((0, (s.ctlIds.filter fun i => decide (param % 2 ^ 16 ≤ i)).flatMap (miControllerHealth s)), tickFree s)
  else if s.mode.mode = .standby then (busy, s)
  else
    match miConfigMask param with
    | none => ((0x04, []), s)
    | some m =>
      if req = 3 then ((0, leBytes 4 (miConfigValue s param &&& m).toNat), tickFree s)
      else ((0, []), { s with power := { s.power with miConfig := tblPut s.power.miConfig param value } })

/-- The sideband answers: not in SHIP, and not once the sentinel is without power or has faulted (01 R31; 02 R44). -/
def sidebandLive (s : State) : Bool := decide (s.mode.mode ≠ .ship) && !s.power.sentinelOff && !s.power.sentinelDown

/-- A request that came on the sideband, or in-band with the hub running, and its answer. -/
def miReply (args : MiArgs) (req value : Nat) (s : State) : State :=
  if !(if args.sideband then sidebandLive s else hubAnswers s) then s
  else
    let r := miAnswer req args.param value s
    emit (.mi args.sideband r.1.1 r.1.2) r.2

/-- MI_READ_DATA_STRUCTURE (05 R156). -/
def execMiReadDataStructure (args : MiArgs) (s : State) : Host.Outcome State Fault Refusal := .next (miReply args 0 0 s)

/-- MI_SUBSYSTEM_HEALTH_POLL (05 R156). -/
def execMiSubsystemHealthPoll (args : MiArgs) (s : State) : Host.Outcome State Fault Refusal := .next (miReply args 1 0 s)

/-- MI_CONTROLLER_HEALTH_POLL (05 R156). -/
def execMiControllerHealthPoll (args : MiArgs) (s : State) : Host.Outcome State Fault Refusal := .next (miReply args 2 0 s)

/-- MI_CONFIGURATION_GET (05 R156). -/
def execMiConfigurationGet (args : MiArgs) (s : State) : Host.Outcome State Fault Refusal := .next (miReply args 3 0 s)

/-- MI_CONFIGURATION_SET (05 R156). -/
def execMiConfigurationSet (args : MiArgs) (value : Nat) (s : State) : Host.Outcome State Fault Refusal := .next (miReply args 4 value s)

/-- The answer to a tunnelled admin command (05 R156): Identify, Get Log Page and Get Features. Any other opcode is Invalid Command Opcode
of NVMe-MI (0x03). A tunnelled Get Log Page retains asynchronous events, and begins at its offset. -/
def tunnelAnswer (ctl opcode nsid cdw10 cdw11 offset : Nat) (s : State) : MiAnswer :=
  if opcode = 0x06 then identifyData s ctl (cdw10 % 256) nsid (cdw10 / 65536)
  else if opcode = 0x02 then
    let r := logPage s ctl (cdw10 % 256) (cdw10 / 256 % 128) nsid
    if r.1 ≠ 0 then r else (0, sliceBytes r.2 offset (4 * (cdw10 / 65536 + 65536 * (cdw11 % 65536) + 1)))
  else if opcode = 0x0A then
    let r := getFeature s ctl (cdw10 % 256) (cdw10 / 256 % 8) (BitVec.ofNat 32 cdw11)
    (r.1, leBytes 4 r.2.1 ++ r.2.2.getD [])
  else (0x03, [])

/-- MI_ADMIN_TUNNEL (05 R156). -/
def execMiAdminTunnel (args : MiArgs) (ctl opcode nsid cdw10 cdw11 : Nat) (s : State) : Host.Outcome State Fault Refusal :=
  if !(if args.sideband then sidebandLive s else hubAnswers s) then .next s
  else if s.mode.mode = .standby then .next (emit (.mi args.sideband Config.miBusy []) s)
  else
    let r := tunnelAnswer ctl opcode nsid cdw10 cdw11 args.offset s
    .next (emit (.mi args.sideband r.1 r.2) (tickFree s))

/-- The answer to a request of NVMe-MI Send: 0 to 4 as in `miAnswer`, 5 a tunnelled admin command (05 R156). -/
def sendAnswer (ctl request : Nat) (args : MiArgs) (b : MiBody) (s : State) : MiAnswer × State :=
  if request = 5 then (tunnelAnswer ctl b.opcode b.nsid b.cdw10 b.cdw11 args.offset s, tickFree s) else miAnswer request args.param b.value s

/-- NVME_MI_SEND (05 R150, R156): the request is answered as on the sideband, and the answer waits for NVMe-MI Receive. -/
def execNvmeMiSend (ref : CmdRef) (request : Nat) (args : MiArgs) (body : MiBody) (s : State) :
    Host.Outcome State Fault Refusal :=
  if !adminTurn s ref then .next s
  else if 5 < request then .next (failCmd ref 0x02 s)
  else
    let r := sendAnswer ref.ctl request args body s
    let c := r.2.ctl ref.ctl
    .next (commitCmd ref 0 r.1.1 (r.2.setCtl ref.ctl { c with miResponse := some r.1.2 }))

/-- NVME_MI_RECEIVE (05 R150, R156): with no answer waiting, Command Sequence Error (DEDUCED, log 9). -/
def execNvmeMiReceive (ref : CmdRef) (s : State) : Host.Outcome State Fault Refusal :=
  if !adminTurn s ref then .next s
  else
    let c := s.ctl ref.ctl
    match c.miResponse with
    | none => .next (failCmd ref 0x0C s)
    | some d => .next (commitCmd ref 0 0 (sendData ref d (s.setCtl ref.ctl { c with miResponse := none })))

end Sys2Proof.Machine
end

