-- ==== Sys2Proof/Machine/HostLink.lean ====
section
/-!
DEFINITION. The host link: link training and loss, Request Retry Status, configuration space, power states of the function and of the link,
Function Level Reset, lane failures and errors of the host's side (02 R54; 03 R70 to R98; 04 R137). The places of the fields in
configuration space are PCI Express's (PRESUMED, log 57).
-/

namespace Sys2Proof.Machine

/-! ## Configuration space (03 R79, R82 to R84) -/

/-- Bytes of a configuration dword. -/
def dwordBytes (v : BitVec 32) : Bytes := leBytes 4 v.toNat

/-- The function is in D3hot (03 R81). -/
def enterD3 (fn : Nat) (s : State) : State := s.setFn fn { s.fn fn with d3hot := true }

/-- Post what a submission queue holds and may post. -/
def postAll (ctl sqid : Nat) : Nat → State → State
  | 0, s => s
  | n + 1, s => postAll ctl sqid n (postOldest ctl sqid s)

/-- The function returns to D0: held completions are posted to the queues that still exist, and held events reported (03 R81). -/
def leaveD3 (fn : Nat) (s : State) : State :=
  let ctl := fn + 1
  if (s.fn fn).d3hot then
    let s := s.setFn fn { s.fn fn with d3hot := false }
    let s := (s.ctl ctl).sqs.foldl (fun s q => postAll ctl q.id q.rob.length s) s
    settleInta ctl (flushPba fn (deliverAens ctl 8 s))
  else s

/-- FLR (03 R80; 04 R137; 06 R199, R203, R204): a controller reset; once the inbound TLPs are retired, the function's configuration space, BARs, MSI-X
table, peer windows and Controller Memory Buffer are at their reset values. The SPDM connection and staged register dwords are kept: R137 does not
name them. -/
def flReset (fn : Nat) (s : State) : State :=
  let ctl := fn + 1
  let s := retireInbound ctl (controllerReset ctl s)
  let f := s.fn fn
  let s := s.setFn fn { spdm := f.spdm, staged := f.staged, latched := f.latched, inta := f.inta }
  let s := s.setCtl ctl { s.ctl ctl with cre := false, cmse := false, cba := 0, cbai := false, pwins := [], late := [], ccRest := 0, aqa := 0, asq := 0, acq := 0 }
  let s := { s with cache := retireWaiting (discardCmb ctl s.cache) }
  settleInta ctl { s with cache := { s.cache with limit := dirtyLimitOf s } }

/-! ### Data Object Exchange (03 R99; the registers and the header are PCI Express's, PRESUMED, log 57) -/

/-- A dword written to the write mailbox joins the object in transfer; one beyond 16 KiB sets Error. A mailbox in error takes none. -/
def doeWrite (fn : Nat) (v : BitVec 32) (s : State) : State :=
  let f := s.fn fn
  if f.doeError || f.doeBusy then s
  else if 4096 ≤ f.doeIn.length then s.setFn fn { f with doeError := true }
  else s.setFn fn { f with doeIn := f.doeIn ++ [v] }

/-- DOE Go: the object is complete when its length, in dwords, is that of its second dword; the mailbox is then Busy until it is answered. -/
def doeGo (fn : Nat) (s : State) : State :=
  let f := s.fn fn
  let len := (f.doeIn.getD 1 0).toNat % 2 ^ 18
  if f.doeError || f.doeBusy then s
  else if 2 ≤ f.doeIn.length ∧ len = f.doeIn.length then s.setFn fn { f with doeBusy := true } else s.setFn fn { f with doeError := true }

/-! ### Writes -/

/-- A configuration write (03 R80 to R83, R96, R99): status bits are cleared by a 1; PowerState takes D0 and D3hot only; bit 15 of Device Control
starts an FLR; the rest is held, of which the writable bits are read back. -/
def cfgWrite (fn off : Nat) (v : BitVec 32) (s : State) : State :=
  let f := s.fn fn
  if off = 0x104 then s.setFn fn { f with aerUncor := f.aerUncor &&& ~~~v }
  else if off = 0x110 then s.setFn fn { f with aerCor := f.aerCor &&& ~~~v }
  else if off = 0x044 then (if v &&& 3#32 = 3#32 then enterD3 fn s else if v &&& 3#32 = 0#32 then leaveD3 fn s else s)
  else if off = 0x388 then
    let s := s.setFn fn { f with cfg := tblPut f.cfg off v }
    if v.getLsbD 0 then doeAbort fn s else if v.getLsbD 31 then doeGo fn s else s
  else if off = 0x390 then doeWrite fn v s
  else if off = 0x394 then s.setFn fn { f with doeOut := f.doeOut.drop 1 }
  else
    let f := if off = 0x078 then { f with devSts := f.devSts &&& ~~~((v >>> 16).setWidth 4) } else f
    let s := s.setFn fn { f with cfg := tblPut f.cfg off v }
    if off = 0x078 ∧ v.getLsbD 15 = true then flReset fn s
    else if f.d3hot then s else settleInta (fn + 1) (flushPba fn s)

/-- The function's port answers configuration requests: its hub is up, in a mode with the host link, and answers have begun (02 R54). -/
def cfgLive (s : State) (fn : Nat) : Bool :=
  hubAnswers s && ctlExists s (fn + 1) && (s.port (ctlPort s (fn + 1))).cfgAnswers

/-- CONFIG_REQUEST (03 R79): Request Retry Status, or the access. A request wakes PS3 and PS4 as host activity (05 R163). -/
def execConfigRequest (fn : Nat) (write : Bool) (offset : Nat) (value : BitVec 32) (softVis : Bool) (s : State) :
    Host.Outcome State Fault Refusal :=
  if !(cfgLive s fn && decide (offset % 4 = 0) && decide (offset < 4096)) then .next s
  else if (s.port (ctlPort s (fn + 1))).rrs then
    if softVis && !write && decide (offset = 0) then .next (sendTlp fn (.cpl fn .success (dwordBytes 0xFFFF0001#32)) s)
    else .next (sendTlp fn (.cpl fn .requestRetry []) s)
  else
    let s := hostArrives (fn + 1) s
    if write then .next (sendTlp fn (.cpl fn .success []) (cfgWrite fn offset value s))
    else .next (sendTlp fn (.cpl fn .success (dwordBytes (cfgRead s fn offset))) s)

/-! ## Training, answers and loss (02 R54; 03 R73, R77, R78) -/

/-- The port exists and can carry a link: the hub is up, in a mode with the host link, and PERST# is deasserted. -/
def portLive (s : State) (port : Nat) : Bool := hubAnswers s && s.portIds.contains port && !(s.port port).perst

/-- NVMe controllers behind a port. -/
def portCtl (port : Nat) : Nat := port + 1

/-- Width that a port of 16 lanes, or of 8, can run at without the groups of four named: x8 on one half, x4 at one end by lane reversal
(03 R98; x4 DEDUCED, log 58); 0 when no width is left. -/
def widthWithout (full : Nat) (bad : List Nat) (first : Nat) : Nat :=
  let ok := fun g => !bad.contains (first + g)
  if full = 16 then
    if bad.isEmpty then 16
    else if (ok 0 && ok 1) || (ok 2 && ok 3) then 8
    else if ok 0 || ok 3 then 4 else 0
  else if ok 0 && ok 1 then 8
  else if ok 0 || ok 1 then 4 else 0

/-- Width that a port may train at: its lanes without the groups that failed lanes have taken out, until a device reset (03 R98). -/
def trainWidth (s : State) (port : Nat) : Nat :=
  widthWithout (fullWidth s) (s.port port).badGroups (if s.power.hostBif then port * 2 else 0)

/-- HOST_LINK_UP (03 R73, R78, R98): the port reaches L0, in FLIT mode at 64 GT/s. Below 64 GT/s or full width: event 0x1001. A port that had
answered requests before answers them again. -/
def execHostLinkUp (port speed width : Nat) (s : State) : Host.Outcome State Fault Refusal :=
  let p := s.port port
  if !(portLive s port && !p.linkUp && [2, 5, 8, 16, 32, 64].contains speed && [1, 2, 4, 8, 16].contains width &&
      decide (width ≤ trainWidth s port)) then .next s
  else
    let s1 := s.setPort port { p with linkUp := true, training := false, speed := speed, width := width, flit := decide (speed = 64), cfgAnswers := p.cfgAnswers || !p.rrs }
    if speed < 64 ∨ width < fullWidth s then .next (recordEvent 0x1001 [port, speed, width, 0] s1) else .next s1

/-- The link of a port is lost without a hot reset (03 R78, R96): event 0x1002, the AER report of what lost it, if any, a controller reset, and
training begins again. -/
def loseLink (port : Nat) (bit : Option Nat) (s : State) : State :=
  let p := s.port port
  let s := s.setPort port
    { p with linkUp := false, training := true, speed := 0, width := 0, flit := false, cfgAnswers := false, l0p := false, l1 := none, ltrUs := 0, outstanding := [] }
  let s := recordEvent 0x1002 [port, 0, 0, 0] s
  let s := match bit with | some b => aerUncorrected port b s | none => s
  controllerReset (portCtl port) s

/-- AER status bit of what took a link down (03 R96): surprise down, a malformed TLP, a receiver overflow, a flow-control protocol error; none
for a containment action at the root port. -/
def downBit : LinkLoss → Option Nat
  | .surpriseDown => some 5
  | .malformedTlp => some 18
  | .receiverOverflow => some 17
  | .flowControl => some 13
  | .containment => none

/-- HOST_LINK_DOWN (03 R78, R96). -/
def execHostLinkDown (loss : LinkDown) (s : State) : Host.Outcome State Fault Refusal :=
  if hubAnswers s && s.portIds.contains loss.port && (s.port loss.port).linkUp then .next (loseLink loss.port (downBit loss.cause) s) else .next s

/-- CONFIG_RESPONSE_START (02 R54): requests are answered, with Request Retry Status until it ends. -/
def execConfigResponseStart (port : Nat) (s : State) : Host.Outcome State Fault Refusal :=
  if portLive s port then .next (s.setPort port { s.port port with cfgAnswers := true }) else .next s

/-- RRS_END (02 R54, R55): CAP, VS and the BAR registers are valid, and CC.EN = 1 is accepted. -/
def execRrsEnd (port : Nat) (s : State) : Host.Outcome State Fault Refusal :=
  if portLive s port && (s.port port).cfgAnswers then .next (s.setPort port { s.port port with rrs := false }) else .next s

/-! ## Function states (03 R80, R81; 04 R137) -/

/-- D3HOT_ENTRY (03 R81). -/
def execD3hotEntry (fn : Nat) (s : State) : Host.Outcome State Fault Refusal :=
  if cfgLive s fn && !(s.port (ctlPort s (fn + 1))).rrs then .next (enterD3 fn s) else .next s

/-- D0_RETURN (03 R81). -/
def execD0Return (fn : Nat) (s : State) : Host.Outcome State Fault Refusal :=
  if cfgLive s fn && !(s.port (ctlPort s (fn + 1))).rrs then .next (leaveD3 fn s) else .next s

/-- FLR. -/
def execFlr (fn : Nat) (s : State) : Host.Outcome State Fault Refusal :=
  if cfgLive s fn && !(s.port (ctlPort s (fn + 1))).rrs then .next (flReset fn s) else .next s

/-! ## Link power states (03 R93, R94) -/

/-- L0p is enabled: L0p Enable, bit 3 of Device Control 3. -/
def l0pEnabled (s : State) (port : Nat) : Bool := (cfgRead s port 0x338).getLsbD 3

/-- L1 is enabled: bit 1 of ASPM Control in Link Control; a function in D3hot takes its link to L1 by PCI-PM (PCI Express, PRESUMED, log 57). -/
def l1Enabled (s : State) (port : Nat) : Bool := (cfgRead s port 0x080).getLsbD 1 || (s.fn port).d3hot

/-- An L1 substate is enabled in L1 PM Substates Control 1: PCI-PM L1.1, bit 1, and L1.2, bit 0, in D3hot; ASPM L1.1, bit 3, and L1.2, bit 2, in
D0. -/
def l1SubEnabled (s : State) (port sub : Nat) : Bool :=
  decide (sub = 0) || (cfgRead s port 0x308).getLsbD ((if (s.fn port).d3hot then 0 else 2) + (if sub = 1 then 1 else 0))

/-- The host's L1.2 threshold in ns: value in bits 25:16, scale in bits 31:29 as powers of 32 ns. -/
def ltrThreshold (s : State) (port : Nat) : Nat :=
  let v := (cfgRead s port 0x308).toNat
  v / 2 ^ 16 % 1024 * 32 ^ (v / 2 ^ 29)

/-- Nothing keeps a port from L1: no fetched command is open on its controller, and no completion, interrupt or aggregation is pending. -/
def linkQuiet (s : State) (port : Nat) : Bool :=
  let c := s.ctl (portCtl port)
  decide (openCount c = 0) && c.aggregated.isEmpty && !(s.fn port).pba.any fun v => (s.fn port).unmasked.contains v

/-- L0P_ENTRY (03 R93). -/
def execL0pEntry (port : Nat) (s : State) : Host.Outcome State Fault Refusal :=
  let p := s.port port
  if portLive s port && p.linkUp && p.l1.isNone && l0pEnabled s port then .next (s.setPort port { p with l0p := true }) else .next s

/-- L0P_EXIT (03 R93). -/
def execL0pExit (port : Nat) (s : State) : Host.Outcome State Fault Refusal :=
  if portLive s port then .next (s.setPort port { s.port port with l0p := false }) else .next s

/-- L1_ENTRY (03 R93, R94): 0 for L1, 1 for L1.1, 2 for L1.2, which needs an LTR value at or above the host's threshold. -/
def execL1Entry (port sub : Nat) (s : State) : Host.Outcome State Fault Refusal :=
  let p := s.port port
  if portLive s port && p.linkUp && linkQuiet s port && decide (sub ≤ 2) && l1Enabled s port && l1SubEnabled s port sub &&
      (decide (sub ≠ 2) || decide (ltrThreshold s port ≤ p.ltrUs * 1000)) then
    .next (s.setPort port { p with l1 := some sub })
  else .next s

/-- L1_EXIT (03 R93, R94). -/
def execL1Exit (port : Nat) (s : State) : Host.Outcome State Fault Refusal :=
  if portLive s port then .next (s.setPort port { s.port port with l1 := none }) else .next s

/-! ## Errors (03 R96, R98) -/

/-- HOST_SERDES_LANE_FAIL (03 R98; 17 R491, R493): the port drops the group of four, runs narrower and records event 0x1001. The takeover
lasts at most 200 µs with L0p enabled, 800 µs without it. With no width left the link is lost (R78). A port whose link is down trains
narrower. -/
def execHostSerdesLaneFail (lane : Nat) (s : State) : Host.Outcome State Fault Refusal :=
  let port := if s.power.hostBif then lane / 8 else 0
  let p := s.port port
  if !(portLive s port && decide (lane < 16) && !p.badGroups.contains (lane / 4)) then .next s
  else
    let s1 := s.setPort port { p with badGroups := lane / 4 :: p.badGroups }
    let w := min p.width (trainWidth s1 port)
    if !p.linkUp then .next s1
    else if w = 0 then .next (loseLink port (some 5) s1)
    else
      .next (takeover (sourceOf 0 0x05) 1 (if l0pEnabled s port then 200 else 800) 0x1001
        (recordEvent 0x1001 [port, p.speed, w, 0] (s1.setPort port { s1.port port with width := w })))

/-- POISONED_BAR_WRITE (03 R96): a write to BAR0 or BAR4 is discarded with event 0x1004; a write to BAR2 marks its sector poisoned, as a
poisoned TLP of the sector that it lies in. -/
def execPoisonedBarWrite (fn bar offset : Nat) (rid : BitVec 16) (s : State) : Host.Outcome State Fault Refusal :=
  let s := if hubAnswers s && ctlExists s (fn + 1) then leaveL1 (fn + 1) s else s
  if !barLive s (fn + 1) then .next (barRefused (fn + 1) s)
  else if bar = 0 ∨ bar = 4 then
    .next (recordEvent 0x1004 [bar, offset, rid.toNat, 0] (aerUncorrected fn 12 (hostArrives (fn + 1) s)))
  else if bar = 2 then
    .next (inboundBar2 true { fn := fn, rid := rid, offset := offset / 512 * 512, len := 512, data := zeros 512, poisoned := true } s)
  else .next s

/-- The BARs with their sizes (03 R85): the offset of the low dword, and the size. -/
def barSizes : List (Nat × Nat) := [(0x010, 2 ^ 16), (0x018, 2 ^ 30), (0x020, 2 ^ 16)]

/-- An address lies in a BAR of a function: Memory Space Enable, bit 1 of the Command register, is set, and the base matches. -/
def inBar (s : State) (fn addr : Nat) : Bool :=
  (cfgWritten (s.fn fn) 0x004).getLsbD 1 &&
    barSizes.any fun b =>
      decide (addr / b.2 = ((cfgWritten (s.fn fn) (b.1 + 4)).toNat * 2 ^ 32 + (cfgWritten (s.fn fn) b.1).toNat) / b.2)

/-- UNSUPPORTED_ADDRESS_REQUEST (03 R96): an address outside every BAR, or any address in D3hot (R81). -/
def execUnsupportedAddressRequest (fn addr : Nat) (s : State) : Host.Outcome State Fault Refusal :=
  if hubAnswers s && ctlExists s (fn + 1) && (!inBar s fn addr || (s.fn fn).d3hot) then
    .next (sendTlp fn (.cpl fn .unsupportedRequest []) (aerAdvisory fn (some 20) s))
  else .next s

end Sys2Proof.Machine
end

