-- ==== Sys2Proof/Machine/Reset.lean ====
section
/-!
DEFINITION. What a device reset, a loss of main power and a cold start leave of each unit, and the first part of BOOT (02 R46 to R53; 16 R459; 17 R486;
18 R508; 19 R523).
-/

namespace Sys2Proof.Machine

/-! ## Forms that the units take -/

/-- A deck after a reset: nothing is in flight. Without a retention seal the journal index in SRAM is lost as well (02 R52, R61). -/
def deckAfter (sealed : Bool) (d : Deck) : Deck :=
  let d := { d with
    updates := [], locks := [], lockQueue := [], granted := [], entryWait := [], starting := [], replay := [], resynced := [], resyncDue := false
    hold := false, rebuilt := [], scanDue := false }
  if sealed then d else { d with journal := [], intents := [], batch := [], trimJ := [], trimW := [], trims := [] }

/-- Every deck after a reset. -/
def decksAfter (sealed : Bool) (s : State) : State :=
  { s with decks := { s.decks with
      decks := s.decks.decks.map fun p => (p.1, deckAfter sealed p.2)
      away := s.decks.away.map fun p => (deckAfter sealed p.1, p.2)
      wipe := none } }

/-- A slot whose member PERST# is low: no link, no class; power, health, counters and what lies on its drive stay (02 R52). -/
def slotInReset (v : Slot) : Slot :=
  { v with
    perst := true, portA := {}, portB := {}, cls := .empty, deckId := none, index := none, pendingAt := none, removed := false
    failDue := false, readOnly := false, info := none }

/-- A slot without power (19 R524; 14 R419). -/
def slotUnpowered (v : Slot) : Slot := { slotInReset v with power := false, unflushed := false }

/-- Every slot put in a form. -/
def mapSlots (f : Slot → Slot) (s : State) : State :=
  { s with members := { s.members with slots := s.members.slots.map fun p => (p.1, f p.2), onlineRefs := [] } }

/-- Saved values of a controller, which boot flash keeps (05 R154): a saved APST table is in force again. -/
def ctlSaved (c : Ctl) : Ctl := { featsSaved := c.featsSaved, apstSaved := c.apstSaved, apst := c.apstSaved }

/-- A controller after a device reset: its logs of halts, errors and ANA changes are kept. -/
def ctlAfterReset (c : Ctl) : Ctl :=
  { ctlSaved c with errLog := c.errLog, errCount := c.errCount, haltGen := c.haltGen, anaCount := c.anaCount }

/-- The vendor features take their saved values, or their defaults (05 R155; 18 R513). -/
def reloadFeats (s : State) : State :=
  let f := s.feats
  let d : Features := {}
  let t := f.timersSaved.getD (d.memSrUs, d.linkL12Us, d.blockGateUs)
  let s := { s with feats := { f with capW := f.capSaved.getD d.capW, floors := f.floorsSaved.getD d.floors } }
  setTimers t (setMemberTimeout (tblGet f.saved 0xC5 20#32) (setDirtyPolicy (tblGet f.saved 0xC3 0#32)
    (setPatrolRate (tblGet f.saved 0xC2 168#32) s)))

/-- The power state takes the saved value of feature 0x02: an operational state at once, another once no dirty page waits (05 R154, R161;
DEDUCED, log 64). -/
def reloadPs (s : State) : State :=
  let ps := ((tblGet (s.ctl 1).featsSaved 0x02 0#32) &&& 0x1F#32).toNat
  let m := { s.mode with ps := if ps < 3 then ps else 0, lastOpPs := if ps < 3 then ps else 0, psTarget := if ps < 3 then none else some ps }
  { s with mode := m }

/-- The scheduler as it starts in BOOT: the counters of a cold start are kept (02 R53; 13 R385), and the Vout transition rate of every VCORE rail
is written (13 R366). -/
def schedStart (s : State) : State :=
  let c := s.sched
  let s := (List.range 5).foldl (fun s rail => emit (.avsRate rail 2) s) s
  { s with sched := { srEntries := c.srEntries, l12Entries := c.l12Entries, gateEntries := c.gateEntries, exceedCount := c.exceedCount,
                      startAt := s.now } }

/-- The link's sublinks that injected faults had spared are trained again (15 R448). -/
def linkAfter (l : Link) : Link :=
  let bad := l.bad.filter fun b => !l.injected.contains b
  { l with bad := bad, spareUsed := !bad.isEmpty, injected := [], replays := [] }

/-- A parity block after a device reset: no stream is open; what is quarantined or retired stays so (log 59). -/
def blockAfter (b : PBlock) : PBlock := { quarantined := b.quarantined, active := b.active, gated := !b.active, retiredCells := b.retiredCells }

/-- The fabric after a device reset. -/
def fabricAfter (f : Fabric) : Fabric :=
  { f with
    links := f.links.map fun p => (p.1, linkAfter p.2), blocks := f.blocks.map fun p => (p.1, blockAfter p.2), transit := [], broadcast := none }

/-- A memory channel after a device reset: self-refresh with its training values (02 R52). -/
def chanAfter (c : Channel) : Channel := { c with trained := false, selfRefresh := c.trained || c.selfRefresh }

/-- Integrity after a device reset: hub halves, engines and crypto sets are tried again by BOOT; quarantined units of other dies stay
out (log 59). Check-bit test mode and fault injection are at their reset values (15 R442, R446). -/
def guardAfter (g : Guard) : Guard := { g with quarantined := g.quarantined.filter fun u => decide (32 ≤ u), ecct := {}, finj := {} }

/-- Trust after a reset: claims, activations, nonces and a running owner authorisation end (16 R459, R460, R474, R475). -/
def trustAfter (t : Trust) : Trust := { t with claim := none, header := none, activating := none, deferred := [], nonce := none, auth := none, selfReset := false }

/-- Mode state that every entry to BOOT clears. -/
def modeAfter (m : ModeState) : ModeState :=
  { m with
    quarantineCause := 0, capCause := false, heatCause := false, holdupCause := false, spareCause := false, criticalTemp := false, halfDown := [false, false], activeHalf := 0, commonHalf := [0, 0, 0, 0, 0, 0], commonDown := []
    engineDown := [false, false], cryptoDown := [false, false], bootHold := false, windowClosed := false, restoreSource := 0, bootFault := 0
    shutdownKind := 0, shutDone := false, rcvPending := 0, faultDue := none }

/-- Entry to BOOT disarms ship mode (14 R412): event 0x7030. -/
def disarmShip (s : State) : State :=
  if s.power.shipArmed then recordEvent 0x7030 [0, 0, 0, 0] { s with power := { s.power with shipArmed := false } } else s

/-- RESET_CAUSE of this entry to BOOT (16 R465; 17 R488). -/
def resetCause (n : Nat) (s : State) : State := { s with mode := { s.mode with rcvLastCause := n } }

/-! ## The first part of BOOT (02 R53) -/

/-- The highest boot count so far: the last BOOT entry's, and the stop record's. -/
def lastBootCount (s : State) : Nat :=
  let hw := (((allEntries s.trust).filter fun e => decide (e.kind = 1)).getLast?.map fun e => e.bootCount).getD 0
  let st := ((stopCurrent s.stop).map fun r => r.1.bootCount).getD 0
  max hw st

/-- Event 0x0002 for a torn copy of the stop record (02 R60). -/
def noteTornStop (s : State) : State :=
  let used := match stopCurrent s.stop with | some (r, _) => r.seqNo % 2 ^ 32 | none => 0xFFFFFFFF
  let s := if s.stop.copy0 = .torn then recordEvent 0x0002 [0, used, 0, 0] s else s
  if s.stop.copy1 = .torn then recordEvent 0x0002 [1, used, 0, 0] s else s

/-- The calibration record is checked (14 R407): with none, the built-in defaults, event 0x7011 and an unlearned gauge. -/
def loadCal (s : State) : State :=
  match calRecord s.gauge with
  | some c => { s with gauge := { s.gauge with cal := c }, trust := { s.trust with calDefault := false } }
  | none =>
    recordEvent 0x7011 [0, 0, 0, 0]
      { s with gauge := { s.gauge with cal := calDefaults, learned := false }, trust := { s.trust with calDefault := true } }

/-- What the boot ROM and the first seconds of the firmware do (02 R53; 05 R159; 14 R407, R416; 16 R459, R469, R483): slot choice, the spill
catch-up, the calibration record, the boot count, the scheduler's start, 0.75 V on every core rail. -/
def bootRom (s : State) : State :=
  let s := chooseSlot { s with mode := { s.mode with bootFault := 0 } }
  let s := noteTorn (spillCatchUp s)
  let s := noteTornStop (loadOwner (loadCal s))
  let s := { s with
    ports := s.ports.map fun p => (p.1, { p.2 with training := !p.2.perst && !p.2.linkUp })
    mode := { s.mode with bootCount := lastBootCount s + 1 }
    trust := { s.trust with lowNoted := false, certInvalid := false, measured := [] }
    vault := { s.vault with seqRaised := false }
    decks := { s.decks with wipe := wipeRecord s.decks } }
  setAllVolts (schedStart s)

/-! ## Device reset (02 R46 T18, R52; 17 R486) -/

/-- Modes from which a device reset and the power-fail detector act (02 R46). -/
def mainMode (s : State) : Bool :=
  match s.mode.mode with
  | .boot | .restore | .serve | .constrained | .quarantine => true
  | _ => false

/-- RESET_CAUSE of a cause code of R49. -/
def causeOfReset (cause : Nat) : Nat :=
  if cause = 0x30 then 2 else if cause = 0x31 then 3 else if cause = 0x34 then 5 else 4

/-- The host side after a device reset: no link, configuration space and controllers at their reset values. PERST# keeps its level. -/
def hostAfterReset (s : State) : State :=
  let s := s.ctlIds.foldl (fun s id => controllerReset id s) s
  { s with
    ports := s.ports.map fun p => (p.1, { perst := p.2.perst, training := !p.2.perst })
    fns := []
    ctls := s.ctls.map fun p => (p.1, ctlAfterReset p.2)
    reads := []
    cache := { s.cache with
      dir := s.cache.dir.filter fun e => !decide (e.state = .fill) && !decide (e.state = .staged) && !decide (e.state = .cmb) && !decide (e.state = .cmbMirror)
      fills := [], waitNoted := [], cmbRefused := false } }

/-- An abrupt shutdown's flush that a reset or a trip ends: the area is no longer erased, and holds no valid image. -/
def dropFlush (s : State) : State :=
  match s.vault.flush with
  | none => s
  | some j =>
    { s with vault := { s.vault with
        flush := none, erasedA := s.vault.erasedA && decide (j.image.area ≠ 0), erasedB := s.vault.erasedB && decide (j.image.area ≠ 1) } }

/-- The units after a device reset, before BOOT starts. In BOOT the retention seal stays as BOOT found it; in the other modes a new
seal is made at the directory checkpoint, between its two broadcasts (02 R52; 01 R25, 17 R497; log 61). -/
def unitsAfterReset (s : State) : State :=
  let sealed := decide (s.mode.mode ≠ .boot) || s.mode.sealValid
  let s := endAuth (leaveQuarantine 18 (disarmFinj 4 (broadcast (broadcast s))))
  let s := dropFlush (hostAfterReset (dropTestFrames s))
  let s := decksAfter sealed (mapSlots slotInReset s)
  let s := reloadPs (reloadFeats { s with
    cache := { s.cache with channels := s.cache.channels.map fun p => (p.1, chanAfter p.2) }
    fabric := fabricAfter s.fabric
    guard := guardAfter s.guard
    trust := trustAfter s.trust
    gauge := { s.gauge with learnEn := true } })
  endSpdm { s with mode := { modeAfter s.mode with sealValid := sealed } }

/-- A device reset (T18): event 0xA003; BOOT holds at its first step while `hold` (02 R52). While the rails rise, the hub is in reset already. -/
def deviceReset (cause : Nat) (hold : Bool) (s : State) : State :=
  if !(mainMode s && s.power.hubUp) then s
  else
    let s := unitsAfterReset s
    let s := { s with
      mode := { s.mode with warmCount := min 0xFFFF (s.mode.warmCount + 1), coldBoot := false }
      power := { s.power with pwrcycPulse := false } }
    let s := resetCause (causeOfReset cause) s
    let s := recordEvent 0xA003 [s.mode.rcvLastCause, s.mode.warmCount, 0, 0] s
    let s := disarmShip (transit 18 .boot cause s)
    if hold then { s with mode := { s.mode with bootHold := true } } else bootRom s

/-- PERST_ASSERT (02 R52; 03 R77): a device reset, and BOOT holds. Another port's PERST# that follows only holds BOOT. -/
def execPerstAssert (port : Nat) (s : State) : Host.Outcome State Fault Refusal :=
  if !(s.portIds.contains port && !(s.port port).perst) then .next s
  else .next (deviceReset 0x30 true (s.setPort port { s.port port with perst := true }))

/-- PERST_DEASSERT (02 R52, R54): training starts, and a BOOT that holds goes on once no PERST# is asserted. -/
def execPerstDeassert (port : Nat) (s : State) : Host.Outcome State Fault Refusal :=
  if !(s.portIds.contains port && (s.port port).perst) then .next s
  else
    let s := s.setPort port { s.port port with perst := false, training := s.hubPowered && decide (s.mode.mode ≠ .holdup) }
    if s.mode.bootHold && s.portIds.all fun p => !(s.port p).perst then .next (bootRom { s with mode := { s.mode with bootHold := false } })
    else .next s

/-- HOT_RESET (03 R77). -/
def execHotReset (port : Nat) (s : State) : Host.Outcome State Fault Refusal :=
  if portLive s port && (s.port port).linkUp then .next (deviceReset 0x31 false s) else .next s

/-- SELF_RESET (16 R459): the recovery loader has been left, or the firmware resets the device. -/
def execSelfReset (s : State) : Host.Outcome State Fault Refusal :=
  if s.trust.selfReset then .next (deviceReset 0x34 false s) else .next s

/-! ## Loss of main power -/

/-- The units that lose their state with the main rails: cache, host side, members' links, fabric, the volatile part of trust. -/
def unitsUnpowered (s : State) : State :=
  let s := decksAfter false (mapSlots slotUnpowered s)
  let s := reloadPs (reloadFeats { s with
    ports := s.ports.map fun p => (p.1, { perst := p.2.perst })
    fns := []
    ctls := s.ctls.map fun p => (p.1, ctlSaved p.2)
    cache := { writeThrough := s.cache.writeThrough, halfDensity := s.cache.halfDensity }
    reads := []
    fabric := { aonErr := s.fabric.aonErr }
    members := { s.members with powerQueue := [] }
    guard := { s.guard with mod15At := [], noted := [], lockstepAt := [], quarantined := [], ecct := {}, finj := {} }
    trust := { trustAfter s.trust with held := none }
    recorder := { s.recorder with spillWait := [] } })
  { s with mode := { modeAfter s.mode with sealValid := false } }

/-- The enable of a group as a pin. -/
def railPin (group : Nat) (level : Bool) : Out :=
  .pin (["RAIL_EN0", "RAIL_EN1", "RAIL_EN2", "RAIL_EN3", "RAIL_EN4"].getD group "") level

/-- All main rails are off: the enables that are high fall in the order EN4 to EN0 (02 R46 T15, T16; 19 R524). -/
def railsOff (s : State) : State :=
  let s := [4, 3, 2, 1, 0].foldl (fun s g => if s.power.railEn.getD g false then emit (railPin g false) s else s) s
  { s with power := { s.power with
      railEn := [false, false, false, false, false], railPg := [false, false, false, false, false], hubUp := false, huEn := false } }

/-- The sentinel has lost all power: its retention domain is lost (18 R508; 16 R480). -/
def retentionLost (s : State) : State :=
  { s with
    power := { s.power with shipArmed := false, thermTrip := false, crystalStopped := false, earlyTrips := 0, holdOff := false, fromShip := false }
    recorder := { s.recorder with nextSeq := 0, sentRing := [], timestamp := none } }

/-- T2 where it applies: ship armed, and both rails absent (02 R46; 14 R412). -/
def settleStandby (s : State) : State :=
  if decide (s.mode.mode = .standby) && s.power.shipArmed && !s.power.auxGood && !s.power.mainPg then
    let s := transit 2 .ship 0x41 s
    retentionLost { s with power := { s.power with packConnected := false, chgEn := false, learnLoadEn := false } }
  else s

/-- The main rails are off and the device is in STANDBY. -/
def mainOff (s : State) : State := settleStandby (unitsUnpowered (railsOff s))

/-! ## Cold start (02 R46 T3; 18 R508; 19 R523) -/

/-- What a cold start clears: takeovers, RCV_STAT, the hub ring with its freeze and trigger, error counters, idle-state counters, the
counters of the member slots, and the patrol findings with their counts (18 R508; 15 R441; 13 R385; 16 R480, R484; 10 R308; log 110). -/
def coldDomain (s : State) : State :=
  let r := s.recorder
  let g := s.guard
  let cleared := fun (v : Slot) => { v with
    health := 1000, timeouts := 0, late := 0, mediaErr := 0, tagFail := 0, contain := 0, retries := 0, ctrlResets := 0, busResets := 0
    powerCycles := 0, violations := 0 }
  { mapSlots cleared s with
    mode := { s.mode with
      takeovers := 0, lastSource := 0, lastLevel := 0, lastUs := 0, pwrcycTimeout := false, warmCount := 0, coldBoot := true
      servedSinceT3 := false }
    recorder := { r with
      hubRing := [], frozen := false, byTrigger := false, lost := 0, freezeSeq := 0, trigEn := false, trigSev := 4, postCount := 0, trigCode := 0
      trigArmed := true, postLeft := none, spillBatches := [], spillLost := 0 }
    guard := { g with gen := 0, ceSym := 0, ceDev := 0, ue := 0, metaMismatch := 0, sramSec := 0, sramDed := 0, residue := 0, mod15 := 0 }
    sched := { s.sched with srEntries := 0, l12Entries := 0, gateEntries := 0, exceedCount := 0 }
    fabric := { s.fabric with aonErr := 0 }
    decks := { s.decks with findGen := 0, findings := [], findTotal := 0, findDropped := 0 } }

/-- MAIN_POWER_GOOD_HELD (T3): the sentinel raises RAIL_EN0. It waits while THERMTRIP_N is low (19 R531) or the rails are held off (R525). -/
def execMainPowerGoodHeld (s : State) : Host.Outcome State Fault Refusal :=
  if !(decide (s.mode.mode = .standby) && s.power.mainPg && !s.power.holdOff && !s.power.thermTrip && !s.power.sentinelOff) then .next s
  else
    let s := coldDomain s
    let s := { s with power := { s.power with
      standbyOnPack := !s.power.auxGood, railEn := [true, false, false, false, false], hubUp := false, t3At := s.now, pwrcycPulse := false } }
    .next (emit (railPin 0 true) (disarmShip (resetCause 0 (transit 3 .boot 0x42 s))))

/-- RAIL_PG_RISE (19 R523): the next enable follows; the hub leaves reset at the last one, and its boot ROM runs. -/
def execRailPgRise (group : Nat) (s : State) : Host.Outcome State Fault Refusal :=
  let p := s.power
  if !(decide (group < 5) && p.railEn.getD group false && !p.railPg.getD group false) then .next s
  else
    let p := { p with railPg := p.railPg.set group true, railEn := if group < 4 then p.railEn.set (group + 1) true else p.railEn }
    if group = 4 ∧ p.hubUp = false then
      let s := { s with power := { p with hubUp := true } }
      if s.mode.mode = .boot then .next (bootRom s) else .next s
    else if group < 4 then .next (emit (railPin (group + 1) true) { s with power := p })
    else .next { s with power := p }

end Sys2Proof.Machine
end

