-- ==== Sys2Proof/Machine/PowerFail.lean ====
section
/-!
DEFINITION. Rails and power failure: the auxiliary rail, the straps, trips of the power-fail detector, the flush of HOLDUP and of an abrupt
shutdown, and the vault's areas (02 R44 to R47, R63; 06 R195; 14 R412 to R421; 19 R524 to R526).
-/

namespace Sys2Proof.Machine

/-! ## The auxiliary rail and the straps -/

/-- AUX_RAIL_RISE (T1): from SHIP, or after the sentinel has lost all power, the sentinel starts, reconnects the pack and starts its gauge; SOC_CC is
set from SOC_V, as its first estimate gives it (02 R46; 14 R393, R412, R420). The UNSET count restarts, and a Timestamp is no longer set (16 R476). -/
def execAuxRailRise (s : State) : Host.Outcome State Fault Refusal :=
  if s.power.auxGood then .next s
  else
    let s1 := { s with
      power := { s.power with auxGood := true }
      recorder := { s.recorder with unsetFrom := s.now, timestamp := none } }
    if decide (s.mode.mode = .ship) || s.power.sentinelOff then
      let s2 := { s1 with power := { s1.power with sentinelOff := false, sentinelDown := false, packConnected := true, fromShip := true } }
      let s3 := transit 1 .standby 0x40 s2
      let s4 := startGauge s3
      .next (countGaugeLog { s4 with gauge := { s4.gauge with charge := chargeOf s4.gauge.fccUah s4.gauge.socV, fromV := true } })
    else .next s1

/-- AUX_RAIL_LOSS (02 R46). -/
def execAuxRailLoss (s : State) : Host.Outcome State Fault Refusal :=
  .next (settleStandby { s with power := { s.power with auxGood := false, standbyOnPack := s.power.standbyOnPack || decide (s.mode.mode ≠ .ship) } })

/-- The sentinel has lost all power, without a transition (14 R420). -/
def sentinelStops (s : State) : State := retentionLost { s with power := { s.power with sentinelOff := true, chgEn := false, learnLoadEn := false } }

/-- AUX_RAIL_FALL (02 R44; 14 R420): the sentinel runs from the pack, or stops when the pack is at its cutoff. With the main rails up the
pack does not carry the device, so only STANDBY and HOLDUP stop. -/
def execAuxRailFall (packAtCutoff : Bool) (s : State) : Host.Outcome State Fault Refusal :=
  let s1 := settleStandby { s with power := { s.power with auxGood := false } }
  if s1.mode.mode = .ship then .next s1
  else if packAtCutoff && decide (s1.mode.mode = .standby) && !s1.power.sentinelOff then .next (sentinelStops s1)
  else if packAtCutoff && decide (s1.mode.mode = .holdup) then
    .next (sentinelStops (unitsUnpowered (railsOff (dropFlush s1))))
  else .next { s1 with power := { s1.power with standbyOnPack := true } }

/-- MAIN_PG_RISE (03 R70; 12 R332; 16 R476; 19 R525): the straps are sampled; a hold-off of the rails ends. -/
def execMainPgRise (hostBif : Bool) (mbrCfg : BitVec 2) (s : State) : Host.Outcome State Fault Refusal :=
  if s.power.mainPg then .next s
  else
    let p := s.power
    let s := { s with
      power := { p with
        mainPg := true, holdOff := false, earlyTrips := if p.holdOff then 0 else p.earlyTrips
        hostBif := if s.mode.mode = .holdup then p.hostBif else hostBif
        mbrCfg := if s.mode.mode = .holdup then p.mbrCfg else mbrCfg }
      recorder := { s.recorder with unsetFrom := if s.recorder.timestamp.isNone then s.now else s.recorder.unsetFrom } }
    if mbrCfg = 3#2 ∧ s.mode.mode ≠ .holdup then .next (recordEvent 0x5000 [3, 0, 0, 0] s) else .next s

/-! ## What a flush vaults (06 R195; 14 R417) -/

/-- Every version that a newer committed version of its page supersedes is SUPERSEDED, whatever its earlier state (R195). -/
def supersedeOlder (c : Cache) : Cache :=
  { c with dir := c.dir.map fun e =>
      if isVersion e.state && (match newestOf c e.keyNs e.vpage with
          | some n => decide (n.region = e.region) && decide (n ≠ e)
          | none => false) then
        { e with state := .superseded, epoch := epochOf c e.region, merging := false }
      else e }

/-- The steps of R195: STAGED frames that are not committed are freed, every merge is completed, and each page has one newest version. -/
def settleVersions (c : Cache) : Cache :=
  let c := freeAllStaged c
  supersedeOlder ((c.dir.filter fun e => e.merging).foldl (fun c e => mergePage e.keyNs e.vpage c) c)

/-- The data of a directory entry in an image: a sector that is not VALID, or is ZERO, holds zero (14 R417). -/
def entryData (c : Cache) (e : DirEntry) : Bytes :=
  (List.range 8).flatMap fun i =>
    if bitOf e.valid i && !bitOf e.zero i then memRead c.dram (frameAddr e.region e.frame + 512 * i) 512 else zeros 512

/-- The pages that a flush vaults: every newest version in the states DIRTY and DESTAGING. -/
def flushEntries (c : Cache) : List DirEntry :=
  c.dir.filter fun e => (decide (e.state = .dirty) || decide (e.state = .destaging)) && decide (newestOf c e.keyNs e.vpage = some e)

/-- The page of an image. -/
def imagePage (c : Cache) (e : DirEntry) : ImagePage :=
  { keyNs := e.keyNs, vpage := e.vpage, valid := e.valid, zero := e.zero, poison := e.poison, data := entryData c e }

/-- The pages of an image of the cache. -/
def imagePagesOf (c : Cache) : List ImagePage := (flushEntries c).map (imagePage c)

/-- The record that a journal section holds, without its released intent entries; none for a DATA record (14 R417; 09 R271). -/
def vaultRec (d : Deck) (r : JRec) : Option JRec :=
  match r.body with
  | .data _ _ _ _ _ => none
  | .intent es => some { r with body := .intent (es.filter fun e => d.intents.any fun i => decide (i.wseq = e.wseq)) }
  | _ => some r

/-- The journal section: the live records of each deck, by DECK_ID, in rising JSEQ order. -/
def journalSection (s : State) : List (Nat × JRec) :=
  (List.range 32).flatMap fun id =>
    match s.deck id with
    | some d => (d.journal.filterMap (vaultRec d)).map fun r => (id, r)
    | none => []

/-- A DATA record of a command that has not committed (09 R270). -/
def isUncommitted (r : JRec) : Bool :=
  match r.body with
  | .data _ _ _ recon ps => !recon && ps.any fun p => decide (p.ver = 0)
  | _ => false

/-- The DATA records of every deck whose commands have not committed. -/
def uncommittedRecs (s : State) : List (Nat × Nat) :=
  s.decks.decks.flatMap fun p => (p.2.journal.filter isUncommitted).map fun r => (p.1, r.jseq)

/-- The area that a flush writes: an erased one without a valid image (14 R415). -/
def flushArea (s : State) : Nat :=
  let held := if s.vault.imageValid then s.vault.image.map (·.area) else none
  if s.vault.erasedA ∧ held ≠ some 0 then 0
  else if s.vault.erasedB ∧ held ≠ some 1 then 1
  else if held = some 0 then 1 else 0

/-- The image that a flush programs from the state as it stands. -/
def imageFor (s : State) : VaultImage :=
  { area := flushArea s, imageSeq := s.vault.seqReserved, channels := bitmapOf s.vault.channels, bootCount := s.mode.bootCount,
    time := s.recTime, pages := imagePagesOf s.cache, journal := journalSection s, uncommitted := uncommittedRecs s }

/-! ## An image as it is programmed (14 R413, R416, R417) -/

/-- The nonce of an image's page: IMAGE_SEQ, then LPAGE (14 R416). -/
def vaultNonce (seq lpage : Nat) : Nat := leNat (leBytes 4 seq ++ leBytes 8 lpage)

/-- The 64 bytes of metadata of a vault page (14 R416). KIND is 1 data, 2 directory, 3 journal. -/
def vaultSpare (seq lpage kind : Nat) (plain : Bytes) : Bytes :=
  let body := leBytes 4 seq ++ zeros 4 ++ leBytes 8 lpage ++ fitBytes 16 (Config.gcmTag vaultKey (vaultNonce seq lpage) [] plain) ++ leBytes 1 kind ++ zeros 27
  body ++ leBytes 4 (crc32c body).toNat

/-- The 16 bytes of a directory record: the R173 entry of the primary copy with STATE DIRTY, its links, WSEQ, STAGE_REF and HOT zero (14 R417). -/
def dirRecord (p : ImagePage) : Bytes :=
  leBytes 16 (4 + p.keyNs * 2 ^ 4 + p.vpage * 2 ^ 14 + p.valid.toNat * 2 ^ 54 + p.zero.toNat * 2 ^ 62 +
    p.poison.toNat * 2 ^ 70 + mod15 (p.keyNs + p.vpage) * 2 ^ 118)

/-- A byte string as 4 KiB pages, the last one filled with zeros. -/
def cutPages : Nat → Bytes → List Bytes
  | 0, _ => []
  | n + 1, b => if b.isEmpty then [] else fitBytes 4096 b :: cutPages n (b.drop 4096)

/-- The journal section's bytes: records in R261 format, packed (14 R417). -/
def journalBytes (im : VaultImage) : Bytes := im.journal.flatMap fun x => (recParts x.1 x.2).flatMap id

/-- The logical pages of an image in order: KIND and plaintext (14 R417). -/
def imagePages (im : VaultImage) : List (Nat × Bytes) :=
  let dir := im.pages.flatMap dirRecord
  let jrnl := journalBytes im
  im.pages.map (fun p => (1, fitBytes 4096 p.data)) ++ (cutPages dir.length dir).map (fun b => (2, b)) ++
    (cutPages jrnl.length jrnl).map fun b => (3, b)

/-- Highest JSEQ of a deck in the journal section. -/
def jseqMax (im : VaultImage) (id : Nat) : Nat := im.journal.foldl (fun n x => if x.1 = id then max n x.2.jseq else n) 0

/-- The 4,096 bytes of an image header (14 R417). -/
def imageHeader (im : VaultImage) : Bytes :=
  let n := im.pages.length
  let body := fitBytes 4080 (asciiBytes "WSDVVIMG" ++ leBytes 2 1 ++ leBytes 1 im.area ++ leBytes 1 im.channels ++ leBytes 4 im.imageSeq ++
    leBytes 8 im.bootCount ++ leBytes 8 im.time.toNat ++ leBytes 4 n ++ leBytes 4 n ++ leBytes 4 (n + ceilDiv n 256) ++
    leBytes 4 (journalBytes im).length ++ leBytes 8 Config.dsn.toNat ++ zeros 72 ++ (List.range 32).flatMap fun id => leBytes 8 (jseqMax im id))
  body ++ fitBytes 16 (Config.gcmTag vaultKey (vaultNonce im.imageSeq (2 ^ 64 - 1)) body [])

/-- The live channels of an image. -/
def imageChannels (im : VaultImage) : List Nat := (List.range 4).filter im.channels.testBit

/-- The live channel of logical page i: the channels of its stripe that hold no parity take its pages in rising order (14 R413; DESIGN CHOICE, log 140). -/
def pageChannel (chs : List Nat) (i : Nat) : Nat :=
  let w := chs.length
  if w < 2 then chs.getD 0 0
  else
    let k := i % (w - 1)
    let p := i / (w - 1) % w
    chs.getD (if k < p then k else k + 1) 0

/-- Stripes of an image's pages over its live channels: `w` - 1 data pages and an xor parity page, none with one channel (14 R413). The parity of
stripe i lies on live channel i modulo w (the rotation's start is a DESIGN CHOICE, log 140). -/
def parityPages (area : Nat) (chs : List Nat) : Nat → Nat → List Bytes → List Out
  | 0, _, _ => []
  | n + 1, i, ps =>
    if chs.length < 2 ∨ ps.isEmpty then []
    else .vaultParity area i (chs.getD (i % chs.length) 0) ((ps.take (chs.length - 1)).foldl xorBytes (zeros 4096)) ::
      parityPages area chs n (i + 1) (ps.drop (chs.length - 1))

/-- Program an image: its pages, encrypted with their metadata, the parity of their stripes, then its header (14 R413, R416, R417, R419). -/
def programImage (im : VaultImage) (s : State) : State :=
  let ps := imagePages im
  let sealed := (List.range ps.length).map fun i => Config.gcmSeal vaultKey (vaultNonce im.imageSeq i) ((ps[i]?.map (·.2)).getD [])
  let s := (List.range ps.length).foldl (fun s i =>
    match ps[i]? with
    | some (kind, b) => emit (.vaultPage im.area i (pageChannel (imageChannels im) i) (sealed.getD i []) (vaultSpare im.imageSeq i kind b)) s
    | none => s) s
  let s := (parityPages im.area (imageChannels im) sealed.length 0 sealed).foldl (fun s o => emit o s) s
  emit (.vaultHeader im.area (imageHeader im)) s

/-- The area is no longer erased. -/
def markWritten (area : Nat) (s : State) : State :=
  { s with vault := { s.vault with erasedA := s.vault.erasedA && decide (area ≠ 0), erasedB := s.vault.erasedB && decide (area ≠ 1) } }

/-- A flush begins (14 R419): event 0x7020. `abrupt` names the controller whose shutdown it is. -/
def beginFlush (abrupt : Option Nat) (s : State) : State :=
  let j : FlushJob := { image := imageFor s, since := s.now, startTime := s.recTime, abrupt := abrupt }
  recordEvent 0x7020 [0, j.image.pages.length, j.image.imageSeq, 0] { s with vault := { s.vault with flush := some j } }

/-- Install a programmed image: its area is written, the stop record is FLUSHED, SEQ_RESERVED is raised, and the log's flush fields are set
(14 R416, R419, R421). -/
def endFlush (im : VaultImage) (j : FlushJob) (ms mj minMv : Nat) (s : State) : State :=
  let im := { im with time := s.recTime, channels := bitmapOf s.vault.channels }
  let s := programImage im (markWritten im.area s)
  let s := { s with vault := { s.vault with
    image := some im, imageValid := true, imageTodo := im.pages.map fun p => (p.keyNs, p.vpage)
    flush := none
    flushTime := j.startTime, flushPages := im.pages.length, flushMs := ms, flushMj := mj, flushMinMv := minMv, flushResult := 1 } }
  recordEvent 0x7020 [1, im.pages.length, im.imageSeq, 0] (reserveSeq (writeStop 3 s))

/-! ## T14 to T17 -/

/-- Members off (14 R419): PERST# low, slot power off with event 0x5040. -/
def membersOff (s : State) : State :=
  let on := (listedSlots s).filter fun x => (s.slot x).power
  on.foldl (fun s x => recordEvent 0x5040 [x, 0, 0, 0] s) (mapSlots slotUnpowered s)

/-- The host and the members' links are off, and every command is abandoned: nothing uncommitted has effect (14 R419; 06 R195). -/
def abandonAll (s : State) : State :=
  { s with
    ports := s.ports.map fun p => (p.1, { perst := p.2.perst })
    fns := []
    ctls := s.ctls.map fun p => (p.1, ctlSaved p.2)
    reads := []
    members := { s.members with powerQueue := [], onlineRefs := [] }
    trust := trustAfter s.trust
    mode := { s.mode with shutdownKind := 0, shutDone := false } }

/-- T14: HOLDUP, with its rails, voltages and flush (14 R418, R419; 19 R524). With no live vault channel the flush ends at once, aborted. -/
def enterHoldup (why : Nat) (s : State) : State :=
  let s := transit 14 .holdup why s
  let s := { s with power := { s.power with
    huEn := true, chgEn := false, learnLoadEn := false, railEn := s.power.railEn.set 4 false, railPg := s.power.railPg.set 4 false } }
  let s := decksAfter true (abandonAll (membersOff (emit (railPin 4 false) s)))
  let s := writeVolts [700, 600, 600, 600, 600] { s with sched := { s.sched with startup := false } }
  let s := (List.range 36).foldl (fun s i => s.setPblock (i / 9) (i % 9) { blockAfter (s.pblock (i / 9) (i % 9)) with gated := true }) s
  beginFlush none { s with cache := settleVersions s.cache }

/-- The flush has ended (T16, T17): STANDBY while main power is absent, BOOT when it has returned. -/
def leaveHoldup (s : State) : State :=
  let s := { s with power := { s.power with huEn := false } }
  if s.power.mainPg && !s.power.holdOff then
    let s := unitsUnpowered (transit 17 .boot 0 s)
    let s := { s with
      power := { s.power with railEn := s.power.railEn.set 4 true, railPg := s.power.railPg.set 4 false, hubUp := false }
      mode := { s.mode with coldBoot := true } }
    disarmShip (resetCause 1 (emit (railPin 4 true) s))
  else mainOff (transit 16 .standby 0 s)

/-- HU_EN is released and the flush ends, aborted (14 R420). The partly written area is no longer erased. The sentinel has no power left when the
auxiliary rail is absent and the pack is at its cutoff. -/
def abortFlush (cutoff : Bool) (pages ms mj mv : Nat) (s : State) : State :=
  let start := match s.vault.flush with | some j => j.startTime | none => 0
  let s := dropFlush s
  let s := { s with
    power := { s.power with huEn := false }
    vault := { s.vault with
      flushTime := start, flushPages := pages, flushMs := ms, flushMj := mj, flushMinMv := mv, flushResult := 2 } }
  if s.power.auxGood || !cutoff then leaveHoldup (reserveSeq (recordEvent 0x7021 [pages, mv, 0, 0] s))
  else sentinelStops (unitsUnpowered (railsOff s))

/-- Pack voltage in mV, as last measured. -/
def packMv (s : State) : Nat := s.gauge.cellMv.foldl (· + ·) 0

/-- Count a trip within 10 s of T3 with no service between; the third holds the main rails off (19 R525): event 0x6021. -/
def countTrip (s : State) : State :=
  if decide (s.now ≤ s.power.t3At + 10000000000) && !s.mode.servedSinceT3 then
    let n := s.power.earlyTrips + 1
    let s := { s with power := { s.power with earlyTrips := n } }
    if n = 3 then recordEvent 0x6021 [3, 0, 0, 0] { s with power := { s.power with holdOff := true } } else s
  else { s with power := { s.power with earlyTrips := 0 } }

/-- The learning cycle and the path test end without a result (14 R401; 19 R526). -/
def dropGaugeWork (s : State) : State :=
  let s := if s.gauge.learning = .idle then s else endLearning 1 s.gauge s
  { s with gauge := { s.gauge with pathTest := false }, power := { s.power with huEn := false, pwrcycPulse := false } }

/-- Every page that a flush would vault is held by the valid vault image (02 R46). -/
def imageHolds (s : State) : Bool :=
  let held := if s.vault.imageValid then (s.vault.image.map (·.pages)).getD [] else []
  (imagePagesOf (settleVersions s.cache)).all fun p => held.contains p

/-- A trip of the power-fail detector: T14, or T15 when no dirty page would be lost (02 R46, R47). -/
def powerTrip (why : Nat) (s : State) : State :=
  if !mainMode s then s
  else
    let no := if imageHolds s then 15 else 14
    let s := dropFlush (countTrip (dropGaugeWork (leaveQuarantine no s)))
    if no = 15 then mainOff (transit 15 .standby why s)
    else
      let s := enterHoldup why s
      if s.vault.channels.isEmpty then abortFlush false 0 0 0 (packMv s) s else s

/-- MAIN_PG_FALL (19 R525). In HOLDUP and STANDBY only the pin's level changes. -/
def execMainPgFall (s : State) : Host.Outcome State Fault Refusal :=
  if !s.power.mainPg then .next s
  else .next (settleStandby (powerTrip 0x20 { s with power := { s.power with mainPg := false } }))

/-- MAIN_SENSE_LOW (19 R525). -/
def execMainSenseLow (s : State) : Host.Outcome State Fault Refusal := .next (powerTrip 0x21 s)

/-- RAIL_PG_FALL (19 R525): a trip with event 0x6020 while the group's enable is high. -/
def execRailPgFall (group : Nat) (s : State) : Host.Outcome State Fault Refusal :=
  let p := s.power
  if !(decide (group < 5) && p.railPg.getD group false) then .next s
  else
    let s1 := { s with power := { p with railPg := p.railPg.set group false } }
    if p.railEn.getD group false && mainMode s then .next (powerTrip 0x22 (recordEvent 0x6020 [group, 0, 0, 0] s1)) else .next s1

/-- RAIL_PG_TIMEOUT (19 R525): no RAIL_PG 3 ms after its enable. -/
def execRailPgTimeout (group : Nat) (s : State) : Host.Outcome State Fault Refusal :=
  let p := s.power
  if decide (group < 5) && p.railEn.getD group false && !p.railPg.getD group false && mainMode s then
    .next (powerTrip 0x23 (recordEvent 0x6020 [group, 1, 0, 0] s))
  else .next s

/-! ## The flush and the vault's areas -/

/-- HOLDUP_FLUSH_END (14 R419; 02 R64): the image is valid and the stop record FLUSHED. A flush in HOLDUP is followed by T16 or T17. That of an
abrupt shutdown ends when every fetched command has been posted, and vaults the pages as they then stand; FLUSHED is the last stop record
until the return to service (02 R60). -/
def execHoldupFlushEnd (ms mj minMv : Nat) (s : State) : Host.Outcome State Fault Refusal :=
  match s.vault.flush with
  | none => .next s
  | some j =>
    match j.abrupt with
    | none => if s.mode.mode = .holdup then .next (leaveHoldup (endFlush j.image j ms mj minMv s)) else .next s
    | some _ =>
      if s.serving && s.ctlIds.all fun id => decide (openCount (s.ctl id) = 0) then
        let s := { s with cache := settleVersions s.cache }
        let im := { imageFor s with area := j.image.area }
        let s1 := endFlush im j ms mj minMv s
        .next (noteAll s { s1 with mode := { s1.mode with shutDone := true } })
      else .next s

/-- FLUSH_ABORT_CUTOFF (14 R420). -/
def execFlushAbortCutoff (pages ms mj mv : Nat) (s : State) : Host.Outcome State Fault Refusal :=
  if decide (s.mode.mode = .holdup) && s.vault.flush.isSome then .next (abortFlush true pages ms mj mv s) else .next s

/-- Mark a vault block bad in the bad-block table, which a superblock holds (14 R414, R420). -/
def markBad (block : Nat) (s : State) : State :=
  if s.vault.badBlocks.contains block then s
  else
    let bad := s.vault.badBlocks ++ [block]
    emit (.superblock s.vault.seqReserved bad) { s with vault := { s.vault with badBlocks := bad } }

/-- NAND_PROGRAM_FAIL (14 R413, R414, R420): the block is bad; the stripe is rewritten in the next good block. A failure of the whole channel drops
it, and the stripe width shrinks; a flush of HOLDUP that loses its last channel ends, aborted. -/
def execNandProgramFail (fail : NandFail) (s : State) : Host.Outcome State Fault Refusal :=
  match fail with
  | .block block => .next (markBad block s)
  | .channel ch =>
    let s := dropVaultChannel ch s
    if s.vault.channels.isEmpty && decide (s.mode.mode = .holdup) && s.vault.flush.isSome then .next (abortFlush false 0 0 0 (packMv s) s)
    else .next s

/-- VAULT_AREA_ERASE (14 R415): a released area is erased in the background. -/
def execVaultAreaErase (area : Nat) (s : State) : Host.Outcome State Fault Refusal :=
  let inUse := (s.vault.imageValid && decide ((s.vault.image.map (·.area)) = some area)) ||
    (match s.vault.flush with | some j => decide (j.image.area = area) | none => false)
  if !(s.serving && decide (area < 2)) || inUse then .next s
  else if area = 0 then .next { s with vault := { s.vault with erasedA := true } }
  else .next { s with vault := { s.vault with erasedB := true } }

end Sys2Proof.Machine
end

