-- ==== Sys2Proof/Machine/Boot.lean ====
section
/-!
DEFINITION. The end of BOOT and of RESTORE: the retirement table, the choice of the source, the journal sources and what they restore, and the
entry to service or QUARANTINE (02 R53, R58, R61, R62; 06 R187; 09 R271, R272, R274; 10 R292, R299, R303; 11 R328, R329; 15 R437).
-/

namespace Sys2Proof.Machine

/-! ## The retirement table (06 R196; 15 R437) -/

/-- An entry of the table retires a frame. -/
def tableHolds (region frame : Nat) (e : RetEntry) : Bool :=
  decide (e.region = region) && (decide (e.kind = 1) && decide (e.frame = frame) ||
    decide (e.kind = 2) && decide (frameChannel region frame = e.channel) && decide (frameBank frame = e.unit) ||
    decide (e.kind = 4) && decide (frameChannel region frame = e.channel))

/-- BOOT applies the table: its frames are RETIRED, a frame retired for one boot only is free again, device marks and failed channels stand. -/
def applyTable (s : State) : State :=
  let s := loadTable s
  let t := s.guard.table
  let c : Cache := { s.cache with
    dir := s.cache.dir.filter fun e => !decide (e.state = .retired)
    retireLater := s.cache.retireLater.filter fun f => t.any (tableHolds f.1 f.2) }
  let s := { s with cache := (t.map fun e : RetEntry => e.region).eraseDups.foldl (fun (c : Cache) (r : Nat) =>
    retireAll r ((List.range (16 * setsOf c)).filter fun f => t.any (tableHolds r f)) c) c }
  s.guard.table.foldl (fun s (e : RetEntry) =>
    let ch := s.chan e.channel
    if e.kind = 3 then s.setChan e.channel { ch with marks := if ch.marks.contains e.unit then ch.marks else ch.marks ++ [e.unit] }
    else if e.kind = 4 then s.setChan e.channel { ch with failed := true }
    else s) s

/-! ## Restoring pages (06 R187; 09 R272) -/

/-- A version's frames are stamped as the newest of their page. -/
def stampVer (frames : List (Nat × Nat)) (c : Cache) : Cache :=
  { c with
    nextVer := c.nextVer + 1
    dir := c.dir.map fun e => if frames.contains (e.region, e.frame) then { e with ver := c.nextVer } else e }

/-- Place a restored page (06 R187): both copies, else the primary alone, else none. -/
def restorePage (st : PState) (keyNs vpage : Nat) (valid zero poison : BitVec 8) (data : Bytes) (c : Cache) : Option Cache :=
  let part : PagePart :=
    { ns := keyNs, vpage := vpage, mask := valid &&& ~~~ zero, zero := zero, poison := poison, data := data, spans := [], base := none, home := none }
  match placePart none st .mirror part c with
  | some (p, c) =>
    match p.home with
    | some (r, f, r2, f2) => some (mergePage keyNs vpage (stampVer [(r, f), (r2, f2)] c))
    | none => none
  | none =>
    match (pageRegions c.fenced keyNs vpage).1 with
    | none => none
    | some r =>
      match allocFrame r (pageSet keyNs vpage (setsOf c)) c with
      | none => none
      | some (f, c) =>
        let (w, c) := drawWseq r c
        let e := newEntry r f st keyNs vpage valid zero poison r (f % 16) w none
        some (mergePage keyNs vpage (stampVer [(r, f)]
          { c with dir := e :: c.dir, dram := writeSectors r f (valid &&& ~~~ zero) zero data c.dram }))

/-- Write a page over the version of it that an earlier record installed, in its frames, when no frame is free for a new one (09 R272). None when there is no
such version. -/
def overlayPage (keyNs vpage : Nat) (valid zero poison : BitVec 8) (data : Bytes) (c : Cache) : Option Cache :=
  (newestOf c keyNs vpage).map fun n =>
    let mine := fun (e : DirEntry) => decide (e.keyNs = keyNs) && decide (e.vpage = vpage) && decide (e.ver = n.ver)
    { c with
      dram := (c.dir.filter mine).foldl (fun l e => writeSectors e.region e.frame (valid &&& ~~~ zero) zero data l) c.dram
      dir := c.dir.map fun e =>
        if mine e then
          { e with valid := e.valid ||| valid, zero := (e.zero &&& ~~~ valid) ||| zero, poison := (e.poison &&& ~~~ valid) ||| poison }
        else e }

/-- Restore the pages of a vault image in frames (02 R62; 06 R187); those that no frame takes are left over. -/
def restoreImage (ps : List ImagePage) (s : State) : List ImagePage × State :=
  ps.foldl (fun (acc : List ImagePage × State) p =>
    match restorePage .dirty p.keyNs p.vpage p.valid p.zero p.poison p.data acc.2.cache with
    | some c => (acc.1, { acc.2 with cache := c })
    | none => (acc.1 ++ [p], acc.2)) ([], s)

/-- The retained directory as it stands: a destage that the reset cut off starts again (02 R62; 09 R273), and a dirty page without a partner is
placed with both copies where its mirror set has a frame (06 R187). -/
def restoreRetained (s : State) : State :=
  { s with cache := remirrorAll { s.cache with dir := s.cache.dir.map fun e =>
      match e.state with
      | .destaging => { e with state := .dirty }
      | .destagingJ => { e with state := .dirtyJ }
      | _ => e } }

/-- Everything that the cache held is dropped but the RETIRED frames (02 R61: the source is not the retained arrays). -/
def dropCache (s : State) : State :=
  let s := { s with
    mode := { s.mode with sealValid := false }
    cache := { s.cache with dir := s.cache.dir.filter fun e => decide (e.state = .retired), dram := [], fills := [], wseqCtr := [] } }
  decksAfter false s

/-! ## Journal sources (09 R271, R272) -/

/-- The slot of a member index whose drive can be read. -/
def memberReadable (s : State) (d : Deck) (mem : Nat) : Bool :=
  match slotOfMember d mem with
  | some x => slotReachable (s.slot x)
  | none => false

/-- JSEQ of the last record of a ring. -/
def ringLast (g : Ring) : Nat := g.recs.foldl (fun n r => max n r.jseq) 0

/-- The keeper ring that is read: named in the label, complete, on a drive that can be read; of two, the one with the higher last JSEQ. -/
def sourceRing (s : State) (d : Deck) : Option Ring :=
  (d.rings.filter fun g => (decide (d.label.keeper0 = some g.member) || decide (d.label.keeper1 = some g.member)) && g.complete &&
      memberReadable s d g.member).foldl (fun (best : Option Ring) g =>
    match best with
    | none => some g
    | some b => if ringLast b < ringLast g then some g else some b) none

/-- JSEQ and WSEQ values that TRIM records of a ring name. -/
def trimmed (entries : Bool) (recs : List JRec) : List Nat :=
  recs.flatMap fun r => match r.body with | .trim e vs => if e = entries then vs else [] | _ => []

/-- The live records among those of a source, in rising JSEQ order, an INTENT record with its live entries only (09 R264, R272). -/
def liveRecs (recs trims : List JRec) : List JRec :=
  let js := trimmed false trims
  let ws := trimmed true trims
  let named := recs.filter fun r => !js.contains r.jseq
  named.filterMap fun r =>
    match r.body with
    | .trim _ _ => none
    | .replicaEnd => none
    | .progress _ => if named.any fun q => decide (r.jseq < q.jseq) && sameProgress q.body r.body then none else some r
    | .intent es =>
      let es := es.filter fun e => !ws.contains e.wseq
      if es.isEmpty then none else some { r with body := .intent (es.map fun e => { e with jseq := some r.jseq, durable := true }) }
    | .data _ _ _ _ _ => some r

/-- A record into a list in rising JSEQ order, once. -/
def insertRec (r : JRec) : List JRec → List JRec
  | [] => [r]
  | x :: xs => if x.jseq < r.jseq then x :: insertRec r xs else if x.jseq = r.jseq then r :: xs else r :: x :: xs

/-- Where a deck's journal comes from: its EVENT 0x3030 code and the live records. `whole` says that no record may be missing. -/
structure Source where
  code : Nat
  recs : List JRec
  whole : Bool
  deriving DecidableEq, Repr

/-- A record holds pages. -/
def isData (r : JRec) : Bool := match r.body with | .data _ _ _ _ _ => true | _ => false

/-- The records of a deck that the vault image holds. -/
def vaultRecs (s : State) (id : Nat) : List JRec :=
  ((s.vault.image.map (·.journal)).getD []).filterMap fun x => if x.1 = id then some x.2 else none

/-- The journal source of a deck with CLEAN_STOP = 0 (09 R271), with the restore source of R61. -/
def sourceOfDeck (s : State) (id : Nat) (d : Deck) : Source :=
  let ring := sourceRing s d
  let vr := vaultRecs s id
  if s.mode.restoreSource = 2 then { code := 0, recs := d.journal, whole := true }
  else if s.mode.restoreSource = 1 ∧ vr ≠ [] then
    let top := vr.foldl (fun n r => max n r.jseq) 0
    match ring with
    | some g =>
      let more := g.recs.filter fun r => decide (top < r.jseq) || isData r
      { code := 1, recs := liveRecs (more.foldr insertRec vr) g.recs, whole := true }
    | none => { code := 1, recs := liveRecs vr [], whole := false }
  else
    match ring with
    | some g => { code := 2, recs := liveRecs (g.recs.foldr insertRec []) g.recs, whole := true }
    | none => { code := 3, recs := [], whole := false }

/-! ## What a source restores -/

/-- Bits of the entries that are not REBUILDING: they are set in every segment (10 R291). -/
def rebuiltBits (d : Deck) : List Nat := (List.range d.label.failList.length).filter fun i => !(rebuildingBits d).contains i

/-- Rebuild segments from the label's watermarks, where no REBUILD record is live (10 R291, R293; 07 R223). -/
def segsFromLabel (d : Deck) : List (Nat × Nat) :=
  let ws := (rebuildingBits d).filterMap fun i => (d.label.failList[i]?).map fun e => (i, e.watermark)
  let starts := (ws.filter fun w => decide (w.2 < d.label.shape.rounds) && decide (0 < w.2)).foldl (fun l w => if l.contains w.2 then l else insertNat w.2 l) [0]
  starts.map fun r => (r, bitmapOf (rebuiltBits d ++ (ws.filter fun w => decide (r < w.2)).map (·.1)))

/-- Segments of a REBUILD record as the label's fail list stands: bits past the list are dropped, those of entries that are not REBUILDING are set, and an entry
that is REBUILDING though the record has it done everywhere has begun again since (10 R291, R300). -/
def segsFromRecord (d : Deck) (segs : List (Nat × Nat)) : List (Nat × Nat) :=
  let again := (rebuildingBits d).filter fun i => segs.all fun g => g.2.testBit i
  segs.map fun g => (g.1, setBits (rebuiltBits d) (bitmapOf ((rebuildingBits d).filter fun i => g.2.testBit i && !again.contains i)))

/-- The latest PROGRESS of an operation among the records. -/
def progressOf (op : Nat) (recs : List JRec) : Option Progress :=
  (recs.filterMap fun r => match r.body with | .progress p => if progressOp p = op then some p else none | _ => none).getLast?

/-- Rebuild position (10 R292). -/
def restoreRebuild (recs : List JRec) (d : Deck) : Deck :=
  match progressOf 1 recs with
  | some (.rebuild _ segs cur cursor) =>
    let d := { d with segs := segsFromRecord d segs, curSeg := cur, cursor := cursor, rebuilt := [] }
    if chooseSeg d = 0xFF ∨ cur = 0xFF then startSweep d else d
  | _ => startSweep { d with segs := segsFromLabel d }

/-- Copy-back position (10 R299). -/
def restoreCopyback (recs : List JRec) (d : Deck) : Deck :=
  match progressOf 2 recs with
  | some (.copyback m _ wm started) =>
    { d with
      copyStarted := started
      label := { d.label with failList := d.label.failList.map fun e => if e.member = m ∧ e.fstate = .copyback then { e with watermark := wm } else e } }
  | _ => d

/-- Resync position (09 R274). -/
def restoreResync (recs : List JRec) (d : Deck) : Deck :=
  match progressOf 4 recs with
  | some (.resync wm started) => { d with resync := some (wm, started), resynced := [] }
  | _ => { d with resync := none, resynced := [] }

/-- Patrol position (10 R303): the record, else the patrol page, else zero. -/
def restorePatrol (s : State) (recs : List JRec) (d : Deck) : Deck :=
  match progressOf 5 recs with
  | some (.patrol cursor passes flags start found) => { d with patrol := readPatrol (patrolBytes cursor passes flags start found) }
  | _ =>
    { d with patrol := (pagePosition s d.label.uuid).getD {} }

/-- The first new hand at a position or after it (11 R330): a position past a volume's last hand is the next volume's first. -/
def settledPosition (ext : Tbl Nat (List (Nat × Nat × Nat))) (p : Nat × Nat) : Option (Nat × Nat) :=
  if p.2 < extentTotal (tblGet ext p.1 []) then some p else (ext.find? fun x => decide (p.1 < x.1) && !x.2.isEmpty).map fun x => (x.1, 0)

/-- Redeal position (11 R328): from its record, or from the first new hand where the journal has been lost, when SWITCH is COPY again: a change of PHASE, which a
PROGRESS record and log 0xC8 show (R330, R331). The allocation is computed again (11 R315). Event 0x3043 follows at the entry to service. -/
def restoreRedeal (id : Nat) (found : Bool) (recs : List JRec) (s : State) : State :=
  match s.deck id with
  | none => s
  | some d =>
    match d.label.redeal with
    | none => s.setDeck id { d with redeal := none }
    | some r =>
      let ext := (newAlloc s id d r.newShape).getD []
      let run : RedealRun :=
        { position := firstHand ext, copied := [], handsDone := 0, newExtents := ext, draining := false, oldBytes := [], oldRounds := 0, copyAt := [] }
      if !found then
        let s := s.setDeck id { d with redeal := some { run with resumes := some true } }
        if r.phase = RedealPhase.copy then s
        else redealRec id (logRedeal id 1 0 0 (relabel id (fun l => { l with redeal := l.redeal.map fun f => { f with phase := .copy } }) s))
      else
        let run := match progressOf 3 recs with
          | some (.redeal _ nsid vh done _) =>
            { run with position := if r.phase = RedealPhase.switch then none else settledPosition ext (nsid, vh), handsDone := done }
          | _ => if r.phase = RedealPhase.switch then { run with position := none, handsDone := r.handsTotal } else run
        s.setDeck id { d with redeal := some { run with resumes := if r.phase = RedealPhase.copy then some false else none } }

/-- The copy of a redeal resumes: event 0x3043 (11 R328). -/
def resumeRedeal (id : Nat) (s : State) : State :=
  match (s.deck id).bind (·.redeal) with
  | some run =>
    match run.resumes with
    | some again =>
      recordEvent 0x3043 [id, if again then 1 else 0, 0, 0] (updDeck id (fun d => { d with redeal := some { run with resumes := none } }) s)
    | none => s
  | none => s

/-- Install the pages of one DATA record (09 R272 step 2). A page with a version of the retention or vault source, one below `first`, is not
installed, but for a record whose command had not committed: it is newer than every committed version it overlaps (R270), and is applied whole
(04 R124; DEDUCED, log 108). A page that no frame takes is left over, unless an earlier record's version of it can take it. -/
def installData (force : Bool) (first nsid : Nat) (pages : List JPage) (acc : List ImagePage × Cache) : List ImagePage × Cache :=
  pages.foldl (fun acc p =>
    let key := nsid - 1
    let there := !force && ((versionsOf acc.2 key p.vpage).any fun e => decide (e.ver < first))
    if there then acc
    else
      match (restorePage .dirtyJ key p.vpage p.valid p.zero p.poison p.data acc.2).orElse fun _ =>
          overlayPage key p.vpage p.valid p.zero p.poison p.data acc.2 with
      | some c => (acc.1, c)
      | none =>
        (acc.1 ++ [{ keyNs := key, vpage := p.vpage, valid := p.valid, zero := p.zero, poison := p.poison, data := p.data }], acc.2)) acc

/-- The DATA records with the versions that now stand for their pages; a page that goes straight to the members has none. -/
def stampData (c : Cache) (r : JRec) : JRec :=
  match r.body with
  | .data a b nsid x ps =>
    { r with body := .data a b nsid x (ps.map fun p => { p with ver := ((newestOf c (nsid - 1) p.vpage).map (·.ver)).getD 1 }) }
  | _ => r

/-- The entries that are replayed (09 R272 step 3; 11 R329). -/
def replayEntries (d : Deck) (recs : List JRec) : List Intent :=
  recs.flatMap fun r =>
    match r.body with
    | .intent es =>
      if r.gen = d.label.generation then es.map fun e => { e with newGen := false }
      else
        match d.label.redeal with
        | some f => if r.gen = f.newGen then es.map fun e => { e with newGen := true } else []
        | none => []
    | _ => []

/-- A DATA record of a source is applied whole: its command had not committed (04 R124; 09 R270). -/
def appliesWhole (s : State) (id code : Nat) (r : JRec) : Bool :=
  if code = 0 then isUncommitted r
  else decide (code = 1) && ((s.vault.image.map (·.uncommitted)).getD []).contains (id, r.jseq)

/-- The lock table of replay: each hand of an entry is locked EXCLUSIVE (09 R272). -/
def replayLocks (entries : List Intent) : List (Nat × LockMode) :=
  entries.foldl (fun l i =>
    let key := if i.newGen then newKey i.hand else i.hand
    if l.any fun x => decide (x.1 = key) then l else l ++ [(key, .exclusive)]) []

/-- A deck with the live records of its source, and the positions that those record (09 R272). -/
def takeRecords (src : Source) (d : Deck) (s : State) : Deck :=
  let entries := if src.code = 0 then d.intents.filter fun i => !i.newGen || d.label.redeal.isSome else replayEntries d src.recs
  let top := src.recs.foldl (fun n r => max n r.jseq) 0
  let d := restorePatrol s src.recs (restoreResync src.recs (restoreCopyback src.recs (restoreRebuild src.recs d)))
  { d with
    journal := src.recs, intents := entries, batch := [], trimJ := if src.code = 0 then d.trimJ else []
    trimW := if src.code = 0 then d.trimW else [], jseq := max d.jseq (top + 1), replay := entries, locks := replayLocks entries }

/-- The pages of DATA records that a restored image holds none of go to the cache; its first part is what no frame can take (09 R272; 06 R187). -/
def installRecs (id : Nat) (src : Source) (gone : List ImagePage) (s : State) : List ImagePage × Cache :=
  src.recs.foldl (fun acc r =>
    match r.body with
    | .data _ _ nsid _ ps =>
      let whole := appliesWhole s id src.code r
      let ps := ps.filter fun p => whole || !gone.any fun g => decide (g.keyNs = nsid - 1) && decide (g.vpage = p.vpage)
      installData whole s.cache.nextVer nsid ps acc
    | _ => acc) (([] : List ImagePage), s.cache)

/-- Restore a deck from a source (09 R272): the pages of its DATA records that no frame takes, and the state. `gone` are the vault's pages that no frame
took: they are newer than the records' (step 2). -/
def applySource (id : Nat) (src : Source) (gone : List ImagePage) (s : State) : List ImagePage × State :=
  match s.deck id with
  | none => ([], s)
  | some d =>
    let s := restoreRedeal id (decide (src.code ≠ 3)) src.recs (s.setDeck id (takeRecords src d s))
    let r := installRecs id src gone s
    let s := updDeck id (fun d => { d with journal := d.journal.map (stampData r.2) }) { s with cache := r.2 }
    let s := recordEvent 0x3030 [id, src.code, 0, 0] s
    (r.1, if src.whole then s else resyncIfDue id (updDeck id (fun d => { d with resyncDue := true }) s))

/-- A deck with CLEAN_STOP = 1 takes the positions of its operations from a keeper's ring (09 R271). -/
def applyClean (id : Nat) (s : State) : State :=
  match s.deck id with
  | none => s
  | some d =>
    let all := match sourceRing s d with | some g => liveRecs (g.recs.foldr insertRec []) g.recs | none => []
    let recs := all.filter fun r => match r.body with | .progress _ => true | _ => false
    let top := all.foldl (fun n r => max n r.jseq) 0
    let d := restorePatrol s recs (restoreResync recs (restoreCopyback recs (restoreRebuild recs d)))
    let d := { d with journal := recs, intents := [], batch := [], trimJ := [], trimW := [], replay := [], jseq := max d.jseq (top + 1) }
    restoreRedeal id true recs (s.setDeck id d)

/-- Keepers at the end of RESTORE (09 R268, R271): one named in the label whose member is not ACTIVE is replaced, one whose ring is not complete or not
valid gets a fresh replica; a ring of another member is no keeper's. -/
def settleKeepers (id : Nat) (s : State) : State :=
  let s := nameKeepers id s
  let ks := ((s.deck id).map keepersOf).getD []
  let s := ks.foldl (fun s k =>
    match s.deck id with
    | none => s
    | some d =>
      if mstateOf d k ≠ .active then dropKeeper id k s
      else if (d.rings.find? fun g => decide (g.member = k)).any fun g => g.complete then s
      else beginReplica id k s) s
  improveKeepers id s

/-- Deck IDs present, rising. -/
def deckIds (s : State) : List Nat := (List.range 32).filter fun i => (s.deck i).isSome

/-- Restore every deck, each from its own source: the decks whose acknowledged data may be missing, which are those that are resynced; the pages that no frame
takes, with those of the vault; and the state. -/
def restoreDecks (gone : List ImagePage) (s : State) : List Nat × List ImagePage × State :=
  let todo := (deckIds s).map fun id => (id, (s.deck id).bind fun d => if d.label.cleanStop then none else some (sourceOfDeck s id d))
  let lost := (todo.filter fun t => match t.2 with | some src => !src.whole | none => false).map (·.1)
  let r := todo.foldl (fun (acc : List ImagePage × State) t =>
    let (left, s) := match t.2 with | some src => applySource t.1 src gone acc.2 | none => ([], applyClean t.1 acc.2)
    (acc.1 ++ left, evalDeck t.1 s)) (gone, s)
  (lost, r.1, r.2)

/-- What follows a restore in the modes of service: keepers, entries that are rebuilt everywhere, copy-backs recorded, and redeals that resume. -/
def settleDecks (s : State) : State :=
  (deckIds s).foldl (fun s id =>
    evalDeck id (resumeRedeal id (startRecorded id (settleRebuilt id (settleKeepers id (settleMember id s)))))) s

/-! ## Pages that go straight to the members (06 R187) -/

/-- Blocks read for a hand. -/
def readsFor (reads : List (Nat × Nat × List BlockRead)) (id hd : Nat) : List BlockRead :=
  (reads.filter fun r => decide (r.1 = id) && decide (r.2.1 = hd)).flatMap fun r => r.2.2

/-- The bytes of a page after the sectors of an image page; sectors that read as zero, or are poisoned, are zero (15 R427). -/
def imageOver (p : ImagePage) (old : Bytes) : Bytes :=
  (List.range 8).flatMap fun i =>
    if bitOf p.valid i then (if bitOf p.zero i || bitOf p.poison i then zeros 512 else sliceBytes p.data (512 * i) 512) else sliceBytes old (512 * i) 512

/-- The live intents of a hand are replayed before any other update of it (09 R272 step 3); `second` says which layout. None while blocks that they need have
not been read. -/
def replayHand (id hd : Nat) (second : Bool) (reads : List BlockRead) (s : State) : Option State :=
  let todo := (((s.deck id).map (·.replay)).getD []).filter fun i => decide (i.hand = hd) && decide (i.newGen = second)
  todo.foldl (fun acc i =>
    acc.bind fun s =>
      match s.deck id with
      | none => some s
      | some d => if replayReady s id d i reads then some (replayIntent id i reads s) else none) (some s)

/-- The second hand update of a page whose new hand is already copied (11 R321): the row of the new layout is written again, from the current one. `new` is the
page as members hold it. None while a source block has not been read. -/
def directSecond (id nsid page : Nat) (new : Bytes) (reads : List (Nat × Nat × List BlockRead)) (s : State) : Option State :=
  match s.deck id, s.vol nsid with
  | some d, some v =>
    match d.redeal, newLayout d with
    | some run, some nd =>
      let base := metaPage d.label.shape v
      let p := if page < base then page else page - base + metaPage nd.label.shape v
      let (vh, row, c) := blockOfPage nd.label.shape p
      let copied := match run.position with
        | none => true
        | some (n, h) => decide (nsid < n) || (decide (nsid = n) && decide (vh < h)) || run.copied.contains (nsid, vh)
      match extentHand (tblGet run.newExtents nsid []) vh with
      | none => some s
      | some hd =>
        if !copied then some s
        else
          let sh := nd.label.shape
          let rs := (sourceHands d nd v vh).map fun h => (h, readsFor reads id h)
          let data := (List.range sh.k).filterMap fun j =>
            if j = c then some (j, fitBytes 4096 (new.take (pageFill d.label.shape v page))) else (copyBlock s id d nd v vh rs row j).map fun b => (j, b)
          if data.length < sh.k then none
          else
            let i : Intent := { repairIntent nd hd row [c] with newGen := true }
            let (w, s) := durableIntent id i (runStreams id hd row [encodeStream sh.k sh.m] s)
            let ws := (data ++ encodeRow sh.k sh.m 4096 data).filterMap fun b => blockWrite (retag s nd) hd row b.1 w b.2
            some (releaseIntent id w (emitBlocks ws s))
    | _, _ => some s
  | _, _ => some s

/-- A page that was written has left the image. -/
def pageDone (p : ImagePage) (s : State) : State :=
  { s with vault := { s.vault with imageTodo := s.vault.imageTodo.filter fun k => !decide (k = (p.keyNs, p.vpage)) } }

/-- The listing of a page that an image holds: cleared when the page is whole, made for its poison (10 R286, R287). -/
def relistPage (p : ImagePage) (v : Volume) (s : State) : State :=
  if p.valid = 0xFF ∧ p.poison = 0 then clearPages v.nsid [p.vpage] s
  else if p.poison = 0 ∨ isListed v p.vpage = true then s
  else (lockIfRefused v.nsid (listPages v.nsid [p.vpage] s)).2

/-- A row that has lost more than m blocks is made consistent (10 R282). -/
def mendFound (id hd row : Nat) (d : Deck) (rs : List BlockRead) (s : State) : State :=
  let have_ := atHand s id d hd row rs
  if (rowOld d have_).isSome then s else (consistRow id hd row none have_ (lostOfRow d hd row rs have_) s).2

/-- The hand update that writes a page to the current layout (09 R265; 10 R286, R287; 15 R427): the page's listing is cleared, or made, before the writes. A row
that has lost more than m blocks is made consistent first; when its blocks may not be listed, the page's block is written with no parity. Its first part is
the block written, none when that has no place. -/
def directRow (p : ImagePage) (id hd row c : Nat) (v : Volume) (rs : List BlockRead) (d : Deck) (s : State) : Option Bytes × State :=
  let sh := d.label.shape
  let have_ := atHand s id d hd row rs
  let old := (fullRow d have_).getD have_
  let whole := (fullRow d have_).isSome
  let new := toMember sh v p.vpage (imageOver p (fromMember sh v p.vpage (fitBytes 4096 (rowBlock old c))))
  let data := (c, new) :: old.filter fun b => decide (b.1 < sh.k) && decide (b.1 ≠ c)
  let par := if whole then (encodeRow sh.k sh.m 4096 data).filter fun b => decide (sh.k ≤ b.1) else []
  let r := durableIntent id (repairIntent d hd row [c]) (runStreams id hd row (if whole then encodeStreams d have_ else []) (relistPage p v s))
  let out := ((c, new) :: par).filter fun b => chunkWritable d hd b.1 || (blockListed r.2 id d hd row b.1 && (livePlace d hd b.1).isSome)
  (if whole || chunkWritable d hd c then some new else none,
    releaseIntent id r.1 (emitBlocks (out.filterMap fun b => blockWrite d hd row b.1 r.1 b.2) r.2))

/-- A page of an image goes to its hand: in the current layout, then, during a redeal, in the new one (11 R321). A page whose block has no place stays in
the image. None while the blocks read do not suffice. -/
def directUpdate (p : ImagePage) (id hd row c : Nat) (v : Volume) (reads : List (Nat × Nat × List BlockRead)) (s : State) : Option State :=
  match s.deck id with
  | none => some s
  | some d0 =>
    if !rowSettled s id d0 hd (readsFor reads id hd) row then none
    else
      let s := mendFound id hd row d0 (readsFor reads id hd) s
      match s.deck id with
      | none => some s
      | some d =>
        match directRow p id hd row c v (readsFor reads id hd) d s with
        | (none, s) => some s
        | (some new, s) => directSecond id v.nsid p.vpage new reads (pageDone p s)

/-- Write a page that no frame takes straight to the members by a hand update (06 R187; log 60). None while the blocks read do not suffice; a page of a
volume or hand that is no more is dropped. -/
def directPage (p : ImagePage) (reads : List (Nat × Nat × List BlockRead)) (s : State) : Option State :=
  match s.vol (p.keyNs + 1) with
  | none => some s
  | some v =>
    match s.deck v.deckId with
    | none => some s
    | some d =>
      let (vh, row, c) := blockOfPage d.label.shape p.vpage
      match extentHand v.extents vh with
      | none => some s
      | some hd =>
        match replayHand v.deckId hd false (readsFor reads v.deckId hd) (clearCleanStop v.deckId s) with
        | none => none
        | some s => directUpdate p v.deckId hd row c v reads s

/-- Write every page that no frame takes; their DATA records, if any, are then trimmed (09 R270). None while one must wait. -/
def directPages (ps : List ImagePage) (reads : List (Nat × Nat × List BlockRead)) (s : State) : Option State :=
  match ps.foldl (fun acc p => acc.bind fun s => directPage p reads s) (some s) with
  | none => none
  | some s => some (if ps.isEmpty then s else (deckIds s).foldl (fun s id => trimData id s) s)

/-- Decks whose acknowledged data may be missing (02 R68). -/
def markLost (ids : List Nat) (s : State) : State := ids.foldl (fun s id => updDeck id (fun d => { d with dataLost := true }) s) s

/-- Decks with CLEAN_STOP = 0. -/
def uncleanDecks (s : State) : List Nat := (deckIds s).filter fun id => ((s.deck id).map fun d => !d.label.cleanStop).getD false

/-- Entry to SERVE or CONSTRAINED: the dirty limit, the policy and the decks are as the new state gives. -/
def beginService (noServe noConstr : Nat) (s : State) : State :=
  let s := (deckIds s).foldl (fun s id => updDeck id (fun d => { d with dataLost := false }) s) s
  let s := { s with cache := { s.cache with limit := dirtyLimitOf s } }
  let s := settleDecks (enterService noServe noConstr (policyCheck s))
  match s.mode.faultDue with
  | some (code, detail) => noLevel code detail { s with mode := { s.mode with faultDue := none } }
  | none => s

/-! ## BOOT_COMPLETE -/

/-- Where R61 sends the device: none for service, else the restore source, 1 vault, 2 retention, 3 keepers, 4 no valid record. -/
def restoreFrom (s : State) : Option Nat :=
  match stopCurrent s.stop with
  | none => if (uncleanDecks s).isEmpty then none else some 4
  | some (r, _) =>
    if r.state = 2 then none
    else if r.state = 3 ∧ r.imageValid then some 1
    else if s.mode.sealValid then some 2
    else if r.imageValid then some 1 else some 3

/-- Cause code of T6 for a restore source (02 R49). -/
def restoreCause (src : Nat) : Nat := if src = 1 then 0x50 else if src = 2 then 0x51 else 0x52

/-- Everything that BOOT waits for has happened: the window is closed, and every channel is trained, failed or fenced (02 R53). -/
def bootReady (s : State) : Bool :=
  decide (s.mode.mode = .boot) && s.power.hubUp && !s.mode.bootHold && s.mode.windowClosed &&
    (List.range 8).all fun ch => (s.chan ch).trained || (s.chan ch).failed || s.cache.fenced.contains (ch / 2)

/-- Heartwood entries of a BOOT (16 R467): MEMBERS when members were measured, then BOOT. -/
def bootEntries (ok : Bool) (s : State) : State :=
  let s := if s.trust.running = 0 then s else appendMembers s
  appendBoot ok (((stopCurrent s.stop).map fun r => r.1.state).getD 0) s

/-- The tests of BOOT (02 R53): torn repair entries are ignored (15 R440), SRAM rows are repaired, but those of the retained arrays while the retention seal is valid; a cell whose CHECK
stream failed is retired, a sublink that did not train is spared, and a vault channel that does not answer is dropped (14 R413). -/
def bootTests (b : BootChecks) (s : State) : State :=
  let s := b.torn.foldl (fun s i => tearRepair i s) s
  let s := b.sram.foldl (fun s x => if x.2 && s.mode.sealValid then s else repairRow x.1.1 x.1.2.1 x.1.2.2 s) s
  let s := b.vaultLost.foldl (fun s c => dropVaultChannel c s) s
  let s := b.cells.foldl (fun s x => retireCell x.1 x.2.1 x.2.2 s) s
  b.sublinks.foldl (fun s x =>
    if x.1 < 8 ∧ x.2 < 17 ∧ (s.link x.1).bad.contains x.2 = false then spareSublink x.1 x.2 false s else s) s

/-- BOOT_COMPLETE (02 R53, R58, R61; 16 R453, R461, R462, R467): T7 with its cause, T4 or T5, or T6. -/
def execBootComplete (selfTestOk fuseOk certOk : Bool) (checks : BootChecks) (s : State) : Host.Outcome State Fault Refusal :=
  if !bootReady s then .next s
  else
    let s1 := applyTable (bootTests checks s)
    let s1 := if certOk then s1 else recordEvent 0x9030 [0, 0, 0, 0] { s1 with trust := { s1.trust with certInvalid := true } }
    let fault := if !selfTestOk then 1 else if !fuseOk then 2 else s1.mode.bootFault
    let s1 := bootEntries checks.heartwoodOk s1
    if fault ≠ 0 then .next (noteAll s (enterQuarantine 7 fault 0 (markLost (uncleanDecks s1) s1)))
    else
      let s2 := revokeKeys (raiseSvn s1)
      match restoreFrom s2 with
      | none => .next (noteAll s (beginService 4 5 (restoreDecks [] (dropCache s2)).2.2))
      | some src =>
        let s3 := if src = 2 then s2 else dropCache s2
        .next (noteAll s (transit 6 .restore (restoreCause src) { s3 with mode := { s3.mode with restoreSource := src } }))

/-! ## RESTORE_COMPLETE -/

/-- The stop record in force has WRITE_THROUGH set. -/
def stopWt (s : State) : Bool := ((stopCurrent s.stop).map fun r => r.1.writeThrough).getD false

/-- T8 or T9, or T10 for the decks whose acknowledged data may be missing (09 R274). -/
def settleRestore (unclean resynced : List Nat) (s : State) : State :=
  let lost :=
    if s.mode.restoreSource = 4 ∨ (s.mode.restoreSource = 3 ∧ stopWt s = false) then unclean
    else if stopWt s then resynced else []
  let must := decide (s.mode.restoreSource = 4) || (decide (s.mode.restoreSource = 3) && !stopWt s) || !lost.isEmpty
  if must then enterQuarantine 10 4 0 (markLost lost s) else beginService 8 9 s

/-- The end of RESTORE once the cache is restored: the decks' journals, the pages that go straight to the members, then T8 or T9, or T10 for the decks whose
acknowledged data may be missing (02 R61; 09 R274). With WRITE_THROUGH clear, or no valid stop record, and no cache source, those are every deck that
did not stop clean. None while a page has no blocks to be written with. -/
def endRestore (left : List ImagePage) (reads : List (Nat × Nat × List BlockRead)) (s : State) : Option State :=
  let unclean := uncleanDecks s
  let r := restoreDecks left s
  match directPages r.2.1 reads r.2.2 with
  | none => none
  | some s => some (settleRestore unclean r.1 s)

/-- The cache as its source gives it: the pages of the vault's image, or what self-refresh has kept; first what no frame takes (02 R61, R62). -/
def restoreCache (s : State) : List ImagePage × State :=
  if s.mode.restoreSource = 1 then restoreImage ((s.vault.image.map fun im => im.pages).getD []) s
  else if s.mode.restoreSource = 2 then ([], restoreRetained s)
  else ([], s)

/-- The vault's image is the source and cannot be restored: there is none, it fails authentication, or it holds too few pages (02 R62). -/
def imageUnfit (imageOk : Bool) (imagePages : Nat) (s : State) : Bool :=
  let need := ((stopCurrent s.stop).map fun r => r.1.dirtyPages).getD 0
  decide (s.mode.restoreSource = 1) && (s.vault.image.isNone || !imageOk || decide (imagePages < need))

/-- RESTORE_COMPLETE (02 R61, R62; 06 R187): an image that fails authentication, or holds too few pages, leads to T10 and is preserved. RESTORE
waits while a page that no frame can take has no blocks to be written with. -/
def execRestoreComplete (imageOk : Bool) (imagePages : Nat) (reads : List (Nat × Nat × List BlockRead)) (s : State) :
    Host.Outcome State Fault Refusal :=
  if s.mode.mode ≠ .restore then .next s
  else if imageUnfit imageOk imagePages s then .next (noteAll s (enterQuarantine 10 5 0 (markLost (uncleanDecks s) s)))
  else
    match endRestore (restoreCache s).1 reads (restoreCache s).2 with
    | some t => .next (noteAll s t)
    | none => .next s

end Sys2Proof.Machine
end

