-- ==== Sys2Proof/Machine/Shutdown.lean ====
section
/-!
DEFINITION. Shutdown of a controller, and requests for a device reset or a power cycle (02 R64, R65; 17 R486 to R489).
-/

namespace Sys2Proof.Machine

/-! ## Shutdown (02 R64, R65) -/

/-- No other controller is in service: each is disabled, or has a shutdown under way or complete (log 62). -/
def lastController (s : State) (ctl : Nat) : Bool :=
  s.ctlIds.all fun id => decide (id = ctl) || !(s.ctl id).ccEn || decide ((s.ctl id).shst ≠ 0)

/-- A controller may begin a shutdown: enabled, in a mode of service, none under way. -/
def mayShut (s : State) (ctl : Nat) : Bool := barLive s ctl && s.ready && (s.ctl ctl).ccEn && decide ((s.ctl ctl).shst = 0)

/-- CSTS.SHST = 01b: fetching stops (02 R64 step 1). -/
def beginShutdown (ctl kind : Nat) (s : State) : State :=
  let s := hostArrives ctl s
  let s := s.setCtl ctl { s.ctl ctl with shst := 1 }
  { s with mode := { s.mode with shutdownKind := if s.mode.mode = .quarantine then 0 else kind } }

/-- CC.SHN = 01b (02 R64): step 1; destage goes on at TRUMP priority. In QUARANTINE step 1 is all (R65). -/
def shutNormal (ctl : Nat) (s : State) : State :=
  if !barLive s ctl then barRefused ctl s else if mayShut s ctl then beginShutdown ctl 1 s else s

/-- SHUTDOWN_NORMAL (02 R64). -/
def execShutdownNormal (ctl : Nat) (s : State) : Host.Outcome State Fault Refusal := .next (shutNormal ctl s)

/-- CC.SHN = 10b (02 R64): step 1, then the HOLDUP flush sequence on main power. With no live vault channel no flush can run (14 R413). -/
def shutAbrupt (ctl : Nat) (s : State) : State :=
  if !barLive s ctl then barRefused ctl s
  else if !mayShut s ctl then s
  else
    let s1 := beginShutdown ctl 2 s
    if s1.serving && lastController s1 ctl && !s1.vault.channels.isEmpty && s1.vault.flush.isNone then beginFlush (some ctl) s1
    else s1

/-- SHUTDOWN_ABRUPT (02 R64). -/
def execShutdownAbrupt (ctl : Nat) (s : State) : Host.Outcome State Fault Refusal := .next (shutAbrupt ctl s)

/-- Step 3 of R64 for a deck: its DATA and INTENT records are released and trimmed; the PROGRESS records stay live (07 R225). -/
def trimDeck (id : Nat) (s : State) : State :=
  match s.deck id with
  | none => s
  | some d =>
    let gone := d.journal.filter fun r => match r.body with | .progress _ => false | _ => true
    let s := gone.foldl (fun s r => releaseRec id r.jseq s) (patrolRec id s)
    updDeck id (fun d => { d with intents := [], batch := [] }) (closeTrim id true (closeTrim id false s))

/-- NVMe Flush to every member drive (02 R64 step 3). -/
def flushMembers (s : State) : State :=
  ((listedSlots s).filter fun x => decide ((s.slot x).cls = .member)).foldl
    (fun s x =>
      let s := updSlot x (fun v => { v with unflushed := false }) s
      match if slotReachable (s.slot x) then servingPort (s.slot x) else none with
      | some port => issueOn x port 0x00 .flush 0 [] (emit (.memberCmd x port 0x00 0) s)
      | none => s) s

/-- Steps 3 to 5 of R64: the flush barrier between its two broadcasts (01 R25, 17 R497), trims, the patrol page (10 R303), the labels with CLEAN_STOP set, the stop record CLEAN. -/
def stopClean (s : State) : State :=
  let s := broadcast (flushMembers (broadcast s))
  let s := (deckIds s).foldl (fun s id => trimDeck id s) s
  let s := writePatrolPage s
  let s := (deckIds s).foldl (fun s id => relabel id (fun l => { l with cleanStop := true }) s) s
  writeStop 2 s

/-- Nothing is left to destage or replay. -/
def allDestaged (s : State) : Bool :=
  !anyDirty s && s.decks.decks.all fun p => p.2.updates.isEmpty && p.2.replay.isEmpty

/-- Every controller that shuts down has posted its fetched commands (02 R64 step 1). -/
def shutQuiet (s : State) : Bool := s.ctlIds.all fun id => !(s.ctl id).ccEn || decide ((s.ctl id).shst = 0) || decide (openCount (s.ctl id) = 0)

/-- SHUTDOWN_COMPLETE (02 R64, R65): the fetched commands are posted, and a normal shutdown has destaged every page. Steps 3 to 5 wait for the
last controller in service (log 62), and with several in shutdown for the fetched commands of each. -/
def execShutdownComplete (ctl : Nat) (s : State) : Host.Outcome State Fault Refusal :=
  let c := s.ctl ctl
  if !(ctlExists s ctl && s.ready && decide (c.shst = 1) && decide (openCount c = 0)) then .next s
  else
    let last := lastController s ctl
    let done := s.setCtl ctl { c with shst := 2 }
    let others := s.ctlIds.any fun id => decide (id ≠ ctl) && (s.ctl id).ccEn && decide ((s.ctl id).shst = 1)
    let finish := fun (s : State) => { s with mode := { s.mode with
      shutDone := s.mode.shutDone || (last && s.serving), shutdownKind := if others then s.mode.shutdownKind else 0 } }
    if s.mode.mode = .quarantine ∨ s.mode.shutdownKind = 0 then .next done
    else if s.mode.shutdownKind = 1 then
      if !allDestaged s || (last && !shutQuiet s) then .next s
      else if last && !s.mode.shutDone then .next (noteAll s (finish (stopClean done))) else .next (finish done)
    else if s.vault.flush.isSome then .next s
    else .next (finish done)

/-! ## Recovery (17 R486 to R490) -/

/-- A power cycle is requested (17 R489): PWRCYC_REQ_N goes low for 20 ms, once. Its rise stands in the same step (timing, log 106). -/
def requestCycle (source ctl : Nat) (s : State) : State :=
  let s := recordEvent 0xA002 [source, ctl, 0, 0] s
  emit (.pin "PWRCYC_REQ_N" true) <| emit (.pin "PWRCYC_REQ_N" false)
    { s with mode := { s.mode with rcvPending := 2 }, power := { s.power with pwrcycPulse := true } }

/-- RECOVERY_REQUEST_DEVICE_RESET (17 R487): the completion is posted first. -/
def execRecoveryRequestDeviceReset (ref : CmdRef) (s : State) : Host.Outcome State Fault Refusal :=
  if !(adminTurn s ref && s.ready) then .next s
  else if s.mode.rcvPending ≠ 0 then .next (failCmd ref 0x0C s)
  else
    let s1 := recordEvent 0xA001 [1, ref.ctl, 0, 0] (commitCmd ref 0 0 s)
    .next (deviceReset 0x32 false (postAll ref.ctl 0 512 s1))

/-- RECOVERY_REQUEST_POWER_CYCLE (17 R487, R489). -/
def execRecoveryRequestPowerCycle (ref : CmdRef) (s : State) : Host.Outcome State Fault Refusal :=
  if !(adminTurn s ref && s.ready) then .next s
  else if s.mode.rcvPending ≠ 0 then .next (failCmd ref 0x0C s)
  else .next (requestCycle 1 ref.ctl (commitCmd ref 0 0 s))

/-- A write of RCV_CTL (17 R488). A power cycle is carried out in the modes of R487 (log 63). -/
def writeRcvCtl (fn : Nat) (value : BitVec 32) (s : State) : State :=
  let reset := value.getLsbD 0
  let cycle := value.getLsbD 1
  let refused := decide (value.toNat / 65536 ≠ 0x5EC7) || (reset && cycle) || decide (s.mode.rcvPending ≠ 0) || (cycle && !s.ready)
  if refused then recordEvent 0xA006 [value.toNat, s.mode.rcvPending, 0, 0] s
  else if reset then deviceReset 0x33 false (recordEvent 0xA001 [2, fn + 1, 0, 0] s)
  else if cycle then requestCycle 2 (fn + 1) s
  else s

/-- BAR0 answers on a function: the hub is up, in a mode with the host link, and the function is in D0. -/
def bar0Live (s : State) (fn : Nat) : Bool := hubAnswers s && barLive s (fn + 1)

/-- RCV_CTL_DEV_RESET (17 R488). -/
def execRcvCtlDevReset (fn : Nat) (value : BitVec 32) (s : State) : Host.Outcome State Fault Refusal :=
  if bar0Live s fn then .next (writeRcvCtl fn value (hostArrives (fn + 1) s)) else .next (barRefused (fn + 1) s)

/-- RCV_CTL_PWRCYC (17 R488). -/
def execRcvCtlPwrcyc (fn : Nat) (value : BitVec 32) (s : State) : Host.Outcome State Fault Refusal :=
  if bar0Live s fn then .next (writeRcvCtl fn value (hostArrives (fn + 1) s)) else .next (barRefused (fn + 1) s)

/-- PWRCYC_TIMEOUT (17 R489): 10 s after the falling edge, main power has not failed. -/
def execPwrcycTimeout (s : State) : Host.Outcome State Fault Refusal :=
  if s.mode.rcvPending ≠ 2 then .next s
  else
    .next (recordEvent 0xA005 [0, 0, 0, 0] { s with
      mode := { s.mode with rcvPending := 0, pwrcycTimeout := true }
      power := { s.power with pwrcycPulse := false } })

end Sys2Proof.Machine
end

