-- ==== Sys2Proof/Machine/Registers.lean ====
section
/-!
DEFINITION. The registers of BAR0: what a dword reads, writes by type, lock and range, 8-byte registers, and accesses of a wrong size or
alignment (03 R86 to R88; 18 R502 to R517; and the register tables of 06 R197 to R200, 15 R442 to R446, 16 R481, 17 R488).
-/

namespace Sys2Proof.Machine

/-! ## Reads -/

/-- A signed value in `n` bits. -/
def signedBits (n : Nat) (v : Int) : Nat := (v % (2 ^ n : Int)).toNat

/-- Bitmap of the indexes below `n` that satisfy a predicate, with the lowest at bit `at_`. -/
def mapBits (n at_ : Nat) (f : Nat → Bool) : Nat := (List.range n).foldl (fun a i => a + flagAt (f i) (at_ + i)) 0

/-- CAP (02 R55; 04 R101, R112; 03 R86; 06 R197): MQES 65,535, CQR, AMS 01b, TO 10, DSTRD 0, the NVM command set, MPSMIN 0, MPSMAX 4, CMBS. The
places of the fields are NVMe's (PRESUMED, log 57). -/
def capValue : Nat := 65535 + 2 ^ 16 + 2 ^ 17 + 10 * 2 ^ 24 + 2 ^ 37 + 4 * 2 ^ 52 + 2 ^ 57

/-- CC: EN, MPS and AMS, and the other fields as host software wrote them. -/
def ccValue (c : Ctl) : Nat := flagAt c.ccEn 0 + c.mps * 2 ^ 7 + c.ams * 2 ^ 11 + c.ccRest.toNat

/-- The NVMe registers of a function, by dword (03 R86; 06 R197; NVMe's places, log 57): VS is that of NVMe 2.0, the revision that 00 names. CMBLOC and CMBSZ read 0
while CRE is 0 (NVMe, PRESUMED, log 102). -/
def nvmeDword (s : State) (fn off : Nat) : Nat :=
  let c := s.ctl (fn + 1)
  if off = 0x00 then capValue % 2 ^ 32
  else if off = 0x04 then capValue / 2 ^ 32
  else if off = 0x0C ∨ off = 0x10 then (s.fn fn).intms.toNat
  else if off = 0x08 then 0x00020000
  else if off = 0x14 then ccValue c
  else if off = 0x1C then cstsValue c
  else if off = 0x24 then c.aqa.toNat
  else if off = 0x28 then c.asq.toNat % 2 ^ 32
  else if off = 0x2C then c.asq.toNat / 2 ^ 32
  else if off = 0x30 then c.acq.toNat % 2 ^ 32
  else if off = 0x34 then c.acq.toNat / 2 ^ 32
  else if off = 0x38 then (if c.cre then 0xEA else 0)
  else if off = 0x3C then (if c.cre then 0x40021F else 0)
  else if off = 0x50 then flagAt c.cre 0 + flagAt c.cmse 1 + c.cba % 2 ^ 32 / 4096 * 4096
  else if off = 0x54 then c.cba / 2 ^ 32
  else if off = 0x58 then flagAt c.cbai 0
  else 0

/-- DEV_STATUS (18 R511). -/
def devStatus (s : State) : Nat :=
  flagAt s.mode.capCause 0 + flagAt s.mode.heatCause 1 + flagAt s.mode.holdupCause 2 + flagAt s.mode.spareCause 3 +
  mapBits 4 8 s.cache.fenced.contains + flagAt (!s.mode.halfDown.getD 0 false) 12 + flagAt (!s.mode.halfDown.getD 1 false) 13 +
  mapBits 4 16 (fun i => (tblGet s.fabric.links (4 + i) {}).fenced) + mapBits 8 20 (fun i => (s.chan i).failed) +
  flagAt (s.decks.decks.any fun p => decide (p.2.label.deckState ≠ 0)) 28 +
  flagAt (s.decks.decks.any fun p => decide (p.2.label.deckState = 7)) 29

/-- TAKEOVER_STAT (18 R511). -/
def takeoverStat (s : State) : Nat :=
  s.mode.takeovers + s.mode.lastSource * 2 ^ 32 + s.mode.lastLevel * 2 ^ 40 + s.mode.lastUs * 2 ^ 48

/-- THERM_STAT (18 R512). -/
def thermStat (s : State) : Nat :=
  signedBits 16 s.sched.tjMax + flagAt s.mode.heatCause 16 + flagAt s.mode.criticalTemp 17 + flagAt s.sched.startup 18 +
  mapBits 5 19 s.sched.missing.contains + mapBits 5 24 (fun d => decide (1000 < s.sched.temps.getD d 0))

/-- GAUGE_SOC: SOC_USED and SOC_CC of the last evaluation, as log 0xC5 shows them (18 R514). -/
def gaugeSoc (s : State) : Nat :=
  s.gauge.logSocUsed % 65536 + s.gauge.logSocCc % 65536 * 2 ^ 16 + socHundredths s.gauge.socV % 65536 * 2 ^ 32 +
  signedBits 16 s.gauge.tempDc * 2 ^ 48

/-- GAUGE_FCC and PACK_ID (18 R514). -/
def gaugeFcc (s : State) : Nat :=
  s.gauge.fccUah / 1000 % 65536 + (match s.gauge.idCode with | some c => nameCapUah c / 1000 % 65536 | none => 0) * 2 ^ 16
def packId (s : State) : Nat :=
  let c := s.gauge.idCode.getD 0
  let valid := s.gauge.idCode.isSome
  c + flagAt valid 4 + flagAt s.gauge.present 5 + flagAt (valid && isLfp c) 6 + flagAt (valid && decide (cellsOfCode c = 3)) 7 +
  (if pinOpen s.gauge.idOhm then 0xFFFF else min 0xFFFF (s.gauge.idOhm / 10)) * 2 ^ 16

/-- ECCT_CTL (15 R442). -/
def ecctCtl (e : Ecct) : Nat :=
  flagAt e.testEn 0 + e.op * 8 + flagAt e.testMark 6 + e.dev * 2 ^ 7 + e.result * 2 ^ 10 + e.syms * 2 ^ 12 + e.devFound * 2 ^ 17 +
  flagAt e.metaErr 20 + e.metaByte * 2 ^ 21 + e.metaMask.toNat * 2 ^ 24

/-- A dword of a peer window (06 R200). -/
def pwinDword (w : Pwin) (off : Nat) : Nat :=
  let g := w.staged
  if off = 0x00 then flagAt g.en 0 + flagAt g.rd 1 + flagAt g.wr 2 + flagAt w.pending 9 + flagAt w.active.en 16
  else if off = 0x04 then g.rid.toNat + g.mask.toNat * 2 ^ 16
  else if off = 0x08 then g.wbase * 4096
  else if off = 0x0C then g.wsize
  else if off = 0x10 then g.tbase * 4096
  else if off = 0x14 then flagAt w.viol 0 + w.violCnt * 2 ^ 16
  else if off = 0x18 then w.vrid.toNat
  else 0

/-- FINJ_CTL and FINJ_STAT (15 R446). -/
def finjCtl (s : State) : Nat :=
  let f := s.guard.finj
  flagAt f.armed.isSome 0 + flagAt (authorised s 0) 1 + flagAt f.armed.isSome 2 + f.refuse * 2 ^ 8
def finjStat (s : State) : Nat := s.guard.finj.done % 65536 + flagAt s.guard.finj.expired 16 + flagAt s.guard.finj.aborted 17

/-- RCV_STAT (17 R488). -/
def rcvStat (s : State) : Nat :=
  s.mode.rcvPending + flagAt s.mode.pwrcycTimeout 2 + s.mode.rcvLastCause * 2 ^ 8 + s.mode.warmCount * 2 ^ 16

/-- AON_STAT (18 R515). -/
def aonStat (s : State) : Nat :=
  flagAt s.power.auxGood 0 + flagAt s.power.packConnected 1 + flagAt (!s.power.sentinelDown && !s.power.sentinelOff) 2 +
  flagAt s.power.standbyOnPack 3 + flagAt s.power.fromShip 4 + min 255 s.fabric.aonErr * 2 ^ 8 + s.recorder.sentRing.length * 2 ^ 16

/-- A dword of QHALT_MAP (04 R128; 18 R516). -/
def qhaltDword (c : Ctl) (n : Nat) : Nat := mapBits 32 0 fun b => qhaltBit c (32 * n + b + 1)

/-- The whole value of an 8-byte register (18 R504). -/
def wideValue (s : State) (off : Nat) : Nat :=
  if off = 0x8008 then leNat ((List.range 6).map Config.dieStep)
  else if off = 0x8108 then takeoverStat s
  else if off = 0x8210 then leNat (s.feats.floors.map fun f => BitVec.ofNat 8 f)
  else if off = 0x8308 then gaugeSoc s
  else if off = 0x8508 then s.guard.ecct.addr.toNat
  else if off = 0x8A08 then mapBits s.slots 0 (fun x => (s.slot x).power)
  else if off = 0x8A10 then mapBits s.slots 0 (fun x => (s.slot x).present)
  else 0

/-- The 8-byte registers of R504. -/
def wideOffsets : List Nat := [0x8008, 0x8108, 0x8210, 0x8308, 0x8508, 0x8A08, 0x8A10]

/-- The 8-byte register that a dword offset is the high dword of. -/
def highOf (off : Nat) : Option Nat := if 4 ≤ off ∧ wideOffsets.contains (off - 4) = true then some (off - 4) else none

/-- What a dword of BAR0 reads, latches aside (03 R86; 18 R509). -/
def regDword (s : State) (fn off : Nat) : Nat :=
  if off < 0x1000 then nvmeDword s fn off
  else if wideOffsets.contains off then wideValue s off % 2 ^ 32
  else if (highOf off).isSome then wideValue s (off - 4) / 2 ^ 32 % 2 ^ 32
  else if off = 0x8000 then 0x6480 + 2 ^ 16 + s.power.mbrCfg.toNat * 2 ^ 24 + flagAt s.power.hostBif 26
  else if off = 0x8010 then Config.bankCrc.toNat
  else if off = 0x8100 then modeCode s.mode.mode + s.mode.lastTrans * 2 ^ 8 + s.mode.cause * 2 ^ 16
  else if off = 0x8104 then devStatus s
  else if off = 0x8200 then s.feats.capW + s.sched.capMw / 1000 % 256 * 2 ^ 16 + s.sched.capSrc * 2 ^ 24
  else if off = 0x8204 then powerNow s.sched % 2 ^ 24
  else if off = 0x8208 then thermStat s
  else if off = 0x8300 then huStat s
  else if off = 0x8304 then s.gauge.huLimit
  else if off = 0x8310 then gaugeFcc s
  else if off = 0x8314 then flagAt s.gauge.learnEn 0 + s.gauge.cal.idTol * 2 ^ 8 + s.gauge.cal.source * 2 ^ 16
  else if off = 0x8318 then packId s
  else if off = 0x8400 then
    flagAt s.recorder.trigEn 0 + s.recorder.trigSev * 2 + s.recorder.postCount * 2 ^ 4 + s.recorder.trigCode * 2 ^ 16
  else if off = 0x8404 then s.recorder.nextSeq
  else if off = 0x8408 then flagAt s.recorder.frozen 0 + flagAt s.recorder.byTrigger 1 + s.recorder.lost * 2 ^ 16
  else if off = 0x8500 then ecctCtl s.guard.ecct
  else if 0x8540 ≤ off ∧ off < 0x8580 then leNat (sliceBytes s.guard.ecct.data (off - 0x8540) 4)
  else if 0x8580 ≤ off ∧ off < 0x85A4 then leNat (sliceBytes s.guard.ecct.chk (off - 0x8580) 4)
  else if 0x8600 ≤ off ∧ off < 0x8800 then pwinDword (pwin (s.ctl (fn + 1)) ((off - 0x8600) / 32)) (off % 32)
  else if 0x8800 ≤ off ∧ off < 0x8820 then leNat (sliceBytes s.guard.finj.bytes (off - 0x8800) 4)
  else if off = 0x8820 then finjCtl s
  else if off = 0x8824 then finjStat s
  else if off = 0x8904 then rcvStat s
  else if off = 0x8A00 then flagAt s.power.shipArmed 0
  else if off = 0x8A04 then aonStat s
  else if 0x8B00 ≤ off ∧ off < 0x8C00 then qhaltDword (s.ctl (fn + 1)) ((off - 0x8B00) / 4)
  else 0

/-- A 4-byte read (18 R504): a low dword latches its high dword, and the next read of the high dword within 1 ms returns what was latched. -/
def readDword (fn off : Nat) (s : State) : Nat × State :=
  let f := s.fn fn
  if wideOffsets.contains off then
    (regDword s fn off, s.setFn fn { f with latched := tblPut f.latched (off + 4) (BitVec.ofNat 32 (regDword s fn (off + 4)), s.now) })
  else
    match tblFind f.latched off with
    | some (v, t) =>
      (if s.now ≤ t + 1000000 then v.toNat else regDword s fn off, s.setFn fn { f with latched := tblDel f.latched off })
    | none => (regDword s fn off, s)

/-! ## Writes -/

/-- A write out of range is discarded whole (18 R505): event 0x1006. -/
def outOfRange (off value : Nat) (s : State) : State := recordEvent 0x1006 [off, value, 0, 0] s

/-- A write of ECCT_CTL (15 R442, R443): TEST_EN is RWL; the other fields take effect only in test mode; GO starts OP. -/
def writeEcctCtl (v : BitVec 32) (s : State) : State :=
  let e := s.guard.ecct
  let op := v.toNat / 8 % 8
  let dev := v.toNat / 128 % 8
  let en := v.getLsbD 0
  if e.testEn then
    if 3 < op ∨ 5 < dev then outOfRange 0x8500 v.toNat s
    else
      let e := { e with op := op, testMark := v.getLsbD 6, dev := dev, metaByte := v.toNat / 2 ^ 21 % 8, metaMask := (v >>> 24).setWidth 8 }
      let s := { s with guard := { s.guard with ecct := e } }
      if !en && rwlOpen s then dropTestFrames s
      else if v.getLsbD 1 then runTest op s else s
  else if en && rwlOpen s then takeTestFrames { s with guard := { s.guard with ecct := { e with testEn := true } } }
  else s

/-- A byte string with the four bytes at an offset replaced. -/
def putDword (bs : Bytes) (off : Nat) (v : BitVec 32) : Bytes := bs.take off ++ leBytes 4 v.toNat ++ bs.drop (off + 4)

/-- A write of a dword of a peer window (06 R200, R203): the staged fields, refused while PENDING is 1; APPLY; VIOL. -/
def writePwin (ctl win off : Nat) (v : BitVec 32) (s : State) : State :=
  let c := s.ctl ctl
  let w := pwin c win
  let put := fun (w : Pwin) => s.setCtl ctl { c with pwins := tblPut c.pwins win w }
  let n := v.toNat
  if off = 0x14 then (if v.getLsbD 0 then put { w with viol := false, violCnt := 0 } else s)
  else if 0x14 < off then s
  else if w.pending then recordEvent 0x2011 [ctl, win, 2, 0] s
  else if off = 0x00 then
    let s := put { w with staged := { w.staged with en := v.getLsbD 0, rd := v.getLsbD 1, wr := v.getLsbD 2 } }
    if v.getLsbD 8 then applyWin ctl win s else s
  else if off = 0x04 then put { w with staged := { w.staged with rid := v.setWidth 16, mask := (v >>> 16).setWidth 16 } }
  else if off = 0x08 then put { w with staged := { w.staged with wbase := n / 4096 % 2 ^ 18 } }
  else if off = 0x0C then
    if 262144 < n % 2 ^ 19 then outOfRange (0x8600 + 32 * win + off) n s else put { w with staged := { w.staged with wsize := n % 2 ^ 19 } }
  else put { w with staged := { w.staged with tbase := n / 4096 % 2 ^ 18 } }

/-- A write of a FINJ register while the owner authorisation is in force (15 R446). -/
def writeFinj (off : Nat) (v : BitVec 32) (s : State) : State :=
  let f := s.guard.finj
  let put := fun (f : Finj) => { s with guard := { s.guard with finj := f } }
  if !authorised s 0 then s
  else if off < 0x8820 then (if f.armed.isSome then s else put { f with bytes := putDword f.bytes (off - 0x8800) v })
  else if off = 0x8820 then (if v.getLsbD 0 then armFinj (descOf f.bytes) s else disarmFinj 8 s)
  else if off = 0x8824 then put { f with expired := f.expired && !v.getLsbD 16, aborted := f.aborted && !v.getLsbD 17 }
  else s

/-- A write of EVR_CTL, whose fields are RWL (16 R481). -/
def writeEvrCtl (v : BitVec 32) (s : State) : State :=
  if rwlOpen s then
    { s with recorder := { s.recorder with
        trigEn := v.getLsbD 0, trigSev := v.toNat / 2 % 8, postCount := v.toNat / 16 % 4096, trigCode := v.toNat / 65536 } }
  else s

/-- A write of CC (02 R55, R64; 04 R136): EN 0 to 1 with the AQA held, EN 1 to 0, and a shutdown notification while EN is 1. -/
def writeCc (ctl : Nat) (v : BitVec 32) (s : State) : State :=
  let s := s.setCtl ctl { s.ctl ctl with ccRest := v &&& 0x00FFC070#32 }
  let c := s.ctl ctl
  let n := v.toNat
  if !v.getLsbD 0 then disableCtl ctl s
  else if !c.ccEn then enableCtl ctl (n / 2 ^ 7 % 16) (n / 2 ^ 11 % 8) (c.aqa.toNat % 4096) (c.aqa.toNat / 2 ^ 16 % 4096) s
  else if n / 2 ^ 14 % 4 = 1 then shutNormal ctl s
  else if n / 2 ^ 14 % 4 = 2 then shutAbrupt ctl s
  else s

/-- A write of a dword of an 8-byte NVMe address register: its high or low half is replaced. -/
def putHalf (high : Bool) (v : BitVec 32) (w : BitVec 64) : BitVec 64 :=
  if high then (w.setWidth 32).setWidth 64 ||| (v.setWidth 64 <<< 32) else ((w >>> 32) <<< 32) ||| v.setWidth 64

/-- A write of AQA, ASQ or ACQ, which a controller takes while CC.EN is 0 (NVMe, PRESUMED, log 65). -/
def writeAdminRegs (ctl off : Nat) (v : BitVec 32) (s : State) : State :=
  let c := s.ctl ctl
  if c.ccEn then s
  else if off = 0x24 then s.setCtl ctl { c with aqa := v &&& 0x0FFF0FFF#32 }
  else if off = 0x28 ∨ off = 0x2C then s.setCtl ctl { c with asq := putHalf (decide (off = 0x2C)) v c.asq &&& 0xFFFFFFFFFFFFF000#64 }
  else s.setCtl ctl { c with acq := putHalf (decide (off = 0x34)) v c.acq &&& 0xFFFFFFFFFFFFF000#64 }

/-- A write of a dword of CMBMSC (06 R198): each half is taken with the present other one. -/
def writeCmbmsc (ctl : Nat) (high : Bool) (v : BitVec 32) (s : State) : State :=
  let c := s.ctl ctl
  if high then cmbmscWrite ctl c.cre c.cmse (c.cba % 2 ^ 32 + v.toNat * 2 ^ 32) s
  else cmbmscWrite ctl (v.getLsbD 0) (v.getLsbD 1) (v.toNat / 4096 * 4096 + c.cba / 2 ^ 32 * 2 ^ 32) s

/-- A 4-byte write of a 4-byte register by function and offset (18 R502 to R505, R509). RO fields, RsvdZ bits and offsets that no table names
ignore it. -/
def writeReg (fn off : Nat) (v : BitVec 32) (s : State) : State :=
  let f := s.fn fn
  if off = 0x0C then settleInta (fn + 1) (s.setFn fn { f with intms := f.intms ||| v })
  else if off = 0x10 then settleInta (fn + 1) (s.setFn fn { f with intms := f.intms &&& ~~~ v })
  else if off = 0x14 then writeCc (fn + 1) v s
  else if 0x24 ≤ off ∧ off < 0x38 then writeAdminRegs (fn + 1) off v s
  else if off = 0x50 ∨ off = 0x54 then writeCmbmsc (fn + 1) (decide (off = 0x54)) v s
  else if 0x1000 ≤ off ∧ off < 0x5008 then
    (if off % 8 = 0 then tailDoorbell (fn + 1) ((off - 0x1000) / 8) (v.toNat % 65536) s
    else headDoorbell (fn + 1) ((off - 0x1000) / 8) (v.toNat % 65536) s)
  else if off = 0x8200 then
    if capOk (v.toNat % 256) then setCap (v.toNat % 256) s else outOfRange off v.toNat s
  else if off = 0x8314 then (if rwlOpen s then { s with gauge := { s.gauge with learnEn := v.getLsbD 0 } } else s)
  else if off = 0x8400 then writeEvrCtl v s
  else if off = 0x8408 then writeFrozen (v.getLsbD 0) s
  else if off = 0x8500 then writeEcctCtl v s
  else if 0x8540 ≤ off ∧ off < 0x8580 then
    (if s.guard.ecct.testEn then
      { s with guard := { s.guard with ecct := { s.guard.ecct with data := putDword s.guard.ecct.data (off - 0x8540) v } } } else s)
  else if 0x8580 ≤ off ∧ off < 0x85A4 then
    (if s.guard.ecct.testEn then
      { s with guard := { s.guard with ecct := { s.guard.ecct with chk := putDword s.guard.ecct.chk (off - 0x8580) v } } } else s)
  else if 0x8600 ≤ off ∧ off < 0x8800 then writePwin (fn + 1) ((off - 0x8600) / 32) (off % 32) v s
  else if 0x8800 ≤ off ∧ off < 0x8828 then writeFinj off v s
  else if off = 0x8900 then writeRcvCtl fn v s
  else if off = 0x8904 then { s with mode := { s.mode with pwrcycTimeout := s.mode.pwrcycTimeout && !v.getLsbD 2 } }
  else s

/-- The floors that a CLASS_FLOOR value holds. -/
def floorsOf (v : Nat) : List Nat := (List.range 6).map fun i => v / 256 ^ i % 256

/-- The fields of an 8-byte register's dword lie in their ranges: floors up to 100, DIE up to 5, MACRO below 1,024 (18 R512; 15 R439, R442). -/
def halfOk (reg : Nat) (high : Bool) (v : Nat) : Bool :=
  if reg = 0x8210 then (List.range (if high then 2 else 4)).all fun i => decide (v / 256 ^ i % 256 ≤ 100)
  else if reg = 0x8508 ∧ high = true then decide (v / 2 ^ 28 % 8 ≤ 5) && decide (v / 2 ^ 16 % 4096 < 1024)
  else true

/-- Both dwords of an 8-byte register take effect together (18 R504, R513; 15 R442). The other registers of R504 are RO. -/
def commitWide (reg low high : Nat) (s : State) : State :=
  if reg = 0x8210 then setFloors (floorsOf (low + high * 2 ^ 32)) s
  else if reg = 0x8508 ∧ s.guard.ecct.testEn = true then
    let addr := (BitVec.ofNat 64 (low + high * 2 ^ 32)) &&& 0xFFFF00000000073F#64
    { s with guard := { s.guard with ecct := { s.guard.ecct with addr := addr } } }
  else s

/-- A 4-byte write (18 R504): a low dword is staged; the high dword takes effect with it, or with the present low dword when none is staged. -/
def writeDword (fn off : Nat) (v : BitVec 32) (s : State) : State :=
  let f := s.fn fn
  if wideOffsets.contains off then
    if halfOk off false v.toNat then s.setFn fn { f with staged := tblPut f.staged off v } else outOfRange off v.toNat s
  else
    match highOf off with
    | some reg =>
      let low := ((tblFind f.staged reg).map (·.toNat)).getD (wideValue s reg % 2 ^ 32)
      let s := s.setFn fn { f with staged := tblDel f.staged reg }
      if halfOk reg true v.toNat then commitWide reg low v.toNat s else outOfRange off v.toNat s
    | none => writeReg fn off v s

/-- An 8-byte write: of an 8-byte register as one value, of two 4-byte registers low address first (03 R88; 18 R504). -/
def writeQuad (fn off : Nat) (v : BitVec 64) (s : State) : State :=
  let low : BitVec 32 := v.setWidth 32
  let high : BitVec 32 := (v >>> 32).setWidth 32
  if wideOffsets.contains off then
    if halfOk off false low.toNat && halfOk off true high.toNat then
      let f := s.fn fn
      commitWide off low.toNat high.toNat (s.setFn fn { f with staged := tblDel f.staged off })
    else outOfRange off low.toNat s
  else writeDword fn (off + 4) high (writeDword fn off low s)

/-- A write of BAR0 (03 R88): of 4 or 8 bytes at its natural alignment; any other one is discarded with event 0x1003. -/
def bar0Write (fn offset size : Nat) (value : BitVec 64) (s : State) : State :=
  if size = 4 ∧ offset % 4 = 0 then writeDword fn offset (value.setWidth 32) s
  else if size = 8 ∧ offset % 8 = 0 then writeQuad fn offset value s
  else recordEvent 0x1003 [offset, size, 1, 0] s

/-- A write of BAR4, by dwords at their natural alignment; another one changes nothing (PCI Express leaves it open; DESIGN CHOICE, log 128). -/
def bar4Store (fn offset size : Nat) (value : BitVec 64) (s : State) : State :=
  if size = 4 ∧ offset % 4 = 0 then bar4Write fn offset (value.setWidth 32) s
  else if size = 8 ∧ offset % 8 = 0 then bar4Write fn (offset + 4) ((value >>> 32).setWidth 32) (bar4Write fn offset (value.setWidth 32) s)
  else s

/-- REGISTER_WRITE (18 R502 to R505, R509, R517; 03 R85, R86, R88): a write of BAR0 or BAR4. -/
def execRegisterWrite (fn : Nat) (place : BarPlace) (size : Nat) (value : BitVec 64) (s : State) : Host.Outcome State Fault Refusal :=
  if !bar0Live s fn then .next (barRefused (fn + 1) s)
  else
    let s := hostArrives (fn + 1) s
    .next (if place.bar = 4 then bar4Store fn place.offset size value s else bar0Write fn place.offset size value s)

/-- STAGED_DWORD_DISCARD (18 R504): no high dword has come within 1 ms. -/
def execStagedDwordDiscard (fn offset : Nat) (s : State) : Host.Outcome State Fault Refusal :=
  let f := s.fn fn
  .next (if tblHas f.staged offset then s.setFn fn { f with staged := tblDel f.staged offset } else s)

/-- A read of BAR0 (03 R88): its value, and the state after it. An aligned 8-byte read takes two dwords, the low one first. -/
def bar0Read (fn offset size : Nat) (s : State) : Bytes × State :=
  let low := readDword fn (offset / 4 * 4) s
  if size = 8 ∧ offset % 8 = 0 then
    let high := readDword fn (offset + 4) low.2
    (leBytes 4 low.1 ++ leBytes 4 high.1, high.2)
  else (leBytes 4 low.1, low.2)

/-- An access of 4 or 8 bytes at its natural alignment (03 R88). -/
def alignedAccess (offset size : Nat) : Bool := (decide (size = 4) && decide (offset % 4 = 0)) || (decide (size = 8) && decide (offset % 8 = 0))

/-- BAR0_MISALIGNED_ACCESS (03 R88): a read completes with the bytes of the containing aligned word, read as such; a write is discarded. Event
0x1003 (of reads too, DEDUCED, log 58). A read at its natural alignment completes with its value, without the event. -/
def execBar0MisalignedAccess (fn : Nat) (write : Bool) (offset size : Nat) (s : State) : Host.Outcome State Fault Refusal :=
  if !bar0Live s fn then .next (barRefused (fn + 1) s)
  else if alignedAccess offset size && write then .next s
  else
    let s := hostArrives (fn + 1) s
    let s := if alignedAccess offset size then s else recordEvent 0x1003 [offset, size, if write then 1 else 0, 0] s
    if write then .next s
    else
      let r := bar0Read fn offset size s
      .next (sendTlp fn (.cpl fn .success r.1) (tickFree r.2))

end Sys2Proof.Machine
end

