-- ==== Sys2Proof/Machine/Dispatch.lean ====
section
/-!
DEFINITION. The effect of a command on everything but the queue: one arm for each constructor of `Instr`, each a direct call of that
command's meaning.
-/

namespace Sys2Proof.Machine

/-- The effect of a command. -/
def exec (i : Instr) (s : State) : Host.Outcome State Fault Refusal :=
  match i with
  | .auxRailRise => Sys2Proof.Machine.execAuxRailRise s
  | .auxRailLoss => Sys2Proof.Machine.execAuxRailLoss s
  | .mainPowerGoodHeld => Sys2Proof.Machine.execMainPowerGoodHeld s
  | .railPgRise group => Sys2Proof.Machine.execRailPgRise group s
  | .staggerGroupEnable group => Sys2Proof.Machine.execStaggerGroupEnable group s
  | .memberPerstDeassert slot => Sys2Proof.Machine.execMemberPerstDeassert slot s
  | .memoryTrainingComplete ch ok halfDensity => Sys2Proof.Machine.execMemoryTrainingComplete ch ok halfDensity s
  | .configResponseStart port => Sys2Proof.Machine.execConfigResponseStart port s
  | .rrsEnd port => Sys2Proof.Machine.execRrsEnd port s
  | .bootMemberWindowClose => Sys2Proof.Machine.execBootMemberWindowClose s
  | .bootComplete selfTestOk fuseOk certOk checks => Sys2Proof.Machine.execBootComplete selfTestOk fuseOk certOk checks s
  | .restoreComplete imageOk imagePages reads => Sys2Proof.Machine.execRestoreComplete imageOk imagePages reads s
  | .intentReplay deck wseq reads => Sys2Proof.Machine.execIntentReplay deck wseq reads s
  | .mainPgFall => Sys2Proof.Machine.execMainPgFall s
  | .mainSenseLow => Sys2Proof.Machine.execMainSenseLow s
  | .railPgFall group => Sys2Proof.Machine.execRailPgFall group s
  | .railPgTimeout group => Sys2Proof.Machine.execRailPgTimeout group s
  | .holdupFlushEnd ms mj minMv => Sys2Proof.Machine.execHoldupFlushEnd ms mj minMv s
  | .flushAbortCutoff pages ms mj mv => Sys2Proof.Machine.execFlushAbortCutoff pages ms mj mv s
  | .nandProgramFail fail => Sys2Proof.Machine.execNandProgramFail fail s
  | .perstAssert port => Sys2Proof.Machine.execPerstAssert port s
  | .perstDeassert port => Sys2Proof.Machine.execPerstDeassert port s
  | .hotReset port => Sys2Proof.Machine.execHotReset port s
  | .hostLinkDown loss => Sys2Proof.Machine.execHostLinkDown loss s
  | .hostSerdesLaneFail lane => Sys2Proof.Machine.execHostSerdesLaneFail lane s
  | .flr fn => Sys2Proof.Machine.execFlr fn s
  | .d3hotEntry fn => Sys2Proof.Machine.execD3hotEntry fn s
  | .d0Return fn => Sys2Proof.Machine.execD0Return fn s
  | .l0pEntry port => Sys2Proof.Machine.execL0pEntry port s
  | .l0pExit port => Sys2Proof.Machine.execL0pExit port s
  | .l1Entry port sub => Sys2Proof.Machine.execL1Entry port sub s
  | .l1Exit port => Sys2Proof.Machine.execL1Exit port s
  | .configRequest fn write offset value softVis => Sys2Proof.Machine.execConfigRequest fn write offset value softVis s
  | .bar0MisalignedAccess fn write offset size => Sys2Proof.Machine.execBar0MisalignedAccess fn write offset size s
  | .poisonedBarWrite fn bar offset rid => Sys2Proof.Machine.execPoisonedBarWrite fn bar offset rid s
  | .unsupportedAddressRequest fn addr => Sys2Proof.Machine.execUnsupportedAddressRequest fn addr s
  | .hostDataReadError ref => Sys2Proof.Machine.execHostDataReadError ref s
  | .sqEntryReadError ctl sqid second => Sys2Proof.Machine.execSqEntryReadError ctl sqid second s
  | .msixUnmask ctl vec => Sys2Proof.Machine.execMsixUnmask ctl vec s
  | .doeDiscovery fn index => Sys2Proof.Machine.execDoeDiscovery fn index s
  | .doeAbort fn => Sys2Proof.Machine.execDoeAbort fn s
  | .doeUnsupportedProtocol fn => Sys2Proof.Machine.execDoeUnsupportedProtocol fn s
  | .spdmGetVersion fn => Sys2Proof.Machine.execSpdmGetVersion fn s
  | .spdmGetCapabilities fn => Sys2Proof.Machine.execSpdmGetCapabilities fn s
  | .spdmNegotiateAlgorithms fn offered => Sys2Proof.Machine.execSpdmNegotiateAlgorithms fn offered s
  | .spdmGetDigests fn => Sys2Proof.Machine.execSpdmGetDigests fn s
  | .spdmGetCertificate fn args => Sys2Proof.Machine.execSpdmGetCertificate fn args s
  | .spdmChallenge fn args => Sys2Proof.Machine.execSpdmChallenge fn args s
  | .spdmGetMeasurements fn args => Sys2Proof.Machine.execSpdmGetMeasurements fn args s
  | .sqTailDoorbell ctl sqid value => Sys2Proof.Machine.execSqTailDoorbell ctl sqid value s
  | .cqHeadDoorbell ctl cqid value => Sys2Proof.Machine.execCqHeadDoorbell ctl cqid value s
  | .commandFetch ctl sqid entries => Sys2Proof.Machine.execCommandFetch ctl sqid entries s
  | .completionPost ctl sqid => Sys2Proof.Machine.execCompletionPost ctl sqid s
  | .ccEnable ctl mps ams asqs acqs => Sys2Proof.Machine.execCcEnable ctl mps ams asqs acqs s
  | .ccDisable ctl => Sys2Proof.Machine.execCcDisable ctl s
  | .shutdownNormal ctl => Sys2Proof.Machine.execShutdownNormal ctl s
  | .shutdownAbrupt ctl => Sys2Proof.Machine.execShutdownAbrupt ctl s
  | .shutdownComplete ctl => Sys2Proof.Machine.execShutdownComplete ctl s
  | .cmbmscWrite ctl cre cmse cba => Sys2Proof.Machine.execCmbmscWrite ctl cre cmse cba s
  | .ioFlush ref nsid => Sys2Proof.Machine.execIoFlush ref nsid s
  | .ioWrite args data metaData => Sys2Proof.Machine.execIoWrite args data metaData s
  | .ioRead args => Sys2Proof.Machine.execIoRead args s
  | .ioCompare args data metaData => Sys2Proof.Machine.execIoCompare args data metaData s
  | .ioWriteZeroes args => Sys2Proof.Machine.execIoWriteZeroes args s
  | .ioDatasetManagement ref nsid deallocate ranges => Sys2Proof.Machine.execIoDatasetManagement ref nsid deallocate ranges s
  | .ioVerify args => Sys2Proof.Machine.execIoVerify args s
  | .writeAdmit ref => Sys2Proof.Machine.execWriteAdmit ref s
  | .directorySwitch ref => Sys2Proof.Machine.execDirectorySwitch ref s
  | .mergeSuperseded ns vpage => Sys2Proof.Machine.execMergeSuperseded ns vpage s
  | .epochClose region => Sys2Proof.Machine.execEpochClose region s
  | .fillComplete ns vpage own others => Sys2Proof.Machine.execFillComplete ns vpage own others s
  | .dataRecordSend ref => Sys2Proof.Machine.execDataRecordSend ref s
  | .dataRecordDurable ref => Sys2Proof.Machine.execDataRecordDurable ref s
  | .cachePolicyToWriteBack => Sys2Proof.Machine.execCachePolicyToWriteBack s
  | .handUpdateStart deck hand reads => Sys2Proof.Machine.execHandUpdateStart deck hand reads s
  | .intentBatchClose deck => Sys2Proof.Machine.execIntentBatchClose deck s
  | .trimBatchClose deck entries => Sys2Proof.Machine.execTrimBatchClose deck entries s
  | .intentDurable deck wseq reads => Sys2Proof.Machine.execIntentDurable deck wseq reads s
  | .handUpdateWritesComplete deck wseq => Sys2Proof.Machine.execHandUpdateWritesComplete deck wseq s
  | .handUpdateDurable deck wseq => Sys2Proof.Machine.execHandUpdateDurable deck wseq s
  | .memberFlushDeadline slot => Sys2Proof.Machine.execMemberFlushDeadline slot s
  | .keeperHeaderWrite deck => Sys2Proof.Machine.execKeeperHeaderWrite deck s
  | .replicaComplete deck member => Sys2Proof.Machine.execReplicaComplete deck member s
  | .resyncHand deck hand reads => Sys2Proof.Machine.execResyncHand deck hand reads s
  | .readErrorRepair deck hand row chunk own others => Sys2Proof.Machine.execReadErrorRepair deck hand row chunk own others s
  | .rowOverflowConsistency deck hand row lost others => Sys2Proof.Machine.execRowOverflowConsistency deck hand row lost others s
  | .failureScan deck => Sys2Proof.Machine.execFailureScan deck s
  | .rebuildHand deck hand reads => Sys2Proof.Machine.execRebuildHand deck hand reads s
  | .rebuildSegmentEnd deck => Sys2Proof.Machine.execRebuildSegmentEnd deck s
  | .rebuildProgressWrite deck => Sys2Proof.Machine.execRebuildProgressWrite deck s
  | .copybackRound deck reads => Sys2Proof.Machine.execCopybackRound deck reads s
  | .copybackProgressWrite deck => Sys2Proof.Machine.execCopybackProgressWrite deck s
  | .patrolPassStart pass => Sys2Proof.Machine.execPatrolPassStart pass s
  | .patrolRow deck hand row reads => Sys2Proof.Machine.execPatrolRow deck hand row reads s
  | .patrolRepair deck hand row reads => Sys2Proof.Machine.execPatrolRepair deck hand row reads s
  | .patrolProgressWrite deck => Sys2Proof.Machine.execPatrolProgressWrite deck s
  | .patrolPageWrite => Sys2Proof.Machine.execPatrolPageWrite s
  | .redealCopyHand deck nsid vhand reads => Sys2Proof.Machine.execRedealCopyHand deck nsid vhand reads s
  | .redealProgressWrite deck => Sys2Proof.Machine.execRedealProgressWrite deck s
  | .generationSwitch deck => Sys2Proof.Machine.execGenerationSwitch deck s
  | .oldRoundsRelease deck => Sys2Proof.Machine.execOldRoundsRelease deck s
  | .parityOperand way block tag data check setup => Sys2Proof.Machine.execParityOperand way block tag data check setup s
  | .glildoFlitError link sub => Sys2Proof.Machine.execGlildoFlitError link sub s
  | .glildoLinkStall link => Sys2Proof.Machine.execGlildoLinkStall link s
  | .regionFault region reason => Sys2Proof.Machine.execRegionFault region reason s
  | .remirrorComplete region => Sys2Proof.Machine.execRemirrorComplete region s
  | .hubHalfFault half => Sys2Proof.Machine.execHubHalfFault half s
  | .lockstepMismatch die half => Sys2Proof.Machine.execLockstepMismatch die half s
  | .mod15Mismatch source => Sys2Proof.Machine.execMod15Mismatch source s
  | .cryptoResidueMismatch half second => Sys2Proof.Machine.execCryptoResidueMismatch half second s
  | .dramScrub region frame word errs again partnerBad => Sys2Proof.Machine.execDramScrub region frame word errs again partnerBad s
  | .sramScrub target finding => Sys2Proof.Machine.execSramScrub target finding s
  | .sramRowRepair die macroNo row => Sys2Proof.Machine.execSramRowRepair die macroNo row s
  | .schedulerWindow meas => Sys2Proof.Machine.execSchedulerWindow meas s
  | .pmbusPowerRead mw => Sys2Proof.Machine.execPmbusPowerRead mw s
  | .startupCapEnd => Sys2Proof.Machine.execStartupCapEnd s
  | .dieTempMissing die => Sys2Proof.Machine.execDieTempMissing die s
  | .thermtripAssert die temp => Sys2Proof.Machine.execThermtripAssert die temp s
  | .thermtripRelease die temp => Sys2Proof.Machine.execThermtripRelease die temp s
  | .crystalStop => Sys2Proof.Machine.execCrystalStop s
  | .memSelfRefreshEntry ch => Sys2Proof.Machine.execMemSelfRefreshEntry ch s
  | .memberPortL12Entry slot port => Sys2Proof.Machine.execMemberPortL12Entry slot port s
  | .parityBlockGate region block => Sys2Proof.Machine.execParityBlockGate region block s
  | .apstTransition ctl => Sys2Proof.Machine.execApstTransition ctl s
  | .memberPortBringup slot port speed width info => Sys2Proof.Machine.execMemberPortBringup slot port speed width info s
  | .memberPortReadyTimeout slot port => Sys2Proof.Machine.execMemberPortReadyTimeout slot port s
  | .memberCompletion cpl => Sys2Proof.Machine.execMemberCompletion cpl s
  | .memberCommandTimeout slot port tag => Sys2Proof.Machine.execMemberCommandTimeout slot port tag s
  | .memberAdminTimeout slot port => Sys2Proof.Machine.execMemberAdminTimeout slot port s
  | .lateCompletion slot port tag => Sys2Proof.Machine.execLateCompletion slot port tag s
  | .tagQuarantineEnd slot port tag => Sys2Proof.Machine.execTagQuarantineEnd slot port tag s
  | .memberInboundTlp tlp => Sys2Proof.Machine.execMemberInboundTlp tlp s
  | .dpcTrigger slot port cause => Sys2Proof.Machine.execDpcTrigger slot port cause s
  | .containmentRelease slot port => Sys2Proof.Machine.execContainmentRelease slot port s
  | .prsntRemoval slot => Sys2Proof.Machine.execPrsntRemoval slot s
  | .prsntInsertion slot => Sys2Proof.Machine.execPrsntInsertion slot s
  | .slotPowerOn => Sys2Proof.Machine.execSlotPowerOn s
  | .failedPendingTimeout slot final => Sys2Proof.Machine.execFailedPendingTimeout slot final s
  | .memberControllerReset slot port ok => Sys2Proof.Machine.execMemberControllerReset slot port ok s
  | .secondaryBusReset slot port ok => Sys2Proof.Machine.execSecondaryBusReset slot port ok s
  | .slotPowerCycle slot ok => Sys2Proof.Machine.execSlotPowerCycle slot ok s
  | .failedPortRetry slot port => Sys2Proof.Machine.execFailedPortRetry slot port s
  | .healthRecoveryTick slot => Sys2Proof.Machine.execHealthRecoveryTick slot s
  | .memberAsyncEvent slot critWarn fwChange temp => Sys2Proof.Machine.execMemberAsyncEvent slot critWarn fwChange temp s
  | .membersEntryAppend => Sys2Proof.Machine.execMembersEntryAppend s
  | .gaugePinSample thermOhm idOhm => Sys2Proof.Machine.execGaugePinSample thermOhm idOhm s
  | .gaugeCurrentSample currentUa => Sys2Proof.Machine.execGaugeCurrentSample currentUa s
  | .gaugeEvaluation read => Sys2Proof.Machine.execGaugeEvaluation read s
  | .packRestReanchor => Sys2Proof.Machine.execPackRestReanchor s
  | .packTempWindowReturn => Sys2Proof.Machine.execPackTempWindowReturn s
  | .pathTestStart => Sys2Proof.Machine.execPathTestStart s
  | .pathTestEnd peakMa railsOk dvMv diMa => Sys2Proof.Machine.execPathTestEnd peakMa railsOk dvMv diMa s
  | .learningStart => Sys2Proof.Machine.execLearningStart s
  | .learningDischargeStop => Sys2Proof.Machine.execLearningDischargeStop s
  | .learningEnd => Sys2Proof.Machine.execLearningEnd s
  | .chargeTermination => Sys2Proof.Machine.execChargeTermination s
  | .learnedSlotWrite ok => Sys2Proof.Machine.execLearnedSlotWrite ok s
  | .vaultAreaErase area => Sys2Proof.Machine.execVaultAreaErase area s
  | .heartwoodAppendRetry ok => Sys2Proof.Machine.execHeartwoodAppendRetry ok s
  | .spillBatch => Sys2Proof.Machine.execSpillBatch s
  | .stagedDwordDiscard fn offset => Sys2Proof.Machine.execStagedDwordDiscard fn offset s
  | .firmwareDownloadClaimEnd => Sys2Proof.Machine.execFirmwareDownloadClaimEnd s
  | .ownerAuthExpiry => Sys2Proof.Machine.execOwnerAuthExpiry s
  | .finjExpiry => Sys2Proof.Machine.execFinjExpiry s
  | .pwrcycTimeout => Sys2Proof.Machine.execPwrcycTimeout s
  | .selfReset => Sys2Proof.Machine.execSelfReset s
  | .formatSanitizeProgress done => Sys2Proof.Machine.execFormatSanitizeProgress done s
  | .formatComplete nsid => Sys2Proof.Machine.execFormatComplete nsid s
  | .sanitizeComplete ok => Sys2Proof.Machine.execSanitizeComplete ok s
  | .namespaceDeleteCommit nsid => Sys2Proof.Machine.execNamespaceDeleteCommit nsid s
  | .firmwareActivationComplete => Sys2Proof.Machine.execFirmwareActivationComplete s
  | .pwinApply ctl win => Sys2Proof.Machine.execPwinApply ctl win s
  | .pwinActivate ctl win => Sys2Proof.Machine.execPwinActivate ctl win s
  | .bar2Write tlp => Sys2Proof.Machine.execBar2Write tlp s
  | .bar2Read tlp => Sys2Proof.Machine.execBar2Read tlp s
  | .ecctTestEnSet en => Sys2Proof.Machine.execEcctTestEnSet en s
  | .ecctWrite => Sys2Proof.Machine.execEcctWrite s
  | .ecctFlip => Sys2Proof.Machine.execEcctFlip s
  | .ecctRead => Sys2Proof.Machine.execEcctRead s
  | .ecctRawRead => Sys2Proof.Machine.execEcctRawRead s
  | .finjArm byCmd => Sys2Proof.Machine.execFinjArm byCmd s
  | .finjDisarm byCmd => Sys2Proof.Machine.execFinjDisarm byCmd s
  | .evrFreezeWrite frozen => Sys2Proof.Machine.execEvrFreezeWrite frozen s
  | .rcvCtlDevReset fn value => Sys2Proof.Machine.execRcvCtlDevReset fn value s
  | .rcvCtlPwrcyc fn value => Sys2Proof.Machine.execRcvCtlPwrcyc fn value s
  | .registerWrite fn place size value => Sys2Proof.Machine.execRegisterWrite fn place size value s
  | .miReadDataStructure args => Sys2Proof.Machine.execMiReadDataStructure args s
  | .miSubsystemHealthPoll args => Sys2Proof.Machine.execMiSubsystemHealthPoll args s
  | .miControllerHealthPoll args => Sys2Proof.Machine.execMiControllerHealthPoll args s
  | .miConfigurationGet args => Sys2Proof.Machine.execMiConfigurationGet args s
  | .miConfigurationSet args value => Sys2Proof.Machine.execMiConfigurationSet args value s
  | .miAdminTunnel args ctl opcode nsid cdw10 cdw11 => Sys2Proof.Machine.execMiAdminTunnel args ctl opcode nsid cdw10 cdw11 s
  | .deleteIoSq ref qid => Sys2Proof.Machine.execDeleteIoSq ref qid s
  | .createIoSq ref qid qsize cqid prio pc => Sys2Proof.Machine.execCreateIoSq ref qid qsize cqid prio pc s
  | .deleteIoCq ref qid => Sys2Proof.Machine.execDeleteIoCq ref qid s
  | .createIoCq ref qid qsize pc ien iv => Sys2Proof.Machine.execCreateIoCq ref qid qsize pc ien iv s
  | .getLogPage ref lid lsp nsid offset len => Sys2Proof.Machine.execGetLogPage ref lid lsp nsid offset len s
  | .identify ref cns nsid cntid => Sys2Proof.Machine.execIdentify ref cns nsid cntid s
  | .abort ref sqid cid => Sys2Proof.Machine.execAbort ref sqid cid s
  | .setFeatures ref args => Sys2Proof.Machine.execSetFeatures ref args s
  | .getFeatures ref fid sel cdw11 => Sys2Proof.Machine.execGetFeatures ref fid sel cdw11 s
  | .asynchronousEventRequest ref => Sys2Proof.Machine.execAsynchronousEventRequest ref s
  | .namespaceManagementCreate ref args => Sys2Proof.Machine.execNamespaceManagementCreate ref args s
  | .namespaceManagementDelete ref nsid => Sys2Proof.Machine.execNamespaceManagementDelete ref nsid s
  | .firmwareImageDownload ref offset len image => Sys2Proof.Machine.execFirmwareImageDownload ref offset len image s
  | .firmwareCommit ref fs ca => Sys2Proof.Machine.execFirmwareCommit ref fs ca s
  | .firmwareCommitActivate ref fs => Sys2Proof.Machine.execFirmwareCommitActivate ref fs s
  | .namespaceAttachment ref nsid sel ctls => Sys2Proof.Machine.execNamespaceAttachment ref nsid sel ctls s
  | .nvmeMiSend ref request args body => Sys2Proof.Machine.execNvmeMiSend ref request args body s
  | .nvmeMiReceive ref => Sys2Proof.Machine.execNvmeMiReceive ref s
  | .formatNvm ref nsid lbaf dps ses => Sys2Proof.Machine.execFormatNvm ref nsid lbaf dps ses s
  | .sanitize ref sanact owpass oipbp pattern => Sys2Proof.Machine.execSanitize ref sanact owpass oipbp pattern s
  | .deckCreate ref args memberFails => Sys2Proof.Machine.execDeckCreate ref args memberFails s
  | .deckImport ref deckId slots rest => Sys2Proof.Machine.execDeckImport ref deckId slots rest s
  | .deckDestroy ref deckId => Sys2Proof.Machine.execDeckDestroy ref deckId s
  | .deckRedeal ref args => Sys2Proof.Machine.execDeckRedeal ref args s
  | .deckRedealCancel ref deckId rest => Sys2Proof.Machine.execDeckRedealCancel ref deckId rest s
  | .memberControlOnline ref slot cdw11 => Sys2Proof.Machine.execMemberControlOnline ref slot cdw11 s
  | .memberControlOffline ref slot cdw11 => Sys2Proof.Machine.execMemberControlOffline ref slot cdw11 s
  | .memberControlFail ref slot cdw11 => Sys2Proof.Machine.execMemberControlFail ref slot cdw11 s
  | .memberControlErase ref slot cdw11 => Sys2Proof.Machine.execMemberControlErase ref slot cdw11 s
  | .memberControlPortReset ref slot cdw11 => Sys2Proof.Machine.execMemberControlPortReset ref slot cdw11 s
  | .memberControlClear ref slot cdw11 => Sys2Proof.Machine.execMemberControlClear ref slot cdw11 s
  | .memberControlMemClear ref slot cdw11 => Sys2Proof.Machine.execMemberControlMemClear ref slot cdw11 s
  | .rebuildControlResume ref deckId => Sys2Proof.Machine.execRebuildControlResume ref deckId s
  | .rebuildControlHold ref deckId => Sys2Proof.Machine.execRebuildControlHold ref deckId s
  | .rebuildControlReplace ref deckId slot => Sys2Proof.Machine.execRebuildControlReplace ref deckId slot s
  | .rebuildControlStatus ref deckId => Sys2Proof.Machine.execRebuildControlStatus ref deckId s
  | .patrolControlResume ref deckId => Sys2Proof.Machine.execPatrolControlResume ref deckId s
  | .patrolControlPause ref deckId => Sys2Proof.Machine.execPatrolControlPause ref deckId s
  | .patrolControlRestart ref deckId => Sys2Proof.Machine.execPatrolControlRestart ref deckId s
  | .patrolControlRepairOn ref deckId => Sys2Proof.Machine.execPatrolControlRepairOn ref deckId s
  | .patrolControlRepairOff ref deckId => Sys2Proof.Machine.execPatrolControlRepairOff ref deckId s
  | .queueResumeRetry ref sqid => Sys2Proof.Machine.execQueueResumeRetry ref sqid s
  | .queueResumeSkip ref sqid => Sys2Proof.Machine.execQueueResumeSkip ref sqid s
  | .recorderFreeze ref => Sys2Proof.Machine.execRecorderFreeze ref s
  | .recorderThaw ref => Sys2Proof.Machine.execRecorderThaw ref s
  | .calibrationAccessRead ref len => Sys2Proof.Machine.execCalibrationAccessRead ref len s
  | .calibrationAccessWrite ref len cal => Sys2Proof.Machine.execCalibrationAccessWrite ref len cal s
  | .bootStatementGet ref len first => Sys2Proof.Machine.execBootStatementGet ref len first s
  | .shipEnterArm ref => Sys2Proof.Machine.execShipEnterArm ref s
  | .shipEnterDisarm ref => Sys2Proof.Machine.execShipEnterDisarm ref s
  | .recoveryRequestDeviceReset ref => Sys2Proof.Machine.execRecoveryRequestDeviceReset ref s
  | .recoveryRequestPowerCycle ref => Sys2Proof.Machine.execRecoveryRequestPowerCycle ref s
  | .ownerChallengeGet ref len => Sys2Proof.Machine.execOwnerChallengeGet ref len s
  | .ownerProvision ref args => Sys2Proof.Machine.execOwnerProvision ref args s
  | .ownerAuth ref args => Sys2Proof.Machine.execOwnerAuth ref args s
  | .mainPgRise hostBif mbrCfg => Sys2Proof.Machine.execMainPgRise hostBif mbrCfg s
  | .auxRailFall packAtCutoff => Sys2Proof.Machine.execAuxRailFall packAtCutoff s
  | .hostLinkUp port speed width => Sys2Proof.Machine.execHostLinkUp port speed width s
  | .aggregationTimeExpiry ctl vec => Sys2Proof.Machine.execAggregationTimeExpiry ctl vec s
  | .withheldTagTimeout slot port => Sys2Proof.Machine.execWithheldTagTimeout slot port s
  | .ladderStepBoundExpiry slot port => Sys2Proof.Machine.execLadderStepBoundExpiry slot port s
  | .memberPcieCompletionTimeout slot port => Sys2Proof.Machine.execMemberPcieCompletionTimeout slot port s
  | .sentinelFault => Sys2Proof.Machine.execSentinelFault s
  | .crystalRunsAgain => Sys2Proof.Machine.execCrystalRunsAgain s

end Sys2Proof.Machine
end

