-- ==== Sys2Proof/Machine/Step.lean ====
section
/-!
DEFINITION. One step of the block: it takes the command at the front of the queue and runs it on the state with the queue's rest. On an
empty queue the block idles, and the model's clock advances by one period of the 100 MHz timebase (log 3).
-/

namespace Sys2Proof.Machine

/-- The state with the queue replaced. -/
def State.withPending (s : State) (q : List Instr) : State := { s with pending := q }

/-- The block idles for 10 ns of model time, one period of the 100 MHz timebase (13 R369). DESIGN CHOICE, log 3. -/
def State.idle (s : State) : State := { s with now := s.now + 10 }

/-- One step: the command at the front of the queue runs on the state with the queue's rest; with none waiting the block idles. -/
def step (s : State) : Host.Outcome State Fault Refusal :=
  match s.pending with
  | [] => .next s.idle
  | c :: rest => exec c (s.withPending rest)

/-- The state with the command that a word spells at the front of its queue; unchanged where the word spells none, which is every word
of this block (`decodeTableWord`). -/
def State.withFetchWord (s : State) (nbits w : Nat) : State :=
  match decodeTableWord nbits w with
  | some c => s.withPending (c :: s.pending)
  | none => s

end Sys2Proof.Machine
end

