-- ==== Sys2Proof/Safety.lean ====
section
/-!
DEFINITION. The words that claims use: what a completed command is, what it leaves alone, and the invariants of the machine.
-/

namespace Sys2Proof.Safety

open Sys2Proof.Machine

/-- The command answers the next state `t`. -/
def Completes (i : Instr) (s t : State) : Prop := exec i s = .next t

/-- A list of cells is in canonical form: addresses strictly rising, and no cell that holds what an unlisted byte reads as. -/
def MemoryFits (l : List Host.Cell) : Prop := cellsWf l = true

/-- The event recorder is within its bounds: the next SEQ is one that a record may take, and 0xFFFFFFFF never is (16 R480); the hub ring holds at
most 65,536 records and the sentinel ring 8,192 (16 R480); LOST is a 16-bit count that stops at its end (16 R481). -/
def RecorderFits (r : Recorder) : Prop :=
  r.nextSeq < 0xFFFFFFFF ∧ r.hubRing.length ≤ 65536 ∧ r.sentRing.length ≤ 8192 ∧ r.lost ≤ 0xFFFF

/-- One byte of cache memory, by its address. -/
def cacheByte (s : State) (a : Nat) : Byte := memGet s.cache.dram a

/-- Every byte of cache memory reads as before. -/
def SameMemory (s t : State) : Prop := ∀ a, cacheByte t a = cacheByte s a

/-! ## Frames -/

/-- The parts of the state, one for each field of `State`; the bytes of cache memory are a part of their own. -/
inductive Part where
  | mode | power | stop | recorder | ports | fns | ctls | cache | cells | reads | decks | gauge
  | vault | fabric | sched | feats | members | guard | trust | now | freeCtr | out | pending
  deriving DecidableEq, Repr

/-- A part is as it was before. -/
def keeps (s t : State) : Part → Prop
  | .mode => t.mode = s.mode
  | .power => t.power = s.power
  | .stop => t.stop = s.stop
  | .recorder => t.recorder = s.recorder
  | .ports => t.ports = s.ports
  | .fns => t.fns = s.fns
  | .ctls => t.ctls = s.ctls
  | .cache => { t.cache with dram := [] } = { s.cache with dram := [] }
  | .cells => SameMemory s t
  | .reads => t.reads = s.reads
  | .decks => t.decks = s.decks
  | .gauge => t.gauge = s.gauge
  | .vault => t.vault = s.vault
  | .fabric => t.fabric = s.fabric
  | .sched => t.sched = s.sched
  | .feats => t.feats = s.feats
  | .members => t.members = s.members
  | .guard => t.guard = s.guard
  | .trust => t.trust = s.trust
  | .now => t.now = s.now
  | .freeCtr => t.freeCtr = s.freeCtr
  | .out => t.out = s.out
  | .pending => t.pending = s.pending

/-- The parts that a command may change: those that hold what the rules of its row name, with the recorder where an event is recorded,
`ctls` where a command is ended or an asynchronous event reported, and `members` and `decks` where the health of a drive is settled. -/
def changes : Instr → List Part
  | .auxRailRise .. => [.mode, .power, .recorder, .gauge, .guard]
  | .auxRailLoss .. => [.mode, .power, .recorder, .guard]
  | .mainPowerGoodHeld .. => [.mode, .power, .recorder, .decks, .fabric, .sched, .members, .guard, .out]
  | .railPgRise .. => [.mode, .power, .recorder, .ports, .decks, .gauge, .vault, .sched, .trust, .out]
  | .staggerGroupEnable .. => [.recorder, .decks, .members]
  | .memberPerstDeassert .. | .healthRecoveryTick .. => [.members]
  | .memoryTrainingComplete .. | .dramScrub .. => [.mode, .recorder, .ports, .fns, .cache, .cells, .guard, .freeCtr, .out]
  | .configResponseStart .. | .rrsEnd .. | .l0pEntry .. | .l0pExit .. | .l1Entry .. | .l1Exit .. => [.ports]
  | .bootMemberWindowClose .. => [.mode, .recorder, .ports, .fns, .ctls, .decks, .members, .guard, .out]
  | .bootComplete .. =>
    [.mode, .power, .stop, .recorder, .ports, .fns, .ctls, .cache, .cells, .reads, .decks, .gauge, .vault, .fabric, .members, .guard, .trust, .freeCtr, .out]
  | .restoreComplete .. =>
    [.mode, .power, .stop, .recorder, .ports, .fns, .ctls, .cache, .cells, .reads, .decks, .vault, .members, .guard, .freeCtr, .out]
  | .intentReplay .. | .intentDurable .. | .resyncHand .. | .readErrorRepair .. | .rebuildHand .. | .copybackRound .. | .patrolRow ..
  | .patrolRepair .. | .redealCopyHand .. | .lateCompletion .. | .tagQuarantineEnd .. | .memberControllerReset .. | .secondaryBusReset ..
  | .slotPowerCycle .. | .failedPortRetry .. | .memberControlOffline .. | .memberControlFail .. | .memberControlPortReset .. =>
    [.mode, .recorder, .ports, .fns, .ctls, .cache, .decks, .vault, .members, .guard, .freeCtr, .out]
  | .mainPgFall .. | .mainSenseLow .. | .railPgFall .. | .railPgTimeout .. =>
    [.mode, .power, .recorder, .ports, .fns, .ctls, .cache, .cells, .reads, .decks, .gauge, .vault, .fabric, .sched, .feats, .members, .guard, .trust, .out]
  | .holdupFlushEnd .. =>
    [.mode, .power, .stop, .recorder, .ports, .fns, .ctls, .cache, .cells, .reads, .decks, .vault, .fabric, .feats, .members, .guard, .trust, .out]
  | .flushAbortCutoff .. | .auxRailFall .. =>
    [.mode, .power, .recorder, .ports, .fns, .ctls, .cache, .reads, .decks, .vault, .fabric, .feats, .members, .guard, .trust, .out]
  | .nandProgramFail .. =>
    [.mode, .power, .stop, .recorder, .ports, .fns, .ctls, .cache, .reads, .decks, .gauge, .vault, .fabric, .feats, .members, .guard, .trust, .freeCtr, .out]
  | .perstAssert .. | .hotReset .. | .selfReset .. | .rcvCtlDevReset .. | .rcvCtlPwrcyc .. | .recoveryRequestDeviceReset .. =>
    [.mode, .power, .stop, .recorder, .ports, .fns, .ctls, .cache, .reads, .decks, .gauge, .vault, .fabric, .sched, .feats, .members, .guard, .trust, .out]
  | .perstDeassert .. => [.mode, .recorder, .ports, .decks, .gauge, .vault, .sched, .trust, .out]
  | .hostLinkDown .. => [.stop, .recorder, .ports, .fns, .ctls, .cache, .reads, .decks, .members, .guard, .trust, .out]
  | .hostSerdesLaneFail .. => [.mode, .stop, .recorder, .ports, .fns, .ctls, .cache, .reads, .decks, .members, .guard, .trust, .freeCtr, .out]
  | .flr .. => [.stop, .recorder, .ports, .fns, .ctls, .cache, .cells, .reads, .decks, .members, .guard, .trust, .out]
  | .d3hotEntry .. | .doeAbort .. | .doeUnsupportedProtocol .. | .stagedDwordDiscard .. => [.fns]
  | .d0Return .. | .completionPost .. | .asynchronousEventRequest .. | .aggregationTimeExpiry .. => [.ports, .fns, .ctls, .out]
  | .configRequest .. => [.mode, .stop, .recorder, .ports, .fns, .ctls, .cache, .cells, .reads, .decks, .members, .guard, .trust, .out]
  | .bar0MisalignedAccess .. => [.mode, .recorder, .ports, .fns, .freeCtr, .out]
  | .poisonedBarWrite .. | .cmbmscWrite .. | .bar2Write .. | .bar2Read .. => [.mode, .recorder, .ports, .fns, .ctls, .cache, .cells, .out]
  | .unsupportedAddressRequest .. => [.ports, .fns, .out]
  | .hostDataReadError .. => [.stop, .ports, .fns, .ctls, .cache, .reads, .decks, .out]
  | .sqEntryReadError .. | .queueResumeRetry .. | .queueResumeSkip .. => [.recorder, .ports, .fns, .ctls, .out]
  | .msixUnmask .. => [.mode, .ports, .fns, .out]
  | .doeDiscovery .. | .spdmGetVersion .. | .spdmGetCapabilities .. | .spdmNegotiateAlgorithms .. | .spdmGetDigests .. | .spdmGetCertificate ..
  | .spdmChallenge .. | .spdmGetMeasurements .. => [.fns, .out]
  | .sqTailDoorbell .. | .cqHeadDoorbell .. | .pwinApply .. => [.mode, .recorder, .ports, .fns, .ctls, .out]
  | .commandFetch .. => [.mode, .stop, .recorder, .ports, .fns, .ctls, .cache, .reads, .decks, .out]
  | .ccEnable .. => [.mode, .stop, .recorder, .ports, .fns, .ctls, .cache, .out]
  | .ccDisable .. => [.mode, .stop, .recorder, .ports, .fns, .ctls, .cache, .reads, .decks, .members, .guard, .trust, .out]
  | .shutdownNormal .. => [.mode, .ports, .fns, .ctls, .out]
  | .shutdownAbrupt .. => [.mode, .recorder, .ports, .fns, .ctls, .vault, .out]
  | .shutdownComplete .. => [.mode, .stop, .recorder, .ctls, .decks, .fabric, .members, .out]
  | .ioFlush .. | .dataRecordDurable .. | .createIoSq .. | .createIoCq .. | .namespaceManagementDelete .. | .rebuildControlStatus .. => [.ctls]
  | .ioWrite .. => [.stop, .recorder, .ports, .fns, .ctls, .cache, .cells, .reads, .decks, .vault, .members, .out]
  | .ioRead .. | .ioCompare .. | .ioVerify .. => [.stop, .recorder, .ports, .fns, .ctls, .cache, .cells, .reads, .decks, .members, .out]
  | .ioWriteZeroes .. | .ioDatasetManagement .. | .writeAdmit .. => [.recorder, .ctls, .cache, .cells, .decks, .vault, .members, .out]
  | .directorySwitch .. => [.recorder, .ctls, .cache, .cells, .decks, .members, .out]
  | .mergeSuperseded .. => [.cache, .cells]
  | .epochClose .. | .pwinActivate .. => [.recorder, .ports, .fns, .ctls, .cache, .cells, .out]
  | .fillComplete .. => [.mode, .stop, .recorder, .ports, .fns, .ctls, .cache, .cells, .reads, .decks, .vault, .members, .guard, .freeCtr, .out]
  | .dataRecordSend .. => [.recorder, .ctls, .decks, .members, .out]
  | .cachePolicyToWriteBack .. => [.stop, .recorder, .cache, .out]
  | .handUpdateStart .. | .memberCompletion .. | .memberInboundTlp .. =>
    [.mode, .recorder, .ports, .fns, .ctls, .cache, .cells, .decks, .vault, .members, .guard, .freeCtr, .out]
  | .intentBatchClose .. | .trimBatchClose .. | .handUpdateWritesComplete .. | .rebuildProgressWrite .. | .copybackProgressWrite ..
  | .patrolPassStart .. | .patrolProgressWrite .. | .redealProgressWrite .. => [.recorder, .decks, .members, .out]
  | .handUpdateDurable .. => [.stop, .recorder, .ports, .fns, .ctls, .cache, .cells, .decks, .vault, .members, .out]
  | .memberFlushDeadline .. => [.members, .out]
  | .keeperHeaderWrite .. => [.decks, .members, .out]
  | .replicaComplete .. | .rowOverflowConsistency .. | .failureScan .. | .rebuildSegmentEnd .. | .deckRedeal .. | .rebuildControlResume ..
  | .rebuildControlHold .. | .rebuildControlReplace .. => [.recorder, .ports, .fns, .ctls, .decks, .members, .guard, .out]
  | .patrolPageWrite .. | .formatSanitizeProgress .. => [.decks, .out]
  | .generationSwitch .. => [.recorder, .ports, .fns, .ctls, .cache, .decks, .vault, .fabric, .members, .guard, .out]
  | .oldRoundsRelease .. => [.recorder, .decks]
  | .parityOperand .. | .glildoFlitError .. | .lockstepMismatch .. =>
    [.mode, .stop, .recorder, .ports, .fns, .ctls, .cache, .cells, .reads, .decks, .vault, .fabric, .members, .guard, .freeCtr, .out]
  | .glildoLinkStall .. | .regionFault .. | .firmwareActivationComplete .. =>
    [.mode, .stop, .recorder, .ports, .fns, .ctls, .cache, .cells, .reads, .decks, .vault, .fabric, .members, .guard, .trust, .freeCtr, .out]
  | .remirrorComplete .. => [.stop, .recorder, .cache, .cells, .vault, .out]
  | .hubHalfFault .. | .cryptoResidueMismatch .. => [.mode, .stop, .recorder, .ports, .fns, .ctls, .cache, .reads, .decks, .guard, .freeCtr, .out]
  | .mod15Mismatch .. =>
    [.mode, .power, .stop, .recorder, .ports, .fns, .ctls, .cache, .cells, .reads, .decks, .gauge, .vault, .fabric, .members, .guard, .freeCtr, .out]
  | .sramScrub .. => [.mode, .stop, .recorder, .ports, .fns, .ctls, .cache, .cells, .reads, .decks, .fabric, .guard, .freeCtr, .out]
  | .sramRowRepair .. | .finjExpiry .. => [.recorder, .guard]
  | .schedulerWindow .. => [.mode, .stop, .recorder, .ports, .fns, .ctls, .cache, .fabric, .sched, .members, .guard, .freeCtr, .out]
  | .pmbusPowerRead .. => [.sched]
  | .startupCapEnd .. => [.recorder, .sched]
  | .dieTempMissing .. => [.mode, .recorder, .ports, .fns, .sched, .freeCtr, .out]
  | .thermtripAssert .. | .thermtripRelease .. => [.power, .recorder, .out]
  | .crystalStop .. | .mainPgRise .. => [.power, .recorder]
  | .memSelfRefreshEntry .. => [.cache, .sched]
  | .memberPortL12Entry .. => [.sched, .members]
  | .parityBlockGate .. => [.fabric, .sched]
  | .apstTransition .. => [.mode, .cache, .fabric, .sched, .members, .out]
  | .memberPortBringup .. | .memberPortReadyTimeout .. | .memberAdminTimeout .. | .containmentRelease .. | .failedPendingTimeout ..
  | .memberAsyncEvent .. | .withheldTagTimeout .. | .ladderStepBoundExpiry .. | .memberPcieCompletionTimeout .. =>
    [.mode, .recorder, .ports, .fns, .ctls, .cache, .decks, .vault, .members, .guard, .trust, .freeCtr, .out]
  | .memberCommandTimeout .. => [.mode, .recorder, .ports, .fns, .ctls, .cache, .cells, .decks, .vault, .members, .guard, .trust, .freeCtr, .out]
  | .dpcTrigger .. => [.mode, .recorder, .ports, .fns, .decks, .members, .trust, .freeCtr, .out]
  | .prsntRemoval .. => [.recorder, .ports, .fns, .ctls, .cache, .decks, .vault, .members, .trust, .out]
  | .prsntInsertion .. => [.recorder, .decks, .members, .trust]
  | .slotPowerOn .. => [.recorder, .ctls, .decks, .members]
  | .membersEntryAppend .. | .heartwoodAppendRetry .. => [.recorder, .trust]
  | .gaugePinSample .. | .gaugeEvaluation .. | .sentinelFault .. =>
    [.mode, .power, .stop, .recorder, .ports, .fns, .ctls, .cache, .gauge, .vault, .freeCtr, .out]
  | .gaugeCurrentSample .. | .packTempWindowReturn .. => [.gauge]
  | .packRestReanchor .. => [.recorder, .gauge]
  | .pathTestStart .. | .chargeTermination .. => [.power, .gauge]
  | .pathTestEnd .. | .learningDischargeStop .. | .learningEnd .. => [.power, .recorder, .gauge, .out]
  | .learningStart .. => [.power, .recorder, .gauge]
  | .learnedSlotWrite .. => [.gauge, .out]
  | .vaultAreaErase .. => [.vault]
  | .spillBatch .. => [.recorder]
  | .firmwareDownloadClaimEnd .. => [.trust]
  | .ownerAuthExpiry .. => [.recorder, .guard, .trust]
  | .pwrcycTimeout .. => [.mode, .power, .recorder]
  | .formatComplete .. => [.ports, .fns, .ctls, .decks, .members, .out]
  | .sanitizeComplete .. => [.recorder, .ports, .fns, .ctls, .decks, .members, .freeCtr, .out]
  | .namespaceDeleteCommit .. => [.stop, .recorder, .ports, .fns, .ctls, .cache, .decks, .vault, .members, .guard, .out]
  | .ecctTestEnSet .. => [.mode, .ports, .cache, .cells, .guard]
  | .ecctWrite .. | .ecctFlip .. | .ecctRead .. | .ecctRawRead .. => [.mode, .recorder, .ports, .guard, .freeCtr]
  | .finjArm .. | .finjDisarm .. => [.mode, .recorder, .ports, .ctls, .guard]
  | .evrFreezeWrite .. => [.mode, .recorder, .ports]
  | .registerWrite .. =>
    [.mode, .power, .stop, .recorder, .ports, .fns, .ctls, .cache, .cells, .reads, .decks, .gauge, .vault, .fabric, .sched, .feats, .members, .guard, .trust, .freeCtr, .out]
  | .miReadDataStructure .. | .miSubsystemHealthPoll .. | .miControllerHealthPoll .. | .miConfigurationGet .. | .miConfigurationSet .. =>
    [.power, .freeCtr, .out]
  | .miAdminTunnel .. => [.freeCtr, .out]
  | .deleteIoSq .. => [.stop, .ctls, .cache, .reads, .decks, .out]
  | .deleteIoCq .. => [.fns, .ctls]
  | .getLogPage .. => [.ports, .fns, .ctls, .freeCtr, .out]
  | .identify .. => [.ports, .ctls, .freeCtr, .out]
  | .abort .. => [.stop, .recorder, .ctls, .cache, .reads, .decks, .out]
  | .setFeatures .. => [.mode, .stop, .recorder, .ports, .fns, .ctls, .cache, .decks, .fabric, .sched, .feats, .members, .out]
  | .getFeatures .. | .nvmeMiReceive .. | .calibrationAccessRead .. | .bootStatementGet .. => [.ports, .ctls, .out]
  | .namespaceManagementCreate .. => [.recorder, .ports, .fns, .ctls, .decks, .members, .guard, .freeCtr, .out]
  | .firmwareImageDownload .. => [.ctls, .trust]
  | .firmwareCommit .. | .firmwareCommitActivate .. => [.ports, .fns, .ctls, .trust, .out]
  | .namespaceAttachment .. => [.ports, .fns, .ctls, .decks, .out]
  | .nvmeMiSend .. => [.power, .ctls, .freeCtr]
  | .formatNvm .. => [.stop, .recorder, .ports, .fns, .ctls, .cache, .reads, .decks, .vault, .members, .guard, .freeCtr, .out]
  | .sanitize .. => [.stop, .recorder, .ports, .fns, .ctls, .cache, .reads, .decks, .vault, .members, .guard, .out]
  | .deckCreate .. => [.recorder, .ctls, .decks, .members, .freeCtr, .out]
  | .deckImport .. | .deckDestroy .. => [.recorder, .ports, .fns, .ctls, .decks, .members, .out]
  | .deckRedealCancel .. => [.recorder, .ports, .fns, .ctls, .cache, .decks, .vault, .members, .guard, .out]
  | .memberControlOnline .. | .memberControlClear .. => [.recorder, .ctls, .members]
  | .memberControlErase .. => [.recorder, .ctls, .decks, .members, .trust, .out]
  | .memberControlMemClear .. => [.recorder, .ctls, .guard]
  | .patrolControlResume .. | .patrolControlPause .. | .patrolControlRepairOn .. | .patrolControlRepairOff .. => [.ctls, .decks]
  | .patrolControlRestart .. => [.recorder, .ctls, .decks]
  | .recorderFreeze .. | .recorderThaw .. => [.recorder, .ctls]
  | .calibrationAccessWrite .. => [.recorder, .ctls, .gauge]
  | .shipEnterArm .. => [.power, .recorder, .ctls, .gauge, .out]
  | .shipEnterDisarm .. => [.power, .recorder, .ctls, .gauge]
  | .recoveryRequestPowerCycle .. => [.mode, .power, .recorder, .ctls, .out]
  | .ownerChallengeGet .. => [.ports, .ctls, .trust, .freeCtr, .out]
  | .ownerProvision .. | .ownerAuth .. => [.recorder, .ctls, .guard, .trust]
  | .hostLinkUp .. => [.recorder, .ports]
  | .crystalRunsAgain .. => [.power]

/-! ## Where stores go -/

/-- A byte address outside frames given as (region, frame). -/
def outside (l : List (Nat × Nat)) (a : Nat) : Prop := ∀ p ∈ l, a < frameAddr p.1 p.2 ∨ frameAddr p.1 p.2 + 4096 ≤ a

/-- The frame of a directory entry, and its partner's. -/
def entryFrames (e : DirEntry) : List (Nat × Nat) := (e.region, e.frame) :: (partnerOf e).toList

/-- The frames that a page part of a command has been placed in. -/
def partFrames (p : PagePart) : List (Nat × Nat) :=
  match p.home with
  | some h => [(h.1, h.2.1), (h.2.2.1, h.2.2.2)]
  | none => []

end Sys2Proof.Safety
end

