-- ==== Sys2Proof/Certificates/Slice0/Obligations.lean ====
section
/-!
DEFINITION. The statements for the provers, one for each entry of OBLIGATIONS.json, family by family. A statement that a command answers
a next state names what holds of that state; `emit`, `recordEvent` and the other shared operations are those of the model.
-/

open Sys2Proof Sys2Proof.Machine Sys2Proof.Safety

/-! ## Queues (04) -/

/-- 04 R107: the free entries, the advance, and what a tail doorbell write does to an active I/O queue. -/
def Obligations.TailDoorbellMovesOrHaltsQueue : Prop :=
  ∀ (ctl sqid v : Nat) (s : State) (q : Sq),
    barLive s ctl = true → sqid ≠ 0 → findSq (s.ctl ctl) sqid = some q → q.state = .active →
    q.head < q.size → q.tail < q.size →
    let free : Int := ((q.head : Int) - q.tail - 1) % q.size
    let advance : Int := ((v : Int) - q.tail) % q.size
    (v < q.size → advance ≤ free →
      exec (.sqTailDoorbell ctl sqid v) s = .next ((doorbellArrives ctl s).setCtl ctl (putSq (s.ctl ctl) { q with tail := v }))) ∧
    (q.size ≤ v ∨ free < advance →
      ∃ t h, exec (.sqTailDoorbell ctl sqid v) s = .next t ∧
        findSq (t.ctl ctl) sqid = some { q with state := .halted, halt := some h } ∧
        h.reason = (if q.size ≤ v then 2 else 1) ∧ h.faultInfo = v)

/-- 04 R109: what a head doorbell write does to an I/O completion queue and to the queues that post to it. -/
def Obligations.HeadDoorbellReleasesOrHaltsPosters : Prop :=
  ∀ (ctl cqid v : Nat) (s : State) (q : Cq),
    barLive s ctl = true → cqid ≠ 0 → findCq (s.ctl ctl) cqid = some q → q.head < q.size → q.tail < q.size →
    let released : Int := ((v : Int) - q.head) % q.size
    let posted : Int := ((q.tail : Int) - q.head) % q.size
    (v < q.size → released ≤ posted →
      ∃ t, exec (.cqHeadDoorbell ctl cqid v) s = .next t ∧ findCq (t.ctl ctl) cqid = some { q with head := v, lastHead := v }) ∧
    (q.size ≤ v ∨ posted < released →
      ∃ t, exec (.cqHeadDoorbell ctl cqid v) s = .next t ∧ findCq (t.ctl ctl) cqid = some { q with lastHead := v } ∧
        ∀ (x : Nat) (p : Sq), x ≠ 0 → findSq (s.ctl ctl) x = some p → p.cqid = cqid → p.state = .active →
          ∃ h, findSq (t.ctl ctl) x = some { p with state := .halted, halt := some h } ∧ h.reason = 3)

/-- 04 R110: doorbell writes that are discarded with event 0x1005. `raiseAen` takes the event's type, information and log page. -/
def Obligations.UnknownDoorbellRaisesErrorEvent : Prop :=
  ∀ (ctl id v : Nat) (s : State), barLive s ctl = true →
    (findSq (s.ctl ctl) id = none →
      exec (.sqTailDoorbell ctl id v) s = .next (raiseAen ctl 0 0 0x01 (recordEvent 0x1005 [0x1000 + 8 * id, v, ctl, 0] (doorbellArrives ctl s)))) ∧
    (findCq (s.ctl ctl) id = none →
      exec (.cqHeadDoorbell ctl id v) s = .next (raiseAen ctl 0 0 0x01 (recordEvent 0x1005 [0x1000 + 8 * id + 4, v, ctl, 0] (doorbellArrives ctl s)))) ∧
    (∀ q, findSq (s.ctl ctl) 0 = some q → q.state = .active → (tailCheck q.head q.tail q.size v).isSome = true →
      exec (.sqTailDoorbell ctl 0 v) s = .next (raiseAen ctl 0 1 0x01 (recordEvent 0x1005 [0x1000, v, ctl, 0] (doorbellArrives ctl s)))) ∧
    (∀ q, findCq (s.ctl ctl) 0 = some q → headAccepted q v = false →
      exec (.cqHeadDoorbell ctl 0 v) s = .next (raiseAen ctl 0 1 0x01 (recordEvent 0x1005 [0x1004, v, ctl, 0] (doorbellArrives ctl s))))

/-- 04 R111 and R120: commands enter a queue's reorder buffer in submission order and leave it in that order. -/
def Obligations.FetchAndPostMoveCommandsInOrder : Prop :=
  (∀ (ctl sqid : Nat) (entry e : SqEntry) (s : State) (q : Sq),
    e = heldEntry s ctl q entry → ctlExists s ctl = true → mayFetch s ctl = true → outranked s ctl sqid = false → findSq (s.ctl ctl) sqid = some q →
    q.state = .active → q.head ≠ q.tail → roomInRob s ctl q = true → (∀ r ∈ q.rob, r.cid ≠ e.cid) →
    (sqid = 0 → (s.ctl ctl).aers.contains e.cid = false) →
    (sqid = 0 ∨ opcodeKnown sqid e.opcode = false ∨ ∀ reason info, entryPtr (s.ctl ctl).mps sqid e ≠ .halt reason info) →
    deletedBy (s.ctl ctl) sqid e (entryDoom (s.ctl ctl).mps sqid e) = none →
    ∃ t r, exec (.commandFetch ctl sqid [entry]) s = .next t ∧ r.cid = e.cid ∧ r.opcode = e.opcode ∧ r.committed = false ∧
      r.doom = ((entryDoom (s.ctl ctl).mps sqid e).orElse fun _ => if sqid ≠ 0 ∧ deleteFetched s e.nsid = true then some 0x0B else none) ∧
      r.ptr = e.ptr ∧
      findSq (t.ctl ctl) sqid = some { q with rob := q.rob ++ [r], head := (q.head + 1) % q.size, retried := false }) ∧
  (∀ (ctl sqid : Nat) (s : State) (q : Sq) (e : RobEntry) (rest : List RobEntry),
    findSq (s.ctl ctl) sqid = some q → q.state = .active → q.rob = e :: rest → robDone e = true →
    e.dropped.all (trimDone s) = true → cqRoom (s.ctl ctl) q.cqid = true →
    (s.fn (ctl - 1)).d3hot = false →
    ∃ t slot phase, exec (.completionPost ctl sqid) s = .next t ∧ findSq (t.ctl ctl) sqid = some { q with rob := rest } ∧
      Out.cqe ctl q.cqid slot phase sqid q.head e.cid (e.doom.getD e.status) e.dw0 ∈ t.out) ∧
  (∀ (ctl sqid : Nat) (s : State) (q : Sq) (e : RobEntry) (rest : List RobEntry),
    findSq (s.ctl ctl) sqid = some q → q.rob = e :: rest → robDone e = false → exec (.completionPost ctl sqid) s = .next s)

/-- 04 R103 to R105: what the four queue commands leave. -/
def Obligations.QueueCreationAndDeletionComplete : Prop :=
  (∀ (ref : CmdRef) (qid qsize iv : Nat) (ien : Bool) (s : State),
    mayCommit s ref = true → ref.sqid = 0 → 0 < qid → qid ≤ 2048 → findCq (s.ctl ref.ctl) qid = none → 0 < qsize → qsize ≤ 65535 → iv < 2048 →
    exec (.createIoCq ref qid qsize true ien iv) s = .next (commitCmd ref 0 0
      (s.setCtl ref.ctl { s.ctl ref.ctl with
        cqs := (s.ctl ref.ctl).cqs ++ [{ id := qid, size := qsize + 1, ien := ien, iv := iv, base := prp1Of s ref }] }))) ∧
  (∀ (ref : CmdRef) (qid qsize cqid prio : Nat) (s : State) (cq : Cq),
    mayCommit s ref = true → ref.sqid = 0 → 0 < cqid → findCq (s.ctl ref.ctl) cqid = some cq → 0 < qid → qid ≤ 2048 →
    findSq (s.ctl ref.ctl) qid = none → 0 < qsize → qsize ≤ 65535 →
    exec (.createIoSq ref qid qsize cqid prio true) s = .next (commitCmd ref 0 0
      (s.setCtl ref.ctl { s.ctl ref.ctl with
        sqs := (s.ctl ref.ctl).sqs ++ [{ id := qid, size := qsize + 1, cqid := cqid, prio := prio, half := ownerOf s ref.ctl qid, base := prp1Of s ref }] }))) ∧
  (∀ (ref : CmdRef) (qid : Nat) (s : State) (cq : Cq),
    mayCommit s ref = true → ref.sqid = 0 → 0 < qid → findCq (s.ctl ref.ctl) qid = some cq →
    exec (.deleteIoCq ref qid) s = .next (
      if (s.ctl ref.ctl).sqs.any (fun q => decide (q.cqid = qid)) = true then failCmd ref 0x10C s
      else commitCmd ref 0 0 (settlePba ref.ctl
        (s.setCtl ref.ctl { s.ctl ref.ctl with cqs := (s.ctl ref.ctl).cqs.filter fun q => !decide (q.id = qid) })))) ∧
  (∀ (ref : CmdRef) (qid : Nat) (s : State) (q : Sq) (e : RobEntry),
    mayCommit s ref = true → ref.sqid = 0 → 0 < qid → findSq (s.ctl ref.ctl) qid = some q → robOf s ref = some e → e.opcode = 0x00 →
    (q.state = .deleting ↔ e.deletes = some qid) →
    ∃ t, exec (.deleteIoSq ref qid) s = .next t ∧
      (q.rob = [] → findSq (t.ctl ref.ctl) qid = none ∧ ∃ r, robOf t ref = some r ∧ r.committed = true ∧ r.doom = none) ∧
      (q.rob ≠ [] → ∃ p, findSq (t.ctl ref.ctl) qid = some p ∧ p.state = .deleting ∧ (q.state ≠ .deleting → p.halt = none))) ∧
  (∀ (ctl : Nat) (entry e : SqEntry) (s : State) (a q : Sq),
    e = heldEntry s ctl a entry → findSq (s.ctl ctl) 0 = some a → a.state = .active → a.head ≠ a.tail → roomInRob s ctl a = true → (∀ r ∈ a.rob, r.cid ≠ e.cid) →
    (s.ctl ctl).aers.contains e.cid = false → e.opcode = 0x00 → e.cdw10 % 65536 ≠ 0 → entryDoom (s.ctl ctl).mps 0 e = none →
    findSq (s.ctl ctl) (e.cdw10 % 65536) = some q → q.state ≠ .deleting → ctlExists s ctl = true → mayFetch s ctl = true →
    ∃ t, exec (.commandFetch ctl 0 [entry]) s = .next t ∧
      (q.rob = [] → findSq (t.ctl ctl) (e.cdw10 % 65536) = none) ∧
      (q.rob ≠ [] → ∃ p, findSq (t.ctl ctl) (e.cdw10 % 65536) = some p ∧ p.state = .deleting ∧ p.halt = none))

/-- 04 R132: the table of outcomes of Abort. -/
def Obligations.AbortHasExactlyOneOutcome : Prop :=
  ∀ (ref : CmdRef) (sqid cid : Nat) (s : State),
    mayCommit s ref = true → ref.sqid = 0 → ({ ctl := ref.ctl, sqid := sqid, cid := cid } : CmdRef) ≠ ref →
    let target : CmdRef := { ctl := ref.ctl, sqid := sqid, cid := cid }
    (8 ≤ abortsOpen (s.ctl ref.ctl) → exec (.abort ref sqid cid) s = .next (failCmd ref 0x103 (recordEvent 0x1012 [sqid, cid, 1, 0] s))) ∧
    (abortsOpen (s.ctl ref.ctl) < 8 →
      (robOf s target = none → waitsForEvent (s.ctl ref.ctl) sqid cid = false →
        exec (.abort ref sqid cid) s = .next (commitCmd ref 0 1 (recordEvent 0x1012 [sqid, cid, 1, 0] s))) ∧
      (robOf s target = none → waitsForEvent (s.ctl ref.ctl) sqid cid = true →
        exec (.abort ref sqid cid) s = .next (commitCmd ref 0 0 (recordEvent 0x1012 [sqid, cid, 0, 0] (abortAer ref.ctl cid s)))) ∧
      (∀ e, robOf s target = some e → robDone e = true →
        exec (.abort ref sqid cid) s = .next (commitCmd ref 0 1 (recordEvent 0x1012 [sqid, cid, 1, 0] s))) ∧
      (∀ e, robOf s target = some e → robDone e = false →
        ∃ t, exec (.abort ref sqid cid) s = .next t ∧ t.reads = s.reads.filter (fun j => !decide (j.ref = target)) ∧
          (∃ r, robOf t target = some r ∧ r.doom = some 0x07 ∧ r.job = none ∧ r.committed = e.committed) ∧
          (∃ r, robOf t ref = some r ∧ r.committed = true ∧ r.status = 0 ∧ r.dw0 = 0)))

/-- 04 R130: RETRY and SKIP. -/
def Obligations.QueueResumeRestartsHaltedQueue : Prop :=
  ∀ (ref : CmdRef) (sqid : Nat) (s : State) (q : Sq) (h : HaltRec),
    mayCommit s ref = true → ref.sqid = 0 → sqid ≠ 0 → findSq (s.ctl ref.ctl) sqid = some q → q.halt = some h →
    (h.reason ≠ 3 → tailCheck q.head q.tail q.size h.lateTail = none →
      ∃ t, exec (.queueResumeRetry ref sqid) s = .next t ∧
        findSq (t.ctl ref.ctl) sqid = some { q with state := .active, halt := none, tail := h.lateTail, retried := false } ∧
        ∃ r, robOf t ref = some r ∧ r.committed = true ∧ r.status = 0) ∧
    (3 < h.reason → tailCheck ((q.head + 1) % q.size) q.tail q.size h.lateTail = none →
      ∃ t, exec (.queueResumeSkip ref sqid) s = .next t ∧
        findSq (t.ctl ref.ctl) sqid =
          some { q with state := .active, halt := none, head := (q.head + 1) % q.size, tail := h.lateTail, retried := false } ∧
        ∃ r, robOf t ref = some r ∧ r.committed = true ∧ r.status = 0) ∧
    (h.reason ≤ 3 → exec (.queueResumeSkip ref sqid) s = .next (failCmd ref 0x02 s))

/-- 02 R50, 03 R90, R92, R96 and R97: the other commands of the queues. -/
def Obligations.HostErrorsAndVectorsComplete : Prop :=
  (∀ (ref : CmdRef) (s : State),
    isOpen s ref = true → ref.sqid = 0 → (s.ctl ref.ctl).aers.length < 8 → (s.ctl ref.ctl).aens = [] →
    exec (.asynchronousEventRequest ref) s = .next (updateLtr ref.ctl (s.setCtl ref.ctl { s.ctl ref.ctl with
      aers := (s.ctl ref.ctl).aers ++ [ref.cid],
      sqs := (s.ctl ref.ctl).sqs.map fun q => if q.id = 0 then { q with rob := q.rob.filter fun e => !decide (e.cid = ref.cid) || e.dup } else q }))) ∧
  (∀ (ctl vec : Nat) (s : State), barLive s ctl = true → vec < 2048 →
    ∃ t, exec (.msixUnmask ctl vec) s = .next t ∧ vec ∈ (t.fn (ctl - 1)).unmasked ∧
      (msixEnabled (s.fn (ctl - 1)) = false ∨ msixMasked (s.fn (ctl - 1)) = true → (t.fn (ctl - 1)).pba = (s.fn (ctl - 1)).pba ∧ t.out = s.out) ∧
      (msixEnabled (s.fn (ctl - 1)) = true → msixMasked (s.fn (ctl - 1)) = false →
        (∀ v, v ∈ (t.fn (ctl - 1)).pba ↔ v ∈ (s.fn (ctl - 1)).pba ∧ v ≠ vec ∧ v ∉ (s.fn (ctl - 1)).unmasked) ∧
        (vec ∈ (s.fn (ctl - 1)).pba →
          .msix ctl vec (tblGet (s.fn (ctl - 1)).vectors vec (0, 0)).1 (tblGet (s.fn (ctl - 1)).vectors vec (0, 0)).2 ∈ t.out))) ∧
  (∀ (ctl vec : Nat) (s : State), tblHas (s.ctl ctl).aggregated vec = true → (s.fn (ctl - 1)).d3hot = false →
    exec (.aggregationTimeExpiry ctl vec) s = .next (signalVec ctl vec
      (s.setCtl ctl { s.ctl ctl with aggregated := tblDel (s.ctl ctl).aggregated vec }))) ∧
  (∀ (ref : CmdRef) (e : RobEntry) (s : State), robOf s ref = some e → robDone e = false →
    ∃ t r, exec (.hostDataReadError ref) s = .next t ∧ robOf t ref = some r ∧ r.doom = some 0x04 ∧ r.job = none ∧
      t.reads = s.reads.filter (fun j => !decide (j.ref = ref)) ∧
      (e.job = none → t.decks = s.decks) ∧
      (∀ j id d, e.job = some j → s.decks.decks.find? (fun p => p.2.journal.any (isDataOf ref e.nsid j.jseq)) = some (id, d) →
        ∃ d', t.deck id = some d' ∧ d'.journal.any (isDataOf ref e.nsid j.jseq) = false)) ∧
  (∀ (ctl sqid : Nat) (s : State) (q : Sq), findSq (s.ctl ctl) sqid = some q → q.state = .active → q.head ≠ q.tail →
    ∃ t, exec (.sqEntryReadError ctl sqid false) s = .next t ∧ findSq (t.ctl ctl) sqid = some { q with retried := true }) ∧
  (∀ (ctl sqid : Nat) (s : State) (q : Sq), findSq (s.ctl ctl) sqid = some q → q.state = .active → q.head ≠ q.tail → q.retried = true →
    sqid ≠ 0 →
    ∃ t h, exec (.sqEntryReadError ctl sqid true) s = .next t ∧
      findSq (t.ctl ctl) sqid = some { q with state := .halted, halt := some h, retried := false } ∧ h.reason = 8)

/-! ## Modes, resets, shutdown and power fail (02, 14, 17, 19) -/

/-- 02 R55, 04 R103 and R136: what enabling and disabling a controller leave; 06 R192 and R194: the return to write-back. -/
def Obligations.ControllerEnableMakesAdminQueues : Prop :=
  (∀ (ctl mps ams asqs acqs : Nat) (s : State),
    barLive s ctl = true → (s.ctl ctl).ccEn = false → mps ≤ 4 → ams ≤ 1 → 1 ≤ asqs → asqs ≤ 4095 → 1 ≤ acqs → acqs ≤ 4095 →
    s.mode.shutDone = false → (s.ctl ctl).aers = [] →
    ∃ t, exec (.ccEnable ctl mps ams asqs acqs) s = .next t ∧ (t.ctl ctl).ccEn = true ∧ (t.ctl ctl).shst = 0 ∧
      (t.ctl ctl).sqs = [{ id := 0, size := asqs + 1, cqid := 0, half := ownerOf s ctl 0, base := (s.ctl ctl).asq.toNat }] ∧
      (t.ctl ctl).cqs = [{ id := 0, size := acqs + 1, ien := true, iv := 0, base := (s.ctl ctl).acq.toNat }] ∧
      (t.ctl ctl).rdy = ((s.ready && (s.ctl ctl).dropped.all (trimDone s)) || (s.ctl ctl).rdy)) ∧
  (∀ (ctl : Nat) (s : State), barLive s ctl = true → (s.ctl ctl).ccEn = true →
    ∃ t, exec (.ccDisable ctl) s = .next t ∧ (t.ctl ctl).ccEn = false ∧ (t.ctl ctl).rdy = false ∧ (t.ctl ctl).shst = 0 ∧
      (t.ctl ctl).sqs = [] ∧ (t.ctl ctl).cqs = []) ∧
  (∀ s : State, s.cache.writeThrough = true → wtCondition s = 0 → 32768 ≤ s.cache.limit → s.serving = true → s.mode.shutDone = false →
    exec .cachePolicyToWriteBack s = .next (writeStop 1 (recordEvent 0x2001 [1, 0, 0, 0]
      { s with cache := { s.cache with writeThrough := false, wtRecordDue := false } })))

/-- 02 R64 and R65: the steps of a shutdown. `stopClean` is steps 3 to 5, `noteAll` what the end of the last destage leads to. -/
def Obligations.ShutdownsFollowTheirSteps : Prop :=
  (∀ (ctl : Nat) (s : State), barLive s ctl = true → s.ready = true → (s.ctl ctl).ccEn = true → (s.ctl ctl).shst = 0 →
    ∃ t, exec (.shutdownNormal ctl) s = .next t ∧ t.ctl ctl = { s.ctl ctl with shst := 1 } ∧
      t.mode = { (hostArrives ctl s).mode with shutdownKind := if s.mode.mode = .quarantine then 0 else 1 } ∧ t.cache = s.cache ∧ t.out = s.out) ∧
  (∀ (ctl : Nat) (s : State), barLive s ctl = true → s.serving = true → (s.ctl ctl).ccEn = true → (s.ctl ctl).shst = 0 →
    (∀ id ∈ s.ctlIds, id = ctl ∨ (s.ctl id).ccEn = false ∨ (s.ctl id).shst ≠ 0) → s.vault.channels ≠ [] → s.vault.flush = none →
    ∃ t j, exec (.shutdownAbrupt ctl) s = .next t ∧ (t.ctl ctl).shst = 1 ∧ t.vault.flush = some j ∧ j.abrupt = some ctl ∧
      j.since = s.now) ∧
  (∀ (ctl : Nat) (s : State), ctlExists s ctl = true → s.serving = true → (s.ctl ctl).shst = 1 → openCount (s.ctl ctl) = 0 →
    s.mode.shutdownKind = 1 → s.mode.shutDone = false → shutQuiet s = true → allDestaged s = true → (∀ id ∈ s.ctlIds, id = ctl ∨ (s.ctl id).ccEn = false ∨ (s.ctl id).shst ≠ 0) →
    ∃ t u, exec (.shutdownComplete ctl) s = .next (noteAll s t) ∧ u = stopClean (s.setCtl ctl { s.ctl ctl with shst := 2 }) ∧
      t = { u with mode := { u.mode with
        shutDone := true
        shutdownKind := if (s.ctlIds.any fun id => decide (id ≠ ctl) && (s.ctl id).ccEn && decide ((s.ctl id).shst = 1)) = true
          then u.mode.shutdownKind else 0 } }) ∧
  (∀ (ctl : Nat) (s : State), ctlExists s ctl = true → s.mode.mode = .quarantine → (s.ctl ctl).shst = 1 → openCount (s.ctl ctl) = 0 →
    exec (.shutdownComplete ctl) s = .next (s.setCtl ctl { s.ctl ctl with shst := 2 }))

/-- 17 R487 to R490: requests for a device reset and for a power cycle, by command and by register. -/
def Obligations.RecoveryIsRequestedOnce : Prop :=
  (∀ (ref : CmdRef) (s : State), adminTurn s ref = true → s.ready = true →
    (s.mode.rcvPending = 0 →
      exec (.recoveryRequestDeviceReset ref) s =
        .next (deviceReset 0x32 false (postAll ref.ctl 0 512 (recordEvent 0xA001 [1, ref.ctl, 0, 0] (commitCmd ref 0 0 s)))) ∧
      ∃ t, exec (.recoveryRequestPowerCycle ref) s = .next t ∧ t.mode = { s.mode with rcvPending := 2 } ∧
        t.power = { s.power with pwrcycPulse := true } ∧ Out.pin "PWRCYC_REQ_N" false ∈ t.out) ∧
    (s.mode.rcvPending ≠ 0 →
      exec (.recoveryRequestDeviceReset ref) s = .next (failCmd ref 0x0C s) ∧
      exec (.recoveryRequestPowerCycle ref) s = .next (failCmd ref 0x0C s))) ∧
  (∀ (fn : Nat) (s : State), bar0Live s fn = true → s.mode.rcvPending = 0 →
    exec (.rcvCtlDevReset fn 0x5EC70001#32) s = .next (deviceReset 0x33 false (recordEvent 0xA001 [2, fn + 1, 0, 0] (hostArrives (fn + 1) s))) ∧
    (s.ready = true → exec (.rcvCtlPwrcyc fn 0x5EC70002#32) s = .next (requestCycle 2 (fn + 1) (hostArrives (fn + 1) s)))) ∧
  (∀ (fn : Nat) (v : BitVec 32) (s : State), bar0Live s fn = true →
    (v >>> 16).toNat ≠ 0x5EC7 ∨ (v.getLsbD 0 = true ∧ v.getLsbD 1 = true) ∨ s.mode.rcvPending ≠ 0 →
    exec (.rcvCtlDevReset fn v) s = .next (recordEvent 0xA006 [v.toNat, s.mode.rcvPending, 0, 0] (hostArrives (fn + 1) s)) ∧
    exec (.rcvCtlPwrcyc fn v) s = .next (recordEvent 0xA006 [v.toNat, s.mode.rcvPending, 0, 0] (hostArrives (fn + 1) s))) ∧
  (∀ s : State, s.mode.rcvPending = 2 →
    exec .pwrcycTimeout s = .next (recordEvent 0xA005 [0, 0, 0, 0] { s with
      mode := { s.mode with rcvPending := 0, pwrcycTimeout := true }
      power := { s.power with pwrcycPulse := false } }))

/-- 02 R46 (T18), R52, 03 R77, 16 R459 and 17 R486: the device reset. -/
def Obligations.DeviceResetEntersBoot : Prop :=
  (∀ s : State, mainMode s = true → s.power.hubUp = true →
    (∀ port, port ∈ s.portIds → (s.port port).perst = false →
      ∃ t, exec (.perstAssert port) s = .next t ∧ t.mode.mode = .boot ∧ t.mode.lastTrans = 18 ∧ t.mode.cause = 0x30 ∧
        t.mode.bootHold = true ∧ t.mode.warmCount = min 0xFFFF (s.mode.warmCount + 1) ∧ t.cache.dram = s.cache.dram ∧ (s.cache.wtRecordDue = false → t.stop = s.stop) ∧
        t.trust.image1 = s.trust.image1 ∧ t.trust.image2 = s.trust.image2 ∧ t.trust.ownerKey = s.trust.ownerKey ∧
        t.vault.image = s.vault.image) ∧
    (∀ port, portLive s port = true → (s.port port).linkUp = true →
      ∃ t, exec (.hotReset port) s = .next t ∧ t.mode.mode = .boot ∧ t.mode.lastTrans = 18 ∧ t.mode.cause = 0x31 ∧
        t.mode.bootHold = false ∧ t.cache.dram = s.cache.dram ∧ t.vault.image = s.vault.image) ∧
    (s.trust.selfReset = true →
      ∃ t, exec .selfReset s = .next t ∧ t.mode.mode = .boot ∧ t.mode.lastTrans = 18 ∧ t.mode.cause = 0x34 ∧
        t.trust.selfReset = false ∧ t.cache.dram = s.cache.dram ∧ t.vault.image = s.vault.image)) ∧
  (∀ (port : Nat) (s : State), port ∈ s.portIds → (s.port port).perst = true → s.mode.bootHold = true →
    (∀ p ∈ s.portIds, p ≠ port → (s.port p).perst = false) →
    ∃ t, exec (.perstDeassert port) s = .next t ∧ (t.port port).perst = false ∧ t.mode.bootHold = false)

/-- 02 R46 (T1, T2, T3) and R44, 19 R523: how power comes up, and the loss of the auxiliary rail in every state. -/
def Obligations.PowerUpRaisesTheRails : Prop :=
  (∀ s : State, s.power.auxGood = false → s.mode.mode = .ship →
    ∃ t, exec .auxRailRise s = .next t ∧ t.mode.mode = .standby ∧ t.mode.lastTrans = 1 ∧ t.mode.cause = 0x40 ∧ t.power.auxGood = true ∧
      t.power.packConnected = true ∧ t.power.fromShip = true) ∧
  (∀ (hostBif : Bool) (cfg : BitVec 2) (s : State), s.power.mainPg = false → s.mode.mode ≠ .holdup →
    ∃ t, exec (.mainPgRise hostBif cfg) s = .next t ∧ t.power.mainPg = true ∧ t.power.hostBif = hostBif ∧ t.power.mbrCfg = cfg ∧
      t.power.holdOff = false ∧ t.mode = s.mode) ∧
  (∀ s : State, s.mode.mode = .standby → s.power.mainPg = true → s.power.holdOff = false → s.power.thermTrip = false →
    s.power.sentinelOff = false →
    ∃ t, exec .mainPowerGoodHeld s = .next t ∧ t.mode.mode = .boot ∧ t.mode.lastTrans = 3 ∧ t.mode.cause = 0x42 ∧
      t.power.railEn = [true, false, false, false, false] ∧ t.power.hubUp = false ∧ t.power.t3At = s.now) ∧
  (∀ (group : Nat) (s : State), group < 4 → s.power.railEn.getD group false = true → s.power.railPg.getD group false = false →
    exec (.railPgRise group) s = .next (emit (railPin (group + 1) true) { s with power := { s.power with
      railPg := s.power.railPg.set group true
      railEn := s.power.railEn.set (group + 1) true } })) ∧
  (∀ s : State, s.power.railEn.getD 4 false = true → s.power.railPg.getD 4 false = false → s.power.hubUp = false → s.mode.mode = .boot →
    exec (.railPgRise 4) s = .next (bootRom { s with power := { s.power with railPg := s.power.railPg.set 4 true, hubUp := true } })) ∧
  ∀ s : State,
    (s.mode.mode = .standby → s.power.shipArmed = true → s.power.mainPg = false →
      ∃ t, exec .auxRailLoss s = .next t ∧ t.mode.mode = .ship ∧ t.mode.lastTrans = 2 ∧ t.mode.cause = 0x41 ∧ t.power.auxGood = false ∧
        t.power.packConnected = false) ∧
    (s.mode.mode ≠ .standby ∨ s.power.shipArmed = false ∨ s.power.mainPg = true →
      exec .auxRailLoss s = .next { s with power := { s.power with
        auxGood := false, standbyOnPack := s.power.standbyOnPack || decide (s.mode.mode ≠ .ship) } })

/-- 02 R46 (T14, T15), R47 and 19 R525: the four trips. `imageHolds` says that the valid vault image holds every page a flush would vault. -/
def Obligations.PowerFailEntersHoldupOrStandby : Prop :=
  let holdup := fun (cause : Nat) (s : State) (o : Host.Outcome State Fault Refusal) =>
    imageHolds s = false → s.vault.channels ≠ [] → s.power.shipArmed = false →
      ∃ t, o = .next t ∧ t.mode.mode = .holdup ∧ t.mode.lastTrans = 14 ∧ t.mode.cause = cause ∧ t.power.huEn = true ∧
        t.vault.flush.isSome = true
  let standby := fun (cause : Nat) (s : State) (o : Host.Outcome State Fault Refusal) =>
    imageHolds s = true → s.power.shipArmed = false →
      ∃ t, o = .next t ∧ t.mode.mode = .standby ∧ t.mode.lastTrans = 15 ∧ t.mode.cause = cause ∧ t.power.huEn = false ∧
        t.power.railEn = [false, false, false, false, false]
  ∀ s : State, mainMode s = true →
    (s.power.mainPg = true → holdup 0x20 s (exec .mainPgFall s) ∧ standby 0x20 s (exec .mainPgFall s)) ∧
    (holdup 0x21 s (exec .mainSenseLow s) ∧ standby 0x21 s (exec .mainSenseLow s)) ∧
    (∀ group, group < 5 → s.power.railEn.getD group false = true → s.power.railPg.getD group false = true →
      holdup 0x22 s (exec (.railPgFall group) s) ∧ standby 0x22 s (exec (.railPgFall group) s)) ∧
    (∀ group, group < 5 → s.power.railEn.getD group false = true → s.power.railPg.getD group false = false →
      holdup 0x23 s (exec (.railPgTimeout group) s) ∧ standby 0x23 s (exec (.railPgTimeout group) s))

/-- 02 R46 (T16, T17), 14 R414, R415, R419 and R420: the vault's flush and its areas, and the auxiliary rail. -/
def Obligations.FlushEndLeavesAValidImage : Prop :=
  (∀ (ms mj mv : Nat) (j : FlushJob) (s : State), s.mode.mode = .holdup → s.vault.flush = some j → j.abrupt = none →
    s.power.shipArmed = false →
    (∃ t im, exec (.holdupFlushEnd ms mj mv) s = .next t ∧ t.power.huEn = false ∧ t.vault.imageValid = true ∧ t.vault.image = some im ∧
      im.pages = j.image.pages ∧ t.vault.imageTodo = j.image.pages.map (fun p => (p.keyNs, p.vpage)) ∧
      t.vault.flush = none ∧ t.vault.flushResult = 1 ∧
      (s.power.mainPg = false → t.mode.mode = .standby ∧ t.mode.lastTrans = 16) ∧
      (s.power.mainPg = true → s.power.holdOff = false → t.mode.mode = .boot ∧ t.mode.lastTrans = 17)) ∧
    (∀ pages, ∃ t, exec (.flushAbortCutoff pages ms mj mv) s = .next t ∧ t.power.huEn = false ∧ t.vault.flush = none ∧
      t.vault.flushResult = 2 ∧ t.vault.flushPages = pages ∧ t.vault.flushMj = mj ∧ t.vault.image = s.vault.image ∧
      t.vault.imageValid = s.vault.imageValid)) ∧
  (∀ (block : Nat) (s : State), block ∉ s.vault.badBlocks →
    exec (.nandProgramFail (.block block)) s = .next (emit (.superblock s.vault.seqReserved (s.vault.badBlocks ++ [block]))
      { s with vault := { s.vault with badBlocks := s.vault.badBlocks ++ [block] } })) ∧
  (∀ (ch : Nat) (s : State),
    ∃ t, exec (.nandProgramFail (.channel ch)) s = .next t ∧ ch ∉ t.vault.channels ∧ t.vault.badBlocks = s.vault.badBlocks) ∧
  (∀ s : State, s.serving = true → s.vault.imageValid = false → s.vault.flush = none →
    exec (.vaultAreaErase 0) s = .next { s with vault := { s.vault with erasedA := true } } ∧
    exec (.vaultAreaErase 1) s = .next { s with vault := { s.vault with erasedB := true } }) ∧
  (∀ s : State, s.mode.mode ≠ .standby → s.mode.mode ≠ .ship →
    exec (.auxRailFall false) s = .next { s with power := { s.power with auxGood := false, standbyOnPack := true } } ∧
    exec .auxRailLoss s = .next { s with power := { s.power with auxGood := false, standbyOnPack := true } })

/-- 02 R53, R58, R61 and R62: the ends of BOOT and of RESTORE. -/
def Obligations.BootAndRestoreEndInAMode : Prop :=
  (∀ (fuse cert : Bool) (b : BootChecks) (s : State), bootReady s = true →
    ∃ t, exec (.bootComplete false fuse cert b) s = .next (noteAll s (enterQuarantine 7 1 0 t))) ∧
  (∀ (b : BootChecks) (s t : State), bootReady s = true → (applyTable (bootTests b s)).mode.bootFault = 0 →
    t = revokeKeys (raiseSvn (bootEntries b.heartwoodOk (applyTable (bootTests b s)))) →
    (restoreFrom t = none →
      exec (.bootComplete true true true b) s = .next (noteAll s (beginService 4 5 (restoreDecks [] (dropCache t)).2.2))) ∧
    (∀ src u, restoreFrom t = some src → u = (if src = 2 then t else dropCache t) →
      exec (.bootComplete true true true b) s =
        .next (noteAll s (transit 6 .restore (restoreCause src) { u with mode := { u.mode with restoreSource := src } })))) ∧
  (∀ (ok : Bool) (n : Nat) (reads : List (Nat × Nat × List BlockRead)) (s : State), s.mode.mode = .restore →
    (s.mode.restoreSource = 1 →
      s.vault.image = none ∨ ok = false ∨ n < ((stopCurrent s.stop).map fun r => r.1.dirtyPages).getD 0 →
      exec (.restoreComplete ok n reads) s = .next (noteAll s (enterQuarantine 10 5 0 (markLost (uncleanDecks s) s)))) ∧
    (∀ im, s.mode.restoreSource = 1 → s.vault.image = some im → ok = true → ((stopCurrent s.stop).map fun r => r.1.dirtyPages).getD 0 ≤ n →
      exec (.restoreComplete ok n reads) s =
        .next (((endRestore (restoreImage im.pages s).1 reads (restoreImage im.pages s).2).map (noteAll s)).getD s)) ∧
    (s.mode.restoreSource = 2 →
      exec (.restoreComplete ok n reads) s = .next (((endRestore [] reads (restoreRetained s)).map (noteAll s)).getD s)) ∧
    (s.mode.restoreSource = 3 ∨ s.mode.restoreSource = 4 →
      exec (.restoreComplete ok n reads) s = .next (((endRestore [] reads s).map (noteAll s)).getD s)))

/-- 18 R504, R505, R512, R513 and 03 R88: ranges, pairs of dwords and bad accesses. -/
def Obligations.RegisterWritesFollowTheirType : Prop :=
  (∀ (fn : Nat) (v : BitVec 64) (s : State), bar0Live s fn = true →
    (capOk ((v.setWidth 32).toNat % 256) = true →
      exec (.registerWrite fn { offset := 0x8200 } 4 v) s = .next (setCap ((v.setWidth 32).toNat % 256) (hostArrives (fn + 1) s))) ∧
    (capOk ((v.setWidth 32).toNat % 256) = false →
      exec (.registerWrite fn { offset := 0x8200 } 4 v) s = .next (recordEvent 0x1006 [0x8200, (v.setWidth 32).toNat, 0, 0] (hostArrives (fn + 1) s)))) ∧
  (∀ (fn : Nat) (lo hi : BitVec 64) (s : State), bar0Live s fn = true →
    halfOk 0x8210 false (lo.setWidth 32).toNat = true → halfOk 0x8210 true (hi.setWidth 32).toNat = true →
    ∃ t u, exec (.registerWrite fn { offset := 0x8210 } 4 lo) s = .next t ∧ t.feats = s.feats ∧
      exec (.registerWrite fn { offset := 0x8214 } 4 hi) t = .next u ∧
      u.feats.floors = floorsOf ((lo.setWidth 32).toNat + (hi.setWidth 32).toNat * 2 ^ 32)) ∧
  (∀ (fn off : Nat) (s : State), tblHas (s.fn fn).staged off = true →
    exec (.stagedDwordDiscard fn off) s = .next (s.setFn fn { s.fn fn with staged := tblDel (s.fn fn).staged off })) ∧
  (∀ (fn off size : Nat) (s : State), bar0Live s fn = true → ¬ (size = 4 ∧ off % 4 = 0) → ¬ (size = 8 ∧ off % 8 = 0) →
    exec (.bar0MisalignedAccess fn true off size) s = .next (recordEvent 0x1003 [off, size, 1, 0] (hostArrives (fn + 1) s)) ∧
    ∃ t data, exec (.bar0MisalignedAccess fn false off size) s = .next t ∧ data.length = 4 ∧
      Out.cpl fn .success data ∈ t.out)

/-! ## Host link, functions and fabric (01, 03) -/

/-- 02 R54, 03 R73, R78, R79 and R98: the life of a host link. `loseLink` is R78, `takeover` the record of R493. -/
def Obligations.LinkComesUpAndGoesDown : Prop :=
  (∀ (port speed width : Nat) (s : State), portLive s port = true → (s.port port).linkUp = false → speed ∈ [2, 5, 8, 16, 32, 64] →
    width ∈ [1, 2, 4, 8, 16] → width ≤ trainWidth s port →
    ∃ t, t = s.setPort port { s.port port with
        linkUp := true, training := false, speed := speed, width := width, flit := decide (speed = 64)
        cfgAnswers := (s.port port).cfgAnswers || !(s.port port).rrs } ∧
      exec (.hostLinkUp port speed width) s =
        .next (if speed < 64 ∨ width < fullWidth s then recordEvent 0x1001 [port, speed, width, 0] t else t)) ∧
  (∀ (port : Nat) (s : State), portLive s port = true →
    exec (.configResponseStart port) s = .next (s.setPort port { s.port port with cfgAnswers := true }) ∧
    ((s.port port).cfgAnswers = true → exec (.rrsEnd port) s = .next (s.setPort port { s.port port with rrs := false })) ∧
    (∀ cause, (s.port port).linkUp = true → ∃ t, exec (.hostLinkDown { port := port, cause := cause }) s = .next t ∧ (t.port port).linkUp = false ∧
      (t.port port).training = true ∧ (t.ctl (port + 1)).ccEn = false ∧ (t.ctl (port + 1)).sqs = [])) ∧
  (∀ (fn off : Nat) (write : Bool) (v : BitVec 32) (s : State), cfgLive s fn = true → off % 4 = 0 → off < 4096 →
    ((s.port (ctlPort s (fn + 1))).rrs = true →
      exec (.configRequest fn write off v false) s = .next (sendTlp fn (.cpl fn .requestRetry []) s)) ∧
    ((s.port (ctlPort s (fn + 1))).rrs = false →
      exec (.configRequest fn false off v false) s = .next (sendTlp fn (.cpl fn .success (dwordBytes (cfgRead (hostArrives (fn + 1) s) fn off)))
        (hostArrives (fn + 1) s)) ∧
      exec (.configRequest fn true off v false) s = .next (sendTlp fn (.cpl fn .success []) (cfgWrite fn off v (hostArrives (fn + 1) s))))) ∧
  (∀ (lane : Nat) (s : State), lane < 16 → s.power.hostBif = false → portLive s 0 = true → (s.port 0).linkUp = true →
    (s.port 0).badGroups = [] → (s.port 0).width = 16 →
    exec (.hostSerdesLaneFail lane) s = .next (takeover (sourceOf 0 0x05) 1 (if l0pEnabled s 0 then 200 else 800) 0x1001
      (recordEvent 0x1001 [0, (s.port 0).speed, 8, 0]
        ((s.setPort 0 { s.port 0 with badGroups := [lane / 4] }).setPort 0 { s.port 0 with badGroups := [lane / 4], width := 8 }))))

/-- 03 R80, R81, R93, R94 and R96; 04 R137; 05 R163. -/
def Obligations.FunctionAndLinkStatesComplete : Prop :=
  (∀ (fn : Nat) (s : State), cfgLive s fn = true → (s.port (ctlPort s (fn + 1))).rrs = false →
    exec (.d3hotEntry fn) s = .next (s.setFn fn { s.fn fn with d3hot := true }) ∧
    (∃ t, exec (.d0Return fn) s = .next t ∧ (t.fn fn).d3hot = false) ∧
    (∃ t, exec (.flr fn) s = .next t ∧ (t.ctl (fn + 1)).ccEn = false ∧ (t.ctl (fn + 1)).rdy = false ∧ (t.ctl (fn + 1)).sqs = [] ∧
      (t.ctl (fn + 1)).cre = false ∧ (t.ctl (fn + 1)).cmse = false ∧ (t.fn fn).cfg = [] ∧ (t.fn fn).unmasked = [])) ∧
  (∀ (port : Nat) (s : State), portLive s port = true →
    ((s.port port).linkUp = true → (s.port port).l1 = none → l0pEnabled s port = true →
      exec (.l0pEntry port) s = .next (s.setPort port { s.port port with l0p := true })) ∧
    exec (.l0pExit port) s = .next (s.setPort port { s.port port with l0p := false }) ∧
    ((s.port port).linkUp = true → linkQuiet s port = true → l1Enabled s port = true →
      exec (.l1Entry port 0) s = .next (s.setPort port { s.port port with l1 := some 0 }) ∧
      (l1SubEnabled s port 2 = true →
        exec (.l1Entry port 2) s = .next (if ltrThreshold s port ≤ (s.port port).ltrUs * 1000
          then s.setPort port { s.port port with l1 := some 2 } else s))) ∧
    exec (.l1Exit port) s = .next (s.setPort port { s.port port with l1 := none })) ∧
  (∀ (fn off : Nat) (rid : BitVec 16) (s : State), barLive s (fn + 1) = true →
    exec (.poisonedBarWrite fn 0 off rid) s = .next (recordEvent 0x1004 [0, off, rid.toNat, 0] (aerUncorrected fn 12 (hostArrives (fn + 1) s))) ∧
    exec (.poisonedBarWrite fn 4 off rid) s = .next (recordEvent 0x1004 [4, off, rid.toNat, 0] (aerUncorrected fn 12 (hostArrives (fn + 1) s))) ∧
    exec (.poisonedBarWrite fn 2 off rid) s = .next (inboundBar2 true
      { fn := fn, rid := rid, offset := off / 512 * 512, len := 512, data := zeros 512, poisoned := true } s)) ∧
  (∀ (fn addr : Nat) (s : State), hubAnswers s = true → ctlExists s (fn + 1) = true → inBar s fn addr = false ∨ (s.fn fn).d3hot = true →
    exec (.unsupportedAddressRequest fn addr) s = .next (sendTlp fn (.cpl fn .unsupportedRequest []) (aerAdvisory fn (some 20) s))) ∧
  (∀ (ctl id v : Nat) (s : State), barLive s ctl = true →
    (∃ t, exec (.sqTailDoorbell ctl id v) s = .next t ∧ (t.port (ctlPort s ctl)).l1 = none ∧ (t.port (ctlPort s ctl)).l0p = false ∧
      t.mode.ps = if 3 ≤ s.mode.ps then s.mode.lastOpPs else s.mode.ps) ∧
    (∃ t, exec (.cqHeadDoorbell ctl id v) s = .next t ∧ (t.port (ctlPort s ctl)).l1 = none ∧ (t.port (ctlPort s ctl)).l0p = false ∧
      t.mode.ps = if 3 ≤ s.mode.ps then s.mode.lastOpPs else s.mode.ps))

/-- 01 R21 to R31, 03 R72, 06 R185, 15 R424, R425 and R432: which level absorbs each fault. -/
def Obligations.FabricFaultsTakeTheirLevel : Prop :=
  ∀ s : State, s.hubPowered = true →
    (∀ region reason, region < 4 → region ∉ s.cache.fenced → switching s = false →
      exec (.regionFault region reason) s = .next (noteAll s (sendHeld (fenceRegion region reason s)))) ∧
    (∀ region reason link, switching s = true →
      exec (.regionFault region reason) s = .next (deferEvent (.regionFault region reason) s) ∧
      exec (.glildoLinkStall link) s = .next (deferEvent (.glildoLinkStall link) s)) ∧
    (∀ region, region ∈ s.cache.remirroring →
      ∃ t, exec (.remirrorComplete region) s = .next t ∧ region ∉ t.cache.remirroring ∧ t.mode = s.mode) ∧
    (∀ link, 4 ≤ link → link < 8 → (s.link link).fenced = false → s.fabric.transit = [] → switching s = false → ringJoined (fenceLinks [link] s) s.cache.fenced = true →
      ∃ t, exec (.glildoLinkStall link) s = .next (noteAll s t) ∧ (t.link link).fenced = true ∧ t.mode.mode = s.mode.mode ∧
        t.mode.lastLevel = 2) ∧
    (∀ link sub, link < 8 → sub < 16 → (s.link link).fenced = false → sub ∉ (s.link link).bad → s.guard.finj.armed = none →
      s.fabric.transit = [] →
      ((s.link link).replays = [] →
        ∃ t, exec (.glildoFlitError link sub) s = .next (noteAll s t) ∧ t.guard.residue = s.guard.residue + 1 ∧
          (t.link link).replays = [(sub, s.now)] ∧ (t.link link).bad = (s.link link).bad) ∧
      (∀ a b, (s.link link).replays = [(sub, a), (sub, b)] → s.now ≤ a + 1000000 → s.now ≤ b + 1000000 → (s.link link).bad = [] →
        ∃ t, exec (.glildoFlitError link sub) s = .next (noteAll s t) ∧ (t.link link).bad = [sub] ∧ (t.link link).spareUsed = true)) ∧
    (∀ half, half < 2 → s.mode.halfDown.length = 2 → s.mode.halfDown.getD half false = false → halfWhole s (1 - half) = true →
      ∃ t, exec (.hubHalfFault half) s = .next t ∧ t.mode.halfDown = s.mode.halfDown.set half true ∧ t.mode.activeHalf = 1 - half ∧
        t.mode.mode = s.mode.mode ∧ t.mode.lastLevel = 3) ∧
    (∀ half, half < 2 → tblFind s.guard.lockstepAt (0, half) = none →
      ∃ t, exec (.lockstepMismatch 0 half) s = .next t ∧ t.mode.halfDown = s.mode.halfDown ∧ t.mode.lastLevel = 1 ∧
        tblFind t.guard.lockstepAt (0, half) = some s.now) ∧
    (∀ src : BitVec 8, tblFind s.guard.mod15At src.toNat = none → tblFind s.guard.noted (src.toNat, 0x8021) = none →
      ∃ t, exec (.mod15Mismatch src) s = .next t ∧ t.guard.mod15 = s.guard.mod15 + 1 ∧ t.guard.quarantined = s.guard.quarantined ∧
        tblFind t.guard.mod15At src.toNat = some s.now) ∧
    (∀ half, half < 2 → s.mode.cryptoDown.length = 2 → s.mode.cryptoDown.getD half false = false → s.mode.cryptoDown.getD (1 - half) false = false →
      s.mode.halfDown.getD (1 - half) false = false →
      (∃ t, exec (.cryptoResidueMismatch half false) s = .next t ∧ t.guard.residue = s.guard.residue + 1 ∧
        t.mode.cryptoDown = s.mode.cryptoDown) ∧
      ∃ t, exec (.cryptoResidueMismatch half true) s = .next t ∧ t.mode.cryptoDown = s.mode.cryptoDown.set half true ∧
        t.mode.mode = s.mode.mode ∧ t.mode.lastLevel = 1)

/-- 01 R33 to R36. The lines of an offset not yet begun are zero. -/
def Obligations.ParityLinesAreTheSums : Prop :=
  ∀ (src region block : Nat) (tag : FlitTag) (data : Bytes) (s : State) (b : PBlock),
    s.hubPowered = true → src ≤ 4 → src ∉ s.cache.fenced → s.fabric.transit = [] → s.guard.finj.armed = none →
    (∀ l ∈ routeOf s src region tag.stream.toNat, (s.link l.1).fenced = false ∧ hasCredit s l = true) → region < 4 → block < 9 → region ∉ s.cache.fenced → s.pblock region block = b → b.active = true →
    b.gated = false →
    let key := (tag.stream.toNat, tag.foff.toNat)
    let old := tblGet b.lines key zeroLine
    let d := fitBytes 64 data
    let p := xorBytes old.p d
    let q := xorBytes old.q (gmulBytes tag.coefA d)
    let t := xorBytes old.t (gmulBytes tag.coefB d)
    (tag.fres ≠ flitResidue d →
      ∃ r, exec (.parityOperand { src := src, region := region } block tag data .good none) s = .next r ∧ r.guard.residue = s.guard.residue + 1 ∧
        r.pblock region block = b) ∧
    (tag.fres = flitResidue d → tag.op.toNat = 0 → tagRejected b tag = false →
      ∃ r, exec (.parityOperand { src := src, region := region } block tag data .good none) s = .next (noteAll s r) ∧
        r.out = Out.flit region block (packTag tag) d :: s.out ∧ r.pblock region block = b) ∧
    (∀ u, tag.fres = flitResidue d → tagRejected b tag = false → tag.op.toNat ≠ 0 → tblFind b.setups tag.stream.toNat = some u → key ∉ b.finished →
      b.waiting = [] → (tblHas b.lines key = true ∨ lineFree b tag.stream.toNat = true) →
      (old.count + 1 < u.count →
        ∃ r l, exec (.parityOperand { src := src, region := region } block tag data .good none) s = .next (noteAll s r) ∧ r.out = s.out ∧
          tblGet (r.pblock region block).lines key zeroLine = l ∧ l.p = p ∧ l.q = q ∧ l.t = t ∧ l.count = old.count + 1 ∧
          ∀ k, k ≠ key → tblGet (r.pblock region block).lines k zeroLine = tblGet b.lines k zeroLine) ∧
      (u.count ≤ old.count + 1 → marksOk u.count (accumulate tag d old) = true →
        ∃ r, exec (.parityOperand { src := src, region := region } block tag data .good none) s = .next (noteAll s r) ∧
          r.out = (if u.check then Out.checkFlag region block key.1 key.2 ((p ++ q ++ t).all fun x => decide (x = 0))
            else Out.parity region block key.1 key.2 p q t) :: s.out ∧
          key ∈ (r.pblock region block).finished)) ∧
    (tag.fres = flitResidue d → tagRejected b tag = true → b.rejected = [] →
      ∃ r, exec (.parityOperand { src := src, region := region } block tag data .good none) s = .next (noteAll s r) ∧
        r.out = Out.reissue region block tag.stream.toNat :: s.out ∧
        tblFind (r.pblock region block).setups tag.stream.toNat = none ∧ (r.pblock region block).active = true ∧
        ∀ k, k.1 = tag.stream.toNat → tblFind (r.pblock region block).lines k = none)

/-! ## Gauge and scheduler (13, 14) -/

/-- 14 R388 to R393, R397, R406 and R412, 01 R31. The unit of the count is 1/24,000 µA·ms, so the allowance of 0.1 % a day is FCC in µAh. -/
def Obligations.PackIsSampledAndCounted : Prop :=
  (∀ (therm id : Nat) (s : State), s.mode.mode ≠ .ship → s.power.sentinelDown = false → s.power.sentinelOff = false →
    (500000 < therm ∨ 500000 < id →
      (s.gauge.openRun < 4 → exec (.gaugePinSample therm id) s =
        .next { s with gauge := { s.gauge with openRun := s.gauge.openRun + 1, closedRun := 0 } }) ∧
      (4 ≤ s.gauge.openRun → s.gauge.present = true →
        ∃ t, exec (.gaugePinSample therm id) s = .next t ∧ t.gauge.present = false ∧ t.gauge.idCode = none ∧ t.power.chgEn = false ∧
          t.gauge.huReady = false)) ∧
    (therm ≤ 500000 → id ≤ 500000 → s.gauge.present = false → 4 ≤ s.gauge.closedRun →
      exec (.gaugePinSample therm id) s = .next (countGaugeLog { s with gauge := { s.gauge with
        openRun := 0, closedRun := 5, present := true, identifying := true, idSamples := [] } })) ∧
    (∀ ua : Int, s.gauge.cal.senseGain = 16777216 → s.gauge.cal.senseOffset = 0 → s.gauge.learning = .idle →
      exec (.gaugeCurrentSample ua) s = .next { s with gauge := { s.gauge with
        charge := min ((s.gauge.charge : Int) - ua * 24000 - s.gauge.fccUah).toNat (fccUnits s.gauge.fccUah) } })) ∧
  (∀ s : State, s.gauge.present = true → s.gauge.idCode.isSome = true → s.power.sentinelDown = false → atRest s.gauge = true →
    ∃ t, exec .packRestReanchor s = .next t ∧ t.gauge.charge = chargeOf s.gauge.fccUah s.gauge.socV ∧ t.gauge.rested = true ∧
      t.gauge.fccUah = s.gauge.fccUah ∧ t.mode = s.mode) ∧
  (∀ s : State, s.gauge.tempWait = true → -200 ≤ s.gauge.tempDc → s.gauge.tempDc ≤ 600 →
    exec .packTempWindowReturn s = .next (countGaugeLog { s with gauge := { s.gauge with tempWait := false, tempOk := true } })) ∧
  (∀ s : State, ∃ t, exec .sentinelFault s = .next t ∧ t.power.sentinelDown = true ∧ t.gauge.gaugeOk = false ∧ t.gauge.huReady = false ∧
    t.gauge.huLimit = 0 ∧
    (s.mode.shutDone = false ∨ s.cache.writeThrough = true → t.cache.writeThrough = true)) ∧
  (∀ (ref : CmdRef) (s : State), mayCommit s ref = true → ref.sqid = 0 →
    exec (.calibrationAccessRead ref 16) s = .next (commitCmd ref 0 0 (sendData ref (calBytes s.gauge.cal) s)) ∧
    (∃ t, exec (.shipEnterArm ref) s = .next t ∧ t.power.shipArmed = true ∧
      ∃ l n, learnedCurrent t.gauge = some (l, n) ∧ l.fccUah = s.gauge.fccUah) ∧
    ∃ t, exec (.shipEnterDisarm ref) s = .next t ∧ t.power.shipArmed = false ∧ t.gauge.slot0 = s.gauge.slot0)

/-- 14 R395, R409 and R410. `readyButLimit` is the conjunction of every condition of R409 but the last. -/
def Obligations.HoldupReadyMeansItsConditions : Prop :=
  ∀ (read : GaugeRead) (s : State), s.mode.mode ≠ .ship → s.power.sentinelOff = false →
    ∃ t, exec (.gaugeEvaluation read) s = .next t ∧
      t.gauge.huReady = (readyButLimit t && decide (16384 ≤ t.gauge.huLimit)) ∧ (readyButLimit t = false → t.gauge.huLimit = 0) ∧
      (s.power.sentinelDown = true → t.gauge.gaugeOk = false) ∧
      (s.power.sentinelDown = false → t.gauge.gaugeOk = true ∧ t.gauge.tempDc = read.tempDc ∧ 
        t.gauge.currentMa = calCurrent s.gauge.cal (1000 * read.currentMa) / 1000)

/-- 14 R399, R401, R404 and R411. `endLearning` writes the learned slot and records event 0x7007 with its outcome. -/
def Obligations.PathTestAndLearningComplete : Prop :=
  (∀ s : State, (s.serving = true ∨ s.mode.mode = .boot) → s.power.mainPg = true → s.gauge.pathTest = false → s.power.sentinelDown = false →
    exec .pathTestStart s = .next { s with
      gauge := { s.gauge with pathTest := true }
      power := { s.power with huEn := true } }) ∧
  (∀ (peak dv di : Nat) (ok : Bool) (s : State), s.gauge.pathTest = true →
    ∃ t, exec (.pathTestEnd peak ok dv di) s = .next t ∧ t.power.huEn = false ∧ t.gauge.pathTest = false ∧
      t.gauge.pathPassed = (decide (1000 ≤ peak) && ok) ∧ t.gauge.pathAt = (if 1000 ≤ peak ∧ ok = true then s.now else s.gauge.pathAt)) ∧
  (∀ s : State, s.power.chgEn = true →
    exec .chargeTermination s = .next (countGaugeLog { s with
      power := { s.power with chgEn := false }
      gauge := { s.gauge with fullCharge := true } })) ∧
  (∀ (code : Nat) (s : State), s.gauge.idCode = some code → s.mode.mode = .serve → 100 ≤ s.gauge.tempDc → s.gauge.tempDc ≤ 450 →
    s.gauge.learnEn = true → s.gauge.fullCharge = true → (s.gauge.rested = true ∨ isLfp code = true) → s.gauge.learning = .idle →
    s.gauge.present = true →
    ∃ t, exec .learningStart s = .next t ∧ t.gauge.learning = .discharging ∧ t.gauge.learnDq = 0 ∧ t.power.learnLoadEn = true ∧
      t.power.chgEn = false ∧ t.gauge.learnS1 = (if isLfp code then frac 1 1 else s.gauge.socV)) ∧
  (∀ s : State, s.gauge.learning = .discharging → s.gauge.learnEn = true →
    exec .learningDischargeStop s = .next { s with
      gauge := { s.gauge with learning := .resting, rested := false }
      power := { s.power with learnLoadEn := false } }) ∧
  (∀ (code fcc : Nat) (s : State), s.gauge.idCode = some code → s.gauge.learning = .resting → s.gauge.learnEn = true →
    s.gauge.rested = true →
    (fLt (fSub s.gauge.learnS1 s.gauge.socV) (frac 30 100) = true →
      ∃ t, exec .learningEnd s = .next t ∧ t.gauge.learning = .idle ∧ t.gauge.fccUah = s.gauge.fccUah ∧ t.gauge.cycles = s.gauge.cycles) ∧
    (fLt (fSub s.gauge.learnS1 s.gauge.socV) (frac 30 100) = false →
      fcc = (fFloor (fDiv (frac s.gauge.learnDq (3600000 * 24000)) (fSub s.gauge.learnS1 s.gauge.socV))).toNat →
      nameCapUah code ≤ 2 * fcc → 10 * fcc ≤ 11 * nameCapUah code →
      ∃ t, exec .learningEnd s = .next t ∧ t.gauge.learning = .idle ∧ t.gauge.fccUah = fcc ∧ t.gauge.learned = true ∧
        t.gauge.cycles = s.gauge.cycles + 1)) ∧
  (∀ (ok : Bool) (s : State), s.power.sentinelDown = false → s.power.sentinelOff = false →
    ∃ t, exec (.learnedSlotWrite ok) s = .next t ∧
      (match learnedCurrent s.gauge with
        | some (_, 0) => t.gauge.slot0 = s.gauge.slot0
        | _ => t.gauge.slot1 = s.gauge.slot1) ∧
      (ok = true → ∃ l n, learnedCurrent t.gauge = some (l, n) ∧ l.fccUah = s.gauge.fccUah ∧ l.learned = s.gauge.learned))

/-- 13 R379 and 18 R513: what the procedure grants. Requests run TRUMP, HOST, REBUILD, RESYNC, REDEAL, PATROL, SANITIZE. -/
def Obligations.GrantsKeepTheFloors : Prop :=
  ∀ (budget fixed debt : Int) (floors : List Nat) (reqs : List Int), reqs.length = 7 → (∀ r ∈ reqs, 0 ≤ r) →
    let g := decideGrants budget fixed debt floors reqs
    let beyond := budget - fixed - debt - reqs.getD 0 0
    let left := max 0 beyond
    let total := floors.foldl (· + ·) 0
    floors.length = 6 →
    g.bWork = budget - fixed - debt ∧ g.debt = max 0 (-beyond) ∧ g.left = left ∧ g.grant.length = 7 ∧
    g.grant.getD 0 0 = reqs.getD 0 0 ∧
    (∀ c, 1 ≤ c → c < 7 → g.grant.getD c 0 ≤ reqs.getD c 0 ∧
      min (reqs.getD c 0) ((floors.getD (c - 1) 0 : Int) * left / (max 100 total : Nat)) ≤ g.grant.getD c 0) ∧
    ((g.grant.drop 1).foldl (· + ·) 0 + g.spare = left) ∧ 0 ≤ g.spare

/-- 13 R367, R368, R369 and R381: the voltages that a window sets. A domain without an entry in the list of setpoints stands at 750 mV. -/
def Obligations.WindowMovesVoltagesTwentyMillivolts : Prop :=
  ∀ (m : WindowMeas) (s : State), s.hubPowered = true →
    let holds := fun d => m.avsAck.getD d true = false ∧ s.sched.nacks.getD d 0 = 2
    ∃ t, exec (.schedulerWindow m) s = .next t ∧ t.sched.windows = s.sched.windows + 1 ∧
      ∀ d, d < 5 →
        (holds d → s.sched.vset.length = 5 → t.sched.vset.getD d 750 = s.sched.vback.getD d 750) ∧
        (¬ holds d →
          t.sched.vset.getD d 750 ≤ s.sched.vset.getD d 750 + 20 ∧ s.sched.vset.getD d 750 ≤ t.sched.vset.getD d 750 + 20 ∧
          (d ∈ s.sched.held → m.avsAck.getD d true = false → t.sched.vset.getD d 750 = s.sched.vset.getD d 750) ∧
          (s.mode.mode = .holdup → t.sched.vset.getD d 750 = s.sched.vset.getD d 750))

/-- 13 R371, R373, R376, R382; 05 R164; 19 R527 and R531. -/
def Obligations.PowerMeasuresAndIdleStatesComplete : Prop :=
  (∀ s : State, s.hubPowered = true →
    (∀ mw, exec (.pmbusPowerRead mw) s = .next { s with sched := { s.sched with otherMw := mw } }) ∧
    (s.sched.startup = true → s.mode.mode ≠ .holdup →
      exec .startupCapEnd s = .next (recordEvent 0x6001 [0, 0, 0, 0] { s with sched := { s.sched with startup := false } })) ∧
    (∀ die, die < 5 → die ∉ s.sched.missing →
      ∃ t, exec (.dieTempMissing die) s = .next t ∧ t.sched.missing = die :: s.sched.missing ∧ t.mode.takeovers = min 0xFFFFFFFF (s.mode.takeovers + 1) ∧
        t.mode.mode = s.mode.mode) ∧
    (∀ ch, ch < 8 → s.feats.memSrUs ≠ 0 → s.cache.level < 3 → (s.chan ch).trained = true → (s.chan ch).failed = false →
      (s.chan ch).selfRefresh = false →
      ∃ t, exec (.memSelfRefreshEntry ch) s = .next t ∧ (t.chan ch).selfRefresh = true ∧ t.sched.srEntries = s.sched.srEntries + 1) ∧
    (∀ region block, region < 4 → block < 9 → s.feats.blockGateUs ≠ 0 → (s.pblock region block).active = true →
      (s.pblock region block).gated = false → (s.pblock region block).lines = [] → (s.pblock region block).waiting = [] →
      ∃ t, exec (.parityBlockGate region block) s = .next t ∧ (t.pblock region block).gated = true ∧
        (t.pblock region block).active = true ∧ t.sched.gateEntries = s.sched.gateEntries + 1)) ∧
  (∀ (ctl idle : Nat) (s : State), s.serving = true → ctlExists s ctl = true → apstOn (s.ctl ctl) = true → idle ≠ 0 → s.mode.ps < 3 →
    (∀ id ∈ s.ctlIds, openCount (s.ctl id) = 0) →
    (tblFind (s.ctl ctl).apst s.mode.ps = some (3, idle) →
      ∃ t, exec (.apstTransition ctl) s = .next t ∧ t.mode.ps = 3 ∧ t.mode.lastOpPs = s.mode.ps) ∧
    (tblFind (s.ctl ctl).apst s.mode.ps = some (4, idle) →
      ∃ t, exec (.apstTransition ctl) s = .next t ∧
        (if anyDirty s then t.mode.ps = s.mode.ps ∧ t.mode.psTarget = some 4 else t.mode.ps = 4 ∧ t.mode.lastOpPs = s.mode.ps))) ∧
  (∀ (die : Nat) (temp : Int) (s : State), s.power.sentinelDown = false →
    (s.mode.mode ≠ .ship → 1200 ≤ temp → s.power.thermTrip = false →
      ∃ t, exec (.thermtripAssert die temp) s = .next t ∧ t.power.thermTrip = true ∧ t.out = .pin "THERMTRIP_N" false :: s.out) ∧
    (temp < 1000 → s.power.thermTrip = true →
      ∃ t, exec (.thermtripRelease die temp) s = .next t ∧ t.power.thermTrip = false ∧ t.out = .pin "THERMTRIP_N" true :: s.out)) ∧
  (∀ s : State, s.power.sentinelOff = false → s.power.crystalStopped = false →
    exec .crystalStop s = .next (recordEvent 0x6023 [0, 0, 0, 0] { s with power := { s.power with crystalStopped := true } })) ∧
  (∀ s : State, exec .crystalRunsAgain s = .next { s with power := { s.power with crystalStopped := false } })

/-! ## Cache, journal and hand updates (04, 06, 09) -/

/-- 06 R179 to R183, R189 and R193: the life of a write. -/
def Obligations.WritesAreStagedThenSwitched : Prop :=
  (∀ (a : IoArgs) (data md : Bytes) (s : State) (e : RobEntry) (v : Volume) (d : Deck),
    robOf s a.ref = some e → ioOpen s a.ref = true → e.job = none → metaHeld s a.nsid = false → rangeStatus s a true = 0 →
    s.vol a.nsid = some v → s.deck v.deckId = some d →
    let held := fun (o : Host.Outcome State Fault Refusal) =>
      ∃ t r j, o = .next t ∧ robOf t a.ref = some r ∧ r.job = some j ∧ r.committed = false ∧ r.nsid = a.nsid ∧
        j.journaled = s.cache.writeThrough ∧ (j.step = .staged ∨ j.step.hasFrames = false)
    let b := cmbArgs s v a
    let x := hostTransfer s v b data md
    (checkIo s v false b = .good → dataPoisoned s a.ref.ctl (ioPieces (s.ctl a.ref.ctl).mps v b) = false →
      (∀ md', protectWrite v a.pi a.pract (a.nlb + 1) x.1 x.2 = .ok md' → held (exec (.ioWrite a data md) s)) ∧
      (∀ er, protectWrite v a.pi a.pract (a.nlb + 1) x.1 x.2 = .error er → exec (.ioWrite a data md) s = .next (failPi a.ref er s))) ∧
    held (exec (.ioWriteZeroes a) s)) ∧
  (∀ (ref : CmdRef) (nsid : Nat) (dealloc : Bool) (given rs : List DsmRange) (s : State) (e : RobEntry) (v : Volume) (d : Deck),
    rs = heldRanges s ref given → robOf s ref = some e → ioOpen s ref = true → e.job = none → metaHeld s nsid = false → volStatus s ref.ctl nsid true = 0 →
    s.vol nsid = some v → s.deck v.deckId = some d → rs ≠ [] → rs.length ≤ 256 →
    rs.foldl (fun n r => n + r.len) 0 * (volFormat v).1 ≤ 2 * 1048576 → (∀ r ∈ rs, r.slba + r.len ≤ v.nsze) →
    ∃ t r j, exec (.ioDatasetManagement ref nsid dealloc given) s = .next t ∧ robOf t ref = some r ∧ r.job = some j ∧ r.committed = false ∧
      (dealloc = false → j.parts = [])) ∧
  (∀ (ref : CmdRef) (s : State) (e : RobEntry) (j : WriteJob), robOf s ref = some e → e.job = some j →
    (j.step.hasFrames = false → isOpen s ref = true → exec (.writeAdmit ref) s = .next (tryStage ref j.parts s)) ∧
    (∀ v d, s.vol e.nsid = some v → s.deck v.deckId = some d → recDurable s v.deckId d j.jseq = true → j.step = .recordSent → isOpen s ref = true →
      ∃ t r k, exec (.dataRecordDurable ref) s = .next t ∧ robOf t ref = some r ∧ r.job = some k ∧ k.step = .recordDurable ∧
        k.parts = j.parts) ∧
    ((if j.journaled then j.step = .recordDurable else j.step = .staged) → mayCommit s ref = true →
      ∃ t r, exec (.directorySwitch ref) s = .next t ∧ robOf t ref = some r ∧ r.committed = true ∧ r.status = 0 ∧ r.job = none)) ∧
  (∀ (ref : CmdRef) (s : State) (q : Sq) (e : RobEntry) (j : WriteJob) (v : Volume) (d : Deck),
    findSq (s.ctl ref.ctl) ref.sqid = some q → robOf s ref = some e → e.job = some j → j.journaled = true → j.step = .staged →
    isOpen s ref = true → earlierDurable q.rob ref.cid = true → overlapAhead s ref (jobPages j) = false → s.vol e.nsid = some v →
    s.deck v.deckId = some d → ringTakesData d (recBlocks (.data ref.ctl ref.sqid e.nsid false (jobRecord j.parts))) = true →
    indexRoom s v.deckId 0 = true → s.serving = true →
    ∃ n u, exec (.dataRecordSend ref) s = .next (noteAll s (putJob ref { j with step := .recordSent, jseq := n } u)) ∧
      (n, u) = appendRec v.deckId (.data ref.ctl ref.sqid e.nsid false (jobRecord j.parts)) true (clearCleanStop v.deckId s)) ∧
  (∀ (ns vpage region : Nat) (s : State),
    exec (.mergeSuperseded ns vpage) s = .next { s with cache := accessPages [(ns, vpage)] (mergePage ns vpage s.cache) } ∧
    (region < 4 → exec (.epochClose region) s = .next (retryStalled { s with cache := closeEpoch region s.cache })))

/-- 04 R118 and R135; 06 R177, R178 and R181. `resolvePage` picks the newest version of each sector. -/
def Obligations.ReadsServeTheNewestVersions : Prop :=
  (∀ (a : IoArgs) (s : State) (e : RobEntry) (v : Volume) (d : Deck),
    robOf s a.ref = some e → ioOpen s a.ref = true → isTurn s a.ref = true → (∀ j ∈ s.reads, j.ref ≠ a.ref) → metaHeld s a.nsid = false →
    rangeStatus s a false = 0 → s.vol a.nsid = some v → s.deck v.deckId = some d → v.nsid = a.nsid → a.nsid ≠ 0 →
    (s.ctl a.ref.ctl).late = [] →
    let b := cmbArgs s v a
    let pieces := ioPieces (s.ctl a.ref.ctl).mps v b
    let r := byteRanges d.label.shape v a.slba (a.nlb + 1)
    let ps := (pagesOf r.1.1 r.1.2).map (fun p => resolvePage s.cache (v.nsid - 1) p (wantMask p r.1.1 r.1.2)) ++
      (pagesOf r.2.1 r.2.2).map fun p => resolvePage s.cache (v.nsid - 1) p (wantMask p r.2.1 r.2.2)
    let data := pagesBytes ps r.1.1 r.1.2
    let md := pagesBytes ps r.2.1 r.2.2
    (∀ p ∈ ps, p.missing = 0 ∧ p.poison = 0) →
    (∀ er, piCheck v a.pi (a.nlb + 1) data md = some er →
      ∃ t x, exec (.ioVerify a) s = .next t ∧ t.out = s.out ∧ robOf t a.ref = some x ∧ x.committed = e.committed ∧
        x.doom = some (piStatus er)) ∧
    (piCheck v a.pi (a.nlb + 1) data md = none →
    (checkIo s v true b = .good → (∀ x ∈ pieces, ∃ addr, x.1 = some addr ∧ inCmb (s.ctl a.ref.ctl) addr x.2 = none) →
      ∃ t x host, exec (.ioRead a) s = .next t ∧ host = joinTransfer v (a.nlb + 1) a.pract data md ∧
        (host ≠ [] → t.out = (sendData a.ref host s).out) ∧ robOf t a.ref = some x ∧ x.committed = true ∧ x.status = 0) ∧
    (∃ t x, exec (.ioVerify a) s = .next t ∧ t.out = s.out ∧ robOf t a.ref = some x ∧ x.committed = true ∧ x.status = 0) ∧
    (∀ dat m, checkIo s v false b = .good →
      let given := hostTransfer s v b dat m
      (given = (data, md) →
        ∃ t x, exec (.ioCompare a dat m) s = .next t ∧ t.out = (requestPieces a.ref pieces s).out ∧ robOf t a.ref = some x ∧
          x.committed = true ∧ x.status = 0) ∧
      (given.1 ≠ data →
        ∃ t x, exec (.ioCompare a dat m) s = .next t ∧ t.out = (requestPieces a.ref pieces s).out ∧ robOf t a.ref = some x ∧
          x.committed = e.committed ∧ x.doom = some 0x285)))) ∧
  (∀ (ref : CmdRef) (nsid : Nat) (s : State) (q : Sq) (e : RobEntry) (rest : List RobEntry),
    findSq (s.ctl ref.ctl) ref.sqid = some q → q.rob = e :: rest → e.cid = ref.cid → ioOpen s ref = true →
    nsid ≠ 0xFFFFFFFF → volStatus s ref.ctl nsid false = 0 → sanitizeBar s = 0 →
    exec (.ioFlush ref nsid) s = .next (commitCmd ref 0 0 s) ∧ exec (.ioFlush ref 0xFFFFFFFF) s = .next (commitCmd ref 0 0 s)) ∧
  (∀ (ns vpage : Nat) (own : Option BlockRead) (others : List BlockRead) (s : State) (v : Volume) (d : Deck) (hand row chunk : Nat), (ns, vpage) ∈ s.cache.fills →
    s.vol (ns + 1) = some v → s.deck v.deckId = some d → fillPlace d v vpage = some (hand, row, chunk) →
    let reads := own.toList ++ others
    let brought := atHand s v.deckId d hand row reads
    let lost := (List.range (widthOf d.label.shape)).filter fun x =>
      !tblHas brought x && (chunkMissing d hand x || reads.any fun r => decide (r.row = row) && decide (r.chunk = x))
    let lock := decodeReq hand ns vpage
    let charged := chargeTags d hand row reads s
    let served := fun (o : Host.Outcome State Fault Refusal) => ∃ t, o = .next (settleAll t) ∧ (ns, vpage) ∉ t.cache.fills
    let end_ := exec (.fillComplete ns vpage own others) s
    (tblHas brought chunk = true → served end_) ∧
    (tblHas brought chunk = false →
      (aboveResync d hand = true → end_ = .next (settleAll (endLock v.deckId lock charged))) ∧
      (aboveResync d hand = false → lockGranted s v.deckId d lock = false → end_ = .next (settleAll (askLock v.deckId lock charged))) ∧
      (aboveResync d hand = false → lockGranted s v.deckId d lock = true →
        (d.label.shape.m < lost.length ∨ (rowOld d brought).isSome = true) → served end_)))

/-- 06 R197 to R203: the Controller Memory Buffer and the peer windows. -/
def Obligations.MemoryBufferAndWindowsComplete : Prop :=
  (∀ (ctl cba : Nat) (cmse : Bool) (s : State), barLive s ctl = true →
    let set := { s.ctl ctl with cre := true, cmse := cmse, cba := cba, cbai := cmse && decide (cba % 2 ^ 30 ≠ 0) }
    let limit := dirtyLimitOf (s.setCtl ctl set)
    ((s.ctl ctl).cre = false → dirtyCount s ≤ limit →
      ∃ t, exec (.cmbmscWrite ctl true cmse cba) s = .next t ∧ t.ctl ctl = set ∧ t.cache.limit = limit ∧ t.cache.cmbRefused = false) ∧
    ((s.ctl ctl).cre = false → limit < dirtyCount s →
      ∃ t, exec (.cmbmscWrite ctl true cmse cba) s = .next t ∧ (t.ctl ctl).cre = false ∧ t.cache.limit = s.cache.limit ∧
        t.cache.cmbRefused = true) ∧
    ((s.ctl ctl).cre = true →
      ∃ t, exec (.cmbmscWrite ctl false cmse cba) s = .next t ∧ (t.ctl ctl).cre = false ∧ t.cache.cmbRefused = false)) ∧
  (∀ (tlp : Bar2Tlp) (s : State), barLive s (tlp.fn + 1) = true → winPending (s.ctl (tlp.fn + 1)) = false →
    (s.ctl (tlp.fn + 1)).stalled = [] → (s.ctl (tlp.fn + 1)).late = [] →
    (cmbEnabled (s.ctl (tlp.fn + 1)) = false →
      (∃ t, exec (.bar2Write tlp) s = .next t ∧ t.cache = s.cache ∧ t.out = s.out ∧ t.ctl (tlp.fn + 1) = s.ctl (tlp.fn + 1)) ∧
      ∃ t, exec (.bar2Read tlp) s = .next t ∧ t.cache = s.cache ∧ t.out = .cpl tlp.fn .success (List.replicate tlp.len 0xFF) :: s.out) ∧
    (cmbEnabled (s.ctl (tlp.fn + 1)) = true →
      ((∀ n, n < 16 → ridMatches (pwin (s.ctl (tlp.fn + 1)) n).active tlp.rid = false) →
        (cmbRead (tlp.fn + 1) tlp.offset tlp.len s.cache).2 = false →
        ∃ t, exec (.bar2Read tlp) s = .next t ∧
          t.out = .cpl tlp.fn .success (cmbRead (tlp.fn + 1) tlp.offset tlp.len s.cache).1 :: s.out) ∧
      ((∀ n, n < 16 → ridMatches (pwin (s.ctl (tlp.fn + 1)) n).active tlp.rid = false) → tlp.poisoned = false →
        ∃ t, exec (.bar2Write tlp) s = .next t ∧ t.out = s.out ∧
          (∀ c, cmbWritePage (tlp.fn + 1) (tlp.offset / 4096) (tlp.offset % 4096) tlp.data false s.cache = some c →
            t.cache.dram = c.dram ∧ t.cache.dir = c.dir ∧ (t.ctl (tlp.fn + 1)).stalled = []) ∧
          (cmbWritePage (tlp.fn + 1) (tlp.offset / 4096) (tlp.offset % 4096) tlp.data false s.cache = none →
            t.cache.dram = s.cache.dram ∧ t.cache.dir = s.cache.dir ∧ (t.ctl (tlp.fn + 1)).stalled = [(true, tlp)])) ∧
      (∀ n, decodeBar2 (s.ctl (tlp.fn + 1)) tlp true = .rejected n →
        ∃ t, exec (.bar2Write tlp) s = .next t ∧ (pwin (t.ctl (tlp.fn + 1)) n).viol = true ∧
          (pwin (t.ctl (tlp.fn + 1)) n).vrid = tlp.rid ∧ t.cache = s.cache ∧ t.out = s.out) ∧
      (∀ n, decodeBar2 (s.ctl (tlp.fn + 1)) tlp false = .rejected n →
        ∃ t, exec (.bar2Read tlp) s = .next t ∧ (pwin (t.ctl (tlp.fn + 1)) n).viol = true ∧
          Out.cpl tlp.fn .completerAbort [] ∈ t.out ∧ t.cache = s.cache))) ∧
  (∀ (ctl win : Nat) (s : State), barLive s ctl = true → win < 16 →
    let w := pwin (s.ctl ctl) win
    (w.pending = true → exec (.pwinApply ctl win) s = .next (recordEvent 0x2011 [ctl, win, 2, 0] (hostArrives ctl s))) ∧
    (w.pending = false → w.staged.wbase + w.staged.wsize ≤ 262144 → w.staged.tbase + w.staged.wsize ≤ 262144 →
      ∃ t, exec (.pwinApply ctl win) s = .next t ∧ pwin (t.ctl ctl) win = { w with pending := true }) ∧
    (w.pending = false → 262144 < w.staged.wbase + w.staged.wsize ∨ 262144 < w.staged.tbase + w.staged.wsize →
      exec (.pwinApply ctl win) s = .next (recordEvent 0x2011 [ctl, win, 1, 0] (hostArrives ctl s))) ∧
    (w.pending = true → (s.ctl ctl).held = [] → (s.ctl ctl).stalled = [] →
      ∃ t, exec (.pwinActivate ctl win) s = .next t ∧ pwin (t.ctl ctl) win = { w with active := w.staged, pending := false }))

/-- 09 R252 to R269: the procedure of a hand update and the journal's commands. -/
def Obligations.HandUpdatesRunTheirSteps : Prop :=
  (∀ (deck hand owner : Nat) (reads : List BlockRead) (s : State) (d : Deck) (v : Volume),
    s.deck deck = some d → handOwner s deck hand = some (v, owner) → destageTurn s deck hand = true → (∀ h ∈ d.starting, h.hand ≠ hand) →
    let lock : LockReq := { key := hand, mode := .exclusive, user := .update }
    let unlisted := updDeck deck (fun d => { d with entryWait := d.entryWait.erase hand })
    (indexRoom s deck hand = false → lock ∉ d.granted → lock ∉ d.lockQueue → hand ∉ d.entryWait →
      exec (.handUpdateStart deck hand reads) s = .next (updDeck deck (fun d => { d with entryWait := d.entryWait ++ [hand] }) s)) ∧
    (indexRoom s deck hand = true ∨ lock ∈ d.granted ∨ lock ∈ d.lockQueue →
      (lockGranted s deck d lock = false → exec (.handUpdateStart deck hand reads) s = .next (askLock deck lock (unlisted s))) ∧
      (lockGranted s deck d lock = true →
        ∃ t u, exec (.handUpdateStart deck hand reads) s = .next (noteAll s (settleAll (startUpdate deck hand v reads u))) ∧
          u = raiseCeil deck (clearCleanStop deck (failAbsent deck hand (unlisted t))) ∧ t.decks = s.decks ∧
          t.cache = (dirtyBlocks s deck d hand).foldl (fun c x => mergePage (v.nsid - 1) x.2.2.1 c) s.cache))) ∧
  (∀ (deck wseq : Nat) (reads : List BlockRead) (s : State) (d : Deck) (i : Intent) (u : HandUpd), s.deck deck = some d →
    d.intents.find? (fun x => decide (x.wseq = wseq)) = some i → d.updates.find? (fun x => decide (x.wseq = wseq)) = some u →
    i.jseq.any (recDurable s deck d) = true → u.issued = false →
    ∃ t, exec (.intentDurable deck wseq reads) s = .next (noteAll s (settleAll (issueUpdate deck u reads t))) ∧
      ∃ d', t.deck deck = some d' ∧ (∀ x ∈ d'.intents, x.wseq = wseq → x.jseq = i.jseq → x.durable = true) ∧ d'.updates = d.updates) ∧
  (∀ (deck wseq : Nat) (s : State) (d : Deck) (u : HandUpd), s.deck deck = some d →
    d.updates.find? (fun x => decide (x.wseq = wseq)) = some u → u.second = false → d.redeal = none → u.issued = true → u.complete = false →
    u.todo = [] → handHeld s deck u.hand = false → (∀ r ∈ d.lockQueue, r.key ≠ u.hand) →
    ∃ t d', exec (.handUpdateWritesComplete deck wseq) s = .next t ∧ t.deck deck = some d' ∧ (∀ l ∈ d'.locks, l.1 ≠ u.hand) ∧
      (∀ x ∈ d'.updates, x.wseq = wseq → x.complete = true)) ∧
  (∀ (deck wseq : Nat) (s : State) (d : Deck) (u : HandUpd), s.deck deck = some d →
    d.updates.find? (fun x => decide (x.wseq = wseq)) = some u → u.complete = true → u.durable = false → flushed s d u = true →
    ∃ t, exec (.handUpdateDurable deck wseq) s = .next t ∧ ∀ d', t.deck deck = some d' → ∀ i ∈ d'.intents, i.wseq ≠ wseq) ∧
  (∀ (deck member : Nat) (entries : Bool) (s : State),
    exec (.intentBatchClose deck) s = .next (closeBatch deck s) ∧ exec (.trimBatchClose deck entries) s = .next (closeTrim deck entries s) ∧
    (∀ d0 d g u, s.deck deck = some d0 → d0.rings = [g] → g.keeper = true → 0 < g.moved → u = clearCleanStop deck s → u.deck deck = some d →
      d.rings = [g] →
      exec (.keeperHeaderWrite deck) s = .next (emitRingHeader d { g with hdrSeq := g.hdrSeq + 1, moved := 0 }
        (u.setDeck deck (putRing { g with hdrSeq := g.hdrSeq + 1, moved := 0 } d)))) ∧
    (∀ d g, s.deck deck = some d → d.rings.find? (fun r => decide (r.member = member)) = some g → g.keeper = true → g.complete = false →
      ∃ t d', exec (.replicaComplete deck member) s = .next (noteDecks (clearCleanStop deck s) (evalDeck deck t)) ∧ t.deck deck = some d' ∧
        ∃ r ∈ d'.rings, r.member = member ∧ r.complete = true)) ∧
  (∀ (slot : Nat) (s : State), (s.slot slot).unflushed = true → slotReachable (s.slot slot) = true →
    ∃ t, exec (.memberFlushDeadline slot) s = .next t ∧
      Out.memberCmd slot ((servingPort (s.slot slot)).getD 0) 0x00 0 ∈ t.out ∧ (t.slot slot).unflushed = false)

/-! ## Integrity and test (15) -/

/-- 02 R53, 06 R165 and 15 R426 to R440. `retireOne` is R434, `poisonSector` R427. -/
def Obligations.MemoryErrorsAreCountedAndRepaired : Prop :=
  (∀ (ch : Nat) (half : Bool) (s : State), s.mode.mode = .boot → ch < 8 → (s.chan ch).trained = false →
    (∃ t, exec (.memoryTrainingComplete 0 true half) s = .next t ∧
      ((s.chan 0).trained = false → (t.chan 0).trained = true ∧ (t.chan 0).selfRefresh = false ∧ t.cache.halfDensity = half)) ∧
    (half = s.cache.halfDensity → ch ≠ 0 →
      exec (.memoryTrainingComplete ch true half) s =
        .next (s.setChan ch { s.chan ch with trained := true, selfRefresh := false, half := half })) ∧
    exec (.memoryTrainingComplete ch false half) s = .next (failChannel ch 1 s)) ∧
  (∀ (region frame word : Nat) (errs : WordErrors) (again bad : Bool) (s : State) (e : DirEntry),
    entryAt s.cache region frame = some e → s.ready = true → word < 64 → bitOf e.valid (word / 8) = true → bitOf e.zero (word / 8) = false →
    (s.chan (frameChannel region frame)).failed = false → e.state ≠ .retired → (s.chan (frameChannel region frame)).marks = [] →
    (errs.metaOk = true → sumOf errs.perDevice = 0 →
      ∃ t, exec (.dramScrub region frame word errs again bad) s = .next t ∧ t.guard = s.guard ∧ t.cache.dir = s.cache.dir) ∧
    (errs.metaOk = true → 0 < sumOf errs.perDevice → sumOf errs.perDevice ≤ 4 → again = false →
      ∃ t, exec (.dramScrub region frame word errs again bad) s = .next t ∧ t.guard = { s.guard with ceSym := s.guard.ceSym + 1 } ∧
        t.cache.dir = s.cache.dir ∧ (t.chan (frameChannel region frame)).ceSym = (s.chan (frameChannel region frame)).ceSym + 1) ∧
    (wordClass none errs.perDevice = .ue →
      ∃ t, exec (.dramScrub region frame word errs again bad) s = .next t ∧ t.guard.ue = s.guard.ue + 1)) ∧
  (∀ (x : SramTarget) (f : SramFinding) (s : State), s.hubPowered = true →
    (f.bits = 1 → exec (.sramScrub x f) s = .next (aerAbsorbed { s with guard := { s.guard with sramSec := s.guard.sramSec + 1 } })) ∧
    (1 < f.bits → exec (.sramScrub x f) s = .next (recoverWord x f.copyLost (aerAbsorbed
      (recordEvent 0x8011 [x.die, x.macroNo, x.row, arrayCode x.array] { s with guard := { s.guard with sramDed := s.guard.sramDed + 1 } }))))) ∧
  (∀ (die m row : Nat) (s : State), s.hubPowered = true → die ≤ 5 → m < 1024 → row < 512 →
    let used := (s.guard.repairs.filter fun r => decide (r.die = die) && decide (r.macroNo = m)).length
    (used < 8 → s.guard.repairs.length < 1024 →
      ∃ t, exec (.sramRowRepair die m row) s = .next t ∧ t.guard.gen = s.guard.gen + 1 ∧
        t.guard.repairs.getLast? = some { void := false, die := die, macroNo := m, row := row, spare := used }) ∧
    (8 ≤ used → exec (.sramRowRepair die m row) s = .next (recordEvent 0x8013 [die, m, row, 0] s)))

/-- 15 R442 to R444. `ecctExists` says that ECCT_ADDR names a test word. -/
def Obligations.TestModeReadsBackWhatItWrites : Prop :=
  (∀ s : State, hubAnswers s = true → rwlOpen s = true →
    (s.guard.ecct.testEn = false → ∃ t, exec (.ecctTestEnSet true) s = .next t ∧ t.guard.ecct.testEn = true) ∧
    (s.guard.ecct.testEn = true → exec (.ecctTestEnSet false) s = .next (dropTestFrames (hostArrives 1 s)) ∧
      (dropTestFrames (hostArrives 1 s)).guard.ecct.testEn = false)) ∧
  (∀ s : State, hubAnswers s = true → s.guard.ecct.testEn = true → ecctExists s.guard.ecct = true → s.guard.ecct.data.length = 64 →
    ∃ t, exec .ecctWrite s = .next t ∧ t.guard.ecct.data = s.guard.ecct.data ∧
      (∃ u, exec .ecctRead t = .next u ∧ u.guard.ecct.result = 0 ∧ u.guard.ecct.syms = 0 ∧ u.guard.ecct.data = s.guard.ecct.data) ∧
      (∃ u, exec .ecctRawRead t = .next u ∧ u.guard.ecct.data = s.guard.ecct.data) ∧
      ∀ mask : Bytes, mask.length = 64 → ecctSram s.guard.ecct = false →
        ∃ u w, exec .ecctFlip { t with guard := { t.guard with ecct := { t.guard.ecct with data := mask } } } = .next u ∧
          exec .ecctRawRead u = .next w ∧ w.guard.ecct.data = xorBytes s.guard.ecct.data mask)

/-- 15 R445 to R448. `armRefusal` is the code of R446, 0 when R447 allows the descriptor. -/
def Obligations.FaultInjectionIsArmedOnce : Prop :=
  (∀ (ref : CmdRef) (d : FinjDesc) (s : State), adminTurn s ref = true →
    (armRefusal d s = 0 →
      ∃ t, exec (.finjArm (some { ref := ref, desc := d })) s = .next (commitCmd ref 0 0 t) ∧ t.guard.finj.armed = some d ∧ t.guard.finj.done = 0) ∧
    (armRefusal d s ≠ 0 →
      ∃ t, exec (.finjArm (some { ref := ref, desc := d })) s = .next (failCmd ref
          (if armRefusal d s = 1 then 0x15 else if armRefusal d s = 6 then 0x02 else 0x0C) t) ∧
        t.guard.finj = { s.guard.finj with refuse := armRefusal d s }) ∧
    (∀ len, authorised s 0 = true → len ≠ 8 → exec (.finjArm (some { ref := ref, desc := d, len := len })) s = .next (failCmd ref 0x02 s)) ∧
    (authorised s 0 = true →
      ∃ t, exec (.finjDisarm (some ref)) s = .next (commitCmd ref 0 0 t) ∧ t.guard.finj.armed = none ∧
        t.guard.finj.expired = s.guard.finj.expired) ∧
    (authorised s 0 = false → exec (.finjDisarm (some ref)) s = .next (failCmd ref 0x15 s))) ∧
  (∀ s : State, hubAnswers s = true →
    (authorised s 0 = false →
      exec (.finjArm none) s = .next (hostArrives 1 s) ∧ exec (.finjDisarm none) s = .next (hostArrives 1 s)) ∧
    (authorised s 0 = true →
      exec (.finjArm none) s = .next (armFinj (descOf s.guard.finj.bytes) (hostArrives 1 s)) ∧
      ∃ t, exec (.finjDisarm none) s = .next t ∧ t.guard.finj.armed = none)) ∧
  (∀ (d : FinjDesc) (s : State), s.guard.finj.armed = some d →
    ∃ t, exec .finjExpiry s = .next t ∧ t.guard.finj.armed = none ∧ t.guard.finj.expired = true ∧ t.guard.finj.aborted = s.guard.finj.aborted)

/-! ## Admin commands (05, 07, 12) -/

/-- 05 R150 and R153 to R155. `logPage`, `identifyData` and `getFeature` answer a status with the data. -/
def Obligations.LogsFeaturesAndIdentifyAnswer : Prop :=
  ∀ (ref : CmdRef) (s : State), adminTurn s ref = true →
    (∀ lid lsp nsid off len data, logPage s ref.ctl lid (lsp % 128) nsid = (0, data) →
      let t := commitCmd ref 0 0 (tickFree (sendData ref (sliceBytes data off len) s))
      exec (.getLogPage ref lid lsp nsid off len) s = .next (if lsp < 128 then logRead ref.ctl lid t else t)) ∧
    (∀ cns nsid cntid data, identifyData s ref.ctl cns nsid cntid = (0, data) →
      exec (.identify ref cns nsid cntid) s = .next (commitCmd ref 0 0 (tickFree (sendData ref data s)))) ∧
    (∀ fid sel cdw11 dw0 data, getFeature s ref.ctl fid sel (BitVec.ofNat 32 cdw11) = (0, dw0, data) →
      exec (.getFeatures ref fid sel cdw11) s = .next (commitCmd ref 0 dw0
        (match data with | some d => sendData ref d s | none => s))) ∧
    (∀ a : FeatureArgs,
      (a.fid = 0xC0 → capOk (low16 a.cdw11 % 256) = true →
        ∃ t, exec (.setFeatures ref a) s = .next t ∧ t.feats.capW = low16 a.cdw11 % 256 ∧
          t.feats.capSaved = (if a.sv then some (low16 a.cdw11 % 256) else s.feats.capSaved)) ∧
      (a.fid = 0xC0 → capOk (low16 a.cdw11 % 256) = false → exec (.setFeatures ref a) s = .next (failCmd ref 0x02 s)) ∧
      (a.fid = 0xC2 → 24 ≤ low16 a.cdw11 → low16 a.cdw11 ≤ 8760 →
        ∃ t, exec (.setFeatures ref a) s = .next t ∧ t.decks.passHours = low16 a.cdw11 ∧ t.decks.patrolPause = a.cdw11.getLsbD 16) ∧
      (a.fid = 0xC5 → 5 ≤ low16 a.cdw11 → low16 a.cdw11 ≤ 50000 →
        ∃ t, exec (.setFeatures ref a) s = .next t ∧ t.feats.memberTimeout = low16 a.cdw11) ∧
      (a.fid ∉ standardFids ++ vendorFids → exec (.setFeatures ref a) s = .next (failCmd ref 0x02 s)))

/-- 05 R150 and R156. The requests' numbers in NVMe-MI Send are those of `sendAnswer`, the tunnel's 5. -/
def Obligations.ManagementRequestsAreAnswered : Prop :=
  (∀ (a : MiArgs) (s : State), a.sideband = true → sidebandLive s = true →
    (exec (.miReadDataStructure a) s = .next (emit (.mi true (miStructure s a.param).1 (miStructure s a.param).2) (tickFree s)) ∧
      (a.param / 2 ^ 24 = 0 → (miStructure s a.param).1 = 0)) ∧
    (∃ t d, exec (.miSubsystemHealthPoll a) s = .next t ∧ t.out = .mi true 0 d :: s.out) ∧
    (∃ t d, exec (.miControllerHealthPoll a) s = .next t ∧ t.out = .mi true 0 d :: s.out) ∧
    (s.mode.mode ≠ .standby →
      (∀ m, miConfigMask a.param = some m →
        (∃ t d, exec (.miConfigurationGet a) s = .next t ∧ t.out = .mi true 0 d :: s.out) ∧
        (∀ value, ∃ t u, exec (.miConfigurationSet a value) s = .next t ∧ t.out = .mi true 0 [] :: s.out ∧
          exec (.miConfigurationGet a) t = .next u ∧ u.out = .mi true 0 (leBytes 4 (BitVec.ofNat 32 value &&& m).toNat) :: t.out)) ∧
      (miConfigMask a.param = none →
        exec (.miConfigurationGet a) s = .next (emit (.mi true 0x04 []) s) ∧
        ∀ value, exec (.miConfigurationSet a value) s = .next (emit (.mi true 0x04 []) s)) ∧
      (∀ ctl opcode nsid cdw10 cdw11,
        exec (.miAdminTunnel a ctl opcode nsid cdw10 cdw11) s = .next (emit (.mi true (tunnelAnswer ctl opcode nsid cdw10 cdw11 a.offset s).1
          (tunnelAnswer ctl opcode nsid cdw10 cdw11 a.offset s).2) (tickFree s)))) ∧
    (s.mode.mode = .standby →
      exec (.miConfigurationGet a) s = .next (emit (.mi true Config.miBusy []) s) ∧
      ∀ value, exec (.miConfigurationSet a value) s = .next (emit (.mi true Config.miBusy []) s))) ∧
  (∀ (ref : CmdRef) (request : Nat) (a : MiArgs) (b : MiBody) (s : State), adminTurn s ref = true →
    (request ≤ 5 →
      ∃ t r, exec (.nvmeMiSend ref request a b) s = .next t ∧
        (t.ctl ref.ctl).miResponse = some (sendAnswer ref.ctl request a b s).1.2 ∧
        robOf t ref = some r ∧ r.committed = true ∧ r.dw0 = (sendAnswer ref.ctl request a b s).1.1) ∧
    (∀ d, (s.ctl ref.ctl).miResponse = some d →
      ∃ t r, exec (.nvmeMiReceive ref) s = .next t ∧ t.out = (sendData ref d s).out ∧ (t.ctl ref.ctl).miResponse = none ∧
        robOf t ref = some r ∧ r.committed = true))

/-- 05 R141 to R160. The status functions are the checks of the rules, 0 when the command may go on. -/
def Obligations.NamespacesAreMadeAndRemoved : Prop :=
  (∀ (ref : CmdRef) (s : State), adminTurn s ref = true →
    (∀ a nsid d hands ext, nsCreateStatus s a = 0 → s.deck a.deckId = some d → freeNsid s = some nsid → nsExtents s a d = some (hands, ext) →
      ∃ t, exec (.namespaceManagementCreate ref a) s = .next (commitCmd ref 0 nsid (noteAll s (evalDeck a.deckId t))) ∧
        (∃ v, t.vol nsid = some v ∧ v.nsze = a.nsze ∧ v.deckId = a.deckId ∧ v.attached = [] ∧ v.extents = ext)) ∧
    (∀ nsid, nsDeleteStatus s nsid = 0 → exec (.namespaceManagementDelete ref nsid) s = .next (waitCmd ref nsid s)) ∧
    (∀ nsid sel ctls v, attachStatus s nsid sel ctls = 0 → s.vol nsid = some v →
      exec (.namespaceAttachment ref nsid sel ctls) s = .next (commitCmd ref 0 0 (namespaceChanged nsid ctls
        (s.setVol nsid { v with attached := if sel = 0 then v.attached ++ ctls else v.attached.filter fun i => !ctls.contains i })))) ∧
    (∀ nsid lbaf dps ses, formatStatus s nsid lbaf dps ses = 0 → formatNsids s nsid ≠ [] → (∀ n ∈ formatNsids s nsid, updatesOn s n = false) → ses ≠ 1 →
      exec (.formatNvm ref nsid lbaf dps ses) s =
        .next (noteAll s (maybeReleaseImage (wtRecord (waitCmd ref nsid ((formatNsids s nsid).foldl (formatOne lbaf dps ses) s)))))) ∧
    (∀ nsid lbaf dps ses, formatStatus s nsid lbaf dps ses = 0 → formatNsids s nsid = [] →
      exec (.formatNvm ref nsid lbaf dps ses) s = .next (commitCmd ref 0 0 s)) ∧
    (∀ owpass inv pattern, sanitizeStatus s 1 = 0 →
      ∃ t, exec (.sanitize ref 1 owpass inv pattern) s = .next (commitCmd ref 0 0 t) ∧ t.decks.sanFailed = false ∧ t.cache = s.cache) ∧
    (∀ sanact owpass inv pattern, 2 ≤ sanact → sanact ≤ 4 → sanitizeStatus s sanact = 0 → (∀ p ∈ s.decks.decks, p.2.updates = []) →
      ∃ t w, exec (.sanitize ref sanact owpass inv pattern) s = .next (noteAll s (wtRecord (waitCmd ref 0 t))) ∧ t.decks.sstat = 2 ∧
        t.decks.wipe = some w ∧ w.kind ≠ 1 ∧ w.done = 0 ∧ w.ref = some ref)) ∧
  (∀ (nsid : Nat) (s : State) (v : Volume), s.vol nsid = some v → deleting s nsid = true → ioOpenOn s nsid = false → updatesOn s nsid = false →
    ∃ t, exec (.namespaceDeleteCommit nsid) s = .next t ∧ t.vol nsid = none) ∧
  (∀ (done : Nat) (s : State) (w : WipeJob), s.decks.wipe = some w → plainRuns s = true → done ≤ 65536 → w.done < done →
    ∃ t x, exec (.formatSanitizeProgress done) s = .next t ∧ t.decks.wipe = some x ∧ x.done = done ∧ x.kind = w.kind ∧ x.ref = w.ref) ∧
  (∀ (nsid : Nat) (s : State) (v : Volume), nsid ≠ 0xFFFFFFFF → s.vol nsid = some v → v.formatLeft.isSome = true →
    ∃ t, exec (.formatComplete nsid) s = .next (noteAll s t) ∧ ∃ x, t.vol nsid = some x ∧ x.vstate = 1 ∧ x.formatLeft = none) ∧
  (∀ (ok : Bool) (s : State) (w : WipeJob), s.decks.wipe = some w → w.kind ≠ 1 →
    ∃ t, exec (.sanitizeComplete ok) s = .next (noteAll s t) ∧ t.decks.sstat = (if ok then 1 else 3) ∧ t.decks.sanFailed = !ok ∧
      t.decks.wipe = none)

/-- 12 R361 and 11 R323: the seven actions. `outStatus` is the status that taking a drive out of service meets. -/
def Obligations.MemberControlActs : Prop :=
  ∀ (ref : CmdRef) (slot cdw11 : Nat) (s : State), adminTurn s ref = true →
    (slot < s.slots → (s.slot slot).present = true →
      ((s.slot slot).power = true →
        exec (.memberControlOnline ref slot cdw11) s = .next (commitCmd ref 0 0 (recordEvent 0x5041 [slot, 0, cdw11, 0] s))) ∧
      ((s.slot slot).power = false →
        ∃ t, exec (.memberControlOnline ref slot cdw11) s = .next t ∧ (slot, ref) ∈ t.members.onlineRefs) ∧
      (outStatus s slot = 0 →
        ∃ t, exec (.memberControlOffline ref slot cdw11) s = .next (noteAll s (commitCmd ref 0 0 (dropFlushes slot (powerOff slot t)))) ∧
          ((powerOff slot t).slot slot).power = false) ∧
      (portUsable s slot (otherPort (cdw11 % 2)) = true →
        exec (.memberControlPortReset ref slot cdw11) s =
          .next (noteAll s (settleAll (commitCmd ref 0 0 (beginStep slot (cdw11 % 2) 3 (recordEvent 0x5041 [slot, 4, cdw11, 0] s)))))) ∧
      (∃ t, exec (.memberControlClear ref slot cdw11) s = .next t ∧ (t.slot slot).health = 1000 ∧ (t.slot slot).timeouts = 0 ∧
        (t.slot slot).mediaErr = 0 ∧ (t.slot slot).violations = 0 ∧ t.mode = s.mode ∧ t.cache = s.cache)) ∧
    (slot < s.slots → (s.slot slot).cls = .member → outStatus s slot = 0 →
      exec (.memberControlFail ref slot cdw11) s =
        .next (noteAll s (commitCmd ref 0 0 (failSlot slot (recordEvent 0x5041 [slot, 2, cdw11, 0] s))))) ∧
    (slot < s.slots → mayErase (s.slot slot).cls = true → inRedeal s slot = false → slotReachable (s.slot slot) = true →
      exec (.memberControlErase ref slot cdw11) s = .next (noteAll s (commitCmd ref 0 0 (recordClass slot
        (releaseSlot slot (zeroLabels slot (slotCap s slot) (slotTagged s slot) (recordEvent 0x5041 [slot, 3, cdw11, 0] s))))))) ∧
    (authorised s 2 = true →
      ∃ t, exec (.memberControlMemClear ref 0xFF cdw11) s = .next (commitCmd ref 0 0 t) ∧ t.cache = s.cache ∧
        t.guard.table = s.guard.table.filter (fun e => !decide (e.channel = cdw11 % 8))) ∧
    (authorised s 2 = false → exec (.memberControlMemClear ref slot cdw11) s = .next (failCmd ref 0x15 s))

/-! ## Members (12) -/

/-- 02 R56 and R57; 12 R334, R336, R350 to R352 and R356. Full width is 64 / P lanes, or the drive's maximum where that is less. -/
def Obligations.SlotsFollowPresenceAndPower : Prop :=
  (∀ (x : Nat) (s : State),
    (switching s = true →
      exec (.prsntInsertion x) s = .next (deferEvent (.prsntInsertion x) s) ∧ exec (.prsntRemoval x) s = .next (deferEvent (.prsntRemoval x) s)) ∧
    (switching s = false → presenceRead s = true → presenceActs s = false →
      (x < s.slots → (s.slot x).present = false → exec (.prsntInsertion x) s = .next (updSlot x (fun v => { v with present := true }) s)) ∧
      ((s.slot x).present = true → exec (.prsntRemoval x) s = .next (updSlot x (fun v => { v with present := false }) s)))) ∧
  (∀ (x : Nat) (s : State), s.hubPowered = true → s.mode.mode ≠ .holdup → switching s = false →
    (x < s.slots → (s.slot x).present = false →
      ∃ t, exec (.prsntInsertion x) s = .next t ∧ (t.slot x).present = true ∧ (t.slot x).health = 1000 ∧
        ((s.slot x).power = true ∨ x ∈ t.members.powerQueue)) ∧
    ((s.slot x).present = true →
      ∃ t, exec (.prsntRemoval x) s = .next (noteAll s (dropAdded x t)) ∧ (t.slot x).present = false ∧ (t.slot x).power = false ∧ (t.slot x).perst = true ∧
        x ∉ t.members.powerQueue ∧
        ((s.slot x).cls = .member → (t.slot x).cls = .member ∧ isPending (t.slot x) = true) ∧
        ((s.slot x).cls ≠ .member → (t.slot x).cls = .empty)) ∧
    (∀ rest, s.members.powerQueue = x :: rest →
      ∃ t, exec .slotPowerOn s = .next t ∧ t.members.powerQueue = rest ∧ (t.slot x).present = (s.slot x).present ∧
        ((s.slot x).present = true → (t.slot x).power = true ∧ (t.slot x).perst = true)) ∧
    ((s.slot x).power = true → exec (.memberPerstDeassert x) s = .next (s.setSlot x { s.slot x with perst := false })) ∧
    (∀ (port speed width : Nat) (info : DriveInfo), (s.slot x).present = true → (s.slot x).power = true → (s.slot x).perst = false →
      (portOf (s.slot x) port).usable = false → (portOf (s.slot x) port).contained = false → portRegion s.slots x port ∉ s.cache.fenced →
      ∃ t, exec (.memberPortBringup x port speed width info) s =
          .next (noteAll s (settleAll (rejoin x (settlePorts x (if (portOf (t.slot x) port).ladder ≠ 0 then passStep x port t else t))))) ∧
        (t.slot x).info = some info ∧ (portOf (t.slot x) port).ident = some info.nguid ∧
        (portOf (t.slot x) port).speed = speed ∧ (portOf (t.slot x) port).width = width ∧
        (portOf (t.slot x) port).reduced = (decide (speed < 64) || decide (width < min (64 / s.slots) info.maxWidth)))) ∧
  (∀ (group : Nat) (s : State), s.mode.mode = .boot → group < 8 →
    ∃ t, exec (.staggerGroupEnable group) s = .next t ∧ (∀ x, x < s.slots → x % 8 = group → (t.slot x).power = true) ∧
      ∀ x, x % 8 ≠ group → t.slot x = s.slot x) ∧
  (∀ s : State, s.mode.mode = .boot → s.mode.windowClosed = false →
    ∃ t, exec .bootMemberWindowClose s = .next t ∧ t.mode.windowClosed = true ∧ t.mode.mode = .boot) ∧
  (∀ (x port : Nat) (s : State), s.mode.mode ≠ .boot → switching s = false → (s.slot x).present = true → (s.slot x).power = true → (s.slot x).perst = false →
    (portOf (s.slot x) port).ident = none → (portOf (s.slot x) port).lateTried = false → (portOf (s.slot x) port).ladder = 0 →
    ∃ t, exec (.memberPortReadyTimeout x port) s = .next (noteAll s (settleAll t)) ∧ (portOf (t.slot x) port).ladder = 3 ∧
      (portOf (t.slot x) port).lateTried = true ∧ (portOf (t.slot x) port).usable = false)

/-- 12 R348, R349, R356 to R358. A succeeding step makes the port usable once its identity is known (`portKnown`), unless its region is fenced (`portLit`). -/
def Obligations.LadderStepsFollowTheirOrder : Prop :=
  (∀ (x port : Nat) (s : State), (s.slot x).present = true → (s.slot x).power = true → switching s = false →
    ((portOf (s.slot x) port).contained = false → (portOf (s.slot x) port).failed = false →
      ((portOf (s.slot x) port).ladder < 2 →
        (∃ t, exec (.memberAdminTimeout x port) s = .next (noteAll s (settleAll t)) ∧ (portOf (t.slot x) port).ladder = 2 ∧
          (portOf (t.slot x) port).usable = false ∧ (t.slot x).ctrlResets = (s.slot x).ctrlResets + 1) ∧
        (withheldOn s x port ≠ 0 →
          ∃ t, exec (.withheldTagTimeout x port) s = .next (noteAll s (settleAll t)) ∧ (portOf (t.slot x) port).ladder = 2 ∧
            (portOf (t.slot x) port).usable = false)) ∧
      ((portOf (s.slot x) port).ladder < 3 →
        ∃ t, exec (.memberPcieCompletionTimeout x port) s = .next (noteAll s (settleAll t)) ∧ (portOf (t.slot x) port).ladder = 3 ∧
          (portOf (t.slot x) port).usable = false ∧ (t.slot x).busResets = (s.slot x).busResets + 1)) ∧
    ((portOf (s.slot x) port).failed = true → (portOf (s.slot x) port).ladder = 0 →
      ∃ t, exec (.failedPortRetry x port) s = .next (noteAll s (settleAll t)) ∧ (portOf (t.slot x) port).ladder = 3 ∧
        (t.slot x).busResets = (s.slot x).busResets + 1) ∧
    (∀ cause, (portOf (s.slot x) port).contained = false →
      ∃ t, exec (.dpcTrigger x port cause) s = .next t ∧ (portOf (t.slot x) port).contained = true ∧
        (portOf (t.slot x) port).dpcCause = cause ∧ (portOf (t.slot x) port).usable = false ∧
        (t.slot x).contain = (s.slot x).contain + 1)) ∧
  (∀ (x port : Nat) (s : State), (portOf (s.slot x) port).contained = true → switching s = false →
    ((s.slot x).present = true →
      ∃ t, exec (.containmentRelease x port) s = .next (noteAll s (settleAll t)) ∧ (portOf (t.slot x) port).contained = false ∧
        (portOf (t.slot x) port).ladder = 3) ∧
    ((s.slot x).present = false →
      ∃ t, exec (.containmentRelease x port) s = .next t ∧ (portOf (t.slot x) port).contained = false ∧ (portOf (t.slot x) port).dpcCause = 0)) ∧
  (∀ (x port : Nat) (s : State), switching s = false →
    ((portOf (s.slot x) port).ladder = 2 →
      (∃ t, exec (.memberControllerReset x port true) s = .next (noteAll s (settleAll t)) ∧ (portOf (t.slot x) port).ladder = 0 ∧
        (portOf (t.slot x) port).failed = false ∧
        (portOf (t.slot x) port).usable = (portLit s x port && portKnown (s.slot x) (portOf (s.slot x) port))) ∧
      (∃ t, exec (.memberControllerReset x port false) s = .next (noteAll s (settleAll t)) ∧ (portOf (t.slot x) port).ladder = 3) ∧
      ∃ t, exec (.ladderStepBoundExpiry x port) s = .next (noteAll s (settleAll t)) ∧ (portOf (t.slot x) port).ladder = 3) ∧
    ((portOf (s.slot x) port).ladder = 3 →
      (∃ t, exec (.secondaryBusReset x port true) s = .next (noteAll s (settleAll t)) ∧ (portOf (t.slot x) port).ladder = 0 ∧
        (portOf (t.slot x) port).failed = false) ∧
      ∃ t, exec (.secondaryBusReset x port false) s = .next (noteAll s (settleAll t)) ∧ (portOf (t.slot x) port).failed = true)) ∧
  (∀ (x : Nat) (s : State), (s.slot x).portA.ladder = 4 →
    (∃ t, exec (.slotPowerCycle x true) s = .next (noteAll s (settleAll t)) ∧ (t.slot x).power = true ∧ (t.slot x).perst = false ∧
      (t.slot x).portA.ladder = 0 ∧ (t.slot x).portB.ladder = 0) ∧
    ∃ t, exec (.slotPowerCycle x false) s = .next (noteAll s (settleAll (failSlot x t))) ∧ (t.slot x).power = true ∧ (t.slot x).perst = false ∧
      (t.slot x).portA.failed = true ∧ (t.slot x).portB.failed = true)

/-- 12 R341, R342, R344, R345, R347, R357, R359, R360 and R362; 13 R382. -/
def Obligations.MemberCommandsAreTrackedByTheirTags : Prop :=
  (∀ (cpl : MemberCpl) (g : MTag) (s : State), findTag s cpl.slot cpl.port cpl.tag = some g → g.state = .outstanding →
    s.guard.finj.armed = none →
    (cpl.status = 0 → (∀ w ∈ (s.slot cpl.slot).portA.tags, w.state ≠ .waiting) →
      ∃ t u, findTag t cpl.slot cpl.port cpl.tag = none ∧ t.decks = s.decks ∧ u = settleRing g (loseBlocks g t) ∧
        exec (.memberCompletion cpl) s = .next (noteAll s (if g.step = 1 then recordEvent 0x5031 [cpl.slot, cpl.port, 1, 0] u else u))) ∧
    (cpl.status ≠ 0 → cpl.dnr = false → g.step = 0 →
      ∃ t, exec (.memberCompletion cpl) s = .next (noteAll s (settleAll t)) ∧ (t.slot cpl.slot).retries = (s.slot cpl.slot).retries + 1)) ∧
  (∀ (x port tag : Nat) (g : MTag) (s : State), findTag s x port tag = some g →
    (g.state = .outstanding → switching s = false →
      ∃ t, exec (.memberCommandTimeout x port tag) s = .next (noteAll s (settleAll t)) ∧ (t.slot x).timeouts = (s.slot x).timeouts + 1 ∧
        (t.slot x).health ≤ (s.slot x).health - 40 ∧ Out.memberCmd x port 0x08 tag ∈ t.out) ∧
    (g.state = .quarantined false →
      ∃ t, exec (.lateCompletion x port tag) s = .next (noteAll s (settleAll t)) ∧ (t.slot x).late = (s.slot x).late + 1 ∧
        (t.slot x).health = (s.slot x).health - 20) ∧
    (g.state = .quarantined true →
      ∃ t, exec (.tagQuarantineEnd x port tag) s = .next (wakeWrites x 0 t) ∧ findTag t x port tag = none ∧ t.out = s.out)) ∧
  (∀ (tlp : MemberTlp) (s : State), (s.slot tlp.slot).present = true → (portOf (s.slot tlp.slot) tlp.port).speed ≠ 0 →
    (portOf (s.slot tlp.slot) tlp.port).contained = false →
    (decodeInbound s tlp = .violation →
      ∃ t, exec (.memberInboundTlp tlp) s = .next (noteAll s (settleAll t)) ∧ (t.slot tlp.slot).violations = (s.slot tlp.slot).violations + 1 ∧
        (t.slot tlp.slot).health = (s.slot tlp.slot).health - 100 ∧
        (tlp.write = false → Out.memberCpl tlp.slot tlp.port .unsupportedRequest [] ∈ t.out)) ∧
    (∀ bs, decodeInbound s tlp = .pass bs → exec (.memberInboundTlp tlp) s =
      .next (if tlp.write then s else emit (.memberCpl tlp.slot tlp.port .success bs) s)) ∧
    (decodeInbound s tlp = .blocked → exec (.memberInboundTlp tlp) s =
      .next (if tlp.write then s else emit (.memberCpl tlp.slot tlp.port .completerAbort []) s)) ∧
    (∀ off, decodeInbound s tlp = .toQueue off → exec (.memberInboundTlp tlp) s = .next (updPort tlp.slot tlp.port (fun p => { p with
      queue := memPut p.queue off (fitBytes tlp.len tlp.data) }) s)) ∧
    (∀ vec, decodeInbound s tlp = .message vec → exec (.memberInboundTlp tlp) s = .next (updPort tlp.slot tlp.port (fun p => { p with
      vectors := addNew vec p.vectors }) s)) ∧
    (∀ g off, decodeInbound s tlp = .toTag g off → s.guard.finj.armed = none → tlp.poisoned = false → exec (.memberInboundTlp tlp) s =
      .next (if tlp.write then updTagOf tlp.slot tlp.port g.tag (fillBuffer tlp off) s
        else emit (.memberCpl tlp.slot tlp.port .success (sliceBytes g.buf off tlp.len)) s))) ∧
  (∀ (x temp : Nat) (warn : BitVec 8) (fw : Option Nat) (s : State), (s.slot x).present = true →
    (portServes (s.slot x).portA || portServes (s.slot x).portB) = true → switching s = false →
    ∃ t, exec (.memberAsyncEvent x warn fw temp) s = .next (noteAll s (settleAll (if warn.getLsbD 3 then mediaReadOnly x t else t))) ∧ (t.slot x).critWarn = warn ∧ (t.slot x).temp = temp ∧
      (t.slot x).health = (s.slot x).health -
        300 * ((List.range 8).filter fun i => warn.getLsbD i && !(s.slot x).critWarn.getLsbD i).length) ∧
  (∀ (x : Nat) (s : State), (s.slot x).present = true → (s.slot x).health < 1000 →
    ∃ t, exec (.healthRecoveryTick x) s = .next t ∧ (t.slot x).health = (s.slot x).health + 1) ∧
  (∀ (x id mem : Nat) (final : Bool) (d : Deck) (s : State), isPending (s.slot x) = true → (s.slot x).deckId = some id →
    (s.slot x).index = some mem → s.deck id = some d → mstateOf d mem = .active → strangerIn s x = false →
    switching s = false → ((final = true ∧ (s.slot x).removed = true) ∨ slotMayFail s x = true) →
    ∃ t d', exec (.failedPendingTimeout x final) s = .next (noteAll s (if portsAgree (t.slot x) = true then t else settlePorts x t)) ∧ t.deck id = some d' ∧ mstateOf d' mem = .failed) ∧
  (∀ (x port : Nat) (s : State), (portOf (s.slot x) port).usable = true → (portOf (s.slot x) port).l12ok = true →
    (portOf (s.slot x) port).l12 = false → (portOf (s.slot x) port).tags = [] → s.feats.linkL12Us ≠ 0 → s.cache.writeThrough = false →
    ∃ t, exec (.memberPortL12Entry x port) s = .next t ∧ (portOf (t.slot x) port).l12 = true ∧
      t.sched.l12Entries = s.sched.l12Entries + 1)

/-! ## Patrol, rebuild and repair (10) -/

/-- 10 R301 to R305, R307 and R309. Each of the commands of Patrol Control is at its turn on the admin queue. -/
def Obligations.PatrolWalksEveryHeldHand : Prop :=
  (∀ (deck : Nat) (copies : List (Nat × List (Nat × Bytes))) (d : Deck) (s : State), s.deck deck = some d → patrolRuns s d = true →
    (d.patrol.running = false →
      ∃ t d', exec (.patrolPassStart { deck := deck, copies := copies }) s = .next t ∧ t.deck deck = some d' ∧ d'.patrol.passStart = s.recTime ∧
        d'.patrol.findings = 0 ∧ d'.patrol.cursor = 0 ∧ d'.patrol.suspects = [] ∧ d'.patrol.copiesDue = false ∧
        (heldHands s deck ≠ [] → d'.patrol.running = true ∧ d'.patrol.passCount = d.patrol.passCount) ∧
        (heldHands s deck = [] → d'.patrol.running = false ∧ d'.patrol.passCount = d.patrol.passCount + 1)) ∧
    (d.patrol.running = true → (nextHeld s deck d.patrol.cursor).isSome = true → d.patrol.copiesDue = true →
      ∃ t d', exec (.patrolPassStart { deck := deck, copies := copies }) s = .next t ∧ t.deck deck = some d' ∧
        d'.patrol = { d.patrol with copiesDue := false }) ∧
    ∀ (hand row : Nat) (reads : List BlockRead) (lock : LockReq), lock = { key := hand, mode := .shared, user := .check } →
      d.patrol.running = true → d.patrol.copiesDue = false → nextHeld s deck d.patrol.cursor = some hand →
      (row = if hand = d.patrol.cursor then d.patrol.row else 0) → lockGranted s deck d lock = true →
      ∃ t d', exec (.patrolRow deck hand row reads) s = .next (endLock deck lock (noteAll s (settleAll t))) ∧ t.deck deck = some d' ∧
        (row + 1 < chunkBlocks d.label.shape → d'.patrol.cursor = hand ∧ d'.patrol.row = row + 1) ∧
        (chunkBlocks d.label.shape ≤ row + 1 → d'.patrol.cursor = hand + 1 ∧ d'.patrol.row = 0) ∧
        (d.patrol.repairOff = true →
          t.decks.findTotal = s.decks.findTotal + (decideRow s deck d hand row reads).2.length ∧
          d'.patrol.suspects = d.patrol.suspects) ∧
        (d.patrol.repairOff = false → t.decks.findTotal = s.decks.findTotal ∧
          d'.patrol.suspects = d.patrol.suspects ++
            (if (decideRow s deck d hand row reads).2 = [] then [] else [(hand, row, (decideRow s deck d hand row reads).2)]))) ∧
  (∀ (deck hand row : Nat) (fs : List (Nat × Nat)) (reads : List BlockRead) (d : Deck) (s : State), s.deck deck = some d →
    (d.patrol.suspects.find? fun x => decide (x.1 = hand) && decide (x.2.1 = row)) = some (hand, row, fs) →
    patrolRuns s d = true → indexRoom s deck hand = true → hand < handCount d → lockGranted s deck d (repairLock hand row) = true →
    ((decideRow s deck d hand row reads).2 = [] →
      exec (.patrolRepair deck hand row reads) s = .next (endLock deck (repairLock hand row)
        (s.setDeck deck { d with patrol := { d.patrol with suspects := d.patrol.suspects.erase (hand, row, fs) } }))) ∧
    (fs ≠ [] → (decideRow s deck d hand row reads).2 = fs → d.patrol.repairOff = false →
      ∃ t d', exec (.patrolRepair deck hand row reads) s =
          .next (endLock deck (repairLock hand row) (noteAll s (settleAll (evalDeck deck t)))) ∧ t.deck deck = some d' ∧
        d'.patrol.suspects = d.patrol.suspects.erase (hand, row, fs) ∧ t.decks.findTotal = s.decks.findTotal + fs.length)) ∧
  (∀ (deck : Nat) (d : Deck) (s : State), s.deck deck = some d →
    ∃ t d', exec (.patrolProgressWrite deck) s = .next t ∧ t.deck deck = some d' ∧
      ∃ r ∈ d'.journal, r.jseq = d.jseq ∧
        r.body = .progress (.patrol d.patrol.cursor d.patrol.passCount (patrolFlags d) d.patrol.passStart d.patrol.findings)) ∧
  (∀ (s : State) (a b : Nat), s.serving = true → a = (patrolPageSeq s.decks.patrolA).getD 0 → b = (patrolPageSeq s.decks.patrolB).getD 0 →
    ∃ t, exec .patrolPageWrite s = .next t ∧
      (a ≤ b → t.decks.patrolA = patrolPageBytes s (b + 1) ∧ t.decks.patrolB = s.decks.patrolB) ∧
      (b < a → t.decks.patrolB = patrolPageBytes s (a + 1) ∧ t.decks.patrolA = s.decks.patrolA)) ∧
  (∀ (ref : CmdRef) (deck id : Nat) (d : Deck) (s : State), adminTurn s ref = true → s.mode.mode ≠ .quarantine → s.deck id = some d →
    (deck = id ∨ deck = 0xFF) →
    (∃ t, exec (.patrolControlPause ref deck) s = .next t ∧
      t.deck id = some { d with patrol := { d.patrol with paused := true } }) ∧
    (∃ t, exec (.patrolControlResume ref deck) s = .next t ∧
      t.deck id = some { d with patrol := { d.patrol with paused := false } }) ∧
    (∃ t, exec (.patrolControlRepairOff ref deck) s = .next t ∧
      t.deck id = some { d with patrol := { d.patrol with repairOff := true } }) ∧
    (∃ t, exec (.patrolControlRepairOn ref deck) s = .next t ∧
      t.deck id = some { d with patrol := { d.patrol with repairOff := false } }) ∧
    ∃ t d', exec (.patrolControlRestart ref deck) s = .next t ∧ t.deck id = some d' ∧ d'.patrol.cursor = 0 ∧
      d'.patrol.findings = 0 ∧ d'.patrol.running = true ∧ d'.patrol.copiesDue = true ∧ d'.patrol.passStart = s.recTime)

/-- 10 R283, R290 to R292, R294, R295 and R536. `scanHeld` is the intent of a hand that the failure scan has locked. -/
def Obligations.RebuildSweepsItsSegments : Prop :=
  (∀ (deck hand : Nat) (reads : List BlockRead) (d : Deck) (s : State), s.deck deck = some d →
    (∀ i, scanHeld d hand = some i → s.serving = true → (∀ row ∈ intentRows i, rowSettled s deck d hand reads row = true) →
      (∀ r ∈ d.lockQueue, r.key ≠ hand) →
      ∃ t d', exec (.rebuildHand deck hand reads) s = .next (noteAll s (settleAll (evalDeck deck t))) ∧ t.deck deck = some d' ∧
        (∀ l ∈ d'.locks, l.1 ≠ hand) ∧ ∀ j ∈ d'.intents, j.wseq ≠ i.wseq) ∧
    (∀ (e : Deck) (lock : LockReq), e = moveCursor d → lock = { key := hand, mode := .shared, user := .rebuild } →
      scanHeld d hand = none → rebuildRuns s e = true → anyScanHeld e = false →
      segOf e.segs (handRound e.label.shape hand) = e.curSeg → e.cursor ≤ handRound e.label.shape hand →
      handRound e.label.shape hand < e.cursor + 64 → rebuildNow e hand ≠ [] → mostExposed s deck e hand = true → belowResync e hand = true →
      indexRoom s deck hand = true → placesReachable s e hand (rebuildNow e hand) = true → lockGranted s deck d lock = true →
      (∀ row, row < chunkBlocks e.label.shape → (fullRow e (atHand s deck e hand row reads)).isSome = true) →
      ∃ t d', exec (.rebuildHand deck hand reads) s = .next (endLock deck lock (noteAll s (settleAll (evalDeck deck t)))) ∧
        t.deck deck = some d' ∧
        ∀ c ∈ rebuildNow e hand, ∀ x, rebuiltNote e hand c = some x → x ∈ d'.rebuilt ∨ handRound e.label.shape hand < d'.cursor)) ∧
  (∀ (deck : Nat) (g : Nat × Nat) (e d : Deck) (s : State), s.deck deck = some e → d = moveCursor e → d.segs[d.curSeg]? = some g →
    (segEnd d ≤ d.cursor →
      ∃ t d', exec (.rebuildSegmentEnd deck) s = .next t ∧ t.deck deck = some d' ∧
        d'.segs = mergeSegs (d.segs.set d.curSeg (g.1, setBits (rebuildingBits d) g.2)) ∧
        (d.replaceSlot = none → ∀ i ∈ rebuildingBits d, (∀ x ∈ d'.segs, x.2.testBit i = true) →
          ∃ e, d'.label.failList[i]? = some e ∧ e.fstate = .rebuilt)) ∧
    (e.label.cleanStop = false →
      ∃ t d', exec (.rebuildProgressWrite deck) s = .next t ∧ t.deck deck = some d' ∧
        ∃ r ∈ d'.journal, r.jseq = e.jseq ∧ r.body = .progress (.rebuild e.label.labelSeq e.segs e.curSeg e.cursor))) ∧
  (∀ (deck : Nat) (d : Deck) (s : State), s.deck deck = some d → d.scanDue = true →
    ∃ t d', exec (.failureScan deck) s = .next t ∧ t.deck deck = some d' ∧
      ((∀ hd ∈ heldHands s deck, handExposure s deck d hd ≤ d.label.shape.m) → d'.scanDue = false) ∧
      (d'.scanDue = true → d'.label.deckState = d.label.deckState)) ∧
  (∀ (ref : CmdRef) (deck : Nat) (d : Deck) (s : State), adminTurn s ref = true → s.mode.mode ≠ .quarantine → s.deck deck = some d →
    (∃ t, exec (.rebuildControlHold ref deck) s = .next t ∧ t.deck deck = some { d with hold := true }) ∧
    (∃ t, exec (.rebuildControlResume ref deck) s = .next t ∧ ∃ d', t.deck deck = some d' ∧ d'.hold = false) ∧
    exec (.rebuildControlStatus ref deck) s = .next (commitCmd ref 0 (rebuildStatus d) s) ∧
    ∀ (x : Nat) (e : FailEntry), replacementOk s d x = true → d.label.failList.getLast? = some e →
      (e.fstate = .rebuilding →
        ∃ t, exec (.rebuildControlReplace ref deck x) s = .next t ∧ t.deck deck = some { d with replaceSlot := some x }) ∧
      (e.fstate = .rebuilt → notHeld d = true → e.member < d.label.members.length →
        ∃ t d' e', exec (.rebuildControlReplace ref deck x) s = .next t ∧ t.deck deck = some d' ∧
          d'.label.failList.getLast? = some e' ∧ e'.fstate = .copyback ∧ e'.watermark = 0 ∧ mstateOf d' e.member = .replacing ∧
          slotOfMember d' e.member = some x ∧ (t.slot x).cls = .member))

/-- 07 R218; 09 R273 and R274; 10 R280, R282, R287, R298 and R299. -/
def Obligations.RowsAreRepairedAndCopiedBack : Prop :=
  (∀ (deck : Nat) (reads : List (Nat × List BlockRead)) (fe : FailEntry) (e : MemberEntry) (x : Nat) (d : Deck) (s : State),
    s.deck deck = some d → d.label.failList.getLast? = some fe → memberOf d fe.member = some e → fe.fstate = .copyback →
    e.slot = some x → e.mstate = .replacing →
    (rebuildRuns s d = true → anyScanHeld d = false → slotReachable (s.slot x) = true → fe.watermark < d.label.shape.rounds →
      (∀ q h c, q < handsPerRound d.label.shape → h = fe.watermark * handsPerRound d.label.shape + q → copyChunk d fe.member h = some c →
        belowResync d h = true ∧ indexRoom s deck h = true ∧ lockGranted s deck d (copybackLock h) = true ∧
        ∀ row, row < chunkBlocks d.label.shape → (fullRow d (atHand s deck d h row (tblGet reads h []))).isSome = true) →
      ∃ (t : State) (d' : Deck) (l : List (Nat × Nat)), exec (.copybackRound deck reads) s =
          .next (l.foldl (fun s h => endLock deck (copybackLock h.1) s) (noteAll s (settleAll (evalDeck deck t)))) ∧ t.deck deck = some d' ∧
        (fe.watermark + 1 < d.label.shape.rounds →
          d'.label.failList.getLast? = some { fe with watermark := fe.watermark + 1 }) ∧
        (d.label.shape.rounds ≤ fe.watermark + 1 →
          d'.label.failList.length + 1 = d.label.failList.length ∧ mstateOf d' fe.member = .active)) ∧
    ∃ t d', exec (.copybackProgressWrite deck) s = .next t ∧ t.deck deck = some d' ∧
      ∃ r ∈ d'.journal, r.jseq = d.jseq ∧ r.body = .progress (.copyback fe.member x fe.watermark d.copyStarted)) ∧
  (∀ (deck hand wm : Nat) (started : BitVec 64) (reads : List BlockRead) (d : Deck) (lock : LockReq) (s : State), s.deck deck = some d →
    lock = { key := hand, mode := .exclusive, user := .resync } →
    d.resync = some (wm, started) → urgentRuns s = true → wm ≤ hand → hand < handCount d → indexRoom s deck hand = true →
    placesReachable s d hand (parityChunks d) = true → handSettled s deck d hand reads = true → lockGranted s deck d lock = true →
    ∃ t d', exec (.resyncHand deck hand reads) s = .next (endLock deck lock (noteAll s (settleAll (evalDeck deck t)))) ∧
      t.deck deck = some d' ∧
      (hand = wm → wm + 1 < handCount d → d'.resync = some (wm + 1, started)) ∧
      (hand = wm → handCount d ≤ wm + 1 → d'.resync = none) ∧
      (hand ≠ wm → d'.resync = d.resync ∧ hand ∈ d'.resynced)) ∧
  (∀ (deck wseq key : Nat) (i : Intent) (reads : List BlockRead) (d : Deck) (s : State), s.deck deck = some d →
    (d.replay.find? fun i => decide (i.wseq = wseq)) = some i → s.ready = true → replayReady s deck d i reads = true →
    (key = if i.newGen then newKey i.hand else i.hand) → (∀ r ∈ d.lockQueue, r.key ≠ key) →
    ∃ t d', exec (.intentReplay deck wseq reads) s = .next (noteAll s (settleAll (evalDeck deck t))) ∧ t.deck deck = some d' ∧
      d'.replay = d.replay.filter (fun x => !decide (x.wseq = wseq)) ∧
      ((∀ x ∈ d'.replay, x.hand ≠ i.hand ∨ x.newGen ≠ i.newGen) → ∀ l ∈ d'.locks, l.1 ≠ key)) ∧
  (∀ (deck hand row vh : Nat) (lost others reads : List BlockRead) (v : Volume) (d : Deck) (lock : LockReq) (s : State),
    reads = lost ++ others → lock = { key := hand, mode := .exclusive, user := .overflow row } → s.deck deck = some d →
    handOwner s deck hand = some (v, vh) → s.vol v.nsid = some v → s.serving = true → indexRoom s deck hand = true →
    lockGranted s deck d lock = true → hand < handCount d → row < chunkBlocks d.label.shape →
    (∀ have_ gone, have_ = atHand s deck d hand row reads → gone = lostOfRow d hand row reads have_ →
      rowOverflowed d hand row reads have_ = true → reachAll s (overflowWrites d hand row none 0 have_ gone) = true →
      ∃ t v', exec (.rowOverflowConsistency deck hand row lost others) s = .next (endLock deck lock (noteAll s (evalDeck deck t))) ∧
        t.vol v.nsid = some v' ∧
        (v'.writeLock = true ∨ ∀ c ∈ gone, c < d.label.shape.k → isListed v' (pageOfBlock d.label.shape vh row c) = true))) ∧
  (∀ (deck hand row chunk code : Nat) (own : Option BlockRead) (others reads : List BlockRead) (full : RowBlocks) (d : Deck) (s : State),
    reads = own.toList ++ others → s.deck deck = some d →
    plainRuns s = true → d.patrol.repairOff = false → indexRoom s deck hand = true → lockGranted s deck d (repairLock hand row) = true →
    placesReachable s d hand [chunk] = true → hand < handCount d → row < chunkBlocks d.label.shape → chunkWritable d hand chunk = true →
    (code, chunk) ∈ failedReads s deck d hand row reads → rowSettled s deck d hand reads row = true →
    fullRow d ((atHand s deck d hand row reads).filter fun b => !decide (b.1 = chunk)) = some full →
    ∃ t, exec (.readErrorRepair deck hand row chunk own others) s = .next (endLock deck (repairLock hand row) (noteAll s (settleAll t))) ∧
      t.decks.findTotal = s.decks.findTotal + 1 ∧
      ∀ w, blockWrite d hand row chunk (rowWseq d hand row (reads.filter fun r => !decide (r.chunk = chunk))) (rowBlock full chunk) = some w →
        Out.memberWrite w.slot w.offset w.data w.tag ∈ t.out)

/-! ## Redeal and decks (07, 11) -/

/-- 11 R310 to R312, R315, R317, R319, R320, R324, R326 to R328 and R330. -/
def Obligations.RedealsCopyAndSwitchGenerations : Prop :=
  (∀ (ref : CmdRef) (a : ShapeArgs) (d : Deck) (s : State), adminTurn s ref = true → changeBar s = 0 → s.deck a.deckId = some d →
    (redealBusy s d = true → exec (.deckRedeal ref a) s = .next (failCmd ref 0x0C s)) ∧
    (redealFieldsOk s d a = true → redealBusy s d = false → d.redeal = none →
      (∀ ext, newAlloc s a.deckId d (redealShape d a) = some ext →
        ∃ t d' r run, exec (.deckRedeal ref a) s = .next t ∧ t.deck a.deckId = some d' ∧ d'.label.redeal = some r ∧ d'.redeal = some run ∧
          r.newGen = nextGen d.label.generation ∧ r.newShape = redealShape d a ∧ r.phase = .copy ∧ r.addSlots = addedSlots d a ∧
          run.newExtents = ext ∧ run.handsDone = 0 ∧ d'.label.generation = d.label.generation ∧ d'.label.shape = d.label.shape) ∧
      (newAlloc s a.deckId d (redealShape d a) = none → exec (.deckRedeal ref a) s = .next (failCmd ref 0x115 s))) ∧
    (∀ rest, zeroShape rest.2 = false ∨ rest.1 ≠ [] → exec (.deckRedealCancel ref a.deckId rest) s = .next (failCmd ref 0x02 s)) ∧
    (∀ rest, zeroShape rest = true → d.label.redeal.isSome = true → isDraining d = false →
      ∃ t d', exec (.deckRedealCancel ref a.deckId ([], rest)) s = .next t ∧ t.deck a.deckId = some d' ∧ d'.label.redeal = none ∧
        d'.label.generation = d.label.generation ∧
        ∀ l, tblFind s.decks.redealLog a.deckId = some l →
          ∃ l', tblFind t.decks.redealLog a.deckId = some l' ∧ l'.status = 4 ∧ l'.reason = 1)) ∧
  (∀ (deck : Nat) (r : RedealField) (run : RedealRun) (d : Deck) (s : State), s.deck deck = some d → d.label.redeal = some r →
    d.redeal = some run →
    (∀ (nsid vhand hd : Nat) (reads : List (Nat × List BlockRead)) (ws : List WaitWrite) (nd : Deck) (v : Volume), newLayout d = some nd →
      s.vol nsid = some v → extentHand (tblGet run.newExtents nsid []) vhand = some hd → plainRuns s = true → redealReady s d r = true →
      (nsid, vhand) ∉ run.copied → inFlight run.newExtents (nsid, vhand) 64 run.position = true →
      (∀ q ∈ copyLocks d nd v vhand hd, lockGranted s deck d q = true) →
      copyWrites s deck d nd v vhand hd reads = some ws → reachAll s ws = true →
      ∃ t d' run', exec (.redealCopyHand deck nsid vhand reads) s =
          .next ((copyLocks d nd v vhand hd).foldl (fun s q => endLock deck q s) (noteAll s (settleAll t))) ∧
        t.deck deck = some d' ∧ d'.redeal = some run' ∧
        run'.handsDone = run.handsDone + 1 ∧ (∀ w ∈ ws, Out.memberWrite w.slot w.offset w.data w.tag ∈ t.out)) ∧
    (∃ t d', exec (.redealProgressWrite deck) s = .next t ∧ t.deck deck = some d' ∧
      ∃ j ∈ d'.journal, j.jseq = d.jseq ∧ j.body = .progress (.redeal (match r.phase with | .copy => 1 | .switch => 2)
        (copyPosition run).1 (copyPosition run).2 (run.handsDone - run.copied.length) r.started)) ∧
    (s.serving = true → run.position = none → redealReady s d r = true →
      (run.draining = false → d.updates ≠ [] →
        ∃ t d', exec (.generationSwitch deck) s = .next t ∧ t.deck deck = some d' ∧
          d'.label.redeal = some { r with phase := .switch, wmNsid := (copyPosition run).1, wmVhand := (copyPosition run).2 } ∧
          d'.redeal = some { run with draining := true }) ∧
      (∀ s1 d1 nd, run.draining = true → s1 = pushDrain deck s → s1.deck deck = some d1 → newLayout d1 = some nd → drained s1 deck d1 = true →
        (∀ v ∈ volumesOf s1 deck, (switchedVol d1 nd r run v).bad.length ≤ 245) →
        ∃ t d', exec (.generationSwitch deck) s = .next t ∧ t.deck deck = some d' ∧ d'.label.redeal = none ∧
          d'.label.generation = r.newGen ∧ d'.label.shape = r.newShape ∧
          d'.label.members.length = d.label.members.length + r.addSlots.length ∧
          ∀ x ∈ r.addSlots, (t.slot x).cls = .member))) ∧
  (∀ (deck : Nat) (run : RedealRun) (d : Deck) (s : State), s.deck deck = some d → d.redeal = some run → d.label.redeal = none →
    ((∃ x ∈ run.oldReads, x ∈ openReads s deck) → exec (.oldRoundsRelease deck) s = .next s) ∧
    ((∀ x ∈ run.oldReads, x ∉ openReads s deck) →
      exec (.oldRoundsRelease deck) s = .next (recordEvent 0x3044 [deck, run.oldRounds, 0, 0] (s.setDeck deck { d with redeal := none }))))

/-- 07 R206, R208, R209, R211 and R233 to R235. -/
def Obligations.DecksAreCreatedImportedAndDestroyed : Prop :=
  ∀ (ref : CmdRef) (s : State), adminTurn s ref = true → changeBar s = 0 →
    (∀ a : ShapeArgs,
      (createStatus a s = 0 →
        (∃ t d, exec (.deckCreate ref a none) s = .next t ∧ t.deck a.deckId = some d ∧ d.label.generation = 1 ∧ d.label.deckState = 0 ∧
          d.label.members.map (·.slot) = a.slots.map some ∧ (∀ e ∈ d.label.members, e.mstate = .active) ∧
          d.label.shape.k = a.k ∧ d.label.shape.m = a.m ∧ d.label.imported = false ∧ ∀ x ∈ a.slots, (t.slot x).cls = .member) ∧
        ∀ passes, ∃ t, exec (.deckCreate ref a (some passes)) s = .next (failCmd ref 0x04 t) ∧ t.decks.decks = s.decks.decks ∧
          t.decks.volumes = s.decks.volumes) ∧
      (∀ fails, createStatus a s ≠ 0 → exec (.deckCreate ref a fails) s = .next (failCmd ref (createStatus a s) s))) ∧
    (∀ (id nsid : Nat) (slots : List Nat) (rest : ShapeRest) (i : Importable), (s.decks.importable.find? fun i => decide (i.deckId = id)) = some i →
      zeroShape rest = true → importOk i slots s = true → freeNsid s = some nsid →
      ∃ t d v, exec (.deckImport ref id slots rest) s = .next t ∧ t.deck id = some d ∧ d.label.imported = true ∧
        d.label.uuid = i.label.uuid ∧ t.vol nsid = some v ∧ v.deckId = id ∧ v.nsze = i.label.rounds * i.label.k * 16 ∧
        (∀ j ∈ t.decks.importable, j.deckId ≠ id)) ∧
    (∀ (id : Nat) (d : Deck), s.deck id = some d →
      (volumesOf s id = [] → d.label.redeal = none →
        ∃ t, exec (.deckDestroy ref id) s = .next t ∧ t.deck id = none ∧
          ∀ e ∈ d.label.members, ∀ x, e.slot = some x → slotReachable (s.slot x) = true → (s.slot x).present = true → (t.slot x).cls = .newDrive) ∧
      (volumesOf s id ≠ [] ∨ d.label.redeal.isSome = true → exec (.deckDestroy ref id) s = .next (failCmd ref 0x0C s)))

/-! ## Recorder, firmware, trust and owner (16) -/

/-- 16 R481 to R483 and 14 R406. -/
def Obligations.RecorderFreezesThawsAndSpills : Prop :=
  (∀ (ref : CmdRef) (s : State),
    (hubAnswers s = true → exec (.evrFreezeWrite true) s = .next (freezeRing false (hostArrives 1 s)) ∧
      exec (.evrFreezeWrite false) s = .next (thawRing (hostArrives 1 s))) ∧
    (s.recorder.frozen = false →
      (adminTurn s ref = true → exec (.recorderFreeze ref) s = .next (commitCmd ref 0 0 (freezeRing false s))) ∧
      (freezeRing false s).recorder.frozen = true ∧ (freezeRing false s).recorder.byTrigger = false ∧
      (freezeRing false s).recorder.freezeSeq = nextSeqOf s.recorder.nextSeq ∧
      (freezeRing false s).recorder.nextSeq = nextSeqOf s.recorder.nextSeq) ∧
    (s.recorder.frozen = true →
      (adminTurn s ref = true → exec (.recorderThaw ref) s = .next (commitCmd ref 0 0 (thawRing s))) ∧
      (thawRing s).recorder.frozen = false ∧ (thawRing s).recorder.freezeSeq = 0 ∧ (thawRing s).recorder.trigArmed = true ∧
      (thawRing s).recorder.nextSeq = nextSeqOf s.recorder.nextSeq)) ∧
  (∀ s : State, hubAnswers s = true →
    ∃ t n, exec .spillBatch s = .next t ∧ t.recorder.spillWait = [] ∧ n = min s.recorder.spillWait.length (1024 - sumOf s.recorder.spillBatches) ∧
      t.recorder.spillLost = s.recorder.spillLost + (s.recorder.spillWait.length - n) ∧
      t.recorder.spillBatches = (n :: s.recorder.spillBatches).take 9 ∧
      (s.recorder.spill.length + n ≤ 65536 → t.recorder.spill = s.recorder.spill ++ s.recorder.spillWait.take n)) ∧
  (∀ (ref : CmdRef) (cal : CalRecord) (s : State), adminTurn s ref = true → authorised s 1 = true → calInRange cal = true →
    ∃ t, exec (.calibrationAccessWrite ref 16 cal) s = .next t ∧ t.gauge.cal = { cal with source := 1 } ∧
      calRecord t.gauge = some { cal with source := 1 } ∧ t.gauge.learned = false)

/-- 04 R138; 16 R460, R463, R464, R466 to R468 and R471. `hwAppend` appends one entry, opening a segment where it needs one. -/
def Obligations.FirmwareIsClaimedVerifiedAndRecorded : Prop :=
  (∀ (ref : CmdRef) (s : State), adminTurn s ref = true →
    (∀ (offset len : Nat) (image : Option FwImage), (∀ c, s.trust.claim = some c → c = ref.ctl) → offset + len ≤ 8388608 →
      (s.trust.running ≤ 2 ∧ 1 ≤ s.trust.activeSlot ∧ s.trust.activeSlot ≤ 2) →
      ∃ t, exec (.firmwareImageDownload ref offset len image) s = .next t ∧ imageOf t.trust (downloadSlot s.trust) = (if headerWhole s.trust offset len then image else none) ∧
        t.trust.claim = some ref.ctl ∧ t.trust.header = some (headerWhole s.trust offset len) ∧ t.trust.pendingSlot ≠ downloadSlot s.trust ∧ t.trust.running = s.trust.running) ∧
    (∀ fs ca slot, ca ≤ 2 → slot = (if ca = 2 then fs else downloadSlot s.trust) → (ca = 2 → fs = 1 ∨ fs = 2) →
      (ca ≠ 2 → fs = 0 ∨ fs = slot) →
      (slotVerifies s.trust slot = true →
        ∃ t, exec (.firmwareCommit ref fs ca) s = .next t ∧ t.trust.claim = none ∧
          t.trust.pendingSlot = (if ca = 0 then s.trust.pendingSlot else slot)) ∧
      (slotVerifies s.trust slot = false →
        exec (.firmwareCommit ref fs ca) s = .next (failCmd ref 0x107 { s with trust := { s.trust with claim := none, header := none } }))) ∧
    (∀ fs, s.trust.activating = none → (fs = 0 ∨ fs = downloadSlot s.trust) →
      (∃ t, exec (.firmwareCommitActivate ref fs) s = .next t ∧
        t.trust.activating = some { ref := ref, toSlot := downloadSlot s.trust } ∧ ∀ id ∈ s.ctlIds, (t.ctl id).pp = true) ∧
      exec (.firmwareCommit ref fs 3) s = exec (.firmwareCommitActivate ref fs) s) ∧
    (∀ (len first : Nat) (es : List HwEntry),
      es = entriesWithin (4 * len) ((allEntries s.trust).filter fun e => decide ((if first = 0 then latestBoot s.trust else first) ≤ e.seqNo)) →
      es ≠ [] → (∃ e ∈ allEntries s.trust, e.seqNo = if first = 0 then latestBoot s.trust else first) →
      exec (.bootStatementGet ref len first) s = .next (commitCmd ref 0 es.length (sendData ref (es.flatMap (·.bytes)) s)))) ∧
  (∀ s : State, ∃ t, exec .firmwareDownloadClaimEnd s = .next t ∧ t.trust.claim = none ∧ t.trust.image1 = s.trust.image1 ∧
    t.trust.image2 = s.trust.image2) ∧
  (∀ (a : Activation) (i : FwImage) (s : State), s.trust.activating = some a → imageOf s.trust a.toSlot = some i →
    slotVerifies s.trust a.toSlot = true → i.needsReset = false →
    ∃ t e, exec .firmwareActivationComplete s = .next (handOver t) ∧ t.trust.deferred = s.trust.deferred ∧ t.trust.running = a.toSlot ∧ t.trust.image = some i ∧
      t.trust.activeSlot = a.toSlot ∧ t.trust.activating = none ∧ t.trust.entries.getLast? = some e ∧ e.kind = 2) ∧
  (∀ (h : HwEntry) (ok : Bool) (s : State), hubAnswers s = true → s.trust.held = some h →
    ∃ t, exec (.heartwoodAppendRetry ok) s = .next t ∧
      (ok = true → t.trust.held = none ∧ ∃ e, t.trust.entries.getLast? = some e ∧ e.seqNo = h.seqNo ∧ e.bytes = h.bytes) ∧
      (ok = false → t.trust.held = some h ∧ ∃ u ∈ t.trust.garbage, t.trust.nextUnit = u + 1)) ∧
  (∀ s : State, hubAnswers s = true → s.mode.mode ≠ .boot → (s.trust.members.map fun m : Nat × List MemberRec => m.2) ≠ some s.trust.measured →
    ∃ t e, exec .membersEntryAppend s = .next t ∧ t.trust.members = some (e.seqNo, s.trust.measured) ∧
      t.trust.entries.getLast? = some e ∧ e.kind = 3) ∧
  ∀ (kind units : Nat) (body : Bytes) (s : State), s.trust.held = none → needsSegment s.trust units = false →
    ∃ e, (hwAppend kind units body s).trust.entries = s.trust.entries ++ [e] ∧ e.kind = kind ∧
      e.seqNo = (s.trust.entries.getLast?.map (·.seqNo)).getD 0 + 1 ∧ e.unitAt = some s.trust.nextUnit ∧
      (hwAppend kind units body s).trust.nextUnit = s.trust.nextUnit + units

/-- 03 R99 and R100; 16 R472 to R475; 15 R448. The response codes are SPDM's own (the model's choice, log 55). -/
def Obligations.SpdmAndOwnerRequestsAreAnswered : Prop :=
  (∀ (fn : Nat) (s : State), doeLive s fn = true →
    (∃ t, exec (.doeAbort fn) s = .next t ∧ (t.fn fn).doeError = false ∧ (t.fn fn).doeBusy = false) ∧
    exec (.doeUnsupportedProtocol fn) s =
      .next (s.setFn fn { s.fn fn with doeError := true, doeIn := [], doeBusy := false, doeOut := [] }) ∧
    ((s.fn fn).doeError = false →
      (∀ index, ∃ t bs, exec (.doeDiscovery fn index) s = .next t ∧ t.out = .doe fn 0 bs :: s.out ∧
        (t.fn fn).doeOut = doeObject 0 bs ∧ (t.fn fn).doeBusy = false) ∧
      (∃ t, exec (.spdmGetVersion fn) s = .next t ∧ (t.fn fn).spdm = .version) ∧
      ((s.fn fn).spdm = .version → ∃ t, exec (.spdmGetCapabilities fn) s = .next t ∧ (t.fn fn).spdm = .capabilities) ∧
      ((s.fn fn).spdm = .capabilities → ∃ t, exec (.spdmNegotiateAlgorithms fn true) s = .next t ∧ (t.fn fn).spdm = .negotiated) ∧
      ((s.fn fn).spdm ≠ .version → exec (.spdmGetCapabilities fn) s = .next (answerSpdm fn 0x7F [0x04] s)) ∧
      ((s.fn fn).spdm = .negotiated →
        (∀ c, chainOf s.trust = some c →
          exec (.spdmGetDigests fn) s = .next (answerSpdm fn 0x01 (1 :: digest c) s) ∧
          ∀ args : SpdmArgs, args.slot = 0 →
            exec (.spdmGetCertificate fn args) s = .next (answerSpdm fn 0x02 c s) ∧
            ∃ body, exec (.spdmChallenge fn args) s =
              .next (answerSpdm fn 0x03 (digest c ++ body ++ leBytes 32 args.nonce ++
                Config.sign (aliasOf s.trust) (digest c ++ body ++ leBytes 32 args.nonce)) s)) ∧
        ∀ args : SpdmArgs, ∀ m, measurement s args.index = some m →
          let record := leBytes 1 args.index ++ leBytes 1 1 ++ leBytes 2 (m.length + 3) ++ leBytes 1 (measurementType args.index) ++
            leBytes 2 m.length ++ m ++ leBytes 32 args.nonce
          exec (.spdmGetMeasurements fn args) s = .next (answerSpdm fn 0x60 (record ++ Config.sign (aliasOf s.trust) record) s)))) ∧
  (∀ (fn code : Nat) (data : Bytes) (s : State), (answerSpdm fn code data s).out = .doe fn code data :: s.out ∧
    (fn < 2 → ((answerSpdm fn code data s).fn fn).spdm = (s.fn fn).spdm)) ∧
  (∀ (ref : CmdRef) (s : State), adminTurn s ref = true →
    (∃ t n, exec (.ownerChallengeGet ref 16) s = .next t ∧ t.trust.nonce = some (n, s.now) ∧ t.trust.ownerCount = s.trust.ownerCount ∧
      t.trust.ownerKey = s.trust.ownerKey) ∧
    (∀ a : Provision,
      (provisionFault a s = 0 →
        ∃ t, exec (.ownerProvision ref a) s = .next t ∧ t.trust.ownerKey = (if a.clear then none else some a.ownerKey) ∧
          t.trust.ownerCount = s.trust.ownerCount + 1 ∧ t.trust.nonce = none ∧ t.trust.auth = none) ∧
      (provisionFault a s ≠ 0 → ∃ t, exec (.ownerProvision ref a) s = .next t ∧ t.trust = s.trust)) ∧
    ∀ a : OwnerAuthArgs,
      (authFault a s = 0 →
        ∃ t, exec (.ownerAuth ref a) s = .next t ∧ t.trust.nonce = none ∧
          t.trust.auth = (if a.durationS = 0 then none else some (a.scope, s.now + a.durationS * 1000000000))) ∧
      (authFault a s ≠ 0 → ∃ t, exec (.ownerAuth ref a) s = .next t ∧ t.trust = s.trust)) ∧
  ∀ s : State, s.trust.auth.isSome = true →
    ∃ t, exec .ownerAuthExpiry s = .next t ∧ t.trust.auth = none ∧ t.guard.finj.armed = none ∧ t.trust.ownerKey = s.trust.ownerKey

/-! ## The whole block -/

/-- The queue of waiting commands is the model's, first in, first out (log 3). -/
def Obligations.StepRunsTheFrontCommand : Prop :=
  ∀ (c : Instr) (rest : List Instr) (s t : State), step { s with pending := c :: rest } = exec c { s with pending := rest } ∧
    (exec c s = .next t → t.pending = s.pending)

/-- A choice of the model, log 3: the period is that of the 100 MHz timebase. -/
def Obligations.EmptyQueueIdles : Prop :=
  (∀ s : State, s.pending = [] → step s = .next { s with now := s.now + 10 }) ∧
  ∀ (c : Instr) (s t : State), exec c s = .next t → t.now = s.now

/-- 02 R46; 06 R200; 15 R446; 16 R481; 17 R488; 18 R511. -/
def Obligations.ResetRegistersReadAsStated : Prop :=
  State.reset.mode.mode = .boot ∧ State.reset.mode.lastTrans = 3 ∧
  (∀ fn, fn < 2 → regDword .reset fn 0x8100 = 0x2 + 0x03 * 2 ^ 8 + 0x42 * 2 ^ 16 ∧ regDword .reset fn 0x8108 = 0 ∧
    regDword .reset fn 0x810C = 0 ∧ regDword .reset fn 0x8400 = 8 ∧ regDword .reset fn 0x8404 = 0 ∧ regDword .reset fn 0x8408 = 0 ∧
    regDword .reset fn 0x8820 = 0 ∧ regDword .reset fn 0x8824 = 0 ∧ regDword .reset fn 0x8904 = 0 ∧
    ((State.reset.ctl (fn + 1)).ccEn = false ∧ (State.reset.ctl (fn + 1)).rdy = false) ∧
    ∀ w, w < 16 → ∀ off ∈ [0x00, 0x04, 0x08, 0x0C, 0x10, 0x14, 0x18],
      regDword .reset fn (0x8600 + 32 * w + off) = if off = 0x04 then 0xFFFF0000 else 0) ∧
  State.reset.recorder.hubRing = [] ∧ State.reset.cache.dram = [] ∧ MemoryFits State.reset.cache.dram ∧ RecorderFits State.reset.recorder ∧
  State.reset.pending = []

/-- 16 R480 and R481. -/
def Obligations.EveryStepKeepsTheRecorderInBounds : Prop :=
  ∀ s t : State, RecorderFits s.recorder → step s = .next t → RecorderFits t.recorder

/-- The canonical form of cache memory; what an unlisted byte reads as is a choice of the model, log 2. -/
def Obligations.EveryStepKeepsMemoryCanonical : Prop :=
  ∀ s t : State, MemoryFits s.cache.dram → step s = .next t → MemoryFits t.cache.dram

/-- The frame of every command; `changes` (Safety) names for each the parts that it may change. -/
def Obligations.CommandsChangeOnlyTheirParts : Prop :=
  ∀ (i : Instr) (s t : State), exec i s = .next t → ∀ p, p ∉ changes i → keeps s t p

/-- 06 R178 to R180, R182 and R199: where each storing command of the cache stores. -/
def Obligations.StoresStayInTheirFrames : Prop :=
  (∀ (ns vpage : Nat) (s t : State), exec (.mergeSuperseded ns vpage) s = .next t →
    ∀ a, outside (((newestOf s.cache ns vpage).toList).flatMap entryFrames) a → cacheByte t a = cacheByte s a) ∧
  (∀ (ref : CmdRef) (s t : State), exec (.directorySwitch ref) s = .next t →
    ∀ a, outside ((s.cache.dir.filter fun e => decide (e.stageRef = some ref)).flatMap entryFrames) a → cacheByte t a = cacheByte s a) ∧
  (∀ (ns vpage : Nat) (own : Option BlockRead) (others : List BlockRead) (s t : State), exec (.fillComplete ns vpage own others) s = .next t →
    (∀ j ∈ s.reads, j.toHost = false) →
    ∀ a, (∀ e, (s.cache.dir.find? fun e => decide (e.state = .fill) && decide (e.keyNs = ns) && decide (e.vpage = vpage)) = some e →
      outside [(e.region, e.frame)] a) → cacheByte t a = cacheByte s a) ∧
  (∀ (i : Instr) (ref : CmdRef) (s t : State), exec i s = .next t →
    (i = .writeAdmit ref ∨ (∃ args data md, i = .ioWrite args data md ∧ args.ref = ref) ∨
      (∃ args, i = .ioWriteZeroes args ∧ args.ref = ref) ∨ ∃ nsid dealloc ranges, i = .ioDatasetManagement ref nsid dealloc ranges) →
    ∀ a, (∀ j, (robOf t ref).bind (·.job) = some j → outside (j.parts.flatMap partFrames) a) → cacheByte t a = cacheByte s a) ∧
  (∀ (i : Instr) (s t : State), exec i s = .next t →
    ((∃ ns vpage own others, i = .fillComplete ns vpage own others) ∨ (∃ tlp, i = .bar2Write tlp ∨ i = .bar2Read tlp) ∨ (∃ fn bar offset rid, i = .poisonedBarWrite fn bar offset rid) ∨
      (∃ ctl win, i = .pwinActivate ctl win) ∨ ∃ region, i = .epochClose region) →
    ∀ a, outside ((s.cache.dir ++ t.cache.dir).flatMap entryFrames) a → cacheByte t a = cacheByte s a)

/-- 06 R176 and R179: sectors of 512 bytes in frames of 4,096. -/
def Obligations.MemoryReadsBackWhatIsWritten : Prop :=
  (∀ (l : List Host.Cell) (a : Nat) (bs : Bytes), memRead (memPut l a bs) a bs.length = bs ∧
    (∀ b, b < a ∨ a + bs.length ≤ b → memGet (memPut l a bs) b = memGet l b) ∧ (MemoryFits l → MemoryFits (memPut l a bs))) ∧
  (∀ (region frame : Nat) (mask zero : BitVec 8) (data : Bytes) (l : List Host.Cell) (i : Nat), i < 8 →
    memRead (writeSectors region frame mask zero data l) (frameAddr region frame + 512 * i) 512 =
      if bitOf mask i && !bitOf zero i then sliceBytes data (512 * i) 512 else memRead l (frameAddr region frame + 512 * i) 512)

/-- 16 R480, R482 and R483. -/
def Obligations.EventsAreNumberedAndStored : Prop :=
  ∀ (code : Nat) (params : List Nat) (s : State), s.recorder.nextSeq < 0xFFFFFFFF →
    ∃ r : EventRec, r.code = code ∧ r.seqNo = s.recorder.nextSeq ∧ r.severity = eventSeverity code ∧
      (storeRecord code params s).recorder.nextSeq = (if s.recorder.nextSeq = 0xFFFFFFFE then 0 else s.recorder.nextSeq + 1) ∧
      (s.hubPowered = true → s.recorder.frozen = false →
        (storeRecord code params s).recorder.hubRing = (s.recorder.hubRing ++ [r]).drop (s.recorder.hubRing.length + 1 - 65536) ∧
        (storeRecord code params s).recorder.lost = s.recorder.lost) ∧
      (s.hubPowered = true → s.recorder.frozen = true →
        (storeRecord code params s).recorder.hubRing = s.recorder.hubRing ∧
        (storeRecord code params s).recorder.lost = min 0xFFFF (s.recorder.lost + 1)) ∧
      (s.hubPowered = false → (storeRecord code params s).recorder.hubRing = s.recorder.hubRing) ∧
      (storeRecord code params s).recorder.sentRing =
        if s.hubPowered = false ∨ criticalClass code = true ∨ 3 ≤ eventSeverity code then
          (s.recorder.sentRing ++ [r]).drop (s.recorder.sentRing.length + 1 - 8192)
        else s.recorder.sentRing

/-- 07 R205, R213 and R214. `chunkMember` is none for a chunk without a slot. -/
def Obligations.DealingPutsChunksOnDistinctMembers : Prop :=
  (∀ (sh : Shape) (r : Nat), (perm sh r).Perm (List.range sh.n)) ∧
  ∀ (sh : Shape) (hd hd' c c' : Nat), 0 < handsPerRound sh → c < widthOf sh → c' < widthOf sh →
    (∃ mem, mem < sh.n ∧ chunkMember sh [] hd c = some mem ∧
      (perm sh (handRound sh hd))[hd % handsPerRound sh * widthOf sh + c]? = some mem) ∧
    (handRound sh hd = handRound sh hd' → (hd, c) ≠ (hd', c') → chunkMember sh [] hd c ≠ chunkMember sh [] hd' c')

/-- 04 R101, R107, R109, R111 and R120. -/
def Obligations.QueueCommandsStayOnTheirController : Prop :=
  (∀ (i : Instr) (ctl : Nat) (s t : State), exec i s = .next t →
    ((∃ q v, i = .sqTailDoorbell ctl q v) ∨ (∃ q v, i = .cqHeadDoorbell ctl q v) ∨ (∃ q es, i = .commandFetch ctl q es) ∨
      (∃ q, i = .completionPost ctl q) ∨ (∃ q b, i = .sqEntryReadError ctl q b) ∨ (∃ v, i = .aggregationTimeExpiry ctl v) ∨
      ∃ ref : CmdRef, ref.ctl = ctl ∧ ((∃ a b c d e, i = .createIoCq ref a b c d e) ∨ (∃ a b c d e, i = .createIoSq ref a b c d e) ∨
        (∃ a, i = .deleteIoCq ref a) ∨ (∃ a, i = .deleteIoSq ref a) ∨ (∃ a b, i = .abort ref a b) ∨ (∃ a, i = .queueResumeRetry ref a) ∨
        (∃ a, i = .queueResumeSkip ref a) ∨ i = .asynchronousEventRequest ref)) →
    ∀ c, c ≠ ctl → t.ctl c = s.ctl c ∧ (0 < c → 0 < ctl → t.fn (c - 1) = s.fn (c - 1))) ∧
  (∀ (ctl q v : Nat) (es : List SqEntry) (s t : State), exec (.sqTailDoorbell ctl q v) s = .next t ∨ exec (.commandFetch ctl q es) s = .next t →
    (∀ q', q' ≠ q → (exec (.commandFetch ctl q es) s = .next t → ∀ e ∈ es, e.opcode = 0 → e.cdw10 % 65536 ≠ q') →
      findSq (t.ctl ctl) q' = findSq (s.ctl ctl) q') ∧ ∀ q', q' ≠ 0 → findCq (t.ctl ctl) q' = findCq (s.ctl ctl) q') ∧
  (∀ (ctl q v : Nat) (cq : Cq) (s t : State), findCq (s.ctl ctl) q = some cq → headAccepted cq v = true →
    exec (.cqHeadDoorbell ctl q v) s = .next t →
    (∀ q', q' ≠ 0 → findSq (t.ctl ctl) q' = findSq (s.ctl ctl) q') ∧
    ∀ q', q' ≠ 0 → q' ≠ q → findCq (t.ctl ctl) q' = findCq (s.ctl ctl) q')
end

