-- ==== Sys2Proof/Laws/State.lean ====
section
/-!
SUPPORT. One lemma for each field of `State` under each update of a unit, and the read-after-write lemmas of tables and units.
-/

namespace Sys2Proof.Machine

@[simp] theorem State.setPort_mode (s : State) (i : Nat) (p : HostPort) : (s.setPort i p).mode = s.mode := (rfl)
@[simp] theorem State.setPort_power (s : State) (i : Nat) (p : HostPort) : (s.setPort i p).power = s.power := (rfl)
@[simp] theorem State.setPort_stop (s : State) (i : Nat) (p : HostPort) : (s.setPort i p).stop = s.stop := (rfl)
@[simp] theorem State.setPort_recorder (s : State) (i : Nat) (p : HostPort) : (s.setPort i p).recorder = s.recorder := (rfl)
@[simp] theorem State.setPort_ports (s : State) (i : Nat) (p : HostPort) : (s.setPort i p).ports = tblPut s.ports i p := (rfl)
@[simp] theorem State.setPort_fns (s : State) (i : Nat) (p : HostPort) : (s.setPort i p).fns = s.fns := (rfl)
@[simp] theorem State.setPort_ctls (s : State) (i : Nat) (p : HostPort) : (s.setPort i p).ctls = s.ctls := (rfl)
@[simp] theorem State.setPort_cache (s : State) (i : Nat) (p : HostPort) : (s.setPort i p).cache = s.cache := (rfl)
@[simp] theorem State.setPort_reads (s : State) (i : Nat) (p : HostPort) : (s.setPort i p).reads = s.reads := (rfl)
@[simp] theorem State.setPort_decks (s : State) (i : Nat) (p : HostPort) : (s.setPort i p).decks = s.decks := (rfl)
@[simp] theorem State.setPort_gauge (s : State) (i : Nat) (p : HostPort) : (s.setPort i p).gauge = s.gauge := (rfl)
@[simp] theorem State.setPort_vault (s : State) (i : Nat) (p : HostPort) : (s.setPort i p).vault = s.vault := (rfl)
@[simp] theorem State.setPort_fabric (s : State) (i : Nat) (p : HostPort) : (s.setPort i p).fabric = s.fabric := (rfl)
@[simp] theorem State.setPort_sched (s : State) (i : Nat) (p : HostPort) : (s.setPort i p).sched = s.sched := (rfl)
@[simp] theorem State.setPort_feats (s : State) (i : Nat) (p : HostPort) : (s.setPort i p).feats = s.feats := (rfl)
@[simp] theorem State.setPort_members (s : State) (i : Nat) (p : HostPort) : (s.setPort i p).members = s.members := (rfl)
@[simp] theorem State.setPort_guard (s : State) (i : Nat) (p : HostPort) : (s.setPort i p).guard = s.guard := (rfl)
@[simp] theorem State.setPort_trust (s : State) (i : Nat) (p : HostPort) : (s.setPort i p).trust = s.trust := (rfl)
@[simp] theorem State.setPort_now (s : State) (i : Nat) (p : HostPort) : (s.setPort i p).now = s.now := (rfl)
@[simp] theorem State.setPort_freeCtr (s : State) (i : Nat) (p : HostPort) : (s.setPort i p).freeCtr = s.freeCtr := (rfl)
@[simp] theorem State.setPort_out (s : State) (i : Nat) (p : HostPort) : (s.setPort i p).out = s.out := (rfl)
@[simp] theorem State.setPort_pending (s : State) (i : Nat) (p : HostPort) : (s.setPort i p).pending = s.pending := (rfl)

@[simp] theorem State.setFn_mode (s : State) (i : Nat) (f : Func) : (s.setFn i f).mode = s.mode := (rfl)
@[simp] theorem State.setFn_power (s : State) (i : Nat) (f : Func) : (s.setFn i f).power = s.power := (rfl)
@[simp] theorem State.setFn_stop (s : State) (i : Nat) (f : Func) : (s.setFn i f).stop = s.stop := (rfl)
@[simp] theorem State.setFn_recorder (s : State) (i : Nat) (f : Func) : (s.setFn i f).recorder = s.recorder := (rfl)
@[simp] theorem State.setFn_ports (s : State) (i : Nat) (f : Func) : (s.setFn i f).ports = s.ports := (rfl)
@[simp] theorem State.setFn_fns (s : State) (i : Nat) (f : Func) : (s.setFn i f).fns = tblPut s.fns i f := (rfl)
@[simp] theorem State.setFn_ctls (s : State) (i : Nat) (f : Func) : (s.setFn i f).ctls = s.ctls := (rfl)
@[simp] theorem State.setFn_cache (s : State) (i : Nat) (f : Func) : (s.setFn i f).cache = s.cache := (rfl)
@[simp] theorem State.setFn_reads (s : State) (i : Nat) (f : Func) : (s.setFn i f).reads = s.reads := (rfl)
@[simp] theorem State.setFn_decks (s : State) (i : Nat) (f : Func) : (s.setFn i f).decks = s.decks := (rfl)
@[simp] theorem State.setFn_gauge (s : State) (i : Nat) (f : Func) : (s.setFn i f).gauge = s.gauge := (rfl)
@[simp] theorem State.setFn_vault (s : State) (i : Nat) (f : Func) : (s.setFn i f).vault = s.vault := (rfl)
@[simp] theorem State.setFn_fabric (s : State) (i : Nat) (f : Func) : (s.setFn i f).fabric = s.fabric := (rfl)
@[simp] theorem State.setFn_sched (s : State) (i : Nat) (f : Func) : (s.setFn i f).sched = s.sched := (rfl)
@[simp] theorem State.setFn_feats (s : State) (i : Nat) (f : Func) : (s.setFn i f).feats = s.feats := (rfl)
@[simp] theorem State.setFn_members (s : State) (i : Nat) (f : Func) : (s.setFn i f).members = s.members := (rfl)
@[simp] theorem State.setFn_guard (s : State) (i : Nat) (f : Func) : (s.setFn i f).guard = s.guard := (rfl)
@[simp] theorem State.setFn_trust (s : State) (i : Nat) (f : Func) : (s.setFn i f).trust = s.trust := (rfl)
@[simp] theorem State.setFn_now (s : State) (i : Nat) (f : Func) : (s.setFn i f).now = s.now := (rfl)
@[simp] theorem State.setFn_freeCtr (s : State) (i : Nat) (f : Func) : (s.setFn i f).freeCtr = s.freeCtr := (rfl)
@[simp] theorem State.setFn_out (s : State) (i : Nat) (f : Func) : (s.setFn i f).out = s.out := (rfl)
@[simp] theorem State.setFn_pending (s : State) (i : Nat) (f : Func) : (s.setFn i f).pending = s.pending := (rfl)

@[simp] theorem State.setCtl_mode (s : State) (id : Nat) (c : Ctl) : (s.setCtl id c).mode = s.mode := (rfl)
@[simp] theorem State.setCtl_power (s : State) (id : Nat) (c : Ctl) : (s.setCtl id c).power = s.power := (rfl)
@[simp] theorem State.setCtl_stop (s : State) (id : Nat) (c : Ctl) : (s.setCtl id c).stop = s.stop := (rfl)
@[simp] theorem State.setCtl_recorder (s : State) (id : Nat) (c : Ctl) : (s.setCtl id c).recorder = s.recorder := (rfl)
@[simp] theorem State.setCtl_ports (s : State) (id : Nat) (c : Ctl) : (s.setCtl id c).ports = s.ports := (rfl)
@[simp] theorem State.setCtl_fns (s : State) (id : Nat) (c : Ctl) : (s.setCtl id c).fns = s.fns := (rfl)
@[simp] theorem State.setCtl_ctls (s : State) (id : Nat) (c : Ctl) : (s.setCtl id c).ctls = tblPut s.ctls id c := (rfl)
@[simp] theorem State.setCtl_cache (s : State) (id : Nat) (c : Ctl) : (s.setCtl id c).cache = s.cache := (rfl)
@[simp] theorem State.setCtl_reads (s : State) (id : Nat) (c : Ctl) : (s.setCtl id c).reads = s.reads := (rfl)
@[simp] theorem State.setCtl_decks (s : State) (id : Nat) (c : Ctl) : (s.setCtl id c).decks = s.decks := (rfl)
@[simp] theorem State.setCtl_gauge (s : State) (id : Nat) (c : Ctl) : (s.setCtl id c).gauge = s.gauge := (rfl)
@[simp] theorem State.setCtl_vault (s : State) (id : Nat) (c : Ctl) : (s.setCtl id c).vault = s.vault := (rfl)
@[simp] theorem State.setCtl_fabric (s : State) (id : Nat) (c : Ctl) : (s.setCtl id c).fabric = s.fabric := (rfl)
@[simp] theorem State.setCtl_sched (s : State) (id : Nat) (c : Ctl) : (s.setCtl id c).sched = s.sched := (rfl)
@[simp] theorem State.setCtl_feats (s : State) (id : Nat) (c : Ctl) : (s.setCtl id c).feats = s.feats := (rfl)
@[simp] theorem State.setCtl_members (s : State) (id : Nat) (c : Ctl) : (s.setCtl id c).members = s.members := (rfl)
@[simp] theorem State.setCtl_guard (s : State) (id : Nat) (c : Ctl) : (s.setCtl id c).guard = s.guard := (rfl)
@[simp] theorem State.setCtl_trust (s : State) (id : Nat) (c : Ctl) : (s.setCtl id c).trust = s.trust := (rfl)
@[simp] theorem State.setCtl_now (s : State) (id : Nat) (c : Ctl) : (s.setCtl id c).now = s.now := (rfl)
@[simp] theorem State.setCtl_freeCtr (s : State) (id : Nat) (c : Ctl) : (s.setCtl id c).freeCtr = s.freeCtr := (rfl)
@[simp] theorem State.setCtl_out (s : State) (id : Nat) (c : Ctl) : (s.setCtl id c).out = s.out := (rfl)
@[simp] theorem State.setCtl_pending (s : State) (id : Nat) (c : Ctl) : (s.setCtl id c).pending = s.pending := (rfl)

@[simp] theorem State.setChan_mode (s : State) (n : Nat) (c : Channel) : (s.setChan n c).mode = s.mode := (rfl)
@[simp] theorem State.setChan_power (s : State) (n : Nat) (c : Channel) : (s.setChan n c).power = s.power := (rfl)
@[simp] theorem State.setChan_stop (s : State) (n : Nat) (c : Channel) : (s.setChan n c).stop = s.stop := (rfl)
@[simp] theorem State.setChan_recorder (s : State) (n : Nat) (c : Channel) : (s.setChan n c).recorder = s.recorder := (rfl)
@[simp] theorem State.setChan_ports (s : State) (n : Nat) (c : Channel) : (s.setChan n c).ports = s.ports := (rfl)
@[simp] theorem State.setChan_fns (s : State) (n : Nat) (c : Channel) : (s.setChan n c).fns = s.fns := (rfl)
@[simp] theorem State.setChan_ctls (s : State) (n : Nat) (c : Channel) : (s.setChan n c).ctls = s.ctls := (rfl)
@[simp] theorem State.setChan_reads (s : State) (n : Nat) (c : Channel) : (s.setChan n c).reads = s.reads := (rfl)
@[simp] theorem State.setChan_decks (s : State) (n : Nat) (c : Channel) : (s.setChan n c).decks = s.decks := (rfl)
@[simp] theorem State.setChan_gauge (s : State) (n : Nat) (c : Channel) : (s.setChan n c).gauge = s.gauge := (rfl)
@[simp] theorem State.setChan_vault (s : State) (n : Nat) (c : Channel) : (s.setChan n c).vault = s.vault := (rfl)
@[simp] theorem State.setChan_fabric (s : State) (n : Nat) (c : Channel) : (s.setChan n c).fabric = s.fabric := (rfl)
@[simp] theorem State.setChan_sched (s : State) (n : Nat) (c : Channel) : (s.setChan n c).sched = s.sched := (rfl)
@[simp] theorem State.setChan_feats (s : State) (n : Nat) (c : Channel) : (s.setChan n c).feats = s.feats := (rfl)
@[simp] theorem State.setChan_members (s : State) (n : Nat) (c : Channel) : (s.setChan n c).members = s.members := (rfl)
@[simp] theorem State.setChan_guard (s : State) (n : Nat) (c : Channel) : (s.setChan n c).guard = s.guard := (rfl)
@[simp] theorem State.setChan_trust (s : State) (n : Nat) (c : Channel) : (s.setChan n c).trust = s.trust := (rfl)
@[simp] theorem State.setChan_now (s : State) (n : Nat) (c : Channel) : (s.setChan n c).now = s.now := (rfl)
@[simp] theorem State.setChan_freeCtr (s : State) (n : Nat) (c : Channel) : (s.setChan n c).freeCtr = s.freeCtr := (rfl)
@[simp] theorem State.setChan_out (s : State) (n : Nat) (c : Channel) : (s.setChan n c).out = s.out := (rfl)
@[simp] theorem State.setChan_pending (s : State) (n : Nat) (c : Channel) : (s.setChan n c).pending = s.pending := (rfl)

@[simp] theorem State.setDeck_mode (s : State) (id : Nat) (d : Deck) : (s.setDeck id d).mode = s.mode := (rfl)
@[simp] theorem State.setDeck_power (s : State) (id : Nat) (d : Deck) : (s.setDeck id d).power = s.power := (rfl)
@[simp] theorem State.setDeck_stop (s : State) (id : Nat) (d : Deck) : (s.setDeck id d).stop = s.stop := (rfl)
@[simp] theorem State.setDeck_recorder (s : State) (id : Nat) (d : Deck) : (s.setDeck id d).recorder = s.recorder := (rfl)
@[simp] theorem State.setDeck_ports (s : State) (id : Nat) (d : Deck) : (s.setDeck id d).ports = s.ports := (rfl)
@[simp] theorem State.setDeck_fns (s : State) (id : Nat) (d : Deck) : (s.setDeck id d).fns = s.fns := (rfl)
@[simp] theorem State.setDeck_ctls (s : State) (id : Nat) (d : Deck) : (s.setDeck id d).ctls = s.ctls := (rfl)
@[simp] theorem State.setDeck_cache (s : State) (id : Nat) (d : Deck) : (s.setDeck id d).cache = s.cache := (rfl)
@[simp] theorem State.setDeck_reads (s : State) (id : Nat) (d : Deck) : (s.setDeck id d).reads = s.reads := (rfl)
@[simp] theorem State.setDeck_gauge (s : State) (id : Nat) (d : Deck) : (s.setDeck id d).gauge = s.gauge := (rfl)
@[simp] theorem State.setDeck_vault (s : State) (id : Nat) (d : Deck) : (s.setDeck id d).vault = s.vault := (rfl)
@[simp] theorem State.setDeck_fabric (s : State) (id : Nat) (d : Deck) : (s.setDeck id d).fabric = s.fabric := (rfl)
@[simp] theorem State.setDeck_sched (s : State) (id : Nat) (d : Deck) : (s.setDeck id d).sched = s.sched := (rfl)
@[simp] theorem State.setDeck_feats (s : State) (id : Nat) (d : Deck) : (s.setDeck id d).feats = s.feats := (rfl)
@[simp] theorem State.setDeck_members (s : State) (id : Nat) (d : Deck) : (s.setDeck id d).members = s.members := (rfl)
@[simp] theorem State.setDeck_guard (s : State) (id : Nat) (d : Deck) : (s.setDeck id d).guard = s.guard := (rfl)
@[simp] theorem State.setDeck_trust (s : State) (id : Nat) (d : Deck) : (s.setDeck id d).trust = s.trust := (rfl)
@[simp] theorem State.setDeck_now (s : State) (id : Nat) (d : Deck) : (s.setDeck id d).now = s.now := (rfl)
@[simp] theorem State.setDeck_freeCtr (s : State) (id : Nat) (d : Deck) : (s.setDeck id d).freeCtr = s.freeCtr := (rfl)
@[simp] theorem State.setDeck_out (s : State) (id : Nat) (d : Deck) : (s.setDeck id d).out = s.out := (rfl)
@[simp] theorem State.setDeck_pending (s : State) (id : Nat) (d : Deck) : (s.setDeck id d).pending = s.pending := (rfl)

@[simp] theorem State.setVol_mode (s : State) (nsid : Nat) (v : Volume) : (s.setVol nsid v).mode = s.mode := (rfl)
@[simp] theorem State.setVol_power (s : State) (nsid : Nat) (v : Volume) : (s.setVol nsid v).power = s.power := (rfl)
@[simp] theorem State.setVol_stop (s : State) (nsid : Nat) (v : Volume) : (s.setVol nsid v).stop = s.stop := (rfl)
@[simp] theorem State.setVol_recorder (s : State) (nsid : Nat) (v : Volume) : (s.setVol nsid v).recorder = s.recorder := (rfl)
@[simp] theorem State.setVol_ports (s : State) (nsid : Nat) (v : Volume) : (s.setVol nsid v).ports = s.ports := (rfl)
@[simp] theorem State.setVol_fns (s : State) (nsid : Nat) (v : Volume) : (s.setVol nsid v).fns = s.fns := (rfl)
@[simp] theorem State.setVol_ctls (s : State) (nsid : Nat) (v : Volume) : (s.setVol nsid v).ctls = s.ctls := (rfl)
@[simp] theorem State.setVol_cache (s : State) (nsid : Nat) (v : Volume) : (s.setVol nsid v).cache = s.cache := (rfl)
@[simp] theorem State.setVol_reads (s : State) (nsid : Nat) (v : Volume) : (s.setVol nsid v).reads = s.reads := (rfl)
@[simp] theorem State.setVol_gauge (s : State) (nsid : Nat) (v : Volume) : (s.setVol nsid v).gauge = s.gauge := (rfl)
@[simp] theorem State.setVol_vault (s : State) (nsid : Nat) (v : Volume) : (s.setVol nsid v).vault = s.vault := (rfl)
@[simp] theorem State.setVol_fabric (s : State) (nsid : Nat) (v : Volume) : (s.setVol nsid v).fabric = s.fabric := (rfl)
@[simp] theorem State.setVol_sched (s : State) (nsid : Nat) (v : Volume) : (s.setVol nsid v).sched = s.sched := (rfl)
@[simp] theorem State.setVol_feats (s : State) (nsid : Nat) (v : Volume) : (s.setVol nsid v).feats = s.feats := (rfl)
@[simp] theorem State.setVol_members (s : State) (nsid : Nat) (v : Volume) : (s.setVol nsid v).members = s.members := (rfl)
@[simp] theorem State.setVol_guard (s : State) (nsid : Nat) (v : Volume) : (s.setVol nsid v).guard = s.guard := (rfl)
@[simp] theorem State.setVol_trust (s : State) (nsid : Nat) (v : Volume) : (s.setVol nsid v).trust = s.trust := (rfl)
@[simp] theorem State.setVol_now (s : State) (nsid : Nat) (v : Volume) : (s.setVol nsid v).now = s.now := (rfl)
@[simp] theorem State.setVol_freeCtr (s : State) (nsid : Nat) (v : Volume) : (s.setVol nsid v).freeCtr = s.freeCtr := (rfl)
@[simp] theorem State.setVol_out (s : State) (nsid : Nat) (v : Volume) : (s.setVol nsid v).out = s.out := (rfl)
@[simp] theorem State.setVol_pending (s : State) (nsid : Nat) (v : Volume) : (s.setVol nsid v).pending = s.pending := (rfl)

@[simp] theorem State.setSlot_mode (s : State) (x : Nat) (v : Slot) : (s.setSlot x v).mode = s.mode := (rfl)
@[simp] theorem State.setSlot_power (s : State) (x : Nat) (v : Slot) : (s.setSlot x v).power = s.power := (rfl)
@[simp] theorem State.setSlot_stop (s : State) (x : Nat) (v : Slot) : (s.setSlot x v).stop = s.stop := (rfl)
@[simp] theorem State.setSlot_recorder (s : State) (x : Nat) (v : Slot) : (s.setSlot x v).recorder = s.recorder := (rfl)
@[simp] theorem State.setSlot_ports (s : State) (x : Nat) (v : Slot) : (s.setSlot x v).ports = s.ports := (rfl)
@[simp] theorem State.setSlot_fns (s : State) (x : Nat) (v : Slot) : (s.setSlot x v).fns = s.fns := (rfl)
@[simp] theorem State.setSlot_ctls (s : State) (x : Nat) (v : Slot) : (s.setSlot x v).ctls = s.ctls := (rfl)
@[simp] theorem State.setSlot_cache (s : State) (x : Nat) (v : Slot) : (s.setSlot x v).cache = s.cache := (rfl)
@[simp] theorem State.setSlot_reads (s : State) (x : Nat) (v : Slot) : (s.setSlot x v).reads = s.reads := (rfl)
@[simp] theorem State.setSlot_decks (s : State) (x : Nat) (v : Slot) : (s.setSlot x v).decks = s.decks := (rfl)
@[simp] theorem State.setSlot_gauge (s : State) (x : Nat) (v : Slot) : (s.setSlot x v).gauge = s.gauge := (rfl)
@[simp] theorem State.setSlot_vault (s : State) (x : Nat) (v : Slot) : (s.setSlot x v).vault = s.vault := (rfl)
@[simp] theorem State.setSlot_fabric (s : State) (x : Nat) (v : Slot) : (s.setSlot x v).fabric = s.fabric := (rfl)
@[simp] theorem State.setSlot_sched (s : State) (x : Nat) (v : Slot) : (s.setSlot x v).sched = s.sched := (rfl)
@[simp] theorem State.setSlot_feats (s : State) (x : Nat) (v : Slot) : (s.setSlot x v).feats = s.feats := (rfl)
@[simp] theorem State.setSlot_guard (s : State) (x : Nat) (v : Slot) : (s.setSlot x v).guard = s.guard := (rfl)
@[simp] theorem State.setSlot_trust (s : State) (x : Nat) (v : Slot) : (s.setSlot x v).trust = s.trust := (rfl)
@[simp] theorem State.setSlot_now (s : State) (x : Nat) (v : Slot) : (s.setSlot x v).now = s.now := (rfl)
@[simp] theorem State.setSlot_freeCtr (s : State) (x : Nat) (v : Slot) : (s.setSlot x v).freeCtr = s.freeCtr := (rfl)
@[simp] theorem State.setSlot_out (s : State) (x : Nat) (v : Slot) : (s.setSlot x v).out = s.out := (rfl)
@[simp] theorem State.setSlot_pending (s : State) (x : Nat) (v : Slot) : (s.setSlot x v).pending = s.pending := (rfl)

@[simp] theorem State.setLink_mode (s : State) (i : Nat) (l : Link) : (s.setLink i l).mode = s.mode := (rfl)
@[simp] theorem State.setLink_power (s : State) (i : Nat) (l : Link) : (s.setLink i l).power = s.power := (rfl)
@[simp] theorem State.setLink_stop (s : State) (i : Nat) (l : Link) : (s.setLink i l).stop = s.stop := (rfl)
@[simp] theorem State.setLink_recorder (s : State) (i : Nat) (l : Link) : (s.setLink i l).recorder = s.recorder := (rfl)
@[simp] theorem State.setLink_ports (s : State) (i : Nat) (l : Link) : (s.setLink i l).ports = s.ports := (rfl)
@[simp] theorem State.setLink_fns (s : State) (i : Nat) (l : Link) : (s.setLink i l).fns = s.fns := (rfl)
@[simp] theorem State.setLink_ctls (s : State) (i : Nat) (l : Link) : (s.setLink i l).ctls = s.ctls := (rfl)
@[simp] theorem State.setLink_cache (s : State) (i : Nat) (l : Link) : (s.setLink i l).cache = s.cache := (rfl)
@[simp] theorem State.setLink_reads (s : State) (i : Nat) (l : Link) : (s.setLink i l).reads = s.reads := (rfl)
@[simp] theorem State.setLink_decks (s : State) (i : Nat) (l : Link) : (s.setLink i l).decks = s.decks := (rfl)
@[simp] theorem State.setLink_gauge (s : State) (i : Nat) (l : Link) : (s.setLink i l).gauge = s.gauge := (rfl)
@[simp] theorem State.setLink_vault (s : State) (i : Nat) (l : Link) : (s.setLink i l).vault = s.vault := (rfl)
@[simp] theorem State.setLink_sched (s : State) (i : Nat) (l : Link) : (s.setLink i l).sched = s.sched := (rfl)
@[simp] theorem State.setLink_feats (s : State) (i : Nat) (l : Link) : (s.setLink i l).feats = s.feats := (rfl)
@[simp] theorem State.setLink_members (s : State) (i : Nat) (l : Link) : (s.setLink i l).members = s.members := (rfl)
@[simp] theorem State.setLink_guard (s : State) (i : Nat) (l : Link) : (s.setLink i l).guard = s.guard := (rfl)
@[simp] theorem State.setLink_trust (s : State) (i : Nat) (l : Link) : (s.setLink i l).trust = s.trust := (rfl)
@[simp] theorem State.setLink_now (s : State) (i : Nat) (l : Link) : (s.setLink i l).now = s.now := (rfl)
@[simp] theorem State.setLink_freeCtr (s : State) (i : Nat) (l : Link) : (s.setLink i l).freeCtr = s.freeCtr := (rfl)
@[simp] theorem State.setLink_out (s : State) (i : Nat) (l : Link) : (s.setLink i l).out = s.out := (rfl)
@[simp] theorem State.setLink_pending (s : State) (i : Nat) (l : Link) : (s.setLink i l).pending = s.pending := (rfl)

@[simp] theorem State.setPblock_mode (s : State) (region block : Nat) (b : PBlock) : (s.setPblock region block b).mode = s.mode := (rfl)
@[simp] theorem State.setPblock_power (s : State) (region block : Nat) (b : PBlock) : (s.setPblock region block b).power = s.power := (rfl)
@[simp] theorem State.setPblock_stop (s : State) (region block : Nat) (b : PBlock) : (s.setPblock region block b).stop = s.stop := (rfl)
@[simp] theorem State.setPblock_recorder (s : State) (region block : Nat) (b : PBlock) : (s.setPblock region block b).recorder = s.recorder := (rfl)
@[simp] theorem State.setPblock_ports (s : State) (region block : Nat) (b : PBlock) : (s.setPblock region block b).ports = s.ports := (rfl)
@[simp] theorem State.setPblock_fns (s : State) (region block : Nat) (b : PBlock) : (s.setPblock region block b).fns = s.fns := (rfl)
@[simp] theorem State.setPblock_ctls (s : State) (region block : Nat) (b : PBlock) : (s.setPblock region block b).ctls = s.ctls := (rfl)
@[simp] theorem State.setPblock_cache (s : State) (region block : Nat) (b : PBlock) : (s.setPblock region block b).cache = s.cache := (rfl)
@[simp] theorem State.setPblock_reads (s : State) (region block : Nat) (b : PBlock) : (s.setPblock region block b).reads = s.reads := (rfl)
@[simp] theorem State.setPblock_decks (s : State) (region block : Nat) (b : PBlock) : (s.setPblock region block b).decks = s.decks := (rfl)
@[simp] theorem State.setPblock_gauge (s : State) (region block : Nat) (b : PBlock) : (s.setPblock region block b).gauge = s.gauge := (rfl)
@[simp] theorem State.setPblock_vault (s : State) (region block : Nat) (b : PBlock) : (s.setPblock region block b).vault = s.vault := (rfl)
@[simp] theorem State.setPblock_sched (s : State) (region block : Nat) (b : PBlock) : (s.setPblock region block b).sched = s.sched := (rfl)
@[simp] theorem State.setPblock_feats (s : State) (region block : Nat) (b : PBlock) : (s.setPblock region block b).feats = s.feats := (rfl)
@[simp] theorem State.setPblock_members (s : State) (region block : Nat) (b : PBlock) : (s.setPblock region block b).members = s.members := (rfl)
@[simp] theorem State.setPblock_guard (s : State) (region block : Nat) (b : PBlock) : (s.setPblock region block b).guard = s.guard := (rfl)
@[simp] theorem State.setPblock_trust (s : State) (region block : Nat) (b : PBlock) : (s.setPblock region block b).trust = s.trust := (rfl)
@[simp] theorem State.setPblock_now (s : State) (region block : Nat) (b : PBlock) : (s.setPblock region block b).now = s.now := (rfl)
@[simp] theorem State.setPblock_freeCtr (s : State) (region block : Nat) (b : PBlock) : (s.setPblock region block b).freeCtr = s.freeCtr := (rfl)
@[simp] theorem State.setPblock_out (s : State) (region block : Nat) (b : PBlock) : (s.setPblock region block b).out = s.out := (rfl)
@[simp] theorem State.setPblock_pending (s : State) (region block : Nat) (b : PBlock) : (s.setPblock region block b).pending = s.pending := (rfl)

@[simp] theorem State.withPending_mode (s : State) (q : List Instr) : (s.withPending q).mode = s.mode := (rfl)
@[simp] theorem State.withPending_power (s : State) (q : List Instr) : (s.withPending q).power = s.power := (rfl)
@[simp] theorem State.withPending_stop (s : State) (q : List Instr) : (s.withPending q).stop = s.stop := (rfl)
@[simp] theorem State.withPending_recorder (s : State) (q : List Instr) : (s.withPending q).recorder = s.recorder := (rfl)
@[simp] theorem State.withPending_ports (s : State) (q : List Instr) : (s.withPending q).ports = s.ports := (rfl)
@[simp] theorem State.withPending_fns (s : State) (q : List Instr) : (s.withPending q).fns = s.fns := (rfl)
@[simp] theorem State.withPending_ctls (s : State) (q : List Instr) : (s.withPending q).ctls = s.ctls := (rfl)
@[simp] theorem State.withPending_cache (s : State) (q : List Instr) : (s.withPending q).cache = s.cache := (rfl)
@[simp] theorem State.withPending_reads (s : State) (q : List Instr) : (s.withPending q).reads = s.reads := (rfl)
@[simp] theorem State.withPending_decks (s : State) (q : List Instr) : (s.withPending q).decks = s.decks := (rfl)
@[simp] theorem State.withPending_gauge (s : State) (q : List Instr) : (s.withPending q).gauge = s.gauge := (rfl)
@[simp] theorem State.withPending_vault (s : State) (q : List Instr) : (s.withPending q).vault = s.vault := (rfl)
@[simp] theorem State.withPending_fabric (s : State) (q : List Instr) : (s.withPending q).fabric = s.fabric := (rfl)
@[simp] theorem State.withPending_sched (s : State) (q : List Instr) : (s.withPending q).sched = s.sched := (rfl)
@[simp] theorem State.withPending_feats (s : State) (q : List Instr) : (s.withPending q).feats = s.feats := (rfl)
@[simp] theorem State.withPending_members (s : State) (q : List Instr) : (s.withPending q).members = s.members := (rfl)
@[simp] theorem State.withPending_guard (s : State) (q : List Instr) : (s.withPending q).guard = s.guard := (rfl)
@[simp] theorem State.withPending_trust (s : State) (q : List Instr) : (s.withPending q).trust = s.trust := (rfl)
@[simp] theorem State.withPending_now (s : State) (q : List Instr) : (s.withPending q).now = s.now := (rfl)
@[simp] theorem State.withPending_freeCtr (s : State) (q : List Instr) : (s.withPending q).freeCtr = s.freeCtr := (rfl)
@[simp] theorem State.withPending_out (s : State) (q : List Instr) : (s.withPending q).out = s.out := (rfl)
@[simp] theorem State.withPending_pending (s : State) (q : List Instr) : (s.withPending q).pending = q := (rfl)

@[simp] theorem State.idle_mode (s : State) : (s.idle).mode = s.mode := (rfl)
@[simp] theorem State.idle_power (s : State) : (s.idle).power = s.power := (rfl)
@[simp] theorem State.idle_stop (s : State) : (s.idle).stop = s.stop := (rfl)
@[simp] theorem State.idle_recorder (s : State) : (s.idle).recorder = s.recorder := (rfl)
@[simp] theorem State.idle_ports (s : State) : (s.idle).ports = s.ports := (rfl)
@[simp] theorem State.idle_fns (s : State) : (s.idle).fns = s.fns := (rfl)
@[simp] theorem State.idle_ctls (s : State) : (s.idle).ctls = s.ctls := (rfl)
@[simp] theorem State.idle_cache (s : State) : (s.idle).cache = s.cache := (rfl)
@[simp] theorem State.idle_reads (s : State) : (s.idle).reads = s.reads := (rfl)
@[simp] theorem State.idle_decks (s : State) : (s.idle).decks = s.decks := (rfl)
@[simp] theorem State.idle_gauge (s : State) : (s.idle).gauge = s.gauge := (rfl)
@[simp] theorem State.idle_vault (s : State) : (s.idle).vault = s.vault := (rfl)
@[simp] theorem State.idle_fabric (s : State) : (s.idle).fabric = s.fabric := (rfl)
@[simp] theorem State.idle_sched (s : State) : (s.idle).sched = s.sched := (rfl)
@[simp] theorem State.idle_feats (s : State) : (s.idle).feats = s.feats := (rfl)
@[simp] theorem State.idle_members (s : State) : (s.idle).members = s.members := (rfl)
@[simp] theorem State.idle_guard (s : State) : (s.idle).guard = s.guard := (rfl)
@[simp] theorem State.idle_trust (s : State) : (s.idle).trust = s.trust := (rfl)
@[simp] theorem State.idle_now (s : State) : (s.idle).now = s.now + 10 := (rfl)
@[simp] theorem State.idle_freeCtr (s : State) : (s.idle).freeCtr = s.freeCtr := (rfl)
@[simp] theorem State.idle_out (s : State) : (s.idle).out = s.out := (rfl)
@[simp] theorem State.idle_pending (s : State) : (s.idle).pending = s.pending := (rfl)

@[simp] theorem emit_mode (o : Out) (s : State) : (emit o s).mode = s.mode := (rfl)
@[simp] theorem emit_power (o : Out) (s : State) : (emit o s).power = s.power := (rfl)
@[simp] theorem emit_stop (o : Out) (s : State) : (emit o s).stop = s.stop := (rfl)
@[simp] theorem emit_recorder (o : Out) (s : State) : (emit o s).recorder = s.recorder := (rfl)
@[simp] theorem emit_ports (o : Out) (s : State) : (emit o s).ports = s.ports := (rfl)
@[simp] theorem emit_fns (o : Out) (s : State) : (emit o s).fns = s.fns := (rfl)
@[simp] theorem emit_ctls (o : Out) (s : State) : (emit o s).ctls = s.ctls := (rfl)
@[simp] theorem emit_cache (o : Out) (s : State) : (emit o s).cache = s.cache := (rfl)
@[simp] theorem emit_reads (o : Out) (s : State) : (emit o s).reads = s.reads := (rfl)
@[simp] theorem emit_decks (o : Out) (s : State) : (emit o s).decks = s.decks := (rfl)
@[simp] theorem emit_gauge (o : Out) (s : State) : (emit o s).gauge = s.gauge := (rfl)
@[simp] theorem emit_vault (o : Out) (s : State) : (emit o s).vault = s.vault := (rfl)
@[simp] theorem emit_fabric (o : Out) (s : State) : (emit o s).fabric = s.fabric := (rfl)
@[simp] theorem emit_sched (o : Out) (s : State) : (emit o s).sched = s.sched := (rfl)
@[simp] theorem emit_feats (o : Out) (s : State) : (emit o s).feats = s.feats := (rfl)
@[simp] theorem emit_members (o : Out) (s : State) : (emit o s).members = s.members := (rfl)
@[simp] theorem emit_guard (o : Out) (s : State) : (emit o s).guard = s.guard := (rfl)
@[simp] theorem emit_trust (o : Out) (s : State) : (emit o s).trust = s.trust := (rfl)
@[simp] theorem emit_now (o : Out) (s : State) : (emit o s).now = s.now := (rfl)
@[simp] theorem emit_freeCtr (o : Out) (s : State) : (emit o s).freeCtr = s.freeCtr := (rfl)
@[simp] theorem emit_out (o : Out) (s : State) : (emit o s).out = o :: s.out := (rfl)
@[simp] theorem emit_pending (o : Out) (s : State) : (emit o s).pending = s.pending := (rfl)

/-- A table holds what was put under a key. -/
@[simp] theorem tblGet_tblPut_self {κ α : Type} [DecidableEq κ] (t : Tbl κ α) (k : κ) (v d : α) : tblGet (tblPut t k v) k d = v := by
  induction t with
  | nil => simp [tblPut, tblGet]
  | cons p t ih => by_cases h : p.1 = k <;> simp [tblPut, tblGet, h, ih]

/-- Putting under one key leaves every other key. -/
@[simp] theorem tblGet_tblPut_other {κ α : Type} [DecidableEq κ] (t : Tbl κ α) (k j : κ) (v d : α) (h : j ≠ k) :
    tblGet (tblPut t k v) j d = tblGet t j d := by
  induction t with
  | nil => simp [tblPut, tblGet, Ne.symm h]
  | cons p t ih =>
    by_cases hk : p.1 = k
    · subst hk; simp [tblPut, tblGet, Ne.symm h]
    · by_cases hj : p.1 = j <;> simp [tblPut, tblGet, hk, hj, ih, h]

/-- A lookup finds what was put under a key. -/
@[simp] theorem tblFind_tblPut_self {κ α : Type} [DecidableEq κ] (t : Tbl κ α) (k : κ) (v : α) : tblFind (tblPut t k v) k = some v := by
  induction t with
  | nil => simp [tblPut, tblFind]
  | cons p t ih => by_cases h : p.1 = k <;> simp [tblPut, tblFind, h, ih]

/-- A lookup under another key finds what it found before. -/
@[simp] theorem tblFind_tblPut_other {κ α : Type} [DecidableEq κ] (t : Tbl κ α) (k j : κ) (v : α) (h : j ≠ k) :
    tblFind (tblPut t k v) j = tblFind t j := by
  induction t with
  | nil => simp [tblPut, tblFind, Ne.symm h]
  | cons p t ih =>
    by_cases hk : p.1 = k
    · subst hk; simp [tblPut, tblFind, Ne.symm h]
    · by_cases hj : p.1 = j <;> simp [tblPut, tblFind, hk, hj, ih, h]

@[simp] theorem State.setChan_dram (s : State) (n : Nat) (c : Channel) : (s.setChan n c).cache.dram = s.cache.dram := (rfl)
@[simp] theorem State.setPort_port_self (s : State) (i : Nat) (v : HostPort) : (s.setPort i v).port i = v := by simp [State.port]
@[simp] theorem State.setPort_port_other (s : State) (i j : Nat) (v : HostPort) (h : j ≠ i) : (s.setPort i v).port j = s.port j := by
  simp [State.port, h]
@[simp] theorem State.setFn_fn_self (s : State) (i : Nat) (v : Func) : (s.setFn i v).fn i = v := by simp [State.fn]
@[simp] theorem State.setFn_fn_other (s : State) (i j : Nat) (v : Func) (h : j ≠ i) : (s.setFn i v).fn j = s.fn j := by
  simp [State.fn, h]
@[simp] theorem State.setCtl_ctl_self (s : State) (i : Nat) (v : Ctl) : (s.setCtl i v).ctl i = v := by simp [State.ctl]
@[simp] theorem State.setCtl_ctl_other (s : State) (i j : Nat) (v : Ctl) (h : j ≠ i) : (s.setCtl i v).ctl j = s.ctl j := by
  simp [State.ctl, h]
@[simp] theorem State.setDeck_deck_self (s : State) (i : Nat) (d : Deck) : (s.setDeck i d).deck i = some d := by
  simp [State.deck, State.setDeck]
@[simp] theorem State.setDeck_deck_other (s : State) (i j : Nat) (d : Deck) (h : j ≠ i) : (s.setDeck i d).deck j = s.deck j := by
  simp [State.deck, State.setDeck, h]
@[simp] theorem State.setVol_vol_self (s : State) (i : Nat) (v : Volume) : (s.setVol i v).vol i = some v := by
  simp [State.vol, State.setVol]
@[simp] theorem State.setSlot_slot_self (s : State) (i : Nat) (v : Slot) : (s.setSlot i v).slot i = v := by
  simp [State.slot, State.setSlot]
@[simp] theorem State.setSlot_slot_other (s : State) (i j : Nat) (v : Slot) (h : j ≠ i) : (s.setSlot i v).slot j = s.slot j := by
  simp [State.slot, State.setSlot, h]
@[simp] theorem State.setLink_link_self (s : State) (i : Nat) (l : Link) : (s.setLink i l).link i = l := by
  simp [State.link, State.setLink]

end Sys2Proof.Machine
end

