-- ==== Sys2Proof/Laws/Ops.lean ====
section
/-!
SUPPORT. The frames of the operations of Machine/Ops.lean: which units of the state each leaves alone.
-/

namespace Sys2Proof.Machine

/-! What every step of a fold leaves alone, the fold leaves alone, field by field. -/

@[simp] theorem foldl_mode {α : Type} (F : State → α → State) (h : ∀ t x, (F t x).mode = t.mode) (l : List α) (s : State) :
    (l.foldl F s).mode = s.mode := by
  induction l generalizing s with
  | nil => rfl
  | cons x l ih => exact (ih (F s x)).trans (h s x)

@[simp] theorem ite_mode (c : Prop) [Decidable c] (a b : State) : (if c then a else b).mode = if c then a.mode else b.mode := apply_ite State.mode c a b

@[simp] theorem foldl_power {α : Type} (F : State → α → State) (h : ∀ t x, (F t x).power = t.power) (l : List α) (s : State) :
    (l.foldl F s).power = s.power := by
  induction l generalizing s with
  | nil => rfl
  | cons x l ih => exact (ih (F s x)).trans (h s x)

@[simp] theorem ite_power (c : Prop) [Decidable c] (a b : State) : (if c then a else b).power = if c then a.power else b.power := apply_ite State.power c a b

@[simp] theorem foldl_stop {α : Type} (F : State → α → State) (h : ∀ t x, (F t x).stop = t.stop) (l : List α) (s : State) :
    (l.foldl F s).stop = s.stop := by
  induction l generalizing s with
  | nil => rfl
  | cons x l ih => exact (ih (F s x)).trans (h s x)

@[simp] theorem ite_stop (c : Prop) [Decidable c] (a b : State) : (if c then a else b).stop = if c then a.stop else b.stop := apply_ite State.stop c a b

@[simp] theorem foldl_recorder {α : Type} (F : State → α → State) (h : ∀ t x, (F t x).recorder = t.recorder) (l : List α) (s : State) :
    (l.foldl F s).recorder = s.recorder := by
  induction l generalizing s with
  | nil => rfl
  | cons x l ih => exact (ih (F s x)).trans (h s x)

@[simp] theorem ite_recorder (c : Prop) [Decidable c] (a b : State) : (if c then a else b).recorder = if c then a.recorder else b.recorder := apply_ite State.recorder c a b

@[simp] theorem foldl_ports {α : Type} (F : State → α → State) (h : ∀ t x, (F t x).ports = t.ports) (l : List α) (s : State) :
    (l.foldl F s).ports = s.ports := by
  induction l generalizing s with
  | nil => rfl
  | cons x l ih => exact (ih (F s x)).trans (h s x)

@[simp] theorem ite_ports (c : Prop) [Decidable c] (a b : State) : (if c then a else b).ports = if c then a.ports else b.ports := apply_ite State.ports c a b

@[simp] theorem foldl_fns {α : Type} (F : State → α → State) (h : ∀ t x, (F t x).fns = t.fns) (l : List α) (s : State) :
    (l.foldl F s).fns = s.fns := by
  induction l generalizing s with
  | nil => rfl
  | cons x l ih => exact (ih (F s x)).trans (h s x)

@[simp] theorem ite_fns (c : Prop) [Decidable c] (a b : State) : (if c then a else b).fns = if c then a.fns else b.fns := apply_ite State.fns c a b

@[simp] theorem foldl_ctls {α : Type} (F : State → α → State) (h : ∀ t x, (F t x).ctls = t.ctls) (l : List α) (s : State) :
    (l.foldl F s).ctls = s.ctls := by
  induction l generalizing s with
  | nil => rfl
  | cons x l ih => exact (ih (F s x)).trans (h s x)

@[simp] theorem ite_ctls (c : Prop) [Decidable c] (a b : State) : (if c then a else b).ctls = if c then a.ctls else b.ctls := apply_ite State.ctls c a b

@[simp] theorem foldl_cache {α : Type} (F : State → α → State) (h : ∀ t x, (F t x).cache = t.cache) (l : List α) (s : State) :
    (l.foldl F s).cache = s.cache := by
  induction l generalizing s with
  | nil => rfl
  | cons x l ih => exact (ih (F s x)).trans (h s x)

@[simp] theorem ite_cache (c : Prop) [Decidable c] (a b : State) : (if c then a else b).cache = if c then a.cache else b.cache := apply_ite State.cache c a b

@[simp] theorem foldl_reads {α : Type} (F : State → α → State) (h : ∀ t x, (F t x).reads = t.reads) (l : List α) (s : State) :
    (l.foldl F s).reads = s.reads := by
  induction l generalizing s with
  | nil => rfl
  | cons x l ih => exact (ih (F s x)).trans (h s x)

@[simp] theorem ite_reads (c : Prop) [Decidable c] (a b : State) : (if c then a else b).reads = if c then a.reads else b.reads := apply_ite State.reads c a b

@[simp] theorem foldl_decks {α : Type} (F : State → α → State) (h : ∀ t x, (F t x).decks = t.decks) (l : List α) (s : State) :
    (l.foldl F s).decks = s.decks := by
  induction l generalizing s with
  | nil => rfl
  | cons x l ih => exact (ih (F s x)).trans (h s x)

@[simp] theorem ite_decks (c : Prop) [Decidable c] (a b : State) : (if c then a else b).decks = if c then a.decks else b.decks := apply_ite State.decks c a b

@[simp] theorem foldl_gauge {α : Type} (F : State → α → State) (h : ∀ t x, (F t x).gauge = t.gauge) (l : List α) (s : State) :
    (l.foldl F s).gauge = s.gauge := by
  induction l generalizing s with
  | nil => rfl
  | cons x l ih => exact (ih (F s x)).trans (h s x)

@[simp] theorem ite_gauge (c : Prop) [Decidable c] (a b : State) : (if c then a else b).gauge = if c then a.gauge else b.gauge := apply_ite State.gauge c a b

@[simp] theorem foldl_vault {α : Type} (F : State → α → State) (h : ∀ t x, (F t x).vault = t.vault) (l : List α) (s : State) :
    (l.foldl F s).vault = s.vault := by
  induction l generalizing s with
  | nil => rfl
  | cons x l ih => exact (ih (F s x)).trans (h s x)

@[simp] theorem ite_vault (c : Prop) [Decidable c] (a b : State) : (if c then a else b).vault = if c then a.vault else b.vault := apply_ite State.vault c a b

@[simp] theorem foldl_fabric {α : Type} (F : State → α → State) (h : ∀ t x, (F t x).fabric = t.fabric) (l : List α) (s : State) :
    (l.foldl F s).fabric = s.fabric := by
  induction l generalizing s with
  | nil => rfl
  | cons x l ih => exact (ih (F s x)).trans (h s x)

@[simp] theorem ite_fabric (c : Prop) [Decidable c] (a b : State) : (if c then a else b).fabric = if c then a.fabric else b.fabric := apply_ite State.fabric c a b

@[simp] theorem foldl_sched {α : Type} (F : State → α → State) (h : ∀ t x, (F t x).sched = t.sched) (l : List α) (s : State) :
    (l.foldl F s).sched = s.sched := by
  induction l generalizing s with
  | nil => rfl
  | cons x l ih => exact (ih (F s x)).trans (h s x)

@[simp] theorem ite_sched (c : Prop) [Decidable c] (a b : State) : (if c then a else b).sched = if c then a.sched else b.sched := apply_ite State.sched c a b

@[simp] theorem foldl_feats {α : Type} (F : State → α → State) (h : ∀ t x, (F t x).feats = t.feats) (l : List α) (s : State) :
    (l.foldl F s).feats = s.feats := by
  induction l generalizing s with
  | nil => rfl
  | cons x l ih => exact (ih (F s x)).trans (h s x)

@[simp] theorem ite_feats (c : Prop) [Decidable c] (a b : State) : (if c then a else b).feats = if c then a.feats else b.feats := apply_ite State.feats c a b

@[simp] theorem foldl_members {α : Type} (F : State → α → State) (h : ∀ t x, (F t x).members = t.members) (l : List α) (s : State) :
    (l.foldl F s).members = s.members := by
  induction l generalizing s with
  | nil => rfl
  | cons x l ih => exact (ih (F s x)).trans (h s x)

@[simp] theorem ite_members (c : Prop) [Decidable c] (a b : State) : (if c then a else b).members = if c then a.members else b.members := apply_ite State.members c a b

@[simp] theorem foldl_guard {α : Type} (F : State → α → State) (h : ∀ t x, (F t x).guard = t.guard) (l : List α) (s : State) :
    (l.foldl F s).guard = s.guard := by
  induction l generalizing s with
  | nil => rfl
  | cons x l ih => exact (ih (F s x)).trans (h s x)

@[simp] theorem ite_guard (c : Prop) [Decidable c] (a b : State) : (if c then a else b).guard = if c then a.guard else b.guard := apply_ite State.guard c a b

@[simp] theorem foldl_trust {α : Type} (F : State → α → State) (h : ∀ t x, (F t x).trust = t.trust) (l : List α) (s : State) :
    (l.foldl F s).trust = s.trust := by
  induction l generalizing s with
  | nil => rfl
  | cons x l ih => exact (ih (F s x)).trans (h s x)

@[simp] theorem ite_trust (c : Prop) [Decidable c] (a b : State) : (if c then a else b).trust = if c then a.trust else b.trust := apply_ite State.trust c a b

@[simp] theorem foldl_now {α : Type} (F : State → α → State) (h : ∀ t x, (F t x).now = t.now) (l : List α) (s : State) :
    (l.foldl F s).now = s.now := by
  induction l generalizing s with
  | nil => rfl
  | cons x l ih => exact (ih (F s x)).trans (h s x)

@[simp] theorem ite_now (c : Prop) [Decidable c] (a b : State) : (if c then a else b).now = if c then a.now else b.now := apply_ite State.now c a b

@[simp] theorem foldl_freeCtr {α : Type} (F : State → α → State) (h : ∀ t x, (F t x).freeCtr = t.freeCtr) (l : List α) (s : State) :
    (l.foldl F s).freeCtr = s.freeCtr := by
  induction l generalizing s with
  | nil => rfl
  | cons x l ih => exact (ih (F s x)).trans (h s x)

@[simp] theorem ite_freeCtr (c : Prop) [Decidable c] (a b : State) : (if c then a else b).freeCtr = if c then a.freeCtr else b.freeCtr := apply_ite State.freeCtr c a b

@[simp] theorem foldl_out {α : Type} (F : State → α → State) (h : ∀ t x, (F t x).out = t.out) (l : List α) (s : State) :
    (l.foldl F s).out = s.out := by
  induction l generalizing s with
  | nil => rfl
  | cons x l ih => exact (ih (F s x)).trans (h s x)

@[simp] theorem ite_out (c : Prop) [Decidable c] (a b : State) : (if c then a else b).out = if c then a.out else b.out := apply_ite State.out c a b

@[simp] theorem foldl_pending {α : Type} (F : State → α → State) (h : ∀ t x, (F t x).pending = t.pending) (l : List α) (s : State) :
    (l.foldl F s).pending = s.pending := by
  induction l generalizing s with
  | nil => rfl
  | cons x l ih => exact (ih (F s x)).trans (h s x)

@[simp] theorem ite_pending (c : Prop) [Decidable c] (a b : State) : (if c then a else b).pending = if c then a.pending else b.pending := apply_ite State.pending c a b

@[simp] theorem foldl_snd_mode {α β : Type} (F : β × State → α → β × State) (h : ∀ t x, (F t x).2.mode = t.2.mode) (l : List α) (s : β × State) :
    (l.foldl F s).2.mode = s.2.mode := by
  induction l generalizing s with
  | nil => rfl
  | cons x l ih => exact (ih (F s x)).trans (h s x)

@[simp] theorem foldl_snd_power {α β : Type} (F : β × State → α → β × State) (h : ∀ t x, (F t x).2.power = t.2.power) (l : List α) (s : β × State) :
    (l.foldl F s).2.power = s.2.power := by
  induction l generalizing s with
  | nil => rfl
  | cons x l ih => exact (ih (F s x)).trans (h s x)

@[simp] theorem foldl_snd_stop {α β : Type} (F : β × State → α → β × State) (h : ∀ t x, (F t x).2.stop = t.2.stop) (l : List α) (s : β × State) :
    (l.foldl F s).2.stop = s.2.stop := by
  induction l generalizing s with
  | nil => rfl
  | cons x l ih => exact (ih (F s x)).trans (h s x)

@[simp] theorem foldl_snd_recorder {α β : Type} (F : β × State → α → β × State) (h : ∀ t x, (F t x).2.recorder = t.2.recorder) (l : List α) (s : β × State) :
    (l.foldl F s).2.recorder = s.2.recorder := by
  induction l generalizing s with
  | nil => rfl
  | cons x l ih => exact (ih (F s x)).trans (h s x)

@[simp] theorem foldl_snd_ports {α β : Type} (F : β × State → α → β × State) (h : ∀ t x, (F t x).2.ports = t.2.ports) (l : List α) (s : β × State) :
    (l.foldl F s).2.ports = s.2.ports := by
  induction l generalizing s with
  | nil => rfl
  | cons x l ih => exact (ih (F s x)).trans (h s x)

@[simp] theorem foldl_snd_fns {α β : Type} (F : β × State → α → β × State) (h : ∀ t x, (F t x).2.fns = t.2.fns) (l : List α) (s : β × State) :
    (l.foldl F s).2.fns = s.2.fns := by
  induction l generalizing s with
  | nil => rfl
  | cons x l ih => exact (ih (F s x)).trans (h s x)

@[simp] theorem foldl_snd_ctls {α β : Type} (F : β × State → α → β × State) (h : ∀ t x, (F t x).2.ctls = t.2.ctls) (l : List α) (s : β × State) :
    (l.foldl F s).2.ctls = s.2.ctls := by
  induction l generalizing s with
  | nil => rfl
  | cons x l ih => exact (ih (F s x)).trans (h s x)

@[simp] theorem foldl_snd_cache {α β : Type} (F : β × State → α → β × State) (h : ∀ t x, (F t x).2.cache = t.2.cache) (l : List α) (s : β × State) :
    (l.foldl F s).2.cache = s.2.cache := by
  induction l generalizing s with
  | nil => rfl
  | cons x l ih => exact (ih (F s x)).trans (h s x)

@[simp] theorem foldl_snd_reads {α β : Type} (F : β × State → α → β × State) (h : ∀ t x, (F t x).2.reads = t.2.reads) (l : List α) (s : β × State) :
    (l.foldl F s).2.reads = s.2.reads := by
  induction l generalizing s with
  | nil => rfl
  | cons x l ih => exact (ih (F s x)).trans (h s x)

@[simp] theorem foldl_snd_decks {α β : Type} (F : β × State → α → β × State) (h : ∀ t x, (F t x).2.decks = t.2.decks) (l : List α) (s : β × State) :
    (l.foldl F s).2.decks = s.2.decks := by
  induction l generalizing s with
  | nil => rfl
  | cons x l ih => exact (ih (F s x)).trans (h s x)

@[simp] theorem foldl_snd_gauge {α β : Type} (F : β × State → α → β × State) (h : ∀ t x, (F t x).2.gauge = t.2.gauge) (l : List α) (s : β × State) :
    (l.foldl F s).2.gauge = s.2.gauge := by
  induction l generalizing s with
  | nil => rfl
  | cons x l ih => exact (ih (F s x)).trans (h s x)

@[simp] theorem foldl_snd_vault {α β : Type} (F : β × State → α → β × State) (h : ∀ t x, (F t x).2.vault = t.2.vault) (l : List α) (s : β × State) :
    (l.foldl F s).2.vault = s.2.vault := by
  induction l generalizing s with
  | nil => rfl
  | cons x l ih => exact (ih (F s x)).trans (h s x)

@[simp] theorem foldl_snd_fabric {α β : Type} (F : β × State → α → β × State) (h : ∀ t x, (F t x).2.fabric = t.2.fabric) (l : List α) (s : β × State) :
    (l.foldl F s).2.fabric = s.2.fabric := by
  induction l generalizing s with
  | nil => rfl
  | cons x l ih => exact (ih (F s x)).trans (h s x)

@[simp] theorem foldl_snd_sched {α β : Type} (F : β × State → α → β × State) (h : ∀ t x, (F t x).2.sched = t.2.sched) (l : List α) (s : β × State) :
    (l.foldl F s).2.sched = s.2.sched := by
  induction l generalizing s with
  | nil => rfl
  | cons x l ih => exact (ih (F s x)).trans (h s x)

@[simp] theorem foldl_snd_feats {α β : Type} (F : β × State → α → β × State) (h : ∀ t x, (F t x).2.feats = t.2.feats) (l : List α) (s : β × State) :
    (l.foldl F s).2.feats = s.2.feats := by
  induction l generalizing s with
  | nil => rfl
  | cons x l ih => exact (ih (F s x)).trans (h s x)

@[simp] theorem foldl_snd_members {α β : Type} (F : β × State → α → β × State) (h : ∀ t x, (F t x).2.members = t.2.members) (l : List α) (s : β × State) :
    (l.foldl F s).2.members = s.2.members := by
  induction l generalizing s with
  | nil => rfl
  | cons x l ih => exact (ih (F s x)).trans (h s x)

@[simp] theorem foldl_snd_guard {α β : Type} (F : β × State → α → β × State) (h : ∀ t x, (F t x).2.guard = t.2.guard) (l : List α) (s : β × State) :
    (l.foldl F s).2.guard = s.2.guard := by
  induction l generalizing s with
  | nil => rfl
  | cons x l ih => exact (ih (F s x)).trans (h s x)

@[simp] theorem foldl_snd_trust {α β : Type} (F : β × State → α → β × State) (h : ∀ t x, (F t x).2.trust = t.2.trust) (l : List α) (s : β × State) :
    (l.foldl F s).2.trust = s.2.trust := by
  induction l generalizing s with
  | nil => rfl
  | cons x l ih => exact (ih (F s x)).trans (h s x)

@[simp] theorem foldl_snd_now {α β : Type} (F : β × State → α → β × State) (h : ∀ t x, (F t x).2.now = t.2.now) (l : List α) (s : β × State) :
    (l.foldl F s).2.now = s.2.now := by
  induction l generalizing s with
  | nil => rfl
  | cons x l ih => exact (ih (F s x)).trans (h s x)

@[simp] theorem foldl_snd_freeCtr {α β : Type} (F : β × State → α → β × State) (h : ∀ t x, (F t x).2.freeCtr = t.2.freeCtr) (l : List α) (s : β × State) :
    (l.foldl F s).2.freeCtr = s.2.freeCtr := by
  induction l generalizing s with
  | nil => rfl
  | cons x l ih => exact (ih (F s x)).trans (h s x)

@[simp] theorem foldl_snd_out {α β : Type} (F : β × State → α → β × State) (h : ∀ t x, (F t x).2.out = t.2.out) (l : List α) (s : β × State) :
    (l.foldl F s).2.out = s.2.out := by
  induction l generalizing s with
  | nil => rfl
  | cons x l ih => exact (ih (F s x)).trans (h s x)

@[simp] theorem foldl_snd_pending {α β : Type} (F : β × State → α → β × State) (h : ∀ t x, (F t x).2.pending = t.2.pending) (l : List α) (s : β × State) :
    (l.foldl F s).2.pending = s.2.pending := by
  induction l generalizing s with
  | nil => rfl
  | cons x l ih => exact (ih (F s x)).trans (h s x)

theorem foldl_bind_none {α : Type} (F : State → α → Option State) (l : List α) :
    l.foldl (fun (acc : Option State) x => acc.bind fun s => F s x) none = none := by
  induction l with
  | nil => rfl
  | cons y l ih => simpa using ih

theorem foldl_bind_keeps {α β : Type} (F : State → α → Option State) (g : State → β) (h : ∀ s x t, F s x = some t → g t = g s)
    (l : List α) (s t : State) (e : l.foldl (fun acc x => acc.bind fun s => F s x) (some s) = some t) : g t = g s := by
  induction l generalizing s with
  | nil => simp only [List.foldl_nil, Option.some.injEq] at e; rw [e]
  | cons x l ih =>
    simp only [List.foldl_cons, Option.bind_some] at e
    cases hx : F s x with
    | none =>
      rw [hx] at e
      rw [foldl_bind_none] at e
      exact absurd e (by simp)
    | some u => rw [hx] at e; exact (ih u e).trans (h s x u hx)

/-- `storeRecord` changes `recorder` only. -/
@[simp] theorem storeRecord_frame (code : Nat) (params : List Nat) (s : State) :
    (storeRecord code params s).mode = s.mode ∧ (storeRecord code params s).power = s.power ∧ (storeRecord code params s).stop = s.stop
    ∧ (storeRecord code params s).ports = s.ports ∧ (storeRecord code params s).fns = s.fns ∧ (storeRecord code params s).ctls = s.ctls
    ∧ (storeRecord code params s).cache = s.cache ∧ (storeRecord code params s).reads = s.reads ∧ (storeRecord code params s).decks =
    s.decks ∧ (storeRecord code params s).gauge = s.gauge ∧ (storeRecord code params s).vault = s.vault ∧ (storeRecord code params
    s).fabric = s.fabric ∧ (storeRecord code params s).sched = s.sched ∧ (storeRecord code params s).feats = s.feats ∧ (storeRecord code
    params s).members = s.members ∧ (storeRecord code params s).guard = s.guard ∧ (storeRecord code params s).trust = s.trust ∧
    (storeRecord code params s).now = s.now ∧ (storeRecord code params s).freeCtr = s.freeCtr ∧ (storeRecord code params s).out = s.out
    ∧ (storeRecord code params s).pending = s.pending := by simp [storeRecord]

/-- `thawRing` changes `recorder` only. -/
@[simp] theorem thawRing_frame (s : State) :
    (thawRing s).mode = s.mode ∧ (thawRing s).power = s.power ∧ (thawRing s).stop = s.stop ∧ (thawRing s).ports = s.ports ∧ (thawRing
    s).fns = s.fns ∧ (thawRing s).ctls = s.ctls ∧ (thawRing s).cache = s.cache ∧ (thawRing s).reads = s.reads ∧ (thawRing s).decks =
    s.decks ∧ (thawRing s).gauge = s.gauge ∧ (thawRing s).vault = s.vault ∧ (thawRing s).fabric = s.fabric ∧ (thawRing s).sched =
    s.sched ∧ (thawRing s).feats = s.feats ∧ (thawRing s).members = s.members ∧ (thawRing s).guard = s.guard ∧ (thawRing s).trust =
    s.trust ∧ (thawRing s).now = s.now ∧ (thawRing s).freeCtr = s.freeCtr ∧ (thawRing s).out = s.out ∧ (thawRing s).pending = s.pending := by simp [thawRing]

/-- `drawFree` changes `freeCtr` only. -/
@[simp] theorem drawFree_frame (s : State) :
    (drawFree s).2.mode = s.mode ∧ (drawFree s).2.power = s.power ∧ (drawFree s).2.stop = s.stop ∧ (drawFree s).2.recorder = s.recorder
    ∧ (drawFree s).2.ports = s.ports ∧ (drawFree s).2.fns = s.fns ∧ (drawFree s).2.ctls = s.ctls ∧ (drawFree s).2.cache = s.cache ∧
    (drawFree s).2.reads = s.reads ∧ (drawFree s).2.decks = s.decks ∧ (drawFree s).2.gauge = s.gauge ∧ (drawFree s).2.vault = s.vault ∧
    (drawFree s).2.fabric = s.fabric ∧ (drawFree s).2.sched = s.sched ∧ (drawFree s).2.feats = s.feats ∧ (drawFree s).2.members =
    s.members ∧ (drawFree s).2.guard = s.guard ∧ (drawFree s).2.trust = s.trust ∧ (drawFree s).2.now = s.now ∧ (drawFree s).2.out =
    s.out ∧ (drawFree s).2.pending = s.pending := by simp [drawFree]

/-- `leaveL1` changes `ports` only. -/
@[simp] theorem leaveL1_frame (ctl : Nat) (s : State) :
    (leaveL1 ctl s).mode = s.mode ∧ (leaveL1 ctl s).power = s.power ∧ (leaveL1 ctl s).stop = s.stop ∧ (leaveL1 ctl s).recorder =
    s.recorder ∧ (leaveL1 ctl s).fns = s.fns ∧ (leaveL1 ctl s).ctls = s.ctls ∧ (leaveL1 ctl s).cache = s.cache ∧ (leaveL1 ctl s).reads =
    s.reads ∧ (leaveL1 ctl s).decks = s.decks ∧ (leaveL1 ctl s).gauge = s.gauge ∧ (leaveL1 ctl s).vault = s.vault ∧ (leaveL1 ctl
    s).fabric = s.fabric ∧ (leaveL1 ctl s).sched = s.sched ∧ (leaveL1 ctl s).feats = s.feats ∧ (leaveL1 ctl s).members = s.members ∧
    (leaveL1 ctl s).guard = s.guard ∧ (leaveL1 ctl s).trust = s.trust ∧ (leaveL1 ctl s).now = s.now ∧ (leaveL1 ctl s).freeCtr =
    s.freeCtr ∧ (leaveL1 ctl s).out = s.out ∧ (leaveL1 ctl s).pending = s.pending := by simp [leaveL1]

/-- `sendTlp` changes `ports`, `out` only. -/
@[simp] theorem sendTlp_frame (fn : Nat) (o : Out) (s : State) :
    (sendTlp fn o s).mode = s.mode ∧ (sendTlp fn o s).power = s.power ∧ (sendTlp fn o s).stop = s.stop ∧ (sendTlp fn o s).recorder =
    s.recorder ∧ (sendTlp fn o s).fns = s.fns ∧ (sendTlp fn o s).ctls = s.ctls ∧ (sendTlp fn o s).cache = s.cache ∧ (sendTlp fn o
    s).reads = s.reads ∧ (sendTlp fn o s).decks = s.decks ∧ (sendTlp fn o s).gauge = s.gauge ∧ (sendTlp fn o s).vault = s.vault ∧
    (sendTlp fn o s).fabric = s.fabric ∧ (sendTlp fn o s).sched = s.sched ∧ (sendTlp fn o s).feats = s.feats ∧ (sendTlp fn o s).members
    = s.members ∧ (sendTlp fn o s).guard = s.guard ∧ (sendTlp fn o s).trust = s.trust ∧ (sendTlp fn o s).now = s.now ∧ (sendTlp fn o
    s).freeCtr = s.freeCtr ∧ (sendTlp fn o s).pending = s.pending := by simp [sendTlp]

/-- `sendMsix` changes `ports`, `out` only. -/
@[simp] theorem sendMsix_frame (ctl : Nat) (vec : Nat) (s : State) :
    (sendMsix ctl vec s).mode = s.mode ∧ (sendMsix ctl vec s).power = s.power ∧ (sendMsix ctl vec s).stop = s.stop ∧ (sendMsix ctl vec
    s).recorder = s.recorder ∧ (sendMsix ctl vec s).fns = s.fns ∧ (sendMsix ctl vec s).ctls = s.ctls ∧ (sendMsix ctl vec s).cache =
    s.cache ∧ (sendMsix ctl vec s).reads = s.reads ∧ (sendMsix ctl vec s).decks = s.decks ∧ (sendMsix ctl vec s).gauge = s.gauge ∧
    (sendMsix ctl vec s).vault = s.vault ∧ (sendMsix ctl vec s).fabric = s.fabric ∧ (sendMsix ctl vec s).sched = s.sched ∧ (sendMsix ctl
    vec s).feats = s.feats ∧ (sendMsix ctl vec s).members = s.members ∧ (sendMsix ctl vec s).guard = s.guard ∧ (sendMsix ctl vec
    s).trust = s.trust ∧ (sendMsix ctl vec s).now = s.now ∧ (sendMsix ctl vec s).freeCtr = s.freeCtr ∧ (sendMsix ctl vec s).pending =
    s.pending := by simp [sendMsix]

/-- `signalVec` changes `ports`, `fns`, `out` only. -/
@[simp] theorem signalVec_frame (ctl : Nat) (vec : Nat) (s : State) :
    (signalVec ctl vec s).mode = s.mode ∧ (signalVec ctl vec s).power = s.power ∧ (signalVec ctl vec s).stop = s.stop ∧ (signalVec ctl
    vec s).recorder = s.recorder ∧ (signalVec ctl vec s).ctls = s.ctls ∧ (signalVec ctl vec s).cache = s.cache ∧ (signalVec ctl vec
    s).reads = s.reads ∧ (signalVec ctl vec s).decks = s.decks ∧ (signalVec ctl vec s).gauge = s.gauge ∧ (signalVec ctl vec s).vault =
    s.vault ∧ (signalVec ctl vec s).fabric = s.fabric ∧ (signalVec ctl vec s).sched = s.sched ∧ (signalVec ctl vec s).feats = s.feats ∧
    (signalVec ctl vec s).members = s.members ∧ (signalVec ctl vec s).guard = s.guard ∧ (signalVec ctl vec s).trust = s.trust ∧
    (signalVec ctl vec s).now = s.now ∧ (signalVec ctl vec s).freeCtr = s.freeCtr ∧ (signalVec ctl vec s).pending = s.pending := by simp [signalVec]

/-- `interruptFor` changes `ports`, `fns`, `ctls`, `out` only. -/
@[simp] theorem interruptFor_frame (ctl : Nat) (q : Cq) (s : State) :
    (interruptFor ctl q s).mode = s.mode ∧ (interruptFor ctl q s).power = s.power ∧ (interruptFor ctl q s).stop = s.stop ∧ (interruptFor
    ctl q s).recorder = s.recorder ∧ (interruptFor ctl q s).cache = s.cache ∧ (interruptFor ctl q s).reads = s.reads ∧ (interruptFor ctl
    q s).decks = s.decks ∧ (interruptFor ctl q s).gauge = s.gauge ∧ (interruptFor ctl q s).vault = s.vault ∧ (interruptFor ctl q
    s).fabric = s.fabric ∧ (interruptFor ctl q s).sched = s.sched ∧ (interruptFor ctl q s).feats = s.feats ∧ (interruptFor ctl q
    s).members = s.members ∧ (interruptFor ctl q s).guard = s.guard ∧ (interruptFor ctl q s).trust = s.trust ∧ (interruptFor ctl q
    s).now = s.now ∧ (interruptFor ctl q s).freeCtr = s.freeCtr ∧ (interruptFor ctl q s).pending = s.pending := by simp [interruptFor]

/-- `writeLate` changes `ctls` only. -/
@[simp] theorem writeLate_frame (ctl : Nat) (off : Nat) (bs : Bytes) (s : State) :
    (writeLate ctl off bs s).mode = s.mode ∧ (writeLate ctl off bs s).power = s.power ∧ (writeLate ctl off bs s).stop = s.stop ∧
    (writeLate ctl off bs s).recorder = s.recorder ∧ (writeLate ctl off bs s).ports = s.ports ∧ (writeLate ctl off bs s).fns = s.fns ∧
    (writeLate ctl off bs s).cache = s.cache ∧ (writeLate ctl off bs s).reads = s.reads ∧ (writeLate ctl off bs s).decks = s.decks ∧
    (writeLate ctl off bs s).gauge = s.gauge ∧ (writeLate ctl off bs s).vault = s.vault ∧ (writeLate ctl off bs s).fabric = s.fabric ∧
    (writeLate ctl off bs s).sched = s.sched ∧ (writeLate ctl off bs s).feats = s.feats ∧ (writeLate ctl off bs s).members = s.members ∧
    (writeLate ctl off bs s).guard = s.guard ∧ (writeLate ctl off bs s).trust = s.trust ∧ (writeLate ctl off bs s).now = s.now ∧
    (writeLate ctl off bs s).freeCtr = s.freeCtr ∧ (writeLate ctl off bs s).out = s.out ∧ (writeLate ctl off bs s).pending = s.pending := by simp [writeLate]

/-- `writeCqe` changes `ports`, `fns`, `ctls`, `out` only. -/
@[simp] theorem writeCqe_frame (ctl : Nat) (cqid : Nat) (sqid : Nat) (sqhd : Nat) (cid : Nat) (status : Nat) (dw0 : Nat) (s : State) :
    (writeCqe ctl cqid sqid sqhd cid status dw0 s).mode = s.mode ∧ (writeCqe ctl cqid sqid sqhd cid status dw0 s).power = s.power ∧
    (writeCqe ctl cqid sqid sqhd cid status dw0 s).stop = s.stop ∧ (writeCqe ctl cqid sqid sqhd cid status dw0 s).recorder = s.recorder
    ∧ (writeCqe ctl cqid sqid sqhd cid status dw0 s).cache = s.cache ∧ (writeCqe ctl cqid sqid sqhd cid status dw0 s).reads = s.reads ∧
    (writeCqe ctl cqid sqid sqhd cid status dw0 s).decks = s.decks ∧ (writeCqe ctl cqid sqid sqhd cid status dw0 s).gauge = s.gauge ∧
    (writeCqe ctl cqid sqid sqhd cid status dw0 s).vault = s.vault ∧ (writeCqe ctl cqid sqid sqhd cid status dw0 s).fabric = s.fabric ∧
    (writeCqe ctl cqid sqid sqhd cid status dw0 s).sched = s.sched ∧ (writeCqe ctl cqid sqid sqhd cid status dw0 s).feats = s.feats ∧
    (writeCqe ctl cqid sqid sqhd cid status dw0 s).members = s.members ∧ (writeCqe ctl cqid sqid sqhd cid status dw0 s).guard = s.guard
    ∧ (writeCqe ctl cqid sqid sqhd cid status dw0 s).trust = s.trust ∧ (writeCqe ctl cqid sqid sqhd cid status dw0 s).now = s.now ∧
    (writeCqe ctl cqid sqid sqhd cid status dw0 s).freeCtr = s.freeCtr ∧ (writeCqe ctl cqid sqid sqhd cid status dw0 s).pending =
    s.pending := by
  simp only [writeCqe]
  (repeat' split) <;> (first | rfl | simp)

/-- `deliverAens` changes `ports`, `fns`, `ctls`, `out` only. -/
@[simp] theorem deliverAens_frame (ctl : Nat) (x0 : Nat) (x1 : State) :
    (deliverAens ctl x0 x1).mode = x1.mode ∧ (deliverAens ctl x0 x1).power = x1.power ∧ (deliverAens ctl x0 x1).stop = x1.stop ∧
    (deliverAens ctl x0 x1).recorder = x1.recorder ∧ (deliverAens ctl x0 x1).cache = x1.cache ∧ (deliverAens ctl x0 x1).reads = x1.reads
    ∧ (deliverAens ctl x0 x1).decks = x1.decks ∧ (deliverAens ctl x0 x1).gauge = x1.gauge ∧ (deliverAens ctl x0 x1).vault = x1.vault ∧
    (deliverAens ctl x0 x1).fabric = x1.fabric ∧ (deliverAens ctl x0 x1).sched = x1.sched ∧ (deliverAens ctl x0 x1).feats = x1.feats ∧
    (deliverAens ctl x0 x1).members = x1.members ∧ (deliverAens ctl x0 x1).guard = x1.guard ∧ (deliverAens ctl x0 x1).trust = x1.trust ∧
    (deliverAens ctl x0 x1).now = x1.now ∧ (deliverAens ctl x0 x1).freeCtr = x1.freeCtr ∧ (deliverAens ctl x0 x1).pending = x1.pending := by
  induction x0 generalizing x1 with
  | zero => simp [deliverAens]
  | succ n ih =>
    simp only [deliverAens]
    split
    · split
      · simp [ih]
      · simp
    · simp

/-- `freezeRing` changes `recorder` only. -/
@[simp] theorem freezeRing_frame (byTrigger : Bool) (s : State) :
    (freezeRing byTrigger s).mode = s.mode ∧ (freezeRing byTrigger s).power = s.power ∧ (freezeRing byTrigger s).stop = s.stop ∧
    (freezeRing byTrigger s).ports = s.ports ∧ (freezeRing byTrigger s).fns = s.fns ∧ (freezeRing byTrigger s).ctls = s.ctls ∧
    (freezeRing byTrigger s).cache = s.cache ∧ (freezeRing byTrigger s).reads = s.reads ∧ (freezeRing byTrigger s).decks = s.decks ∧
    (freezeRing byTrigger s).gauge = s.gauge ∧ (freezeRing byTrigger s).vault = s.vault ∧ (freezeRing byTrigger s).fabric = s.fabric ∧
    (freezeRing byTrigger s).sched = s.sched ∧ (freezeRing byTrigger s).feats = s.feats ∧ (freezeRing byTrigger s).members = s.members ∧
    (freezeRing byTrigger s).guard = s.guard ∧ (freezeRing byTrigger s).trust = s.trust ∧ (freezeRing byTrigger s).now = s.now ∧
    (freezeRing byTrigger s).freeCtr = s.freeCtr ∧ (freezeRing byTrigger s).out = s.out ∧ (freezeRing byTrigger s).pending = s.pending := by simp [freezeRing]

/-- `aerAbsorbed` changes `ports`, `fns`, `out` only. -/
@[simp] theorem aerAbsorbed_frame (s : State) :
    (aerAbsorbed s).mode = s.mode ∧ (aerAbsorbed s).power = s.power ∧ (aerAbsorbed s).stop = s.stop ∧ (aerAbsorbed s).recorder =
    s.recorder ∧ (aerAbsorbed s).ctls = s.ctls ∧ (aerAbsorbed s).cache = s.cache ∧ (aerAbsorbed s).reads = s.reads ∧ (aerAbsorbed
    s).decks = s.decks ∧ (aerAbsorbed s).gauge = s.gauge ∧ (aerAbsorbed s).vault = s.vault ∧ (aerAbsorbed s).fabric = s.fabric ∧
    (aerAbsorbed s).sched = s.sched ∧ (aerAbsorbed s).feats = s.feats ∧ (aerAbsorbed s).members = s.members ∧ (aerAbsorbed s).guard =
    s.guard ∧ (aerAbsorbed s).trust = s.trust ∧ (aerAbsorbed s).now = s.now ∧ (aerAbsorbed s).freeCtr = s.freeCtr ∧ (aerAbsorbed
    s).pending = s.pending := by simp [aerAbsorbed]

/-- `recordEvent` changes `recorder` only. -/
@[simp] theorem recordEvent_frame (code : Nat) (params : List Nat) (s : State) :
    (recordEvent code params s).mode = s.mode ∧ (recordEvent code params s).power = s.power ∧ (recordEvent code params s).stop = s.stop
    ∧ (recordEvent code params s).ports = s.ports ∧ (recordEvent code params s).fns = s.fns ∧ (recordEvent code params s).ctls = s.ctls
    ∧ (recordEvent code params s).cache = s.cache ∧ (recordEvent code params s).reads = s.reads ∧ (recordEvent code params s).decks =
    s.decks ∧ (recordEvent code params s).gauge = s.gauge ∧ (recordEvent code params s).vault = s.vault ∧ (recordEvent code params
    s).fabric = s.fabric ∧ (recordEvent code params s).sched = s.sched ∧ (recordEvent code params s).feats = s.feats ∧ (recordEvent code
    params s).members = s.members ∧ (recordEvent code params s).guard = s.guard ∧ (recordEvent code params s).trust = s.trust ∧
    (recordEvent code params s).now = s.now ∧ (recordEvent code params s).freeCtr = s.freeCtr ∧ (recordEvent code params s).out = s.out
    ∧ (recordEvent code params s).pending = s.pending := by
  simp only [recordEvent]
  (repeat' split) <;> (first | rfl | simp)

/-- `takeover` changes `mode`, `recorder`, `ports`, `fns`, `freeCtr`, `out` only. -/
@[simp] theorem takeover_frame (source : Nat) (level : Nat) (bound : Nat) (code : Nat) (s : State) :
    (takeover source level bound code s).power = s.power ∧ (takeover source level bound code s).stop = s.stop ∧ (takeover source level
    bound code s).ctls = s.ctls ∧ (takeover source level bound code s).cache = s.cache ∧ (takeover source level bound code s).reads =
    s.reads ∧ (takeover source level bound code s).decks = s.decks ∧ (takeover source level bound code s).gauge = s.gauge ∧ (takeover
    source level bound code s).vault = s.vault ∧ (takeover source level bound code s).fabric = s.fabric ∧ (takeover source level bound
    code s).sched = s.sched ∧ (takeover source level bound code s).feats = s.feats ∧ (takeover source level bound code s).members =
    s.members ∧ (takeover source level bound code s).guard = s.guard ∧ (takeover source level bound code s).trust = s.trust ∧ (takeover
    source level bound code s).now = s.now ∧ (takeover source level bound code s).pending = s.pending := by simp [takeover]

/-- `aerUncorrected` changes `ports`, `fns`, `out` only. -/
@[simp] theorem aerUncorrected_frame (fn : Nat) (bit : Nat) (s : State) :
    (aerUncorrected fn bit s).mode = s.mode ∧ (aerUncorrected fn bit s).power = s.power ∧ (aerUncorrected fn bit s).stop = s.stop ∧
    (aerUncorrected fn bit s).recorder = s.recorder ∧ (aerUncorrected fn bit s).ctls = s.ctls ∧ (aerUncorrected fn bit s).cache =
    s.cache ∧ (aerUncorrected fn bit s).reads = s.reads ∧ (aerUncorrected fn bit s).decks = s.decks ∧ (aerUncorrected fn bit s).gauge =
    s.gauge ∧ (aerUncorrected fn bit s).vault = s.vault ∧ (aerUncorrected fn bit s).fabric = s.fabric ∧ (aerUncorrected fn bit s).sched
    = s.sched ∧ (aerUncorrected fn bit s).feats = s.feats ∧ (aerUncorrected fn bit s).members = s.members ∧ (aerUncorrected fn bit
    s).guard = s.guard ∧ (aerUncorrected fn bit s).trust = s.trust ∧ (aerUncorrected fn bit s).now = s.now ∧ (aerUncorrected fn bit
    s).freeCtr = s.freeCtr ∧ (aerUncorrected fn bit s).pending = s.pending := by simp [aerUncorrected]

/-- `aerAdvisory` changes `ports`, `fns`, `out` only. -/
@[simp] theorem aerAdvisory_frame (fn : Nat) (bit : Option Nat) (s : State) :
    (aerAdvisory fn bit s).mode = s.mode ∧ (aerAdvisory fn bit s).power = s.power ∧ (aerAdvisory fn bit s).stop = s.stop ∧ (aerAdvisory
    fn bit s).recorder = s.recorder ∧ (aerAdvisory fn bit s).ctls = s.ctls ∧ (aerAdvisory fn bit s).cache = s.cache ∧ (aerAdvisory fn
    bit s).reads = s.reads ∧ (aerAdvisory fn bit s).decks = s.decks ∧ (aerAdvisory fn bit s).gauge = s.gauge ∧ (aerAdvisory fn bit
    s).vault = s.vault ∧ (aerAdvisory fn bit s).fabric = s.fabric ∧ (aerAdvisory fn bit s).sched = s.sched ∧ (aerAdvisory fn bit
    s).feats = s.feats ∧ (aerAdvisory fn bit s).members = s.members ∧ (aerAdvisory fn bit s).guard = s.guard ∧ (aerAdvisory fn bit
    s).trust = s.trust ∧ (aerAdvisory fn bit s).now = s.now ∧ (aerAdvisory fn bit s).freeCtr = s.freeCtr ∧ (aerAdvisory fn bit
    s).pending = s.pending := by simp [aerAdvisory]

/-- `raiseAenAs` changes `ports`, `fns`, `ctls`, `out` only. -/
@[simp] theorem raiseAenAs_frame (standing : Option Nat) (ctl : Nat) (kind : Nat) (info : Nat) (lid : Nat) (s : State) :
    (raiseAenAs standing ctl kind info lid s).mode = s.mode ∧ (raiseAenAs standing ctl kind info lid s).power = s.power ∧ (raiseAenAs
    standing ctl kind info lid s).stop = s.stop ∧ (raiseAenAs standing ctl kind info lid s).recorder = s.recorder ∧ (raiseAenAs standing
    ctl kind info lid s).cache = s.cache ∧ (raiseAenAs standing ctl kind info lid s).reads = s.reads ∧ (raiseAenAs standing ctl kind
    info lid s).decks = s.decks ∧ (raiseAenAs standing ctl kind info lid s).gauge = s.gauge ∧ (raiseAenAs standing ctl kind info lid
    s).vault = s.vault ∧ (raiseAenAs standing ctl kind info lid s).fabric = s.fabric ∧ (raiseAenAs standing ctl kind info lid s).sched =
    s.sched ∧ (raiseAenAs standing ctl kind info lid s).feats = s.feats ∧ (raiseAenAs standing ctl kind info lid s).members = s.members
    ∧ (raiseAenAs standing ctl kind info lid s).guard = s.guard ∧ (raiseAenAs standing ctl kind info lid s).trust = s.trust ∧
    (raiseAenAs standing ctl kind info lid s).now = s.now ∧ (raiseAenAs standing ctl kind info lid s).freeCtr = s.freeCtr ∧ (raiseAenAs
    standing ctl kind info lid s).pending = s.pending := by simp [raiseAenAs]

/-- `raiseAen` changes `ports`, `fns`, `ctls`, `out` only. -/
@[simp] theorem raiseAen_frame (ctl : Nat) (kind : Nat) (info : Nat) (lid : Nat) (s : State) :
    (raiseAen ctl kind info lid s).mode = s.mode ∧ (raiseAen ctl kind info lid s).power = s.power ∧ (raiseAen ctl kind info lid s).stop
    = s.stop ∧ (raiseAen ctl kind info lid s).recorder = s.recorder ∧ (raiseAen ctl kind info lid s).cache = s.cache ∧ (raiseAen ctl
    kind info lid s).reads = s.reads ∧ (raiseAen ctl kind info lid s).decks = s.decks ∧ (raiseAen ctl kind info lid s).gauge = s.gauge ∧
    (raiseAen ctl kind info lid s).vault = s.vault ∧ (raiseAen ctl kind info lid s).fabric = s.fabric ∧ (raiseAen ctl kind info lid
    s).sched = s.sched ∧ (raiseAen ctl kind info lid s).feats = s.feats ∧ (raiseAen ctl kind info lid s).members = s.members ∧ (raiseAen
    ctl kind info lid s).guard = s.guard ∧ (raiseAen ctl kind info lid s).trust = s.trust ∧ (raiseAen ctl kind info lid s).now = s.now ∧
    (raiseAen ctl kind info lid s).freeCtr = s.freeCtr ∧ (raiseAen ctl kind info lid s).pending = s.pending := by simp [raiseAen]

/-- `raiseVendorAen` changes `ports`, `fns`, `ctls`, `out` only. -/
@[simp] theorem raiseVendorAen_frame (lid : Nat) (s : State) :
    (raiseVendorAen lid s).mode = s.mode ∧ (raiseVendorAen lid s).power = s.power ∧ (raiseVendorAen lid s).stop = s.stop ∧
    (raiseVendorAen lid s).recorder = s.recorder ∧ (raiseVendorAen lid s).cache = s.cache ∧ (raiseVendorAen lid s).reads = s.reads ∧
    (raiseVendorAen lid s).decks = s.decks ∧ (raiseVendorAen lid s).gauge = s.gauge ∧ (raiseVendorAen lid s).vault = s.vault ∧
    (raiseVendorAen lid s).fabric = s.fabric ∧ (raiseVendorAen lid s).sched = s.sched ∧ (raiseVendorAen lid s).feats = s.feats ∧
    (raiseVendorAen lid s).members = s.members ∧ (raiseVendorAen lid s).guard = s.guard ∧ (raiseVendorAen lid s).trust = s.trust ∧
    (raiseVendorAen lid s).now = s.now ∧ (raiseVendorAen lid s).freeCtr = s.freeCtr ∧ (raiseVendorAen lid s).pending = s.pending := by simp [raiseVendorAen]

/-- `updRob` changes `ctls` only. -/
@[simp] theorem updRob_frame (r : CmdRef) (f : RobEntry → RobEntry) (s : State) :
    (updRob r f s).mode = s.mode ∧ (updRob r f s).power = s.power ∧ (updRob r f s).stop = s.stop ∧ (updRob r f s).recorder = s.recorder
    ∧ (updRob r f s).ports = s.ports ∧ (updRob r f s).fns = s.fns ∧ (updRob r f s).cache = s.cache ∧ (updRob r f s).reads = s.reads ∧
    (updRob r f s).decks = s.decks ∧ (updRob r f s).gauge = s.gauge ∧ (updRob r f s).vault = s.vault ∧ (updRob r f s).fabric = s.fabric
    ∧ (updRob r f s).sched = s.sched ∧ (updRob r f s).feats = s.feats ∧ (updRob r f s).members = s.members ∧ (updRob r f s).guard =
    s.guard ∧ (updRob r f s).trust = s.trust ∧ (updRob r f s).now = s.now ∧ (updRob r f s).freeCtr = s.freeCtr ∧ (updRob r f s).out =
    s.out ∧ (updRob r f s).pending = s.pending := by
  simp only [updRob]
  (repeat' split) <;> (first | rfl | simp)

/-- `updDeck` changes `decks` only. -/
@[simp] theorem updDeck_frame (id : Nat) (f : Deck → Deck) (s : State) :
    (updDeck id f s).mode = s.mode ∧ (updDeck id f s).power = s.power ∧ (updDeck id f s).stop = s.stop ∧ (updDeck id f s).recorder =
    s.recorder ∧ (updDeck id f s).ports = s.ports ∧ (updDeck id f s).fns = s.fns ∧ (updDeck id f s).ctls = s.ctls ∧ (updDeck id f
    s).cache = s.cache ∧ (updDeck id f s).reads = s.reads ∧ (updDeck id f s).gauge = s.gauge ∧ (updDeck id f s).vault = s.vault ∧
    (updDeck id f s).fabric = s.fabric ∧ (updDeck id f s).sched = s.sched ∧ (updDeck id f s).feats = s.feats ∧ (updDeck id f s).members
    = s.members ∧ (updDeck id f s).guard = s.guard ∧ (updDeck id f s).trust = s.trust ∧ (updDeck id f s).now = s.now ∧ (updDeck id f
    s).freeCtr = s.freeCtr ∧ (updDeck id f s).out = s.out ∧ (updDeck id f s).pending = s.pending := by
  simp only [updDeck]
  (repeat' split) <;> (first | rfl | simp)

/-- `logError` changes `ctls` only. -/
@[simp] theorem logError_frame (ctl : Nat) (sqid : Nat) (cid : Nat) (status : Nat) (nsid : Nat) (lba : Nat) (s : State) :
    (logError ctl sqid cid status nsid lba s).mode = s.mode ∧ (logError ctl sqid cid status nsid lba s).power = s.power ∧ (logError ctl
    sqid cid status nsid lba s).stop = s.stop ∧ (logError ctl sqid cid status nsid lba s).recorder = s.recorder ∧ (logError ctl sqid cid
    status nsid lba s).ports = s.ports ∧ (logError ctl sqid cid status nsid lba s).fns = s.fns ∧ (logError ctl sqid cid status nsid lba
    s).cache = s.cache ∧ (logError ctl sqid cid status nsid lba s).reads = s.reads ∧ (logError ctl sqid cid status nsid lba s).decks =
    s.decks ∧ (logError ctl sqid cid status nsid lba s).gauge = s.gauge ∧ (logError ctl sqid cid status nsid lba s).vault = s.vault ∧
    (logError ctl sqid cid status nsid lba s).fabric = s.fabric ∧ (logError ctl sqid cid status nsid lba s).sched = s.sched ∧ (logError
    ctl sqid cid status nsid lba s).feats = s.feats ∧ (logError ctl sqid cid status nsid lba s).members = s.members ∧ (logError ctl sqid
    cid status nsid lba s).guard = s.guard ∧ (logError ctl sqid cid status nsid lba s).trust = s.trust ∧ (logError ctl sqid cid status
    nsid lba s).now = s.now ∧ (logError ctl sqid cid status nsid lba s).freeCtr = s.freeCtr ∧ (logError ctl sqid cid status nsid lba
    s).out = s.out ∧ (logError ctl sqid cid status nsid lba s).pending = s.pending := by simp [logError]

/-- `anaChanged` changes `ports`, `fns`, `ctls`, `out` only. -/
@[simp] theorem anaChanged_frame (ctls : List Nat) (s : State) :
    (anaChanged ctls s).mode = s.mode ∧ (anaChanged ctls s).power = s.power ∧ (anaChanged ctls s).stop = s.stop ∧ (anaChanged ctls
    s).recorder = s.recorder ∧ (anaChanged ctls s).cache = s.cache ∧ (anaChanged ctls s).reads = s.reads ∧ (anaChanged ctls s).decks =
    s.decks ∧ (anaChanged ctls s).gauge = s.gauge ∧ (anaChanged ctls s).vault = s.vault ∧ (anaChanged ctls s).fabric = s.fabric ∧
    (anaChanged ctls s).sched = s.sched ∧ (anaChanged ctls s).feats = s.feats ∧ (anaChanged ctls s).members = s.members ∧ (anaChanged
    ctls s).guard = s.guard ∧ (anaChanged ctls s).trust = s.trust ∧ (anaChanged ctls s).now = s.now ∧ (anaChanged ctls s).freeCtr =
    s.freeCtr ∧ (anaChanged ctls s).pending = s.pending := by simp [anaChanged]

/-- `disarmFinj` changes `recorder`, `guard` only. -/
@[simp] theorem disarmFinj_frame (why : Nat) (s : State) :
    (disarmFinj why s).mode = s.mode ∧ (disarmFinj why s).power = s.power ∧ (disarmFinj why s).stop = s.stop ∧ (disarmFinj why s).ports
    = s.ports ∧ (disarmFinj why s).fns = s.fns ∧ (disarmFinj why s).ctls = s.ctls ∧ (disarmFinj why s).cache = s.cache ∧ (disarmFinj why
    s).reads = s.reads ∧ (disarmFinj why s).decks = s.decks ∧ (disarmFinj why s).gauge = s.gauge ∧ (disarmFinj why s).vault = s.vault ∧
    (disarmFinj why s).fabric = s.fabric ∧ (disarmFinj why s).sched = s.sched ∧ (disarmFinj why s).feats = s.feats ∧ (disarmFinj why
    s).members = s.members ∧ (disarmFinj why s).trust = s.trust ∧ (disarmFinj why s).now = s.now ∧ (disarmFinj why s).freeCtr =
    s.freeCtr ∧ (disarmFinj why s).out = s.out ∧ (disarmFinj why s).pending = s.pending := by
  simp only [disarmFinj]
  (repeat' split) <;> (first | rfl | simp)

/-- `transit` changes `mode`, `recorder`, `guard` only. -/
@[simp] theorem transit_frame (no : Nat) (dst : DevMode) (cause : Nat) (s : State) :
    (transit no dst cause s).power = s.power ∧ (transit no dst cause s).stop = s.stop ∧ (transit no dst cause s).ports = s.ports ∧
    (transit no dst cause s).fns = s.fns ∧ (transit no dst cause s).ctls = s.ctls ∧ (transit no dst cause s).cache = s.cache ∧ (transit
    no dst cause s).reads = s.reads ∧ (transit no dst cause s).decks = s.decks ∧ (transit no dst cause s).gauge = s.gauge ∧ (transit no
    dst cause s).vault = s.vault ∧ (transit no dst cause s).fabric = s.fabric ∧ (transit no dst cause s).sched = s.sched ∧ (transit no
    dst cause s).feats = s.feats ∧ (transit no dst cause s).members = s.members ∧ (transit no dst cause s).trust = s.trust ∧ (transit no
    dst cause s).now = s.now ∧ (transit no dst cause s).freeCtr = s.freeCtr ∧ (transit no dst cause s).out = s.out ∧ (transit no dst
    cause s).pending = s.pending := by simp [transit]

/-- `commitCmd` changes `ctls` only. -/
@[simp] theorem commitCmd_frame (r : CmdRef) (status : Nat) (dw0 : Nat) (s : State) :
    (commitCmd r status dw0 s).mode = s.mode ∧ (commitCmd r status dw0 s).power = s.power ∧ (commitCmd r status dw0 s).stop = s.stop ∧
    (commitCmd r status dw0 s).recorder = s.recorder ∧ (commitCmd r status dw0 s).ports = s.ports ∧ (commitCmd r status dw0 s).fns =
    s.fns ∧ (commitCmd r status dw0 s).cache = s.cache ∧ (commitCmd r status dw0 s).reads = s.reads ∧ (commitCmd r status dw0 s).decks =
    s.decks ∧ (commitCmd r status dw0 s).gauge = s.gauge ∧ (commitCmd r status dw0 s).vault = s.vault ∧ (commitCmd r status dw0
    s).fabric = s.fabric ∧ (commitCmd r status dw0 s).sched = s.sched ∧ (commitCmd r status dw0 s).feats = s.feats ∧ (commitCmd r status
    dw0 s).members = s.members ∧ (commitCmd r status dw0 s).guard = s.guard ∧ (commitCmd r status dw0 s).trust = s.trust ∧ (commitCmd r
    status dw0 s).now = s.now ∧ (commitCmd r status dw0 s).freeCtr = s.freeCtr ∧ (commitCmd r status dw0 s).out = s.out ∧ (commitCmd r
    status dw0 s).pending = s.pending := by simp [commitCmd]

/-- `failCmd` changes `ctls` only. -/
@[simp] theorem failCmd_frame (r : CmdRef) (status : Nat) (s : State) :
    (failCmd r status s).mode = s.mode ∧ (failCmd r status s).power = s.power ∧ (failCmd r status s).stop = s.stop ∧ (failCmd r status
    s).recorder = s.recorder ∧ (failCmd r status s).ports = s.ports ∧ (failCmd r status s).fns = s.fns ∧ (failCmd r status s).cache =
    s.cache ∧ (failCmd r status s).reads = s.reads ∧ (failCmd r status s).decks = s.decks ∧ (failCmd r status s).gauge = s.gauge ∧
    (failCmd r status s).vault = s.vault ∧ (failCmd r status s).fabric = s.fabric ∧ (failCmd r status s).sched = s.sched ∧ (failCmd r
    status s).feats = s.feats ∧ (failCmd r status s).members = s.members ∧ (failCmd r status s).guard = s.guard ∧ (failCmd r status
    s).trust = s.trust ∧ (failCmd r status s).now = s.now ∧ (failCmd r status s).freeCtr = s.freeCtr ∧ (failCmd r status s).out = s.out
    ∧ (failCmd r status s).pending = s.pending := by simp [failCmd]

/-- `endCmd` changes `ctls` only. -/
@[simp] theorem endCmd_frame (r : CmdRef) (status : Nat) (dw0 : Nat) (s : State) :
    (endCmd r status dw0 s).mode = s.mode ∧ (endCmd r status dw0 s).power = s.power ∧ (endCmd r status dw0 s).stop = s.stop ∧ (endCmd r
    status dw0 s).recorder = s.recorder ∧ (endCmd r status dw0 s).ports = s.ports ∧ (endCmd r status dw0 s).fns = s.fns ∧ (endCmd r
    status dw0 s).cache = s.cache ∧ (endCmd r status dw0 s).reads = s.reads ∧ (endCmd r status dw0 s).decks = s.decks ∧ (endCmd r status
    dw0 s).gauge = s.gauge ∧ (endCmd r status dw0 s).vault = s.vault ∧ (endCmd r status dw0 s).fabric = s.fabric ∧ (endCmd r status dw0
    s).sched = s.sched ∧ (endCmd r status dw0 s).feats = s.feats ∧ (endCmd r status dw0 s).members = s.members ∧ (endCmd r status dw0
    s).guard = s.guard ∧ (endCmd r status dw0 s).trust = s.trust ∧ (endCmd r status dw0 s).now = s.now ∧ (endCmd r status dw0 s).freeCtr
    = s.freeCtr ∧ (endCmd r status dw0 s).out = s.out ∧ (endCmd r status dw0 s).pending = s.pending := by simp [endCmd]

/-- `reportCritWarn` changes `mode`, `ports`, `fns`, `ctls`, `out` only. -/
@[simp] theorem reportCritWarn_frame (w : BitVec 8) (s : State) :
    (reportCritWarn w s).power = s.power ∧ (reportCritWarn w s).stop = s.stop ∧ (reportCritWarn w s).recorder = s.recorder ∧
    (reportCritWarn w s).cache = s.cache ∧ (reportCritWarn w s).reads = s.reads ∧ (reportCritWarn w s).decks = s.decks ∧ (reportCritWarn
    w s).gauge = s.gauge ∧ (reportCritWarn w s).vault = s.vault ∧ (reportCritWarn w s).fabric = s.fabric ∧ (reportCritWarn w s).sched =
    s.sched ∧ (reportCritWarn w s).feats = s.feats ∧ (reportCritWarn w s).members = s.members ∧ (reportCritWarn w s).guard = s.guard ∧
    (reportCritWarn w s).trust = s.trust ∧ (reportCritWarn w s).now = s.now ∧ (reportCritWarn w s).freeCtr = s.freeCtr ∧ (reportCritWarn
    w s).pending = s.pending := by simp [reportCritWarn]

/-- `updSlot` changes `members` only. -/
@[simp] theorem updSlot_frame (x : Nat) (f : Slot → Slot) (s : State) :
    (updSlot x f s).mode = s.mode ∧ (updSlot x f s).power = s.power ∧ (updSlot x f s).stop = s.stop ∧ (updSlot x f s).recorder =
    s.recorder ∧ (updSlot x f s).ports = s.ports ∧ (updSlot x f s).fns = s.fns ∧ (updSlot x f s).ctls = s.ctls ∧ (updSlot x f s).cache =
    s.cache ∧ (updSlot x f s).reads = s.reads ∧ (updSlot x f s).decks = s.decks ∧ (updSlot x f s).gauge = s.gauge ∧ (updSlot x f
    s).vault = s.vault ∧ (updSlot x f s).fabric = s.fabric ∧ (updSlot x f s).sched = s.sched ∧ (updSlot x f s).feats = s.feats ∧
    (updSlot x f s).guard = s.guard ∧ (updSlot x f s).trust = s.trust ∧ (updSlot x f s).now = s.now ∧ (updSlot x f s).freeCtr =
    s.freeCtr ∧ (updSlot x f s).out = s.out ∧ (updSlot x f s).pending = s.pending := by simp [updSlot]

/-- `broadcast` changes `fabric`, `out` only. -/
@[simp] theorem broadcast_frame (s : State) :
    (broadcast s).mode = s.mode ∧ (broadcast s).power = s.power ∧ (broadcast s).stop = s.stop ∧ (broadcast s).recorder = s.recorder ∧
    (broadcast s).ports = s.ports ∧ (broadcast s).fns = s.fns ∧ (broadcast s).ctls = s.ctls ∧ (broadcast s).cache = s.cache ∧ (broadcast
    s).reads = s.reads ∧ (broadcast s).decks = s.decks ∧ (broadcast s).gauge = s.gauge ∧ (broadcast s).vault = s.vault ∧ (broadcast
    s).sched = s.sched ∧ (broadcast s).feats = s.feats ∧ (broadcast s).members = s.members ∧ (broadcast s).guard = s.guard ∧ (broadcast
    s).trust = s.trust ∧ (broadcast s).now = s.now ∧ (broadcast s).freeCtr = s.freeCtr ∧ (broadcast s).pending = s.pending := by
  simp only [broadcast]
  (repeat' split) <;> (first | rfl | simp)

/-- `haltAs` changes `recorder`, `ports`, `fns`, `ctls`, `out` only. -/
@[simp] theorem haltAs_frame (ctl : Nat) (q : Sq) (reason : Nat) (info : Nat) (cid : Option Nat) (s : State) :
    (haltAs ctl q reason info cid s).mode = s.mode ∧ (haltAs ctl q reason info cid s).power = s.power ∧ (haltAs ctl q reason info cid
    s).stop = s.stop ∧ (haltAs ctl q reason info cid s).cache = s.cache ∧ (haltAs ctl q reason info cid s).reads = s.reads ∧ (haltAs ctl
    q reason info cid s).decks = s.decks ∧ (haltAs ctl q reason info cid s).gauge = s.gauge ∧ (haltAs ctl q reason info cid s).vault =
    s.vault ∧ (haltAs ctl q reason info cid s).fabric = s.fabric ∧ (haltAs ctl q reason info cid s).sched = s.sched ∧ (haltAs ctl q
    reason info cid s).feats = s.feats ∧ (haltAs ctl q reason info cid s).members = s.members ∧ (haltAs ctl q reason info cid s).guard =
    s.guard ∧ (haltAs ctl q reason info cid s).trust = s.trust ∧ (haltAs ctl q reason info cid s).now = s.now ∧ (haltAs ctl q reason
    info cid s).freeCtr = s.freeCtr ∧ (haltAs ctl q reason info cid s).pending = s.pending := by simp [haltAs]

/-- `haltQueue` changes `recorder`, `ports`, `fns`, `ctls`, `out` only. -/
@[simp] theorem haltQueue_frame (ctl : Nat) (sqid : Nat) (reason : Nat) (info : Nat) (cid : Option Nat) (s : State) :
    (haltQueue ctl sqid reason info cid s).mode = s.mode ∧ (haltQueue ctl sqid reason info cid s).power = s.power ∧ (haltQueue ctl sqid
    reason info cid s).stop = s.stop ∧ (haltQueue ctl sqid reason info cid s).cache = s.cache ∧ (haltQueue ctl sqid reason info cid
    s).reads = s.reads ∧ (haltQueue ctl sqid reason info cid s).decks = s.decks ∧ (haltQueue ctl sqid reason info cid s).gauge = s.gauge
    ∧ (haltQueue ctl sqid reason info cid s).vault = s.vault ∧ (haltQueue ctl sqid reason info cid s).fabric = s.fabric ∧ (haltQueue ctl
    sqid reason info cid s).sched = s.sched ∧ (haltQueue ctl sqid reason info cid s).feats = s.feats ∧ (haltQueue ctl sqid reason info
    cid s).members = s.members ∧ (haltQueue ctl sqid reason info cid s).guard = s.guard ∧ (haltQueue ctl sqid reason info cid s).trust =
    s.trust ∧ (haltQueue ctl sqid reason info cid s).now = s.now ∧ (haltQueue ctl sqid reason info cid s).freeCtr = s.freeCtr ∧
    (haltQueue ctl sqid reason info cid s).pending = s.pending := by
  simp only [haltQueue]
  (repeat' split) <;> (first | rfl | simp)

/-- `updateLtr` changes `ports`, `out` only. -/
@[simp] theorem updateLtr_frame (ctl : Nat) (s : State) :
    (updateLtr ctl s).mode = s.mode ∧ (updateLtr ctl s).power = s.power ∧ (updateLtr ctl s).stop = s.stop ∧ (updateLtr ctl s).recorder =
    s.recorder ∧ (updateLtr ctl s).fns = s.fns ∧ (updateLtr ctl s).ctls = s.ctls ∧ (updateLtr ctl s).cache = s.cache ∧ (updateLtr ctl
    s).reads = s.reads ∧ (updateLtr ctl s).decks = s.decks ∧ (updateLtr ctl s).gauge = s.gauge ∧ (updateLtr ctl s).vault = s.vault ∧
    (updateLtr ctl s).fabric = s.fabric ∧ (updateLtr ctl s).sched = s.sched ∧ (updateLtr ctl s).feats = s.feats ∧ (updateLtr ctl
    s).members = s.members ∧ (updateLtr ctl s).guard = s.guard ∧ (updateLtr ctl s).trust = s.trust ∧ (updateLtr ctl s).now = s.now ∧
    (updateLtr ctl s).freeCtr = s.freeCtr ∧ (updateLtr ctl s).pending = s.pending := by simp [updateLtr]

/-- `raiseStanding` changes `ports`, `fns`, `ctls`, `out` only. -/
@[simp] theorem raiseStanding_frame (ctl : Nat) (s : State) :
    (raiseStanding ctl s).mode = s.mode ∧ (raiseStanding ctl s).power = s.power ∧ (raiseStanding ctl s).stop = s.stop ∧ (raiseStanding
    ctl s).recorder = s.recorder ∧ (raiseStanding ctl s).cache = s.cache ∧ (raiseStanding ctl s).reads = s.reads ∧ (raiseStanding ctl
    s).decks = s.decks ∧ (raiseStanding ctl s).gauge = s.gauge ∧ (raiseStanding ctl s).vault = s.vault ∧ (raiseStanding ctl s).fabric =
    s.fabric ∧ (raiseStanding ctl s).sched = s.sched ∧ (raiseStanding ctl s).feats = s.feats ∧ (raiseStanding ctl s).members = s.members
    ∧ (raiseStanding ctl s).guard = s.guard ∧ (raiseStanding ctl s).trust = s.trust ∧ (raiseStanding ctl s).now = s.now ∧ (raiseStanding
    ctl s).freeCtr = s.freeCtr ∧ (raiseStanding ctl s).pending = s.pending := by simp [raiseStanding]

/-- `settleInta` changes `ports`, `fns`, `out` only. -/
@[simp] theorem settleInta_frame (ctl : Nat) (s : State) :
    (settleInta ctl s).mode = s.mode ∧ (settleInta ctl s).power = s.power ∧ (settleInta ctl s).stop = s.stop ∧ (settleInta ctl
    s).recorder = s.recorder ∧ (settleInta ctl s).ctls = s.ctls ∧ (settleInta ctl s).cache = s.cache ∧ (settleInta ctl s).reads =
    s.reads ∧ (settleInta ctl s).decks = s.decks ∧ (settleInta ctl s).gauge = s.gauge ∧ (settleInta ctl s).vault = s.vault ∧ (settleInta
    ctl s).fabric = s.fabric ∧ (settleInta ctl s).sched = s.sched ∧ (settleInta ctl s).feats = s.feats ∧ (settleInta ctl s).members =
    s.members ∧ (settleInta ctl s).guard = s.guard ∧ (settleInta ctl s).trust = s.trust ∧ (settleInta ctl s).now = s.now ∧ (settleInta
    ctl s).freeCtr = s.freeCtr ∧ (settleInta ctl s).pending = s.pending := by simp [settleInta]

/-- `waitCmd` changes `ctls` only. -/
@[simp] theorem waitCmd_frame (r : CmdRef) (nsid : Nat) (s : State) :
    (waitCmd r nsid s).mode = s.mode ∧ (waitCmd r nsid s).power = s.power ∧ (waitCmd r nsid s).stop = s.stop ∧ (waitCmd r nsid
    s).recorder = s.recorder ∧ (waitCmd r nsid s).ports = s.ports ∧ (waitCmd r nsid s).fns = s.fns ∧ (waitCmd r nsid s).cache = s.cache
    ∧ (waitCmd r nsid s).reads = s.reads ∧ (waitCmd r nsid s).decks = s.decks ∧ (waitCmd r nsid s).gauge = s.gauge ∧ (waitCmd r nsid
    s).vault = s.vault ∧ (waitCmd r nsid s).fabric = s.fabric ∧ (waitCmd r nsid s).sched = s.sched ∧ (waitCmd r nsid s).feats = s.feats
    ∧ (waitCmd r nsid s).members = s.members ∧ (waitCmd r nsid s).guard = s.guard ∧ (waitCmd r nsid s).trust = s.trust ∧ (waitCmd r nsid
    s).now = s.now ∧ (waitCmd r nsid s).freeCtr = s.freeCtr ∧ (waitCmd r nsid s).out = s.out ∧ (waitCmd r nsid s).pending = s.pending := by simp [waitCmd]

/-- `namespaceChanged` changes `ports`, `fns`, `ctls`, `out` only. -/
@[simp] theorem namespaceChanged_frame (nsid : Nat) (ctls : List Nat) (s : State) :
    (namespaceChanged nsid ctls s).mode = s.mode ∧ (namespaceChanged nsid ctls s).power = s.power ∧ (namespaceChanged nsid ctls s).stop
    = s.stop ∧ (namespaceChanged nsid ctls s).recorder = s.recorder ∧ (namespaceChanged nsid ctls s).cache = s.cache ∧ (namespaceChanged
    nsid ctls s).reads = s.reads ∧ (namespaceChanged nsid ctls s).decks = s.decks ∧ (namespaceChanged nsid ctls s).gauge = s.gauge ∧
    (namespaceChanged nsid ctls s).vault = s.vault ∧ (namespaceChanged nsid ctls s).fabric = s.fabric ∧ (namespaceChanged nsid ctls
    s).sched = s.sched ∧ (namespaceChanged nsid ctls s).feats = s.feats ∧ (namespaceChanged nsid ctls s).members = s.members ∧
    (namespaceChanged nsid ctls s).guard = s.guard ∧ (namespaceChanged nsid ctls s).trust = s.trust ∧ (namespaceChanged nsid ctls s).now
    = s.now ∧ (namespaceChanged nsid ctls s).freeCtr = s.freeCtr ∧ (namespaceChanged nsid ctls s).pending = s.pending := by simp [namespaceChanged]

/-- `raiseAenAll` changes `ports`, `fns`, `ctls`, `out` only. -/
@[simp] theorem raiseAenAll_frame (bit : Nat) (kind : Nat) (info : Nat) (lid : Nat) (s : State) :
    (raiseAenAll bit kind info lid s).mode = s.mode ∧ (raiseAenAll bit kind info lid s).power = s.power ∧ (raiseAenAll bit kind info lid
    s).stop = s.stop ∧ (raiseAenAll bit kind info lid s).recorder = s.recorder ∧ (raiseAenAll bit kind info lid s).cache = s.cache ∧
    (raiseAenAll bit kind info lid s).reads = s.reads ∧ (raiseAenAll bit kind info lid s).decks = s.decks ∧ (raiseAenAll bit kind info
    lid s).gauge = s.gauge ∧ (raiseAenAll bit kind info lid s).vault = s.vault ∧ (raiseAenAll bit kind info lid s).fabric = s.fabric ∧
    (raiseAenAll bit kind info lid s).sched = s.sched ∧ (raiseAenAll bit kind info lid s).feats = s.feats ∧ (raiseAenAll bit kind info
    lid s).members = s.members ∧ (raiseAenAll bit kind info lid s).guard = s.guard ∧ (raiseAenAll bit kind info lid s).trust = s.trust ∧
    (raiseAenAll bit kind info lid s).now = s.now ∧ (raiseAenAll bit kind info lid s).freeCtr = s.freeCtr ∧ (raiseAenAll bit kind info
    lid s).pending = s.pending := by simp [raiseAenAll]

/-- `deferEvent` changes `trust` only. -/
@[simp] theorem deferEvent_frame (i : DeferredEvent) (s : State) :
    (deferEvent i s).mode = s.mode ∧ (deferEvent i s).power = s.power ∧ (deferEvent i s).stop = s.stop ∧ (deferEvent i s).recorder =
    s.recorder ∧ (deferEvent i s).ports = s.ports ∧ (deferEvent i s).fns = s.fns ∧ (deferEvent i s).ctls = s.ctls ∧ (deferEvent i
    s).cache = s.cache ∧ (deferEvent i s).reads = s.reads ∧ (deferEvent i s).decks = s.decks ∧ (deferEvent i s).gauge = s.gauge ∧
    (deferEvent i s).vault = s.vault ∧ (deferEvent i s).fabric = s.fabric ∧ (deferEvent i s).sched = s.sched ∧ (deferEvent i s).feats =
    s.feats ∧ (deferEvent i s).members = s.members ∧ (deferEvent i s).guard = s.guard ∧ (deferEvent i s).now = s.now ∧ (deferEvent i
    s).freeCtr = s.freeCtr ∧ (deferEvent i s).out = s.out ∧ (deferEvent i s).pending = s.pending := by simp [deferEvent]

end Sys2Proof.Machine
end

