-- ==== Sys2Proof/Laws/ConfigSpace.lean ====
section
/-!
SUPPORT. The frames of the operations of Machine/ConfigSpace.lean: which units of the state each leaves alone.
-/

namespace Sys2Proof.Machine

/-- `issueReads` changes `ports`, `out` only. -/
@[simp] theorem issueReads_frame (fn : Nat) (rs : List HostReq) (s : State) :
    (issueReads fn rs s).mode = s.mode ∧ (issueReads fn rs s).power = s.power ∧ (issueReads fn rs s).stop = s.stop ∧ (issueReads fn rs
    s).recorder = s.recorder ∧ (issueReads fn rs s).fns = s.fns ∧ (issueReads fn rs s).ctls = s.ctls ∧ (issueReads fn rs s).cache =
    s.cache ∧ (issueReads fn rs s).reads = s.reads ∧ (issueReads fn rs s).decks = s.decks ∧ (issueReads fn rs s).gauge = s.gauge ∧
    (issueReads fn rs s).vault = s.vault ∧ (issueReads fn rs s).fabric = s.fabric ∧ (issueReads fn rs s).sched = s.sched ∧ (issueReads
    fn rs s).feats = s.feats ∧ (issueReads fn rs s).members = s.members ∧ (issueReads fn rs s).guard = s.guard ∧ (issueReads fn rs
    s).trust = s.trust ∧ (issueReads fn rs s).now = s.now ∧ (issueReads fn rs s).freeCtr = s.freeCtr ∧ (issueReads fn rs s).pending =
    s.pending := by simp [issueReads]

/-- `requestHost` changes `ports`, `out` only. -/
@[simp] theorem requestHost_frame (fn : Nat) (ranges : List (Nat × Nat)) (s : State) :
    (requestHost fn ranges s).mode = s.mode ∧ (requestHost fn ranges s).power = s.power ∧ (requestHost fn ranges s).stop = s.stop ∧
    (requestHost fn ranges s).recorder = s.recorder ∧ (requestHost fn ranges s).fns = s.fns ∧ (requestHost fn ranges s).ctls = s.ctls ∧
    (requestHost fn ranges s).cache = s.cache ∧ (requestHost fn ranges s).reads = s.reads ∧ (requestHost fn ranges s).decks = s.decks ∧
    (requestHost fn ranges s).gauge = s.gauge ∧ (requestHost fn ranges s).vault = s.vault ∧ (requestHost fn ranges s).fabric = s.fabric
    ∧ (requestHost fn ranges s).sched = s.sched ∧ (requestHost fn ranges s).feats = s.feats ∧ (requestHost fn ranges s).members =
    s.members ∧ (requestHost fn ranges s).guard = s.guard ∧ (requestHost fn ranges s).trust = s.trust ∧ (requestHost fn ranges s).now =
    s.now ∧ (requestHost fn ranges s).freeCtr = s.freeCtr ∧ (requestHost fn ranges s).pending = s.pending := by simp [requestHost]

/-- `sendHost` changes `ports`, `out` only. -/
@[simp] theorem sendHost_frame (ref : CmdRef) (data : Bytes) (s : State) :
    (sendHost ref data s).mode = s.mode ∧ (sendHost ref data s).power = s.power ∧ (sendHost ref data s).stop = s.stop ∧ (sendHost ref
    data s).recorder = s.recorder ∧ (sendHost ref data s).fns = s.fns ∧ (sendHost ref data s).ctls = s.ctls ∧ (sendHost ref data
    s).cache = s.cache ∧ (sendHost ref data s).reads = s.reads ∧ (sendHost ref data s).decks = s.decks ∧ (sendHost ref data s).gauge =
    s.gauge ∧ (sendHost ref data s).vault = s.vault ∧ (sendHost ref data s).fabric = s.fabric ∧ (sendHost ref data s).sched = s.sched ∧
    (sendHost ref data s).feats = s.feats ∧ (sendHost ref data s).members = s.members ∧ (sendHost ref data s).guard = s.guard ∧
    (sendHost ref data s).trust = s.trust ∧ (sendHost ref data s).now = s.now ∧ (sendHost ref data s).freeCtr = s.freeCtr ∧ (sendHost
    ref data s).pending = s.pending := by simp [sendHost]

/-- `sendData` changes `ports`, `ctls`, `out` only. -/
@[simp] theorem sendData_frame (ref : CmdRef) (data : Bytes) (s : State) :
    (sendData ref data s).mode = s.mode ∧ (sendData ref data s).power = s.power ∧ (sendData ref data s).stop = s.stop ∧ (sendData ref
    data s).recorder = s.recorder ∧ (sendData ref data s).fns = s.fns ∧ (sendData ref data s).cache = s.cache ∧ (sendData ref data
    s).reads = s.reads ∧ (sendData ref data s).decks = s.decks ∧ (sendData ref data s).gauge = s.gauge ∧ (sendData ref data s).vault =
    s.vault ∧ (sendData ref data s).fabric = s.fabric ∧ (sendData ref data s).sched = s.sched ∧ (sendData ref data s).feats = s.feats ∧
    (sendData ref data s).members = s.members ∧ (sendData ref data s).guard = s.guard ∧ (sendData ref data s).trust = s.trust ∧
    (sendData ref data s).now = s.now ∧ (sendData ref data s).freeCtr = s.freeCtr ∧ (sendData ref data s).pending = s.pending := by
  simp only [sendData]
  (repeat' split) <;> (first | rfl | simp)

end Sys2Proof.Machine
end

