-- ==== Sys2Proof/Laws/Stop.lean ====
section
/-!
SUPPORT. The frames of the operations of Machine/Stop.lean: which units of the state each leaves alone.
-/

namespace Sys2Proof.Machine

/-- `reserveSeq` changes `vault`, `out` only. -/
@[simp] theorem reserveSeq_frame (s : State) :
    (reserveSeq s).mode = s.mode ∧ (reserveSeq s).power = s.power ∧ (reserveSeq s).stop = s.stop ∧ (reserveSeq s).recorder = s.recorder
    ∧ (reserveSeq s).ports = s.ports ∧ (reserveSeq s).fns = s.fns ∧ (reserveSeq s).ctls = s.ctls ∧ (reserveSeq s).cache = s.cache ∧
    (reserveSeq s).reads = s.reads ∧ (reserveSeq s).decks = s.decks ∧ (reserveSeq s).gauge = s.gauge ∧ (reserveSeq s).fabric = s.fabric
    ∧ (reserveSeq s).sched = s.sched ∧ (reserveSeq s).feats = s.feats ∧ (reserveSeq s).members = s.members ∧ (reserveSeq s).guard =
    s.guard ∧ (reserveSeq s).trust = s.trust ∧ (reserveSeq s).now = s.now ∧ (reserveSeq s).freeCtr = s.freeCtr ∧ (reserveSeq s).pending
    = s.pending := by simp [reserveSeq]

/-- `writeStop` changes `stop`, `out` only. -/
@[simp] theorem writeStop_frame (kind : Nat) (s : State) :
    (writeStop kind s).mode = s.mode ∧ (writeStop kind s).power = s.power ∧ (writeStop kind s).recorder = s.recorder ∧ (writeStop kind
    s).ports = s.ports ∧ (writeStop kind s).fns = s.fns ∧ (writeStop kind s).ctls = s.ctls ∧ (writeStop kind s).cache = s.cache ∧
    (writeStop kind s).reads = s.reads ∧ (writeStop kind s).decks = s.decks ∧ (writeStop kind s).gauge = s.gauge ∧ (writeStop kind
    s).vault = s.vault ∧ (writeStop kind s).fabric = s.fabric ∧ (writeStop kind s).sched = s.sched ∧ (writeStop kind s).feats = s.feats
    ∧ (writeStop kind s).members = s.members ∧ (writeStop kind s).guard = s.guard ∧ (writeStop kind s).trust = s.trust ∧ (writeStop kind
    s).now = s.now ∧ (writeStop kind s).freeCtr = s.freeCtr ∧ (writeStop kind s).pending = s.pending := by
  simp only [writeStop]
  (repeat' split) <;> (first | rfl | simp)

/-- `wtRecord` changes `stop`, `cache`, `out` only. -/
@[simp] theorem wtRecord_frame (s : State) :
    (wtRecord s).mode = s.mode ∧ (wtRecord s).power = s.power ∧ (wtRecord s).recorder = s.recorder ∧ (wtRecord s).ports = s.ports ∧
    (wtRecord s).fns = s.fns ∧ (wtRecord s).ctls = s.ctls ∧ (wtRecord s).reads = s.reads ∧ (wtRecord s).decks = s.decks ∧ (wtRecord
    s).gauge = s.gauge ∧ (wtRecord s).vault = s.vault ∧ (wtRecord s).fabric = s.fabric ∧ (wtRecord s).sched = s.sched ∧ (wtRecord
    s).feats = s.feats ∧ (wtRecord s).members = s.members ∧ (wtRecord s).guard = s.guard ∧ (wtRecord s).trust = s.trust ∧ (wtRecord
    s).now = s.now ∧ (wtRecord s).freeCtr = s.freeCtr ∧ (wtRecord s).pending = s.pending := by simp [wtRecord]

end Sys2Proof.Machine
end

