-- ==== Sys2Proof/Laws/Tags.lean ====
section
/-!
SUPPORT. The frames of the operations of Machine/Tags.lean: which units of the state each leaves alone.
-/

namespace Sys2Proof.Machine

/-- `updPort` changes `members` only. -/
@[simp] theorem updPort_frame (x : Nat) (port : Nat) (f : MPort → MPort) (s : State) :
    (updPort x port f s).mode = s.mode ∧ (updPort x port f s).power = s.power ∧ (updPort x port f s).stop = s.stop ∧ (updPort x port f
    s).recorder = s.recorder ∧ (updPort x port f s).ports = s.ports ∧ (updPort x port f s).fns = s.fns ∧ (updPort x port f s).ctls =
    s.ctls ∧ (updPort x port f s).cache = s.cache ∧ (updPort x port f s).reads = s.reads ∧ (updPort x port f s).decks = s.decks ∧
    (updPort x port f s).gauge = s.gauge ∧ (updPort x port f s).vault = s.vault ∧ (updPort x port f s).fabric = s.fabric ∧ (updPort x
    port f s).sched = s.sched ∧ (updPort x port f s).feats = s.feats ∧ (updPort x port f s).guard = s.guard ∧ (updPort x port f s).trust
    = s.trust ∧ (updPort x port f s).now = s.now ∧ (updPort x port f s).freeCtr = s.freeCtr ∧ (updPort x port f s).out = s.out ∧
    (updPort x port f s).pending = s.pending := by simp [updPort]

/-- `holdCommand` changes `members` only. -/
@[simp] theorem holdCommand_frame (x : Nat) (opcode : Nat) (work : TagWork) (len : Nat) (buf : Bytes) (step : Nat) (errored : Bool) (s : State) :
    (holdCommand x opcode work len buf step errored s).mode = s.mode ∧ (holdCommand x opcode work len buf step errored s).power =
    s.power ∧ (holdCommand x opcode work len buf step errored s).stop = s.stop ∧ (holdCommand x opcode work len buf step errored
    s).recorder = s.recorder ∧ (holdCommand x opcode work len buf step errored s).ports = s.ports ∧ (holdCommand x opcode work len buf
    step errored s).fns = s.fns ∧ (holdCommand x opcode work len buf step errored s).ctls = s.ctls ∧ (holdCommand x opcode work len buf
    step errored s).cache = s.cache ∧ (holdCommand x opcode work len buf step errored s).reads = s.reads ∧ (holdCommand x opcode work
    len buf step errored s).decks = s.decks ∧ (holdCommand x opcode work len buf step errored s).gauge = s.gauge ∧ (holdCommand x opcode
    work len buf step errored s).vault = s.vault ∧ (holdCommand x opcode work len buf step errored s).fabric = s.fabric ∧ (holdCommand x
    opcode work len buf step errored s).sched = s.sched ∧ (holdCommand x opcode work len buf step errored s).feats = s.feats ∧
    (holdCommand x opcode work len buf step errored s).guard = s.guard ∧ (holdCommand x opcode work len buf step errored s).trust =
    s.trust ∧ (holdCommand x opcode work len buf step errored s).now = s.now ∧ (holdCommand x opcode work len buf step errored
    s).freeCtr = s.freeCtr ∧ (holdCommand x opcode work len buf step errored s).out = s.out ∧ (holdCommand x opcode work len buf step
    errored s).pending = s.pending := by simp [holdCommand]

/-- `issueAgain` changes `members`, `out` only. -/
@[simp] theorem issueAgain_frame (x : Nat) (port : Nat) (opcode : Nat) (work : TagWork) (len : Nat) (buf : Bytes) (step : Nat) (errored : Bool) (s : State) :
    (issueAgain x port opcode work len buf step errored s).mode = s.mode ∧ (issueAgain x port opcode work len buf step errored s).power
    = s.power ∧ (issueAgain x port opcode work len buf step errored s).stop = s.stop ∧ (issueAgain x port opcode work len buf step
    errored s).recorder = s.recorder ∧ (issueAgain x port opcode work len buf step errored s).ports = s.ports ∧ (issueAgain x port
    opcode work len buf step errored s).fns = s.fns ∧ (issueAgain x port opcode work len buf step errored s).ctls = s.ctls ∧ (issueAgain
    x port opcode work len buf step errored s).cache = s.cache ∧ (issueAgain x port opcode work len buf step errored s).reads = s.reads
    ∧ (issueAgain x port opcode work len buf step errored s).decks = s.decks ∧ (issueAgain x port opcode work len buf step errored
    s).gauge = s.gauge ∧ (issueAgain x port opcode work len buf step errored s).vault = s.vault ∧ (issueAgain x port opcode work len buf
    step errored s).fabric = s.fabric ∧ (issueAgain x port opcode work len buf step errored s).sched = s.sched ∧ (issueAgain x port
    opcode work len buf step errored s).feats = s.feats ∧ (issueAgain x port opcode work len buf step errored s).guard = s.guard ∧
    (issueAgain x port opcode work len buf step errored s).trust = s.trust ∧ (issueAgain x port opcode work len buf step errored s).now
    = s.now ∧ (issueAgain x port opcode work len buf step errored s).freeCtr = s.freeCtr ∧ (issueAgain x port opcode work len buf step
    errored s).pending = s.pending := by
  simp only [issueAgain]
  (repeat' split) <;> (first | rfl | simp)

/-- `issueOn` changes `members`, `out` only. -/
@[simp] theorem issueOn_frame (x : Nat) (port : Nat) (opcode : Nat) (work : TagWork) (len : Nat) (buf : Bytes) (s : State) :
    (issueOn x port opcode work len buf s).mode = s.mode ∧ (issueOn x port opcode work len buf s).power = s.power ∧ (issueOn x port
    opcode work len buf s).stop = s.stop ∧ (issueOn x port opcode work len buf s).recorder = s.recorder ∧ (issueOn x port opcode work
    len buf s).ports = s.ports ∧ (issueOn x port opcode work len buf s).fns = s.fns ∧ (issueOn x port opcode work len buf s).ctls =
    s.ctls ∧ (issueOn x port opcode work len buf s).cache = s.cache ∧ (issueOn x port opcode work len buf s).reads = s.reads ∧ (issueOn
    x port opcode work len buf s).decks = s.decks ∧ (issueOn x port opcode work len buf s).gauge = s.gauge ∧ (issueOn x port opcode work
    len buf s).vault = s.vault ∧ (issueOn x port opcode work len buf s).fabric = s.fabric ∧ (issueOn x port opcode work len buf s).sched
    = s.sched ∧ (issueOn x port opcode work len buf s).feats = s.feats ∧ (issueOn x port opcode work len buf s).guard = s.guard ∧
    (issueOn x port opcode work len buf s).trust = s.trust ∧ (issueOn x port opcode work len buf s).now = s.now ∧ (issueOn x port opcode
    work len buf s).freeCtr = s.freeCtr ∧ (issueOn x port opcode work len buf s).pending = s.pending := by simp [issueOn]

/-- `issueTo` changes `members`, `out` only. -/
@[simp] theorem issueTo_frame (x : Nat) (opcode : Nat) (work : TagWork) (len : Nat) (buf : Bytes) (s : State) :
    (issueTo x opcode work len buf s).mode = s.mode ∧ (issueTo x opcode work len buf s).power = s.power ∧ (issueTo x opcode work len buf
    s).stop = s.stop ∧ (issueTo x opcode work len buf s).recorder = s.recorder ∧ (issueTo x opcode work len buf s).ports = s.ports ∧
    (issueTo x opcode work len buf s).fns = s.fns ∧ (issueTo x opcode work len buf s).ctls = s.ctls ∧ (issueTo x opcode work len buf
    s).cache = s.cache ∧ (issueTo x opcode work len buf s).reads = s.reads ∧ (issueTo x opcode work len buf s).decks = s.decks ∧
    (issueTo x opcode work len buf s).gauge = s.gauge ∧ (issueTo x opcode work len buf s).vault = s.vault ∧ (issueTo x opcode work len
    buf s).fabric = s.fabric ∧ (issueTo x opcode work len buf s).sched = s.sched ∧ (issueTo x opcode work len buf s).feats = s.feats ∧
    (issueTo x opcode work len buf s).guard = s.guard ∧ (issueTo x opcode work len buf s).trust = s.trust ∧ (issueTo x opcode work len
    buf s).now = s.now ∧ (issueTo x opcode work len buf s).freeCtr = s.freeCtr ∧ (issueTo x opcode work len buf s).pending = s.pending := by
  simp only [issueTo]
  (repeat' split) <;> (first | rfl | simp)

/-- `storeTo` changes `members`, `out` only. -/
@[simp] theorem storeTo_frame (x : Nat) (at_ : Nat) (data : Bytes) (tag : Option ChunkTag) (s : State) :
    (storeTo x at_ data tag s).mode = s.mode ∧ (storeTo x at_ data tag s).power = s.power ∧ (storeTo x at_ data tag s).stop = s.stop ∧
    (storeTo x at_ data tag s).recorder = s.recorder ∧ (storeTo x at_ data tag s).ports = s.ports ∧ (storeTo x at_ data tag s).fns =
    s.fns ∧ (storeTo x at_ data tag s).ctls = s.ctls ∧ (storeTo x at_ data tag s).cache = s.cache ∧ (storeTo x at_ data tag s).reads =
    s.reads ∧ (storeTo x at_ data tag s).decks = s.decks ∧ (storeTo x at_ data tag s).gauge = s.gauge ∧ (storeTo x at_ data tag s).vault
    = s.vault ∧ (storeTo x at_ data tag s).fabric = s.fabric ∧ (storeTo x at_ data tag s).sched = s.sched ∧ (storeTo x at_ data tag
    s).feats = s.feats ∧ (storeTo x at_ data tag s).guard = s.guard ∧ (storeTo x at_ data tag s).trust = s.trust ∧ (storeTo x at_ data
    tag s).now = s.now ∧ (storeTo x at_ data tag s).freeCtr = s.freeCtr ∧ (storeTo x at_ data tag s).pending = s.pending := by simp [storeTo]

/-- `deallocOn` changes `members`, `out` only. -/
@[simp] theorem deallocOn_frame (x : Nat) (ranges : List (Nat × Nat)) (s : State) :
    (deallocOn x ranges s).mode = s.mode ∧ (deallocOn x ranges s).power = s.power ∧ (deallocOn x ranges s).stop = s.stop ∧ (deallocOn x
    ranges s).recorder = s.recorder ∧ (deallocOn x ranges s).ports = s.ports ∧ (deallocOn x ranges s).fns = s.fns ∧ (deallocOn x ranges
    s).ctls = s.ctls ∧ (deallocOn x ranges s).cache = s.cache ∧ (deallocOn x ranges s).reads = s.reads ∧ (deallocOn x ranges s).decks =
    s.decks ∧ (deallocOn x ranges s).gauge = s.gauge ∧ (deallocOn x ranges s).vault = s.vault ∧ (deallocOn x ranges s).fabric = s.fabric
    ∧ (deallocOn x ranges s).sched = s.sched ∧ (deallocOn x ranges s).feats = s.feats ∧ (deallocOn x ranges s).guard = s.guard ∧
    (deallocOn x ranges s).trust = s.trust ∧ (deallocOn x ranges s).now = s.now ∧ (deallocOn x ranges s).freeCtr = s.freeCtr ∧
    (deallocOn x ranges s).pending = s.pending := by simp [deallocOn]

/-- `dropTags` changes `members` only. -/
@[simp] theorem dropTags_frame (f : MTag → Bool) (s : State) :
    (dropTags f s).mode = s.mode ∧ (dropTags f s).power = s.power ∧ (dropTags f s).stop = s.stop ∧ (dropTags f s).recorder = s.recorder
    ∧ (dropTags f s).ports = s.ports ∧ (dropTags f s).fns = s.fns ∧ (dropTags f s).ctls = s.ctls ∧ (dropTags f s).cache = s.cache ∧
    (dropTags f s).reads = s.reads ∧ (dropTags f s).decks = s.decks ∧ (dropTags f s).gauge = s.gauge ∧ (dropTags f s).vault = s.vault ∧
    (dropTags f s).fabric = s.fabric ∧ (dropTags f s).sched = s.sched ∧ (dropTags f s).feats = s.feats ∧ (dropTags f s).guard = s.guard
    ∧ (dropTags f s).trust = s.trust ∧ (dropTags f s).now = s.now ∧ (dropTags f s).freeCtr = s.freeCtr ∧ (dropTags f s).out = s.out ∧
    (dropTags f s).pending = s.pending := by simp [dropTags]

end Sys2Proof.Machine
end

