-- ==== Sys2Proof/Laws/Queues.lean ====
section
/-!
SUPPORT. The frames of the operations of Machine/Queues.lean: which units of the state each leaves alone.
-/

namespace Sys2Proof.Machine

/-- `forgetRefs` changes `ctls`, `decks`, `members`, `trust` only. -/
@[simp] theorem forgetRefs_frame (ctl : Nat) (s : State) :
    (forgetRefs ctl s).mode = s.mode ∧ (forgetRefs ctl s).power = s.power ∧ (forgetRefs ctl s).stop = s.stop ∧ (forgetRefs ctl
    s).recorder = s.recorder ∧ (forgetRefs ctl s).ports = s.ports ∧ (forgetRefs ctl s).fns = s.fns ∧ (forgetRefs ctl s).cache = s.cache
    ∧ (forgetRefs ctl s).reads = s.reads ∧ (forgetRefs ctl s).gauge = s.gauge ∧ (forgetRefs ctl s).vault = s.vault ∧ (forgetRefs ctl
    s).fabric = s.fabric ∧ (forgetRefs ctl s).sched = s.sched ∧ (forgetRefs ctl s).feats = s.feats ∧ (forgetRefs ctl s).guard = s.guard
    ∧ (forgetRefs ctl s).now = s.now ∧ (forgetRefs ctl s).freeCtr = s.freeCtr ∧ (forgetRefs ctl s).out = s.out ∧ (forgetRefs ctl
    s).pending = s.pending := by simp [forgetRefs]

/-- `wakeHost` changes `mode` only. -/
@[simp] theorem wakeHost_frame (s : State) :
    (wakeHost s).power = s.power ∧ (wakeHost s).stop = s.stop ∧ (wakeHost s).recorder = s.recorder ∧ (wakeHost s).ports = s.ports ∧
    (wakeHost s).fns = s.fns ∧ (wakeHost s).ctls = s.ctls ∧ (wakeHost s).cache = s.cache ∧ (wakeHost s).reads = s.reads ∧ (wakeHost
    s).decks = s.decks ∧ (wakeHost s).gauge = s.gauge ∧ (wakeHost s).vault = s.vault ∧ (wakeHost s).fabric = s.fabric ∧ (wakeHost
    s).sched = s.sched ∧ (wakeHost s).feats = s.feats ∧ (wakeHost s).members = s.members ∧ (wakeHost s).guard = s.guard ∧ (wakeHost
    s).trust = s.trust ∧ (wakeHost s).now = s.now ∧ (wakeHost s).freeCtr = s.freeCtr ∧ (wakeHost s).out = s.out ∧ (wakeHost s).pending =
    s.pending := by simp [wakeHost]

/-- `hostArrives` changes `mode`, `ports` only. -/
@[simp] theorem hostArrives_frame (ctl : Nat) (s : State) :
    (hostArrives ctl s).power = s.power ∧ (hostArrives ctl s).stop = s.stop ∧ (hostArrives ctl s).recorder = s.recorder ∧ (hostArrives
    ctl s).fns = s.fns ∧ (hostArrives ctl s).ctls = s.ctls ∧ (hostArrives ctl s).cache = s.cache ∧ (hostArrives ctl s).reads = s.reads ∧
    (hostArrives ctl s).decks = s.decks ∧ (hostArrives ctl s).gauge = s.gauge ∧ (hostArrives ctl s).vault = s.vault ∧ (hostArrives ctl
    s).fabric = s.fabric ∧ (hostArrives ctl s).sched = s.sched ∧ (hostArrives ctl s).feats = s.feats ∧ (hostArrives ctl s).members =
    s.members ∧ (hostArrives ctl s).guard = s.guard ∧ (hostArrives ctl s).trust = s.trust ∧ (hostArrives ctl s).now = s.now ∧
    (hostArrives ctl s).freeCtr = s.freeCtr ∧ (hostArrives ctl s).out = s.out ∧ (hostArrives ctl s).pending = s.pending := by simp [hostArrives]

/-- `doorbellArrives` changes `mode`, `ports` only. -/
@[simp] theorem doorbellArrives_frame (ctl : Nat) (s : State) :
    (doorbellArrives ctl s).power = s.power ∧ (doorbellArrives ctl s).stop = s.stop ∧ (doorbellArrives ctl s).recorder = s.recorder ∧
    (doorbellArrives ctl s).fns = s.fns ∧ (doorbellArrives ctl s).ctls = s.ctls ∧ (doorbellArrives ctl s).cache = s.cache ∧
    (doorbellArrives ctl s).reads = s.reads ∧ (doorbellArrives ctl s).decks = s.decks ∧ (doorbellArrives ctl s).gauge = s.gauge ∧
    (doorbellArrives ctl s).vault = s.vault ∧ (doorbellArrives ctl s).fabric = s.fabric ∧ (doorbellArrives ctl s).sched = s.sched ∧
    (doorbellArrives ctl s).feats = s.feats ∧ (doorbellArrives ctl s).members = s.members ∧ (doorbellArrives ctl s).guard = s.guard ∧
    (doorbellArrives ctl s).trust = s.trust ∧ (doorbellArrives ctl s).now = s.now ∧ (doorbellArrives ctl s).freeCtr = s.freeCtr ∧
    (doorbellArrives ctl s).out = s.out ∧ (doorbellArrives ctl s).pending = s.pending := by simp [doorbellArrives]

/-- `dropRecord` changes `ctls`, `decks` only. -/
@[simp] theorem dropRecord_frame (r : CmdRef) (s : State) :
    (dropRecord r s).mode = s.mode ∧ (dropRecord r s).power = s.power ∧ (dropRecord r s).stop = s.stop ∧ (dropRecord r s).recorder =
    s.recorder ∧ (dropRecord r s).ports = s.ports ∧ (dropRecord r s).fns = s.fns ∧ (dropRecord r s).cache = s.cache ∧ (dropRecord r
    s).reads = s.reads ∧ (dropRecord r s).gauge = s.gauge ∧ (dropRecord r s).vault = s.vault ∧ (dropRecord r s).fabric = s.fabric ∧
    (dropRecord r s).sched = s.sched ∧ (dropRecord r s).feats = s.feats ∧ (dropRecord r s).members = s.members ∧ (dropRecord r s).guard
    = s.guard ∧ (dropRecord r s).trust = s.trust ∧ (dropRecord r s).now = s.now ∧ (dropRecord r s).freeCtr = s.freeCtr ∧ (dropRecord r
    s).out = s.out ∧ (dropRecord r s).pending = s.pending := by
  simp only [dropRecord]
  (repeat' split) <;> (first | rfl | simp)

/-- `dropWork` changes `ctls`, `cache`, `reads`, `decks` only. -/
@[simp] theorem dropWork_frame (r : CmdRef) (s : State) :
    (dropWork r s).mode = s.mode ∧ (dropWork r s).power = s.power ∧ (dropWork r s).stop = s.stop ∧ (dropWork r s).recorder = s.recorder
    ∧ (dropWork r s).ports = s.ports ∧ (dropWork r s).fns = s.fns ∧ (dropWork r s).gauge = s.gauge ∧ (dropWork r s).vault = s.vault ∧
    (dropWork r s).fabric = s.fabric ∧ (dropWork r s).sched = s.sched ∧ (dropWork r s).feats = s.feats ∧ (dropWork r s).members =
    s.members ∧ (dropWork r s).guard = s.guard ∧ (dropWork r s).trust = s.trust ∧ (dropWork r s).now = s.now ∧ (dropWork r s).freeCtr =
    s.freeCtr ∧ (dropWork r s).out = s.out ∧ (dropWork r s).pending = s.pending := by simp [dropWork]

/-- `abandonCmd` changes `stop`, `ctls`, `cache`, `reads`, `decks`, `out` only. -/
@[simp] theorem abandonCmd_frame (r : CmdRef) (status : Nat) (s : State) :
    (abandonCmd r status s).mode = s.mode ∧ (abandonCmd r status s).power = s.power ∧ (abandonCmd r status s).recorder = s.recorder ∧
    (abandonCmd r status s).ports = s.ports ∧ (abandonCmd r status s).fns = s.fns ∧ (abandonCmd r status s).gauge = s.gauge ∧
    (abandonCmd r status s).vault = s.vault ∧ (abandonCmd r status s).fabric = s.fabric ∧ (abandonCmd r status s).sched = s.sched ∧
    (abandonCmd r status s).feats = s.feats ∧ (abandonCmd r status s).members = s.members ∧ (abandonCmd r status s).guard = s.guard ∧
    (abandonCmd r status s).trust = s.trust ∧ (abandonCmd r status s).now = s.now ∧ (abandonCmd r status s).freeCtr = s.freeCtr ∧
    (abandonCmd r status s).pending = s.pending := by simp [abandonCmd]

/-- `beginDeletion` changes `stop`, `ctls`, `cache`, `reads`, `decks`, `out` only. -/
@[simp] theorem beginDeletion_frame (ctl : Nat) (qid : Nat) (s : State) :
    (beginDeletion ctl qid s).mode = s.mode ∧ (beginDeletion ctl qid s).power = s.power ∧ (beginDeletion ctl qid s).recorder =
    s.recorder ∧ (beginDeletion ctl qid s).ports = s.ports ∧ (beginDeletion ctl qid s).fns = s.fns ∧ (beginDeletion ctl qid s).gauge =
    s.gauge ∧ (beginDeletion ctl qid s).vault = s.vault ∧ (beginDeletion ctl qid s).fabric = s.fabric ∧ (beginDeletion ctl qid s).sched
    = s.sched ∧ (beginDeletion ctl qid s).feats = s.feats ∧ (beginDeletion ctl qid s).members = s.members ∧ (beginDeletion ctl qid
    s).guard = s.guard ∧ (beginDeletion ctl qid s).trust = s.trust ∧ (beginDeletion ctl qid s).now = s.now ∧ (beginDeletion ctl qid
    s).freeCtr = s.freeCtr ∧ (beginDeletion ctl qid s).pending = s.pending := by
  simp only [beginDeletion]
  (repeat' split) <;> (first | rfl | simp)

/-- `finishDeletion` changes `ctls` only. -/
@[simp] theorem finishDeletion_frame (ctl : Nat) (sqid : Nat) (s : State) :
    (finishDeletion ctl sqid s).mode = s.mode ∧ (finishDeletion ctl sqid s).power = s.power ∧ (finishDeletion ctl sqid s).stop = s.stop
    ∧ (finishDeletion ctl sqid s).recorder = s.recorder ∧ (finishDeletion ctl sqid s).ports = s.ports ∧ (finishDeletion ctl sqid s).fns
    = s.fns ∧ (finishDeletion ctl sqid s).cache = s.cache ∧ (finishDeletion ctl sqid s).reads = s.reads ∧ (finishDeletion ctl sqid
    s).decks = s.decks ∧ (finishDeletion ctl sqid s).gauge = s.gauge ∧ (finishDeletion ctl sqid s).vault = s.vault ∧ (finishDeletion ctl
    sqid s).fabric = s.fabric ∧ (finishDeletion ctl sqid s).sched = s.sched ∧ (finishDeletion ctl sqid s).feats = s.feats ∧
    (finishDeletion ctl sqid s).members = s.members ∧ (finishDeletion ctl sqid s).guard = s.guard ∧ (finishDeletion ctl sqid s).trust =
    s.trust ∧ (finishDeletion ctl sqid s).now = s.now ∧ (finishDeletion ctl sqid s).freeCtr = s.freeCtr ∧ (finishDeletion ctl sqid
    s).out = s.out ∧ (finishDeletion ctl sqid s).pending = s.pending := by
  simp only [finishDeletion]
  (repeat' split) <;> (first | rfl | simp)

/-- `fetchOne` changes `stop`, `recorder`, `ports`, `fns`, `ctls`, `cache`, `reads`, `decks`, `out` only. -/
@[simp] theorem fetchOne_frame (ctl : Nat) (sqid : Nat) (e : SqEntry) (s : State) :
    (fetchOne ctl sqid e s).mode = s.mode ∧ (fetchOne ctl sqid e s).power = s.power ∧ (fetchOne ctl sqid e s).gauge = s.gauge ∧
    (fetchOne ctl sqid e s).vault = s.vault ∧ (fetchOne ctl sqid e s).fabric = s.fabric ∧ (fetchOne ctl sqid e s).sched = s.sched ∧
    (fetchOne ctl sqid e s).feats = s.feats ∧ (fetchOne ctl sqid e s).members = s.members ∧ (fetchOne ctl sqid e s).guard = s.guard ∧
    (fetchOne ctl sqid e s).trust = s.trust ∧ (fetchOne ctl sqid e s).now = s.now ∧ (fetchOne ctl sqid e s).freeCtr = s.freeCtr ∧
    (fetchOne ctl sqid e s).pending = s.pending := by
  simp only [fetchOne]
  (repeat' split) <;> (first | rfl | simp)

/-- `haltPosters` changes `recorder`, `ports`, `fns`, `ctls`, `out` only. -/
@[simp] theorem haltPosters_frame (ctl : Nat) (cqid : Nat) (value : Nat) (s : State) :
    (haltPosters ctl cqid value s).mode = s.mode ∧ (haltPosters ctl cqid value s).power = s.power ∧ (haltPosters ctl cqid value s).stop
    = s.stop ∧ (haltPosters ctl cqid value s).cache = s.cache ∧ (haltPosters ctl cqid value s).reads = s.reads ∧ (haltPosters ctl cqid
    value s).decks = s.decks ∧ (haltPosters ctl cqid value s).gauge = s.gauge ∧ (haltPosters ctl cqid value s).vault = s.vault ∧
    (haltPosters ctl cqid value s).fabric = s.fabric ∧ (haltPosters ctl cqid value s).sched = s.sched ∧ (haltPosters ctl cqid value
    s).feats = s.feats ∧ (haltPosters ctl cqid value s).members = s.members ∧ (haltPosters ctl cqid value s).guard = s.guard ∧
    (haltPosters ctl cqid value s).trust = s.trust ∧ (haltPosters ctl cqid value s).now = s.now ∧ (haltPosters ctl cqid value s).freeCtr
    = s.freeCtr ∧ (haltPosters ctl cqid value s).pending = s.pending := by simp [haltPosters]

/-- `barRefused` changes `ports`, `fns`, `out` only. -/
@[simp] theorem barRefused_frame (ctl : Nat) (s : State) :
    (barRefused ctl s).mode = s.mode ∧ (barRefused ctl s).power = s.power ∧ (barRefused ctl s).stop = s.stop ∧ (barRefused ctl
    s).recorder = s.recorder ∧ (barRefused ctl s).ctls = s.ctls ∧ (barRefused ctl s).cache = s.cache ∧ (barRefused ctl s).reads =
    s.reads ∧ (barRefused ctl s).decks = s.decks ∧ (barRefused ctl s).gauge = s.gauge ∧ (barRefused ctl s).vault = s.vault ∧ (barRefused
    ctl s).fabric = s.fabric ∧ (barRefused ctl s).sched = s.sched ∧ (barRefused ctl s).feats = s.feats ∧ (barRefused ctl s).members =
    s.members ∧ (barRefused ctl s).guard = s.guard ∧ (barRefused ctl s).trust = s.trust ∧ (barRefused ctl s).now = s.now ∧ (barRefused
    ctl s).freeCtr = s.freeCtr ∧ (barRefused ctl s).pending = s.pending := by simp [barRefused]

/-- `settlePba` changes `fns` only. -/
@[simp] theorem settlePba_frame (ctl : Nat) (s : State) :
    (settlePba ctl s).mode = s.mode ∧ (settlePba ctl s).power = s.power ∧ (settlePba ctl s).stop = s.stop ∧ (settlePba ctl s).recorder =
    s.recorder ∧ (settlePba ctl s).ports = s.ports ∧ (settlePba ctl s).ctls = s.ctls ∧ (settlePba ctl s).cache = s.cache ∧ (settlePba
    ctl s).reads = s.reads ∧ (settlePba ctl s).decks = s.decks ∧ (settlePba ctl s).gauge = s.gauge ∧ (settlePba ctl s).vault = s.vault ∧
    (settlePba ctl s).fabric = s.fabric ∧ (settlePba ctl s).sched = s.sched ∧ (settlePba ctl s).feats = s.feats ∧ (settlePba ctl
    s).members = s.members ∧ (settlePba ctl s).guard = s.guard ∧ (settlePba ctl s).trust = s.trust ∧ (settlePba ctl s).now = s.now ∧
    (settlePba ctl s).freeCtr = s.freeCtr ∧ (settlePba ctl s).out = s.out ∧ (settlePba ctl s).pending = s.pending := by simp [settlePba]

/-- `keepDropped` changes `ctls` only. -/
@[simp] theorem keepDropped_frame (ctl : Nat) (s : State) :
    (keepDropped ctl s).mode = s.mode ∧ (keepDropped ctl s).power = s.power ∧ (keepDropped ctl s).stop = s.stop ∧ (keepDropped ctl
    s).recorder = s.recorder ∧ (keepDropped ctl s).ports = s.ports ∧ (keepDropped ctl s).fns = s.fns ∧ (keepDropped ctl s).cache =
    s.cache ∧ (keepDropped ctl s).reads = s.reads ∧ (keepDropped ctl s).decks = s.decks ∧ (keepDropped ctl s).gauge = s.gauge ∧
    (keepDropped ctl s).vault = s.vault ∧ (keepDropped ctl s).fabric = s.fabric ∧ (keepDropped ctl s).sched = s.sched ∧ (keepDropped ctl
    s).feats = s.feats ∧ (keepDropped ctl s).members = s.members ∧ (keepDropped ctl s).guard = s.guard ∧ (keepDropped ctl s).trust =
    s.trust ∧ (keepDropped ctl s).now = s.now ∧ (keepDropped ctl s).freeCtr = s.freeCtr ∧ (keepDropped ctl s).out = s.out ∧ (keepDropped
    ctl s).pending = s.pending := by simp [keepDropped]

/-- `dropUncommitted` changes `ctls`, `cache`, `reads`, `decks` only. -/
@[simp] theorem dropUncommitted_frame (ctl : Nat) (s : State) :
    (dropUncommitted ctl s).mode = s.mode ∧ (dropUncommitted ctl s).power = s.power ∧ (dropUncommitted ctl s).stop = s.stop ∧
    (dropUncommitted ctl s).recorder = s.recorder ∧ (dropUncommitted ctl s).ports = s.ports ∧ (dropUncommitted ctl s).fns = s.fns ∧
    (dropUncommitted ctl s).gauge = s.gauge ∧ (dropUncommitted ctl s).vault = s.vault ∧ (dropUncommitted ctl s).fabric = s.fabric ∧
    (dropUncommitted ctl s).sched = s.sched ∧ (dropUncommitted ctl s).feats = s.feats ∧ (dropUncommitted ctl s).members = s.members ∧
    (dropUncommitted ctl s).guard = s.guard ∧ (dropUncommitted ctl s).trust = s.trust ∧ (dropUncommitted ctl s).now = s.now ∧
    (dropUncommitted ctl s).freeCtr = s.freeCtr ∧ (dropUncommitted ctl s).out = s.out ∧ (dropUncommitted ctl s).pending = s.pending := by simp [dropUncommitted]

/-- `requestPieces` changes `ports`, `out` only. -/
@[simp] theorem requestPieces_frame (ref : CmdRef) (ps : List (Option Nat × Nat)) (s : State) :
    (requestPieces ref ps s).mode = s.mode ∧ (requestPieces ref ps s).power = s.power ∧ (requestPieces ref ps s).stop = s.stop ∧
    (requestPieces ref ps s).recorder = s.recorder ∧ (requestPieces ref ps s).fns = s.fns ∧ (requestPieces ref ps s).ctls = s.ctls ∧
    (requestPieces ref ps s).cache = s.cache ∧ (requestPieces ref ps s).reads = s.reads ∧ (requestPieces ref ps s).decks = s.decks ∧
    (requestPieces ref ps s).gauge = s.gauge ∧ (requestPieces ref ps s).vault = s.vault ∧ (requestPieces ref ps s).fabric = s.fabric ∧
    (requestPieces ref ps s).sched = s.sched ∧ (requestPieces ref ps s).feats = s.feats ∧ (requestPieces ref ps s).members = s.members ∧
    (requestPieces ref ps s).guard = s.guard ∧ (requestPieces ref ps s).trust = s.trust ∧ (requestPieces ref ps s).now = s.now ∧
    (requestPieces ref ps s).freeCtr = s.freeCtr ∧ (requestPieces ref ps s).pending = s.pending := by simp [requestPieces]

/-- `badDoorbell` changes `recorder`, `ports`, `fns`, `ctls`, `out` only. -/
@[simp] theorem badDoorbell_frame (ctl : Nat) (offset : Nat) (value : Nat) (info : Nat) (s : State) :
    (badDoorbell ctl offset value info s).mode = s.mode ∧ (badDoorbell ctl offset value info s).power = s.power ∧ (badDoorbell ctl
    offset value info s).stop = s.stop ∧ (badDoorbell ctl offset value info s).cache = s.cache ∧ (badDoorbell ctl offset value info
    s).reads = s.reads ∧ (badDoorbell ctl offset value info s).decks = s.decks ∧ (badDoorbell ctl offset value info s).gauge = s.gauge ∧
    (badDoorbell ctl offset value info s).vault = s.vault ∧ (badDoorbell ctl offset value info s).fabric = s.fabric ∧ (badDoorbell ctl
    offset value info s).sched = s.sched ∧ (badDoorbell ctl offset value info s).feats = s.feats ∧ (badDoorbell ctl offset value info
    s).members = s.members ∧ (badDoorbell ctl offset value info s).guard = s.guard ∧ (badDoorbell ctl offset value info s).trust =
    s.trust ∧ (badDoorbell ctl offset value info s).now = s.now ∧ (badDoorbell ctl offset value info s).freeCtr = s.freeCtr ∧
    (badDoorbell ctl offset value info s).pending = s.pending := by simp [badDoorbell]

/-- `tailDoorbell` changes `mode`, `recorder`, `ports`, `fns`, `ctls`, `out` only. -/
@[simp] theorem tailDoorbell_frame (ctl : Nat) (sqid : Nat) (value : Nat) (s : State) :
    (tailDoorbell ctl sqid value s).power = s.power ∧ (tailDoorbell ctl sqid value s).stop = s.stop ∧ (tailDoorbell ctl sqid value
    s).cache = s.cache ∧ (tailDoorbell ctl sqid value s).reads = s.reads ∧ (tailDoorbell ctl sqid value s).decks = s.decks ∧
    (tailDoorbell ctl sqid value s).gauge = s.gauge ∧ (tailDoorbell ctl sqid value s).vault = s.vault ∧ (tailDoorbell ctl sqid value
    s).fabric = s.fabric ∧ (tailDoorbell ctl sqid value s).sched = s.sched ∧ (tailDoorbell ctl sqid value s).feats = s.feats ∧
    (tailDoorbell ctl sqid value s).members = s.members ∧ (tailDoorbell ctl sqid value s).guard = s.guard ∧ (tailDoorbell ctl sqid value
    s).trust = s.trust ∧ (tailDoorbell ctl sqid value s).now = s.now ∧ (tailDoorbell ctl sqid value s).freeCtr = s.freeCtr ∧
    (tailDoorbell ctl sqid value s).pending = s.pending := by
  simp only [tailDoorbell]
  (repeat' split) <;> (first | rfl | simp)

/-- `resumeQueue` changes `recorder`, `ports`, `fns`, `ctls`, `out` only. -/
@[simp] theorem resumeQueue_frame (ctl : Nat) (q : Sq) (h : HaltRec) (action : Nat) (newHead : Nat) (s : State) :
    (resumeQueue ctl q h action newHead s).mode = s.mode ∧ (resumeQueue ctl q h action newHead s).power = s.power ∧ (resumeQueue ctl q h
    action newHead s).stop = s.stop ∧ (resumeQueue ctl q h action newHead s).cache = s.cache ∧ (resumeQueue ctl q h action newHead
    s).reads = s.reads ∧ (resumeQueue ctl q h action newHead s).decks = s.decks ∧ (resumeQueue ctl q h action newHead s).gauge = s.gauge
    ∧ (resumeQueue ctl q h action newHead s).vault = s.vault ∧ (resumeQueue ctl q h action newHead s).fabric = s.fabric ∧ (resumeQueue
    ctl q h action newHead s).sched = s.sched ∧ (resumeQueue ctl q h action newHead s).feats = s.feats ∧ (resumeQueue ctl q h action
    newHead s).members = s.members ∧ (resumeQueue ctl q h action newHead s).guard = s.guard ∧ (resumeQueue ctl q h action newHead
    s).trust = s.trust ∧ (resumeQueue ctl q h action newHead s).now = s.now ∧ (resumeQueue ctl q h action newHead s).freeCtr = s.freeCtr
    ∧ (resumeQueue ctl q h action newHead s).pending = s.pending := by
  simp only [resumeQueue]
  (repeat' split) <;> (first | rfl | simp)

/-- `doResume` changes `recorder`, `ports`, `fns`, `ctls`, `out` only. -/
@[simp] theorem doResume_frame (ref : CmdRef) (sqid : Nat) (skip : Bool) (s : State) :
    (doResume ref sqid skip s).mode = s.mode ∧ (doResume ref sqid skip s).power = s.power ∧ (doResume ref sqid skip s).stop = s.stop ∧
    (doResume ref sqid skip s).cache = s.cache ∧ (doResume ref sqid skip s).reads = s.reads ∧ (doResume ref sqid skip s).decks = s.decks
    ∧ (doResume ref sqid skip s).gauge = s.gauge ∧ (doResume ref sqid skip s).vault = s.vault ∧ (doResume ref sqid skip s).fabric =
    s.fabric ∧ (doResume ref sqid skip s).sched = s.sched ∧ (doResume ref sqid skip s).feats = s.feats ∧ (doResume ref sqid skip
    s).members = s.members ∧ (doResume ref sqid skip s).guard = s.guard ∧ (doResume ref sqid skip s).trust = s.trust ∧ (doResume ref
    sqid skip s).now = s.now ∧ (doResume ref sqid skip s).freeCtr = s.freeCtr ∧ (doResume ref sqid skip s).pending = s.pending := by
  simp only [doResume]
  (repeat' split) <;> (first | rfl | simp)

/-- `flushPba` changes `ports`, `fns`, `out` only. -/
@[simp] theorem flushPba_frame (fn : Nat) (s : State) :
    (flushPba fn s).mode = s.mode ∧ (flushPba fn s).power = s.power ∧ (flushPba fn s).stop = s.stop ∧ (flushPba fn s).recorder =
    s.recorder ∧ (flushPba fn s).ctls = s.ctls ∧ (flushPba fn s).cache = s.cache ∧ (flushPba fn s).reads = s.reads ∧ (flushPba fn
    s).decks = s.decks ∧ (flushPba fn s).gauge = s.gauge ∧ (flushPba fn s).vault = s.vault ∧ (flushPba fn s).fabric = s.fabric ∧
    (flushPba fn s).sched = s.sched ∧ (flushPba fn s).feats = s.feats ∧ (flushPba fn s).members = s.members ∧ (flushPba fn s).guard =
    s.guard ∧ (flushPba fn s).trust = s.trust ∧ (flushPba fn s).now = s.now ∧ (flushPba fn s).freeCtr = s.freeCtr ∧ (flushPba fn
    s).pending = s.pending := by
  simp only [flushPba]
  split <;> simp [-List.foldl_reverse]

/-- `maskVec` changes `ports`, `fns`, `out` only. -/
@[simp] theorem maskVec_frame (fn : Nat) (vec : Nat) (masked : Bool) (s : State) :
    (maskVec fn vec masked s).mode = s.mode ∧ (maskVec fn vec masked s).power = s.power ∧ (maskVec fn vec masked s).stop = s.stop ∧
    (maskVec fn vec masked s).recorder = s.recorder ∧ (maskVec fn vec masked s).ctls = s.ctls ∧ (maskVec fn vec masked s).cache =
    s.cache ∧ (maskVec fn vec masked s).reads = s.reads ∧ (maskVec fn vec masked s).decks = s.decks ∧ (maskVec fn vec masked s).gauge =
    s.gauge ∧ (maskVec fn vec masked s).vault = s.vault ∧ (maskVec fn vec masked s).fabric = s.fabric ∧ (maskVec fn vec masked s).sched
    = s.sched ∧ (maskVec fn vec masked s).feats = s.feats ∧ (maskVec fn vec masked s).members = s.members ∧ (maskVec fn vec masked
    s).guard = s.guard ∧ (maskVec fn vec masked s).trust = s.trust ∧ (maskVec fn vec masked s).now = s.now ∧ (maskVec fn vec masked
    s).freeCtr = s.freeCtr ∧ (maskVec fn vec masked s).pending = s.pending := by simp [maskVec]

/-- `bar4Write` changes `ports`, `fns`, `out` only. -/
@[simp] theorem bar4Write_frame (fn : Nat) (off : Nat) (v : BitVec 32) (s : State) :
    (bar4Write fn off v s).mode = s.mode ∧ (bar4Write fn off v s).power = s.power ∧ (bar4Write fn off v s).stop = s.stop ∧ (bar4Write fn
    off v s).recorder = s.recorder ∧ (bar4Write fn off v s).ctls = s.ctls ∧ (bar4Write fn off v s).cache = s.cache ∧ (bar4Write fn off v
    s).reads = s.reads ∧ (bar4Write fn off v s).decks = s.decks ∧ (bar4Write fn off v s).gauge = s.gauge ∧ (bar4Write fn off v s).vault
    = s.vault ∧ (bar4Write fn off v s).fabric = s.fabric ∧ (bar4Write fn off v s).sched = s.sched ∧ (bar4Write fn off v s).feats =
    s.feats ∧ (bar4Write fn off v s).members = s.members ∧ (bar4Write fn off v s).guard = s.guard ∧ (bar4Write fn off v s).trust =
    s.trust ∧ (bar4Write fn off v s).now = s.now ∧ (bar4Write fn off v s).freeCtr = s.freeCtr ∧ (bar4Write fn off v s).pending =
    s.pending := by simp [bar4Write]

/-- `headDoorbell` changes `mode`, `recorder`, `ports`, `fns`, `ctls`, `out` only. -/
@[simp] theorem headDoorbell_frame (ctl : Nat) (cqid : Nat) (value : Nat) (s : State) :
    (headDoorbell ctl cqid value s).power = s.power ∧ (headDoorbell ctl cqid value s).stop = s.stop ∧ (headDoorbell ctl cqid value
    s).cache = s.cache ∧ (headDoorbell ctl cqid value s).reads = s.reads ∧ (headDoorbell ctl cqid value s).decks = s.decks ∧
    (headDoorbell ctl cqid value s).gauge = s.gauge ∧ (headDoorbell ctl cqid value s).vault = s.vault ∧ (headDoorbell ctl cqid value
    s).fabric = s.fabric ∧ (headDoorbell ctl cqid value s).sched = s.sched ∧ (headDoorbell ctl cqid value s).feats = s.feats ∧
    (headDoorbell ctl cqid value s).members = s.members ∧ (headDoorbell ctl cqid value s).guard = s.guard ∧ (headDoorbell ctl cqid value
    s).trust = s.trust ∧ (headDoorbell ctl cqid value s).now = s.now ∧ (headDoorbell ctl cqid value s).freeCtr = s.freeCtr ∧
    (headDoorbell ctl cqid value s).pending = s.pending := by
  simp only [headDoorbell]
  (repeat' split) <;> (first | rfl | simp)

/-- `passTurn` changes `ctls` only. -/
@[simp] theorem passTurn_frame (ctl : Nat) (sqid : Nat) (n : Nat) (s : State) :
    (passTurn ctl sqid n s).mode = s.mode ∧ (passTurn ctl sqid n s).power = s.power ∧ (passTurn ctl sqid n s).stop = s.stop ∧ (passTurn
    ctl sqid n s).recorder = s.recorder ∧ (passTurn ctl sqid n s).ports = s.ports ∧ (passTurn ctl sqid n s).fns = s.fns ∧ (passTurn ctl
    sqid n s).cache = s.cache ∧ (passTurn ctl sqid n s).reads = s.reads ∧ (passTurn ctl sqid n s).decks = s.decks ∧ (passTurn ctl sqid n
    s).gauge = s.gauge ∧ (passTurn ctl sqid n s).vault = s.vault ∧ (passTurn ctl sqid n s).fabric = s.fabric ∧ (passTurn ctl sqid n
    s).sched = s.sched ∧ (passTurn ctl sqid n s).feats = s.feats ∧ (passTurn ctl sqid n s).members = s.members ∧ (passTurn ctl sqid n
    s).guard = s.guard ∧ (passTurn ctl sqid n s).trust = s.trust ∧ (passTurn ctl sqid n s).now = s.now ∧ (passTurn ctl sqid n s).freeCtr
    = s.freeCtr ∧ (passTurn ctl sqid n s).out = s.out ∧ (passTurn ctl sqid n s).pending = s.pending := by simp [passTurn]

/-- `moveQueues` changes `ctls` only. -/
@[simp] theorem moveQueues_frame (half : Nat) (s : State) :
    (moveQueues half s).mode = s.mode ∧ (moveQueues half s).power = s.power ∧ (moveQueues half s).stop = s.stop ∧ (moveQueues half
    s).recorder = s.recorder ∧ (moveQueues half s).ports = s.ports ∧ (moveQueues half s).fns = s.fns ∧ (moveQueues half s).cache =
    s.cache ∧ (moveQueues half s).reads = s.reads ∧ (moveQueues half s).decks = s.decks ∧ (moveQueues half s).gauge = s.gauge ∧
    (moveQueues half s).vault = s.vault ∧ (moveQueues half s).fabric = s.fabric ∧ (moveQueues half s).sched = s.sched ∧ (moveQueues half
    s).feats = s.feats ∧ (moveQueues half s).members = s.members ∧ (moveQueues half s).guard = s.guard ∧ (moveQueues half s).trust =
    s.trust ∧ (moveQueues half s).now = s.now ∧ (moveQueues half s).freeCtr = s.freeCtr ∧ (moveQueues half s).out = s.out ∧ (moveQueues
    half s).pending = s.pending := by simp [moveQueues]

/-- `abortAer` changes `ctls` only. -/
@[simp] theorem abortAer_frame (ctl : Nat) (cid : Nat) (s : State) :
    (abortAer ctl cid s).mode = s.mode ∧ (abortAer ctl cid s).power = s.power ∧ (abortAer ctl cid s).stop = s.stop ∧ (abortAer ctl cid
    s).recorder = s.recorder ∧ (abortAer ctl cid s).ports = s.ports ∧ (abortAer ctl cid s).fns = s.fns ∧ (abortAer ctl cid s).cache =
    s.cache ∧ (abortAer ctl cid s).reads = s.reads ∧ (abortAer ctl cid s).decks = s.decks ∧ (abortAer ctl cid s).gauge = s.gauge ∧
    (abortAer ctl cid s).vault = s.vault ∧ (abortAer ctl cid s).fabric = s.fabric ∧ (abortAer ctl cid s).sched = s.sched ∧ (abortAer ctl
    cid s).feats = s.feats ∧ (abortAer ctl cid s).members = s.members ∧ (abortAer ctl cid s).guard = s.guard ∧ (abortAer ctl cid
    s).trust = s.trust ∧ (abortAer ctl cid s).now = s.now ∧ (abortAer ctl cid s).freeCtr = s.freeCtr ∧ (abortAer ctl cid s).out = s.out
    ∧ (abortAer ctl cid s).pending = s.pending := by simp [abortAer]

/-- `controllerReset` changes `stop`, `recorder`, `ports`, `fns`, `ctls`, `cache`, `reads`, `decks`, `members`, `guard`, `trust`, `out` only. -/
@[simp] theorem controllerReset_frame (ctl : Nat) (s : State) :
    (controllerReset ctl s).mode = s.mode ∧ (controllerReset ctl s).power = s.power ∧ (controllerReset ctl s).gauge = s.gauge ∧
    (controllerReset ctl s).vault = s.vault ∧ (controllerReset ctl s).fabric = s.fabric ∧ (controllerReset ctl s).sched = s.sched ∧
    (controllerReset ctl s).feats = s.feats ∧ (controllerReset ctl s).now = s.now ∧ (controllerReset ctl s).freeCtr = s.freeCtr ∧
    (controllerReset ctl s).pending = s.pending := by simp [controllerReset]

/-- `postOldest` changes `ports`, `fns`, `ctls`, `out` only. -/
@[simp] theorem postOldest_frame (ctl : Nat) (sqid : Nat) (s : State) :
    (postOldest ctl sqid s).mode = s.mode ∧ (postOldest ctl sqid s).power = s.power ∧ (postOldest ctl sqid s).stop = s.stop ∧
    (postOldest ctl sqid s).recorder = s.recorder ∧ (postOldest ctl sqid s).cache = s.cache ∧ (postOldest ctl sqid s).reads = s.reads ∧
    (postOldest ctl sqid s).decks = s.decks ∧ (postOldest ctl sqid s).gauge = s.gauge ∧ (postOldest ctl sqid s).vault = s.vault ∧
    (postOldest ctl sqid s).fabric = s.fabric ∧ (postOldest ctl sqid s).sched = s.sched ∧ (postOldest ctl sqid s).feats = s.feats ∧
    (postOldest ctl sqid s).members = s.members ∧ (postOldest ctl sqid s).guard = s.guard ∧ (postOldest ctl sqid s).trust = s.trust ∧
    (postOldest ctl sqid s).now = s.now ∧ (postOldest ctl sqid s).freeCtr = s.freeCtr ∧ (postOldest ctl sqid s).pending = s.pending := by
  simp only [postOldest]
  (repeat' split) <;> (first | rfl | simp)

end Sys2Proof.Machine
end

