-- ==== Sys2Proof/Laws/Modes.lean ====
section
/-!
SUPPORT. The frames of the operations of Machine/Modes.lean: which units of the state each leaves alone.
-/

namespace Sys2Proof.Machine

/-- `disableCtl` changes `mode`, `stop`, `recorder`, `ports`, `fns`, `ctls`, `cache`, `reads`, `decks`, `members`, `guard`, `trust`, `out` only. -/
@[simp] theorem disableCtl_frame (ctl : Nat) (s : State) :
    (disableCtl ctl s).power = s.power ∧ (disableCtl ctl s).gauge = s.gauge ∧ (disableCtl ctl s).vault = s.vault ∧ (disableCtl ctl
    s).fabric = s.fabric ∧ (disableCtl ctl s).sched = s.sched ∧ (disableCtl ctl s).feats = s.feats ∧ (disableCtl ctl s).now = s.now ∧
    (disableCtl ctl s).freeCtr = s.freeCtr ∧ (disableCtl ctl s).pending = s.pending := by simp [disableCtl]

/-- `updateCritWarn` changes `mode`, `ports`, `fns`, `ctls`, `out` only. -/
@[simp] theorem updateCritWarn_frame (s : State) :
    (updateCritWarn s).power = s.power ∧ (updateCritWarn s).stop = s.stop ∧ (updateCritWarn s).recorder = s.recorder ∧ (updateCritWarn
    s).cache = s.cache ∧ (updateCritWarn s).reads = s.reads ∧ (updateCritWarn s).decks = s.decks ∧ (updateCritWarn s).gauge = s.gauge ∧
    (updateCritWarn s).vault = s.vault ∧ (updateCritWarn s).fabric = s.fabric ∧ (updateCritWarn s).sched = s.sched ∧ (updateCritWarn
    s).feats = s.feats ∧ (updateCritWarn s).members = s.members ∧ (updateCritWarn s).guard = s.guard ∧ (updateCritWarn s).trust =
    s.trust ∧ (updateCritWarn s).now = s.now ∧ (updateCritWarn s).freeCtr = s.freeCtr ∧ (updateCritWarn s).pending = s.pending := by simp [updateCritWarn]

/-- `maybeReleaseImage` changes `stop`, `vault`, `out` only. -/
@[simp] theorem maybeReleaseImage_frame (s : State) :
    (maybeReleaseImage s).mode = s.mode ∧ (maybeReleaseImage s).power = s.power ∧ (maybeReleaseImage s).recorder = s.recorder ∧
    (maybeReleaseImage s).ports = s.ports ∧ (maybeReleaseImage s).fns = s.fns ∧ (maybeReleaseImage s).ctls = s.ctls ∧ (maybeReleaseImage
    s).cache = s.cache ∧ (maybeReleaseImage s).reads = s.reads ∧ (maybeReleaseImage s).decks = s.decks ∧ (maybeReleaseImage s).gauge =
    s.gauge ∧ (maybeReleaseImage s).fabric = s.fabric ∧ (maybeReleaseImage s).sched = s.sched ∧ (maybeReleaseImage s).feats = s.feats ∧
    (maybeReleaseImage s).members = s.members ∧ (maybeReleaseImage s).guard = s.guard ∧ (maybeReleaseImage s).trust = s.trust ∧
    (maybeReleaseImage s).now = s.now ∧ (maybeReleaseImage s).freeCtr = s.freeCtr ∧ (maybeReleaseImage s).pending = s.pending := by simp [maybeReleaseImage]

/-- `leaveQuarantine` changes `mode`, `recorder` only. -/
@[simp] theorem leaveQuarantine_frame (no : Nat) (s : State) :
    (leaveQuarantine no s).power = s.power ∧ (leaveQuarantine no s).stop = s.stop ∧ (leaveQuarantine no s).ports = s.ports ∧
    (leaveQuarantine no s).fns = s.fns ∧ (leaveQuarantine no s).ctls = s.ctls ∧ (leaveQuarantine no s).cache = s.cache ∧
    (leaveQuarantine no s).reads = s.reads ∧ (leaveQuarantine no s).decks = s.decks ∧ (leaveQuarantine no s).gauge = s.gauge ∧
    (leaveQuarantine no s).vault = s.vault ∧ (leaveQuarantine no s).fabric = s.fabric ∧ (leaveQuarantine no s).sched = s.sched ∧
    (leaveQuarantine no s).feats = s.feats ∧ (leaveQuarantine no s).members = s.members ∧ (leaveQuarantine no s).guard = s.guard ∧
    (leaveQuarantine no s).trust = s.trust ∧ (leaveQuarantine no s).now = s.now ∧ (leaveQuarantine no s).freeCtr = s.freeCtr ∧
    (leaveQuarantine no s).out = s.out ∧ (leaveQuarantine no s).pending = s.pending := by simp [leaveQuarantine]

/-- `noteCauses` changes `mode` only. -/
@[simp] theorem noteCauses_frame (s : State) :
    (noteCauses s).power = s.power ∧ (noteCauses s).stop = s.stop ∧ (noteCauses s).recorder = s.recorder ∧ (noteCauses s).ports =
    s.ports ∧ (noteCauses s).fns = s.fns ∧ (noteCauses s).ctls = s.ctls ∧ (noteCauses s).cache = s.cache ∧ (noteCauses s).reads =
    s.reads ∧ (noteCauses s).decks = s.decks ∧ (noteCauses s).gauge = s.gauge ∧ (noteCauses s).vault = s.vault ∧ (noteCauses s).fabric =
    s.fabric ∧ (noteCauses s).sched = s.sched ∧ (noteCauses s).feats = s.feats ∧ (noteCauses s).members = s.members ∧ (noteCauses
    s).guard = s.guard ∧ (noteCauses s).trust = s.trust ∧ (noteCauses s).now = s.now ∧ (noteCauses s).freeCtr = s.freeCtr ∧ (noteCauses
    s).out = s.out ∧ (noteCauses s).pending = s.pending := by simp [noteCauses]

/-- `setReady` changes `ports`, `fns`, `ctls`, `out` only. -/
@[simp] theorem setReady_frame (s : State) :
    (setReady s).mode = s.mode ∧ (setReady s).power = s.power ∧ (setReady s).stop = s.stop ∧ (setReady s).recorder = s.recorder ∧
    (setReady s).cache = s.cache ∧ (setReady s).reads = s.reads ∧ (setReady s).decks = s.decks ∧ (setReady s).gauge = s.gauge ∧
    (setReady s).vault = s.vault ∧ (setReady s).fabric = s.fabric ∧ (setReady s).sched = s.sched ∧ (setReady s).feats = s.feats ∧
    (setReady s).members = s.members ∧ (setReady s).guard = s.guard ∧ (setReady s).trust = s.trust ∧ (setReady s).now = s.now ∧
    (setReady s).freeCtr = s.freeCtr ∧ (setReady s).pending = s.pending := by simp [setReady]

/-- `enterService` changes `mode`, `power`, `stop`, `recorder`, `ports`, `fns`, `ctls`, `cache`, `guard`, `out` only. -/
@[simp] theorem enterService_frame (noServe : Nat) (noConstr : Nat) (s : State) :
    (enterService noServe noConstr s).reads = s.reads ∧ (enterService noServe noConstr s).decks = s.decks ∧ (enterService noServe
    noConstr s).gauge = s.gauge ∧ (enterService noServe noConstr s).vault = s.vault ∧ (enterService noServe noConstr s).fabric =
    s.fabric ∧ (enterService noServe noConstr s).sched = s.sched ∧ (enterService noServe noConstr s).feats = s.feats ∧ (enterService
    noServe noConstr s).members = s.members ∧ (enterService noServe noConstr s).trust = s.trust ∧ (enterService noServe noConstr s).now
    = s.now ∧ (enterService noServe noConstr s).freeCtr = s.freeCtr ∧ (enterService noServe noConstr s).pending = s.pending := by simp [enterService]

/-- `constraintEval` changes `mode`, `stop`, `recorder`, `ports`, `fns`, `ctls`, `guard`, `out` only. -/
@[simp] theorem constraintEval_frame (s : State) :
    (constraintEval s).power = s.power ∧ (constraintEval s).cache = s.cache ∧ (constraintEval s).reads = s.reads ∧ (constraintEval
    s).decks = s.decks ∧ (constraintEval s).gauge = s.gauge ∧ (constraintEval s).vault = s.vault ∧ (constraintEval s).fabric = s.fabric
    ∧ (constraintEval s).sched = s.sched ∧ (constraintEval s).feats = s.feats ∧ (constraintEval s).members = s.members ∧ (constraintEval
    s).trust = s.trust ∧ (constraintEval s).now = s.now ∧ (constraintEval s).freeCtr = s.freeCtr ∧ (constraintEval s).pending =
    s.pending := by simp [constraintEval]

/-- `rejectWrites` changes `stop`, `ctls`, `cache`, `reads`, `decks`, `out` only. -/
@[simp] theorem rejectWrites_frame (s : State) :
    (rejectWrites s).mode = s.mode ∧ (rejectWrites s).power = s.power ∧ (rejectWrites s).recorder = s.recorder ∧ (rejectWrites s).ports
    = s.ports ∧ (rejectWrites s).fns = s.fns ∧ (rejectWrites s).gauge = s.gauge ∧ (rejectWrites s).vault = s.vault ∧ (rejectWrites
    s).fabric = s.fabric ∧ (rejectWrites s).sched = s.sched ∧ (rejectWrites s).feats = s.feats ∧ (rejectWrites s).members = s.members ∧
    (rejectWrites s).guard = s.guard ∧ (rejectWrites s).trust = s.trust ∧ (rejectWrites s).now = s.now ∧ (rejectWrites s).freeCtr =
    s.freeCtr ∧ (rejectWrites s).pending = s.pending := by
  simp only [rejectWrites]
  (repeat' split) <;> (first | rfl | simp (disch := (intros; (try dsimp only); (repeat' split) <;> (first | rfl | simp | skip))))

/-- `policyCheck` changes `stop`, `recorder`, `cache`, `out` only. -/
@[simp] theorem policyCheck_frame (s : State) :
    (policyCheck s).mode = s.mode ∧ (policyCheck s).power = s.power ∧ (policyCheck s).ports = s.ports ∧ (policyCheck s).fns = s.fns ∧
    (policyCheck s).ctls = s.ctls ∧ (policyCheck s).reads = s.reads ∧ (policyCheck s).decks = s.decks ∧ (policyCheck s).gauge = s.gauge
    ∧ (policyCheck s).vault = s.vault ∧ (policyCheck s).fabric = s.fabric ∧ (policyCheck s).sched = s.sched ∧ (policyCheck s).feats =
    s.feats ∧ (policyCheck s).members = s.members ∧ (policyCheck s).guard = s.guard ∧ (policyCheck s).trust = s.trust ∧ (policyCheck
    s).now = s.now ∧ (policyCheck s).freeCtr = s.freeCtr ∧ (policyCheck s).pending = s.pending := by simp [policyCheck]

/-- `enableCtl` changes `mode`, `stop`, `recorder`, `ports`, `fns`, `ctls`, `cache`, `out` only. -/
@[simp] theorem enableCtl_frame (ctl : Nat) (mps : Nat) (ams : Nat) (asqs : Nat) (acqs : Nat) (s : State) :
    (enableCtl ctl mps ams asqs acqs s).power = s.power ∧ (enableCtl ctl mps ams asqs acqs s).reads = s.reads ∧ (enableCtl ctl mps ams
    asqs acqs s).decks = s.decks ∧ (enableCtl ctl mps ams asqs acqs s).gauge = s.gauge ∧ (enableCtl ctl mps ams asqs acqs s).vault =
    s.vault ∧ (enableCtl ctl mps ams asqs acqs s).fabric = s.fabric ∧ (enableCtl ctl mps ams asqs acqs s).sched = s.sched ∧ (enableCtl
    ctl mps ams asqs acqs s).feats = s.feats ∧ (enableCtl ctl mps ams asqs acqs s).members = s.members ∧ (enableCtl ctl mps ams asqs
    acqs s).guard = s.guard ∧ (enableCtl ctl mps ams asqs acqs s).trust = s.trust ∧ (enableCtl ctl mps ams asqs acqs s).now = s.now ∧
    (enableCtl ctl mps ams asqs acqs s).freeCtr = s.freeCtr ∧ (enableCtl ctl mps ams asqs acqs s).pending = s.pending := by simp [enableCtl]

/-- `enterQuarantine` changes `mode`, `stop`, `recorder`, `ports`, `fns`, `ctls`, `cache`, `reads`, `decks`, `guard`, `out` only. -/
@[simp] theorem enterQuarantine_frame (no : Nat) (code : Nat) (detail : Nat) (s : State) :
    (enterQuarantine no code detail s).power = s.power ∧ (enterQuarantine no code detail s).gauge = s.gauge ∧ (enterQuarantine no code
    detail s).vault = s.vault ∧ (enterQuarantine no code detail s).fabric = s.fabric ∧ (enterQuarantine no code detail s).sched =
    s.sched ∧ (enterQuarantine no code detail s).feats = s.feats ∧ (enterQuarantine no code detail s).members = s.members ∧
    (enterQuarantine no code detail s).trust = s.trust ∧ (enterQuarantine no code detail s).now = s.now ∧ (enterQuarantine no code
    detail s).freeCtr = s.freeCtr ∧ (enterQuarantine no code detail s).pending = s.pending := by simp [enterQuarantine]

/-- `toWriteBack` changes `stop`, `recorder`, `cache`, `out` only. -/
@[simp] theorem toWriteBack_frame (s : State) :
    (toWriteBack s).mode = s.mode ∧ (toWriteBack s).power = s.power ∧ (toWriteBack s).ports = s.ports ∧ (toWriteBack s).fns = s.fns ∧
    (toWriteBack s).ctls = s.ctls ∧ (toWriteBack s).reads = s.reads ∧ (toWriteBack s).decks = s.decks ∧ (toWriteBack s).gauge = s.gauge
    ∧ (toWriteBack s).vault = s.vault ∧ (toWriteBack s).fabric = s.fabric ∧ (toWriteBack s).sched = s.sched ∧ (toWriteBack s).feats =
    s.feats ∧ (toWriteBack s).members = s.members ∧ (toWriteBack s).guard = s.guard ∧ (toWriteBack s).trust = s.trust ∧ (toWriteBack
    s).now = s.now ∧ (toWriteBack s).freeCtr = s.freeCtr ∧ (toWriteBack s).pending = s.pending := by simp [toWriteBack]

end Sys2Proof.Machine
end

