-- ==== Sys2Proof/Laws/Bar2.lean ====
section
/-!
SUPPORT. The frames of the operations of Machine/Bar2.lean: which units of the state each leaves alone.
-/

namespace Sys2Proof.Machine

/-- `rejectBar2` changes `recorder`, `ports`, `fns`, `ctls`, `out` only. -/
@[simp] theorem rejectBar2_frame (ctl : Nat) (win : Nat) (t : Bar2Tlp) (write : Bool) (s : State) :
    (rejectBar2 ctl win t write s).mode = s.mode ∧ (rejectBar2 ctl win t write s).power = s.power ∧ (rejectBar2 ctl win t write s).stop
    = s.stop ∧ (rejectBar2 ctl win t write s).cache = s.cache ∧ (rejectBar2 ctl win t write s).reads = s.reads ∧ (rejectBar2 ctl win t
    write s).decks = s.decks ∧ (rejectBar2 ctl win t write s).gauge = s.gauge ∧ (rejectBar2 ctl win t write s).vault = s.vault ∧
    (rejectBar2 ctl win t write s).fabric = s.fabric ∧ (rejectBar2 ctl win t write s).sched = s.sched ∧ (rejectBar2 ctl win t write
    s).feats = s.feats ∧ (rejectBar2 ctl win t write s).members = s.members ∧ (rejectBar2 ctl win t write s).guard = s.guard ∧
    (rejectBar2 ctl win t write s).trust = s.trust ∧ (rejectBar2 ctl win t write s).now = s.now ∧ (rejectBar2 ctl win t write s).freeCtr
    = s.freeCtr ∧ (rejectBar2 ctl win t write s).pending = s.pending := by simp [rejectBar2]

/-- `tryBar2` changes `recorder`, `ports`, `fns`, `ctls`, `cache`, `out` only. -/
theorem tryBar2_frame (ctl : Nat) (write : Bool) (tlp : Bar2Tlp) (s : State) (t : State) (h : tryBar2 ctl write tlp s = some t) :
    t.mode = s.mode ∧ t.power = s.power ∧ t.stop = s.stop ∧ t.reads = s.reads ∧ t.decks = s.decks ∧ t.gauge = s.gauge ∧ t.vault =
    s.vault ∧ t.fabric = s.fabric ∧ t.sched = s.sched ∧ t.feats = s.feats ∧ t.members = s.members ∧ t.guard = s.guard ∧ t.trust =
    s.trust ∧ t.now = s.now ∧ t.freeCtr = s.freeCtr ∧ t.pending = s.pending := by
  simp only [tryBar2] at h
  (repeat' split at h) <;> (first | (simp at h; done) | (simp at h; subst h; simp) | simp_all)

/-- `decodeAgain` changes `recorder`, `ports`, `fns`, `ctls`, `cache`, `out` only. -/
@[simp] theorem decodeAgain_frame (ctl : Nat) (t : Bool × Bar2Tlp) (s : State) :
    (decodeAgain ctl t s).mode = s.mode ∧ (decodeAgain ctl t s).power = s.power ∧ (decodeAgain ctl t s).stop = s.stop ∧ (decodeAgain ctl
    t s).reads = s.reads ∧ (decodeAgain ctl t s).decks = s.decks ∧ (decodeAgain ctl t s).gauge = s.gauge ∧ (decodeAgain ctl t s).vault =
    s.vault ∧ (decodeAgain ctl t s).fabric = s.fabric ∧ (decodeAgain ctl t s).sched = s.sched ∧ (decodeAgain ctl t s).feats = s.feats ∧
    (decodeAgain ctl t s).members = s.members ∧ (decodeAgain ctl t s).guard = s.guard ∧ (decodeAgain ctl t s).trust = s.trust ∧
    (decodeAgain ctl t s).now = s.now ∧ (decodeAgain ctl t s).freeCtr = s.freeCtr ∧ (decodeAgain ctl t s).pending = s.pending := by
  simp only [decodeAgain]
  cases h : tryBar2 ctl t.1 t.2 s with
  | none => simp
  | some r =>
    have hf := tryBar2_frame _ _ _ _ _ h
    simp_all

/-- `noteWait` changes `recorder`, `cache` only. -/
@[simp] theorem noteWait_frame (at_ : Nat × Nat) (s : State) :
    (noteWait at_ s).mode = s.mode ∧ (noteWait at_ s).power = s.power ∧ (noteWait at_ s).stop = s.stop ∧ (noteWait at_ s).ports =
    s.ports ∧ (noteWait at_ s).fns = s.fns ∧ (noteWait at_ s).ctls = s.ctls ∧ (noteWait at_ s).reads = s.reads ∧ (noteWait at_ s).decks
    = s.decks ∧ (noteWait at_ s).gauge = s.gauge ∧ (noteWait at_ s).vault = s.vault ∧ (noteWait at_ s).fabric = s.fabric ∧ (noteWait at_
    s).sched = s.sched ∧ (noteWait at_ s).feats = s.feats ∧ (noteWait at_ s).members = s.members ∧ (noteWait at_ s).guard = s.guard ∧
    (noteWait at_ s).trust = s.trust ∧ (noteWait at_ s).now = s.now ∧ (noteWait at_ s).freeCtr = s.freeCtr ∧ (noteWait at_ s).out =
    s.out ∧ (noteWait at_ s).pending = s.pending := by simp [noteWait]

/-- `stallBar2` changes `recorder`, `ctls`, `cache` only. -/
@[simp] theorem stallBar2_frame (ctl : Nat) (write : Bool) (t : Bar2Tlp) (s : State) :
    (stallBar2 ctl write t s).mode = s.mode ∧ (stallBar2 ctl write t s).power = s.power ∧ (stallBar2 ctl write t s).stop = s.stop ∧
    (stallBar2 ctl write t s).ports = s.ports ∧ (stallBar2 ctl write t s).fns = s.fns ∧ (stallBar2 ctl write t s).reads = s.reads ∧
    (stallBar2 ctl write t s).decks = s.decks ∧ (stallBar2 ctl write t s).gauge = s.gauge ∧ (stallBar2 ctl write t s).vault = s.vault ∧
    (stallBar2 ctl write t s).fabric = s.fabric ∧ (stallBar2 ctl write t s).sched = s.sched ∧ (stallBar2 ctl write t s).feats = s.feats
    ∧ (stallBar2 ctl write t s).members = s.members ∧ (stallBar2 ctl write t s).guard = s.guard ∧ (stallBar2 ctl write t s).trust =
    s.trust ∧ (stallBar2 ctl write t s).now = s.now ∧ (stallBar2 ctl write t s).freeCtr = s.freeCtr ∧ (stallBar2 ctl write t s).out =
    s.out ∧ (stallBar2 ctl write t s).pending = s.pending := by simp [stallBar2]

/-- `drainLate` changes `ctls`, `cache` only. -/
@[simp] theorem drainLate_frame (ctl : Nat) (s : State) :
    (drainLate ctl s).mode = s.mode ∧ (drainLate ctl s).power = s.power ∧ (drainLate ctl s).stop = s.stop ∧ (drainLate ctl s).recorder =
    s.recorder ∧ (drainLate ctl s).ports = s.ports ∧ (drainLate ctl s).fns = s.fns ∧ (drainLate ctl s).reads = s.reads ∧ (drainLate ctl
    s).decks = s.decks ∧ (drainLate ctl s).gauge = s.gauge ∧ (drainLate ctl s).vault = s.vault ∧ (drainLate ctl s).fabric = s.fabric ∧
    (drainLate ctl s).sched = s.sched ∧ (drainLate ctl s).feats = s.feats ∧ (drainLate ctl s).members = s.members ∧ (drainLate ctl
    s).guard = s.guard ∧ (drainLate ctl s).trust = s.trust ∧ (drainLate ctl s).now = s.now ∧ (drainLate ctl s).freeCtr = s.freeCtr ∧
    (drainLate ctl s).out = s.out ∧ (drainLate ctl s).pending = s.pending := by simp [drainLate]

/-- `runBar2` changes `recorder`, `ports`, `fns`, `ctls`, `cache`, `out` only. -/
@[simp] theorem runBar2_frame (ctl : Nat) (write : Bool) (t : Bar2Tlp) (s : State) :
    (runBar2 ctl write t s).mode = s.mode ∧ (runBar2 ctl write t s).power = s.power ∧ (runBar2 ctl write t s).stop = s.stop ∧ (runBar2
    ctl write t s).reads = s.reads ∧ (runBar2 ctl write t s).decks = s.decks ∧ (runBar2 ctl write t s).gauge = s.gauge ∧ (runBar2 ctl
    write t s).vault = s.vault ∧ (runBar2 ctl write t s).fabric = s.fabric ∧ (runBar2 ctl write t s).sched = s.sched ∧ (runBar2 ctl
    write t s).feats = s.feats ∧ (runBar2 ctl write t s).members = s.members ∧ (runBar2 ctl write t s).guard = s.guard ∧ (runBar2 ctl
    write t s).trust = s.trust ∧ (runBar2 ctl write t s).now = s.now ∧ (runBar2 ctl write t s).freeCtr = s.freeCtr ∧ (runBar2 ctl write
    t s).pending = s.pending := by
  simp only [runBar2]
  split
  · cases h : tryBar2 ctl write t (drainLate ctl s) with
    | none => simp
    | some r =>
      have hf := tryBar2_frame _ _ _ _ _ h
      simp_all
  · simp

/-- `drainStalled` changes `recorder`, `ports`, `fns`, `ctls`, `cache`, `out` only. -/
@[simp] theorem drainStalled_frame (ctl : Nat) (s : State) :
    (drainStalled ctl s).mode = s.mode ∧ (drainStalled ctl s).power = s.power ∧ (drainStalled ctl s).stop = s.stop ∧ (drainStalled ctl
    s).reads = s.reads ∧ (drainStalled ctl s).decks = s.decks ∧ (drainStalled ctl s).gauge = s.gauge ∧ (drainStalled ctl s).vault =
    s.vault ∧ (drainStalled ctl s).fabric = s.fabric ∧ (drainStalled ctl s).sched = s.sched ∧ (drainStalled ctl s).feats = s.feats ∧
    (drainStalled ctl s).members = s.members ∧ (drainStalled ctl s).guard = s.guard ∧ (drainStalled ctl s).trust = s.trust ∧
    (drainStalled ctl s).now = s.now ∧ (drainStalled ctl s).freeCtr = s.freeCtr ∧ (drainStalled ctl s).pending = s.pending := by simp [drainStalled]

/-- `retireInbound` changes `recorder`, `ports`, `fns`, `ctls`, `cache`, `out` only. -/
@[simp] theorem retireInbound_frame (ctl : Nat) (s : State) :
    (retireInbound ctl s).mode = s.mode ∧ (retireInbound ctl s).power = s.power ∧ (retireInbound ctl s).stop = s.stop ∧ (retireInbound
    ctl s).reads = s.reads ∧ (retireInbound ctl s).decks = s.decks ∧ (retireInbound ctl s).gauge = s.gauge ∧ (retireInbound ctl s).vault
    = s.vault ∧ (retireInbound ctl s).fabric = s.fabric ∧ (retireInbound ctl s).sched = s.sched ∧ (retireInbound ctl s).feats = s.feats
    ∧ (retireInbound ctl s).members = s.members ∧ (retireInbound ctl s).guard = s.guard ∧ (retireInbound ctl s).trust = s.trust ∧
    (retireInbound ctl s).now = s.now ∧ (retireInbound ctl s).freeCtr = s.freeCtr ∧ (retireInbound ctl s).pending = s.pending := by simp [retireInbound]

/-- `retryStalled` changes `recorder`, `ports`, `fns`, `ctls`, `cache`, `out` only. -/
@[simp] theorem retryStalled_frame (s : State) :
    (retryStalled s).mode = s.mode ∧ (retryStalled s).power = s.power ∧ (retryStalled s).stop = s.stop ∧ (retryStalled s).reads =
    s.reads ∧ (retryStalled s).decks = s.decks ∧ (retryStalled s).gauge = s.gauge ∧ (retryStalled s).vault = s.vault ∧ (retryStalled
    s).fabric = s.fabric ∧ (retryStalled s).sched = s.sched ∧ (retryStalled s).feats = s.feats ∧ (retryStalled s).members = s.members ∧
    (retryStalled s).guard = s.guard ∧ (retryStalled s).trust = s.trust ∧ (retryStalled s).now = s.now ∧ (retryStalled s).freeCtr =
    s.freeCtr ∧ (retryStalled s).pending = s.pending := by simp [retryStalled]

/-- `cmbmscWrite` changes `mode`, `recorder`, `ports`, `fns`, `ctls`, `cache`, `out` only. -/
@[simp] theorem cmbmscWrite_frame (ctl : Nat) (cre : Bool) (cmse : Bool) (cba : Nat) (s : State) :
    (cmbmscWrite ctl cre cmse cba s).power = s.power ∧ (cmbmscWrite ctl cre cmse cba s).stop = s.stop ∧ (cmbmscWrite ctl cre cmse cba
    s).reads = s.reads ∧ (cmbmscWrite ctl cre cmse cba s).decks = s.decks ∧ (cmbmscWrite ctl cre cmse cba s).gauge = s.gauge ∧
    (cmbmscWrite ctl cre cmse cba s).vault = s.vault ∧ (cmbmscWrite ctl cre cmse cba s).fabric = s.fabric ∧ (cmbmscWrite ctl cre cmse
    cba s).sched = s.sched ∧ (cmbmscWrite ctl cre cmse cba s).feats = s.feats ∧ (cmbmscWrite ctl cre cmse cba s).members = s.members ∧
    (cmbmscWrite ctl cre cmse cba s).guard = s.guard ∧ (cmbmscWrite ctl cre cmse cba s).trust = s.trust ∧ (cmbmscWrite ctl cre cmse cba
    s).now = s.now ∧ (cmbmscWrite ctl cre cmse cba s).freeCtr = s.freeCtr ∧ (cmbmscWrite ctl cre cmse cba s).pending = s.pending := by simp [cmbmscWrite]

/-- `applyWin` changes `recorder`, `ctls` only. -/
@[simp] theorem applyWin_frame (ctl : Nat) (win : Nat) (s : State) :
    (applyWin ctl win s).mode = s.mode ∧ (applyWin ctl win s).power = s.power ∧ (applyWin ctl win s).stop = s.stop ∧ (applyWin ctl win
    s).ports = s.ports ∧ (applyWin ctl win s).fns = s.fns ∧ (applyWin ctl win s).cache = s.cache ∧ (applyWin ctl win s).reads = s.reads
    ∧ (applyWin ctl win s).decks = s.decks ∧ (applyWin ctl win s).gauge = s.gauge ∧ (applyWin ctl win s).vault = s.vault ∧ (applyWin ctl
    win s).fabric = s.fabric ∧ (applyWin ctl win s).sched = s.sched ∧ (applyWin ctl win s).feats = s.feats ∧ (applyWin ctl win
    s).members = s.members ∧ (applyWin ctl win s).guard = s.guard ∧ (applyWin ctl win s).trust = s.trust ∧ (applyWin ctl win s).now =
    s.now ∧ (applyWin ctl win s).freeCtr = s.freeCtr ∧ (applyWin ctl win s).out = s.out ∧ (applyWin ctl win s).pending = s.pending := by simp [applyWin]

/-- `inboundBar2` changes `mode`, `recorder`, `ports`, `fns`, `ctls`, `cache`, `out` only. -/
@[simp] theorem inboundBar2_frame (write : Bool) (t : Bar2Tlp) (s : State) :
    (inboundBar2 write t s).power = s.power ∧ (inboundBar2 write t s).stop = s.stop ∧ (inboundBar2 write t s).reads = s.reads ∧
    (inboundBar2 write t s).decks = s.decks ∧ (inboundBar2 write t s).gauge = s.gauge ∧ (inboundBar2 write t s).vault = s.vault ∧
    (inboundBar2 write t s).fabric = s.fabric ∧ (inboundBar2 write t s).sched = s.sched ∧ (inboundBar2 write t s).feats = s.feats ∧
    (inboundBar2 write t s).members = s.members ∧ (inboundBar2 write t s).guard = s.guard ∧ (inboundBar2 write t s).trust = s.trust ∧
    (inboundBar2 write t s).now = s.now ∧ (inboundBar2 write t s).freeCtr = s.freeCtr ∧ (inboundBar2 write t s).pending = s.pending := by simp [inboundBar2]

end Sys2Proof.Machine
end

