-- ==== Sys2Proof/Laws/Gauge.lean ====
section
/-!
SUPPORT. The frames of the operations of Machine/Gauge.lean: which units of the state each leaves alone.
-/

namespace Sys2Proof.Machine

/-- `countGaugeLog` changes `gauge` only. -/
@[simp] theorem countGaugeLog_frame (s : State) :
    (countGaugeLog s).mode = s.mode ∧ (countGaugeLog s).power = s.power ∧ (countGaugeLog s).stop = s.stop ∧ (countGaugeLog s).recorder =
    s.recorder ∧ (countGaugeLog s).ports = s.ports ∧ (countGaugeLog s).fns = s.fns ∧ (countGaugeLog s).ctls = s.ctls ∧ (countGaugeLog
    s).cache = s.cache ∧ (countGaugeLog s).reads = s.reads ∧ (countGaugeLog s).decks = s.decks ∧ (countGaugeLog s).vault = s.vault ∧
    (countGaugeLog s).fabric = s.fabric ∧ (countGaugeLog s).sched = s.sched ∧ (countGaugeLog s).feats = s.feats ∧ (countGaugeLog
    s).members = s.members ∧ (countGaugeLog s).guard = s.guard ∧ (countGaugeLog s).trust = s.trust ∧ (countGaugeLog s).now = s.now ∧
    (countGaugeLog s).freeCtr = s.freeCtr ∧ (countGaugeLog s).out = s.out ∧ (countGaugeLog s).pending = s.pending := by simp [countGaugeLog]

/-- `setHoldup` changes `mode`, `stop`, `recorder`, `ports`, `fns`, `ctls`, `cache`, `gauge`, `vault`, `out` only. -/
@[simp] theorem setHoldup_frame (limit : Nat) (s : State) :
    (setHoldup limit s).power = s.power ∧ (setHoldup limit s).reads = s.reads ∧ (setHoldup limit s).decks = s.decks ∧ (setHoldup limit
    s).fabric = s.fabric ∧ (setHoldup limit s).sched = s.sched ∧ (setHoldup limit s).feats = s.feats ∧ (setHoldup limit s).members =
    s.members ∧ (setHoldup limit s).guard = s.guard ∧ (setHoldup limit s).trust = s.trust ∧ (setHoldup limit s).now = s.now ∧ (setHoldup
    limit s).freeCtr = s.freeCtr ∧ (setHoldup limit s).pending = s.pending := by simp [setHoldup]

/-- `dropHoldup` changes `mode`, `stop`, `recorder`, `ports`, `fns`, `ctls`, `cache`, `gauge`, `vault`, `out` only. -/
@[simp] theorem dropHoldup_frame (s : State) :
    (dropHoldup s).power = s.power ∧ (dropHoldup s).reads = s.reads ∧ (dropHoldup s).decks = s.decks ∧ (dropHoldup s).fabric = s.fabric
    ∧ (dropHoldup s).sched = s.sched ∧ (dropHoldup s).feats = s.feats ∧ (dropHoldup s).members = s.members ∧ (dropHoldup s).guard =
    s.guard ∧ (dropHoldup s).trust = s.trust ∧ (dropHoldup s).now = s.now ∧ (dropHoldup s).freeCtr = s.freeCtr ∧ (dropHoldup s).pending
    = s.pending := by simp [dropHoldup]

/-- `dropVaultChannel` changes `mode`, `stop`, `recorder`, `ports`, `fns`, `ctls`, `cache`, `gauge`, `vault`, `freeCtr`, `out` only. -/
@[simp] theorem dropVaultChannel_frame (ch : Nat) (s : State) :
    (dropVaultChannel ch s).power = s.power ∧ (dropVaultChannel ch s).reads = s.reads ∧ (dropVaultChannel ch s).decks = s.decks ∧
    (dropVaultChannel ch s).fabric = s.fabric ∧ (dropVaultChannel ch s).sched = s.sched ∧ (dropVaultChannel ch s).feats = s.feats ∧
    (dropVaultChannel ch s).members = s.members ∧ (dropVaultChannel ch s).guard = s.guard ∧ (dropVaultChannel ch s).trust = s.trust ∧
    (dropVaultChannel ch s).now = s.now ∧ (dropVaultChannel ch s).pending = s.pending := by simp [dropVaultChannel]

/-- `identifyPack` changes `recorder`, `gauge` only. -/
@[simp] theorem identifyPack_frame (s : State) :
    (identifyPack s).mode = s.mode ∧ (identifyPack s).power = s.power ∧ (identifyPack s).stop = s.stop ∧ (identifyPack s).ports =
    s.ports ∧ (identifyPack s).fns = s.fns ∧ (identifyPack s).ctls = s.ctls ∧ (identifyPack s).cache = s.cache ∧ (identifyPack s).reads
    = s.reads ∧ (identifyPack s).decks = s.decks ∧ (identifyPack s).vault = s.vault ∧ (identifyPack s).fabric = s.fabric ∧ (identifyPack
    s).sched = s.sched ∧ (identifyPack s).feats = s.feats ∧ (identifyPack s).members = s.members ∧ (identifyPack s).guard = s.guard ∧
    (identifyPack s).trust = s.trust ∧ (identifyPack s).now = s.now ∧ (identifyPack s).freeCtr = s.freeCtr ∧ (identifyPack s).out =
    s.out ∧ (identifyPack s).pending = s.pending := by simp [identifyPack]

/-- `noteSoc` changes `gauge` only. -/
@[simp] theorem noteSoc_frame (s : State) :
    (noteSoc s).mode = s.mode ∧ (noteSoc s).power = s.power ∧ (noteSoc s).stop = s.stop ∧ (noteSoc s).recorder = s.recorder ∧ (noteSoc
    s).ports = s.ports ∧ (noteSoc s).fns = s.fns ∧ (noteSoc s).ctls = s.ctls ∧ (noteSoc s).cache = s.cache ∧ (noteSoc s).reads = s.reads
    ∧ (noteSoc s).decks = s.decks ∧ (noteSoc s).vault = s.vault ∧ (noteSoc s).fabric = s.fabric ∧ (noteSoc s).sched = s.sched ∧ (noteSoc
    s).feats = s.feats ∧ (noteSoc s).members = s.members ∧ (noteSoc s).guard = s.guard ∧ (noteSoc s).trust = s.trust ∧ (noteSoc s).now =
    s.now ∧ (noteSoc s).freeCtr = s.freeCtr ∧ (noteSoc s).out = s.out ∧ (noteSoc s).pending = s.pending := by simp [noteSoc]

/-- `startGauge` changes `recorder`, `gauge` only. -/
@[simp] theorem startGauge_frame (s : State) :
    (startGauge s).mode = s.mode ∧ (startGauge s).power = s.power ∧ (startGauge s).stop = s.stop ∧ (startGauge s).ports = s.ports ∧
    (startGauge s).fns = s.fns ∧ (startGauge s).ctls = s.ctls ∧ (startGauge s).cache = s.cache ∧ (startGauge s).reads = s.reads ∧
    (startGauge s).decks = s.decks ∧ (startGauge s).vault = s.vault ∧ (startGauge s).fabric = s.fabric ∧ (startGauge s).sched = s.sched
    ∧ (startGauge s).feats = s.feats ∧ (startGauge s).members = s.members ∧ (startGauge s).guard = s.guard ∧ (startGauge s).trust =
    s.trust ∧ (startGauge s).now = s.now ∧ (startGauge s).freeCtr = s.freeCtr ∧ (startGauge s).out = s.out ∧ (startGauge s).pending =
    s.pending := by
  simp only [startGauge]
  (repeat' split) <;> (first | rfl | simp)

/-- `writeSlot` changes `gauge`, `out` only. -/
@[simp] theorem writeSlot_frame (ok : Bool) (s : State) :
    (writeSlot ok s).mode = s.mode ∧ (writeSlot ok s).power = s.power ∧ (writeSlot ok s).stop = s.stop ∧ (writeSlot ok s).recorder =
    s.recorder ∧ (writeSlot ok s).ports = s.ports ∧ (writeSlot ok s).fns = s.fns ∧ (writeSlot ok s).ctls = s.ctls ∧ (writeSlot ok
    s).cache = s.cache ∧ (writeSlot ok s).reads = s.reads ∧ (writeSlot ok s).decks = s.decks ∧ (writeSlot ok s).vault = s.vault ∧
    (writeSlot ok s).fabric = s.fabric ∧ (writeSlot ok s).sched = s.sched ∧ (writeSlot ok s).feats = s.feats ∧ (writeSlot ok s).members
    = s.members ∧ (writeSlot ok s).guard = s.guard ∧ (writeSlot ok s).trust = s.trust ∧ (writeSlot ok s).now = s.now ∧ (writeSlot ok
    s).freeCtr = s.freeCtr ∧ (writeSlot ok s).pending = s.pending := by
  simp only [writeSlot]
  (repeat' split) <;> (first | rfl | simp)

/-- `judgePack` changes `recorder`, `gauge`, `out` only. -/
@[simp] theorem judgePack_frame (code : Nat) (socV : Frac) (s : State) :
    (judgePack code socV s).mode = s.mode ∧ (judgePack code socV s).power = s.power ∧ (judgePack code socV s).stop = s.stop ∧ (judgePack
    code socV s).ports = s.ports ∧ (judgePack code socV s).fns = s.fns ∧ (judgePack code socV s).ctls = s.ctls ∧ (judgePack code socV
    s).cache = s.cache ∧ (judgePack code socV s).reads = s.reads ∧ (judgePack code socV s).decks = s.decks ∧ (judgePack code socV
    s).vault = s.vault ∧ (judgePack code socV s).fabric = s.fabric ∧ (judgePack code socV s).sched = s.sched ∧ (judgePack code socV
    s).feats = s.feats ∧ (judgePack code socV s).members = s.members ∧ (judgePack code socV s).guard = s.guard ∧ (judgePack code socV
    s).trust = s.trust ∧ (judgePack code socV s).now = s.now ∧ (judgePack code socV s).freeCtr = s.freeCtr ∧ (judgePack code socV
    s).pending = s.pending := by simp [judgePack]

/-- `dropLearning` changes `power`, `recorder`, `gauge` only. -/
@[simp] theorem dropLearning_frame (s : State) :
    (dropLearning s).mode = s.mode ∧ (dropLearning s).stop = s.stop ∧ (dropLearning s).ports = s.ports ∧ (dropLearning s).fns = s.fns ∧
    (dropLearning s).ctls = s.ctls ∧ (dropLearning s).cache = s.cache ∧ (dropLearning s).reads = s.reads ∧ (dropLearning s).decks =
    s.decks ∧ (dropLearning s).vault = s.vault ∧ (dropLearning s).fabric = s.fabric ∧ (dropLearning s).sched = s.sched ∧ (dropLearning
    s).feats = s.feats ∧ (dropLearning s).members = s.members ∧ (dropLearning s).guard = s.guard ∧ (dropLearning s).trust = s.trust ∧
    (dropLearning s).now = s.now ∧ (dropLearning s).freeCtr = s.freeCtr ∧ (dropLearning s).out = s.out ∧ (dropLearning s).pending =
    s.pending := by simp [dropLearning]

/-- `chargeRule` changes `power` only. -/
@[simp] theorem chargeRule_frame (s : State) :
    (chargeRule s).mode = s.mode ∧ (chargeRule s).stop = s.stop ∧ (chargeRule s).recorder = s.recorder ∧ (chargeRule s).ports = s.ports
    ∧ (chargeRule s).fns = s.fns ∧ (chargeRule s).ctls = s.ctls ∧ (chargeRule s).cache = s.cache ∧ (chargeRule s).reads = s.reads ∧
    (chargeRule s).decks = s.decks ∧ (chargeRule s).gauge = s.gauge ∧ (chargeRule s).vault = s.vault ∧ (chargeRule s).fabric = s.fabric
    ∧ (chargeRule s).sched = s.sched ∧ (chargeRule s).feats = s.feats ∧ (chargeRule s).members = s.members ∧ (chargeRule s).guard =
    s.guard ∧ (chargeRule s).trust = s.trust ∧ (chargeRule s).now = s.now ∧ (chargeRule s).freeCtr = s.freeCtr ∧ (chargeRule s).out =
    s.out ∧ (chargeRule s).pending = s.pending := by simp [chargeRule]

/-- `endLearning` changes `power`, `recorder`, `gauge`, `out` only. -/
@[simp] theorem endLearning_frame (outcome : Nat) (g : Gauge) (s : State) :
    (endLearning outcome g s).mode = s.mode ∧ (endLearning outcome g s).stop = s.stop ∧ (endLearning outcome g s).ports = s.ports ∧
    (endLearning outcome g s).fns = s.fns ∧ (endLearning outcome g s).ctls = s.ctls ∧ (endLearning outcome g s).cache = s.cache ∧
    (endLearning outcome g s).reads = s.reads ∧ (endLearning outcome g s).decks = s.decks ∧ (endLearning outcome g s).vault = s.vault ∧
    (endLearning outcome g s).fabric = s.fabric ∧ (endLearning outcome g s).sched = s.sched ∧ (endLearning outcome g s).feats = s.feats
    ∧ (endLearning outcome g s).members = s.members ∧ (endLearning outcome g s).guard = s.guard ∧ (endLearning outcome g s).trust =
    s.trust ∧ (endLearning outcome g s).now = s.now ∧ (endLearning outcome g s).freeCtr = s.freeCtr ∧ (endLearning outcome g s).pending
    = s.pending := by simp [endLearning]

/-- `voltageRule` changes `recorder`, `gauge` only. -/
@[simp] theorem voltageRule_frame (upper : Frac) (socV : Frac) (s : State) :
    (voltageRule upper socV s).mode = s.mode ∧ (voltageRule upper socV s).power = s.power ∧ (voltageRule upper socV s).stop = s.stop ∧
    (voltageRule upper socV s).ports = s.ports ∧ (voltageRule upper socV s).fns = s.fns ∧ (voltageRule upper socV s).ctls = s.ctls ∧
    (voltageRule upper socV s).cache = s.cache ∧ (voltageRule upper socV s).reads = s.reads ∧ (voltageRule upper socV s).decks = s.decks
    ∧ (voltageRule upper socV s).vault = s.vault ∧ (voltageRule upper socV s).fabric = s.fabric ∧ (voltageRule upper socV s).sched =
    s.sched ∧ (voltageRule upper socV s).feats = s.feats ∧ (voltageRule upper socV s).members = s.members ∧ (voltageRule upper socV
    s).guard = s.guard ∧ (voltageRule upper socV s).trust = s.trust ∧ (voltageRule upper socV s).now = s.now ∧ (voltageRule upper socV
    s).freeCtr = s.freeCtr ∧ (voltageRule upper socV s).out = s.out ∧ (voltageRule upper socV s).pending = s.pending := by simp [voltageRule]

/-- `removePack` changes `mode`, `power`, `stop`, `recorder`, `ports`, `fns`, `ctls`, `cache`, `gauge`, `vault`, `freeCtr`, `out` only. -/
@[simp] theorem removePack_frame (s : State) :
    (removePack s).reads = s.reads ∧ (removePack s).decks = s.decks ∧ (removePack s).fabric = s.fabric ∧ (removePack s).sched = s.sched
    ∧ (removePack s).feats = s.feats ∧ (removePack s).members = s.members ∧ (removePack s).guard = s.guard ∧ (removePack s).trust =
    s.trust ∧ (removePack s).now = s.now ∧ (removePack s).pending = s.pending := by simp [removePack]

/-- `countFromV` changes `gauge` only. -/
@[simp] theorem countFromV_frame (s : State) :
    (countFromV s).mode = s.mode ∧ (countFromV s).power = s.power ∧ (countFromV s).stop = s.stop ∧ (countFromV s).recorder = s.recorder
    ∧ (countFromV s).ports = s.ports ∧ (countFromV s).fns = s.fns ∧ (countFromV s).ctls = s.ctls ∧ (countFromV s).cache = s.cache ∧
    (countFromV s).reads = s.reads ∧ (countFromV s).decks = s.decks ∧ (countFromV s).vault = s.vault ∧ (countFromV s).fabric = s.fabric
    ∧ (countFromV s).sched = s.sched ∧ (countFromV s).feats = s.feats ∧ (countFromV s).members = s.members ∧ (countFromV s).guard =
    s.guard ∧ (countFromV s).trust = s.trust ∧ (countFromV s).now = s.now ∧ (countFromV s).freeCtr = s.freeCtr ∧ (countFromV s).out =
    s.out ∧ (countFromV s).pending = s.pending := by simp [countFromV]

/-- `sentinelLost` changes `mode`, `power`, `stop`, `recorder`, `ports`, `fns`, `ctls`, `cache`, `gauge`, `vault`, `freeCtr`, `out` only. -/
@[simp] theorem sentinelLost_frame (s : State) :
    (sentinelLost s).reads = s.reads ∧ (sentinelLost s).decks = s.decks ∧ (sentinelLost s).fabric = s.fabric ∧ (sentinelLost s).sched =
    s.sched ∧ (sentinelLost s).feats = s.feats ∧ (sentinelLost s).members = s.members ∧ (sentinelLost s).guard = s.guard ∧ (sentinelLost
    s).trust = s.trust ∧ (sentinelLost s).now = s.now ∧ (sentinelLost s).pending = s.pending := by simp [sentinelLost]

/-- `learnRule` changes `power`, `recorder`, `gauge`, `out` only. -/
@[simp] theorem learnRule_frame (s : State) :
    (learnRule s).mode = s.mode ∧ (learnRule s).stop = s.stop ∧ (learnRule s).ports = s.ports ∧ (learnRule s).fns = s.fns ∧ (learnRule
    s).ctls = s.ctls ∧ (learnRule s).cache = s.cache ∧ (learnRule s).reads = s.reads ∧ (learnRule s).decks = s.decks ∧ (learnRule
    s).vault = s.vault ∧ (learnRule s).fabric = s.fabric ∧ (learnRule s).sched = s.sched ∧ (learnRule s).feats = s.feats ∧ (learnRule
    s).members = s.members ∧ (learnRule s).guard = s.guard ∧ (learnRule s).trust = s.trust ∧ (learnRule s).now = s.now ∧ (learnRule
    s).freeCtr = s.freeCtr ∧ (learnRule s).pending = s.pending := by simp [learnRule]

end Sys2Proof.Machine
end

