-- ==== Sys2Proof/Laws/Decks.lean ====
section
/-!
SUPPORT. The frames of the operations of Machine/Decks.lean: which units of the state each leaves alone.
-/

namespace Sys2Proof.Machine

/-- `writeLabelTo` changes `members`, `out` only. -/
@[simp] theorem writeLabelTo_frame (l : DeckLabel) (copy : Nat) (mem : Nat) (e : MemberEntry) (s : State) :
    (writeLabelTo l copy mem e s).mode = s.mode ∧ (writeLabelTo l copy mem e s).power = s.power ∧ (writeLabelTo l copy mem e s).stop =
    s.stop ∧ (writeLabelTo l copy mem e s).recorder = s.recorder ∧ (writeLabelTo l copy mem e s).ports = s.ports ∧ (writeLabelTo l copy
    mem e s).fns = s.fns ∧ (writeLabelTo l copy mem e s).ctls = s.ctls ∧ (writeLabelTo l copy mem e s).cache = s.cache ∧ (writeLabelTo l
    copy mem e s).reads = s.reads ∧ (writeLabelTo l copy mem e s).decks = s.decks ∧ (writeLabelTo l copy mem e s).gauge = s.gauge ∧
    (writeLabelTo l copy mem e s).vault = s.vault ∧ (writeLabelTo l copy mem e s).fabric = s.fabric ∧ (writeLabelTo l copy mem e
    s).sched = s.sched ∧ (writeLabelTo l copy mem e s).feats = s.feats ∧ (writeLabelTo l copy mem e s).guard = s.guard ∧ (writeLabelTo l
    copy mem e s).trust = s.trust ∧ (writeLabelTo l copy mem e s).now = s.now ∧ (writeLabelTo l copy mem e s).freeCtr = s.freeCtr ∧
    (writeLabelTo l copy mem e s).pending = s.pending := by
  simp only [writeLabelTo]
  (repeat' split) <;> (first | rfl | simp)

/-- `writePasses` changes `members`, `out` only. -/
@[simp] theorem writePasses_frame (copies : List Nat) (l : DeckLabel) (s : State) :
    (writePasses copies l s).mode = s.mode ∧ (writePasses copies l s).power = s.power ∧ (writePasses copies l s).stop = s.stop ∧
    (writePasses copies l s).recorder = s.recorder ∧ (writePasses copies l s).ports = s.ports ∧ (writePasses copies l s).fns = s.fns ∧
    (writePasses copies l s).ctls = s.ctls ∧ (writePasses copies l s).cache = s.cache ∧ (writePasses copies l s).reads = s.reads ∧
    (writePasses copies l s).decks = s.decks ∧ (writePasses copies l s).gauge = s.gauge ∧ (writePasses copies l s).vault = s.vault ∧
    (writePasses copies l s).fabric = s.fabric ∧ (writePasses copies l s).sched = s.sched ∧ (writePasses copies l s).feats = s.feats ∧
    (writePasses copies l s).guard = s.guard ∧ (writePasses copies l s).trust = s.trust ∧ (writePasses copies l s).now = s.now ∧
    (writePasses copies l s).freeCtr = s.freeCtr ∧ (writePasses copies l s).pending = s.pending := by
  simp only [writePasses]
  (repeat' split) <;> (first | rfl | simp (disch := (intros; (try dsimp only); (repeat' split) <;> (first | rfl | simp (disch := (intros; (try dsimp only); (repeat' split) <;> (first | rfl | simp | skip))) | skip))))

/-- `writeLabels` changes `members`, `out` only. -/
@[simp] theorem writeLabels_frame (l : DeckLabel) (s : State) :
    (writeLabels l s).mode = s.mode ∧ (writeLabels l s).power = s.power ∧ (writeLabels l s).stop = s.stop ∧ (writeLabels l s).recorder =
    s.recorder ∧ (writeLabels l s).ports = s.ports ∧ (writeLabels l s).fns = s.fns ∧ (writeLabels l s).ctls = s.ctls ∧ (writeLabels l
    s).cache = s.cache ∧ (writeLabels l s).reads = s.reads ∧ (writeLabels l s).decks = s.decks ∧ (writeLabels l s).gauge = s.gauge ∧
    (writeLabels l s).vault = s.vault ∧ (writeLabels l s).fabric = s.fabric ∧ (writeLabels l s).sched = s.sched ∧ (writeLabels l
    s).feats = s.feats ∧ (writeLabels l s).guard = s.guard ∧ (writeLabels l s).trust = s.trust ∧ (writeLabels l s).now = s.now ∧
    (writeLabels l s).freeCtr = s.freeCtr ∧ (writeLabels l s).pending = s.pending := by simp [writeLabels]

/-- `labelUpdateWith` changes `decks`, `members`, `out` only. -/
@[simp] theorem labelUpdateWith_frame (id : Nat) (fails : Deck → List FailEntry) (s : State) :
    (labelUpdateWith id fails s).mode = s.mode ∧ (labelUpdateWith id fails s).power = s.power ∧ (labelUpdateWith id fails s).stop =
    s.stop ∧ (labelUpdateWith id fails s).recorder = s.recorder ∧ (labelUpdateWith id fails s).ports = s.ports ∧ (labelUpdateWith id
    fails s).fns = s.fns ∧ (labelUpdateWith id fails s).ctls = s.ctls ∧ (labelUpdateWith id fails s).cache = s.cache ∧ (labelUpdateWith
    id fails s).reads = s.reads ∧ (labelUpdateWith id fails s).gauge = s.gauge ∧ (labelUpdateWith id fails s).vault = s.vault ∧
    (labelUpdateWith id fails s).fabric = s.fabric ∧ (labelUpdateWith id fails s).sched = s.sched ∧ (labelUpdateWith id fails s).feats =
    s.feats ∧ (labelUpdateWith id fails s).guard = s.guard ∧ (labelUpdateWith id fails s).trust = s.trust ∧ (labelUpdateWith id fails
    s).now = s.now ∧ (labelUpdateWith id fails s).freeCtr = s.freeCtr ∧ (labelUpdateWith id fails s).pending = s.pending := by
  simp only [labelUpdateWith]
  (repeat' split) <;> (first | rfl | simp)

/-- `labelUpdate` changes `decks`, `members`, `out` only. -/
@[simp] theorem labelUpdate_frame (id : Nat) (s : State) :
    (labelUpdate id s).mode = s.mode ∧ (labelUpdate id s).power = s.power ∧ (labelUpdate id s).stop = s.stop ∧ (labelUpdate id
    s).recorder = s.recorder ∧ (labelUpdate id s).ports = s.ports ∧ (labelUpdate id s).fns = s.fns ∧ (labelUpdate id s).ctls = s.ctls ∧
    (labelUpdate id s).cache = s.cache ∧ (labelUpdate id s).reads = s.reads ∧ (labelUpdate id s).gauge = s.gauge ∧ (labelUpdate id
    s).vault = s.vault ∧ (labelUpdate id s).fabric = s.fabric ∧ (labelUpdate id s).sched = s.sched ∧ (labelUpdate id s).feats = s.feats
    ∧ (labelUpdate id s).guard = s.guard ∧ (labelUpdate id s).trust = s.trust ∧ (labelUpdate id s).now = s.now ∧ (labelUpdate id
    s).freeCtr = s.freeCtr ∧ (labelUpdate id s).pending = s.pending := by simp [labelUpdate]

/-- `relabel` changes `decks`, `members`, `out` only. -/
@[simp] theorem relabel_frame (id : Nat) (f : DeckLabel → DeckLabel) (s : State) :
    (relabel id f s).mode = s.mode ∧ (relabel id f s).power = s.power ∧ (relabel id f s).stop = s.stop ∧ (relabel id f s).recorder =
    s.recorder ∧ (relabel id f s).ports = s.ports ∧ (relabel id f s).fns = s.fns ∧ (relabel id f s).ctls = s.ctls ∧ (relabel id f
    s).cache = s.cache ∧ (relabel id f s).reads = s.reads ∧ (relabel id f s).gauge = s.gauge ∧ (relabel id f s).vault = s.vault ∧
    (relabel id f s).fabric = s.fabric ∧ (relabel id f s).sched = s.sched ∧ (relabel id f s).feats = s.feats ∧ (relabel id f s).guard =
    s.guard ∧ (relabel id f s).trust = s.trust ∧ (relabel id f s).now = s.now ∧ (relabel id f s).freeCtr = s.freeCtr ∧ (relabel id f
    s).pending = s.pending := by simp [relabel]

/-- `clearCleanStop` changes `decks`, `members`, `out` only. -/
@[simp] theorem clearCleanStop_frame (id : Nat) (s : State) :
    (clearCleanStop id s).mode = s.mode ∧ (clearCleanStop id s).power = s.power ∧ (clearCleanStop id s).stop = s.stop ∧ (clearCleanStop
    id s).recorder = s.recorder ∧ (clearCleanStop id s).ports = s.ports ∧ (clearCleanStop id s).fns = s.fns ∧ (clearCleanStop id s).ctls
    = s.ctls ∧ (clearCleanStop id s).cache = s.cache ∧ (clearCleanStop id s).reads = s.reads ∧ (clearCleanStop id s).gauge = s.gauge ∧
    (clearCleanStop id s).vault = s.vault ∧ (clearCleanStop id s).fabric = s.fabric ∧ (clearCleanStop id s).sched = s.sched ∧
    (clearCleanStop id s).feats = s.feats ∧ (clearCleanStop id s).guard = s.guard ∧ (clearCleanStop id s).trust = s.trust ∧
    (clearCleanStop id s).now = s.now ∧ (clearCleanStop id s).freeCtr = s.freeCtr ∧ (clearCleanStop id s).pending = s.pending := by
  simp only [clearCleanStop]
  (repeat' split) <;> (first | rfl | simp)

/-- `emitDealloc` changes `members`, `out` only. -/
@[simp] theorem emitDealloc_frame (x : Nat) (s : State) :
    (emitDealloc x s).mode = s.mode ∧ (emitDealloc x s).power = s.power ∧ (emitDealloc x s).stop = s.stop ∧ (emitDealloc x s).recorder =
    s.recorder ∧ (emitDealloc x s).ports = s.ports ∧ (emitDealloc x s).fns = s.fns ∧ (emitDealloc x s).ctls = s.ctls ∧ (emitDealloc x
    s).cache = s.cache ∧ (emitDealloc x s).reads = s.reads ∧ (emitDealloc x s).decks = s.decks ∧ (emitDealloc x s).gauge = s.gauge ∧
    (emitDealloc x s).vault = s.vault ∧ (emitDealloc x s).fabric = s.fabric ∧ (emitDealloc x s).sched = s.sched ∧ (emitDealloc x
    s).feats = s.feats ∧ (emitDealloc x s).guard = s.guard ∧ (emitDealloc x s).trust = s.trust ∧ (emitDealloc x s).now = s.now ∧
    (emitDealloc x s).freeCtr = s.freeCtr ∧ (emitDealloc x s).pending = s.pending := by simp [emitDealloc]

/-- `claimSlots` changes `recorder`, `members` only. -/
@[simp] theorem claimSlots_frame (id : Nat) (l : DeckLabel) (s : State) :
    (claimSlots id l s).mode = s.mode ∧ (claimSlots id l s).power = s.power ∧ (claimSlots id l s).stop = s.stop ∧ (claimSlots id l
    s).ports = s.ports ∧ (claimSlots id l s).fns = s.fns ∧ (claimSlots id l s).ctls = s.ctls ∧ (claimSlots id l s).cache = s.cache ∧
    (claimSlots id l s).reads = s.reads ∧ (claimSlots id l s).decks = s.decks ∧ (claimSlots id l s).gauge = s.gauge ∧ (claimSlots id l
    s).vault = s.vault ∧ (claimSlots id l s).fabric = s.fabric ∧ (claimSlots id l s).sched = s.sched ∧ (claimSlots id l s).feats =
    s.feats ∧ (claimSlots id l s).guard = s.guard ∧ (claimSlots id l s).trust = s.trust ∧ (claimSlots id l s).now = s.now ∧ (claimSlots
    id l s).freeCtr = s.freeCtr ∧ (claimSlots id l s).out = s.out ∧ (claimSlots id l s).pending = s.pending := by
  simp only [claimSlots]
  (repeat' split) <;> (first | rfl | simp (disch := (intros; (try dsimp only); (repeat' split) <;> (first | rfl | simp | skip))))

/-- `zeroCopies` changes `members`, `out` only. -/
@[simp] theorem zeroCopies_frame (copies : List Nat) (x : Nat) (cap : Nat) (tagged : Bool) (s : State) :
    (zeroCopies copies x cap tagged s).mode = s.mode ∧ (zeroCopies copies x cap tagged s).power = s.power ∧ (zeroCopies copies x cap
    tagged s).stop = s.stop ∧ (zeroCopies copies x cap tagged s).recorder = s.recorder ∧ (zeroCopies copies x cap tagged s).ports =
    s.ports ∧ (zeroCopies copies x cap tagged s).fns = s.fns ∧ (zeroCopies copies x cap tagged s).ctls = s.ctls ∧ (zeroCopies copies x
    cap tagged s).cache = s.cache ∧ (zeroCopies copies x cap tagged s).reads = s.reads ∧ (zeroCopies copies x cap tagged s).decks =
    s.decks ∧ (zeroCopies copies x cap tagged s).gauge = s.gauge ∧ (zeroCopies copies x cap tagged s).vault = s.vault ∧ (zeroCopies
    copies x cap tagged s).fabric = s.fabric ∧ (zeroCopies copies x cap tagged s).sched = s.sched ∧ (zeroCopies copies x cap tagged
    s).feats = s.feats ∧ (zeroCopies copies x cap tagged s).guard = s.guard ∧ (zeroCopies copies x cap tagged s).trust = s.trust ∧
    (zeroCopies copies x cap tagged s).now = s.now ∧ (zeroCopies copies x cap tagged s).freeCtr = s.freeCtr ∧ (zeroCopies copies x cap
    tagged s).pending = s.pending := by simp [zeroCopies]

/-- `zeroLabels` changes `members`, `out` only. -/
@[simp] theorem zeroLabels_frame (x : Nat) (cap : Nat) (tagged : Bool) (s : State) :
    (zeroLabels x cap tagged s).mode = s.mode ∧ (zeroLabels x cap tagged s).power = s.power ∧ (zeroLabels x cap tagged s).stop = s.stop
    ∧ (zeroLabels x cap tagged s).recorder = s.recorder ∧ (zeroLabels x cap tagged s).ports = s.ports ∧ (zeroLabels x cap tagged s).fns
    = s.fns ∧ (zeroLabels x cap tagged s).ctls = s.ctls ∧ (zeroLabels x cap tagged s).cache = s.cache ∧ (zeroLabels x cap tagged
    s).reads = s.reads ∧ (zeroLabels x cap tagged s).decks = s.decks ∧ (zeroLabels x cap tagged s).gauge = s.gauge ∧ (zeroLabels x cap
    tagged s).vault = s.vault ∧ (zeroLabels x cap tagged s).fabric = s.fabric ∧ (zeroLabels x cap tagged s).sched = s.sched ∧
    (zeroLabels x cap tagged s).feats = s.feats ∧ (zeroLabels x cap tagged s).guard = s.guard ∧ (zeroLabels x cap tagged s).trust =
    s.trust ∧ (zeroLabels x cap tagged s).now = s.now ∧ (zeroLabels x cap tagged s).freeCtr = s.freeCtr ∧ (zeroLabels x cap tagged
    s).pending = s.pending := by simp [zeroLabels]

/-- `dropRedealLog` changes `ports`, `fns`, `ctls`, `decks`, `out` only. -/
@[simp] theorem dropRedealLog_frame (id : Nat) (s : State) :
    (dropRedealLog id s).mode = s.mode ∧ (dropRedealLog id s).power = s.power ∧ (dropRedealLog id s).stop = s.stop ∧ (dropRedealLog id
    s).recorder = s.recorder ∧ (dropRedealLog id s).cache = s.cache ∧ (dropRedealLog id s).reads = s.reads ∧ (dropRedealLog id s).gauge
    = s.gauge ∧ (dropRedealLog id s).vault = s.vault ∧ (dropRedealLog id s).fabric = s.fabric ∧ (dropRedealLog id s).sched = s.sched ∧
    (dropRedealLog id s).feats = s.feats ∧ (dropRedealLog id s).members = s.members ∧ (dropRedealLog id s).guard = s.guard ∧
    (dropRedealLog id s).trust = s.trust ∧ (dropRedealLog id s).now = s.now ∧ (dropRedealLog id s).freeCtr = s.freeCtr ∧ (dropRedealLog
    id s).pending = s.pending := by
  simp only [dropRedealLog]
  (repeat' split) <;> (first | rfl | simp)

/-- `noteExposed` changes `recorder`, `ports`, `fns`, `ctls`, `out` only. -/
@[simp] theorem noteExposed_frame (id : Nat) (exp : Nat) (s : State) :
    (noteExposed id exp s).mode = s.mode ∧ (noteExposed id exp s).power = s.power ∧ (noteExposed id exp s).stop = s.stop ∧ (noteExposed
    id exp s).cache = s.cache ∧ (noteExposed id exp s).reads = s.reads ∧ (noteExposed id exp s).decks = s.decks ∧ (noteExposed id exp
    s).gauge = s.gauge ∧ (noteExposed id exp s).vault = s.vault ∧ (noteExposed id exp s).fabric = s.fabric ∧ (noteExposed id exp
    s).sched = s.sched ∧ (noteExposed id exp s).feats = s.feats ∧ (noteExposed id exp s).members = s.members ∧ (noteExposed id exp
    s).guard = s.guard ∧ (noteExposed id exp s).trust = s.trust ∧ (noteExposed id exp s).now = s.now ∧ (noteExposed id exp s).freeCtr =
    s.freeCtr ∧ (noteExposed id exp s).pending = s.pending := by simp [noteExposed]

/-- `takeState` changes `recorder`, `decks`, `members`, `guard`, `out` only. -/
@[simp] theorem takeState_frame (id : Nat) (code : Nat) (old : Nat) (s : State) :
    (takeState id code old s).mode = s.mode ∧ (takeState id code old s).power = s.power ∧ (takeState id code old s).stop = s.stop ∧
    (takeState id code old s).ports = s.ports ∧ (takeState id code old s).fns = s.fns ∧ (takeState id code old s).ctls = s.ctls ∧
    (takeState id code old s).cache = s.cache ∧ (takeState id code old s).reads = s.reads ∧ (takeState id code old s).gauge = s.gauge ∧
    (takeState id code old s).vault = s.vault ∧ (takeState id code old s).fabric = s.fabric ∧ (takeState id code old s).sched = s.sched
    ∧ (takeState id code old s).feats = s.feats ∧ (takeState id code old s).trust = s.trust ∧ (takeState id code old s).now = s.now ∧
    (takeState id code old s).freeCtr = s.freeCtr ∧ (takeState id code old s).pending = s.pending := by simp [takeState]

/-- `evalDeck` changes `recorder`, `ports`, `fns`, `ctls`, `decks`, `members`, `guard`, `out` only. -/
@[simp] theorem evalDeck_frame (id : Nat) (s : State) :
    (evalDeck id s).mode = s.mode ∧ (evalDeck id s).power = s.power ∧ (evalDeck id s).stop = s.stop ∧ (evalDeck id s).cache = s.cache ∧
    (evalDeck id s).reads = s.reads ∧ (evalDeck id s).gauge = s.gauge ∧ (evalDeck id s).vault = s.vault ∧ (evalDeck id s).fabric =
    s.fabric ∧ (evalDeck id s).sched = s.sched ∧ (evalDeck id s).feats = s.feats ∧ (evalDeck id s).trust = s.trust ∧ (evalDeck id s).now
    = s.now ∧ (evalDeck id s).freeCtr = s.freeCtr ∧ (evalDeck id s).pending = s.pending := by
  simp only [evalDeck]
  (repeat' split) <;> (first | rfl | simp)

/-- `leaveSlot` changes `recorder`, `members` only. -/
@[simp] theorem leaveSlot_frame (x : Nat) (s : State) :
    (leaveSlot x s).mode = s.mode ∧ (leaveSlot x s).power = s.power ∧ (leaveSlot x s).stop = s.stop ∧ (leaveSlot x s).ports = s.ports ∧
    (leaveSlot x s).fns = s.fns ∧ (leaveSlot x s).ctls = s.ctls ∧ (leaveSlot x s).cache = s.cache ∧ (leaveSlot x s).reads = s.reads ∧
    (leaveSlot x s).decks = s.decks ∧ (leaveSlot x s).gauge = s.gauge ∧ (leaveSlot x s).vault = s.vault ∧ (leaveSlot x s).fabric =
    s.fabric ∧ (leaveSlot x s).sched = s.sched ∧ (leaveSlot x s).feats = s.feats ∧ (leaveSlot x s).guard = s.guard ∧ (leaveSlot x
    s).trust = s.trust ∧ (leaveSlot x s).now = s.now ∧ (leaveSlot x s).freeCtr = s.freeCtr ∧ (leaveSlot x s).out = s.out ∧ (leaveSlot x
    s).pending = s.pending := by simp [leaveSlot]

/-- `emitMeta` changes `members`, `out` only. -/
@[simp] theorem emitMeta_frame (x : Nat) (at_ : Nat) (tagged : Bool) (bs : Bytes) (s : State) :
    (emitMeta x at_ tagged bs s).mode = s.mode ∧ (emitMeta x at_ tagged bs s).power = s.power ∧ (emitMeta x at_ tagged bs s).stop =
    s.stop ∧ (emitMeta x at_ tagged bs s).recorder = s.recorder ∧ (emitMeta x at_ tagged bs s).ports = s.ports ∧ (emitMeta x at_ tagged
    bs s).fns = s.fns ∧ (emitMeta x at_ tagged bs s).ctls = s.ctls ∧ (emitMeta x at_ tagged bs s).cache = s.cache ∧ (emitMeta x at_
    tagged bs s).reads = s.reads ∧ (emitMeta x at_ tagged bs s).decks = s.decks ∧ (emitMeta x at_ tagged bs s).gauge = s.gauge ∧
    (emitMeta x at_ tagged bs s).vault = s.vault ∧ (emitMeta x at_ tagged bs s).fabric = s.fabric ∧ (emitMeta x at_ tagged bs s).sched =
    s.sched ∧ (emitMeta x at_ tagged bs s).feats = s.feats ∧ (emitMeta x at_ tagged bs s).guard = s.guard ∧ (emitMeta x at_ tagged bs
    s).trust = s.trust ∧ (emitMeta x at_ tagged bs s).now = s.now ∧ (emitMeta x at_ tagged bs s).freeCtr = s.freeCtr ∧ (emitMeta x at_
    tagged bs s).pending = s.pending := by simp [emitMeta]

/-- `writeTable` changes `members`, `out` only. -/
@[simp] theorem writeTable_frame (id : Nat) (mem : Nat) (ws : Deck → List (Nat × Bytes)) (s : State) :
    (writeTable id mem ws s).mode = s.mode ∧ (writeTable id mem ws s).power = s.power ∧ (writeTable id mem ws s).stop = s.stop ∧
    (writeTable id mem ws s).recorder = s.recorder ∧ (writeTable id mem ws s).ports = s.ports ∧ (writeTable id mem ws s).fns = s.fns ∧
    (writeTable id mem ws s).ctls = s.ctls ∧ (writeTable id mem ws s).cache = s.cache ∧ (writeTable id mem ws s).reads = s.reads ∧
    (writeTable id mem ws s).decks = s.decks ∧ (writeTable id mem ws s).gauge = s.gauge ∧ (writeTable id mem ws s).vault = s.vault ∧
    (writeTable id mem ws s).fabric = s.fabric ∧ (writeTable id mem ws s).sched = s.sched ∧ (writeTable id mem ws s).feats = s.feats ∧
    (writeTable id mem ws s).guard = s.guard ∧ (writeTable id mem ws s).trust = s.trust ∧ (writeTable id mem ws s).now = s.now ∧
    (writeTable id mem ws s).freeCtr = s.freeCtr ∧ (writeTable id mem ws s).pending = s.pending := by
  simp only [writeTable]
  (repeat' split) <;> (first | rfl | simp)

/-- `writeHeader` changes `decks`, `members`, `out` only. -/
@[simp] theorem writeHeader_frame (id : Nat) (gen : Nat) (mem : Nat) (s : State) :
    (writeHeader id gen mem s).mode = s.mode ∧ (writeHeader id gen mem s).power = s.power ∧ (writeHeader id gen mem s).stop = s.stop ∧
    (writeHeader id gen mem s).recorder = s.recorder ∧ (writeHeader id gen mem s).ports = s.ports ∧ (writeHeader id gen mem s).fns =
    s.fns ∧ (writeHeader id gen mem s).ctls = s.ctls ∧ (writeHeader id gen mem s).cache = s.cache ∧ (writeHeader id gen mem s).reads =
    s.reads ∧ (writeHeader id gen mem s).gauge = s.gauge ∧ (writeHeader id gen mem s).vault = s.vault ∧ (writeHeader id gen mem
    s).fabric = s.fabric ∧ (writeHeader id gen mem s).sched = s.sched ∧ (writeHeader id gen mem s).feats = s.feats ∧ (writeHeader id gen
    mem s).guard = s.guard ∧ (writeHeader id gen mem s).trust = s.trust ∧ (writeHeader id gen mem s).now = s.now ∧ (writeHeader id gen
    mem s).freeCtr = s.freeCtr ∧ (writeHeader id gen mem s).pending = s.pending := by
  simp only [writeHeader]
  (repeat' split) <;> (first | rfl | simp)

/-- `writeRecords` changes `members`, `out` only. -/
@[simp] theorem writeRecords_frame (id : Nat) (mem : Nat) (s : State) :
    (writeRecords id mem s).mode = s.mode ∧ (writeRecords id mem s).power = s.power ∧ (writeRecords id mem s).stop = s.stop ∧
    (writeRecords id mem s).recorder = s.recorder ∧ (writeRecords id mem s).ports = s.ports ∧ (writeRecords id mem s).fns = s.fns ∧
    (writeRecords id mem s).ctls = s.ctls ∧ (writeRecords id mem s).cache = s.cache ∧ (writeRecords id mem s).reads = s.reads ∧
    (writeRecords id mem s).decks = s.decks ∧ (writeRecords id mem s).gauge = s.gauge ∧ (writeRecords id mem s).vault = s.vault ∧
    (writeRecords id mem s).fabric = s.fabric ∧ (writeRecords id mem s).sched = s.sched ∧ (writeRecords id mem s).feats = s.feats ∧
    (writeRecords id mem s).guard = s.guard ∧ (writeRecords id mem s).trust = s.trust ∧ (writeRecords id mem s).now = s.now ∧
    (writeRecords id mem s).freeCtr = s.freeCtr ∧ (writeRecords id mem s).pending = s.pending := by simp [writeRecords]

/-- `tableStep` changes `decks`, `members`, `out` only. -/
@[simp] theorem tableStep_frame (id : Nat) (gen : Nat) (changed : List Nat) (s : State) :
    (tableStep id gen changed s).mode = s.mode ∧ (tableStep id gen changed s).power = s.power ∧ (tableStep id gen changed s).stop =
    s.stop ∧ (tableStep id gen changed s).recorder = s.recorder ∧ (tableStep id gen changed s).ports = s.ports ∧ (tableStep id gen
    changed s).fns = s.fns ∧ (tableStep id gen changed s).ctls = s.ctls ∧ (tableStep id gen changed s).cache = s.cache ∧ (tableStep id
    gen changed s).reads = s.reads ∧ (tableStep id gen changed s).gauge = s.gauge ∧ (tableStep id gen changed s).vault = s.vault ∧
    (tableStep id gen changed s).fabric = s.fabric ∧ (tableStep id gen changed s).sched = s.sched ∧ (tableStep id gen changed s).feats =
    s.feats ∧ (tableStep id gen changed s).guard = s.guard ∧ (tableStep id gen changed s).trust = s.trust ∧ (tableStep id gen changed
    s).now = s.now ∧ (tableStep id gen changed s).freeCtr = s.freeCtr ∧ (tableStep id gen changed s).pending = s.pending := by
  simp only [tableStep]
  (repeat' split) <;> (first | rfl | simp (disch := (intros; (try dsimp only); (repeat' split) <;> (first | rfl | simp | skip))))

/-- `tableUpdateGen` changes `decks`, `members`, `out` only. -/
@[simp] theorem tableUpdateGen_frame (id : Nat) (gen : Nat) (changed : List Nat) (s : State) :
    (tableUpdateGen id gen changed s).mode = s.mode ∧ (tableUpdateGen id gen changed s).power = s.power ∧ (tableUpdateGen id gen changed
    s).stop = s.stop ∧ (tableUpdateGen id gen changed s).recorder = s.recorder ∧ (tableUpdateGen id gen changed s).ports = s.ports ∧
    (tableUpdateGen id gen changed s).fns = s.fns ∧ (tableUpdateGen id gen changed s).ctls = s.ctls ∧ (tableUpdateGen id gen changed
    s).cache = s.cache ∧ (tableUpdateGen id gen changed s).reads = s.reads ∧ (tableUpdateGen id gen changed s).gauge = s.gauge ∧
    (tableUpdateGen id gen changed s).vault = s.vault ∧ (tableUpdateGen id gen changed s).fabric = s.fabric ∧ (tableUpdateGen id gen
    changed s).sched = s.sched ∧ (tableUpdateGen id gen changed s).feats = s.feats ∧ (tableUpdateGen id gen changed s).guard = s.guard ∧
    (tableUpdateGen id gen changed s).trust = s.trust ∧ (tableUpdateGen id gen changed s).now = s.now ∧ (tableUpdateGen id gen changed
    s).freeCtr = s.freeCtr ∧ (tableUpdateGen id gen changed s).pending = s.pending := by simp [tableUpdateGen]

/-- `tableUpdate` changes `decks`, `members`, `out` only. -/
@[simp] theorem tableUpdate_frame (id : Nat) (changed : List Nat) (s : State) :
    (tableUpdate id changed s).mode = s.mode ∧ (tableUpdate id changed s).power = s.power ∧ (tableUpdate id changed s).stop = s.stop ∧
    (tableUpdate id changed s).recorder = s.recorder ∧ (tableUpdate id changed s).ports = s.ports ∧ (tableUpdate id changed s).fns =
    s.fns ∧ (tableUpdate id changed s).ctls = s.ctls ∧ (tableUpdate id changed s).cache = s.cache ∧ (tableUpdate id changed s).reads =
    s.reads ∧ (tableUpdate id changed s).gauge = s.gauge ∧ (tableUpdate id changed s).vault = s.vault ∧ (tableUpdate id changed
    s).fabric = s.fabric ∧ (tableUpdate id changed s).sched = s.sched ∧ (tableUpdate id changed s).feats = s.feats ∧ (tableUpdate id
    changed s).guard = s.guard ∧ (tableUpdate id changed s).trust = s.trust ∧ (tableUpdate id changed s).now = s.now ∧ (tableUpdate id
    changed s).freeCtr = s.freeCtr ∧ (tableUpdate id changed s).pending = s.pending := by simp [tableUpdate]

/-- `updVolTable` changes `decks`, `members`, `out` only. -/
@[simp] theorem updVolTable_frame (nsid : Nat) (f : Volume → Volume) (s : State) :
    (updVolTable nsid f s).mode = s.mode ∧ (updVolTable nsid f s).power = s.power ∧ (updVolTable nsid f s).stop = s.stop ∧ (updVolTable
    nsid f s).recorder = s.recorder ∧ (updVolTable nsid f s).ports = s.ports ∧ (updVolTable nsid f s).fns = s.fns ∧ (updVolTable nsid f
    s).ctls = s.ctls ∧ (updVolTable nsid f s).cache = s.cache ∧ (updVolTable nsid f s).reads = s.reads ∧ (updVolTable nsid f s).gauge =
    s.gauge ∧ (updVolTable nsid f s).vault = s.vault ∧ (updVolTable nsid f s).fabric = s.fabric ∧ (updVolTable nsid f s).sched = s.sched
    ∧ (updVolTable nsid f s).feats = s.feats ∧ (updVolTable nsid f s).guard = s.guard ∧ (updVolTable nsid f s).trust = s.trust ∧
    (updVolTable nsid f s).now = s.now ∧ (updVolTable nsid f s).freeCtr = s.freeCtr ∧ (updVolTable nsid f s).pending = s.pending := by
  simp only [updVolTable]
  (repeat' split) <;> (first | rfl | simp)

/-- `clearPages` changes `recorder`, `ports`, `fns`, `ctls`, `decks`, `members`, `guard`, `out` only. -/
@[simp] theorem clearPages_frame (nsid : Nat) (pages : List Nat) (s : State) :
    (clearPages nsid pages s).mode = s.mode ∧ (clearPages nsid pages s).power = s.power ∧ (clearPages nsid pages s).stop = s.stop ∧
    (clearPages nsid pages s).cache = s.cache ∧ (clearPages nsid pages s).reads = s.reads ∧ (clearPages nsid pages s).gauge = s.gauge ∧
    (clearPages nsid pages s).vault = s.vault ∧ (clearPages nsid pages s).fabric = s.fabric ∧ (clearPages nsid pages s).sched = s.sched
    ∧ (clearPages nsid pages s).feats = s.feats ∧ (clearPages nsid pages s).trust = s.trust ∧ (clearPages nsid pages s).now = s.now ∧
    (clearPages nsid pages s).freeCtr = s.freeCtr ∧ (clearPages nsid pages s).pending = s.pending := by
  simp only [clearPages]
  (repeat' split) <;> (first | rfl | simp)

/-- `emitRingHeader` changes `members`, `out` only. -/
@[simp] theorem emitRingHeader_frame (d : Deck) (r : Ring) (s : State) :
    (emitRingHeader d r s).mode = s.mode ∧ (emitRingHeader d r s).power = s.power ∧ (emitRingHeader d r s).stop = s.stop ∧
    (emitRingHeader d r s).recorder = s.recorder ∧ (emitRingHeader d r s).ports = s.ports ∧ (emitRingHeader d r s).fns = s.fns ∧
    (emitRingHeader d r s).ctls = s.ctls ∧ (emitRingHeader d r s).cache = s.cache ∧ (emitRingHeader d r s).reads = s.reads ∧
    (emitRingHeader d r s).decks = s.decks ∧ (emitRingHeader d r s).gauge = s.gauge ∧ (emitRingHeader d r s).vault = s.vault ∧
    (emitRingHeader d r s).fabric = s.fabric ∧ (emitRingHeader d r s).sched = s.sched ∧ (emitRingHeader d r s).feats = s.feats ∧
    (emitRingHeader d r s).guard = s.guard ∧ (emitRingHeader d r s).trust = s.trust ∧ (emitRingHeader d r s).now = s.now ∧
    (emitRingHeader d r s).freeCtr = s.freeCtr ∧ (emitRingHeader d r s).pending = s.pending := by
  simp only [emitRingHeader]
  (repeat' split) <;> (first | rfl | simp)

/-- `newStructures` changes `decks`, `members`, `out` only. -/
@[simp] theorem newStructures_frame (id : Nat) (d : Deck) (s : State) :
    (newStructures id d s).mode = s.mode ∧ (newStructures id d s).power = s.power ∧ (newStructures id d s).stop = s.stop ∧
    (newStructures id d s).recorder = s.recorder ∧ (newStructures id d s).ports = s.ports ∧ (newStructures id d s).fns = s.fns ∧
    (newStructures id d s).ctls = s.ctls ∧ (newStructures id d s).cache = s.cache ∧ (newStructures id d s).reads = s.reads ∧
    (newStructures id d s).gauge = s.gauge ∧ (newStructures id d s).vault = s.vault ∧ (newStructures id d s).fabric = s.fabric ∧
    (newStructures id d s).sched = s.sched ∧ (newStructures id d s).feats = s.feats ∧ (newStructures id d s).guard = s.guard ∧
    (newStructures id d s).trust = s.trust ∧ (newStructures id d s).now = s.now ∧ (newStructures id d s).freeCtr = s.freeCtr ∧
    (newStructures id d s).pending = s.pending := by simp [newStructures]

/-- `noteDecks` changes `decks` only. -/
@[simp] theorem noteDecks_frame (old : State) (s : State) :
    (noteDecks old s).mode = s.mode ∧ (noteDecks old s).power = s.power ∧ (noteDecks old s).stop = s.stop ∧ (noteDecks old s).recorder =
    s.recorder ∧ (noteDecks old s).ports = s.ports ∧ (noteDecks old s).fns = s.fns ∧ (noteDecks old s).ctls = s.ctls ∧ (noteDecks old
    s).cache = s.cache ∧ (noteDecks old s).reads = s.reads ∧ (noteDecks old s).gauge = s.gauge ∧ (noteDecks old s).vault = s.vault ∧
    (noteDecks old s).fabric = s.fabric ∧ (noteDecks old s).sched = s.sched ∧ (noteDecks old s).feats = s.feats ∧ (noteDecks old
    s).members = s.members ∧ (noteDecks old s).guard = s.guard ∧ (noteDecks old s).trust = s.trust ∧ (noteDecks old s).now = s.now ∧
    (noteDecks old s).freeCtr = s.freeCtr ∧ (noteDecks old s).out = s.out ∧ (noteDecks old s).pending = s.pending := by simp [noteDecks]

/-- `installDeck` changes `recorder`, `decks`, `members`, `out` only. -/
@[simp] theorem installDeck_frame (id : Nat) (d : Deck) (s : State) :
    (installDeck id d s).mode = s.mode ∧ (installDeck id d s).power = s.power ∧ (installDeck id d s).stop = s.stop ∧ (installDeck id d
    s).ports = s.ports ∧ (installDeck id d s).fns = s.fns ∧ (installDeck id d s).ctls = s.ctls ∧ (installDeck id d s).cache = s.cache ∧
    (installDeck id d s).reads = s.reads ∧ (installDeck id d s).gauge = s.gauge ∧ (installDeck id d s).vault = s.vault ∧ (installDeck id
    d s).fabric = s.fabric ∧ (installDeck id d s).sched = s.sched ∧ (installDeck id d s).feats = s.feats ∧ (installDeck id d s).guard =
    s.guard ∧ (installDeck id d s).trust = s.trust ∧ (installDeck id d s).now = s.now ∧ (installDeck id d s).freeCtr = s.freeCtr ∧
    (installDeck id d s).pending = s.pending := by simp [installDeck]

/-- `releaseSlot` changes `recorder`, `members` only. -/
@[simp] theorem releaseSlot_frame (x : Nat) (s : State) :
    (releaseSlot x s).mode = s.mode ∧ (releaseSlot x s).power = s.power ∧ (releaseSlot x s).stop = s.stop ∧ (releaseSlot x s).ports =
    s.ports ∧ (releaseSlot x s).fns = s.fns ∧ (releaseSlot x s).ctls = s.ctls ∧ (releaseSlot x s).cache = s.cache ∧ (releaseSlot x
    s).reads = s.reads ∧ (releaseSlot x s).decks = s.decks ∧ (releaseSlot x s).gauge = s.gauge ∧ (releaseSlot x s).vault = s.vault ∧
    (releaseSlot x s).fabric = s.fabric ∧ (releaseSlot x s).sched = s.sched ∧ (releaseSlot x s).feats = s.feats ∧ (releaseSlot x
    s).guard = s.guard ∧ (releaseSlot x s).trust = s.trust ∧ (releaseSlot x s).now = s.now ∧ (releaseSlot x s).freeCtr = s.freeCtr ∧
    (releaseSlot x s).out = s.out ∧ (releaseSlot x s).pending = s.pending := by simp [releaseSlot]

/-- `drawKey` changes `freeCtr` only. -/
@[simp] theorem drawKey_frame (s : State) :
    (drawKey s).2.mode = s.mode ∧ (drawKey s).2.power = s.power ∧ (drawKey s).2.stop = s.stop ∧ (drawKey s).2.recorder = s.recorder ∧
    (drawKey s).2.ports = s.ports ∧ (drawKey s).2.fns = s.fns ∧ (drawKey s).2.ctls = s.ctls ∧ (drawKey s).2.cache = s.cache ∧ (drawKey
    s).2.reads = s.reads ∧ (drawKey s).2.decks = s.decks ∧ (drawKey s).2.gauge = s.gauge ∧ (drawKey s).2.vault = s.vault ∧ (drawKey
    s).2.fabric = s.fabric ∧ (drawKey s).2.sched = s.sched ∧ (drawKey s).2.feats = s.feats ∧ (drawKey s).2.members = s.members ∧
    (drawKey s).2.guard = s.guard ∧ (drawKey s).2.trust = s.trust ∧ (drawKey s).2.now = s.now ∧ (drawKey s).2.out = s.out ∧ (drawKey
    s).2.pending = s.pending := by simp [drawKey]

/-- `abandonCreate` changes `decks`, `members`, `out` only. -/
@[simp] theorem abandonCreate_frame (id : Nat) (passes : Nat) (l : DeckLabel) (slots : List Nat) (s : State) :
    (abandonCreate id passes l slots s).mode = s.mode ∧ (abandonCreate id passes l slots s).power = s.power ∧ (abandonCreate id passes l
    slots s).stop = s.stop ∧ (abandonCreate id passes l slots s).recorder = s.recorder ∧ (abandonCreate id passes l slots s).ports =
    s.ports ∧ (abandonCreate id passes l slots s).fns = s.fns ∧ (abandonCreate id passes l slots s).ctls = s.ctls ∧ (abandonCreate id
    passes l slots s).cache = s.cache ∧ (abandonCreate id passes l slots s).reads = s.reads ∧ (abandonCreate id passes l slots s).gauge
    = s.gauge ∧ (abandonCreate id passes l slots s).vault = s.vault ∧ (abandonCreate id passes l slots s).fabric = s.fabric ∧
    (abandonCreate id passes l slots s).sched = s.sched ∧ (abandonCreate id passes l slots s).feats = s.feats ∧ (abandonCreate id passes
    l slots s).guard = s.guard ∧ (abandonCreate id passes l slots s).trust = s.trust ∧ (abandonCreate id passes l slots s).now = s.now ∧
    (abandonCreate id passes l slots s).freeCtr = s.freeCtr ∧ (abandonCreate id passes l slots s).pending = s.pending := by
  simp only [abandonCreate]
  (repeat' split) <;> (first | rfl | simp)

/-- `listPages` changes `recorder`, `ports`, `fns`, `ctls`, `decks`, `members`, `guard`, `out` only. -/
@[simp] theorem listPages_frame (nsid : Nat) (pages : List Nat) (s : State) :
    (listPages nsid pages s).2.mode = s.mode ∧ (listPages nsid pages s).2.power = s.power ∧ (listPages nsid pages s).2.stop = s.stop ∧
    (listPages nsid pages s).2.cache = s.cache ∧ (listPages nsid pages s).2.reads = s.reads ∧ (listPages nsid pages s).2.gauge = s.gauge
    ∧ (listPages nsid pages s).2.vault = s.vault ∧ (listPages nsid pages s).2.fabric = s.fabric ∧ (listPages nsid pages s).2.sched =
    s.sched ∧ (listPages nsid pages s).2.feats = s.feats ∧ (listPages nsid pages s).2.trust = s.trust ∧ (listPages nsid pages s).2.now =
    s.now ∧ (listPages nsid pages s).2.freeCtr = s.freeCtr ∧ (listPages nsid pages s).2.pending = s.pending := by
  simp only [listPages]
  (repeat' split) <;> (first | rfl | simp)

end Sys2Proof.Machine
end

