-- ==== Sys2Proof/Laws/Sched.lean ====
section
/-!
SUPPORT. The frames of the operations of Machine/Sched.lean: which units of the state each leaves alone.
-/

namespace Sys2Proof.Machine

/-- `writeVolts` changes `sched`, `out` only. -/
@[simp] theorem writeVolts_frame (vs : List Nat) (s : State) :
    (writeVolts vs s).mode = s.mode ∧ (writeVolts vs s).power = s.power ∧ (writeVolts vs s).stop = s.stop ∧ (writeVolts vs s).recorder =
    s.recorder ∧ (writeVolts vs s).ports = s.ports ∧ (writeVolts vs s).fns = s.fns ∧ (writeVolts vs s).ctls = s.ctls ∧ (writeVolts vs
    s).cache = s.cache ∧ (writeVolts vs s).reads = s.reads ∧ (writeVolts vs s).decks = s.decks ∧ (writeVolts vs s).gauge = s.gauge ∧
    (writeVolts vs s).vault = s.vault ∧ (writeVolts vs s).fabric = s.fabric ∧ (writeVolts vs s).feats = s.feats ∧ (writeVolts vs
    s).members = s.members ∧ (writeVolts vs s).guard = s.guard ∧ (writeVolts vs s).trust = s.trust ∧ (writeVolts vs s).now = s.now ∧
    (writeVolts vs s).freeCtr = s.freeCtr ∧ (writeVolts vs s).pending = s.pending := by simp [writeVolts]

/-- `idleLinks` changes `sched`, `members` only. -/
@[simp] theorem idleLinks_frame (s : State) :
    (idleLinks s).mode = s.mode ∧ (idleLinks s).power = s.power ∧ (idleLinks s).stop = s.stop ∧ (idleLinks s).recorder = s.recorder ∧
    (idleLinks s).ports = s.ports ∧ (idleLinks s).fns = s.fns ∧ (idleLinks s).ctls = s.ctls ∧ (idleLinks s).cache = s.cache ∧ (idleLinks
    s).reads = s.reads ∧ (idleLinks s).decks = s.decks ∧ (idleLinks s).gauge = s.gauge ∧ (idleLinks s).vault = s.vault ∧ (idleLinks
    s).fabric = s.fabric ∧ (idleLinks s).feats = s.feats ∧ (idleLinks s).guard = s.guard ∧ (idleLinks s).trust = s.trust ∧ (idleLinks
    s).now = s.now ∧ (idleLinks s).freeCtr = s.freeCtr ∧ (idleLinks s).out = s.out ∧ (idleLinks s).pending = s.pending := by simp [idleLinks]

/-- `heatRules` changes `mode`, `recorder`, `sched` only. -/
@[simp] theorem heatRules_frame (s : State) :
    (heatRules s).power = s.power ∧ (heatRules s).stop = s.stop ∧ (heatRules s).ports = s.ports ∧ (heatRules s).fns = s.fns ∧ (heatRules
    s).ctls = s.ctls ∧ (heatRules s).cache = s.cache ∧ (heatRules s).reads = s.reads ∧ (heatRules s).decks = s.decks ∧ (heatRules
    s).gauge = s.gauge ∧ (heatRules s).vault = s.vault ∧ (heatRules s).fabric = s.fabric ∧ (heatRules s).feats = s.feats ∧ (heatRules
    s).members = s.members ∧ (heatRules s).guard = s.guard ∧ (heatRules s).trust = s.trust ∧ (heatRules s).now = s.now ∧ (heatRules
    s).freeCtr = s.freeCtr ∧ (heatRules s).out = s.out ∧ (heatRules s).pending = s.pending := by simp [heatRules]

/-- `applyTimers` changes `cache`, `fabric`, `members` only. -/
@[simp] theorem applyTimers_frame (s : State) :
    (applyTimers s).mode = s.mode ∧ (applyTimers s).power = s.power ∧ (applyTimers s).stop = s.stop ∧ (applyTimers s).recorder =
    s.recorder ∧ (applyTimers s).ports = s.ports ∧ (applyTimers s).fns = s.fns ∧ (applyTimers s).ctls = s.ctls ∧ (applyTimers s).reads =
    s.reads ∧ (applyTimers s).decks = s.decks ∧ (applyTimers s).gauge = s.gauge ∧ (applyTimers s).vault = s.vault ∧ (applyTimers
    s).sched = s.sched ∧ (applyTimers s).feats = s.feats ∧ (applyTimers s).guard = s.guard ∧ (applyTimers s).trust = s.trust ∧
    (applyTimers s).now = s.now ∧ (applyTimers s).freeCtr = s.freeCtr ∧ (applyTimers s).out = s.out ∧ (applyTimers s).pending =
    s.pending := by simp [applyTimers]

/-- `restMembers` changes `members`, `out` only. -/
@[simp] theorem restMembers_frame (s : State) :
    (restMembers s).mode = s.mode ∧ (restMembers s).power = s.power ∧ (restMembers s).stop = s.stop ∧ (restMembers s).recorder =
    s.recorder ∧ (restMembers s).ports = s.ports ∧ (restMembers s).fns = s.fns ∧ (restMembers s).ctls = s.ctls ∧ (restMembers s).cache =
    s.cache ∧ (restMembers s).reads = s.reads ∧ (restMembers s).decks = s.decks ∧ (restMembers s).gauge = s.gauge ∧ (restMembers
    s).vault = s.vault ∧ (restMembers s).fabric = s.fabric ∧ (restMembers s).sched = s.sched ∧ (restMembers s).feats = s.feats ∧
    (restMembers s).guard = s.guard ∧ (restMembers s).trust = s.trust ∧ (restMembers s).now = s.now ∧ (restMembers s).freeCtr =
    s.freeCtr ∧ (restMembers s).pending = s.pending := by simp [restMembers]

/-- `wakeKeepers` changes `members` only. -/
@[simp] theorem wakeKeepers_frame (s : State) :
    (wakeKeepers s).mode = s.mode ∧ (wakeKeepers s).power = s.power ∧ (wakeKeepers s).stop = s.stop ∧ (wakeKeepers s).recorder =
    s.recorder ∧ (wakeKeepers s).ports = s.ports ∧ (wakeKeepers s).fns = s.fns ∧ (wakeKeepers s).ctls = s.ctls ∧ (wakeKeepers s).cache =
    s.cache ∧ (wakeKeepers s).reads = s.reads ∧ (wakeKeepers s).decks = s.decks ∧ (wakeKeepers s).gauge = s.gauge ∧ (wakeKeepers
    s).vault = s.vault ∧ (wakeKeepers s).fabric = s.fabric ∧ (wakeKeepers s).sched = s.sched ∧ (wakeKeepers s).feats = s.feats ∧
    (wakeKeepers s).guard = s.guard ∧ (wakeKeepers s).trust = s.trust ∧ (wakeKeepers s).now = s.now ∧ (wakeKeepers s).freeCtr =
    s.freeCtr ∧ (wakeKeepers s).out = s.out ∧ (wakeKeepers s).pending = s.pending := by simp [wakeKeepers]

/-- `wakeChannels` changes `cache` only. -/
@[simp] theorem wakeChannels_frame (s : State) :
    (wakeChannels s).mode = s.mode ∧ (wakeChannels s).power = s.power ∧ (wakeChannels s).stop = s.stop ∧ (wakeChannels s).recorder =
    s.recorder ∧ (wakeChannels s).ports = s.ports ∧ (wakeChannels s).fns = s.fns ∧ (wakeChannels s).ctls = s.ctls ∧ (wakeChannels
    s).reads = s.reads ∧ (wakeChannels s).decks = s.decks ∧ (wakeChannels s).gauge = s.gauge ∧ (wakeChannels s).vault = s.vault ∧
    (wakeChannels s).fabric = s.fabric ∧ (wakeChannels s).sched = s.sched ∧ (wakeChannels s).feats = s.feats ∧ (wakeChannels s).members
    = s.members ∧ (wakeChannels s).guard = s.guard ∧ (wakeChannels s).trust = s.trust ∧ (wakeChannels s).now = s.now ∧ (wakeChannels
    s).freeCtr = s.freeCtr ∧ (wakeChannels s).out = s.out ∧ (wakeChannels s).pending = s.pending := by simp [wakeChannels]

/-- `evalCache` changes `stop`, `recorder`, `cache`, `out` only. -/
@[simp] theorem evalCache_frame (s : State) :
    (evalCache s).mode = s.mode ∧ (evalCache s).power = s.power ∧ (evalCache s).ports = s.ports ∧ (evalCache s).fns = s.fns ∧ (evalCache
    s).ctls = s.ctls ∧ (evalCache s).reads = s.reads ∧ (evalCache s).decks = s.decks ∧ (evalCache s).gauge = s.gauge ∧ (evalCache
    s).vault = s.vault ∧ (evalCache s).fabric = s.fabric ∧ (evalCache s).sched = s.sched ∧ (evalCache s).feats = s.feats ∧ (evalCache
    s).members = s.members ∧ (evalCache s).guard = s.guard ∧ (evalCache s).trust = s.trust ∧ (evalCache s).now = s.now ∧ (evalCache
    s).freeCtr = s.freeCtr ∧ (evalCache s).pending = s.pending := by simp [evalCache]

/-- `measureWindow` changes `sched` only. -/
@[simp] theorem measureWindow_frame (m : WindowMeas) (g : Grants) (reqs : List Int) (capMw : Nat) (s : State) :
    (measureWindow m g reqs capMw s).mode = s.mode ∧ (measureWindow m g reqs capMw s).power = s.power ∧ (measureWindow m g reqs capMw
    s).stop = s.stop ∧ (measureWindow m g reqs capMw s).recorder = s.recorder ∧ (measureWindow m g reqs capMw s).ports = s.ports ∧
    (measureWindow m g reqs capMw s).fns = s.fns ∧ (measureWindow m g reqs capMw s).ctls = s.ctls ∧ (measureWindow m g reqs capMw
    s).cache = s.cache ∧ (measureWindow m g reqs capMw s).reads = s.reads ∧ (measureWindow m g reqs capMw s).decks = s.decks ∧
    (measureWindow m g reqs capMw s).gauge = s.gauge ∧ (measureWindow m g reqs capMw s).vault = s.vault ∧ (measureWindow m g reqs capMw
    s).fabric = s.fabric ∧ (measureWindow m g reqs capMw s).feats = s.feats ∧ (measureWindow m g reqs capMw s).members = s.members ∧
    (measureWindow m g reqs capMw s).guard = s.guard ∧ (measureWindow m g reqs capMw s).trust = s.trust ∧ (measureWindow m g reqs capMw
    s).now = s.now ∧ (measureWindow m g reqs capMw s).freeCtr = s.freeCtr ∧ (measureWindow m g reqs capMw s).out = s.out ∧
    (measureWindow m g reqs capMw s).pending = s.pending := by simp [measureWindow]

/-- `setAllVolts` changes `sched`, `out` only. -/
@[simp] theorem setAllVolts_frame (s : State) :
    (setAllVolts s).mode = s.mode ∧ (setAllVolts s).power = s.power ∧ (setAllVolts s).stop = s.stop ∧ (setAllVolts s).recorder =
    s.recorder ∧ (setAllVolts s).ports = s.ports ∧ (setAllVolts s).fns = s.fns ∧ (setAllVolts s).ctls = s.ctls ∧ (setAllVolts s).cache =
    s.cache ∧ (setAllVolts s).reads = s.reads ∧ (setAllVolts s).decks = s.decks ∧ (setAllVolts s).gauge = s.gauge ∧ (setAllVolts
    s).vault = s.vault ∧ (setAllVolts s).fabric = s.fabric ∧ (setAllVolts s).feats = s.feats ∧ (setAllVolts s).members = s.members ∧
    (setAllVolts s).guard = s.guard ∧ (setAllVolts s).trust = s.trust ∧ (setAllVolts s).now = s.now ∧ (setAllVolts s).freeCtr =
    s.freeCtr ∧ (setAllVolts s).pending = s.pending := by simp [setAllVolts]

/-- `grantWindow` changes `mode`, `fabric`, `sched` only. -/
@[simp] theorem grantWindow_frame (m : WindowMeas) (s : State) :
    (grantWindow m s).1.power = s.power ∧ (grantWindow m s).1.stop = s.stop ∧ (grantWindow m s).1.recorder = s.recorder ∧ (grantWindow m
    s).1.ports = s.ports ∧ (grantWindow m s).1.fns = s.fns ∧ (grantWindow m s).1.ctls = s.ctls ∧ (grantWindow m s).1.cache = s.cache ∧
    (grantWindow m s).1.reads = s.reads ∧ (grantWindow m s).1.decks = s.decks ∧ (grantWindow m s).1.gauge = s.gauge ∧ (grantWindow m
    s).1.vault = s.vault ∧ (grantWindow m s).1.feats = s.feats ∧ (grantWindow m s).1.members = s.members ∧ (grantWindow m s).1.guard =
    s.guard ∧ (grantWindow m s).1.trust = s.trust ∧ (grantWindow m s).1.now = s.now ∧ (grantWindow m s).1.freeCtr = s.freeCtr ∧
    (grantWindow m s).1.out = s.out ∧ (grantWindow m s).1.pending = s.pending := by simp [grantWindow]

/-- `enterIdlePs` changes `mode`, `cache`, `fabric`, `sched`, `members`, `out` only. -/
@[simp] theorem enterIdlePs_frame (ps : Nat) (s : State) :
    (enterIdlePs ps s).power = s.power ∧ (enterIdlePs ps s).stop = s.stop ∧ (enterIdlePs ps s).recorder = s.recorder ∧ (enterIdlePs ps
    s).ports = s.ports ∧ (enterIdlePs ps s).fns = s.fns ∧ (enterIdlePs ps s).ctls = s.ctls ∧ (enterIdlePs ps s).reads = s.reads ∧
    (enterIdlePs ps s).decks = s.decks ∧ (enterIdlePs ps s).gauge = s.gauge ∧ (enterIdlePs ps s).vault = s.vault ∧ (enterIdlePs ps
    s).feats = s.feats ∧ (enterIdlePs ps s).guard = s.guard ∧ (enterIdlePs ps s).trust = s.trust ∧ (enterIdlePs ps s).now = s.now ∧
    (enterIdlePs ps s).freeCtr = s.freeCtr ∧ (enterIdlePs ps s).pending = s.pending := by simp [enterIdlePs]

/-- `goToPs` changes `mode`, `cache`, `fabric`, `sched`, `members`, `out` only. -/
@[simp] theorem goToPs_frame (ps : Nat) (s : State) :
    (goToPs ps s).power = s.power ∧ (goToPs ps s).stop = s.stop ∧ (goToPs ps s).recorder = s.recorder ∧ (goToPs ps s).ports = s.ports ∧
    (goToPs ps s).fns = s.fns ∧ (goToPs ps s).ctls = s.ctls ∧ (goToPs ps s).reads = s.reads ∧ (goToPs ps s).decks = s.decks ∧ (goToPs ps
    s).gauge = s.gauge ∧ (goToPs ps s).vault = s.vault ∧ (goToPs ps s).feats = s.feats ∧ (goToPs ps s).guard = s.guard ∧ (goToPs ps
    s).trust = s.trust ∧ (goToPs ps s).now = s.now ∧ (goToPs ps s).freeCtr = s.freeCtr ∧ (goToPs ps s).pending = s.pending := by simp [goToPs]

/-- `avsRules` changes `mode`, `recorder`, `ports`, `fns`, `sched`, `freeCtr`, `out` only. -/
@[simp] theorem avsRules_frame (m : WindowMeas) (s : State) :
    (avsRules m s).power = s.power ∧ (avsRules m s).stop = s.stop ∧ (avsRules m s).ctls = s.ctls ∧ (avsRules m s).cache = s.cache ∧
    (avsRules m s).reads = s.reads ∧ (avsRules m s).decks = s.decks ∧ (avsRules m s).gauge = s.gauge ∧ (avsRules m s).vault = s.vault ∧
    (avsRules m s).fabric = s.fabric ∧ (avsRules m s).feats = s.feats ∧ (avsRules m s).members = s.members ∧ (avsRules m s).guard =
    s.guard ∧ (avsRules m s).trust = s.trust ∧ (avsRules m s).now = s.now ∧ (avsRules m s).pending = s.pending := by simp [avsRules]

/-- `excessRule` changes `recorder`, `sched` only. -/
@[simp] theorem excessRule_frame (left : Int) (trump : Int) (capMw : Nat) (s : State) :
    (excessRule left trump capMw s).mode = s.mode ∧ (excessRule left trump capMw s).power = s.power ∧ (excessRule left trump capMw
    s).stop = s.stop ∧ (excessRule left trump capMw s).ports = s.ports ∧ (excessRule left trump capMw s).fns = s.fns ∧ (excessRule left
    trump capMw s).ctls = s.ctls ∧ (excessRule left trump capMw s).cache = s.cache ∧ (excessRule left trump capMw s).reads = s.reads ∧
    (excessRule left trump capMw s).decks = s.decks ∧ (excessRule left trump capMw s).gauge = s.gauge ∧ (excessRule left trump capMw
    s).vault = s.vault ∧ (excessRule left trump capMw s).fabric = s.fabric ∧ (excessRule left trump capMw s).feats = s.feats ∧
    (excessRule left trump capMw s).members = s.members ∧ (excessRule left trump capMw s).guard = s.guard ∧ (excessRule left trump capMw
    s).trust = s.trust ∧ (excessRule left trump capMw s).now = s.now ∧ (excessRule left trump capMw s).freeCtr = s.freeCtr ∧ (excessRule
    left trump capMw s).out = s.out ∧ (excessRule left trump capMw s).pending = s.pending := by simp [excessRule]

/-- `settlePs` changes `mode`, `cache`, `fabric`, `sched`, `members`, `out` only. -/
@[simp] theorem settlePs_frame (s : State) :
    (settlePs s).power = s.power ∧ (settlePs s).stop = s.stop ∧ (settlePs s).recorder = s.recorder ∧ (settlePs s).ports = s.ports ∧
    (settlePs s).fns = s.fns ∧ (settlePs s).ctls = s.ctls ∧ (settlePs s).reads = s.reads ∧ (settlePs s).decks = s.decks ∧ (settlePs
    s).gauge = s.gauge ∧ (settlePs s).vault = s.vault ∧ (settlePs s).feats = s.feats ∧ (settlePs s).guard = s.guard ∧ (settlePs s).trust
    = s.trust ∧ (settlePs s).now = s.now ∧ (settlePs s).freeCtr = s.freeCtr ∧ (settlePs s).pending = s.pending := by
  simp only [settlePs]
  (repeat' split) <;> (first | rfl | simp)

/-- `ungateBlocks` changes `fabric` only. -/
@[simp] theorem ungateBlocks_frame (m : WindowMeas) (s : State) :
    (ungateBlocks m s).mode = s.mode ∧ (ungateBlocks m s).power = s.power ∧ (ungateBlocks m s).stop = s.stop ∧ (ungateBlocks m
    s).recorder = s.recorder ∧ (ungateBlocks m s).ports = s.ports ∧ (ungateBlocks m s).fns = s.fns ∧ (ungateBlocks m s).ctls = s.ctls ∧
    (ungateBlocks m s).cache = s.cache ∧ (ungateBlocks m s).reads = s.reads ∧ (ungateBlocks m s).decks = s.decks ∧ (ungateBlocks m
    s).gauge = s.gauge ∧ (ungateBlocks m s).vault = s.vault ∧ (ungateBlocks m s).sched = s.sched ∧ (ungateBlocks m s).feats = s.feats ∧
    (ungateBlocks m s).members = s.members ∧ (ungateBlocks m s).guard = s.guard ∧ (ungateBlocks m s).trust = s.trust ∧ (ungateBlocks m
    s).now = s.now ∧ (ungateBlocks m s).freeCtr = s.freeCtr ∧ (ungateBlocks m s).out = s.out ∧ (ungateBlocks m s).pending = s.pending := by simp [ungateBlocks]

/-- `readRails` changes `out` only. -/
@[simp] theorem readRails_frame (s : State) :
    (readRails s).mode = s.mode ∧ (readRails s).power = s.power ∧ (readRails s).stop = s.stop ∧ (readRails s).recorder = s.recorder ∧
    (readRails s).ports = s.ports ∧ (readRails s).fns = s.fns ∧ (readRails s).ctls = s.ctls ∧ (readRails s).cache = s.cache ∧ (readRails
    s).reads = s.reads ∧ (readRails s).decks = s.decks ∧ (readRails s).gauge = s.gauge ∧ (readRails s).vault = s.vault ∧ (readRails
    s).fabric = s.fabric ∧ (readRails s).sched = s.sched ∧ (readRails s).feats = s.feats ∧ (readRails s).members = s.members ∧
    (readRails s).guard = s.guard ∧ (readRails s).trust = s.trust ∧ (readRails s).now = s.now ∧ (readRails s).freeCtr = s.freeCtr ∧
    (readRails s).pending = s.pending := by simp [readRails]

end Sys2Proof.Machine
end

