-- ==== Sys2Proof/Laws/Drives.lean ====
section
/-!
SUPPORT. The frames of the operations of Machine/Drives.lean: which units of the state each leaves alone.
-/

namespace Sys2Proof.Machine

/-- `noteSlots` changes `members` only. -/
@[simp] theorem noteSlots_frame (old : State) (s : State) :
    (noteSlots old s).mode = s.mode ∧ (noteSlots old s).power = s.power ∧ (noteSlots old s).stop = s.stop ∧ (noteSlots old s).recorder =
    s.recorder ∧ (noteSlots old s).ports = s.ports ∧ (noteSlots old s).fns = s.fns ∧ (noteSlots old s).ctls = s.ctls ∧ (noteSlots old
    s).cache = s.cache ∧ (noteSlots old s).reads = s.reads ∧ (noteSlots old s).decks = s.decks ∧ (noteSlots old s).gauge = s.gauge ∧
    (noteSlots old s).vault = s.vault ∧ (noteSlots old s).fabric = s.fabric ∧ (noteSlots old s).sched = s.sched ∧ (noteSlots old
    s).feats = s.feats ∧ (noteSlots old s).guard = s.guard ∧ (noteSlots old s).trust = s.trust ∧ (noteSlots old s).now = s.now ∧
    (noteSlots old s).freeCtr = s.freeCtr ∧ (noteSlots old s).out = s.out ∧ (noteSlots old s).pending = s.pending := by simp [noteSlots]

/-- `noteAll` changes `decks`, `members` only. -/
@[simp] theorem noteAll_frame (old : State) (s : State) :
    (noteAll old s).mode = s.mode ∧ (noteAll old s).power = s.power ∧ (noteAll old s).stop = s.stop ∧ (noteAll old s).recorder =
    s.recorder ∧ (noteAll old s).ports = s.ports ∧ (noteAll old s).fns = s.fns ∧ (noteAll old s).ctls = s.ctls ∧ (noteAll old s).cache =
    s.cache ∧ (noteAll old s).reads = s.reads ∧ (noteAll old s).gauge = s.gauge ∧ (noteAll old s).vault = s.vault ∧ (noteAll old
    s).fabric = s.fabric ∧ (noteAll old s).sched = s.sched ∧ (noteAll old s).feats = s.feats ∧ (noteAll old s).guard = s.guard ∧
    (noteAll old s).trust = s.trust ∧ (noteAll old s).now = s.now ∧ (noteAll old s).freeCtr = s.freeCtr ∧ (noteAll old s).out = s.out ∧
    (noteAll old s).pending = s.pending := by simp [noteAll]

/-- `charge` changes `recorder`, `ports`, `fns`, `ctls`, `members`, `out` only. -/
@[simp] theorem charge_frame (x : Nat) (n : Nat) (s : State) :
    (charge x n s).mode = s.mode ∧ (charge x n s).power = s.power ∧ (charge x n s).stop = s.stop ∧ (charge x n s).cache = s.cache ∧
    (charge x n s).reads = s.reads ∧ (charge x n s).decks = s.decks ∧ (charge x n s).gauge = s.gauge ∧ (charge x n s).vault = s.vault ∧
    (charge x n s).fabric = s.fabric ∧ (charge x n s).sched = s.sched ∧ (charge x n s).feats = s.feats ∧ (charge x n s).guard = s.guard
    ∧ (charge x n s).trust = s.trust ∧ (charge x n s).now = s.now ∧ (charge x n s).freeCtr = s.freeCtr ∧ (charge x n s).pending =
    s.pending := by simp [charge]

/-- `chargeMedia` changes `recorder`, `ports`, `fns`, `ctls`, `members`, `out` only. -/
@[simp] theorem chargeMedia_frame (x : Nat) (s : State) :
    (chargeMedia x s).mode = s.mode ∧ (chargeMedia x s).power = s.power ∧ (chargeMedia x s).stop = s.stop ∧ (chargeMedia x s).cache =
    s.cache ∧ (chargeMedia x s).reads = s.reads ∧ (chargeMedia x s).decks = s.decks ∧ (chargeMedia x s).gauge = s.gauge ∧ (chargeMedia x
    s).vault = s.vault ∧ (chargeMedia x s).fabric = s.fabric ∧ (chargeMedia x s).sched = s.sched ∧ (chargeMedia x s).feats = s.feats ∧
    (chargeMedia x s).guard = s.guard ∧ (chargeMedia x s).trust = s.trust ∧ (chargeMedia x s).now = s.now ∧ (chargeMedia x s).freeCtr =
    s.freeCtr ∧ (chargeMedia x s).pending = s.pending := by simp [chargeMedia]

/-- `chargeTag` changes `recorder`, `ports`, `fns`, `ctls`, `members`, `out` only. -/
@[simp] theorem chargeTag_frame (x : Nat) (s : State) :
    (chargeTag x s).mode = s.mode ∧ (chargeTag x s).power = s.power ∧ (chargeTag x s).stop = s.stop ∧ (chargeTag x s).cache = s.cache ∧
    (chargeTag x s).reads = s.reads ∧ (chargeTag x s).decks = s.decks ∧ (chargeTag x s).gauge = s.gauge ∧ (chargeTag x s).vault =
    s.vault ∧ (chargeTag x s).fabric = s.fabric ∧ (chargeTag x s).sched = s.sched ∧ (chargeTag x s).feats = s.feats ∧ (chargeTag x
    s).guard = s.guard ∧ (chargeTag x s).trust = s.trust ∧ (chargeTag x s).now = s.now ∧ (chargeTag x s).freeCtr = s.freeCtr ∧
    (chargeTag x s).pending = s.pending := by simp [chargeTag]

end Sys2Proof.Machine
end

