-- ==== Sys2Proof/Laws/Journal.lean ====
section
/-!
SUPPORT. The frames of the operations of Machine/Journal.lean: which units of the state each leaves alone.
-/

namespace Sys2Proof.Machine

/-- `pushRing1` changes `recorder`, `members`, `out` only. -/
@[simp] theorem pushRing1_frame (id : Nat) (d : Deck) (g : Ring) (r : JRec) (s : State) :
    (pushRing1 id d g r s).2.mode = s.mode ∧ (pushRing1 id d g r s).2.power = s.power ∧ (pushRing1 id d g r s).2.stop = s.stop ∧
    (pushRing1 id d g r s).2.ports = s.ports ∧ (pushRing1 id d g r s).2.fns = s.fns ∧ (pushRing1 id d g r s).2.ctls = s.ctls ∧
    (pushRing1 id d g r s).2.cache = s.cache ∧ (pushRing1 id d g r s).2.reads = s.reads ∧ (pushRing1 id d g r s).2.decks = s.decks ∧
    (pushRing1 id d g r s).2.gauge = s.gauge ∧ (pushRing1 id d g r s).2.vault = s.vault ∧ (pushRing1 id d g r s).2.fabric = s.fabric ∧
    (pushRing1 id d g r s).2.sched = s.sched ∧ (pushRing1 id d g r s).2.feats = s.feats ∧ (pushRing1 id d g r s).2.guard = s.guard ∧
    (pushRing1 id d g r s).2.trust = s.trust ∧ (pushRing1 id d g r s).2.now = s.now ∧ (pushRing1 id d g r s).2.freeCtr = s.freeCtr ∧
    (pushRing1 id d g r s).2.pending = s.pending := by
  simp only [pushRing1]
  (repeat' split) <;> (first | rfl | simp)

/-- `pushKeepers` changes `recorder`, `decks`, `members`, `out` only. -/
@[simp] theorem pushKeepers_frame (id : Nat) (r : JRec) (s : State) :
    (pushKeepers id r s).mode = s.mode ∧ (pushKeepers id r s).power = s.power ∧ (pushKeepers id r s).stop = s.stop ∧ (pushKeepers id r
    s).ports = s.ports ∧ (pushKeepers id r s).fns = s.fns ∧ (pushKeepers id r s).ctls = s.ctls ∧ (pushKeepers id r s).cache = s.cache ∧
    (pushKeepers id r s).reads = s.reads ∧ (pushKeepers id r s).gauge = s.gauge ∧ (pushKeepers id r s).vault = s.vault ∧ (pushKeepers id
    r s).fabric = s.fabric ∧ (pushKeepers id r s).sched = s.sched ∧ (pushKeepers id r s).feats = s.feats ∧ (pushKeepers id r s).guard =
    s.guard ∧ (pushKeepers id r s).trust = s.trust ∧ (pushKeepers id r s).now = s.now ∧ (pushKeepers id r s).freeCtr = s.freeCtr ∧
    (pushKeepers id r s).pending = s.pending := by
  simp only [pushKeepers]
  (repeat' split) <;> (first | rfl | simp (disch := (intros; (try dsimp only); (repeat' split) <;> (first | rfl | simp | skip))))

/-- `headerIfMoved` changes `members`, `out` only. -/
@[simp] theorem headerIfMoved_frame (d : Deck) (g : Ring) (s : State) :
    (headerIfMoved d g s).2.mode = s.mode ∧ (headerIfMoved d g s).2.power = s.power ∧ (headerIfMoved d g s).2.stop = s.stop ∧
    (headerIfMoved d g s).2.recorder = s.recorder ∧ (headerIfMoved d g s).2.ports = s.ports ∧ (headerIfMoved d g s).2.fns = s.fns ∧
    (headerIfMoved d g s).2.ctls = s.ctls ∧ (headerIfMoved d g s).2.cache = s.cache ∧ (headerIfMoved d g s).2.reads = s.reads ∧
    (headerIfMoved d g s).2.decks = s.decks ∧ (headerIfMoved d g s).2.gauge = s.gauge ∧ (headerIfMoved d g s).2.vault = s.vault ∧
    (headerIfMoved d g s).2.fabric = s.fabric ∧ (headerIfMoved d g s).2.sched = s.sched ∧ (headerIfMoved d g s).2.feats = s.feats ∧
    (headerIfMoved d g s).2.guard = s.guard ∧ (headerIfMoved d g s).2.trust = s.trust ∧ (headerIfMoved d g s).2.now = s.now ∧
    (headerIfMoved d g s).2.freeCtr = s.freeCtr ∧ (headerIfMoved d g s).2.pending = s.pending := by
  simp only [headerIfMoved]
  (repeat' split) <;> (first | rfl | simp)

/-- `advanceHeads` changes `decks`, `members`, `out` only. -/
@[simp] theorem advanceHeads_frame (id : Nat) (s : State) :
    (advanceHeads id s).mode = s.mode ∧ (advanceHeads id s).power = s.power ∧ (advanceHeads id s).stop = s.stop ∧ (advanceHeads id
    s).recorder = s.recorder ∧ (advanceHeads id s).ports = s.ports ∧ (advanceHeads id s).fns = s.fns ∧ (advanceHeads id s).ctls = s.ctls
    ∧ (advanceHeads id s).cache = s.cache ∧ (advanceHeads id s).reads = s.reads ∧ (advanceHeads id s).gauge = s.gauge ∧ (advanceHeads id
    s).vault = s.vault ∧ (advanceHeads id s).fabric = s.fabric ∧ (advanceHeads id s).sched = s.sched ∧ (advanceHeads id s).feats =
    s.feats ∧ (advanceHeads id s).guard = s.guard ∧ (advanceHeads id s).trust = s.trust ∧ (advanceHeads id s).now = s.now ∧
    (advanceHeads id s).freeCtr = s.freeCtr ∧ (advanceHeads id s).pending = s.pending := by
  simp only [advanceHeads]
  (repeat' split) <;> (first | rfl | simp (disch := (intros; (try dsimp only); (repeat' split) <;> (first | rfl | simp | skip))))

/-- `appendGen` changes `recorder`, `decks`, `members`, `out` only. -/
@[simp] theorem appendGen_frame (id : Nat) (gen : Nat) (body : JBody) (keep : Bool) (s : State) :
    (appendGen id gen body keep s).2.mode = s.mode ∧ (appendGen id gen body keep s).2.power = s.power ∧ (appendGen id gen body keep
    s).2.stop = s.stop ∧ (appendGen id gen body keep s).2.ports = s.ports ∧ (appendGen id gen body keep s).2.fns = s.fns ∧ (appendGen id
    gen body keep s).2.ctls = s.ctls ∧ (appendGen id gen body keep s).2.cache = s.cache ∧ (appendGen id gen body keep s).2.reads =
    s.reads ∧ (appendGen id gen body keep s).2.gauge = s.gauge ∧ (appendGen id gen body keep s).2.vault = s.vault ∧ (appendGen id gen
    body keep s).2.fabric = s.fabric ∧ (appendGen id gen body keep s).2.sched = s.sched ∧ (appendGen id gen body keep s).2.feats =
    s.feats ∧ (appendGen id gen body keep s).2.guard = s.guard ∧ (appendGen id gen body keep s).2.trust = s.trust ∧ (appendGen id gen
    body keep s).2.now = s.now ∧ (appendGen id gen body keep s).2.freeCtr = s.freeCtr ∧ (appendGen id gen body keep s).2.pending =
    s.pending := by
  simp only [appendGen]
  (repeat' split) <;> (first | rfl | simp)

/-- `appendRec` changes `recorder`, `decks`, `members`, `out` only. -/
@[simp] theorem appendRec_frame (id : Nat) (body : JBody) (keep : Bool) (s : State) :
    (appendRec id body keep s).2.mode = s.mode ∧ (appendRec id body keep s).2.power = s.power ∧ (appendRec id body keep s).2.stop =
    s.stop ∧ (appendRec id body keep s).2.ports = s.ports ∧ (appendRec id body keep s).2.fns = s.fns ∧ (appendRec id body keep s).2.ctls
    = s.ctls ∧ (appendRec id body keep s).2.cache = s.cache ∧ (appendRec id body keep s).2.reads = s.reads ∧ (appendRec id body keep
    s).2.gauge = s.gauge ∧ (appendRec id body keep s).2.vault = s.vault ∧ (appendRec id body keep s).2.fabric = s.fabric ∧ (appendRec id
    body keep s).2.sched = s.sched ∧ (appendRec id body keep s).2.feats = s.feats ∧ (appendRec id body keep s).2.guard = s.guard ∧
    (appendRec id body keep s).2.trust = s.trust ∧ (appendRec id body keep s).2.now = s.now ∧ (appendRec id body keep s).2.freeCtr =
    s.freeCtr ∧ (appendRec id body keep s).2.pending = s.pending := by simp [appendRec]

/-- `progressRec` changes `recorder`, `decks`, `members`, `out` only. -/
@[simp] theorem progressRec_frame (id : Nat) (p : Progress) (s : State) :
    (progressRec id p s).mode = s.mode ∧ (progressRec id p s).power = s.power ∧ (progressRec id p s).stop = s.stop ∧ (progressRec id p
    s).ports = s.ports ∧ (progressRec id p s).fns = s.fns ∧ (progressRec id p s).ctls = s.ctls ∧ (progressRec id p s).cache = s.cache ∧
    (progressRec id p s).reads = s.reads ∧ (progressRec id p s).gauge = s.gauge ∧ (progressRec id p s).vault = s.vault ∧ (progressRec id
    p s).fabric = s.fabric ∧ (progressRec id p s).sched = s.sched ∧ (progressRec id p s).feats = s.feats ∧ (progressRec id p s).guard =
    s.guard ∧ (progressRec id p s).trust = s.trust ∧ (progressRec id p s).now = s.now ∧ (progressRec id p s).freeCtr = s.freeCtr ∧
    (progressRec id p s).pending = s.pending := by simp [progressRec]

/-- `beginReplica` changes `recorder`, `decks`, `members`, `out` only. -/
@[simp] theorem beginReplica_frame (id : Nat) (mem : Nat) (s : State) :
    (beginReplica id mem s).mode = s.mode ∧ (beginReplica id mem s).power = s.power ∧ (beginReplica id mem s).stop = s.stop ∧
    (beginReplica id mem s).ports = s.ports ∧ (beginReplica id mem s).fns = s.fns ∧ (beginReplica id mem s).ctls = s.ctls ∧
    (beginReplica id mem s).cache = s.cache ∧ (beginReplica id mem s).reads = s.reads ∧ (beginReplica id mem s).gauge = s.gauge ∧
    (beginReplica id mem s).vault = s.vault ∧ (beginReplica id mem s).fabric = s.fabric ∧ (beginReplica id mem s).sched = s.sched ∧
    (beginReplica id mem s).feats = s.feats ∧ (beginReplica id mem s).guard = s.guard ∧ (beginReplica id mem s).trust = s.trust ∧
    (beginReplica id mem s).now = s.now ∧ (beginReplica id mem s).freeCtr = s.freeCtr ∧ (beginReplica id mem s).pending = s.pending := by
  simp only [beginReplica]
  (repeat' split) <;> (first | rfl | simp)

/-- `improveKeepers` changes `recorder`, `ports`, `fns`, `ctls`, `decks`, `members`, `guard`, `out` only. -/
@[simp] theorem improveKeepers_frame (id : Nat) (s : State) :
    (improveKeepers id s).mode = s.mode ∧ (improveKeepers id s).power = s.power ∧ (improveKeepers id s).stop = s.stop ∧ (improveKeepers
    id s).cache = s.cache ∧ (improveKeepers id s).reads = s.reads ∧ (improveKeepers id s).gauge = s.gauge ∧ (improveKeepers id s).vault
    = s.vault ∧ (improveKeepers id s).fabric = s.fabric ∧ (improveKeepers id s).sched = s.sched ∧ (improveKeepers id s).feats = s.feats
    ∧ (improveKeepers id s).trust = s.trust ∧ (improveKeepers id s).now = s.now ∧ (improveKeepers id s).freeCtr = s.freeCtr ∧
    (improveKeepers id s).pending = s.pending := by
  simp only [improveKeepers]
  (repeat' split) <;> (first | rfl | simp)

/-- `askLock` changes `decks` only. -/
@[simp] theorem askLock_frame (id : Nat) (q : LockReq) (s : State) :
    (askLock id q s).mode = s.mode ∧ (askLock id q s).power = s.power ∧ (askLock id q s).stop = s.stop ∧ (askLock id q s).recorder =
    s.recorder ∧ (askLock id q s).ports = s.ports ∧ (askLock id q s).fns = s.fns ∧ (askLock id q s).ctls = s.ctls ∧ (askLock id q
    s).cache = s.cache ∧ (askLock id q s).reads = s.reads ∧ (askLock id q s).gauge = s.gauge ∧ (askLock id q s).vault = s.vault ∧
    (askLock id q s).fabric = s.fabric ∧ (askLock id q s).sched = s.sched ∧ (askLock id q s).feats = s.feats ∧ (askLock id q s).members
    = s.members ∧ (askLock id q s).guard = s.guard ∧ (askLock id q s).trust = s.trust ∧ (askLock id q s).now = s.now ∧ (askLock id q
    s).freeCtr = s.freeCtr ∧ (askLock id q s).out = s.out ∧ (askLock id q s).pending = s.pending := by simp [askLock]

/-- `grantNext` changes `decks` only. -/
@[simp] theorem grantNext_frame (id : Nat) (s : State) (q : LockReq) :
    (grantNext id s q).mode = s.mode ∧ (grantNext id s q).power = s.power ∧ (grantNext id s q).stop = s.stop ∧ (grantNext id s
    q).recorder = s.recorder ∧ (grantNext id s q).ports = s.ports ∧ (grantNext id s q).fns = s.fns ∧ (grantNext id s q).ctls = s.ctls ∧
    (grantNext id s q).cache = s.cache ∧ (grantNext id s q).reads = s.reads ∧ (grantNext id s q).gauge = s.gauge ∧ (grantNext id s
    q).vault = s.vault ∧ (grantNext id s q).fabric = s.fabric ∧ (grantNext id s q).sched = s.sched ∧ (grantNext id s q).feats = s.feats
    ∧ (grantNext id s q).members = s.members ∧ (grantNext id s q).guard = s.guard ∧ (grantNext id s q).trust = s.trust ∧ (grantNext id s
    q).now = s.now ∧ (grantNext id s q).freeCtr = s.freeCtr ∧ (grantNext id s q).out = s.out ∧ (grantNext id s q).pending = s.pending := by
  simp only [grantNext]
  (repeat' split) <;> (first | rfl | simp)

/-- `grantLocks` changes `decks` only. -/
@[simp] theorem grantLocks_frame (s : State) :
    (grantLocks s).mode = s.mode ∧ (grantLocks s).power = s.power ∧ (grantLocks s).stop = s.stop ∧ (grantLocks s).recorder = s.recorder
    ∧ (grantLocks s).ports = s.ports ∧ (grantLocks s).fns = s.fns ∧ (grantLocks s).ctls = s.ctls ∧ (grantLocks s).cache = s.cache ∧
    (grantLocks s).reads = s.reads ∧ (grantLocks s).gauge = s.gauge ∧ (grantLocks s).vault = s.vault ∧ (grantLocks s).fabric = s.fabric
    ∧ (grantLocks s).sched = s.sched ∧ (grantLocks s).feats = s.feats ∧ (grantLocks s).members = s.members ∧ (grantLocks s).guard =
    s.guard ∧ (grantLocks s).trust = s.trust ∧ (grantLocks s).now = s.now ∧ (grantLocks s).freeCtr = s.freeCtr ∧ (grantLocks s).out =
    s.out ∧ (grantLocks s).pending = s.pending := by simp [grantLocks]

/-- `serveEntries` changes `decks` only. -/
@[simp] theorem serveEntries_frame (id : Nat) (s : State) :
    (serveEntries id s).mode = s.mode ∧ (serveEntries id s).power = s.power ∧ (serveEntries id s).stop = s.stop ∧ (serveEntries id
    s).recorder = s.recorder ∧ (serveEntries id s).ports = s.ports ∧ (serveEntries id s).fns = s.fns ∧ (serveEntries id s).ctls = s.ctls
    ∧ (serveEntries id s).cache = s.cache ∧ (serveEntries id s).reads = s.reads ∧ (serveEntries id s).gauge = s.gauge ∧ (serveEntries id
    s).vault = s.vault ∧ (serveEntries id s).fabric = s.fabric ∧ (serveEntries id s).sched = s.sched ∧ (serveEntries id s).feats =
    s.feats ∧ (serveEntries id s).members = s.members ∧ (serveEntries id s).guard = s.guard ∧ (serveEntries id s).trust = s.trust ∧
    (serveEntries id s).now = s.now ∧ (serveEntries id s).freeCtr = s.freeCtr ∧ (serveEntries id s).out = s.out ∧ (serveEntries id
    s).pending = s.pending := by
  simp only [serveEntries]
  (repeat' split) <;> (first | rfl | simp)

/-- `endLock` changes `decks` only. -/
@[simp] theorem endLock_frame (id : Nat) (q : LockReq) (s : State) :
    (endLock id q s).mode = s.mode ∧ (endLock id q s).power = s.power ∧ (endLock id q s).stop = s.stop ∧ (endLock id q s).recorder =
    s.recorder ∧ (endLock id q s).ports = s.ports ∧ (endLock id q s).fns = s.fns ∧ (endLock id q s).ctls = s.ctls ∧ (endLock id q
    s).cache = s.cache ∧ (endLock id q s).reads = s.reads ∧ (endLock id q s).gauge = s.gauge ∧ (endLock id q s).vault = s.vault ∧
    (endLock id q s).fabric = s.fabric ∧ (endLock id q s).sched = s.sched ∧ (endLock id q s).feats = s.feats ∧ (endLock id q s).members
    = s.members ∧ (endLock id q s).guard = s.guard ∧ (endLock id q s).trust = s.trust ∧ (endLock id q s).now = s.now ∧ (endLock id q
    s).freeCtr = s.freeCtr ∧ (endLock id q s).out = s.out ∧ (endLock id q s).pending = s.pending := by
  simp only [endLock]
  (repeat' split) <;> (first | rfl | simp)

/-- `nameKeepers` changes `decks` only. -/
@[simp] theorem nameKeepers_frame (id : Nat) (s : State) :
    (nameKeepers id s).mode = s.mode ∧ (nameKeepers id s).power = s.power ∧ (nameKeepers id s).stop = s.stop ∧ (nameKeepers id
    s).recorder = s.recorder ∧ (nameKeepers id s).ports = s.ports ∧ (nameKeepers id s).fns = s.fns ∧ (nameKeepers id s).ctls = s.ctls ∧
    (nameKeepers id s).cache = s.cache ∧ (nameKeepers id s).reads = s.reads ∧ (nameKeepers id s).gauge = s.gauge ∧ (nameKeepers id
    s).vault = s.vault ∧ (nameKeepers id s).fabric = s.fabric ∧ (nameKeepers id s).sched = s.sched ∧ (nameKeepers id s).feats = s.feats
    ∧ (nameKeepers id s).members = s.members ∧ (nameKeepers id s).guard = s.guard ∧ (nameKeepers id s).trust = s.trust ∧ (nameKeepers id
    s).now = s.now ∧ (nameKeepers id s).freeCtr = s.freeCtr ∧ (nameKeepers id s).out = s.out ∧ (nameKeepers id s).pending = s.pending := by simp [nameKeepers]

/-- `closeTrim` changes `recorder`, `decks`, `members`, `out` only. -/
@[simp] theorem closeTrim_frame (id : Nat) (entries : Bool) (s : State) :
    (closeTrim id entries s).mode = s.mode ∧ (closeTrim id entries s).power = s.power ∧ (closeTrim id entries s).stop = s.stop ∧
    (closeTrim id entries s).ports = s.ports ∧ (closeTrim id entries s).fns = s.fns ∧ (closeTrim id entries s).ctls = s.ctls ∧
    (closeTrim id entries s).cache = s.cache ∧ (closeTrim id entries s).reads = s.reads ∧ (closeTrim id entries s).gauge = s.gauge ∧
    (closeTrim id entries s).vault = s.vault ∧ (closeTrim id entries s).fabric = s.fabric ∧ (closeTrim id entries s).sched = s.sched ∧
    (closeTrim id entries s).feats = s.feats ∧ (closeTrim id entries s).guard = s.guard ∧ (closeTrim id entries s).trust = s.trust ∧
    (closeTrim id entries s).now = s.now ∧ (closeTrim id entries s).freeCtr = s.freeCtr ∧ (closeTrim id entries s).pending = s.pending := by
  simp only [closeTrim]
  (repeat' split) <;> (first | rfl | simp)

/-- `releaseRec` changes `recorder`, `decks`, `members`, `out` only. -/
@[simp] theorem releaseRec_frame (id : Nat) (jseq : Nat) (s : State) :
    (releaseRec id jseq s).mode = s.mode ∧ (releaseRec id jseq s).power = s.power ∧ (releaseRec id jseq s).stop = s.stop ∧ (releaseRec
    id jseq s).ports = s.ports ∧ (releaseRec id jseq s).fns = s.fns ∧ (releaseRec id jseq s).ctls = s.ctls ∧ (releaseRec id jseq
    s).cache = s.cache ∧ (releaseRec id jseq s).reads = s.reads ∧ (releaseRec id jseq s).gauge = s.gauge ∧ (releaseRec id jseq s).vault
    = s.vault ∧ (releaseRec id jseq s).fabric = s.fabric ∧ (releaseRec id jseq s).sched = s.sched ∧ (releaseRec id jseq s).feats =
    s.feats ∧ (releaseRec id jseq s).guard = s.guard ∧ (releaseRec id jseq s).trust = s.trust ∧ (releaseRec id jseq s).now = s.now ∧
    (releaseRec id jseq s).freeCtr = s.freeCtr ∧ (releaseRec id jseq s).pending = s.pending := by
  simp only [releaseRec]
  (repeat' split) <;> (first | rfl | simp)

/-- `rewriteRing` changes `recorder`, `decks`, `members`, `out` only. -/
@[simp] theorem rewriteRing_frame (id : Nat) (g : Ring) (s : State) :
    (rewriteRing id g s).mode = s.mode ∧ (rewriteRing id g s).power = s.power ∧ (rewriteRing id g s).stop = s.stop ∧ (rewriteRing id g
    s).ports = s.ports ∧ (rewriteRing id g s).fns = s.fns ∧ (rewriteRing id g s).ctls = s.ctls ∧ (rewriteRing id g s).cache = s.cache ∧
    (rewriteRing id g s).reads = s.reads ∧ (rewriteRing id g s).gauge = s.gauge ∧ (rewriteRing id g s).vault = s.vault ∧ (rewriteRing id
    g s).fabric = s.fabric ∧ (rewriteRing id g s).sched = s.sched ∧ (rewriteRing id g s).feats = s.feats ∧ (rewriteRing id g s).guard =
    s.guard ∧ (rewriteRing id g s).trust = s.trust ∧ (rewriteRing id g s).now = s.now ∧ (rewriteRing id g s).freeCtr = s.freeCtr ∧
    (rewriteRing id g s).pending = s.pending := by
  simp only [rewriteRing]
  (repeat' split) <;> (first | rfl | simp)

/-- `demoteRing` changes `decks`, `members`, `out` only. -/
@[simp] theorem demoteRing_frame (id : Nat) (mem : Nat) (s : State) :
    (demoteRing id mem s).mode = s.mode ∧ (demoteRing id mem s).power = s.power ∧ (demoteRing id mem s).stop = s.stop ∧ (demoteRing id
    mem s).recorder = s.recorder ∧ (demoteRing id mem s).ports = s.ports ∧ (demoteRing id mem s).fns = s.fns ∧ (demoteRing id mem
    s).ctls = s.ctls ∧ (demoteRing id mem s).cache = s.cache ∧ (demoteRing id mem s).reads = s.reads ∧ (demoteRing id mem s).gauge =
    s.gauge ∧ (demoteRing id mem s).vault = s.vault ∧ (demoteRing id mem s).fabric = s.fabric ∧ (demoteRing id mem s).sched = s.sched ∧
    (demoteRing id mem s).feats = s.feats ∧ (demoteRing id mem s).guard = s.guard ∧ (demoteRing id mem s).trust = s.trust ∧ (demoteRing
    id mem s).now = s.now ∧ (demoteRing id mem s).freeCtr = s.freeCtr ∧ (demoteRing id mem s).pending = s.pending := by
  simp only [demoteRing]
  (repeat' split) <;> (first | rfl | simp)

/-- `dropKeeper` changes `mode`, `recorder`, `ports`, `fns`, `ctls`, `decks`, `members`, `guard`, `freeCtr`, `out` only. -/
@[simp] theorem dropKeeper_frame (id : Nat) (mem : Nat) (s : State) :
    (dropKeeper id mem s).power = s.power ∧ (dropKeeper id mem s).stop = s.stop ∧ (dropKeeper id mem s).cache = s.cache ∧ (dropKeeper id
    mem s).reads = s.reads ∧ (dropKeeper id mem s).gauge = s.gauge ∧ (dropKeeper id mem s).vault = s.vault ∧ (dropKeeper id mem
    s).fabric = s.fabric ∧ (dropKeeper id mem s).sched = s.sched ∧ (dropKeeper id mem s).feats = s.feats ∧ (dropKeeper id mem s).trust =
    s.trust ∧ (dropKeeper id mem s).now = s.now ∧ (dropKeeper id mem s).pending = s.pending := by
  simp only [dropKeeper]
  (repeat' split) <;> (first | rfl | simp)

/-- `retireKeeper` changes `recorder`, `decks`, `members`, `out` only. -/
@[simp] theorem retireKeeper_frame (id : Nat) (new : Nat) (s : State) :
    (retireKeeper id new s).mode = s.mode ∧ (retireKeeper id new s).power = s.power ∧ (retireKeeper id new s).stop = s.stop ∧
    (retireKeeper id new s).ports = s.ports ∧ (retireKeeper id new s).fns = s.fns ∧ (retireKeeper id new s).ctls = s.ctls ∧
    (retireKeeper id new s).cache = s.cache ∧ (retireKeeper id new s).reads = s.reads ∧ (retireKeeper id new s).gauge = s.gauge ∧
    (retireKeeper id new s).vault = s.vault ∧ (retireKeeper id new s).fabric = s.fabric ∧ (retireKeeper id new s).sched = s.sched ∧
    (retireKeeper id new s).feats = s.feats ∧ (retireKeeper id new s).guard = s.guard ∧ (retireKeeper id new s).trust = s.trust ∧
    (retireKeeper id new s).now = s.now ∧ (retireKeeper id new s).freeCtr = s.freeCtr ∧ (retireKeeper id new s).pending = s.pending := by
  simp only [retireKeeper]
  (repeat' split) <;> (first | rfl | simp)

/-- `payHeaders` changes `decks`, `members`, `out` only. -/
@[simp] theorem payHeaders_frame (id : Nat) (s : State) :
    (payHeaders id s).mode = s.mode ∧ (payHeaders id s).power = s.power ∧ (payHeaders id s).stop = s.stop ∧ (payHeaders id s).recorder =
    s.recorder ∧ (payHeaders id s).ports = s.ports ∧ (payHeaders id s).fns = s.fns ∧ (payHeaders id s).ctls = s.ctls ∧ (payHeaders id
    s).cache = s.cache ∧ (payHeaders id s).reads = s.reads ∧ (payHeaders id s).gauge = s.gauge ∧ (payHeaders id s).vault = s.vault ∧
    (payHeaders id s).fabric = s.fabric ∧ (payHeaders id s).sched = s.sched ∧ (payHeaders id s).feats = s.feats ∧ (payHeaders id
    s).guard = s.guard ∧ (payHeaders id s).trust = s.trust ∧ (payHeaders id s).now = s.now ∧ (payHeaders id s).freeCtr = s.freeCtr ∧
    (payHeaders id s).pending = s.pending := by
  simp only [payHeaders]
  (repeat' split) <;> (first | rfl | simp)

/-- `closeBatchOf` changes `recorder`, `decks`, `members`, `out` only. -/
@[simp] theorem closeBatchOf_frame (id : Nat) (newGen : Bool) (s : State) :
    (closeBatchOf id newGen s).mode = s.mode ∧ (closeBatchOf id newGen s).power = s.power ∧ (closeBatchOf id newGen s).stop = s.stop ∧
    (closeBatchOf id newGen s).ports = s.ports ∧ (closeBatchOf id newGen s).fns = s.fns ∧ (closeBatchOf id newGen s).ctls = s.ctls ∧
    (closeBatchOf id newGen s).cache = s.cache ∧ (closeBatchOf id newGen s).reads = s.reads ∧ (closeBatchOf id newGen s).gauge = s.gauge
    ∧ (closeBatchOf id newGen s).vault = s.vault ∧ (closeBatchOf id newGen s).fabric = s.fabric ∧ (closeBatchOf id newGen s).sched =
    s.sched ∧ (closeBatchOf id newGen s).feats = s.feats ∧ (closeBatchOf id newGen s).guard = s.guard ∧ (closeBatchOf id newGen s).trust
    = s.trust ∧ (closeBatchOf id newGen s).now = s.now ∧ (closeBatchOf id newGen s).freeCtr = s.freeCtr ∧ (closeBatchOf id newGen
    s).pending = s.pending := by
  simp only [closeBatchOf]
  (repeat' split) <;> (first | rfl | simp)

/-- `closeBatch` changes `recorder`, `decks`, `members`, `out` only. -/
@[simp] theorem closeBatch_frame (id : Nat) (s : State) :
    (closeBatch id s).mode = s.mode ∧ (closeBatch id s).power = s.power ∧ (closeBatch id s).stop = s.stop ∧ (closeBatch id s).ports =
    s.ports ∧ (closeBatch id s).fns = s.fns ∧ (closeBatch id s).ctls = s.ctls ∧ (closeBatch id s).cache = s.cache ∧ (closeBatch id
    s).reads = s.reads ∧ (closeBatch id s).gauge = s.gauge ∧ (closeBatch id s).vault = s.vault ∧ (closeBatch id s).fabric = s.fabric ∧
    (closeBatch id s).sched = s.sched ∧ (closeBatch id s).feats = s.feats ∧ (closeBatch id s).guard = s.guard ∧ (closeBatch id s).trust
    = s.trust ∧ (closeBatch id s).now = s.now ∧ (closeBatch id s).freeCtr = s.freeCtr ∧ (closeBatch id s).pending = s.pending := by simp [closeBatch]

/-- `releaseLock` changes `decks` only. -/
@[simp] theorem releaseLock_frame (id : Nat) (key : Nat) (s : State) :
    (releaseLock id key s).mode = s.mode ∧ (releaseLock id key s).power = s.power ∧ (releaseLock id key s).stop = s.stop ∧ (releaseLock
    id key s).recorder = s.recorder ∧ (releaseLock id key s).ports = s.ports ∧ (releaseLock id key s).fns = s.fns ∧ (releaseLock id key
    s).ctls = s.ctls ∧ (releaseLock id key s).cache = s.cache ∧ (releaseLock id key s).reads = s.reads ∧ (releaseLock id key s).gauge =
    s.gauge ∧ (releaseLock id key s).vault = s.vault ∧ (releaseLock id key s).fabric = s.fabric ∧ (releaseLock id key s).sched = s.sched
    ∧ (releaseLock id key s).feats = s.feats ∧ (releaseLock id key s).members = s.members ∧ (releaseLock id key s).guard = s.guard ∧
    (releaseLock id key s).trust = s.trust ∧ (releaseLock id key s).now = s.now ∧ (releaseLock id key s).freeCtr = s.freeCtr ∧
    (releaseLock id key s).out = s.out ∧ (releaseLock id key s).pending = s.pending := by simp [releaseLock]

/-- `payDue` changes `recorder`, `decks`, `members`, `out` only. -/
@[simp] theorem payDue_frame (id : Nat) (s : State) :
    (payDue id s).mode = s.mode ∧ (payDue id s).power = s.power ∧ (payDue id s).stop = s.stop ∧ (payDue id s).ports = s.ports ∧ (payDue
    id s).fns = s.fns ∧ (payDue id s).ctls = s.ctls ∧ (payDue id s).cache = s.cache ∧ (payDue id s).reads = s.reads ∧ (payDue id
    s).gauge = s.gauge ∧ (payDue id s).vault = s.vault ∧ (payDue id s).fabric = s.fabric ∧ (payDue id s).sched = s.sched ∧ (payDue id
    s).feats = s.feats ∧ (payDue id s).guard = s.guard ∧ (payDue id s).trust = s.trust ∧ (payDue id s).now = s.now ∧ (payDue id
    s).freeCtr = s.freeCtr ∧ (payDue id s).pending = s.pending := by
  simp only [payDue]
  (repeat' split) <;> (first | rfl | simp (disch := (intros; (try dsimp only); (repeat' split) <;> (first | rfl | simp | skip))))

/-- `releaseIntent` changes `recorder`, `decks`, `members`, `out` only. -/
@[simp] theorem releaseIntent_frame (id : Nat) (wseq : Nat) (s : State) :
    (releaseIntent id wseq s).mode = s.mode ∧ (releaseIntent id wseq s).power = s.power ∧ (releaseIntent id wseq s).stop = s.stop ∧
    (releaseIntent id wseq s).ports = s.ports ∧ (releaseIntent id wseq s).fns = s.fns ∧ (releaseIntent id wseq s).ctls = s.ctls ∧
    (releaseIntent id wseq s).cache = s.cache ∧ (releaseIntent id wseq s).reads = s.reads ∧ (releaseIntent id wseq s).gauge = s.gauge ∧
    (releaseIntent id wseq s).vault = s.vault ∧ (releaseIntent id wseq s).fabric = s.fabric ∧ (releaseIntent id wseq s).sched = s.sched
    ∧ (releaseIntent id wseq s).feats = s.feats ∧ (releaseIntent id wseq s).guard = s.guard ∧ (releaseIntent id wseq s).trust = s.trust
    ∧ (releaseIntent id wseq s).now = s.now ∧ (releaseIntent id wseq s).freeCtr = s.freeCtr ∧ (releaseIntent id wseq s).pending =
    s.pending := by
  simp only [releaseIntent]
  (repeat' split) <;> (first | rfl | simp)

end Sys2Proof.Machine
end

