-- ==== Sys2Proof/Laws/Fail.lean ====
section
/-!
SUPPORT. The frames of the operations of Machine/Fail.lean: which units of the state each leaves alone.
-/

namespace Sys2Proof.Machine

/-- `leavePending` changes `recorder`, `members` only. -/
@[simp] theorem leavePending_frame (x : Nat) (s : State) :
    (leavePending x s).mode = s.mode ∧ (leavePending x s).power = s.power ∧ (leavePending x s).stop = s.stop ∧ (leavePending x s).ports
    = s.ports ∧ (leavePending x s).fns = s.fns ∧ (leavePending x s).ctls = s.ctls ∧ (leavePending x s).cache = s.cache ∧ (leavePending x
    s).reads = s.reads ∧ (leavePending x s).decks = s.decks ∧ (leavePending x s).gauge = s.gauge ∧ (leavePending x s).vault = s.vault ∧
    (leavePending x s).fabric = s.fabric ∧ (leavePending x s).sched = s.sched ∧ (leavePending x s).feats = s.feats ∧ (leavePending x
    s).guard = s.guard ∧ (leavePending x s).trust = s.trust ∧ (leavePending x s).now = s.now ∧ (leavePending x s).freeCtr = s.freeCtr ∧
    (leavePending x s).out = s.out ∧ (leavePending x s).pending = s.pending := by simp [leavePending]

/-- `shelveDrive` changes `recorder`, `members` only. -/
@[simp] theorem shelveDrive_frame (x : Nat) (s : State) :
    (shelveDrive x s).mode = s.mode ∧ (shelveDrive x s).power = s.power ∧ (shelveDrive x s).stop = s.stop ∧ (shelveDrive x s).ports =
    s.ports ∧ (shelveDrive x s).fns = s.fns ∧ (shelveDrive x s).ctls = s.ctls ∧ (shelveDrive x s).cache = s.cache ∧ (shelveDrive x
    s).reads = s.reads ∧ (shelveDrive x s).decks = s.decks ∧ (shelveDrive x s).gauge = s.gauge ∧ (shelveDrive x s).vault = s.vault ∧
    (shelveDrive x s).fabric = s.fabric ∧ (shelveDrive x s).sched = s.sched ∧ (shelveDrive x s).feats = s.feats ∧ (shelveDrive x
    s).guard = s.guard ∧ (shelveDrive x s).trust = s.trust ∧ (shelveDrive x s).now = s.now ∧ (shelveDrive x s).freeCtr = s.freeCtr ∧
    (shelveDrive x s).out = s.out ∧ (shelveDrive x s).pending = s.pending := by simp [shelveDrive]

/-- `trimData` changes `recorder`, `decks`, `members`, `out` only. -/
@[simp] theorem trimData_frame (id : Nat) (s : State) :
    (trimData id s).mode = s.mode ∧ (trimData id s).power = s.power ∧ (trimData id s).stop = s.stop ∧ (trimData id s).ports = s.ports ∧
    (trimData id s).fns = s.fns ∧ (trimData id s).ctls = s.ctls ∧ (trimData id s).cache = s.cache ∧ (trimData id s).reads = s.reads ∧
    (trimData id s).gauge = s.gauge ∧ (trimData id s).vault = s.vault ∧ (trimData id s).fabric = s.fabric ∧ (trimData id s).sched =
    s.sched ∧ (trimData id s).feats = s.feats ∧ (trimData id s).guard = s.guard ∧ (trimData id s).trust = s.trust ∧ (trimData id s).now
    = s.now ∧ (trimData id s).freeCtr = s.freeCtr ∧ (trimData id s).pending = s.pending := by
  simp only [trimData]
  (repeat' split) <;> (first | rfl | simp (disch := (intros; (try dsimp only); (repeat' split) <;> (first | rfl | simp | skip))))

/-- `enterPending` changes `recorder`, `members` only. -/
@[simp] theorem enterPending_frame (x : Nat) (s : State) :
    (enterPending x s).mode = s.mode ∧ (enterPending x s).power = s.power ∧ (enterPending x s).stop = s.stop ∧ (enterPending x s).ports
    = s.ports ∧ (enterPending x s).fns = s.fns ∧ (enterPending x s).ctls = s.ctls ∧ (enterPending x s).cache = s.cache ∧ (enterPending x
    s).reads = s.reads ∧ (enterPending x s).decks = s.decks ∧ (enterPending x s).gauge = s.gauge ∧ (enterPending x s).vault = s.vault ∧
    (enterPending x s).fabric = s.fabric ∧ (enterPending x s).sched = s.sched ∧ (enterPending x s).feats = s.feats ∧ (enterPending x
    s).guard = s.guard ∧ (enterPending x s).trust = s.trust ∧ (enterPending x s).now = s.now ∧ (enterPending x s).freeCtr = s.freeCtr ∧
    (enterPending x s).out = s.out ∧ (enterPending x s).pending = s.pending := by simp [enterPending]

/-- `judgePorts` changes `recorder`, `members` only. -/
@[simp] theorem judgePorts_frame (x : Nat) (s : State) :
    (judgePorts x s).mode = s.mode ∧ (judgePorts x s).power = s.power ∧ (judgePorts x s).stop = s.stop ∧ (judgePorts x s).ports =
    s.ports ∧ (judgePorts x s).fns = s.fns ∧ (judgePorts x s).ctls = s.ctls ∧ (judgePorts x s).cache = s.cache ∧ (judgePorts x s).reads
    = s.reads ∧ (judgePorts x s).decks = s.decks ∧ (judgePorts x s).gauge = s.gauge ∧ (judgePorts x s).vault = s.vault ∧ (judgePorts x
    s).fabric = s.fabric ∧ (judgePorts x s).sched = s.sched ∧ (judgePorts x s).feats = s.feats ∧ (judgePorts x s).guard = s.guard ∧
    (judgePorts x s).trust = s.trust ∧ (judgePorts x s).now = s.now ∧ (judgePorts x s).freeCtr = s.freeCtr ∧ (judgePorts x s).out =
    s.out ∧ (judgePorts x s).pending = s.pending := by simp [judgePorts]

/-- `endProgress` changes `recorder`, `decks`, `members`, `out` only. -/
@[simp] theorem endProgress_frame (id : Nat) (op : Nat) (s : State) :
    (endProgress id op s).mode = s.mode ∧ (endProgress id op s).power = s.power ∧ (endProgress id op s).stop = s.stop ∧ (endProgress id
    op s).ports = s.ports ∧ (endProgress id op s).fns = s.fns ∧ (endProgress id op s).ctls = s.ctls ∧ (endProgress id op s).cache =
    s.cache ∧ (endProgress id op s).reads = s.reads ∧ (endProgress id op s).gauge = s.gauge ∧ (endProgress id op s).vault = s.vault ∧
    (endProgress id op s).fabric = s.fabric ∧ (endProgress id op s).sched = s.sched ∧ (endProgress id op s).feats = s.feats ∧
    (endProgress id op s).guard = s.guard ∧ (endProgress id op s).trust = s.trust ∧ (endProgress id op s).now = s.now ∧ (endProgress id
    op s).freeCtr = s.freeCtr ∧ (endProgress id op s).pending = s.pending := by
  simp only [endProgress]
  (repeat' split) <;> (first | rfl | simp)

/-- `finishPages` changes `cache`, `vault` only. -/
@[simp] theorem finishPages_frame (u : HandUpd) (s : State) :
    (finishPages u s).mode = s.mode ∧ (finishPages u s).power = s.power ∧ (finishPages u s).stop = s.stop ∧ (finishPages u s).recorder =
    s.recorder ∧ (finishPages u s).ports = s.ports ∧ (finishPages u s).fns = s.fns ∧ (finishPages u s).ctls = s.ctls ∧ (finishPages u
    s).reads = s.reads ∧ (finishPages u s).decks = s.decks ∧ (finishPages u s).gauge = s.gauge ∧ (finishPages u s).fabric = s.fabric ∧
    (finishPages u s).sched = s.sched ∧ (finishPages u s).feats = s.feats ∧ (finishPages u s).members = s.members ∧ (finishPages u
    s).guard = s.guard ∧ (finishPages u s).trust = s.trust ∧ (finishPages u s).now = s.now ∧ (finishPages u s).freeCtr = s.freeCtr ∧
    (finishPages u s).out = s.out ∧ (finishPages u s).pending = s.pending := by simp [finishPages]

/-- `finishFirsts` changes `recorder`, `cache`, `decks`, `vault`, `members`, `out` only. -/
@[simp] theorem finishFirsts_frame (id : Nat) (s : State) :
    (finishFirsts id s).mode = s.mode ∧ (finishFirsts id s).power = s.power ∧ (finishFirsts id s).stop = s.stop ∧ (finishFirsts id
    s).ports = s.ports ∧ (finishFirsts id s).fns = s.fns ∧ (finishFirsts id s).ctls = s.ctls ∧ (finishFirsts id s).reads = s.reads ∧
    (finishFirsts id s).gauge = s.gauge ∧ (finishFirsts id s).fabric = s.fabric ∧ (finishFirsts id s).sched = s.sched ∧ (finishFirsts id
    s).feats = s.feats ∧ (finishFirsts id s).guard = s.guard ∧ (finishFirsts id s).trust = s.trust ∧ (finishFirsts id s).now = s.now ∧
    (finishFirsts id s).freeCtr = s.freeCtr ∧ (finishFirsts id s).pending = s.pending := by
  simp only [finishFirsts]
  (repeat' split) <;> (first | rfl | simp)

/-- `logRedeal` changes `ports`, `fns`, `ctls`, `decks`, `out` only. -/
@[simp] theorem logRedeal_frame (id : Nat) (status : Nat) (reason : Nat) (ended : BitVec 64) (s : State) :
    (logRedeal id status reason ended s).mode = s.mode ∧ (logRedeal id status reason ended s).power = s.power ∧ (logRedeal id status
    reason ended s).stop = s.stop ∧ (logRedeal id status reason ended s).recorder = s.recorder ∧ (logRedeal id status reason ended
    s).cache = s.cache ∧ (logRedeal id status reason ended s).reads = s.reads ∧ (logRedeal id status reason ended s).gauge = s.gauge ∧
    (logRedeal id status reason ended s).vault = s.vault ∧ (logRedeal id status reason ended s).fabric = s.fabric ∧ (logRedeal id status
    reason ended s).sched = s.sched ∧ (logRedeal id status reason ended s).feats = s.feats ∧ (logRedeal id status reason ended
    s).members = s.members ∧ (logRedeal id status reason ended s).guard = s.guard ∧ (logRedeal id status reason ended s).trust = s.trust
    ∧ (logRedeal id status reason ended s).now = s.now ∧ (logRedeal id status reason ended s).freeCtr = s.freeCtr ∧ (logRedeal id status
    reason ended s).pending = s.pending := by
  simp only [logRedeal]
  (repeat' split) <;> (first | rfl | simp)

/-- `abandonRedeal` changes `recorder`, `ports`, `fns`, `ctls`, `cache`, `decks`, `vault`, `members`, `out` only. -/
@[simp] theorem abandonRedeal_frame (id : Nat) (reason : Nat) (f : DeckLabel → DeckLabel) (s : State) :
    (abandonRedeal id reason f s).mode = s.mode ∧ (abandonRedeal id reason f s).power = s.power ∧ (abandonRedeal id reason f s).stop =
    s.stop ∧ (abandonRedeal id reason f s).reads = s.reads ∧ (abandonRedeal id reason f s).gauge = s.gauge ∧ (abandonRedeal id reason f
    s).fabric = s.fabric ∧ (abandonRedeal id reason f s).sched = s.sched ∧ (abandonRedeal id reason f s).feats = s.feats ∧
    (abandonRedeal id reason f s).guard = s.guard ∧ (abandonRedeal id reason f s).trust = s.trust ∧ (abandonRedeal id reason f s).now =
    s.now ∧ (abandonRedeal id reason f s).freeCtr = s.freeCtr ∧ (abandonRedeal id reason f s).pending = s.pending := by
  simp only [abandonRedeal]
  (repeat' split) <;> (first | rfl | simp)

/-- `rebuildRec` changes `recorder`, `decks`, `members`, `out` only. -/
@[simp] theorem rebuildRec_frame (id : Nat) (s : State) :
    (rebuildRec id s).mode = s.mode ∧ (rebuildRec id s).power = s.power ∧ (rebuildRec id s).stop = s.stop ∧ (rebuildRec id s).ports =
    s.ports ∧ (rebuildRec id s).fns = s.fns ∧ (rebuildRec id s).ctls = s.ctls ∧ (rebuildRec id s).cache = s.cache ∧ (rebuildRec id
    s).reads = s.reads ∧ (rebuildRec id s).gauge = s.gauge ∧ (rebuildRec id s).vault = s.vault ∧ (rebuildRec id s).fabric = s.fabric ∧
    (rebuildRec id s).sched = s.sched ∧ (rebuildRec id s).feats = s.feats ∧ (rebuildRec id s).guard = s.guard ∧ (rebuildRec id s).trust
    = s.trust ∧ (rebuildRec id s).now = s.now ∧ (rebuildRec id s).freeCtr = s.freeCtr ∧ (rebuildRec id s).pending = s.pending := by
  simp only [rebuildRec]
  (repeat' split) <;> (first | rfl | simp)

/-- `forgetWrites` changes `members` only. -/
@[simp] theorem forgetWrites_frame (id : Nat) (x : Nat) (s : State) :
    (forgetWrites id x s).mode = s.mode ∧ (forgetWrites id x s).power = s.power ∧ (forgetWrites id x s).stop = s.stop ∧ (forgetWrites id
    x s).recorder = s.recorder ∧ (forgetWrites id x s).ports = s.ports ∧ (forgetWrites id x s).fns = s.fns ∧ (forgetWrites id x s).ctls
    = s.ctls ∧ (forgetWrites id x s).cache = s.cache ∧ (forgetWrites id x s).reads = s.reads ∧ (forgetWrites id x s).decks = s.decks ∧
    (forgetWrites id x s).gauge = s.gauge ∧ (forgetWrites id x s).vault = s.vault ∧ (forgetWrites id x s).fabric = s.fabric ∧
    (forgetWrites id x s).sched = s.sched ∧ (forgetWrites id x s).feats = s.feats ∧ (forgetWrites id x s).guard = s.guard ∧
    (forgetWrites id x s).trust = s.trust ∧ (forgetWrites id x s).now = s.now ∧ (forgetWrites id x s).freeCtr = s.freeCtr ∧
    (forgetWrites id x s).out = s.out ∧ (forgetWrites id x s).pending = s.pending := by simp [forgetWrites]

/-- `appendEntry` changes `recorder`, `decks` only. -/
@[simp] theorem appendEntry_frame (id : Nat) (mem : Nat) (s : State) :
    (appendEntry id mem s).mode = s.mode ∧ (appendEntry id mem s).power = s.power ∧ (appendEntry id mem s).stop = s.stop ∧ (appendEntry
    id mem s).ports = s.ports ∧ (appendEntry id mem s).fns = s.fns ∧ (appendEntry id mem s).ctls = s.ctls ∧ (appendEntry id mem s).cache
    = s.cache ∧ (appendEntry id mem s).reads = s.reads ∧ (appendEntry id mem s).gauge = s.gauge ∧ (appendEntry id mem s).vault = s.vault
    ∧ (appendEntry id mem s).fabric = s.fabric ∧ (appendEntry id mem s).sched = s.sched ∧ (appendEntry id mem s).feats = s.feats ∧
    (appendEntry id mem s).members = s.members ∧ (appendEntry id mem s).guard = s.guard ∧ (appendEntry id mem s).trust = s.trust ∧
    (appendEntry id mem s).now = s.now ∧ (appendEntry id mem s).freeCtr = s.freeCtr ∧ (appendEntry id mem s).out = s.out ∧ (appendEntry
    id mem s).pending = s.pending := by
  simp only [appendEntry]
  (repeat' split) <;> (first | rfl | simp)

/-- `settleRebuilt` changes `recorder`, `decks`, `members`, `out` only. -/
@[simp] theorem settleRebuilt_frame (id : Nat) (s : State) :
    (settleRebuilt id s).mode = s.mode ∧ (settleRebuilt id s).power = s.power ∧ (settleRebuilt id s).stop = s.stop ∧ (settleRebuilt id
    s).ports = s.ports ∧ (settleRebuilt id s).fns = s.fns ∧ (settleRebuilt id s).ctls = s.ctls ∧ (settleRebuilt id s).cache = s.cache ∧
    (settleRebuilt id s).reads = s.reads ∧ (settleRebuilt id s).gauge = s.gauge ∧ (settleRebuilt id s).vault = s.vault ∧ (settleRebuilt
    id s).fabric = s.fabric ∧ (settleRebuilt id s).sched = s.sched ∧ (settleRebuilt id s).feats = s.feats ∧ (settleRebuilt id s).guard =
    s.guard ∧ (settleRebuilt id s).trust = s.trust ∧ (settleRebuilt id s).now = s.now ∧ (settleRebuilt id s).freeCtr = s.freeCtr ∧
    (settleRebuilt id s).pending = s.pending := by
  simp only [settleRebuilt]
  (repeat' split) <;> (first | rfl | simp)

/-- `replacementFails` changes `recorder`, `decks`, `members`, `out` only. -/
@[simp] theorem replacementFails_frame (id : Nat) (mem : Nat) (x : Nat) (s : State) :
    (replacementFails id mem x s).mode = s.mode ∧ (replacementFails id mem x s).power = s.power ∧ (replacementFails id mem x s).stop =
    s.stop ∧ (replacementFails id mem x s).ports = s.ports ∧ (replacementFails id mem x s).fns = s.fns ∧ (replacementFails id mem x
    s).ctls = s.ctls ∧ (replacementFails id mem x s).cache = s.cache ∧ (replacementFails id mem x s).reads = s.reads ∧ (replacementFails
    id mem x s).gauge = s.gauge ∧ (replacementFails id mem x s).vault = s.vault ∧ (replacementFails id mem x s).fabric = s.fabric ∧
    (replacementFails id mem x s).sched = s.sched ∧ (replacementFails id mem x s).feats = s.feats ∧ (replacementFails id mem x s).guard
    = s.guard ∧ (replacementFails id mem x s).trust = s.trust ∧ (replacementFails id mem x s).now = s.now ∧ (replacementFails id mem x
    s).freeCtr = s.freeCtr ∧ (replacementFails id mem x s).pending = s.pending := by
  simp only [replacementFails]
  (repeat' split) <;> (first | rfl | simp)

/-- `declareFailed` changes `mode`, `recorder`, `ports`, `fns`, `ctls`, `cache`, `decks`, `vault`, `members`, `guard`, `freeCtr`, `out` only. -/
@[simp] theorem declareFailed_frame (id : Nat) (mem : Nat) (s : State) :
    (declareFailed id mem s).power = s.power ∧ (declareFailed id mem s).stop = s.stop ∧ (declareFailed id mem s).reads = s.reads ∧
    (declareFailed id mem s).gauge = s.gauge ∧ (declareFailed id mem s).fabric = s.fabric ∧ (declareFailed id mem s).sched = s.sched ∧
    (declareFailed id mem s).feats = s.feats ∧ (declareFailed id mem s).trust = s.trust ∧ (declareFailed id mem s).now = s.now ∧
    (declareFailed id mem s).pending = s.pending := by
  simp only [declareFailed]
  (repeat' split) <;> (first | rfl | simp)

/-- `failSlot` changes `mode`, `recorder`, `ports`, `fns`, `ctls`, `cache`, `decks`, `vault`, `members`, `guard`, `freeCtr`, `out` only. -/
@[simp] theorem failSlot_frame (x : Nat) (s : State) :
    (failSlot x s).power = s.power ∧ (failSlot x s).stop = s.stop ∧ (failSlot x s).reads = s.reads ∧ (failSlot x s).gauge = s.gauge ∧
    (failSlot x s).fabric = s.fabric ∧ (failSlot x s).sched = s.sched ∧ (failSlot x s).feats = s.feats ∧ (failSlot x s).trust = s.trust
    ∧ (failSlot x s).now = s.now ∧ (failSlot x s).pending = s.pending := by
  simp only [failSlot]
  (repeat' split) <;> (first | rfl | simp)

/-- `settleHealth` changes `mode`, `recorder`, `ports`, `fns`, `ctls`, `cache`, `decks`, `vault`, `members`, `guard`, `freeCtr`, `out` only. -/
@[simp] theorem settleHealth_frame (x : Nat) (s : State) :
    (settleHealth x s).power = s.power ∧ (settleHealth x s).stop = s.stop ∧ (settleHealth x s).reads = s.reads ∧ (settleHealth x
    s).gauge = s.gauge ∧ (settleHealth x s).fabric = s.fabric ∧ (settleHealth x s).sched = s.sched ∧ (settleHealth x s).feats = s.feats
    ∧ (settleHealth x s).trust = s.trust ∧ (settleHealth x s).now = s.now ∧ (settleHealth x s).pending = s.pending := by simp [settleHealth]

/-- `settleAll` changes `mode`, `recorder`, `ports`, `fns`, `ctls`, `cache`, `decks`, `vault`, `members`, `guard`, `freeCtr`, `out` only. -/
@[simp] theorem settleAll_frame (s : State) :
    (settleAll s).power = s.power ∧ (settleAll s).stop = s.stop ∧ (settleAll s).reads = s.reads ∧ (settleAll s).gauge = s.gauge ∧
    (settleAll s).fabric = s.fabric ∧ (settleAll s).sched = s.sched ∧ (settleAll s).feats = s.feats ∧ (settleAll s).trust = s.trust ∧
    (settleAll s).now = s.now ∧ (settleAll s).pending = s.pending := by simp [settleAll]

end Sys2Proof.Machine
end

