-- ==== Sys2Proof/Laws/HandUpdate.lean ====
section
/-!
SUPPORT. The frames of the operations of Machine/HandUpdate.lean: which units of the state each leaves alone.
-/

namespace Sys2Proof.Machine

/-- `sendWrites` changes `members`, `out` only. -/
@[simp] theorem sendWrites_frame (id : Nat) (hd : Nat) (ws : List WaitWrite) (s : State) :
    (sendWrites id hd ws s).mode = s.mode ∧ (sendWrites id hd ws s).power = s.power ∧ (sendWrites id hd ws s).stop = s.stop ∧
    (sendWrites id hd ws s).recorder = s.recorder ∧ (sendWrites id hd ws s).ports = s.ports ∧ (sendWrites id hd ws s).fns = s.fns ∧
    (sendWrites id hd ws s).ctls = s.ctls ∧ (sendWrites id hd ws s).cache = s.cache ∧ (sendWrites id hd ws s).reads = s.reads ∧
    (sendWrites id hd ws s).decks = s.decks ∧ (sendWrites id hd ws s).gauge = s.gauge ∧ (sendWrites id hd ws s).vault = s.vault ∧
    (sendWrites id hd ws s).fabric = s.fabric ∧ (sendWrites id hd ws s).sched = s.sched ∧ (sendWrites id hd ws s).feats = s.feats ∧
    (sendWrites id hd ws s).guard = s.guard ∧ (sendWrites id hd ws s).trust = s.trust ∧ (sendWrites id hd ws s).now = s.now ∧
    (sendWrites id hd ws s).freeCtr = s.freeCtr ∧ (sendWrites id hd ws s).pending = s.pending := by simp [sendWrites]

/-- `sendWaiting` changes `decks`, `members`, `out` only. -/
@[simp] theorem sendWaiting_frame (x : Nat) (s : State) :
    (sendWaiting x s).mode = s.mode ∧ (sendWaiting x s).power = s.power ∧ (sendWaiting x s).stop = s.stop ∧ (sendWaiting x s).recorder =
    s.recorder ∧ (sendWaiting x s).ports = s.ports ∧ (sendWaiting x s).fns = s.fns ∧ (sendWaiting x s).ctls = s.ctls ∧ (sendWaiting x
    s).cache = s.cache ∧ (sendWaiting x s).reads = s.reads ∧ (sendWaiting x s).gauge = s.gauge ∧ (sendWaiting x s).vault = s.vault ∧
    (sendWaiting x s).fabric = s.fabric ∧ (sendWaiting x s).sched = s.sched ∧ (sendWaiting x s).feats = s.feats ∧ (sendWaiting x
    s).guard = s.guard ∧ (sendWaiting x s).trust = s.trust ∧ (sendWaiting x s).now = s.now ∧ (sendWaiting x s).freeCtr = s.freeCtr ∧
    (sendWaiting x s).pending = s.pending := by simp [sendWaiting]

/-- `flushSlot` changes `members`, `out` only. -/
@[simp] theorem flushSlot_frame (x : Nat) (s : State) :
    (flushSlot x s).mode = s.mode ∧ (flushSlot x s).power = s.power ∧ (flushSlot x s).stop = s.stop ∧ (flushSlot x s).recorder =
    s.recorder ∧ (flushSlot x s).ports = s.ports ∧ (flushSlot x s).fns = s.fns ∧ (flushSlot x s).ctls = s.ctls ∧ (flushSlot x s).cache =
    s.cache ∧ (flushSlot x s).reads = s.reads ∧ (flushSlot x s).decks = s.decks ∧ (flushSlot x s).gauge = s.gauge ∧ (flushSlot x
    s).vault = s.vault ∧ (flushSlot x s).fabric = s.fabric ∧ (flushSlot x s).sched = s.sched ∧ (flushSlot x s).feats = s.feats ∧
    (flushSlot x s).guard = s.guard ∧ (flushSlot x s).trust = s.trust ∧ (flushSlot x s).now = s.now ∧ (flushSlot x s).freeCtr =
    s.freeCtr ∧ (flushSlot x s).pending = s.pending := by simp [flushSlot]

/-- `raiseCeil` changes `decks`, `members`, `out` only. -/
@[simp] theorem raiseCeil_frame (id : Nat) (s : State) :
    (raiseCeil id s).mode = s.mode ∧ (raiseCeil id s).power = s.power ∧ (raiseCeil id s).stop = s.stop ∧ (raiseCeil id s).recorder =
    s.recorder ∧ (raiseCeil id s).ports = s.ports ∧ (raiseCeil id s).fns = s.fns ∧ (raiseCeil id s).ctls = s.ctls ∧ (raiseCeil id
    s).cache = s.cache ∧ (raiseCeil id s).reads = s.reads ∧ (raiseCeil id s).gauge = s.gauge ∧ (raiseCeil id s).vault = s.vault ∧
    (raiseCeil id s).fabric = s.fabric ∧ (raiseCeil id s).sched = s.sched ∧ (raiseCeil id s).feats = s.feats ∧ (raiseCeil id s).guard =
    s.guard ∧ (raiseCeil id s).trust = s.trust ∧ (raiseCeil id s).now = s.now ∧ (raiseCeil id s).freeCtr = s.freeCtr ∧ (raiseCeil id
    s).pending = s.pending := by
  simp only [raiseCeil]
  (repeat' split) <;> (first | rfl | simp)

/-- `askReads` changes `decks`, `members`, `out` only. -/
@[simp] theorem askReads_frame (id : Nat) (d : Deck) (hd : Nat) (row : Nat) (cs : List Nat) (s : State) :
    (askReads id d hd row cs s).mode = s.mode ∧ (askReads id d hd row cs s).power = s.power ∧ (askReads id d hd row cs s).stop = s.stop
    ∧ (askReads id d hd row cs s).recorder = s.recorder ∧ (askReads id d hd row cs s).ports = s.ports ∧ (askReads id d hd row cs s).fns
    = s.fns ∧ (askReads id d hd row cs s).ctls = s.ctls ∧ (askReads id d hd row cs s).cache = s.cache ∧ (askReads id d hd row cs
    s).reads = s.reads ∧ (askReads id d hd row cs s).gauge = s.gauge ∧ (askReads id d hd row cs s).vault = s.vault ∧ (askReads id d hd
    row cs s).fabric = s.fabric ∧ (askReads id d hd row cs s).sched = s.sched ∧ (askReads id d hd row cs s).feats = s.feats ∧ (askReads
    id d hd row cs s).guard = s.guard ∧ (askReads id d hd row cs s).trust = s.trust ∧ (askReads id d hd row cs s).now = s.now ∧
    (askReads id d hd row cs s).freeCtr = s.freeCtr ∧ (askReads id d hd row cs s).pending = s.pending := by
  simp only [askReads]
  (repeat' split) <;> (first | rfl | simp (disch := (intros; (try dsimp only); (repeat' split) <;> (first | rfl | simp | skip))))

/-- `beginUpdate` changes `recorder`, `decks`, `members`, `out` only. -/
@[simp] theorem beginUpdate_frame (id : Nat) (d : Deck) (hd : Nat) (key : Nat) (second : Bool) (parent : Nat) (nsid : Nat) (reconJseq : Nat) (recon : List Nat) (dataJ : Bool) (kind : UpdKind) (ch : List (Nat × Nat × Nat × Nat)) (s : State) :
    (beginUpdate id d hd key second parent nsid reconJseq recon dataJ kind ch s).mode = s.mode ∧ (beginUpdate id d hd key second parent
    nsid reconJseq recon dataJ kind ch s).power = s.power ∧ (beginUpdate id d hd key second parent nsid reconJseq recon dataJ kind ch
    s).stop = s.stop ∧ (beginUpdate id d hd key second parent nsid reconJseq recon dataJ kind ch s).ports = s.ports ∧ (beginUpdate id d
    hd key second parent nsid reconJseq recon dataJ kind ch s).fns = s.fns ∧ (beginUpdate id d hd key second parent nsid reconJseq recon
    dataJ kind ch s).ctls = s.ctls ∧ (beginUpdate id d hd key second parent nsid reconJseq recon dataJ kind ch s).cache = s.cache ∧
    (beginUpdate id d hd key second parent nsid reconJseq recon dataJ kind ch s).reads = s.reads ∧ (beginUpdate id d hd key second
    parent nsid reconJseq recon dataJ kind ch s).gauge = s.gauge ∧ (beginUpdate id d hd key second parent nsid reconJseq recon dataJ
    kind ch s).vault = s.vault ∧ (beginUpdate id d hd key second parent nsid reconJseq recon dataJ kind ch s).fabric = s.fabric ∧
    (beginUpdate id d hd key second parent nsid reconJseq recon dataJ kind ch s).sched = s.sched ∧ (beginUpdate id d hd key second
    parent nsid reconJseq recon dataJ kind ch s).feats = s.feats ∧ (beginUpdate id d hd key second parent nsid reconJseq recon dataJ
    kind ch s).guard = s.guard ∧ (beginUpdate id d hd key second parent nsid reconJseq recon dataJ kind ch s).trust = s.trust ∧
    (beginUpdate id d hd key second parent nsid reconJseq recon dataJ kind ch s).now = s.now ∧ (beginUpdate id d hd key second parent
    nsid reconJseq recon dataJ kind ch s).freeCtr = s.freeCtr ∧ (beginUpdate id d hd key second parent nsid reconJseq recon dataJ kind
    ch s).pending = s.pending := by
  simp only [beginUpdate]
  (repeat' split) <;> (first | rfl | simp)

/-- `settleStarts` changes `recorder`, `cache`, `decks`, `members`, `out` only. -/
@[simp] theorem settleStarts_frame (id : Nat) (s : State) :
    (settleStarts id s).mode = s.mode ∧ (settleStarts id s).power = s.power ∧ (settleStarts id s).stop = s.stop ∧ (settleStarts id
    s).ports = s.ports ∧ (settleStarts id s).fns = s.fns ∧ (settleStarts id s).ctls = s.ctls ∧ (settleStarts id s).reads = s.reads ∧
    (settleStarts id s).gauge = s.gauge ∧ (settleStarts id s).vault = s.vault ∧ (settleStarts id s).fabric = s.fabric ∧ (settleStarts id
    s).sched = s.sched ∧ (settleStarts id s).feats = s.feats ∧ (settleStarts id s).guard = s.guard ∧ (settleStarts id s).trust = s.trust
    ∧ (settleStarts id s).now = s.now ∧ (settleStarts id s).freeCtr = s.freeCtr ∧ (settleStarts id s).pending = s.pending := by
  simp only [settleStarts]
  (repeat' split) <;> (first | rfl | simp (disch := (intros; (try dsimp only); (repeat' split) <;> (first | rfl | simp | skip))))

/-- `runStreams` changes `out` only. -/
@[simp] theorem runStreams_frame (id : Nat) (hd : Nat) (row : Nat) (ss : List ParityStream) (s : State) :
    (runStreams id hd row ss s).mode = s.mode ∧ (runStreams id hd row ss s).power = s.power ∧ (runStreams id hd row ss s).stop = s.stop
    ∧ (runStreams id hd row ss s).recorder = s.recorder ∧ (runStreams id hd row ss s).ports = s.ports ∧ (runStreams id hd row ss s).fns
    = s.fns ∧ (runStreams id hd row ss s).ctls = s.ctls ∧ (runStreams id hd row ss s).cache = s.cache ∧ (runStreams id hd row ss
    s).reads = s.reads ∧ (runStreams id hd row ss s).decks = s.decks ∧ (runStreams id hd row ss s).gauge = s.gauge ∧ (runStreams id hd
    row ss s).vault = s.vault ∧ (runStreams id hd row ss s).fabric = s.fabric ∧ (runStreams id hd row ss s).sched = s.sched ∧
    (runStreams id hd row ss s).feats = s.feats ∧ (runStreams id hd row ss s).members = s.members ∧ (runStreams id hd row ss s).guard =
    s.guard ∧ (runStreams id hd row ss s).trust = s.trust ∧ (runStreams id hd row ss s).now = s.now ∧ (runStreams id hd row ss
    s).freeCtr = s.freeCtr ∧ (runStreams id hd row ss s).pending = s.pending := by simp [runStreams]

/-- `startUpdate` changes `recorder`, `cache`, `decks`, `members`, `out` only. -/
@[simp] theorem startUpdate_frame (id : Nat) (hd : Nat) (v : Volume) (reads : List BlockRead) (s : State) :
    (startUpdate id hd v reads s).mode = s.mode ∧ (startUpdate id hd v reads s).power = s.power ∧ (startUpdate id hd v reads s).stop =
    s.stop ∧ (startUpdate id hd v reads s).ports = s.ports ∧ (startUpdate id hd v reads s).fns = s.fns ∧ (startUpdate id hd v reads
    s).ctls = s.ctls ∧ (startUpdate id hd v reads s).reads = s.reads ∧ (startUpdate id hd v reads s).gauge = s.gauge ∧ (startUpdate id
    hd v reads s).vault = s.vault ∧ (startUpdate id hd v reads s).fabric = s.fabric ∧ (startUpdate id hd v reads s).sched = s.sched ∧
    (startUpdate id hd v reads s).feats = s.feats ∧ (startUpdate id hd v reads s).guard = s.guard ∧ (startUpdate id hd v reads s).trust
    = s.trust ∧ (startUpdate id hd v reads s).now = s.now ∧ (startUpdate id hd v reads s).freeCtr = s.freeCtr ∧ (startUpdate id hd v
    reads s).pending = s.pending := by
  simp only [startUpdate]
  (repeat' split) <;> (first | rfl | simp)

/-- `startDuals` changes `recorder`, `decks`, `members`, `out` only. -/
@[simp] theorem startDuals_frame (id : Nat) (s : State) :
    (startDuals id s).mode = s.mode ∧ (startDuals id s).power = s.power ∧ (startDuals id s).stop = s.stop ∧ (startDuals id s).ports =
    s.ports ∧ (startDuals id s).fns = s.fns ∧ (startDuals id s).ctls = s.ctls ∧ (startDuals id s).cache = s.cache ∧ (startDuals id
    s).reads = s.reads ∧ (startDuals id s).gauge = s.gauge ∧ (startDuals id s).vault = s.vault ∧ (startDuals id s).fabric = s.fabric ∧
    (startDuals id s).sched = s.sched ∧ (startDuals id s).feats = s.feats ∧ (startDuals id s).guard = s.guard ∧ (startDuals id s).trust
    = s.trust ∧ (startDuals id s).now = s.now ∧ (startDuals id s).freeCtr = s.freeCtr ∧ (startDuals id s).pending = s.pending := by
  simp only [startDuals]
  (repeat' split) <;> (first | rfl | simp (disch := (intros; (try dsimp only); (repeat' split) <;> (first | rfl | simp (disch := (intros; (try dsimp only); (repeat' split) <;> (first | rfl | simp | skip))) | skip))))

/-- `durableIntent` changes `recorder`, `decks`, `members`, `out` only. -/
@[simp] theorem durableIntent_frame (id : Nat) (i : Intent) (s : State) :
    (durableIntent id i s).2.mode = s.mode ∧ (durableIntent id i s).2.power = s.power ∧ (durableIntent id i s).2.stop = s.stop ∧
    (durableIntent id i s).2.ports = s.ports ∧ (durableIntent id i s).2.fns = s.fns ∧ (durableIntent id i s).2.ctls = s.ctls ∧
    (durableIntent id i s).2.cache = s.cache ∧ (durableIntent id i s).2.reads = s.reads ∧ (durableIntent id i s).2.gauge = s.gauge ∧
    (durableIntent id i s).2.vault = s.vault ∧ (durableIntent id i s).2.fabric = s.fabric ∧ (durableIntent id i s).2.sched = s.sched ∧
    (durableIntent id i s).2.feats = s.feats ∧ (durableIntent id i s).2.guard = s.guard ∧ (durableIntent id i s).2.trust = s.trust ∧
    (durableIntent id i s).2.now = s.now ∧ (durableIntent id i s).2.freeCtr = s.freeCtr ∧ (durableIntent id i s).2.pending = s.pending := by
  simp only [durableIntent]
  (repeat' split) <;> (first | rfl | simp)

/-- `failAbsent` changes `mode`, `recorder`, `ports`, `fns`, `ctls`, `cache`, `decks`, `vault`, `members`, `guard`, `freeCtr`, `out` only. -/
@[simp] theorem failAbsent_frame (id : Nat) (hd : Nat) (s : State) :
    (failAbsent id hd s).power = s.power ∧ (failAbsent id hd s).stop = s.stop ∧ (failAbsent id hd s).reads = s.reads ∧ (failAbsent id hd
    s).gauge = s.gauge ∧ (failAbsent id hd s).fabric = s.fabric ∧ (failAbsent id hd s).sched = s.sched ∧ (failAbsent id hd s).feats =
    s.feats ∧ (failAbsent id hd s).trust = s.trust ∧ (failAbsent id hd s).now = s.now ∧ (failAbsent id hd s).pending = s.pending := by
  simp only [failAbsent]
  (repeat' split) <;> (first | rfl | simp (disch := (intros; (try dsimp only); (repeat' split) <;> (first | rfl | simp | skip))))

/-- `lockIfRefused` changes `decks`, `members`, `out` only. -/
@[simp] theorem lockIfRefused_frame (nsid : Nat) (r : Bool × State) :
    (lockIfRefused nsid r).2.mode = r.2.mode ∧ (lockIfRefused nsid r).2.power = r.2.power ∧ (lockIfRefused nsid r).2.stop = r.2.stop ∧
    (lockIfRefused nsid r).2.recorder = r.2.recorder ∧ (lockIfRefused nsid r).2.ports = r.2.ports ∧ (lockIfRefused nsid r).2.fns =
    r.2.fns ∧ (lockIfRefused nsid r).2.ctls = r.2.ctls ∧ (lockIfRefused nsid r).2.cache = r.2.cache ∧ (lockIfRefused nsid r).2.reads =
    r.2.reads ∧ (lockIfRefused nsid r).2.gauge = r.2.gauge ∧ (lockIfRefused nsid r).2.vault = r.2.vault ∧ (lockIfRefused nsid
    r).2.fabric = r.2.fabric ∧ (lockIfRefused nsid r).2.sched = r.2.sched ∧ (lockIfRefused nsid r).2.feats = r.2.feats ∧ (lockIfRefused
    nsid r).2.guard = r.2.guard ∧ (lockIfRefused nsid r).2.trust = r.2.trust ∧ (lockIfRefused nsid r).2.now = r.2.now ∧ (lockIfRefused
    nsid r).2.freeCtr = r.2.freeCtr ∧ (lockIfRefused nsid r).2.pending = r.2.pending := by
  simp only [lockIfRefused]
  (repeat' split) <;> (first | rfl | simp)

/-- `listLost` changes `recorder`, `ports`, `fns`, `ctls`, `decks`, `members`, `guard`, `out` only. -/
@[simp] theorem listLost_frame (id : Nat) (u : HandUpd) (reads : List BlockRead) (s : State) :
    (listLost id u reads s).2.2.mode = s.mode ∧ (listLost id u reads s).2.2.power = s.power ∧ (listLost id u reads s).2.2.stop = s.stop
    ∧ (listLost id u reads s).2.2.cache = s.cache ∧ (listLost id u reads s).2.2.reads = s.reads ∧ (listLost id u reads s).2.2.gauge =
    s.gauge ∧ (listLost id u reads s).2.2.vault = s.vault ∧ (listLost id u reads s).2.2.fabric = s.fabric ∧ (listLost id u reads
    s).2.2.sched = s.sched ∧ (listLost id u reads s).2.2.feats = s.feats ∧ (listLost id u reads s).2.2.trust = s.trust ∧ (listLost id u
    reads s).2.2.now = s.now ∧ (listLost id u reads s).2.2.freeCtr = s.freeCtr ∧ (listLost id u reads s).2.2.pending = s.pending := by
  simp only [listLost]
  (repeat' split) <;> (first | rfl | simp)

/-- `chargeTags` changes `recorder`, `ports`, `fns`, `ctls`, `members`, `out` only. -/
@[simp] theorem chargeTags_frame (d : Deck) (hd : Nat) (row : Nat) (reads : List BlockRead) (s : State) :
    (chargeTags d hd row reads s).mode = s.mode ∧ (chargeTags d hd row reads s).power = s.power ∧ (chargeTags d hd row reads s).stop =
    s.stop ∧ (chargeTags d hd row reads s).cache = s.cache ∧ (chargeTags d hd row reads s).reads = s.reads ∧ (chargeTags d hd row reads
    s).decks = s.decks ∧ (chargeTags d hd row reads s).gauge = s.gauge ∧ (chargeTags d hd row reads s).vault = s.vault ∧ (chargeTags d
    hd row reads s).fabric = s.fabric ∧ (chargeTags d hd row reads s).sched = s.sched ∧ (chargeTags d hd row reads s).feats = s.feats ∧
    (chargeTags d hd row reads s).guard = s.guard ∧ (chargeTags d hd row reads s).trust = s.trust ∧ (chargeTags d hd row reads s).now =
    s.now ∧ (chargeTags d hd row reads s).freeCtr = s.freeCtr ∧ (chargeTags d hd row reads s).pending = s.pending := by
  simp only [chargeTags]
  (repeat' split) <;> (first | rfl | simp (disch := (intros; (try dsimp only); (repeat' split) <;> (first | rfl | simp | skip))))

/-- `relist` changes `recorder`, `ports`, `fns`, `ctls`, `decks`, `members`, `guard`, `out` only. -/
@[simp] theorem relist_frame (u : HandUpd) (s : State) :
    (relist u s).mode = s.mode ∧ (relist u s).power = s.power ∧ (relist u s).stop = s.stop ∧ (relist u s).cache = s.cache ∧ (relist u
    s).reads = s.reads ∧ (relist u s).gauge = s.gauge ∧ (relist u s).vault = s.vault ∧ (relist u s).fabric = s.fabric ∧ (relist u
    s).sched = s.sched ∧ (relist u s).feats = s.feats ∧ (relist u s).trust = s.trust ∧ (relist u s).now = s.now ∧ (relist u s).freeCtr =
    s.freeCtr ∧ (relist u s).pending = s.pending := by
  simp only [relist]
  (repeat' split) <;> (first | rfl | simp)

/-- `issueUpdate` changes `recorder`, `ports`, `fns`, `ctls`, `cache`, `decks`, `members`, `guard`, `out` only. -/
@[simp] theorem issueUpdate_frame (id : Nat) (u : HandUpd) (reads : List BlockRead) (s0 : State) :
    (issueUpdate id u reads s0).mode = s0.mode ∧ (issueUpdate id u reads s0).power = s0.power ∧ (issueUpdate id u reads s0).stop =
    s0.stop ∧ (issueUpdate id u reads s0).reads = s0.reads ∧ (issueUpdate id u reads s0).gauge = s0.gauge ∧ (issueUpdate id u reads
    s0).vault = s0.vault ∧ (issueUpdate id u reads s0).fabric = s0.fabric ∧ (issueUpdate id u reads s0).sched = s0.sched ∧ (issueUpdate
    id u reads s0).feats = s0.feats ∧ (issueUpdate id u reads s0).trust = s0.trust ∧ (issueUpdate id u reads s0).now = s0.now ∧
    (issueUpdate id u reads s0).freeCtr = s0.freeCtr ∧ (issueUpdate id u reads s0).pending = s0.pending := by
  simp only [issueUpdate]
  (repeat' split) <;> (first | rfl | simp)

end Sys2Proof.Machine
end

