-- ==== Sys2Proof/Laws/IO.lean ====
section
/-!
SUPPORT. The frames of the operations of Machine/IO.lean: which units of the state each leaves alone.
-/

namespace Sys2Proof.Machine

/-- `haltAt` changes `stop`, `recorder`, `ports`, `fns`, `ctls`, `cache`, `reads`, `decks`, `out` only. -/
@[simp] theorem haltAt_frame (ref : CmdRef) (reason : Nat) (info : Nat) (s : State) :
    (haltAt ref reason info s).mode = s.mode ∧ (haltAt ref reason info s).power = s.power ∧ (haltAt ref reason info s).gauge = s.gauge ∧
    (haltAt ref reason info s).vault = s.vault ∧ (haltAt ref reason info s).fabric = s.fabric ∧ (haltAt ref reason info s).sched =
    s.sched ∧ (haltAt ref reason info s).feats = s.feats ∧ (haltAt ref reason info s).members = s.members ∧ (haltAt ref reason info
    s).guard = s.guard ∧ (haltAt ref reason info s).trust = s.trust ∧ (haltAt ref reason info s).now = s.now ∧ (haltAt ref reason info
    s).freeCtr = s.freeCtr ∧ (haltAt ref reason info s).pending = s.pending := by
  simp only [haltAt]
  (repeat' split) <;> (first | rfl | simp)

/-- `failFill` changes `stop`, `ctls`, `cache`, `reads`, `decks`, `out` only. -/
@[simp] theorem failFill_frame (keyNs : Nat) (vpage : Nat) (s : State) :
    (failFill keyNs vpage s).mode = s.mode ∧ (failFill keyNs vpage s).power = s.power ∧ (failFill keyNs vpage s).recorder = s.recorder ∧
    (failFill keyNs vpage s).ports = s.ports ∧ (failFill keyNs vpage s).fns = s.fns ∧ (failFill keyNs vpage s).gauge = s.gauge ∧
    (failFill keyNs vpage s).vault = s.vault ∧ (failFill keyNs vpage s).fabric = s.fabric ∧ (failFill keyNs vpage s).sched = s.sched ∧
    (failFill keyNs vpage s).feats = s.feats ∧ (failFill keyNs vpage s).members = s.members ∧ (failFill keyNs vpage s).guard = s.guard ∧
    (failFill keyNs vpage s).trust = s.trust ∧ (failFill keyNs vpage s).now = s.now ∧ (failFill keyNs vpage s).freeCtr = s.freeCtr ∧
    (failFill keyNs vpage s).pending = s.pending := by
  simp only [failFill]
  (repeat' split) <;> (first | rfl | simp (disch := (intros; (try dsimp only); (repeat' split) <;> (first | rfl | simp | skip))))

/-- `failPi` changes `stop`, `recorder`, `ctls`, `cache`, `reads`, `decks`, `out` only. -/
@[simp] theorem failPi_frame (ref : CmdRef) (e : PiError) (s : State) :
    (failPi ref e s).mode = s.mode ∧ (failPi ref e s).power = s.power ∧ (failPi ref e s).ports = s.ports ∧ (failPi ref e s).fns = s.fns
    ∧ (failPi ref e s).gauge = s.gauge ∧ (failPi ref e s).vault = s.vault ∧ (failPi ref e s).fabric = s.fabric ∧ (failPi ref e s).sched
    = s.sched ∧ (failPi ref e s).feats = s.feats ∧ (failPi ref e s).members = s.members ∧ (failPi ref e s).guard = s.guard ∧ (failPi ref
    e s).trust = s.trust ∧ (failPi ref e s).now = s.now ∧ (failPi ref e s).freeCtr = s.freeCtr ∧ (failPi ref e s).pending = s.pending := by simp [failPi]

/-- `deliverRead` changes `ports`, `ctls`, `cache`, `out` only. -/
theorem deliverRead_frame (j : ReadJob) (out : Bytes) (s : State) (t : State) (h : deliverRead j out s = some t) :
    t.mode = s.mode ∧ t.power = s.power ∧ t.stop = s.stop ∧ t.recorder = s.recorder ∧ t.fns = s.fns ∧ t.reads = s.reads ∧ t.decks =
    s.decks ∧ t.gauge = s.gauge ∧ t.vault = s.vault ∧ t.fabric = s.fabric ∧ t.sched = s.sched ∧ t.feats = s.feats ∧ t.members =
    s.members ∧ t.guard = s.guard ∧ t.trust = s.trust ∧ t.now = s.now ∧ t.freeCtr = s.freeCtr ∧ t.pending = s.pending := by
  simp only [deliverRead] at h
  (repeat' split at h) <;> (first | (simp at h; done) | (simp at h; subst h; simp) | simp_all)

/-- `finishRead` changes `stop`, `recorder`, `ports`, `ctls`, `cache`, `reads`, `decks`, `out` only. -/
@[simp] theorem finishRead_frame (j : ReadJob) (s : State) :
    (finishRead j s).mode = s.mode ∧ (finishRead j s).power = s.power ∧ (finishRead j s).fns = s.fns ∧ (finishRead j s).gauge = s.gauge
    ∧ (finishRead j s).vault = s.vault ∧ (finishRead j s).fabric = s.fabric ∧ (finishRead j s).sched = s.sched ∧ (finishRead j s).feats
    = s.feats ∧ (finishRead j s).members = s.members ∧ (finishRead j s).guard = s.guard ∧ (finishRead j s).trust = s.trust ∧ (finishRead
    j s).now = s.now ∧ (finishRead j s).freeCtr = s.freeCtr ∧ (finishRead j s).pending = s.pending := by
  simp only [finishRead]
  split
  · simp
  · split
    · simp
    · split
      · split <;> simp
      · split
        · simp
        · split
          · split <;> simp
          · rename_i u hu
            have hf := deliverRead_frame _ _ _ _ hu
            simp [hf]

/-- `feedWrites` changes `ctls` only. -/
@[simp] theorem feedWrites_frame (keyNs : Nat) (vpage : Nat) (data : Bytes) (s : State) :
    (feedWrites keyNs vpage data s).mode = s.mode ∧ (feedWrites keyNs vpage data s).power = s.power ∧ (feedWrites keyNs vpage data
    s).stop = s.stop ∧ (feedWrites keyNs vpage data s).recorder = s.recorder ∧ (feedWrites keyNs vpage data s).ports = s.ports ∧
    (feedWrites keyNs vpage data s).fns = s.fns ∧ (feedWrites keyNs vpage data s).cache = s.cache ∧ (feedWrites keyNs vpage data
    s).reads = s.reads ∧ (feedWrites keyNs vpage data s).decks = s.decks ∧ (feedWrites keyNs vpage data s).gauge = s.gauge ∧ (feedWrites
    keyNs vpage data s).vault = s.vault ∧ (feedWrites keyNs vpage data s).fabric = s.fabric ∧ (feedWrites keyNs vpage data s).sched =
    s.sched ∧ (feedWrites keyNs vpage data s).feats = s.feats ∧ (feedWrites keyNs vpage data s).members = s.members ∧ (feedWrites keyNs
    vpage data s).guard = s.guard ∧ (feedWrites keyNs vpage data s).trust = s.trust ∧ (feedWrites keyNs vpage data s).now = s.now ∧
    (feedWrites keyNs vpage data s).freeCtr = s.freeCtr ∧ (feedWrites keyNs vpage data s).out = s.out ∧ (feedWrites keyNs vpage data
    s).pending = s.pending := by simp [feedWrites]

/-- `servePage` changes `stop`, `recorder`, `ports`, `ctls`, `cache`, `reads`, `decks`, `out` only. -/
@[simp] theorem servePage_frame (ns : Nat) (v : Volume) (d : Deck) (vpage : Nat) (data : Bytes) (s : State) :
    (servePage ns v d vpage data s).mode = s.mode ∧ (servePage ns v d vpage data s).power = s.power ∧ (servePage ns v d vpage data
    s).fns = s.fns ∧ (servePage ns v d vpage data s).gauge = s.gauge ∧ (servePage ns v d vpage data s).vault = s.vault ∧ (servePage ns v
    d vpage data s).fabric = s.fabric ∧ (servePage ns v d vpage data s).sched = s.sched ∧ (servePage ns v d vpage data s).feats =
    s.feats ∧ (servePage ns v d vpage data s).members = s.members ∧ (servePage ns v d vpage data s).guard = s.guard ∧ (servePage ns v d
    vpage data s).trust = s.trust ∧ (servePage ns v d vpage data s).now = s.now ∧ (servePage ns v d vpage data s).freeCtr = s.freeCtr ∧
    (servePage ns v d vpage data s).pending = s.pending := by simp [servePage]

/-- `stampRecord` changes `decks` only. -/
@[simp] theorem stampRecord_frame (id : Nat) (jseq : Nat) (parts : List PagePart) (s : State) :
    (stampRecord id jseq parts s).mode = s.mode ∧ (stampRecord id jseq parts s).power = s.power ∧ (stampRecord id jseq parts s).stop =
    s.stop ∧ (stampRecord id jseq parts s).recorder = s.recorder ∧ (stampRecord id jseq parts s).ports = s.ports ∧ (stampRecord id jseq
    parts s).fns = s.fns ∧ (stampRecord id jseq parts s).ctls = s.ctls ∧ (stampRecord id jseq parts s).cache = s.cache ∧ (stampRecord id
    jseq parts s).reads = s.reads ∧ (stampRecord id jseq parts s).gauge = s.gauge ∧ (stampRecord id jseq parts s).vault = s.vault ∧
    (stampRecord id jseq parts s).fabric = s.fabric ∧ (stampRecord id jseq parts s).sched = s.sched ∧ (stampRecord id jseq parts
    s).feats = s.feats ∧ (stampRecord id jseq parts s).members = s.members ∧ (stampRecord id jseq parts s).guard = s.guard ∧
    (stampRecord id jseq parts s).trust = s.trust ∧ (stampRecord id jseq parts s).now = s.now ∧ (stampRecord id jseq parts s).freeCtr =
    s.freeCtr ∧ (stampRecord id jseq parts s).out = s.out ∧ (stampRecord id jseq parts s).pending = s.pending := by simp [stampRecord]

/-- `beginFill` changes `cache`, `decks`, `members`, `out` only. -/
@[simp] theorem beginFill_frame (id : Nat) (d : Deck) (v : Volume) (page : Nat) (s : State) :
    (beginFill id d v page s).mode = s.mode ∧ (beginFill id d v page s).power = s.power ∧ (beginFill id d v page s).stop = s.stop ∧
    (beginFill id d v page s).recorder = s.recorder ∧ (beginFill id d v page s).ports = s.ports ∧ (beginFill id d v page s).fns = s.fns
    ∧ (beginFill id d v page s).ctls = s.ctls ∧ (beginFill id d v page s).reads = s.reads ∧ (beginFill id d v page s).gauge = s.gauge ∧
    (beginFill id d v page s).vault = s.vault ∧ (beginFill id d v page s).fabric = s.fabric ∧ (beginFill id d v page s).sched = s.sched
    ∧ (beginFill id d v page s).feats = s.feats ∧ (beginFill id d v page s).guard = s.guard ∧ (beginFill id d v page s).trust = s.trust
    ∧ (beginFill id d v page s).now = s.now ∧ (beginFill id d v page s).freeCtr = s.freeCtr ∧ (beginFill id d v page s).pending =
    s.pending := by
  simp only [beginFill]
  (repeat' split) <;> (first | rfl | simp)

/-- `startRead` changes `stop`, `recorder`, `ports`, `ctls`, `cache`, `reads`, `decks`, `members`, `out` only. -/
@[simp] theorem startRead_frame (a : IoArgs) (v : Volume) (d : Deck) (compare : Option (Bytes × Bytes)) (toHost : Bool) (s : State) :
    (startRead a v d compare toHost s).mode = s.mode ∧ (startRead a v d compare toHost s).power = s.power ∧ (startRead a v d compare
    toHost s).fns = s.fns ∧ (startRead a v d compare toHost s).gauge = s.gauge ∧ (startRead a v d compare toHost s).vault = s.vault ∧
    (startRead a v d compare toHost s).fabric = s.fabric ∧ (startRead a v d compare toHost s).sched = s.sched ∧ (startRead a v d compare
    toHost s).feats = s.feats ∧ (startRead a v d compare toHost s).guard = s.guard ∧ (startRead a v d compare toHost s).trust = s.trust
    ∧ (startRead a v d compare toHost s).now = s.now ∧ (startRead a v d compare toHost s).freeCtr = s.freeCtr ∧ (startRead a v d compare
    toHost s).pending = s.pending := by
  simp only [startRead]
  (repeat' split) <;> (first | rfl | simp)

/-- `askBase` changes `cache`, `decks`, `members`, `out` only. -/
@[simp] theorem askBase_frame (parts : List PagePart) (s : State) :
    (askBase parts s).mode = s.mode ∧ (askBase parts s).power = s.power ∧ (askBase parts s).stop = s.stop ∧ (askBase parts s).recorder =
    s.recorder ∧ (askBase parts s).ports = s.ports ∧ (askBase parts s).fns = s.fns ∧ (askBase parts s).ctls = s.ctls ∧ (askBase parts
    s).reads = s.reads ∧ (askBase parts s).gauge = s.gauge ∧ (askBase parts s).vault = s.vault ∧ (askBase parts s).fabric = s.fabric ∧
    (askBase parts s).sched = s.sched ∧ (askBase parts s).feats = s.feats ∧ (askBase parts s).guard = s.guard ∧ (askBase parts s).trust
    = s.trust ∧ (askBase parts s).now = s.now ∧ (askBase parts s).freeCtr = s.freeCtr ∧ (askBase parts s).pending = s.pending := by
  simp only [askBase]
  (repeat' split) <;> (first | rfl | simp (disch := (intros; (try dsimp only); (repeat' split) <;> (first | rfl | simp | skip))))

/-- `putJob` changes `ctls` only. -/
@[simp] theorem putJob_frame (ref : CmdRef) (j : WriteJob) (s : State) :
    (putJob ref j s).mode = s.mode ∧ (putJob ref j s).power = s.power ∧ (putJob ref j s).stop = s.stop ∧ (putJob ref j s).recorder =
    s.recorder ∧ (putJob ref j s).ports = s.ports ∧ (putJob ref j s).fns = s.fns ∧ (putJob ref j s).cache = s.cache ∧ (putJob ref j
    s).reads = s.reads ∧ (putJob ref j s).decks = s.decks ∧ (putJob ref j s).gauge = s.gauge ∧ (putJob ref j s).vault = s.vault ∧
    (putJob ref j s).fabric = s.fabric ∧ (putJob ref j s).sched = s.sched ∧ (putJob ref j s).feats = s.feats ∧ (putJob ref j s).members
    = s.members ∧ (putJob ref j s).guard = s.guard ∧ (putJob ref j s).trust = s.trust ∧ (putJob ref j s).now = s.now ∧ (putJob ref j
    s).freeCtr = s.freeCtr ∧ (putJob ref j s).out = s.out ∧ (putJob ref j s).pending = s.pending := by simp [putJob]

/-- `raiseSeq` changes `vault`, `out` only. -/
@[simp] theorem raiseSeq_frame (s : State) :
    (raiseSeq s).mode = s.mode ∧ (raiseSeq s).power = s.power ∧ (raiseSeq s).stop = s.stop ∧ (raiseSeq s).recorder = s.recorder ∧
    (raiseSeq s).ports = s.ports ∧ (raiseSeq s).fns = s.fns ∧ (raiseSeq s).ctls = s.ctls ∧ (raiseSeq s).cache = s.cache ∧ (raiseSeq
    s).reads = s.reads ∧ (raiseSeq s).decks = s.decks ∧ (raiseSeq s).gauge = s.gauge ∧ (raiseSeq s).fabric = s.fabric ∧ (raiseSeq
    s).sched = s.sched ∧ (raiseSeq s).feats = s.feats ∧ (raiseSeq s).members = s.members ∧ (raiseSeq s).guard = s.guard ∧ (raiseSeq
    s).trust = s.trust ∧ (raiseSeq s).now = s.now ∧ (raiseSeq s).freeCtr = s.freeCtr ∧ (raiseSeq s).pending = s.pending := by simp [raiseSeq]

/-- `tryStage` changes `recorder`, `ctls`, `cache`, `decks`, `vault`, `members`, `out` only. -/
@[simp] theorem tryStage_frame (ref : CmdRef) (parts : List PagePart) (s : State) :
    (tryStage ref parts s).mode = s.mode ∧ (tryStage ref parts s).power = s.power ∧ (tryStage ref parts s).stop = s.stop ∧ (tryStage ref
    parts s).ports = s.ports ∧ (tryStage ref parts s).fns = s.fns ∧ (tryStage ref parts s).reads = s.reads ∧ (tryStage ref parts
    s).gauge = s.gauge ∧ (tryStage ref parts s).fabric = s.fabric ∧ (tryStage ref parts s).sched = s.sched ∧ (tryStage ref parts
    s).feats = s.feats ∧ (tryStage ref parts s).guard = s.guard ∧ (tryStage ref parts s).trust = s.trust ∧ (tryStage ref parts s).now =
    s.now ∧ (tryStage ref parts s).freeCtr = s.freeCtr ∧ (tryStage ref parts s).pending = s.pending := by
  simp only [tryStage]
  (repeat' split) <;> (first | rfl | simp)

/-- `beginWrite` changes `recorder`, `ctls`, `cache`, `decks`, `vault`, `members`, `out` only. -/
@[simp] theorem beginWrite_frame (ref : CmdRef) (nsid : Nat) (parts : List PagePart) (s : State) :
    (beginWrite ref nsid parts s).mode = s.mode ∧ (beginWrite ref nsid parts s).power = s.power ∧ (beginWrite ref nsid parts s).stop =
    s.stop ∧ (beginWrite ref nsid parts s).ports = s.ports ∧ (beginWrite ref nsid parts s).fns = s.fns ∧ (beginWrite ref nsid parts
    s).reads = s.reads ∧ (beginWrite ref nsid parts s).gauge = s.gauge ∧ (beginWrite ref nsid parts s).fabric = s.fabric ∧ (beginWrite
    ref nsid parts s).sched = s.sched ∧ (beginWrite ref nsid parts s).feats = s.feats ∧ (beginWrite ref nsid parts s).guard = s.guard ∧
    (beginWrite ref nsid parts s).trust = s.trust ∧ (beginWrite ref nsid parts s).now = s.now ∧ (beginWrite ref nsid parts s).freeCtr =
    s.freeCtr ∧ (beginWrite ref nsid parts s).pending = s.pending := by simp [beginWrite]

/-- `readLike` changes `stop`, `recorder`, `ports`, `fns`, `ctls`, `cache`, `reads`, `decks`, `members`, `out` only. -/
@[simp] theorem readLike_frame (a : IoArgs) (compare : Option (Bytes × Bytes)) (toHost : Bool) (s : State) :
    (readLike a compare toHost s).mode = s.mode ∧ (readLike a compare toHost s).power = s.power ∧ (readLike a compare toHost s).gauge =
    s.gauge ∧ (readLike a compare toHost s).vault = s.vault ∧ (readLike a compare toHost s).fabric = s.fabric ∧ (readLike a compare
    toHost s).sched = s.sched ∧ (readLike a compare toHost s).feats = s.feats ∧ (readLike a compare toHost s).guard = s.guard ∧
    (readLike a compare toHost s).trust = s.trust ∧ (readLike a compare toHost s).now = s.now ∧ (readLike a compare toHost s).freeCtr =
    s.freeCtr ∧ (readLike a compare toHost s).pending = s.pending := by
  simp only [readLike, afterPtr]
  (repeat' split) <;> (first | rfl | simp)

/-- `takeFill` changes `stop`, `recorder`, `ports`, `fns`, `ctls`, `cache`, `reads`, `decks`, `members`, `out` only. -/
@[simp] theorem takeFill_frame (ns : Nat) (id : Nat) (d : Deck) (v : Volume) (vpage : Nat) (at_ : Nat × Nat × Nat) (reads : List BlockRead) (s : State) :
    (takeFill ns id d v vpage at_ reads s).mode = s.mode ∧ (takeFill ns id d v vpage at_ reads s).power = s.power ∧ (takeFill ns id d v
    vpage at_ reads s).gauge = s.gauge ∧ (takeFill ns id d v vpage at_ reads s).vault = s.vault ∧ (takeFill ns id d v vpage at_ reads
    s).fabric = s.fabric ∧ (takeFill ns id d v vpage at_ reads s).sched = s.sched ∧ (takeFill ns id d v vpage at_ reads s).feats =
    s.feats ∧ (takeFill ns id d v vpage at_ reads s).guard = s.guard ∧ (takeFill ns id d v vpage at_ reads s).trust = s.trust ∧
    (takeFill ns id d v vpage at_ reads s).now = s.now ∧ (takeFill ns id d v vpage at_ reads s).freeCtr = s.freeCtr ∧ (takeFill ns id d
    v vpage at_ reads s).pending = s.pending := by
  simp only [takeFill]
  (repeat' split) <;> (first | rfl | simp)

end Sys2Proof.Machine
end

