-- ==== Sys2Proof/Laws/Rebuild.lean ====
section
/-!
SUPPORT. The frames of the operations of Machine/Rebuild.lean: which units of the state each leaves alone.
-/

namespace Sys2Proof.Machine

/-- `chargeReads` changes `recorder`, `ports`, `fns`, `ctls`, `members`, `out` only. -/
@[simp] theorem chargeReads_frame (d : Deck) (hd : Nat) (reads : List BlockRead) (s : State) :
    (chargeReads d hd reads s).mode = s.mode ∧ (chargeReads d hd reads s).power = s.power ∧ (chargeReads d hd reads s).stop = s.stop ∧
    (chargeReads d hd reads s).cache = s.cache ∧ (chargeReads d hd reads s).reads = s.reads ∧ (chargeReads d hd reads s).decks = s.decks
    ∧ (chargeReads d hd reads s).gauge = s.gauge ∧ (chargeReads d hd reads s).vault = s.vault ∧ (chargeReads d hd reads s).fabric =
    s.fabric ∧ (chargeReads d hd reads s).sched = s.sched ∧ (chargeReads d hd reads s).feats = s.feats ∧ (chargeReads d hd reads
    s).guard = s.guard ∧ (chargeReads d hd reads s).trust = s.trust ∧ (chargeReads d hd reads s).now = s.now ∧ (chargeReads d hd reads
    s).freeCtr = s.freeCtr ∧ (chargeReads d hd reads s).pending = s.pending := by
  simp only [chargeReads]
  (repeat' split) <;> (first | rfl | simp (disch := (intros; (try dsimp only); (repeat' split) <;> (first | rfl | simp | skip))))

/-- `emitBlock` changes `members`, `out` only. -/
@[simp] theorem emitBlock_frame (w : WaitWrite) (s : State) :
    (emitBlock w s).mode = s.mode ∧ (emitBlock w s).power = s.power ∧ (emitBlock w s).stop = s.stop ∧ (emitBlock w s).recorder =
    s.recorder ∧ (emitBlock w s).ports = s.ports ∧ (emitBlock w s).fns = s.fns ∧ (emitBlock w s).ctls = s.ctls ∧ (emitBlock w s).cache =
    s.cache ∧ (emitBlock w s).reads = s.reads ∧ (emitBlock w s).decks = s.decks ∧ (emitBlock w s).gauge = s.gauge ∧ (emitBlock w
    s).vault = s.vault ∧ (emitBlock w s).fabric = s.fabric ∧ (emitBlock w s).sched = s.sched ∧ (emitBlock w s).feats = s.feats ∧
    (emitBlock w s).guard = s.guard ∧ (emitBlock w s).trust = s.trust ∧ (emitBlock w s).now = s.now ∧ (emitBlock w s).freeCtr =
    s.freeCtr ∧ (emitBlock w s).pending = s.pending := by
  simp only [emitBlock]
  (repeat' split) <;> (first | rfl | simp)

/-- `emitBlocks` changes `members`, `out` only. -/
@[simp] theorem emitBlocks_frame (ws : List WaitWrite) (s : State) :
    (emitBlocks ws s).mode = s.mode ∧ (emitBlocks ws s).power = s.power ∧ (emitBlocks ws s).stop = s.stop ∧ (emitBlocks ws s).recorder =
    s.recorder ∧ (emitBlocks ws s).ports = s.ports ∧ (emitBlocks ws s).fns = s.fns ∧ (emitBlocks ws s).ctls = s.ctls ∧ (emitBlocks ws
    s).cache = s.cache ∧ (emitBlocks ws s).reads = s.reads ∧ (emitBlocks ws s).decks = s.decks ∧ (emitBlocks ws s).gauge = s.gauge ∧
    (emitBlocks ws s).vault = s.vault ∧ (emitBlocks ws s).fabric = s.fabric ∧ (emitBlocks ws s).sched = s.sched ∧ (emitBlocks ws
    s).feats = s.feats ∧ (emitBlocks ws s).guard = s.guard ∧ (emitBlocks ws s).trust = s.trust ∧ (emitBlocks ws s).now = s.now ∧
    (emitBlocks ws s).freeCtr = s.freeCtr ∧ (emitBlocks ws s).pending = s.pending := by simp [emitBlocks]

/-- `listRow` changes `recorder`, `ports`, `fns`, `ctls`, `decks`, `members`, `guard`, `out` only. -/
@[simp] theorem listRow_frame (id : Nat) (d : Deck) (hd : Nat) (row : Nat) (lost : List Nat) (s : State) :
    (listRow id d hd row lost s).2.mode = s.mode ∧ (listRow id d hd row lost s).2.power = s.power ∧ (listRow id d hd row lost s).2.stop
    = s.stop ∧ (listRow id d hd row lost s).2.cache = s.cache ∧ (listRow id d hd row lost s).2.reads = s.reads ∧ (listRow id d hd row
    lost s).2.gauge = s.gauge ∧ (listRow id d hd row lost s).2.vault = s.vault ∧ (listRow id d hd row lost s).2.fabric = s.fabric ∧
    (listRow id d hd row lost s).2.sched = s.sched ∧ (listRow id d hd row lost s).2.feats = s.feats ∧ (listRow id d hd row lost
    s).2.trust = s.trust ∧ (listRow id d hd row lost s).2.now = s.now ∧ (listRow id d hd row lost s).2.freeCtr = s.freeCtr ∧ (listRow id
    d hd row lost s).2.pending = s.pending := by
  simp only [listRow]
  (repeat' split) <;> (first | rfl | simp)

/-- `consistRow` changes `recorder`, `ports`, `fns`, `ctls`, `decks`, `members`, `guard`, `out` only. -/
@[simp] theorem consistRow_frame (id : Nat) (hd : Nat) (row : Nat) (stead : Option (Nat × MemberEntry)) (have_ : RowBlocks) (lost : List Nat) (s : State) :
    (consistRow id hd row stead have_ lost s).2.mode = s.mode ∧ (consistRow id hd row stead have_ lost s).2.power = s.power ∧
    (consistRow id hd row stead have_ lost s).2.stop = s.stop ∧ (consistRow id hd row stead have_ lost s).2.cache = s.cache ∧
    (consistRow id hd row stead have_ lost s).2.reads = s.reads ∧ (consistRow id hd row stead have_ lost s).2.gauge = s.gauge ∧
    (consistRow id hd row stead have_ lost s).2.vault = s.vault ∧ (consistRow id hd row stead have_ lost s).2.fabric = s.fabric ∧
    (consistRow id hd row stead have_ lost s).2.sched = s.sched ∧ (consistRow id hd row stead have_ lost s).2.feats = s.feats ∧
    (consistRow id hd row stead have_ lost s).2.trust = s.trust ∧ (consistRow id hd row stead have_ lost s).2.now = s.now ∧ (consistRow
    id hd row stead have_ lost s).2.freeCtr = s.freeCtr ∧ (consistRow id hd row stead have_ lost s).2.pending = s.pending := by
  simp only [consistRow]
  (repeat' split) <;> (first | rfl | simp)

/-- `replayRow` changes `recorder`, `ports`, `fns`, `ctls`, `decks`, `members`, `guard`, `out` only. -/
@[simp] theorem replayRow_frame (id : Nat) (i : Intent) (reads : List BlockRead) (listed : Bool) (s : State) (row : Nat) :
    (replayRow id i reads listed s row).mode = s.mode ∧ (replayRow id i reads listed s row).power = s.power ∧ (replayRow id i reads
    listed s row).stop = s.stop ∧ (replayRow id i reads listed s row).cache = s.cache ∧ (replayRow id i reads listed s row).reads =
    s.reads ∧ (replayRow id i reads listed s row).gauge = s.gauge ∧ (replayRow id i reads listed s row).vault = s.vault ∧ (replayRow id
    i reads listed s row).fabric = s.fabric ∧ (replayRow id i reads listed s row).sched = s.sched ∧ (replayRow id i reads listed s
    row).feats = s.feats ∧ (replayRow id i reads listed s row).trust = s.trust ∧ (replayRow id i reads listed s row).now = s.now ∧
    (replayRow id i reads listed s row).freeCtr = s.freeCtr ∧ (replayRow id i reads listed s row).pending = s.pending := by
  simp only [replayRow]
  (repeat' split) <;> (first | rfl | simp)

/-- `listUnsourced` changes `recorder`, `ports`, `fns`, `ctls`, `decks`, `members`, `guard`, `out` only. -/
@[simp] theorem listUnsourced_frame (id : Nat) (d : Deck) (ld : Deck) (i : Intent) (s : State) :
    (listUnsourced id d ld i s).2.mode = s.mode ∧ (listUnsourced id d ld i s).2.power = s.power ∧ (listUnsourced id d ld i s).2.stop =
    s.stop ∧ (listUnsourced id d ld i s).2.cache = s.cache ∧ (listUnsourced id d ld i s).2.reads = s.reads ∧ (listUnsourced id d ld i
    s).2.gauge = s.gauge ∧ (listUnsourced id d ld i s).2.vault = s.vault ∧ (listUnsourced id d ld i s).2.fabric = s.fabric ∧
    (listUnsourced id d ld i s).2.sched = s.sched ∧ (listUnsourced id d ld i s).2.feats = s.feats ∧ (listUnsourced id d ld i s).2.trust
    = s.trust ∧ (listUnsourced id d ld i s).2.now = s.now ∧ (listUnsourced id d ld i s).2.freeCtr = s.freeCtr ∧ (listUnsourced id d ld i
    s).2.pending = s.pending := by
  simp only [listUnsourced]
  (repeat' split) <;> (first | rfl | simp)

/-- `beginResync` changes `recorder`, `decks`, `members`, `out` only. -/
@[simp] theorem beginResync_frame (id : Nat) (s : State) :
    (beginResync id s).mode = s.mode ∧ (beginResync id s).power = s.power ∧ (beginResync id s).stop = s.stop ∧ (beginResync id s).ports
    = s.ports ∧ (beginResync id s).fns = s.fns ∧ (beginResync id s).ctls = s.ctls ∧ (beginResync id s).cache = s.cache ∧ (beginResync id
    s).reads = s.reads ∧ (beginResync id s).gauge = s.gauge ∧ (beginResync id s).vault = s.vault ∧ (beginResync id s).fabric = s.fabric
    ∧ (beginResync id s).sched = s.sched ∧ (beginResync id s).feats = s.feats ∧ (beginResync id s).guard = s.guard ∧ (beginResync id
    s).trust = s.trust ∧ (beginResync id s).now = s.now ∧ (beginResync id s).freeCtr = s.freeCtr ∧ (beginResync id s).pending =
    s.pending := by simp [beginResync]

/-- `resyncIfDue` changes `recorder`, `decks`, `members`, `out` only. -/
@[simp] theorem resyncIfDue_frame (id : Nat) (s : State) :
    (resyncIfDue id s).mode = s.mode ∧ (resyncIfDue id s).power = s.power ∧ (resyncIfDue id s).stop = s.stop ∧ (resyncIfDue id s).ports
    = s.ports ∧ (resyncIfDue id s).fns = s.fns ∧ (resyncIfDue id s).ctls = s.ctls ∧ (resyncIfDue id s).cache = s.cache ∧ (resyncIfDue id
    s).reads = s.reads ∧ (resyncIfDue id s).gauge = s.gauge ∧ (resyncIfDue id s).vault = s.vault ∧ (resyncIfDue id s).fabric = s.fabric
    ∧ (resyncIfDue id s).sched = s.sched ∧ (resyncIfDue id s).feats = s.feats ∧ (resyncIfDue id s).guard = s.guard ∧ (resyncIfDue id
    s).trust = s.trust ∧ (resyncIfDue id s).now = s.now ∧ (resyncIfDue id s).freeCtr = s.freeCtr ∧ (resyncIfDue id s).pending =
    s.pending := by
  simp only [resyncIfDue]
  (repeat' split) <;> (first | rfl | simp)

/-- `replayIntent` changes `recorder`, `ports`, `fns`, `ctls`, `decks`, `members`, `guard`, `out` only. -/
@[simp] theorem replayIntent_frame (deck : Nat) (i : Intent) (reads : List BlockRead) (s : State) :
    (replayIntent deck i reads s).mode = s.mode ∧ (replayIntent deck i reads s).power = s.power ∧ (replayIntent deck i reads s).stop =
    s.stop ∧ (replayIntent deck i reads s).cache = s.cache ∧ (replayIntent deck i reads s).reads = s.reads ∧ (replayIntent deck i reads
    s).gauge = s.gauge ∧ (replayIntent deck i reads s).vault = s.vault ∧ (replayIntent deck i reads s).fabric = s.fabric ∧ (replayIntent
    deck i reads s).sched = s.sched ∧ (replayIntent deck i reads s).feats = s.feats ∧ (replayIntent deck i reads s).trust = s.trust ∧
    (replayIntent deck i reads s).now = s.now ∧ (replayIntent deck i reads s).freeCtr = s.freeCtr ∧ (replayIntent deck i reads
    s).pending = s.pending := by
  simp only [replayIntent]
  (repeat' split) <;> (first | rfl | simp)

/-- `writeTableCopy` changes `members`, `out` only. -/
@[simp] theorem writeTableCopy_frame (id : Nat) (x : Nat) (tagged : Bool) (at_ : Nat) (s : State) :
    (writeTableCopy id x tagged at_ s).mode = s.mode ∧ (writeTableCopy id x tagged at_ s).power = s.power ∧ (writeTableCopy id x tagged
    at_ s).stop = s.stop ∧ (writeTableCopy id x tagged at_ s).recorder = s.recorder ∧ (writeTableCopy id x tagged at_ s).ports = s.ports
    ∧ (writeTableCopy id x tagged at_ s).fns = s.fns ∧ (writeTableCopy id x tagged at_ s).ctls = s.ctls ∧ (writeTableCopy id x tagged
    at_ s).cache = s.cache ∧ (writeTableCopy id x tagged at_ s).reads = s.reads ∧ (writeTableCopy id x tagged at_ s).decks = s.decks ∧
    (writeTableCopy id x tagged at_ s).gauge = s.gauge ∧ (writeTableCopy id x tagged at_ s).vault = s.vault ∧ (writeTableCopy id x
    tagged at_ s).fabric = s.fabric ∧ (writeTableCopy id x tagged at_ s).sched = s.sched ∧ (writeTableCopy id x tagged at_ s).feats =
    s.feats ∧ (writeTableCopy id x tagged at_ s).guard = s.guard ∧ (writeTableCopy id x tagged at_ s).trust = s.trust ∧ (writeTableCopy
    id x tagged at_ s).now = s.now ∧ (writeTableCopy id x tagged at_ s).freeCtr = s.freeCtr ∧ (writeTableCopy id x tagged at_ s).pending
    = s.pending := by
  simp only [writeTableCopy]
  (repeat' split) <;> (first | rfl | simp)

/-- `labelReplacement` changes `members`, `out` only. -/
@[simp] theorem labelReplacement_frame (l : DeckLabel) (mem : Nat) (e : MemberEntry) (s : State) :
    (labelReplacement l mem e s).mode = s.mode ∧ (labelReplacement l mem e s).power = s.power ∧ (labelReplacement l mem e s).stop =
    s.stop ∧ (labelReplacement l mem e s).recorder = s.recorder ∧ (labelReplacement l mem e s).ports = s.ports ∧ (labelReplacement l mem
    e s).fns = s.fns ∧ (labelReplacement l mem e s).ctls = s.ctls ∧ (labelReplacement l mem e s).cache = s.cache ∧ (labelReplacement l
    mem e s).reads = s.reads ∧ (labelReplacement l mem e s).decks = s.decks ∧ (labelReplacement l mem e s).gauge = s.gauge ∧
    (labelReplacement l mem e s).vault = s.vault ∧ (labelReplacement l mem e s).fabric = s.fabric ∧ (labelReplacement l mem e s).sched =
    s.sched ∧ (labelReplacement l mem e s).feats = s.feats ∧ (labelReplacement l mem e s).guard = s.guard ∧ (labelReplacement l mem e
    s).trust = s.trust ∧ (labelReplacement l mem e s).now = s.now ∧ (labelReplacement l mem e s).freeCtr = s.freeCtr ∧ (labelReplacement
    l mem e s).pending = s.pending := by simp [labelReplacement]

/-- `rebuildRow` changes `recorder`, `ports`, `fns`, `ctls`, `decks`, `members`, `guard`, `out` only. -/
@[simp] theorem rebuildRow_frame (id : Nat) (hd : Nat) (cs : List Nat) (reads : List BlockRead) (acc : Bool × State) (row : Nat) :
    (rebuildRow id hd cs reads acc row).2.mode = acc.2.mode ∧ (rebuildRow id hd cs reads acc row).2.power = acc.2.power ∧ (rebuildRow id
    hd cs reads acc row).2.stop = acc.2.stop ∧ (rebuildRow id hd cs reads acc row).2.cache = acc.2.cache ∧ (rebuildRow id hd cs reads
    acc row).2.reads = acc.2.reads ∧ (rebuildRow id hd cs reads acc row).2.gauge = acc.2.gauge ∧ (rebuildRow id hd cs reads acc
    row).2.vault = acc.2.vault ∧ (rebuildRow id hd cs reads acc row).2.fabric = acc.2.fabric ∧ (rebuildRow id hd cs reads acc
    row).2.sched = acc.2.sched ∧ (rebuildRow id hd cs reads acc row).2.feats = acc.2.feats ∧ (rebuildRow id hd cs reads acc row).2.trust
    = acc.2.trust ∧ (rebuildRow id hd cs reads acc row).2.now = acc.2.now ∧ (rebuildRow id hd cs reads acc row).2.freeCtr =
    acc.2.freeCtr ∧ (rebuildRow id hd cs reads acc row).2.pending = acc.2.pending := by
  simp only [rebuildRow]
  (repeat' split) <;> (first | rfl | simp)

/-- `settleWatermark` changes `decks`, `members`, `out` only. -/
@[simp] theorem settleWatermark_frame (id : Nat) (s : State) :
    (settleWatermark id s).mode = s.mode ∧ (settleWatermark id s).power = s.power ∧ (settleWatermark id s).stop = s.stop ∧
    (settleWatermark id s).recorder = s.recorder ∧ (settleWatermark id s).ports = s.ports ∧ (settleWatermark id s).fns = s.fns ∧
    (settleWatermark id s).ctls = s.ctls ∧ (settleWatermark id s).cache = s.cache ∧ (settleWatermark id s).reads = s.reads ∧
    (settleWatermark id s).gauge = s.gauge ∧ (settleWatermark id s).vault = s.vault ∧ (settleWatermark id s).fabric = s.fabric ∧
    (settleWatermark id s).sched = s.sched ∧ (settleWatermark id s).feats = s.feats ∧ (settleWatermark id s).guard = s.guard ∧
    (settleWatermark id s).trust = s.trust ∧ (settleWatermark id s).now = s.now ∧ (settleWatermark id s).freeCtr = s.freeCtr ∧
    (settleWatermark id s).pending = s.pending := by
  simp only [settleWatermark]
  (repeat' split) <;> (first | rfl | simp)

/-- `rebuildHand` changes `recorder`, `ports`, `fns`, `ctls`, `decks`, `members`, `guard`, `out` only. -/
@[simp] theorem rebuildHand_frame (deck : Nat) (hand : Nat) (cs : List Nat) (reads : List BlockRead) (s : State) :
    (rebuildHand deck hand cs reads s).mode = s.mode ∧ (rebuildHand deck hand cs reads s).power = s.power ∧ (rebuildHand deck hand cs
    reads s).stop = s.stop ∧ (rebuildHand deck hand cs reads s).cache = s.cache ∧ (rebuildHand deck hand cs reads s).reads = s.reads ∧
    (rebuildHand deck hand cs reads s).gauge = s.gauge ∧ (rebuildHand deck hand cs reads s).vault = s.vault ∧ (rebuildHand deck hand cs
    reads s).fabric = s.fabric ∧ (rebuildHand deck hand cs reads s).sched = s.sched ∧ (rebuildHand deck hand cs reads s).feats = s.feats
    ∧ (rebuildHand deck hand cs reads s).trust = s.trust ∧ (rebuildHand deck hand cs reads s).now = s.now ∧ (rebuildHand deck hand cs
    reads s).freeCtr = s.freeCtr ∧ (rebuildHand deck hand cs reads s).pending = s.pending := by
  simp only [rebuildHand]
  (repeat' split) <;> (first | rfl | simp)

/-- `writeStructures` changes `decks`, `members`, `out` only. -/
@[simp] theorem writeStructures_frame (id : Nat) (x : Nat) (tagged : Bool) (ring : Ring) (s : State) :
    (writeStructures id x tagged ring s).mode = s.mode ∧ (writeStructures id x tagged ring s).power = s.power ∧ (writeStructures id x
    tagged ring s).stop = s.stop ∧ (writeStructures id x tagged ring s).recorder = s.recorder ∧ (writeStructures id x tagged ring
    s).ports = s.ports ∧ (writeStructures id x tagged ring s).fns = s.fns ∧ (writeStructures id x tagged ring s).ctls = s.ctls ∧
    (writeStructures id x tagged ring s).cache = s.cache ∧ (writeStructures id x tagged ring s).reads = s.reads ∧ (writeStructures id x
    tagged ring s).gauge = s.gauge ∧ (writeStructures id x tagged ring s).vault = s.vault ∧ (writeStructures id x tagged ring s).fabric
    = s.fabric ∧ (writeStructures id x tagged ring s).sched = s.sched ∧ (writeStructures id x tagged ring s).feats = s.feats ∧
    (writeStructures id x tagged ring s).guard = s.guard ∧ (writeStructures id x tagged ring s).trust = s.trust ∧ (writeStructures id x
    tagged ring s).now = s.now ∧ (writeStructures id x tagged ring s).freeCtr = s.freeCtr ∧ (writeStructures id x tagged ring s).pending
    = s.pending := by
  simp only [writeStructures]
  (repeat' split) <;> (first | rfl | simp)

/-- `beginCopyback` changes `recorder`, `decks`, `members`, `out` only. -/
@[simp] theorem beginCopyback_frame (id : Nat) (x : Nat) (s : State) :
    (beginCopyback id x s).mode = s.mode ∧ (beginCopyback id x s).power = s.power ∧ (beginCopyback id x s).stop = s.stop ∧
    (beginCopyback id x s).ports = s.ports ∧ (beginCopyback id x s).fns = s.fns ∧ (beginCopyback id x s).ctls = s.ctls ∧ (beginCopyback
    id x s).cache = s.cache ∧ (beginCopyback id x s).reads = s.reads ∧ (beginCopyback id x s).gauge = s.gauge ∧ (beginCopyback id x
    s).vault = s.vault ∧ (beginCopyback id x s).fabric = s.fabric ∧ (beginCopyback id x s).sched = s.sched ∧ (beginCopyback id x
    s).feats = s.feats ∧ (beginCopyback id x s).guard = s.guard ∧ (beginCopyback id x s).trust = s.trust ∧ (beginCopyback id x s).now =
    s.now ∧ (beginCopyback id x s).freeCtr = s.freeCtr ∧ (beginCopyback id x s).pending = s.pending := by
  simp only [beginCopyback]
  (repeat' split) <;> (first | rfl | simp)

/-- `startRecorded` changes `recorder`, `decks`, `members`, `out` only. -/
@[simp] theorem startRecorded_frame (id : Nat) (s : State) :
    (startRecorded id s).mode = s.mode ∧ (startRecorded id s).power = s.power ∧ (startRecorded id s).stop = s.stop ∧ (startRecorded id
    s).ports = s.ports ∧ (startRecorded id s).fns = s.fns ∧ (startRecorded id s).ctls = s.ctls ∧ (startRecorded id s).cache = s.cache ∧
    (startRecorded id s).reads = s.reads ∧ (startRecorded id s).gauge = s.gauge ∧ (startRecorded id s).vault = s.vault ∧ (startRecorded
    id s).fabric = s.fabric ∧ (startRecorded id s).sched = s.sched ∧ (startRecorded id s).feats = s.feats ∧ (startRecorded id s).guard =
    s.guard ∧ (startRecorded id s).trust = s.trust ∧ (startRecorded id s).now = s.now ∧ (startRecorded id s).freeCtr = s.freeCtr ∧
    (startRecorded id s).pending = s.pending := by
  simp only [startRecorded]
  (repeat' split) <;> (first | rfl | simp)

/-- `copyRow` changes `recorder`, `ports`, `fns`, `ctls`, `decks`, `members`, `guard`, `out` only. -/
@[simp] theorem copyRow_frame (id : Nat) (hd : Nat) (c : Nat) (e : MemberEntry) (reads : List BlockRead) (acc : Bool × State) (row : Nat) :
    (copyRow id hd c e reads acc row).2.mode = acc.2.mode ∧ (copyRow id hd c e reads acc row).2.power = acc.2.power ∧ (copyRow id hd c e
    reads acc row).2.stop = acc.2.stop ∧ (copyRow id hd c e reads acc row).2.cache = acc.2.cache ∧ (copyRow id hd c e reads acc
    row).2.reads = acc.2.reads ∧ (copyRow id hd c e reads acc row).2.gauge = acc.2.gauge ∧ (copyRow id hd c e reads acc row).2.vault =
    acc.2.vault ∧ (copyRow id hd c e reads acc row).2.fabric = acc.2.fabric ∧ (copyRow id hd c e reads acc row).2.sched = acc.2.sched ∧
    (copyRow id hd c e reads acc row).2.feats = acc.2.feats ∧ (copyRow id hd c e reads acc row).2.trust = acc.2.trust ∧ (copyRow id hd c
    e reads acc row).2.now = acc.2.now ∧ (copyRow id hd c e reads acc row).2.freeCtr = acc.2.freeCtr ∧ (copyRow id hd c e reads acc
    row).2.pending = acc.2.pending := by
  simp only [copyRow]
  (repeat' split) <;> (first | rfl | simp)

/-- `scanHand` changes `recorder`, `ports`, `fns`, `ctls`, `decks`, `members`, `guard`, `out` only. -/
@[simp] theorem scanHand_frame (id : Nat) (hd : Nat) (s : State) :
    (scanHand id hd s).mode = s.mode ∧ (scanHand id hd s).power = s.power ∧ (scanHand id hd s).stop = s.stop ∧ (scanHand id hd s).cache
    = s.cache ∧ (scanHand id hd s).reads = s.reads ∧ (scanHand id hd s).gauge = s.gauge ∧ (scanHand id hd s).vault = s.vault ∧ (scanHand
    id hd s).fabric = s.fabric ∧ (scanHand id hd s).sched = s.sched ∧ (scanHand id hd s).feats = s.feats ∧ (scanHand id hd s).trust =
    s.trust ∧ (scanHand id hd s).now = s.now ∧ (scanHand id hd s).freeCtr = s.freeCtr ∧ (scanHand id hd s).pending = s.pending := by
  simp only [scanHand]
  (repeat' split) <;> (first | rfl | simp)

/-- `scanStep` changes `recorder`, `ports`, `fns`, `ctls`, `decks`, `members`, `guard`, `out` only. -/
@[simp] theorem scanStep_frame (id : Nat) (acc : Bool × State) (hd : Nat) :
    (scanStep id acc hd).2.mode = acc.2.mode ∧ (scanStep id acc hd).2.power = acc.2.power ∧ (scanStep id acc hd).2.stop = acc.2.stop ∧
    (scanStep id acc hd).2.cache = acc.2.cache ∧ (scanStep id acc hd).2.reads = acc.2.reads ∧ (scanStep id acc hd).2.gauge = acc.2.gauge
    ∧ (scanStep id acc hd).2.vault = acc.2.vault ∧ (scanStep id acc hd).2.fabric = acc.2.fabric ∧ (scanStep id acc hd).2.sched =
    acc.2.sched ∧ (scanStep id acc hd).2.feats = acc.2.feats ∧ (scanStep id acc hd).2.trust = acc.2.trust ∧ (scanStep id acc hd).2.now =
    acc.2.now ∧ (scanStep id acc hd).2.freeCtr = acc.2.freeCtr ∧ (scanStep id acc hd).2.pending = acc.2.pending := by
  simp only [scanStep]
  (repeat' split) <;> (first | rfl | simp)

/-- `endCopyback` changes `recorder`, `ports`, `fns`, `ctls`, `decks`, `members`, `guard`, `out` only. -/
@[simp] theorem endCopyback_frame (id : Nat) (mem : Nat) (x : Nat) (s : State) :
    (endCopyback id mem x s).mode = s.mode ∧ (endCopyback id mem x s).power = s.power ∧ (endCopyback id mem x s).stop = s.stop ∧
    (endCopyback id mem x s).cache = s.cache ∧ (endCopyback id mem x s).reads = s.reads ∧ (endCopyback id mem x s).gauge = s.gauge ∧
    (endCopyback id mem x s).vault = s.vault ∧ (endCopyback id mem x s).fabric = s.fabric ∧ (endCopyback id mem x s).sched = s.sched ∧
    (endCopyback id mem x s).feats = s.feats ∧ (endCopyback id mem x s).trust = s.trust ∧ (endCopyback id mem x s).now = s.now ∧
    (endCopyback id mem x s).freeCtr = s.freeCtr ∧ (endCopyback id mem x s).pending = s.pending := by
  simp only [endCopyback]
  (repeat' split) <;> (first | rfl | simp)

/-- `endResync` changes `recorder`, `decks`, `members`, `out` only. -/
@[simp] theorem endResync_frame (id : Nat) (s : State) :
    (endResync id s).mode = s.mode ∧ (endResync id s).power = s.power ∧ (endResync id s).stop = s.stop ∧ (endResync id s).ports =
    s.ports ∧ (endResync id s).fns = s.fns ∧ (endResync id s).ctls = s.ctls ∧ (endResync id s).cache = s.cache ∧ (endResync id s).reads
    = s.reads ∧ (endResync id s).gauge = s.gauge ∧ (endResync id s).vault = s.vault ∧ (endResync id s).fabric = s.fabric ∧ (endResync id
    s).sched = s.sched ∧ (endResync id s).feats = s.feats ∧ (endResync id s).guard = s.guard ∧ (endResync id s).trust = s.trust ∧
    (endResync id s).now = s.now ∧ (endResync id s).freeCtr = s.freeCtr ∧ (endResync id s).pending = s.pending := by simp [endResync]

/-- `resyncRow` changes `recorder`, `ports`, `fns`, `ctls`, `decks`, `members`, `guard`, `out` only. -/
@[simp] theorem resyncRow_frame (id : Nat) (hd : Nat) (reads : List BlockRead) (s : State) (row : Nat) :
    (resyncRow id hd reads s row).mode = s.mode ∧ (resyncRow id hd reads s row).power = s.power ∧ (resyncRow id hd reads s row).stop =
    s.stop ∧ (resyncRow id hd reads s row).cache = s.cache ∧ (resyncRow id hd reads s row).reads = s.reads ∧ (resyncRow id hd reads s
    row).gauge = s.gauge ∧ (resyncRow id hd reads s row).vault = s.vault ∧ (resyncRow id hd reads s row).fabric = s.fabric ∧ (resyncRow
    id hd reads s row).sched = s.sched ∧ (resyncRow id hd reads s row).feats = s.feats ∧ (resyncRow id hd reads s row).trust = s.trust ∧
    (resyncRow id hd reads s row).now = s.now ∧ (resyncRow id hd reads s row).freeCtr = s.freeCtr ∧ (resyncRow id hd reads s
    row).pending = s.pending := by
  simp only [resyncRow]
  (repeat' split) <;> (first | rfl | simp)

/-- `resyncHand` changes `mode`, `recorder`, `ports`, `fns`, `ctls`, `cache`, `decks`, `vault`, `members`, `guard`, `freeCtr`, `out` only. -/
@[simp] theorem resyncHand_frame (deck : Nat) (hand : Nat) (wm : Nat) (started : BitVec 64) (reads : List BlockRead) (s : State) :
    (resyncHand deck hand wm started reads s).power = s.power ∧ (resyncHand deck hand wm started reads s).stop = s.stop ∧ (resyncHand
    deck hand wm started reads s).reads = s.reads ∧ (resyncHand deck hand wm started reads s).gauge = s.gauge ∧ (resyncHand deck hand wm
    started reads s).fabric = s.fabric ∧ (resyncHand deck hand wm started reads s).sched = s.sched ∧ (resyncHand deck hand wm started
    reads s).feats = s.feats ∧ (resyncHand deck hand wm started reads s).trust = s.trust ∧ (resyncHand deck hand wm started reads s).now
    = s.now ∧ (resyncHand deck hand wm started reads s).pending = s.pending := by
  simp only [resyncHand]
  (repeat' split) <;> (first | rfl | simp)

/-- `addFinding` changes `recorder`, `ports`, `fns`, `ctls`, `decks`, `members`, `out` only. -/
@[simp] theorem addFinding_frame (id : Nat) (hd : Nat) (row : Nat) (code : Nat) (chunk : Nat) (action : Nat) (fromHost : Bool) (s : State) :
    (addFinding id hd row code chunk action fromHost s).mode = s.mode ∧ (addFinding id hd row code chunk action fromHost s).power =
    s.power ∧ (addFinding id hd row code chunk action fromHost s).stop = s.stop ∧ (addFinding id hd row code chunk action fromHost
    s).cache = s.cache ∧ (addFinding id hd row code chunk action fromHost s).reads = s.reads ∧ (addFinding id hd row code chunk action
    fromHost s).gauge = s.gauge ∧ (addFinding id hd row code chunk action fromHost s).vault = s.vault ∧ (addFinding id hd row code chunk
    action fromHost s).fabric = s.fabric ∧ (addFinding id hd row code chunk action fromHost s).sched = s.sched ∧ (addFinding id hd row
    code chunk action fromHost s).feats = s.feats ∧ (addFinding id hd row code chunk action fromHost s).guard = s.guard ∧ (addFinding id
    hd row code chunk action fromHost s).trust = s.trust ∧ (addFinding id hd row code chunk action fromHost s).now = s.now ∧ (addFinding
    id hd row code chunk action fromHost s).freeCtr = s.freeCtr ∧ (addFinding id hd row code chunk action fromHost s).pending =
    s.pending := by
  simp only [addFinding]
  (repeat' split) <;> (first | rfl | simp)

/-- `repairBlocks` changes `recorder`, `decks`, `members`, `out` only. -/
@[simp] theorem repairBlocks_frame (id : Nat) (hd : Nat) (row : Nat) (bs : RowBlocks) (reads : List BlockRead) (ss : List ParityStream) (s : State) :
    (repairBlocks id hd row bs reads ss s).mode = s.mode ∧ (repairBlocks id hd row bs reads ss s).power = s.power ∧ (repairBlocks id hd
    row bs reads ss s).stop = s.stop ∧ (repairBlocks id hd row bs reads ss s).ports = s.ports ∧ (repairBlocks id hd row bs reads ss
    s).fns = s.fns ∧ (repairBlocks id hd row bs reads ss s).ctls = s.ctls ∧ (repairBlocks id hd row bs reads ss s).cache = s.cache ∧
    (repairBlocks id hd row bs reads ss s).reads = s.reads ∧ (repairBlocks id hd row bs reads ss s).gauge = s.gauge ∧ (repairBlocks id
    hd row bs reads ss s).vault = s.vault ∧ (repairBlocks id hd row bs reads ss s).fabric = s.fabric ∧ (repairBlocks id hd row bs reads
    ss s).sched = s.sched ∧ (repairBlocks id hd row bs reads ss s).feats = s.feats ∧ (repairBlocks id hd row bs reads ss s).guard =
    s.guard ∧ (repairBlocks id hd row bs reads ss s).trust = s.trust ∧ (repairBlocks id hd row bs reads ss s).now = s.now ∧
    (repairBlocks id hd row bs reads ss s).freeCtr = s.freeCtr ∧ (repairBlocks id hd row bs reads ss s).pending = s.pending := by
  simp only [repairBlocks]
  (repeat' split) <;> (first | rfl | simp)

/-- `repairRead` changes `recorder`, `ports`, `fns`, `ctls`, `decks`, `members`, `guard`, `out` only. -/
@[simp] theorem repairRead_frame (id : Nat) (hd : Nat) (row : Nat) (chunk : Nat) (code : Nat) (reads : List BlockRead) (s : State) :
    (repairRead id hd row chunk code reads s).mode = s.mode ∧ (repairRead id hd row chunk code reads s).power = s.power ∧ (repairRead id
    hd row chunk code reads s).stop = s.stop ∧ (repairRead id hd row chunk code reads s).cache = s.cache ∧ (repairRead id hd row chunk
    code reads s).reads = s.reads ∧ (repairRead id hd row chunk code reads s).gauge = s.gauge ∧ (repairRead id hd row chunk code reads
    s).vault = s.vault ∧ (repairRead id hd row chunk code reads s).fabric = s.fabric ∧ (repairRead id hd row chunk code reads s).sched =
    s.sched ∧ (repairRead id hd row chunk code reads s).feats = s.feats ∧ (repairRead id hd row chunk code reads s).trust = s.trust ∧
    (repairRead id hd row chunk code reads s).now = s.now ∧ (repairRead id hd row chunk code reads s).freeCtr = s.freeCtr ∧ (repairRead
    id hd row chunk code reads s).pending = s.pending := by
  simp only [repairRead]
  (repeat' split) <;> (first | rfl | simp)

/-- `mendSurvivors` changes `recorder`, `ports`, `fns`, `ctls`, `decks`, `members`, `guard`, `out` only. -/
@[simp] theorem mendSurvivors_frame (id : Nat) (hd : Nat) (reads : List BlockRead) (s : State) (row : Nat) :
    (mendSurvivors id hd reads s row).mode = s.mode ∧ (mendSurvivors id hd reads s row).power = s.power ∧ (mendSurvivors id hd reads s
    row).stop = s.stop ∧ (mendSurvivors id hd reads s row).cache = s.cache ∧ (mendSurvivors id hd reads s row).reads = s.reads ∧
    (mendSurvivors id hd reads s row).gauge = s.gauge ∧ (mendSurvivors id hd reads s row).vault = s.vault ∧ (mendSurvivors id hd reads s
    row).fabric = s.fabric ∧ (mendSurvivors id hd reads s row).sched = s.sched ∧ (mendSurvivors id hd reads s row).feats = s.feats ∧
    (mendSurvivors id hd reads s row).trust = s.trust ∧ (mendSurvivors id hd reads s row).now = s.now ∧ (mendSurvivors id hd reads s
    row).freeCtr = s.freeCtr ∧ (mendSurvivors id hd reads s row).pending = s.pending := by
  simp only [mendSurvivors, withLock]
  (repeat' split) <;> (first | rfl | simp (disch := (intros; (try dsimp only); (repeat' split) <;> (first | rfl | simp | skip))))

/-- `finishScanRow` changes `recorder`, `ports`, `fns`, `ctls`, `decks`, `members`, `guard`, `out` only. -/
@[simp] theorem finishScanRow_frame (id : Nat) (hd : Nat) (i : Intent) (reads : List BlockRead) (s : State) (row : Nat) :
    (finishScanRow id hd i reads s row).mode = s.mode ∧ (finishScanRow id hd i reads s row).power = s.power ∧ (finishScanRow id hd i
    reads s row).stop = s.stop ∧ (finishScanRow id hd i reads s row).cache = s.cache ∧ (finishScanRow id hd i reads s row).reads =
    s.reads ∧ (finishScanRow id hd i reads s row).gauge = s.gauge ∧ (finishScanRow id hd i reads s row).vault = s.vault ∧ (finishScanRow
    id hd i reads s row).fabric = s.fabric ∧ (finishScanRow id hd i reads s row).sched = s.sched ∧ (finishScanRow id hd i reads s
    row).feats = s.feats ∧ (finishScanRow id hd i reads s row).trust = s.trust ∧ (finishScanRow id hd i reads s row).now = s.now ∧
    (finishScanRow id hd i reads s row).freeCtr = s.freeCtr ∧ (finishScanRow id hd i reads s row).pending = s.pending := by
  simp only [finishScanRow]
  (repeat' split) <;> (first | rfl | simp)

/-- `finishScanHand` changes `recorder`, `ports`, `fns`, `ctls`, `decks`, `members`, `guard`, `out` only. -/
@[simp] theorem finishScanHand_frame (id : Nat) (hd : Nat) (i : Intent) (reads : List BlockRead) (s : State) :
    (finishScanHand id hd i reads s).mode = s.mode ∧ (finishScanHand id hd i reads s).power = s.power ∧ (finishScanHand id hd i reads
    s).stop = s.stop ∧ (finishScanHand id hd i reads s).cache = s.cache ∧ (finishScanHand id hd i reads s).reads = s.reads ∧
    (finishScanHand id hd i reads s).gauge = s.gauge ∧ (finishScanHand id hd i reads s).vault = s.vault ∧ (finishScanHand id hd i reads
    s).fabric = s.fabric ∧ (finishScanHand id hd i reads s).sched = s.sched ∧ (finishScanHand id hd i reads s).feats = s.feats ∧
    (finishScanHand id hd i reads s).trust = s.trust ∧ (finishScanHand id hd i reads s).now = s.now ∧ (finishScanHand id hd i reads
    s).freeCtr = s.freeCtr ∧ (finishScanHand id hd i reads s).pending = s.pending := by simp [finishScanHand]

/-- `setHold` changes `recorder`, `ports`, `fns`, `ctls`, `decks`, `members`, `guard`, `out` only. -/
@[simp] theorem setHold_frame (ref : CmdRef) (deckId : Nat) (hold : Bool) (s : State) :
    (setHold ref deckId hold s).mode = s.mode ∧ (setHold ref deckId hold s).power = s.power ∧ (setHold ref deckId hold s).stop = s.stop
    ∧ (setHold ref deckId hold s).cache = s.cache ∧ (setHold ref deckId hold s).reads = s.reads ∧ (setHold ref deckId hold s).gauge =
    s.gauge ∧ (setHold ref deckId hold s).vault = s.vault ∧ (setHold ref deckId hold s).fabric = s.fabric ∧ (setHold ref deckId hold
    s).sched = s.sched ∧ (setHold ref deckId hold s).feats = s.feats ∧ (setHold ref deckId hold s).trust = s.trust ∧ (setHold ref deckId
    hold s).now = s.now ∧ (setHold ref deckId hold s).freeCtr = s.freeCtr ∧ (setHold ref deckId hold s).pending = s.pending := by
  simp only [setHold]
  (repeat' split) <;> (first | rfl | simp)

/-- `copyRound` changes `mode`, `recorder`, `ports`, `fns`, `ctls`, `cache`, `decks`, `vault`, `members`, `guard`, `freeCtr`, `out` only. -/
@[simp] theorem copyRound_frame (deck : Nat) (fe : FailEntry) (e : MemberEntry) (todo : List (Nat × Nat)) (reads : List (Nat × List BlockRead)) (s : State) :
    (copyRound deck fe e todo reads s).power = s.power ∧ (copyRound deck fe e todo reads s).stop = s.stop ∧ (copyRound deck fe e todo
    reads s).reads = s.reads ∧ (copyRound deck fe e todo reads s).gauge = s.gauge ∧ (copyRound deck fe e todo reads s).fabric = s.fabric
    ∧ (copyRound deck fe e todo reads s).sched = s.sched ∧ (copyRound deck fe e todo reads s).feats = s.feats ∧ (copyRound deck fe e
    todo reads s).trust = s.trust ∧ (copyRound deck fe e todo reads s).now = s.now ∧ (copyRound deck fe e todo reads s).pending =
    s.pending := by
  simp only [copyRound]
  (repeat' split) <;> (first | rfl | simp)

end Sys2Proof.Machine
end

