-- ==== Sys2Proof/Laws/Patrol.lean ====
section
/-!
SUPPORT. The frames of the operations of Machine/Patrol.lean: which units of the state each leaves alone.
-/

namespace Sys2Proof.Machine

/-- `mendMember` changes `decks`, `members`, `out` only. -/
@[simp] theorem mendMember_frame (id : Nat) (s : State) (r : Nat × List (Nat × Bytes)) :
    (mendMember id s r).mode = s.mode ∧ (mendMember id s r).power = s.power ∧ (mendMember id s r).stop = s.stop ∧ (mendMember id s
    r).recorder = s.recorder ∧ (mendMember id s r).ports = s.ports ∧ (mendMember id s r).fns = s.fns ∧ (mendMember id s r).ctls = s.ctls
    ∧ (mendMember id s r).cache = s.cache ∧ (mendMember id s r).reads = s.reads ∧ (mendMember id s r).gauge = s.gauge ∧ (mendMember id s
    r).vault = s.vault ∧ (mendMember id s r).fabric = s.fabric ∧ (mendMember id s r).sched = s.sched ∧ (mendMember id s r).feats =
    s.feats ∧ (mendMember id s r).guard = s.guard ∧ (mendMember id s r).trust = s.trust ∧ (mendMember id s r).now = s.now ∧ (mendMember
    id s r).freeCtr = s.freeCtr ∧ (mendMember id s r).pending = s.pending := by
  simp only [mendMember]
  (repeat' split) <;> (first | rfl | simp)

/-- `mendCopies` changes `decks`, `members`, `out` only. -/
@[simp] theorem mendCopies_frame (pass : PassStart) (s : State) :
    (mendCopies pass s).mode = s.mode ∧ (mendCopies pass s).power = s.power ∧ (mendCopies pass s).stop = s.stop ∧ (mendCopies pass
    s).recorder = s.recorder ∧ (mendCopies pass s).ports = s.ports ∧ (mendCopies pass s).fns = s.fns ∧ (mendCopies pass s).ctls = s.ctls
    ∧ (mendCopies pass s).cache = s.cache ∧ (mendCopies pass s).reads = s.reads ∧ (mendCopies pass s).gauge = s.gauge ∧ (mendCopies pass
    s).vault = s.vault ∧ (mendCopies pass s).fabric = s.fabric ∧ (mendCopies pass s).sched = s.sched ∧ (mendCopies pass s).feats =
    s.feats ∧ (mendCopies pass s).guard = s.guard ∧ (mendCopies pass s).trust = s.trust ∧ (mendCopies pass s).now = s.now ∧ (mendCopies
    pass s).freeCtr = s.freeCtr ∧ (mendCopies pass s).pending = s.pending := by simp [mendCopies]

/-- `writePatrolPage` changes `decks`, `out` only. -/
@[simp] theorem writePatrolPage_frame (s : State) :
    (writePatrolPage s).mode = s.mode ∧ (writePatrolPage s).power = s.power ∧ (writePatrolPage s).stop = s.stop ∧ (writePatrolPage
    s).recorder = s.recorder ∧ (writePatrolPage s).ports = s.ports ∧ (writePatrolPage s).fns = s.fns ∧ (writePatrolPage s).ctls = s.ctls
    ∧ (writePatrolPage s).cache = s.cache ∧ (writePatrolPage s).reads = s.reads ∧ (writePatrolPage s).gauge = s.gauge ∧ (writePatrolPage
    s).vault = s.vault ∧ (writePatrolPage s).fabric = s.fabric ∧ (writePatrolPage s).sched = s.sched ∧ (writePatrolPage s).feats =
    s.feats ∧ (writePatrolPage s).members = s.members ∧ (writePatrolPage s).guard = s.guard ∧ (writePatrolPage s).trust = s.trust ∧
    (writePatrolPage s).now = s.now ∧ (writePatrolPage s).freeCtr = s.freeCtr ∧ (writePatrolPage s).pending = s.pending := by simp [writePatrolPage]

/-- `addFindings` changes `recorder`, `ports`, `fns`, `ctls`, `decks`, `members`, `out` only. -/
@[simp] theorem addFindings_frame (id : Nat) (hd : Nat) (row : Nat) (action : Nat) (fs : List (Nat × Nat)) (s : State) :
    (addFindings id hd row action fs s).mode = s.mode ∧ (addFindings id hd row action fs s).power = s.power ∧ (addFindings id hd row
    action fs s).stop = s.stop ∧ (addFindings id hd row action fs s).cache = s.cache ∧ (addFindings id hd row action fs s).reads =
    s.reads ∧ (addFindings id hd row action fs s).gauge = s.gauge ∧ (addFindings id hd row action fs s).vault = s.vault ∧ (addFindings
    id hd row action fs s).fabric = s.fabric ∧ (addFindings id hd row action fs s).sched = s.sched ∧ (addFindings id hd row action fs
    s).feats = s.feats ∧ (addFindings id hd row action fs s).guard = s.guard ∧ (addFindings id hd row action fs s).trust = s.trust ∧
    (addFindings id hd row action fs s).now = s.now ∧ (addFindings id hd row action fs s).freeCtr = s.freeCtr ∧ (addFindings id hd row
    action fs s).pending = s.pending := by simp [addFindings]

/-- `mendRow` changes `mode`, `recorder`, `ports`, `fns`, `ctls`, `cache`, `decks`, `vault`, `members`, `guard`, `freeCtr`, `out` only. -/
@[simp] theorem mendRow_frame (deck : Nat) (hand : Nat) (row : Nat) (sus : Nat × Nat × List (Nat × Nat)) (reads : List BlockRead) (s : State) :
    (mendRow deck hand row sus reads s).power = s.power ∧ (mendRow deck hand row sus reads s).stop = s.stop ∧ (mendRow deck hand row sus
    reads s).reads = s.reads ∧ (mendRow deck hand row sus reads s).gauge = s.gauge ∧ (mendRow deck hand row sus reads s).fabric =
    s.fabric ∧ (mendRow deck hand row sus reads s).sched = s.sched ∧ (mendRow deck hand row sus reads s).feats = s.feats ∧ (mendRow deck
    hand row sus reads s).trust = s.trust ∧ (mendRow deck hand row sus reads s).now = s.now ∧ (mendRow deck hand row sus reads
    s).pending = s.pending := by
  simp only [mendRow]
  (repeat' split) <;> (first | rfl | simp)

/-- `endPass` changes `recorder`, `decks` only. -/
@[simp] theorem endPass_frame (id : Nat) (s : State) :
    (endPass id s).mode = s.mode ∧ (endPass id s).power = s.power ∧ (endPass id s).stop = s.stop ∧ (endPass id s).ports = s.ports ∧
    (endPass id s).fns = s.fns ∧ (endPass id s).ctls = s.ctls ∧ (endPass id s).cache = s.cache ∧ (endPass id s).reads = s.reads ∧
    (endPass id s).gauge = s.gauge ∧ (endPass id s).vault = s.vault ∧ (endPass id s).fabric = s.fabric ∧ (endPass id s).sched = s.sched
    ∧ (endPass id s).feats = s.feats ∧ (endPass id s).members = s.members ∧ (endPass id s).guard = s.guard ∧ (endPass id s).trust =
    s.trust ∧ (endPass id s).now = s.now ∧ (endPass id s).freeCtr = s.freeCtr ∧ (endPass id s).out = s.out ∧ (endPass id s).pending =
    s.pending := by
  simp only [endPass]
  (repeat' split) <;> (first | rfl | simp)

/-- `stepCursor` changes `recorder`, `decks` only. -/
@[simp] theorem stepCursor_frame (id : Nat) (hd : Nat) (row : Nat) (s : State) :
    (stepCursor id hd row s).mode = s.mode ∧ (stepCursor id hd row s).power = s.power ∧ (stepCursor id hd row s).stop = s.stop ∧
    (stepCursor id hd row s).ports = s.ports ∧ (stepCursor id hd row s).fns = s.fns ∧ (stepCursor id hd row s).ctls = s.ctls ∧
    (stepCursor id hd row s).cache = s.cache ∧ (stepCursor id hd row s).reads = s.reads ∧ (stepCursor id hd row s).gauge = s.gauge ∧
    (stepCursor id hd row s).vault = s.vault ∧ (stepCursor id hd row s).fabric = s.fabric ∧ (stepCursor id hd row s).sched = s.sched ∧
    (stepCursor id hd row s).feats = s.feats ∧ (stepCursor id hd row s).members = s.members ∧ (stepCursor id hd row s).guard = s.guard ∧
    (stepCursor id hd row s).trust = s.trust ∧ (stepCursor id hd row s).now = s.now ∧ (stepCursor id hd row s).freeCtr = s.freeCtr ∧
    (stepCursor id hd row s).out = s.out ∧ (stepCursor id hd row s).pending = s.pending := by
  simp only [stepCursor]
  (repeat' split) <;> (first | rfl | simp)

/-- `beginPass` changes `recorder`, `decks` only. -/
@[simp] theorem beginPass_frame (id : Nat) (s : State) :
    (beginPass id s).mode = s.mode ∧ (beginPass id s).power = s.power ∧ (beginPass id s).stop = s.stop ∧ (beginPass id s).ports =
    s.ports ∧ (beginPass id s).fns = s.fns ∧ (beginPass id s).ctls = s.ctls ∧ (beginPass id s).cache = s.cache ∧ (beginPass id s).reads
    = s.reads ∧ (beginPass id s).gauge = s.gauge ∧ (beginPass id s).vault = s.vault ∧ (beginPass id s).fabric = s.fabric ∧ (beginPass id
    s).sched = s.sched ∧ (beginPass id s).feats = s.feats ∧ (beginPass id s).members = s.members ∧ (beginPass id s).guard = s.guard ∧
    (beginPass id s).trust = s.trust ∧ (beginPass id s).now = s.now ∧ (beginPass id s).freeCtr = s.freeCtr ∧ (beginPass id s).out =
    s.out ∧ (beginPass id s).pending = s.pending := by
  simp only [beginPass]
  (repeat' split) <;> (first | rfl | simp)

/-- `checkRow` changes `mode`, `recorder`, `ports`, `fns`, `ctls`, `cache`, `decks`, `vault`, `members`, `guard`, `freeCtr`, `out` only. -/
@[simp] theorem checkRow_frame (deck : Nat) (hand : Nat) (row : Nat) (reads : List BlockRead) (s : State) :
    (checkRow deck hand row reads s).power = s.power ∧ (checkRow deck hand row reads s).stop = s.stop ∧ (checkRow deck hand row reads
    s).reads = s.reads ∧ (checkRow deck hand row reads s).gauge = s.gauge ∧ (checkRow deck hand row reads s).fabric = s.fabric ∧
    (checkRow deck hand row reads s).sched = s.sched ∧ (checkRow deck hand row reads s).feats = s.feats ∧ (checkRow deck hand row reads
    s).trust = s.trust ∧ (checkRow deck hand row reads s).now = s.now ∧ (checkRow deck hand row reads s).pending = s.pending := by
  simp only [checkRow]
  (repeat' split) <;> (first | rfl | simp)

/-- `patrolRec` changes `recorder`, `decks`, `members`, `out` only. -/
@[simp] theorem patrolRec_frame (id : Nat) (s : State) :
    (patrolRec id s).mode = s.mode ∧ (patrolRec id s).power = s.power ∧ (patrolRec id s).stop = s.stop ∧ (patrolRec id s).ports =
    s.ports ∧ (patrolRec id s).fns = s.fns ∧ (patrolRec id s).ctls = s.ctls ∧ (patrolRec id s).cache = s.cache ∧ (patrolRec id s).reads
    = s.reads ∧ (patrolRec id s).gauge = s.gauge ∧ (patrolRec id s).vault = s.vault ∧ (patrolRec id s).fabric = s.fabric ∧ (patrolRec id
    s).sched = s.sched ∧ (patrolRec id s).feats = s.feats ∧ (patrolRec id s).guard = s.guard ∧ (patrolRec id s).trust = s.trust ∧
    (patrolRec id s).now = s.now ∧ (patrolRec id s).freeCtr = s.freeCtr ∧ (patrolRec id s).pending = s.pending := by
  simp only [patrolRec]
  (repeat' split) <;> (first | rfl | simp)

/-- `updPatrol` changes `decks` only. -/
@[simp] theorem updPatrol_frame (f : Patrol → Patrol) (id : Nat) (s : State) :
    (updPatrol f id s).mode = s.mode ∧ (updPatrol f id s).power = s.power ∧ (updPatrol f id s).stop = s.stop ∧ (updPatrol f id
    s).recorder = s.recorder ∧ (updPatrol f id s).ports = s.ports ∧ (updPatrol f id s).fns = s.fns ∧ (updPatrol f id s).ctls = s.ctls ∧
    (updPatrol f id s).cache = s.cache ∧ (updPatrol f id s).reads = s.reads ∧ (updPatrol f id s).gauge = s.gauge ∧ (updPatrol f id
    s).vault = s.vault ∧ (updPatrol f id s).fabric = s.fabric ∧ (updPatrol f id s).sched = s.sched ∧ (updPatrol f id s).feats = s.feats
    ∧ (updPatrol f id s).members = s.members ∧ (updPatrol f id s).guard = s.guard ∧ (updPatrol f id s).trust = s.trust ∧ (updPatrol f id
    s).now = s.now ∧ (updPatrol f id s).freeCtr = s.freeCtr ∧ (updPatrol f id s).out = s.out ∧ (updPatrol f id s).pending = s.pending := by simp [updPatrol]

end Sys2Proof.Machine
end

