-- ==== Sys2Proof/Laws/Redeal.lean ====
section
/-!
SUPPORT. The frames of the operations of Machine/Redeal.lean: which units of the state each leaves alone.
-/

namespace Sys2Proof.Machine

/-- `commitSwitch` changes `recorder`, `ports`, `fns`, `ctls`, `cache`, `decks`, `fabric`, `members`, `guard`, `out` only. -/
@[simp] theorem commitSwitch_frame (id : Nat) (d : Deck) (nd : Deck) (r : RedealField) (run : RedealRun) (s : State) :
    (commitSwitch id d nd r run s).mode = s.mode ∧ (commitSwitch id d nd r run s).power = s.power ∧ (commitSwitch id d nd r run s).stop
    = s.stop ∧ (commitSwitch id d nd r run s).reads = s.reads ∧ (commitSwitch id d nd r run s).gauge = s.gauge ∧ (commitSwitch id d nd r
    run s).vault = s.vault ∧ (commitSwitch id d nd r run s).sched = s.sched ∧ (commitSwitch id d nd r run s).feats = s.feats ∧
    (commitSwitch id d nd r run s).trust = s.trust ∧ (commitSwitch id d nd r run s).now = s.now ∧ (commitSwitch id d nd r run s).freeCtr
    = s.freeCtr ∧ (commitSwitch id d nd r run s).pending = s.pending := by simp [commitSwitch]

/-- `pushDrain` changes `recorder`, `decks`, `members`, `out` only. -/
@[simp] theorem pushDrain_frame (id : Nat) (s : State) :
    (pushDrain id s).mode = s.mode ∧ (pushDrain id s).power = s.power ∧ (pushDrain id s).stop = s.stop ∧ (pushDrain id s).ports =
    s.ports ∧ (pushDrain id s).fns = s.fns ∧ (pushDrain id s).ctls = s.ctls ∧ (pushDrain id s).cache = s.cache ∧ (pushDrain id s).reads
    = s.reads ∧ (pushDrain id s).gauge = s.gauge ∧ (pushDrain id s).vault = s.vault ∧ (pushDrain id s).fabric = s.fabric ∧ (pushDrain id
    s).sched = s.sched ∧ (pushDrain id s).feats = s.feats ∧ (pushDrain id s).guard = s.guard ∧ (pushDrain id s).trust = s.trust ∧
    (pushDrain id s).now = s.now ∧ (pushDrain id s).freeCtr = s.freeCtr ∧ (pushDrain id s).pending = s.pending := by
  simp only [pushDrain]
  (repeat' split) <;> (first | rfl | simp)

/-- `copyHand` changes `mode`, `recorder`, `ports`, `fns`, `ctls`, `cache`, `decks`, `vault`, `members`, `guard`, `freeCtr`, `out` only. -/
@[simp] theorem copyHand_frame (deck : Nat) (nsid : Nat) (vhand : Nat) (hd : Nat) (r : RedealField) (run : RedealRun) (nd : Deck) (v : Volume) (reads : List (Nat × List BlockRead)) (ws : List WaitWrite) (s : State) :
    (copyHand deck nsid vhand hd r run nd v reads ws s).power = s.power ∧ (copyHand deck nsid vhand hd r run nd v reads ws s).stop =
    s.stop ∧ (copyHand deck nsid vhand hd r run nd v reads ws s).reads = s.reads ∧ (copyHand deck nsid vhand hd r run nd v reads ws
    s).gauge = s.gauge ∧ (copyHand deck nsid vhand hd r run nd v reads ws s).fabric = s.fabric ∧ (copyHand deck nsid vhand hd r run nd v
    reads ws s).sched = s.sched ∧ (copyHand deck nsid vhand hd r run nd v reads ws s).feats = s.feats ∧ (copyHand deck nsid vhand hd r
    run nd v reads ws s).trust = s.trust ∧ (copyHand deck nsid vhand hd r run nd v reads ws s).now = s.now ∧ (copyHand deck nsid vhand
    hd r run nd v reads ws s).pending = s.pending := by
  simp only [copyHand]
  (repeat' split) <;> (first | rfl | simp)

/-- `redealRec` changes `recorder`, `decks`, `members`, `out` only. -/
@[simp] theorem redealRec_frame (id : Nat) (s : State) :
    (redealRec id s).mode = s.mode ∧ (redealRec id s).power = s.power ∧ (redealRec id s).stop = s.stop ∧ (redealRec id s).ports =
    s.ports ∧ (redealRec id s).fns = s.fns ∧ (redealRec id s).ctls = s.ctls ∧ (redealRec id s).cache = s.cache ∧ (redealRec id s).reads
    = s.reads ∧ (redealRec id s).gauge = s.gauge ∧ (redealRec id s).vault = s.vault ∧ (redealRec id s).fabric = s.fabric ∧ (redealRec id
    s).sched = s.sched ∧ (redealRec id s).feats = s.feats ∧ (redealRec id s).guard = s.guard ∧ (redealRec id s).trust = s.trust ∧
    (redealRec id s).now = s.now ∧ (redealRec id s).freeCtr = s.freeCtr ∧ (redealRec id s).pending = s.pending := by
  simp only [redealRec]
  (repeat' split) <;> (first | rfl | simp)

/-- `beginDrain` changes `recorder`, `ports`, `fns`, `ctls`, `decks`, `fabric`, `members`, `out` only. -/
@[simp] theorem beginDrain_frame (id : Nat) (s : State) :
    (beginDrain id s).mode = s.mode ∧ (beginDrain id s).power = s.power ∧ (beginDrain id s).stop = s.stop ∧ (beginDrain id s).cache =
    s.cache ∧ (beginDrain id s).reads = s.reads ∧ (beginDrain id s).gauge = s.gauge ∧ (beginDrain id s).vault = s.vault ∧ (beginDrain id
    s).sched = s.sched ∧ (beginDrain id s).feats = s.feats ∧ (beginDrain id s).guard = s.guard ∧ (beginDrain id s).trust = s.trust ∧
    (beginDrain id s).now = s.now ∧ (beginDrain id s).freeCtr = s.freeCtr ∧ (beginDrain id s).pending = s.pending := by simp [beginDrain]

end Sys2Proof.Machine
end

