-- ==== Sys2Proof/Laws/Assemble.lean ====
section
/-!
SUPPORT. The frames of the operations of Machine/Assemble.lean: which units of the state each leaves alone.
-/

namespace Sys2Proof.Machine

/-- `setClass` changes `recorder`, `members` only. -/
@[simp] theorem setClass_frame (x : Nat) (c : DriveClass) (at_ : Option (Nat × Nat)) (s : State) :
    (setClass x c at_ s).mode = s.mode ∧ (setClass x c at_ s).power = s.power ∧ (setClass x c at_ s).stop = s.stop ∧ (setClass x c at_
    s).ports = s.ports ∧ (setClass x c at_ s).fns = s.fns ∧ (setClass x c at_ s).ctls = s.ctls ∧ (setClass x c at_ s).cache = s.cache ∧
    (setClass x c at_ s).reads = s.reads ∧ (setClass x c at_ s).decks = s.decks ∧ (setClass x c at_ s).gauge = s.gauge ∧ (setClass x c
    at_ s).vault = s.vault ∧ (setClass x c at_ s).fabric = s.fabric ∧ (setClass x c at_ s).sched = s.sched ∧ (setClass x c at_ s).feats
    = s.feats ∧ (setClass x c at_ s).guard = s.guard ∧ (setClass x c at_ s).trust = s.trust ∧ (setClass x c at_ s).now = s.now ∧
    (setClass x c at_ s).freeCtr = s.freeCtr ∧ (setClass x c at_ s).out = s.out ∧ (setClass x c at_ s).pending = s.pending := by simp [setClass]

/-- `seatMembers` changes `recorder`, `members` only. -/
@[simp] theorem seatMembers_frame (id : Nat) (members : List MemberEntry) (s : State) :
    (seatMembers id members s).mode = s.mode ∧ (seatMembers id members s).power = s.power ∧ (seatMembers id members s).stop = s.stop ∧
    (seatMembers id members s).ports = s.ports ∧ (seatMembers id members s).fns = s.fns ∧ (seatMembers id members s).ctls = s.ctls ∧
    (seatMembers id members s).cache = s.cache ∧ (seatMembers id members s).reads = s.reads ∧ (seatMembers id members s).decks = s.decks
    ∧ (seatMembers id members s).gauge = s.gauge ∧ (seatMembers id members s).vault = s.vault ∧ (seatMembers id members s).fabric =
    s.fabric ∧ (seatMembers id members s).sched = s.sched ∧ (seatMembers id members s).feats = s.feats ∧ (seatMembers id members
    s).guard = s.guard ∧ (seatMembers id members s).trust = s.trust ∧ (seatMembers id members s).now = s.now ∧ (seatMembers id members
    s).freeCtr = s.freeCtr ∧ (seatMembers id members s).out = s.out ∧ (seatMembers id members s).pending = s.pending := by
  simp only [seatMembers]
  (repeat' split) <;> (first | rfl | simp (disch := (intros; (try dsimp only); (repeat' split) <;> (first | rfl | simp | skip))))

/-- `recallDeck` changes `decks` only. -/
@[simp] theorem recallDeck_frame (ls : List (Nat × NativeLabel)) (l : DeckLabel) (s : State) :
    (recallDeck ls l s).2.mode = s.mode ∧ (recallDeck ls l s).2.power = s.power ∧ (recallDeck ls l s).2.stop = s.stop ∧ (recallDeck ls l
    s).2.recorder = s.recorder ∧ (recallDeck ls l s).2.ports = s.ports ∧ (recallDeck ls l s).2.fns = s.fns ∧ (recallDeck ls l s).2.ctls
    = s.ctls ∧ (recallDeck ls l s).2.cache = s.cache ∧ (recallDeck ls l s).2.reads = s.reads ∧ (recallDeck ls l s).2.gauge = s.gauge ∧
    (recallDeck ls l s).2.vault = s.vault ∧ (recallDeck ls l s).2.fabric = s.fabric ∧ (recallDeck ls l s).2.sched = s.sched ∧
    (recallDeck ls l s).2.feats = s.feats ∧ (recallDeck ls l s).2.members = s.members ∧ (recallDeck ls l s).2.guard = s.guard ∧
    (recallDeck ls l s).2.trust = s.trust ∧ (recallDeck ls l s).2.now = s.now ∧ (recallDeck ls l s).2.freeCtr = s.freeCtr ∧ (recallDeck
    ls l s).2.out = s.out ∧ (recallDeck ls l s).2.pending = s.pending := by simp [recallDeck]

/-- `nameReturned` changes `decks` only. -/
@[simp] theorem nameReturned_frame (id : Nat) (ls : List (Nat × NativeLabel)) (l : DeckLabel) (s : State) :
    (nameReturned id ls l s).mode = s.mode ∧ (nameReturned id ls l s).power = s.power ∧ (nameReturned id ls l s).stop = s.stop ∧
    (nameReturned id ls l s).recorder = s.recorder ∧ (nameReturned id ls l s).ports = s.ports ∧ (nameReturned id ls l s).fns = s.fns ∧
    (nameReturned id ls l s).ctls = s.ctls ∧ (nameReturned id ls l s).cache = s.cache ∧ (nameReturned id ls l s).reads = s.reads ∧
    (nameReturned id ls l s).gauge = s.gauge ∧ (nameReturned id ls l s).vault = s.vault ∧ (nameReturned id ls l s).fabric = s.fabric ∧
    (nameReturned id ls l s).sched = s.sched ∧ (nameReturned id ls l s).feats = s.feats ∧ (nameReturned id ls l s).members = s.members ∧
    (nameReturned id ls l s).guard = s.guard ∧ (nameReturned id ls l s).trust = s.trust ∧ (nameReturned id ls l s).now = s.now ∧
    (nameReturned id ls l s).freeCtr = s.freeCtr ∧ (nameReturned id ls l s).out = s.out ∧ (nameReturned id ls l s).pending = s.pending := by
  simp only [nameReturned]
  (repeat' split) <;> (first | rfl | simp)

/-- `seatVolumes` changes `decks` only. -/
@[simp] theorem seatVolumes_frame (id : Nat) (vs : List Volume) (s : State) :
    (seatVolumes id vs s).mode = s.mode ∧ (seatVolumes id vs s).power = s.power ∧ (seatVolumes id vs s).stop = s.stop ∧ (seatVolumes id
    vs s).recorder = s.recorder ∧ (seatVolumes id vs s).ports = s.ports ∧ (seatVolumes id vs s).fns = s.fns ∧ (seatVolumes id vs s).ctls
    = s.ctls ∧ (seatVolumes id vs s).cache = s.cache ∧ (seatVolumes id vs s).reads = s.reads ∧ (seatVolumes id vs s).gauge = s.gauge ∧
    (seatVolumes id vs s).vault = s.vault ∧ (seatVolumes id vs s).fabric = s.fabric ∧ (seatVolumes id vs s).sched = s.sched ∧
    (seatVolumes id vs s).feats = s.feats ∧ (seatVolumes id vs s).members = s.members ∧ (seatVolumes id vs s).guard = s.guard ∧
    (seatVolumes id vs s).trust = s.trust ∧ (seatVolumes id vs s).now = s.now ∧ (seatVolumes id vs s).freeCtr = s.freeCtr ∧ (seatVolumes
    id vs s).out = s.out ∧ (seatVolumes id vs s).pending = s.pending := by simp [seatVolumes]

/-- `assembleDeck` changes `recorder`, `ports`, `fns`, `ctls`, `decks`, `members`, `guard`, `out` only. -/
@[simp] theorem assembleDeck_frame (s : State) (u : Uuid) :
    (assembleDeck s u).mode = s.mode ∧ (assembleDeck s u).power = s.power ∧ (assembleDeck s u).stop = s.stop ∧ (assembleDeck s u).cache
    = s.cache ∧ (assembleDeck s u).reads = s.reads ∧ (assembleDeck s u).gauge = s.gauge ∧ (assembleDeck s u).vault = s.vault ∧
    (assembleDeck s u).fabric = s.fabric ∧ (assembleDeck s u).sched = s.sched ∧ (assembleDeck s u).feats = s.feats ∧ (assembleDeck s
    u).trust = s.trust ∧ (assembleDeck s u).now = s.now ∧ (assembleDeck s u).freeCtr = s.freeCtr ∧ (assembleDeck s u).pending =
    s.pending := by
  simp only [assembleDeck]
  (repeat' split) <;> (first | rfl | simp)

/-- `reportImportable` changes `decks` only. -/
@[simp] theorem reportImportable_frame (s : State) (u : Uuid) :
    (reportImportable s u).mode = s.mode ∧ (reportImportable s u).power = s.power ∧ (reportImportable s u).stop = s.stop ∧
    (reportImportable s u).recorder = s.recorder ∧ (reportImportable s u).ports = s.ports ∧ (reportImportable s u).fns = s.fns ∧
    (reportImportable s u).ctls = s.ctls ∧ (reportImportable s u).cache = s.cache ∧ (reportImportable s u).reads = s.reads ∧
    (reportImportable s u).gauge = s.gauge ∧ (reportImportable s u).vault = s.vault ∧ (reportImportable s u).fabric = s.fabric ∧
    (reportImportable s u).sched = s.sched ∧ (reportImportable s u).feats = s.feats ∧ (reportImportable s u).members = s.members ∧
    (reportImportable s u).guard = s.guard ∧ (reportImportable s u).trust = s.trust ∧ (reportImportable s u).now = s.now ∧
    (reportImportable s u).freeCtr = s.freeCtr ∧ (reportImportable s u).out = s.out ∧ (reportImportable s u).pending = s.pending := by
  simp only [reportImportable]
  (repeat' split) <;> (first | rfl | simp)

/-- `closeWindow` changes `mode`, `recorder`, `ports`, `fns`, `ctls`, `decks`, `members`, `guard`, `out` only. -/
@[simp] theorem closeWindow_frame (s : State) :
    (closeWindow s).power = s.power ∧ (closeWindow s).stop = s.stop ∧ (closeWindow s).cache = s.cache ∧ (closeWindow s).reads = s.reads
    ∧ (closeWindow s).gauge = s.gauge ∧ (closeWindow s).vault = s.vault ∧ (closeWindow s).fabric = s.fabric ∧ (closeWindow s).sched =
    s.sched ∧ (closeWindow s).feats = s.feats ∧ (closeWindow s).trust = s.trust ∧ (closeWindow s).now = s.now ∧ (closeWindow s).freeCtr
    = s.freeCtr ∧ (closeWindow s).pending = s.pending := by simp [closeWindow]

/-- `windowEnd` changes `mode`, `recorder`, `ports`, `fns`, `ctls`, `decks`, `members`, `guard`, `out` only. -/
@[simp] theorem windowEnd_frame (s : State) :
    (windowEnd s).power = s.power ∧ (windowEnd s).stop = s.stop ∧ (windowEnd s).cache = s.cache ∧ (windowEnd s).reads = s.reads ∧
    (windowEnd s).gauge = s.gauge ∧ (windowEnd s).vault = s.vault ∧ (windowEnd s).fabric = s.fabric ∧ (windowEnd s).sched = s.sched ∧
    (windowEnd s).feats = s.feats ∧ (windowEnd s).trust = s.trust ∧ (windowEnd s).now = s.now ∧ (windowEnd s).freeCtr = s.freeCtr ∧
    (windowEnd s).pending = s.pending := by simp [windowEnd]

/-- `moveMember` changes `recorder`, `decks`, `members` only. -/
@[simp] theorem moveMember_frame (id : Nat) (mem : Nat) (x : Nat) (s : State) :
    (moveMember id mem x s).mode = s.mode ∧ (moveMember id mem x s).power = s.power ∧ (moveMember id mem x s).stop = s.stop ∧
    (moveMember id mem x s).ports = s.ports ∧ (moveMember id mem x s).fns = s.fns ∧ (moveMember id mem x s).ctls = s.ctls ∧ (moveMember
    id mem x s).cache = s.cache ∧ (moveMember id mem x s).reads = s.reads ∧ (moveMember id mem x s).gauge = s.gauge ∧ (moveMember id mem
    x s).vault = s.vault ∧ (moveMember id mem x s).fabric = s.fabric ∧ (moveMember id mem x s).sched = s.sched ∧ (moveMember id mem x
    s).feats = s.feats ∧ (moveMember id mem x s).guard = s.guard ∧ (moveMember id mem x s).trust = s.trust ∧ (moveMember id mem x s).now
    = s.now ∧ (moveMember id mem x s).freeCtr = s.freeCtr ∧ (moveMember id mem x s).out = s.out ∧ (moveMember id mem x s).pending =
    s.pending := by
  simp only [moveMember]
  (repeat' split) <;> (first | rfl | simp)

/-- `returnHeader` changes `decks`, `members`, `out` only. -/
@[simp] theorem returnHeader_frame (id : Nat) (mem : Nat) (s : State) :
    (returnHeader id mem s).mode = s.mode ∧ (returnHeader id mem s).power = s.power ∧ (returnHeader id mem s).stop = s.stop ∧
    (returnHeader id mem s).recorder = s.recorder ∧ (returnHeader id mem s).ports = s.ports ∧ (returnHeader id mem s).fns = s.fns ∧
    (returnHeader id mem s).ctls = s.ctls ∧ (returnHeader id mem s).cache = s.cache ∧ (returnHeader id mem s).reads = s.reads ∧
    (returnHeader id mem s).gauge = s.gauge ∧ (returnHeader id mem s).vault = s.vault ∧ (returnHeader id mem s).fabric = s.fabric ∧
    (returnHeader id mem s).sched = s.sched ∧ (returnHeader id mem s).feats = s.feats ∧ (returnHeader id mem s).guard = s.guard ∧
    (returnHeader id mem s).trust = s.trust ∧ (returnHeader id mem s).now = s.now ∧ (returnHeader id mem s).freeCtr = s.freeCtr ∧
    (returnHeader id mem s).pending = s.pending := by
  simp only [returnHeader]
  (repeat' split) <;> (first | rfl | simp)

/-- `judgeWaiting` changes `decks` only. -/
@[simp] theorem judgeWaiting_frame (id : Nat) (s : State) :
    (judgeWaiting id s).mode = s.mode ∧ (judgeWaiting id s).power = s.power ∧ (judgeWaiting id s).stop = s.stop ∧ (judgeWaiting id
    s).recorder = s.recorder ∧ (judgeWaiting id s).ports = s.ports ∧ (judgeWaiting id s).fns = s.fns ∧ (judgeWaiting id s).ctls = s.ctls
    ∧ (judgeWaiting id s).cache = s.cache ∧ (judgeWaiting id s).reads = s.reads ∧ (judgeWaiting id s).gauge = s.gauge ∧ (judgeWaiting id
    s).vault = s.vault ∧ (judgeWaiting id s).fabric = s.fabric ∧ (judgeWaiting id s).sched = s.sched ∧ (judgeWaiting id s).feats =
    s.feats ∧ (judgeWaiting id s).members = s.members ∧ (judgeWaiting id s).guard = s.guard ∧ (judgeWaiting id s).trust = s.trust ∧
    (judgeWaiting id s).now = s.now ∧ (judgeWaiting id s).freeCtr = s.freeCtr ∧ (judgeWaiting id s).out = s.out ∧ (judgeWaiting id
    s).pending = s.pending := by simp [judgeWaiting]

/-- `joinMember` changes `recorder`, `decks`, `members` only. -/
@[simp] theorem joinMember_frame (id : Nat) (mem : Nat) (x : Nat) (s : State) :
    (joinMember id mem x s).mode = s.mode ∧ (joinMember id mem x s).power = s.power ∧ (joinMember id mem x s).stop = s.stop ∧
    (joinMember id mem x s).ports = s.ports ∧ (joinMember id mem x s).fns = s.fns ∧ (joinMember id mem x s).ctls = s.ctls ∧ (joinMember
    id mem x s).cache = s.cache ∧ (joinMember id mem x s).reads = s.reads ∧ (joinMember id mem x s).gauge = s.gauge ∧ (joinMember id mem
    x s).vault = s.vault ∧ (joinMember id mem x s).fabric = s.fabric ∧ (joinMember id mem x s).sched = s.sched ∧ (joinMember id mem x
    s).feats = s.feats ∧ (joinMember id mem x s).guard = s.guard ∧ (joinMember id mem x s).trust = s.trust ∧ (joinMember id mem x s).now
    = s.now ∧ (joinMember id mem x s).freeCtr = s.freeCtr ∧ (joinMember id mem x s).out = s.out ∧ (joinMember id mem x s).pending =
    s.pending := by simp [joinMember]

/-- `returnDrive` changes `recorder`, `ports`, `fns`, `ctls`, `decks`, `members`, `guard`, `out` only. -/
@[simp] theorem returnDrive_frame (x : Nat) (s : State) :
    (returnDrive x s).mode = s.mode ∧ (returnDrive x s).power = s.power ∧ (returnDrive x s).stop = s.stop ∧ (returnDrive x s).cache =
    s.cache ∧ (returnDrive x s).reads = s.reads ∧ (returnDrive x s).gauge = s.gauge ∧ (returnDrive x s).vault = s.vault ∧ (returnDrive x
    s).fabric = s.fabric ∧ (returnDrive x s).sched = s.sched ∧ (returnDrive x s).feats = s.feats ∧ (returnDrive x s).trust = s.trust ∧
    (returnDrive x s).now = s.now ∧ (returnDrive x s).freeCtr = s.freeCtr ∧ (returnDrive x s).pending = s.pending := by
  simp only [returnDrive]
  (repeat' split) <;> (first | rfl | simp)

end Sys2Proof.Machine
end

