-- ==== Sys2Proof/Laws/Members.lean ====
section
/-!
SUPPORT. The frames of the operations of Machine/Members.lean: which units of the state each leaves alone.
-/

namespace Sys2Proof.Machine

/-- `reissue` changes `members`, `out` only. -/
@[simp] theorem reissue_frame (x : Nat) (port : Nat) (t : MTag) (step : Nat) (errored : Bool) (s : State) :
    (reissue x port t step errored s).mode = s.mode ∧ (reissue x port t step errored s).power = s.power ∧ (reissue x port t step errored
    s).stop = s.stop ∧ (reissue x port t step errored s).recorder = s.recorder ∧ (reissue x port t step errored s).ports = s.ports ∧
    (reissue x port t step errored s).fns = s.fns ∧ (reissue x port t step errored s).ctls = s.ctls ∧ (reissue x port t step errored
    s).cache = s.cache ∧ (reissue x port t step errored s).reads = s.reads ∧ (reissue x port t step errored s).decks = s.decks ∧
    (reissue x port t step errored s).gauge = s.gauge ∧ (reissue x port t step errored s).vault = s.vault ∧ (reissue x port t step
    errored s).fabric = s.fabric ∧ (reissue x port t step errored s).sched = s.sched ∧ (reissue x port t step errored s).feats = s.feats
    ∧ (reissue x port t step errored s).guard = s.guard ∧ (reissue x port t step errored s).trust = s.trust ∧ (reissue x port t step
    errored s).now = s.now ∧ (reissue x port t step errored s).freeCtr = s.freeCtr ∧ (reissue x port t step errored s).pending =
    s.pending := by simp [reissue]

/-- `countStep` changes `recorder`, `ports`, `fns`, `ctls`, `members`, `out` only. -/
@[simp] theorem countStep_frame (x : Nat) (n : Nat) (s : State) :
    (countStep x n s).mode = s.mode ∧ (countStep x n s).power = s.power ∧ (countStep x n s).stop = s.stop ∧ (countStep x n s).cache =
    s.cache ∧ (countStep x n s).reads = s.reads ∧ (countStep x n s).decks = s.decks ∧ (countStep x n s).gauge = s.gauge ∧ (countStep x n
    s).vault = s.vault ∧ (countStep x n s).fabric = s.fabric ∧ (countStep x n s).sched = s.sched ∧ (countStep x n s).feats = s.feats ∧
    (countStep x n s).guard = s.guard ∧ (countStep x n s).trust = s.trust ∧ (countStep x n s).now = s.now ∧ (countStep x n s).freeCtr =
    s.freeCtr ∧ (countStep x n s).pending = s.pending := by simp [countStep]

/-- `retryCommand` changes `recorder`, `ports`, `fns`, `ctls`, `members`, `out` only. -/
@[simp] theorem retryCommand_frame (x : Nat) (port : Nat) (t : MTag) (errored : Bool) (s : State) :
    (retryCommand x port t errored s).mode = s.mode ∧ (retryCommand x port t errored s).power = s.power ∧ (retryCommand x port t errored
    s).stop = s.stop ∧ (retryCommand x port t errored s).cache = s.cache ∧ (retryCommand x port t errored s).reads = s.reads ∧
    (retryCommand x port t errored s).decks = s.decks ∧ (retryCommand x port t errored s).gauge = s.gauge ∧ (retryCommand x port t
    errored s).vault = s.vault ∧ (retryCommand x port t errored s).fabric = s.fabric ∧ (retryCommand x port t errored s).sched = s.sched
    ∧ (retryCommand x port t errored s).feats = s.feats ∧ (retryCommand x port t errored s).guard = s.guard ∧ (retryCommand x port t
    errored s).trust = s.trust ∧ (retryCommand x port t errored s).now = s.now ∧ (retryCommand x port t errored s).freeCtr = s.freeCtr ∧
    (retryCommand x port t errored s).pending = s.pending := by simp [retryCommand]

/-- `dropAdded` changes `recorder`, `ports`, `fns`, `ctls`, `cache`, `decks`, `vault`, `members`, `out` only. -/
@[simp] theorem dropAdded_frame (x : Nat) (s : State) :
    (dropAdded x s).mode = s.mode ∧ (dropAdded x s).power = s.power ∧ (dropAdded x s).stop = s.stop ∧ (dropAdded x s).reads = s.reads ∧
    (dropAdded x s).gauge = s.gauge ∧ (dropAdded x s).fabric = s.fabric ∧ (dropAdded x s).sched = s.sched ∧ (dropAdded x s).feats =
    s.feats ∧ (dropAdded x s).guard = s.guard ∧ (dropAdded x s).trust = s.trust ∧ (dropAdded x s).now = s.now ∧ (dropAdded x s).freeCtr
    = s.freeCtr ∧ (dropAdded x s).pending = s.pending := by simp [dropAdded]

/-- `recordClass` changes `trust` only. -/
@[simp] theorem recordClass_frame (x : Nat) (s : State) :
    (recordClass x s).mode = s.mode ∧ (recordClass x s).power = s.power ∧ (recordClass x s).stop = s.stop ∧ (recordClass x s).recorder =
    s.recorder ∧ (recordClass x s).ports = s.ports ∧ (recordClass x s).fns = s.fns ∧ (recordClass x s).ctls = s.ctls ∧ (recordClass x
    s).cache = s.cache ∧ (recordClass x s).reads = s.reads ∧ (recordClass x s).decks = s.decks ∧ (recordClass x s).gauge = s.gauge ∧
    (recordClass x s).vault = s.vault ∧ (recordClass x s).fabric = s.fabric ∧ (recordClass x s).sched = s.sched ∧ (recordClass x
    s).feats = s.feats ∧ (recordClass x s).members = s.members ∧ (recordClass x s).guard = s.guard ∧ (recordClass x s).now = s.now ∧
    (recordClass x s).freeCtr = s.freeCtr ∧ (recordClass x s).out = s.out ∧ (recordClass x s).pending = s.pending := by simp [recordClass]

/-- `classify` changes `mode`, `recorder`, `ports`, `fns`, `ctls`, `decks`, `members`, `guard`, `trust`, `out` only. -/
@[simp] theorem classify_frame (x : Nat) (s : State) :
    (classify x s).power = s.power ∧ (classify x s).stop = s.stop ∧ (classify x s).cache = s.cache ∧ (classify x s).reads = s.reads ∧
    (classify x s).gauge = s.gauge ∧ (classify x s).vault = s.vault ∧ (classify x s).fabric = s.fabric ∧ (classify x s).sched = s.sched
    ∧ (classify x s).feats = s.feats ∧ (classify x s).now = s.now ∧ (classify x s).freeCtr = s.freeCtr ∧ (classify x s).pending =
    s.pending := by simp [classify]

/-- `settlePorts` changes `mode`, `recorder`, `ports`, `fns`, `ctls`, `cache`, `decks`, `vault`, `members`, `guard`, `trust`, `out` only. -/
@[simp] theorem settlePorts_frame (x : Nat) (s : State) :
    (settlePorts x s).power = s.power ∧ (settlePorts x s).stop = s.stop ∧ (settlePorts x s).reads = s.reads ∧ (settlePorts x s).gauge =
    s.gauge ∧ (settlePorts x s).fabric = s.fabric ∧ (settlePorts x s).sched = s.sched ∧ (settlePorts x s).feats = s.feats ∧ (settlePorts
    x s).now = s.now ∧ (settlePorts x s).freeCtr = s.freeCtr ∧ (settlePorts x s).pending = s.pending := by
  simp only [settlePorts]
  (repeat' split) <;> (first | rfl | simp)

/-- `updTagOf` changes `members` only. -/
@[simp] theorem updTagOf_frame (x : Nat) (port : Nat) (tag : Nat) (f : MTag → MTag) (s : State) :
    (updTagOf x port tag f s).mode = s.mode ∧ (updTagOf x port tag f s).power = s.power ∧ (updTagOf x port tag f s).stop = s.stop ∧
    (updTagOf x port tag f s).recorder = s.recorder ∧ (updTagOf x port tag f s).ports = s.ports ∧ (updTagOf x port tag f s).fns = s.fns
    ∧ (updTagOf x port tag f s).ctls = s.ctls ∧ (updTagOf x port tag f s).cache = s.cache ∧ (updTagOf x port tag f s).reads = s.reads ∧
    (updTagOf x port tag f s).decks = s.decks ∧ (updTagOf x port tag f s).gauge = s.gauge ∧ (updTagOf x port tag f s).vault = s.vault ∧
    (updTagOf x port tag f s).fabric = s.fabric ∧ (updTagOf x port tag f s).sched = s.sched ∧ (updTagOf x port tag f s).feats = s.feats
    ∧ (updTagOf x port tag f s).guard = s.guard ∧ (updTagOf x port tag f s).trust = s.trust ∧ (updTagOf x port tag f s).now = s.now ∧
    (updTagOf x port tag f s).freeCtr = s.freeCtr ∧ (updTagOf x port tag f s).out = s.out ∧ (updTagOf x port tag f s).pending =
    s.pending := by simp [updTagOf]

/-- `initPort` changes `out` only. -/
@[simp] theorem initPort_frame (x : Nat) (port : Nat) (link : Bool) (s : State) :
    (initPort x port link s).mode = s.mode ∧ (initPort x port link s).power = s.power ∧ (initPort x port link s).stop = s.stop ∧
    (initPort x port link s).recorder = s.recorder ∧ (initPort x port link s).ports = s.ports ∧ (initPort x port link s).fns = s.fns ∧
    (initPort x port link s).ctls = s.ctls ∧ (initPort x port link s).cache = s.cache ∧ (initPort x port link s).reads = s.reads ∧
    (initPort x port link s).decks = s.decks ∧ (initPort x port link s).gauge = s.gauge ∧ (initPort x port link s).vault = s.vault ∧
    (initPort x port link s).fabric = s.fabric ∧ (initPort x port link s).sched = s.sched ∧ (initPort x port link s).feats = s.feats ∧
    (initPort x port link s).members = s.members ∧ (initPort x port link s).guard = s.guard ∧ (initPort x port link s).trust = s.trust ∧
    (initPort x port link s).now = s.now ∧ (initPort x port link s).freeCtr = s.freeCtr ∧ (initPort x port link s).pending = s.pending := by
  simp only [initPort]
  (repeat' split) <;> (first | rfl | simp)

/-- `evacuate` changes `members`, `out` only. -/
@[simp] theorem evacuate_frame (x : Nat) (port : Nat) (s : State) :
    (evacuate x port s).mode = s.mode ∧ (evacuate x port s).power = s.power ∧ (evacuate x port s).stop = s.stop ∧ (evacuate x port
    s).recorder = s.recorder ∧ (evacuate x port s).ports = s.ports ∧ (evacuate x port s).fns = s.fns ∧ (evacuate x port s).ctls = s.ctls
    ∧ (evacuate x port s).cache = s.cache ∧ (evacuate x port s).reads = s.reads ∧ (evacuate x port s).decks = s.decks ∧ (evacuate x port
    s).gauge = s.gauge ∧ (evacuate x port s).vault = s.vault ∧ (evacuate x port s).fabric = s.fabric ∧ (evacuate x port s).sched =
    s.sched ∧ (evacuate x port s).feats = s.feats ∧ (evacuate x port s).guard = s.guard ∧ (evacuate x port s).trust = s.trust ∧
    (evacuate x port s).now = s.now ∧ (evacuate x port s).freeCtr = s.freeCtr ∧ (evacuate x port s).pending = s.pending := by simp [evacuate]

/-- `beginStep` changes `recorder`, `ports`, `fns`, `ctls`, `members`, `out` only. -/
@[simp] theorem beginStep_frame (x : Nat) (port : Nat) (n : Nat) (s : State) :
    (beginStep x port n s).mode = s.mode ∧ (beginStep x port n s).power = s.power ∧ (beginStep x port n s).stop = s.stop ∧ (beginStep x
    port n s).cache = s.cache ∧ (beginStep x port n s).reads = s.reads ∧ (beginStep x port n s).decks = s.decks ∧ (beginStep x port n
    s).gauge = s.gauge ∧ (beginStep x port n s).vault = s.vault ∧ (beginStep x port n s).fabric = s.fabric ∧ (beginStep x port n
    s).sched = s.sched ∧ (beginStep x port n s).feats = s.feats ∧ (beginStep x port n s).guard = s.guard ∧ (beginStep x port n s).trust
    = s.trust ∧ (beginStep x port n s).now = s.now ∧ (beginStep x port n s).freeCtr = s.freeCtr ∧ (beginStep x port n s).pending =
    s.pending := by simp [beginStep]

/-- `beginCycle` changes `recorder`, `ports`, `fns`, `ctls`, `members`, `out` only. -/
@[simp] theorem beginCycle_frame (x : Nat) (port : Nat) (s : State) :
    (beginCycle x port s).mode = s.mode ∧ (beginCycle x port s).power = s.power ∧ (beginCycle x port s).stop = s.stop ∧ (beginCycle x
    port s).cache = s.cache ∧ (beginCycle x port s).reads = s.reads ∧ (beginCycle x port s).decks = s.decks ∧ (beginCycle x port
    s).gauge = s.gauge ∧ (beginCycle x port s).vault = s.vault ∧ (beginCycle x port s).fabric = s.fabric ∧ (beginCycle x port s).sched =
    s.sched ∧ (beginCycle x port s).feats = s.feats ∧ (beginCycle x port s).guard = s.guard ∧ (beginCycle x port s).trust = s.trust ∧
    (beginCycle x port s).now = s.now ∧ (beginCycle x port s).freeCtr = s.freeCtr ∧ (beginCycle x port s).pending = s.pending := by simp [beginCycle]

/-- `failPort` changes `recorder`, `ports`, `fns`, `ctls`, `cache`, `decks`, `vault`, `members`, `out` only. -/
@[simp] theorem failPort_frame (x : Nat) (port : Nat) (s : State) :
    (failPort x port s).mode = s.mode ∧ (failPort x port s).power = s.power ∧ (failPort x port s).stop = s.stop ∧ (failPort x port
    s).reads = s.reads ∧ (failPort x port s).gauge = s.gauge ∧ (failPort x port s).fabric = s.fabric ∧ (failPort x port s).sched =
    s.sched ∧ (failPort x port s).feats = s.feats ∧ (failPort x port s).guard = s.guard ∧ (failPort x port s).trust = s.trust ∧
    (failPort x port s).now = s.now ∧ (failPort x port s).freeCtr = s.freeCtr ∧ (failPort x port s).pending = s.pending := by simp [failPort]

/-- `takeStep` changes `recorder`, `ports`, `fns`, `ctls`, `cache`, `decks`, `vault`, `members`, `out` only. -/
@[simp] theorem takeStep_frame (x : Nat) (port : Nat) (n : Nat) (s : State) :
    (takeStep x port n s).mode = s.mode ∧ (takeStep x port n s).power = s.power ∧ (takeStep x port n s).stop = s.stop ∧ (takeStep x port
    n s).reads = s.reads ∧ (takeStep x port n s).gauge = s.gauge ∧ (takeStep x port n s).fabric = s.fabric ∧ (takeStep x port n s).sched
    = s.sched ∧ (takeStep x port n s).feats = s.feats ∧ (takeStep x port n s).guard = s.guard ∧ (takeStep x port n s).trust = s.trust ∧
    (takeStep x port n s).now = s.now ∧ (takeStep x port n s).freeCtr = s.freeCtr ∧ (takeStep x port n s).pending = s.pending := by simp [takeStep]

/-- `handleWithheldTagTimeout` changes `mode`, `recorder`, `ports`, `fns`, `ctls`, `cache`, `decks`, `vault`, `members`, `guard`, `freeCtr`, `out` only. -/
@[simp] theorem handleWithheldTagTimeout_frame (slot : Nat) (port : Nat) (s : State) :
    (handleWithheldTagTimeout slot port s).power = s.power ∧ (handleWithheldTagTimeout slot port s).stop = s.stop ∧
    (handleWithheldTagTimeout slot port s).reads = s.reads ∧ (handleWithheldTagTimeout slot port s).gauge = s.gauge ∧
    (handleWithheldTagTimeout slot port s).fabric = s.fabric ∧ (handleWithheldTagTimeout slot port s).sched = s.sched ∧
    (handleWithheldTagTimeout slot port s).feats = s.feats ∧ (handleWithheldTagTimeout slot port s).trust = s.trust ∧
    (handleWithheldTagTimeout slot port s).now = s.now ∧ (handleWithheldTagTimeout slot port s).pending = s.pending := by simp [handleWithheldTagTimeout]

/-- `failStep` changes `mode`, `recorder`, `ports`, `fns`, `ctls`, `cache`, `decks`, `vault`, `members`, `guard`, `freeCtr`, `out` only. -/
@[simp] theorem failStep_frame (x : Nat) (port : Nat) (s : State) :
    (failStep x port s).power = s.power ∧ (failStep x port s).stop = s.stop ∧ (failStep x port s).reads = s.reads ∧ (failStep x port
    s).gauge = s.gauge ∧ (failStep x port s).fabric = s.fabric ∧ (failStep x port s).sched = s.sched ∧ (failStep x port s).feats =
    s.feats ∧ (failStep x port s).trust = s.trust ∧ (failStep x port s).now = s.now ∧ (failStep x port s).pending = s.pending := by simp [failStep]

/-- `wakeWrites` changes `members`, `out` only. -/
@[simp] theorem wakeWrites_frame (x : Nat) (step : Nat) (s : State) :
    (wakeWrites x step s).mode = s.mode ∧ (wakeWrites x step s).power = s.power ∧ (wakeWrites x step s).stop = s.stop ∧ (wakeWrites x
    step s).recorder = s.recorder ∧ (wakeWrites x step s).ports = s.ports ∧ (wakeWrites x step s).fns = s.fns ∧ (wakeWrites x step
    s).ctls = s.ctls ∧ (wakeWrites x step s).cache = s.cache ∧ (wakeWrites x step s).reads = s.reads ∧ (wakeWrites x step s).decks =
    s.decks ∧ (wakeWrites x step s).gauge = s.gauge ∧ (wakeWrites x step s).vault = s.vault ∧ (wakeWrites x step s).fabric = s.fabric ∧
    (wakeWrites x step s).sched = s.sched ∧ (wakeWrites x step s).feats = s.feats ∧ (wakeWrites x step s).guard = s.guard ∧ (wakeWrites
    x step s).trust = s.trust ∧ (wakeWrites x step s).now = s.now ∧ (wakeWrites x step s).freeCtr = s.freeCtr ∧ (wakeWrites x step
    s).pending = s.pending := by
  simp only [wakeWrites]
  (repeat' split) <;> (first | rfl | simp)

/-- `freeHeld` changes `members` only. -/
@[simp] theorem freeHeld_frame (x : Nat) (port : Nat) (s : State) :
    (freeHeld x port s).mode = s.mode ∧ (freeHeld x port s).power = s.power ∧ (freeHeld x port s).stop = s.stop ∧ (freeHeld x port
    s).recorder = s.recorder ∧ (freeHeld x port s).ports = s.ports ∧ (freeHeld x port s).fns = s.fns ∧ (freeHeld x port s).ctls = s.ctls
    ∧ (freeHeld x port s).cache = s.cache ∧ (freeHeld x port s).reads = s.reads ∧ (freeHeld x port s).decks = s.decks ∧ (freeHeld x port
    s).gauge = s.gauge ∧ (freeHeld x port s).vault = s.vault ∧ (freeHeld x port s).fabric = s.fabric ∧ (freeHeld x port s).sched =
    s.sched ∧ (freeHeld x port s).feats = s.feats ∧ (freeHeld x port s).guard = s.guard ∧ (freeHeld x port s).trust = s.trust ∧
    (freeHeld x port s).now = s.now ∧ (freeHeld x port s).freeCtr = s.freeCtr ∧ (freeHeld x port s).out = s.out ∧ (freeHeld x port
    s).pending = s.pending := by simp [freeHeld]

/-- `refreshLabel` changes `members`, `out` only. -/
@[simp] theorem refreshLabel_frame (x : Nat) (s : State) :
    (refreshLabel x s).mode = s.mode ∧ (refreshLabel x s).power = s.power ∧ (refreshLabel x s).stop = s.stop ∧ (refreshLabel x
    s).recorder = s.recorder ∧ (refreshLabel x s).ports = s.ports ∧ (refreshLabel x s).fns = s.fns ∧ (refreshLabel x s).ctls = s.ctls ∧
    (refreshLabel x s).cache = s.cache ∧ (refreshLabel x s).reads = s.reads ∧ (refreshLabel x s).decks = s.decks ∧ (refreshLabel x
    s).gauge = s.gauge ∧ (refreshLabel x s).vault = s.vault ∧ (refreshLabel x s).fabric = s.fabric ∧ (refreshLabel x s).sched = s.sched
    ∧ (refreshLabel x s).feats = s.feats ∧ (refreshLabel x s).guard = s.guard ∧ (refreshLabel x s).trust = s.trust ∧ (refreshLabel x
    s).now = s.now ∧ (refreshLabel x s).freeCtr = s.freeCtr ∧ (refreshLabel x s).pending = s.pending := by
  simp only [refreshLabel]
  (repeat' split) <;> (first | rfl | simp)

/-- `settleMember` changes `recorder`, `decks`, `members`, `out` only. -/
@[simp] theorem settleMember_frame (id : Nat) (s : State) :
    (settleMember id s).mode = s.mode ∧ (settleMember id s).power = s.power ∧ (settleMember id s).stop = s.stop ∧ (settleMember id
    s).ports = s.ports ∧ (settleMember id s).fns = s.fns ∧ (settleMember id s).ctls = s.ctls ∧ (settleMember id s).cache = s.cache ∧
    (settleMember id s).reads = s.reads ∧ (settleMember id s).gauge = s.gauge ∧ (settleMember id s).vault = s.vault ∧ (settleMember id
    s).fabric = s.fabric ∧ (settleMember id s).sched = s.sched ∧ (settleMember id s).feats = s.feats ∧ (settleMember id s).guard =
    s.guard ∧ (settleMember id s).trust = s.trust ∧ (settleMember id s).now = s.now ∧ (settleMember id s).freeCtr = s.freeCtr ∧
    (settleMember id s).pending = s.pending := by simp [settleMember]

/-- `resumeReach` changes `recorder`, `decks`, `members`, `out` only. -/
@[simp] theorem resumeReach_frame (x : Nat) (s : State) :
    (resumeReach x s).mode = s.mode ∧ (resumeReach x s).power = s.power ∧ (resumeReach x s).stop = s.stop ∧ (resumeReach x s).ports =
    s.ports ∧ (resumeReach x s).fns = s.fns ∧ (resumeReach x s).ctls = s.ctls ∧ (resumeReach x s).cache = s.cache ∧ (resumeReach x
    s).reads = s.reads ∧ (resumeReach x s).gauge = s.gauge ∧ (resumeReach x s).vault = s.vault ∧ (resumeReach x s).fabric = s.fabric ∧
    (resumeReach x s).sched = s.sched ∧ (resumeReach x s).feats = s.feats ∧ (resumeReach x s).guard = s.guard ∧ (resumeReach x s).trust
    = s.trust ∧ (resumeReach x s).now = s.now ∧ (resumeReach x s).freeCtr = s.freeCtr ∧ (resumeReach x s).pending = s.pending := by simp [resumeReach]

/-- `passStep` changes `recorder`, `decks`, `members`, `out` only. -/
@[simp] theorem passStep_frame (x : Nat) (port : Nat) (s : State) :
    (passStep x port s).mode = s.mode ∧ (passStep x port s).power = s.power ∧ (passStep x port s).stop = s.stop ∧ (passStep x port
    s).ports = s.ports ∧ (passStep x port s).fns = s.fns ∧ (passStep x port s).ctls = s.ctls ∧ (passStep x port s).cache = s.cache ∧
    (passStep x port s).reads = s.reads ∧ (passStep x port s).gauge = s.gauge ∧ (passStep x port s).vault = s.vault ∧ (passStep x port
    s).fabric = s.fabric ∧ (passStep x port s).sched = s.sched ∧ (passStep x port s).feats = s.feats ∧ (passStep x port s).guard =
    s.guard ∧ (passStep x port s).trust = s.trust ∧ (passStep x port s).now = s.now ∧ (passStep x port s).freeCtr = s.freeCtr ∧
    (passStep x port s).pending = s.pending := by simp [passStep]

/-- `endStep` changes `mode`, `recorder`, `ports`, `fns`, `ctls`, `cache`, `decks`, `vault`, `members`, `guard`, `freeCtr`, `out` only. -/
@[simp] theorem endStep_frame (x : Nat) (port : Nat) (n : Nat) (ok : Bool) (s : State) :
    (endStep x port n ok s).power = s.power ∧ (endStep x port n ok s).stop = s.stop ∧ (endStep x port n ok s).reads = s.reads ∧ (endStep
    x port n ok s).gauge = s.gauge ∧ (endStep x port n ok s).fabric = s.fabric ∧ (endStep x port n ok s).sched = s.sched ∧ (endStep x
    port n ok s).feats = s.feats ∧ (endStep x port n ok s).trust = s.trust ∧ (endStep x port n ok s).now = s.now ∧ (endStep x port n ok
    s).pending = s.pending := by simp [endStep]

/-- `settleRing` changes `recorder`, `ports`, `fns`, `ctls`, `cache`, `decks`, `members`, `out` only. -/
@[simp] theorem settleRing_frame (t : MTag) (s : State) :
    (settleRing t s).mode = s.mode ∧ (settleRing t s).power = s.power ∧ (settleRing t s).stop = s.stop ∧ (settleRing t s).reads =
    s.reads ∧ (settleRing t s).gauge = s.gauge ∧ (settleRing t s).vault = s.vault ∧ (settleRing t s).fabric = s.fabric ∧ (settleRing t
    s).sched = s.sched ∧ (settleRing t s).feats = s.feats ∧ (settleRing t s).guard = s.guard ∧ (settleRing t s).trust = s.trust ∧
    (settleRing t s).now = s.now ∧ (settleRing t s).freeCtr = s.freeCtr ∧ (settleRing t s).pending = s.pending := by
  simp only [settleRing]
  (repeat' split) <;> (first | rfl | simp)

/-- `noteTimeout` changes `recorder`, `ports`, `fns`, `ctls`, `cache`, `decks`, `vault`, `members`, `out` only. -/
@[simp] theorem noteTimeout_frame (x : Nat) (port : Nat) (s : State) :
    (noteTimeout x port s).mode = s.mode ∧ (noteTimeout x port s).power = s.power ∧ (noteTimeout x port s).stop = s.stop ∧ (noteTimeout
    x port s).reads = s.reads ∧ (noteTimeout x port s).gauge = s.gauge ∧ (noteTimeout x port s).fabric = s.fabric ∧ (noteTimeout x port
    s).sched = s.sched ∧ (noteTimeout x port s).feats = s.feats ∧ (noteTimeout x port s).guard = s.guard ∧ (noteTimeout x port s).trust
    = s.trust ∧ (noteTimeout x port s).now = s.now ∧ (noteTimeout x port s).freeCtr = s.freeCtr ∧ (noteTimeout x port s).pending =
    s.pending := by simp [noteTimeout]

/-- `learnDrive` changes `recorder`, `members`, `out` only. -/
@[simp] theorem learnDrive_frame (x : Nat) (port : Nat) (speed : Nat) (width : Nat) (info : DriveInfo) (s : State) :
    (learnDrive x port speed width info s).mode = s.mode ∧ (learnDrive x port speed width info s).power = s.power ∧ (learnDrive x port
    speed width info s).stop = s.stop ∧ (learnDrive x port speed width info s).ports = s.ports ∧ (learnDrive x port speed width info
    s).fns = s.fns ∧ (learnDrive x port speed width info s).ctls = s.ctls ∧ (learnDrive x port speed width info s).cache = s.cache ∧
    (learnDrive x port speed width info s).reads = s.reads ∧ (learnDrive x port speed width info s).decks = s.decks ∧ (learnDrive x port
    speed width info s).gauge = s.gauge ∧ (learnDrive x port speed width info s).vault = s.vault ∧ (learnDrive x port speed width info
    s).fabric = s.fabric ∧ (learnDrive x port speed width info s).sched = s.sched ∧ (learnDrive x port speed width info s).feats =
    s.feats ∧ (learnDrive x port speed width info s).guard = s.guard ∧ (learnDrive x port speed width info s).trust = s.trust ∧
    (learnDrive x port speed width info s).now = s.now ∧ (learnDrive x port speed width info s).freeCtr = s.freeCtr ∧ (learnDrive x port
    speed width info s).pending = s.pending := by simp [learnDrive]

/-- `handleMemberPortReadyTimeout` changes `mode`, `recorder`, `ports`, `fns`, `ctls`, `cache`, `decks`, `vault`, `members`, `guard`, `freeCtr`, `out` only. -/
@[simp] theorem handleMemberPortReadyTimeout_frame (slot : Nat) (port : Nat) (s : State) :
    (handleMemberPortReadyTimeout slot port s).power = s.power ∧ (handleMemberPortReadyTimeout slot port s).stop = s.stop ∧
    (handleMemberPortReadyTimeout slot port s).reads = s.reads ∧ (handleMemberPortReadyTimeout slot port s).gauge = s.gauge ∧
    (handleMemberPortReadyTimeout slot port s).fabric = s.fabric ∧ (handleMemberPortReadyTimeout slot port s).sched = s.sched ∧
    (handleMemberPortReadyTimeout slot port s).feats = s.feats ∧ (handleMemberPortReadyTimeout slot port s).trust = s.trust ∧
    (handleMemberPortReadyTimeout slot port s).now = s.now ∧ (handleMemberPortReadyTimeout slot port s).pending = s.pending := by simp [handleMemberPortReadyTimeout]

/-- `askPower` changes `members` only. -/
@[simp] theorem askPower_frame (x : Nat) (s : State) :
    (askPower x s).mode = s.mode ∧ (askPower x s).power = s.power ∧ (askPower x s).stop = s.stop ∧ (askPower x s).recorder = s.recorder
    ∧ (askPower x s).ports = s.ports ∧ (askPower x s).fns = s.fns ∧ (askPower x s).ctls = s.ctls ∧ (askPower x s).cache = s.cache ∧
    (askPower x s).reads = s.reads ∧ (askPower x s).decks = s.decks ∧ (askPower x s).gauge = s.gauge ∧ (askPower x s).vault = s.vault ∧
    (askPower x s).fabric = s.fabric ∧ (askPower x s).sched = s.sched ∧ (askPower x s).feats = s.feats ∧ (askPower x s).guard = s.guard
    ∧ (askPower x s).trust = s.trust ∧ (askPower x s).now = s.now ∧ (askPower x s).freeCtr = s.freeCtr ∧ (askPower x s).out = s.out ∧
    (askPower x s).pending = s.pending := by simp [askPower]

/-- `handlePrsntInsertion` changes `recorder`, `decks`, `members` only. -/
@[simp] theorem handlePrsntInsertion_frame (slot : Nat) (s : State) :
    (handlePrsntInsertion slot s).mode = s.mode ∧ (handlePrsntInsertion slot s).power = s.power ∧ (handlePrsntInsertion slot s).stop =
    s.stop ∧ (handlePrsntInsertion slot s).ports = s.ports ∧ (handlePrsntInsertion slot s).fns = s.fns ∧ (handlePrsntInsertion slot
    s).ctls = s.ctls ∧ (handlePrsntInsertion slot s).cache = s.cache ∧ (handlePrsntInsertion slot s).reads = s.reads ∧
    (handlePrsntInsertion slot s).gauge = s.gauge ∧ (handlePrsntInsertion slot s).vault = s.vault ∧ (handlePrsntInsertion slot s).fabric
    = s.fabric ∧ (handlePrsntInsertion slot s).sched = s.sched ∧ (handlePrsntInsertion slot s).feats = s.feats ∧ (handlePrsntInsertion
    slot s).guard = s.guard ∧ (handlePrsntInsertion slot s).trust = s.trust ∧ (handlePrsntInsertion slot s).now = s.now ∧
    (handlePrsntInsertion slot s).freeCtr = s.freeCtr ∧ (handlePrsntInsertion slot s).out = s.out ∧ (handlePrsntInsertion slot
    s).pending = s.pending := by simp [handlePrsntInsertion]

/-- `measureDrive` changes `recorder`, `trust` only. -/
@[simp] theorem measureDrive_frame (x : Nat) (info : DriveInfo) (s : State) :
    (measureDrive x info s).mode = s.mode ∧ (measureDrive x info s).power = s.power ∧ (measureDrive x info s).stop = s.stop ∧
    (measureDrive x info s).ports = s.ports ∧ (measureDrive x info s).fns = s.fns ∧ (measureDrive x info s).ctls = s.ctls ∧
    (measureDrive x info s).cache = s.cache ∧ (measureDrive x info s).reads = s.reads ∧ (measureDrive x info s).decks = s.decks ∧
    (measureDrive x info s).gauge = s.gauge ∧ (measureDrive x info s).vault = s.vault ∧ (measureDrive x info s).fabric = s.fabric ∧
    (measureDrive x info s).sched = s.sched ∧ (measureDrive x info s).feats = s.feats ∧ (measureDrive x info s).members = s.members ∧
    (measureDrive x info s).guard = s.guard ∧ (measureDrive x info s).now = s.now ∧ (measureDrive x info s).freeCtr = s.freeCtr ∧
    (measureDrive x info s).out = s.out ∧ (measureDrive x info s).pending = s.pending := by
  simp only [measureDrive]
  (repeat' split) <;> (first | rfl | simp)

/-- `rejoin` changes `recorder`, `decks`, `members`, `out` only. -/
@[simp] theorem rejoin_frame (x : Nat) (s : State) :
    (rejoin x s).mode = s.mode ∧ (rejoin x s).power = s.power ∧ (rejoin x s).stop = s.stop ∧ (rejoin x s).ports = s.ports ∧ (rejoin x
    s).fns = s.fns ∧ (rejoin x s).ctls = s.ctls ∧ (rejoin x s).cache = s.cache ∧ (rejoin x s).reads = s.reads ∧ (rejoin x s).gauge =
    s.gauge ∧ (rejoin x s).vault = s.vault ∧ (rejoin x s).fabric = s.fabric ∧ (rejoin x s).sched = s.sched ∧ (rejoin x s).feats =
    s.feats ∧ (rejoin x s).guard = s.guard ∧ (rejoin x s).trust = s.trust ∧ (rejoin x s).now = s.now ∧ (rejoin x s).freeCtr = s.freeCtr
    ∧ (rejoin x s).pending = s.pending := by simp [rejoin]

/-- `handleMemberPortBringup` changes `mode`, `recorder`, `ports`, `fns`, `ctls`, `cache`, `decks`, `vault`, `members`, `guard`, `trust`, `freeCtr`, `out` only. -/
@[simp] theorem handleMemberPortBringup_frame (slot : Nat) (port : Nat) (speed : Nat) (width : Nat) (info : DriveInfo) (s : State) :
    (handleMemberPortBringup slot port speed width info s).power = s.power ∧ (handleMemberPortBringup slot port speed width info s).stop
    = s.stop ∧ (handleMemberPortBringup slot port speed width info s).reads = s.reads ∧ (handleMemberPortBringup slot port speed width
    info s).gauge = s.gauge ∧ (handleMemberPortBringup slot port speed width info s).fabric = s.fabric ∧ (handleMemberPortBringup slot
    port speed width info s).sched = s.sched ∧ (handleMemberPortBringup slot port speed width info s).feats = s.feats ∧
    (handleMemberPortBringup slot port speed width info s).now = s.now ∧ (handleMemberPortBringup slot port speed width info s).pending
    = s.pending := by simp [handleMemberPortBringup]

/-- `writeFails` changes `mode`, `recorder`, `ports`, `fns`, `ctls`, `cache`, `decks`, `vault`, `members`, `guard`, `freeCtr`, `out` only. -/
@[simp] theorem writeFails_frame (x : Nat) (t : MTag) (s : State) :
    (writeFails x t s).power = s.power ∧ (writeFails x t s).stop = s.stop ∧ (writeFails x t s).reads = s.reads ∧ (writeFails x t
    s).gauge = s.gauge ∧ (writeFails x t s).fabric = s.fabric ∧ (writeFails x t s).sched = s.sched ∧ (writeFails x t s).feats = s.feats
    ∧ (writeFails x t s).trust = s.trust ∧ (writeFails x t s).now = s.now ∧ (writeFails x t s).pending = s.pending := by simp [writeFails]

/-- `mediaReadOnly` changes `mode`, `recorder`, `ports`, `fns`, `ctls`, `cache`, `decks`, `vault`, `members`, `guard`, `freeCtr`, `out` only. -/
@[simp] theorem mediaReadOnly_frame (x : Nat) (s : State) :
    (mediaReadOnly x s).power = s.power ∧ (mediaReadOnly x s).stop = s.stop ∧ (mediaReadOnly x s).reads = s.reads ∧ (mediaReadOnly x
    s).gauge = s.gauge ∧ (mediaReadOnly x s).fabric = s.fabric ∧ (mediaReadOnly x s).sched = s.sched ∧ (mediaReadOnly x s).feats =
    s.feats ∧ (mediaReadOnly x s).trust = s.trust ∧ (mediaReadOnly x s).now = s.now ∧ (mediaReadOnly x s).pending = s.pending := by simp [mediaReadOnly]

/-- `loseBlocks` changes `decks` only. -/
@[simp] theorem loseBlocks_frame (t : MTag) (s : State) :
    (loseBlocks t s).mode = s.mode ∧ (loseBlocks t s).power = s.power ∧ (loseBlocks t s).stop = s.stop ∧ (loseBlocks t s).recorder =
    s.recorder ∧ (loseBlocks t s).ports = s.ports ∧ (loseBlocks t s).fns = s.fns ∧ (loseBlocks t s).ctls = s.ctls ∧ (loseBlocks t
    s).cache = s.cache ∧ (loseBlocks t s).reads = s.reads ∧ (loseBlocks t s).gauge = s.gauge ∧ (loseBlocks t s).vault = s.vault ∧
    (loseBlocks t s).fabric = s.fabric ∧ (loseBlocks t s).sched = s.sched ∧ (loseBlocks t s).feats = s.feats ∧ (loseBlocks t s).members
    = s.members ∧ (loseBlocks t s).guard = s.guard ∧ (loseBlocks t s).trust = s.trust ∧ (loseBlocks t s).now = s.now ∧ (loseBlocks t
    s).freeCtr = s.freeCtr ∧ (loseBlocks t s).out = s.out ∧ (loseBlocks t s).pending = s.pending := by
  simp only [loseBlocks]
  (repeat' split) <;> (first | rfl | simp)

/-- `handleLadderStepBoundExpiry` changes `mode`, `recorder`, `ports`, `fns`, `ctls`, `cache`, `decks`, `vault`, `members`, `guard`, `freeCtr`, `out` only. -/
@[simp] theorem handleLadderStepBoundExpiry_frame (slot : Nat) (port : Nat) (s : State) :
    (handleLadderStepBoundExpiry slot port s).power = s.power ∧ (handleLadderStepBoundExpiry slot port s).stop = s.stop ∧
    (handleLadderStepBoundExpiry slot port s).reads = s.reads ∧ (handleLadderStepBoundExpiry slot port s).gauge = s.gauge ∧
    (handleLadderStepBoundExpiry slot port s).fabric = s.fabric ∧ (handleLadderStepBoundExpiry slot port s).sched = s.sched ∧
    (handleLadderStepBoundExpiry slot port s).feats = s.feats ∧ (handleLadderStepBoundExpiry slot port s).trust = s.trust ∧
    (handleLadderStepBoundExpiry slot port s).now = s.now ∧ (handleLadderStepBoundExpiry slot port s).pending = s.pending := by simp [handleLadderStepBoundExpiry]

/-- `nextStep` changes `recorder`, `ports`, `fns`, `ctls`, `cache`, `decks`, `vault`, `members`, `out` only. -/
@[simp] theorem nextStep_frame (x : Nat) (port : Nat) (t : MTag) (s : State) :
    (nextStep x port t s).mode = s.mode ∧ (nextStep x port t s).power = s.power ∧ (nextStep x port t s).stop = s.stop ∧ (nextStep x port
    t s).reads = s.reads ∧ (nextStep x port t s).gauge = s.gauge ∧ (nextStep x port t s).fabric = s.fabric ∧ (nextStep x port t s).sched
    = s.sched ∧ (nextStep x port t s).feats = s.feats ∧ (nextStep x port t s).guard = s.guard ∧ (nextStep x port t s).trust = s.trust ∧
    (nextStep x port t s).now = s.now ∧ (nextStep x port t s).freeCtr = s.freeCtr ∧ (nextStep x port t s).pending = s.pending := by simp [nextStep]

/-- `lateRing` changes `mode`, `recorder`, `ports`, `fns`, `ctls`, `cache`, `decks`, `members`, `guard`, `freeCtr`, `out` only. -/
@[simp] theorem lateRing_frame (t : MTag) (s : State) :
    (lateRing t s).power = s.power ∧ (lateRing t s).stop = s.stop ∧ (lateRing t s).reads = s.reads ∧ (lateRing t s).gauge = s.gauge ∧
    (lateRing t s).vault = s.vault ∧ (lateRing t s).fabric = s.fabric ∧ (lateRing t s).sched = s.sched ∧ (lateRing t s).feats = s.feats
    ∧ (lateRing t s).trust = s.trust ∧ (lateRing t s).now = s.now ∧ (lateRing t s).pending = s.pending := by
  simp only [lateRing]
  (repeat' split) <;> (first | rfl | simp)

/-- `handleMemberCommandTimeout` changes `mode`, `recorder`, `ports`, `fns`, `ctls`, `cache`, `decks`, `vault`, `members`, `guard`, `freeCtr`, `out` only. -/
@[simp] theorem handleMemberCommandTimeout_frame (slot : Nat) (port : Nat) (tag : Nat) (s : State) :
    (handleMemberCommandTimeout slot port tag s).power = s.power ∧ (handleMemberCommandTimeout slot port tag s).stop = s.stop ∧
    (handleMemberCommandTimeout slot port tag s).reads = s.reads ∧ (handleMemberCommandTimeout slot port tag s).gauge = s.gauge ∧
    (handleMemberCommandTimeout slot port tag s).fabric = s.fabric ∧ (handleMemberCommandTimeout slot port tag s).sched = s.sched ∧
    (handleMemberCommandTimeout slot port tag s).feats = s.feats ∧ (handleMemberCommandTimeout slot port tag s).trust = s.trust ∧
    (handleMemberCommandTimeout slot port tag s).now = s.now ∧ (handleMemberCommandTimeout slot port tag s).pending = s.pending := by
  simp only [handleMemberCommandTimeout]
  (repeat' split) <;> (first | rfl | simp)

/-- `handleMemberAsyncEvent` changes `mode`, `recorder`, `ports`, `fns`, `ctls`, `cache`, `decks`, `vault`, `members`, `guard`, `trust`, `freeCtr`, `out` only. -/
@[simp] theorem handleMemberAsyncEvent_frame (slot : Nat) (critWarn : BitVec 8) (fwChange : Option Nat) (temp : Nat) (s : State) :
    (handleMemberAsyncEvent slot critWarn fwChange temp s).power = s.power ∧ (handleMemberAsyncEvent slot critWarn fwChange temp s).stop
    = s.stop ∧ (handleMemberAsyncEvent slot critWarn fwChange temp s).reads = s.reads ∧ (handleMemberAsyncEvent slot critWarn fwChange
    temp s).gauge = s.gauge ∧ (handleMemberAsyncEvent slot critWarn fwChange temp s).fabric = s.fabric ∧ (handleMemberAsyncEvent slot
    critWarn fwChange temp s).sched = s.sched ∧ (handleMemberAsyncEvent slot critWarn fwChange temp s).feats = s.feats ∧
    (handleMemberAsyncEvent slot critWarn fwChange temp s).now = s.now ∧ (handleMemberAsyncEvent slot critWarn fwChange temp s).pending
    = s.pending := by
  simp only [handleMemberAsyncEvent]
  (repeat' split) <;> (first | rfl | simp)

/-- `handleMemberPcieCompletionTimeout` changes `mode`, `recorder`, `ports`, `fns`, `ctls`, `cache`, `decks`, `vault`, `members`, `guard`, `freeCtr`, `out` only. -/
@[simp] theorem handleMemberPcieCompletionTimeout_frame (slot : Nat) (port : Nat) (s : State) :
    (handleMemberPcieCompletionTimeout slot port s).power = s.power ∧ (handleMemberPcieCompletionTimeout slot port s).stop = s.stop ∧
    (handleMemberPcieCompletionTimeout slot port s).reads = s.reads ∧ (handleMemberPcieCompletionTimeout slot port s).gauge = s.gauge ∧
    (handleMemberPcieCompletionTimeout slot port s).fabric = s.fabric ∧ (handleMemberPcieCompletionTimeout slot port s).sched = s.sched
    ∧ (handleMemberPcieCompletionTimeout slot port s).feats = s.feats ∧ (handleMemberPcieCompletionTimeout slot port s).trust = s.trust
    ∧ (handleMemberPcieCompletionTimeout slot port s).now = s.now ∧ (handleMemberPcieCompletionTimeout slot port s).pending = s.pending := by simp [handleMemberPcieCompletionTimeout]

/-- `injectAt` changes `recorder`, `guard` only. -/
@[simp] theorem injectAt_frame (x : Nat) (port : Nat) (dir : Nat) (kind : Nat) (s : State) :
    (injectAt x port dir kind s).2.mode = s.mode ∧ (injectAt x port dir kind s).2.power = s.power ∧ (injectAt x port dir kind s).2.stop
    = s.stop ∧ (injectAt x port dir kind s).2.ports = s.ports ∧ (injectAt x port dir kind s).2.fns = s.fns ∧ (injectAt x port dir kind
    s).2.ctls = s.ctls ∧ (injectAt x port dir kind s).2.cache = s.cache ∧ (injectAt x port dir kind s).2.reads = s.reads ∧ (injectAt x
    port dir kind s).2.decks = s.decks ∧ (injectAt x port dir kind s).2.gauge = s.gauge ∧ (injectAt x port dir kind s).2.vault = s.vault
    ∧ (injectAt x port dir kind s).2.fabric = s.fabric ∧ (injectAt x port dir kind s).2.sched = s.sched ∧ (injectAt x port dir kind
    s).2.feats = s.feats ∧ (injectAt x port dir kind s).2.members = s.members ∧ (injectAt x port dir kind s).2.trust = s.trust ∧
    (injectAt x port dir kind s).2.now = s.now ∧ (injectAt x port dir kind s).2.freeCtr = s.freeCtr ∧ (injectAt x port dir kind s).2.out
    = s.out ∧ (injectAt x port dir kind s).2.pending = s.pending := by
  simp only [injectAt]
  (repeat' split) <;> (first | rfl | simp)

/-- `handleFailedPendingTimeout` changes `mode`, `recorder`, `ports`, `fns`, `ctls`, `cache`, `decks`, `vault`, `members`, `guard`, `trust`, `freeCtr`, `out` only. -/
@[simp] theorem handleFailedPendingTimeout_frame (slot : Nat) (final : Bool) (s : State) :
    (handleFailedPendingTimeout slot final s).power = s.power ∧ (handleFailedPendingTimeout slot final s).stop = s.stop ∧
    (handleFailedPendingTimeout slot final s).reads = s.reads ∧ (handleFailedPendingTimeout slot final s).gauge = s.gauge ∧
    (handleFailedPendingTimeout slot final s).fabric = s.fabric ∧ (handleFailedPendingTimeout slot final s).sched = s.sched ∧
    (handleFailedPendingTimeout slot final s).feats = s.feats ∧ (handleFailedPendingTimeout slot final s).now = s.now ∧
    (handleFailedPendingTimeout slot final s).pending = s.pending := by simp [handleFailedPendingTimeout]

/-- `freeTag` changes `members` only. -/
@[simp] theorem freeTag_frame (x : Nat) (port : Nat) (tag : Nat) (s : State) :
    (freeTag x port tag s).mode = s.mode ∧ (freeTag x port tag s).power = s.power ∧ (freeTag x port tag s).stop = s.stop ∧ (freeTag x
    port tag s).recorder = s.recorder ∧ (freeTag x port tag s).ports = s.ports ∧ (freeTag x port tag s).fns = s.fns ∧ (freeTag x port
    tag s).ctls = s.ctls ∧ (freeTag x port tag s).cache = s.cache ∧ (freeTag x port tag s).reads = s.reads ∧ (freeTag x port tag
    s).decks = s.decks ∧ (freeTag x port tag s).gauge = s.gauge ∧ (freeTag x port tag s).vault = s.vault ∧ (freeTag x port tag s).fabric
    = s.fabric ∧ (freeTag x port tag s).sched = s.sched ∧ (freeTag x port tag s).feats = s.feats ∧ (freeTag x port tag s).guard =
    s.guard ∧ (freeTag x port tag s).trust = s.trust ∧ (freeTag x port tag s).now = s.now ∧ (freeTag x port tag s).freeCtr = s.freeCtr ∧
    (freeTag x port tag s).out = s.out ∧ (freeTag x port tag s).pending = s.pending := by simp [freeTag]

/-- `handleContainmentRelease` changes `mode`, `recorder`, `ports`, `fns`, `ctls`, `cache`, `decks`, `vault`, `members`, `guard`, `freeCtr`, `out` only. -/
@[simp] theorem handleContainmentRelease_frame (slot : Nat) (port : Nat) (s : State) :
    (handleContainmentRelease slot port s).power = s.power ∧ (handleContainmentRelease slot port s).stop = s.stop ∧
    (handleContainmentRelease slot port s).reads = s.reads ∧ (handleContainmentRelease slot port s).gauge = s.gauge ∧
    (handleContainmentRelease slot port s).fabric = s.fabric ∧ (handleContainmentRelease slot port s).sched = s.sched ∧
    (handleContainmentRelease slot port s).feats = s.feats ∧ (handleContainmentRelease slot port s).trust = s.trust ∧
    (handleContainmentRelease slot port s).now = s.now ∧ (handleContainmentRelease slot port s).pending = s.pending := by simp [handleContainmentRelease]

/-- `powerOff` changes `recorder`, `members`, `out` only. -/
@[simp] theorem powerOff_frame (x : Nat) (s : State) :
    (powerOff x s).mode = s.mode ∧ (powerOff x s).power = s.power ∧ (powerOff x s).stop = s.stop ∧ (powerOff x s).ports = s.ports ∧
    (powerOff x s).fns = s.fns ∧ (powerOff x s).ctls = s.ctls ∧ (powerOff x s).cache = s.cache ∧ (powerOff x s).reads = s.reads ∧
    (powerOff x s).decks = s.decks ∧ (powerOff x s).gauge = s.gauge ∧ (powerOff x s).vault = s.vault ∧ (powerOff x s).fabric = s.fabric
    ∧ (powerOff x s).sched = s.sched ∧ (powerOff x s).feats = s.feats ∧ (powerOff x s).guard = s.guard ∧ (powerOff x s).trust = s.trust
    ∧ (powerOff x s).now = s.now ∧ (powerOff x s).freeCtr = s.freeCtr ∧ (powerOff x s).pending = s.pending := by
  simp only [powerOff]
  (repeat' split) <;> (first | rfl | simp)

/-- `handleDpcTrigger` changes `mode`, `recorder`, `ports`, `fns`, `decks`, `members`, `freeCtr`, `out` only. -/
@[simp] theorem handleDpcTrigger_frame (slot : Nat) (port : Nat) (cause : Nat) (s : State) :
    (handleDpcTrigger slot port cause s).power = s.power ∧ (handleDpcTrigger slot port cause s).stop = s.stop ∧ (handleDpcTrigger slot
    port cause s).ctls = s.ctls ∧ (handleDpcTrigger slot port cause s).cache = s.cache ∧ (handleDpcTrigger slot port cause s).reads =
    s.reads ∧ (handleDpcTrigger slot port cause s).gauge = s.gauge ∧ (handleDpcTrigger slot port cause s).vault = s.vault ∧
    (handleDpcTrigger slot port cause s).fabric = s.fabric ∧ (handleDpcTrigger slot port cause s).sched = s.sched ∧ (handleDpcTrigger
    slot port cause s).feats = s.feats ∧ (handleDpcTrigger slot port cause s).guard = s.guard ∧ (handleDpcTrigger slot port cause
    s).trust = s.trust ∧ (handleDpcTrigger slot port cause s).now = s.now ∧ (handleDpcTrigger slot port cause s).pending = s.pending := by simp [handleDpcTrigger]

/-- `handlePrsntRemoval` changes `recorder`, `ports`, `fns`, `ctls`, `cache`, `decks`, `vault`, `members`, `out` only. -/
@[simp] theorem handlePrsntRemoval_frame (slot : Nat) (s : State) :
    (handlePrsntRemoval slot s).mode = s.mode ∧ (handlePrsntRemoval slot s).power = s.power ∧ (handlePrsntRemoval slot s).stop = s.stop
    ∧ (handlePrsntRemoval slot s).reads = s.reads ∧ (handlePrsntRemoval slot s).gauge = s.gauge ∧ (handlePrsntRemoval slot s).fabric =
    s.fabric ∧ (handlePrsntRemoval slot s).sched = s.sched ∧ (handlePrsntRemoval slot s).feats = s.feats ∧ (handlePrsntRemoval slot
    s).guard = s.guard ∧ (handlePrsntRemoval slot s).trust = s.trust ∧ (handlePrsntRemoval slot s).now = s.now ∧ (handlePrsntRemoval
    slot s).freeCtr = s.freeCtr ∧ (handlePrsntRemoval slot s).pending = s.pending := by simp [handlePrsntRemoval]

/-- `handleMemberAdminTimeout` changes `mode`, `recorder`, `ports`, `fns`, `ctls`, `cache`, `decks`, `vault`, `members`, `guard`, `freeCtr`, `out` only. -/
@[simp] theorem handleMemberAdminTimeout_frame (slot : Nat) (port : Nat) (s : State) :
    (handleMemberAdminTimeout slot port s).power = s.power ∧ (handleMemberAdminTimeout slot port s).stop = s.stop ∧
    (handleMemberAdminTimeout slot port s).reads = s.reads ∧ (handleMemberAdminTimeout slot port s).gauge = s.gauge ∧
    (handleMemberAdminTimeout slot port s).fabric = s.fabric ∧ (handleMemberAdminTimeout slot port s).sched = s.sched ∧
    (handleMemberAdminTimeout slot port s).feats = s.feats ∧ (handleMemberAdminTimeout slot port s).trust = s.trust ∧
    (handleMemberAdminTimeout slot port s).now = s.now ∧ (handleMemberAdminTimeout slot port s).pending = s.pending := by simp [handleMemberAdminTimeout]

end Sys2Proof.Machine
end

