-- ==== Sys2Proof/Laws/MemberControl.lean ====
section
/-!
SUPPORT. The frames of the operations of Machine/MemberControl.lean: which units of the state each leaves alone.
-/

namespace Sys2Proof.Machine

/-- `flushPorts` changes `members`, `out` only. -/
@[simp] theorem flushPorts_frame (x : Nat) (s : State) :
    (flushPorts x s).mode = s.mode ∧ (flushPorts x s).power = s.power ∧ (flushPorts x s).stop = s.stop ∧ (flushPorts x s).recorder =
    s.recorder ∧ (flushPorts x s).ports = s.ports ∧ (flushPorts x s).fns = s.fns ∧ (flushPorts x s).ctls = s.ctls ∧ (flushPorts x
    s).cache = s.cache ∧ (flushPorts x s).reads = s.reads ∧ (flushPorts x s).decks = s.decks ∧ (flushPorts x s).gauge = s.gauge ∧
    (flushPorts x s).vault = s.vault ∧ (flushPorts x s).fabric = s.fabric ∧ (flushPorts x s).sched = s.sched ∧ (flushPorts x s).feats =
    s.feats ∧ (flushPorts x s).guard = s.guard ∧ (flushPorts x s).trust = s.trust ∧ (flushPorts x s).now = s.now ∧ (flushPorts x
    s).freeCtr = s.freeCtr ∧ (flushPorts x s).pending = s.pending := by simp [flushPorts]

/-- `noteAction` changes `recorder` only. -/
@[simp] theorem noteAction_frame (slot : Nat) (action : Nat) (cdw11 : Nat) (s : State) :
    (noteAction slot action cdw11 s).mode = s.mode ∧ (noteAction slot action cdw11 s).power = s.power ∧ (noteAction slot action cdw11
    s).stop = s.stop ∧ (noteAction slot action cdw11 s).ports = s.ports ∧ (noteAction slot action cdw11 s).fns = s.fns ∧ (noteAction
    slot action cdw11 s).ctls = s.ctls ∧ (noteAction slot action cdw11 s).cache = s.cache ∧ (noteAction slot action cdw11 s).reads =
    s.reads ∧ (noteAction slot action cdw11 s).decks = s.decks ∧ (noteAction slot action cdw11 s).gauge = s.gauge ∧ (noteAction slot
    action cdw11 s).vault = s.vault ∧ (noteAction slot action cdw11 s).fabric = s.fabric ∧ (noteAction slot action cdw11 s).sched =
    s.sched ∧ (noteAction slot action cdw11 s).feats = s.feats ∧ (noteAction slot action cdw11 s).members = s.members ∧ (noteAction slot
    action cdw11 s).guard = s.guard ∧ (noteAction slot action cdw11 s).trust = s.trust ∧ (noteAction slot action cdw11 s).now = s.now ∧
    (noteAction slot action cdw11 s).freeCtr = s.freeCtr ∧ (noteAction slot action cdw11 s).out = s.out ∧ (noteAction slot action cdw11
    s).pending = s.pending := by simp [noteAction]

/-- `dropFlushes` changes `members` only. -/
@[simp] theorem dropFlushes_frame (x : Nat) (s : State) :
    (dropFlushes x s).mode = s.mode ∧ (dropFlushes x s).power = s.power ∧ (dropFlushes x s).stop = s.stop ∧ (dropFlushes x s).recorder =
    s.recorder ∧ (dropFlushes x s).ports = s.ports ∧ (dropFlushes x s).fns = s.fns ∧ (dropFlushes x s).ctls = s.ctls ∧ (dropFlushes x
    s).cache = s.cache ∧ (dropFlushes x s).reads = s.reads ∧ (dropFlushes x s).decks = s.decks ∧ (dropFlushes x s).gauge = s.gauge ∧
    (dropFlushes x s).vault = s.vault ∧ (dropFlushes x s).fabric = s.fabric ∧ (dropFlushes x s).sched = s.sched ∧ (dropFlushes x
    s).feats = s.feats ∧ (dropFlushes x s).guard = s.guard ∧ (dropFlushes x s).trust = s.trust ∧ (dropFlushes x s).now = s.now ∧
    (dropFlushes x s).freeCtr = s.freeCtr ∧ (dropFlushes x s).out = s.out ∧ (dropFlushes x s).pending = s.pending := by simp [dropFlushes]

/-- `storeTable` changes `guard` only. -/
@[simp] theorem storeTable_frame (t : List RetEntry) (s : State) :
    (storeTable t s).mode = s.mode ∧ (storeTable t s).power = s.power ∧ (storeTable t s).stop = s.stop ∧ (storeTable t s).recorder =
    s.recorder ∧ (storeTable t s).ports = s.ports ∧ (storeTable t s).fns = s.fns ∧ (storeTable t s).ctls = s.ctls ∧ (storeTable t
    s).cache = s.cache ∧ (storeTable t s).reads = s.reads ∧ (storeTable t s).decks = s.decks ∧ (storeTable t s).gauge = s.gauge ∧
    (storeTable t s).vault = s.vault ∧ (storeTable t s).fabric = s.fabric ∧ (storeTable t s).sched = s.sched ∧ (storeTable t s).feats =
    s.feats ∧ (storeTable t s).members = s.members ∧ (storeTable t s).trust = s.trust ∧ (storeTable t s).now = s.now ∧ (storeTable t
    s).freeCtr = s.freeCtr ∧ (storeTable t s).out = s.out ∧ (storeTable t s).pending = s.pending := by simp [storeTable]

/-- `loadTable` changes `guard` only. -/
@[simp] theorem loadTable_frame (s : State) :
    (loadTable s).mode = s.mode ∧ (loadTable s).power = s.power ∧ (loadTable s).stop = s.stop ∧ (loadTable s).recorder = s.recorder ∧
    (loadTable s).ports = s.ports ∧ (loadTable s).fns = s.fns ∧ (loadTable s).ctls = s.ctls ∧ (loadTable s).cache = s.cache ∧ (loadTable
    s).reads = s.reads ∧ (loadTable s).decks = s.decks ∧ (loadTable s).gauge = s.gauge ∧ (loadTable s).vault = s.vault ∧ (loadTable
    s).fabric = s.fabric ∧ (loadTable s).sched = s.sched ∧ (loadTable s).feats = s.feats ∧ (loadTable s).members = s.members ∧
    (loadTable s).trust = s.trust ∧ (loadTable s).now = s.now ∧ (loadTable s).freeCtr = s.freeCtr ∧ (loadTable s).out = s.out ∧
    (loadTable s).pending = s.pending := by simp [loadTable]

end Sys2Proof.Machine
end

