-- ==== Sys2Proof/Laws/Guard.lean ====
section
/-!
SUPPORT. The frames of the operations of Machine/Guard.lean: which units of the state each leaves alone.
-/

namespace Sys2Proof.Machine

/-- `putTable` changes `guard` only. -/
@[simp] theorem putTable_frame (t : List RetEntry) (s : State) :
    (putTable t s).mode = s.mode ∧ (putTable t s).power = s.power ∧ (putTable t s).stop = s.stop ∧ (putTable t s).recorder = s.recorder
    ∧ (putTable t s).ports = s.ports ∧ (putTable t s).fns = s.fns ∧ (putTable t s).ctls = s.ctls ∧ (putTable t s).cache = s.cache ∧
    (putTable t s).reads = s.reads ∧ (putTable t s).decks = s.decks ∧ (putTable t s).gauge = s.gauge ∧ (putTable t s).vault = s.vault ∧
    (putTable t s).fabric = s.fabric ∧ (putTable t s).sched = s.sched ∧ (putTable t s).feats = s.feats ∧ (putTable t s).members =
    s.members ∧ (putTable t s).trust = s.trust ∧ (putTable t s).now = s.now ∧ (putTable t s).freeCtr = s.freeCtr ∧ (putTable t s).out =
    s.out ∧ (putTable t s).pending = s.pending := by simp [putTable]

/-- `failChannel` changes `mode`, `recorder`, `ports`, `fns`, `cache`, `guard`, `freeCtr`, `out` only. -/
@[simp] theorem failChannel_frame (ch : Nat) (reason : Nat) (s : State) :
    (failChannel ch reason s).power = s.power ∧ (failChannel ch reason s).stop = s.stop ∧ (failChannel ch reason s).ctls = s.ctls ∧
    (failChannel ch reason s).reads = s.reads ∧ (failChannel ch reason s).decks = s.decks ∧ (failChannel ch reason s).gauge = s.gauge ∧
    (failChannel ch reason s).vault = s.vault ∧ (failChannel ch reason s).fabric = s.fabric ∧ (failChannel ch reason s).sched = s.sched
    ∧ (failChannel ch reason s).feats = s.feats ∧ (failChannel ch reason s).members = s.members ∧ (failChannel ch reason s).trust =
    s.trust ∧ (failChannel ch reason s).now = s.now ∧ (failChannel ch reason s).pending = s.pending := by simp [failChannel]

/-- `retireBank` changes `mode`, `recorder`, `ports`, `fns`, `cache`, `guard`, `freeCtr`, `out` only. -/
@[simp] theorem retireBank_frame (ch : Nat) (bank : Nat) (s : State) :
    (retireBank ch bank s).power = s.power ∧ (retireBank ch bank s).stop = s.stop ∧ (retireBank ch bank s).ctls = s.ctls ∧ (retireBank
    ch bank s).reads = s.reads ∧ (retireBank ch bank s).decks = s.decks ∧ (retireBank ch bank s).gauge = s.gauge ∧ (retireBank ch bank
    s).vault = s.vault ∧ (retireBank ch bank s).fabric = s.fabric ∧ (retireBank ch bank s).sched = s.sched ∧ (retireBank ch bank
    s).feats = s.feats ∧ (retireBank ch bank s).members = s.members ∧ (retireBank ch bank s).trust = s.trust ∧ (retireBank ch bank
    s).now = s.now ∧ (retireBank ch bank s).pending = s.pending := by simp [retireBank]

/-- `enterFrame` changes `mode`, `recorder`, `ports`, `fns`, `cache`, `guard`, `freeCtr`, `out` only. -/
@[simp] theorem enterFrame_frame (region : Nat) (ch : Nat) (frame : Nat) (s : State) :
    (enterFrame region ch frame s).2.power = s.power ∧ (enterFrame region ch frame s).2.stop = s.stop ∧ (enterFrame region ch frame
    s).2.ctls = s.ctls ∧ (enterFrame region ch frame s).2.reads = s.reads ∧ (enterFrame region ch frame s).2.decks = s.decks ∧
    (enterFrame region ch frame s).2.gauge = s.gauge ∧ (enterFrame region ch frame s).2.vault = s.vault ∧ (enterFrame region ch frame
    s).2.fabric = s.fabric ∧ (enterFrame region ch frame s).2.sched = s.sched ∧ (enterFrame region ch frame s).2.feats = s.feats ∧
    (enterFrame region ch frame s).2.members = s.members ∧ (enterFrame region ch frame s).2.trust = s.trust ∧ (enterFrame region ch
    frame s).2.now = s.now ∧ (enterFrame region ch frame s).2.pending = s.pending := by
  simp only [enterFrame]
  (repeat' split) <;> (first | rfl | simp)

/-- `retireOne.go` changes `mode`, `recorder`, `ports`, `fns`, `cache`, `guard`, `freeCtr`, `out` only. -/
@[simp] theorem retireOne.go_frame (region : Nat) (frame : Nat) (s : State) :
    (retireOne.go region frame s).power = s.power ∧ (retireOne.go region frame s).stop = s.stop ∧ (retireOne.go region frame s).ctls =
    s.ctls ∧ (retireOne.go region frame s).reads = s.reads ∧ (retireOne.go region frame s).decks = s.decks ∧ (retireOne.go region frame
    s).gauge = s.gauge ∧ (retireOne.go region frame s).vault = s.vault ∧ (retireOne.go region frame s).fabric = s.fabric ∧ (retireOne.go
    region frame s).sched = s.sched ∧ (retireOne.go region frame s).feats = s.feats ∧ (retireOne.go region frame s).members = s.members
    ∧ (retireOne.go region frame s).trust = s.trust ∧ (retireOne.go region frame s).now = s.now ∧ (retireOne.go region frame s).pending
    = s.pending := by simp [retireOne.go]

/-- `retireOne` changes `mode`, `recorder`, `ports`, `fns`, `cache`, `guard`, `freeCtr`, `out` only. -/
@[simp] theorem retireOne_frame (region : Nat) (frame : Nat) (s : State) :
    (retireOne region frame s).power = s.power ∧ (retireOne region frame s).stop = s.stop ∧ (retireOne region frame s).ctls = s.ctls ∧
    (retireOne region frame s).reads = s.reads ∧ (retireOne region frame s).decks = s.decks ∧ (retireOne region frame s).gauge = s.gauge
    ∧ (retireOne region frame s).vault = s.vault ∧ (retireOne region frame s).fabric = s.fabric ∧ (retireOne region frame s).sched =
    s.sched ∧ (retireOne region frame s).feats = s.feats ∧ (retireOne region frame s).members = s.members ∧ (retireOne region frame
    s).trust = s.trust ∧ (retireOne region frame s).now = s.now ∧ (retireOne region frame s).pending = s.pending := by
  simp only [retireOne]
  (repeat' split) <;> (first | rfl | simp)

/-- `uncorrectable` changes `mode`, `recorder`, `ports`, `fns`, `cache`, `guard`, `freeCtr`, `out` only. -/
@[simp] theorem uncorrectable_frame (e : DirEntry) (sec : Nat) (partnerBad : Bool) (s : State) :
    (uncorrectable e sec partnerBad s).power = s.power ∧ (uncorrectable e sec partnerBad s).stop = s.stop ∧ (uncorrectable e sec
    partnerBad s).ctls = s.ctls ∧ (uncorrectable e sec partnerBad s).reads = s.reads ∧ (uncorrectable e sec partnerBad s).decks =
    s.decks ∧ (uncorrectable e sec partnerBad s).gauge = s.gauge ∧ (uncorrectable e sec partnerBad s).vault = s.vault ∧ (uncorrectable e
    sec partnerBad s).fabric = s.fabric ∧ (uncorrectable e sec partnerBad s).sched = s.sched ∧ (uncorrectable e sec partnerBad s).feats
    = s.feats ∧ (uncorrectable e sec partnerBad s).members = s.members ∧ (uncorrectable e sec partnerBad s).trust = s.trust ∧
    (uncorrectable e sec partnerBad s).now = s.now ∧ (uncorrectable e sec partnerBad s).pending = s.pending := by
  simp only [uncorrectable]
  (repeat' split) <;> (first | rfl | simp)

/-- `repairRow` changes `recorder`, `guard` only. -/
@[simp] theorem repairRow_frame (die : Nat) (macroNo : Nat) (row : Nat) (s : State) :
    (repairRow die macroNo row s).mode = s.mode ∧ (repairRow die macroNo row s).power = s.power ∧ (repairRow die macroNo row s).stop =
    s.stop ∧ (repairRow die macroNo row s).ports = s.ports ∧ (repairRow die macroNo row s).fns = s.fns ∧ (repairRow die macroNo row
    s).ctls = s.ctls ∧ (repairRow die macroNo row s).cache = s.cache ∧ (repairRow die macroNo row s).reads = s.reads ∧ (repairRow die
    macroNo row s).decks = s.decks ∧ (repairRow die macroNo row s).gauge = s.gauge ∧ (repairRow die macroNo row s).vault = s.vault ∧
    (repairRow die macroNo row s).fabric = s.fabric ∧ (repairRow die macroNo row s).sched = s.sched ∧ (repairRow die macroNo row
    s).feats = s.feats ∧ (repairRow die macroNo row s).members = s.members ∧ (repairRow die macroNo row s).trust = s.trust ∧ (repairRow
    die macroNo row s).now = s.now ∧ (repairRow die macroNo row s).freeCtr = s.freeCtr ∧ (repairRow die macroNo row s).out = s.out ∧
    (repairRow die macroNo row s).pending = s.pending := by simp [repairRow]

/-- `loseRecord` changes `recorder` only. -/
@[simp] theorem loseRecord_frame (pos : Nat) (s : State) :
    (loseRecord pos s).mode = s.mode ∧ (loseRecord pos s).power = s.power ∧ (loseRecord pos s).stop = s.stop ∧ (loseRecord pos s).ports
    = s.ports ∧ (loseRecord pos s).fns = s.fns ∧ (loseRecord pos s).ctls = s.ctls ∧ (loseRecord pos s).cache = s.cache ∧ (loseRecord pos
    s).reads = s.reads ∧ (loseRecord pos s).decks = s.decks ∧ (loseRecord pos s).gauge = s.gauge ∧ (loseRecord pos s).vault = s.vault ∧
    (loseRecord pos s).fabric = s.fabric ∧ (loseRecord pos s).sched = s.sched ∧ (loseRecord pos s).feats = s.feats ∧ (loseRecord pos
    s).members = s.members ∧ (loseRecord pos s).guard = s.guard ∧ (loseRecord pos s).trust = s.trust ∧ (loseRecord pos s).now = s.now ∧
    (loseRecord pos s).freeCtr = s.freeCtr ∧ (loseRecord pos s).out = s.out ∧ (loseRecord pos s).pending = s.pending := by simp [loseRecord]

/-- `reissueStream` changes `fabric`, `out` only. -/
@[simp] theorem reissueStream_frame (region : Nat) (block : Nat) (stream : Nat) (s : State) :
    (reissueStream region block stream s).mode = s.mode ∧ (reissueStream region block stream s).power = s.power ∧ (reissueStream region
    block stream s).stop = s.stop ∧ (reissueStream region block stream s).recorder = s.recorder ∧ (reissueStream region block stream
    s).ports = s.ports ∧ (reissueStream region block stream s).fns = s.fns ∧ (reissueStream region block stream s).ctls = s.ctls ∧
    (reissueStream region block stream s).cache = s.cache ∧ (reissueStream region block stream s).reads = s.reads ∧ (reissueStream
    region block stream s).decks = s.decks ∧ (reissueStream region block stream s).gauge = s.gauge ∧ (reissueStream region block stream
    s).vault = s.vault ∧ (reissueStream region block stream s).sched = s.sched ∧ (reissueStream region block stream s).feats = s.feats ∧
    (reissueStream region block stream s).members = s.members ∧ (reissueStream region block stream s).guard = s.guard ∧ (reissueStream
    region block stream s).trust = s.trust ∧ (reissueStream region block stream s).now = s.now ∧ (reissueStream region block stream
    s).freeCtr = s.freeCtr ∧ (reissueStream region block stream s).pending = s.pending := by simp [reissueStream]

/-- `tearRepair` changes `recorder`, `guard` only. -/
@[simp] theorem tearRepair_frame (i : Nat) (s : State) :
    (tearRepair i s).mode = s.mode ∧ (tearRepair i s).power = s.power ∧ (tearRepair i s).stop = s.stop ∧ (tearRepair i s).ports =
    s.ports ∧ (tearRepair i s).fns = s.fns ∧ (tearRepair i s).ctls = s.ctls ∧ (tearRepair i s).cache = s.cache ∧ (tearRepair i s).reads
    = s.reads ∧ (tearRepair i s).decks = s.decks ∧ (tearRepair i s).gauge = s.gauge ∧ (tearRepair i s).vault = s.vault ∧ (tearRepair i
    s).fabric = s.fabric ∧ (tearRepair i s).sched = s.sched ∧ (tearRepair i s).feats = s.feats ∧ (tearRepair i s).members = s.members ∧
    (tearRepair i s).trust = s.trust ∧ (tearRepair i s).now = s.now ∧ (tearRepair i s).freeCtr = s.freeCtr ∧ (tearRepair i s).out =
    s.out ∧ (tearRepair i s).pending = s.pending := by
  simp only [tearRepair]
  (repeat' split) <;> (first | rfl | simp)

/-- `nameDevice` changes `mode`, `recorder`, `ports`, `fns`, `cache`, `guard`, `freeCtr`, `out` only. -/
@[simp] theorem nameDevice_frame (ch : Nat) (dev : Nat) (frame : Nat) (s : State) :
    (nameDevice ch dev frame s).power = s.power ∧ (nameDevice ch dev frame s).stop = s.stop ∧ (nameDevice ch dev frame s).ctls = s.ctls
    ∧ (nameDevice ch dev frame s).reads = s.reads ∧ (nameDevice ch dev frame s).decks = s.decks ∧ (nameDevice ch dev frame s).gauge =
    s.gauge ∧ (nameDevice ch dev frame s).vault = s.vault ∧ (nameDevice ch dev frame s).fabric = s.fabric ∧ (nameDevice ch dev frame
    s).sched = s.sched ∧ (nameDevice ch dev frame s).feats = s.feats ∧ (nameDevice ch dev frame s).members = s.members ∧ (nameDevice ch
    dev frame s).trust = s.trust ∧ (nameDevice ch dev frame s).now = s.now ∧ (nameDevice ch dev frame s).pending = s.pending := by simp [nameDevice]

/-- `loseEntry` changes `mode`, `stop`, `recorder`, `ports`, `fns`, `ctls`, `cache`, `reads`, `decks`, `guard`, `freeCtr`, `out` only. -/
@[simp] theorem loseEntry_frame (region : Nat) (frame : Nat) (s : State) :
    (loseEntry region frame s).power = s.power ∧ (loseEntry region frame s).gauge = s.gauge ∧ (loseEntry region frame s).vault = s.vault
    ∧ (loseEntry region frame s).fabric = s.fabric ∧ (loseEntry region frame s).sched = s.sched ∧ (loseEntry region frame s).feats =
    s.feats ∧ (loseEntry region frame s).members = s.members ∧ (loseEntry region frame s).trust = s.trust ∧ (loseEntry region frame
    s).now = s.now ∧ (loseEntry region frame s).pending = s.pending := by
  simp only [loseEntry]
  (repeat' split) <;> (first | rfl | simp)

/-- `recoverWord` changes `mode`, `stop`, `recorder`, `ports`, `fns`, `ctls`, `cache`, `reads`, `decks`, `fabric`, `guard`, `freeCtr`, `out` only. -/
@[simp] theorem recoverWord_frame (t : SramTarget) (copyLost : Bool) (s : State) :
    (recoverWord t copyLost s).power = s.power ∧ (recoverWord t copyLost s).gauge = s.gauge ∧ (recoverWord t copyLost s).vault = s.vault
    ∧ (recoverWord t copyLost s).sched = s.sched ∧ (recoverWord t copyLost s).feats = s.feats ∧ (recoverWord t copyLost s).members =
    s.members ∧ (recoverWord t copyLost s).trust = s.trust ∧ (recoverWord t copyLost s).now = s.now ∧ (recoverWord t copyLost s).pending
    = s.pending := by
  simp only [recoverWord]
  (repeat' split) <;> (first | rfl | simp)

end Sys2Proof.Machine
end

