-- ==== Sys2Proof/Laws/Test.lean ====
section
/-!
SUPPORT. The frames of the operations of Machine/Test.lean: which units of the state each leaves alone.
-/

namespace Sys2Proof.Machine

/-- `countFault` changes `recorder`, `guard` only. -/
@[simp] theorem countFault_frame (a : FinjDesc) (s : State) :
    (countFault a s).mode = s.mode ∧ (countFault a s).power = s.power ∧ (countFault a s).stop = s.stop ∧ (countFault a s).ports =
    s.ports ∧ (countFault a s).fns = s.fns ∧ (countFault a s).ctls = s.ctls ∧ (countFault a s).cache = s.cache ∧ (countFault a s).reads
    = s.reads ∧ (countFault a s).decks = s.decks ∧ (countFault a s).gauge = s.gauge ∧ (countFault a s).vault = s.vault ∧ (countFault a
    s).fabric = s.fabric ∧ (countFault a s).sched = s.sched ∧ (countFault a s).feats = s.feats ∧ (countFault a s).members = s.members ∧
    (countFault a s).trust = s.trust ∧ (countFault a s).now = s.now ∧ (countFault a s).freeCtr = s.freeCtr ∧ (countFault a s).out =
    s.out ∧ (countFault a s).pending = s.pending := by simp [countFault]

/-- `testRaw` changes `guard`, `freeCtr` only. -/
@[simp] theorem testRaw_frame (s : State) :
    (testRaw s).mode = s.mode ∧ (testRaw s).power = s.power ∧ (testRaw s).stop = s.stop ∧ (testRaw s).recorder = s.recorder ∧ (testRaw
    s).ports = s.ports ∧ (testRaw s).fns = s.fns ∧ (testRaw s).ctls = s.ctls ∧ (testRaw s).cache = s.cache ∧ (testRaw s).reads = s.reads
    ∧ (testRaw s).decks = s.decks ∧ (testRaw s).gauge = s.gauge ∧ (testRaw s).vault = s.vault ∧ (testRaw s).fabric = s.fabric ∧ (testRaw
    s).sched = s.sched ∧ (testRaw s).feats = s.feats ∧ (testRaw s).members = s.members ∧ (testRaw s).trust = s.trust ∧ (testRaw s).now =
    s.now ∧ (testRaw s).out = s.out ∧ (testRaw s).pending = s.pending := by simp [testRaw]

/-- `withOp` changes `guard` only. -/
@[simp] theorem withOp_frame (op : Nat) (s : State) :
    (withOp op s).mode = s.mode ∧ (withOp op s).power = s.power ∧ (withOp op s).stop = s.stop ∧ (withOp op s).recorder = s.recorder ∧
    (withOp op s).ports = s.ports ∧ (withOp op s).fns = s.fns ∧ (withOp op s).ctls = s.ctls ∧ (withOp op s).cache = s.cache ∧ (withOp op
    s).reads = s.reads ∧ (withOp op s).decks = s.decks ∧ (withOp op s).gauge = s.gauge ∧ (withOp op s).vault = s.vault ∧ (withOp op
    s).fabric = s.fabric ∧ (withOp op s).sched = s.sched ∧ (withOp op s).feats = s.feats ∧ (withOp op s).members = s.members ∧ (withOp
    op s).trust = s.trust ∧ (withOp op s).now = s.now ∧ (withOp op s).freeCtr = s.freeCtr ∧ (withOp op s).out = s.out ∧ (withOp op
    s).pending = s.pending := by simp [withOp]

/-- `takeTestFrames` changes `cache`, `guard` only. -/
@[simp] theorem takeTestFrames_frame (s : State) :
    (takeTestFrames s).mode = s.mode ∧ (takeTestFrames s).power = s.power ∧ (takeTestFrames s).stop = s.stop ∧ (takeTestFrames
    s).recorder = s.recorder ∧ (takeTestFrames s).ports = s.ports ∧ (takeTestFrames s).fns = s.fns ∧ (takeTestFrames s).ctls = s.ctls ∧
    (takeTestFrames s).reads = s.reads ∧ (takeTestFrames s).decks = s.decks ∧ (takeTestFrames s).gauge = s.gauge ∧ (takeTestFrames
    s).vault = s.vault ∧ (takeTestFrames s).fabric = s.fabric ∧ (takeTestFrames s).sched = s.sched ∧ (takeTestFrames s).feats = s.feats
    ∧ (takeTestFrames s).members = s.members ∧ (takeTestFrames s).trust = s.trust ∧ (takeTestFrames s).now = s.now ∧ (takeTestFrames
    s).freeCtr = s.freeCtr ∧ (takeTestFrames s).out = s.out ∧ (takeTestFrames s).pending = s.pending := by
  simp only [takeTestFrames]
  (repeat' split) <;> (first | rfl | simp (disch := (intros; (try dsimp only); (repeat' split) <;> (first | rfl | simp | skip))))

/-- `dropTestFrames` changes `cache`, `guard` only. -/
@[simp] theorem dropTestFrames_frame (s : State) :
    (dropTestFrames s).mode = s.mode ∧ (dropTestFrames s).power = s.power ∧ (dropTestFrames s).stop = s.stop ∧ (dropTestFrames
    s).recorder = s.recorder ∧ (dropTestFrames s).ports = s.ports ∧ (dropTestFrames s).fns = s.fns ∧ (dropTestFrames s).ctls = s.ctls ∧
    (dropTestFrames s).reads = s.reads ∧ (dropTestFrames s).decks = s.decks ∧ (dropTestFrames s).gauge = s.gauge ∧ (dropTestFrames
    s).vault = s.vault ∧ (dropTestFrames s).fabric = s.fabric ∧ (dropTestFrames s).sched = s.sched ∧ (dropTestFrames s).feats = s.feats
    ∧ (dropTestFrames s).members = s.members ∧ (dropTestFrames s).trust = s.trust ∧ (dropTestFrames s).now = s.now ∧ (dropTestFrames
    s).freeCtr = s.freeCtr ∧ (dropTestFrames s).out = s.out ∧ (dropTestFrames s).pending = s.pending := by simp [dropTestFrames]

/-- `testWrite` changes `guard` only. -/
@[simp] theorem testWrite_frame (s : State) :
    (testWrite s).mode = s.mode ∧ (testWrite s).power = s.power ∧ (testWrite s).stop = s.stop ∧ (testWrite s).recorder = s.recorder ∧
    (testWrite s).ports = s.ports ∧ (testWrite s).fns = s.fns ∧ (testWrite s).ctls = s.ctls ∧ (testWrite s).cache = s.cache ∧ (testWrite
    s).reads = s.reads ∧ (testWrite s).decks = s.decks ∧ (testWrite s).gauge = s.gauge ∧ (testWrite s).vault = s.vault ∧ (testWrite
    s).fabric = s.fabric ∧ (testWrite s).sched = s.sched ∧ (testWrite s).feats = s.feats ∧ (testWrite s).members = s.members ∧
    (testWrite s).trust = s.trust ∧ (testWrite s).now = s.now ∧ (testWrite s).freeCtr = s.freeCtr ∧ (testWrite s).out = s.out ∧
    (testWrite s).pending = s.pending := by simp [testWrite]

/-- `armFinj` changes `recorder`, `guard` only. -/
@[simp] theorem armFinj_frame (d : FinjDesc) (s : State) :
    (armFinj d s).mode = s.mode ∧ (armFinj d s).power = s.power ∧ (armFinj d s).stop = s.stop ∧ (armFinj d s).ports = s.ports ∧ (armFinj
    d s).fns = s.fns ∧ (armFinj d s).ctls = s.ctls ∧ (armFinj d s).cache = s.cache ∧ (armFinj d s).reads = s.reads ∧ (armFinj d s).decks
    = s.decks ∧ (armFinj d s).gauge = s.gauge ∧ (armFinj d s).vault = s.vault ∧ (armFinj d s).fabric = s.fabric ∧ (armFinj d s).sched =
    s.sched ∧ (armFinj d s).feats = s.feats ∧ (armFinj d s).members = s.members ∧ (armFinj d s).trust = s.trust ∧ (armFinj d s).now =
    s.now ∧ (armFinj d s).freeCtr = s.freeCtr ∧ (armFinj d s).out = s.out ∧ (armFinj d s).pending = s.pending := by simp [armFinj]

/-- `injectFlit` changes `recorder`, `guard` only. -/
@[simp] theorem injectFlit_frame (link : Nat) (sub : Nat) (s : State) :
    (injectFlit link sub s).mode = s.mode ∧ (injectFlit link sub s).power = s.power ∧ (injectFlit link sub s).stop = s.stop ∧
    (injectFlit link sub s).ports = s.ports ∧ (injectFlit link sub s).fns = s.fns ∧ (injectFlit link sub s).ctls = s.ctls ∧ (injectFlit
    link sub s).cache = s.cache ∧ (injectFlit link sub s).reads = s.reads ∧ (injectFlit link sub s).decks = s.decks ∧ (injectFlit link
    sub s).gauge = s.gauge ∧ (injectFlit link sub s).vault = s.vault ∧ (injectFlit link sub s).fabric = s.fabric ∧ (injectFlit link sub
    s).sched = s.sched ∧ (injectFlit link sub s).feats = s.feats ∧ (injectFlit link sub s).members = s.members ∧ (injectFlit link sub
    s).trust = s.trust ∧ (injectFlit link sub s).now = s.now ∧ (injectFlit link sub s).freeCtr = s.freeCtr ∧ (injectFlit link sub s).out
    = s.out ∧ (injectFlit link sub s).pending = s.pending := by
  simp only [injectFlit]
  (repeat' split) <;> (first | rfl | simp)

/-- `noteTest` changes `recorder` only. -/
@[simp] theorem noteTest_frame (op : Nat) (s : State) :
    (noteTest op s).mode = s.mode ∧ (noteTest op s).power = s.power ∧ (noteTest op s).stop = s.stop ∧ (noteTest op s).ports = s.ports ∧
    (noteTest op s).fns = s.fns ∧ (noteTest op s).ctls = s.ctls ∧ (noteTest op s).cache = s.cache ∧ (noteTest op s).reads = s.reads ∧
    (noteTest op s).decks = s.decks ∧ (noteTest op s).gauge = s.gauge ∧ (noteTest op s).vault = s.vault ∧ (noteTest op s).fabric =
    s.fabric ∧ (noteTest op s).sched = s.sched ∧ (noteTest op s).feats = s.feats ∧ (noteTest op s).members = s.members ∧ (noteTest op
    s).guard = s.guard ∧ (noteTest op s).trust = s.trust ∧ (noteTest op s).now = s.now ∧ (noteTest op s).freeCtr = s.freeCtr ∧ (noteTest
    op s).out = s.out ∧ (noteTest op s).pending = s.pending := by simp [noteTest]

/-- `testRead` changes `guard`, `freeCtr` only. -/
@[simp] theorem testRead_frame (s : State) :
    (testRead s).mode = s.mode ∧ (testRead s).power = s.power ∧ (testRead s).stop = s.stop ∧ (testRead s).recorder = s.recorder ∧
    (testRead s).ports = s.ports ∧ (testRead s).fns = s.fns ∧ (testRead s).ctls = s.ctls ∧ (testRead s).cache = s.cache ∧ (testRead
    s).reads = s.reads ∧ (testRead s).decks = s.decks ∧ (testRead s).gauge = s.gauge ∧ (testRead s).vault = s.vault ∧ (testRead
    s).fabric = s.fabric ∧ (testRead s).sched = s.sched ∧ (testRead s).feats = s.feats ∧ (testRead s).members = s.members ∧ (testRead
    s).trust = s.trust ∧ (testRead s).now = s.now ∧ (testRead s).out = s.out ∧ (testRead s).pending = s.pending := by simp [testRead]

/-- `flitFault` changes `recorder`, `guard` only. -/
@[simp] theorem flitFault_frame (link : Nat) (dir : Nat) (sub : Nat) (s : State) :
    (flitFault link dir sub s).2.mode = s.mode ∧ (flitFault link dir sub s).2.power = s.power ∧ (flitFault link dir sub s).2.stop =
    s.stop ∧ (flitFault link dir sub s).2.ports = s.ports ∧ (flitFault link dir sub s).2.fns = s.fns ∧ (flitFault link dir sub s).2.ctls
    = s.ctls ∧ (flitFault link dir sub s).2.cache = s.cache ∧ (flitFault link dir sub s).2.reads = s.reads ∧ (flitFault link dir sub
    s).2.decks = s.decks ∧ (flitFault link dir sub s).2.gauge = s.gauge ∧ (flitFault link dir sub s).2.vault = s.vault ∧ (flitFault link
    dir sub s).2.fabric = s.fabric ∧ (flitFault link dir sub s).2.sched = s.sched ∧ (flitFault link dir sub s).2.feats = s.feats ∧
    (flitFault link dir sub s).2.members = s.members ∧ (flitFault link dir sub s).2.trust = s.trust ∧ (flitFault link dir sub s).2.now =
    s.now ∧ (flitFault link dir sub s).2.freeCtr = s.freeCtr ∧ (flitFault link dir sub s).2.out = s.out ∧ (flitFault link dir sub
    s).2.pending = s.pending := by
  simp only [flitFault]
  (repeat' split) <;> (first | rfl | simp)

/-- `testFlip` changes `guard` only. -/
@[simp] theorem testFlip_frame (s : State) :
    (testFlip s).mode = s.mode ∧ (testFlip s).power = s.power ∧ (testFlip s).stop = s.stop ∧ (testFlip s).recorder = s.recorder ∧
    (testFlip s).ports = s.ports ∧ (testFlip s).fns = s.fns ∧ (testFlip s).ctls = s.ctls ∧ (testFlip s).cache = s.cache ∧ (testFlip
    s).reads = s.reads ∧ (testFlip s).decks = s.decks ∧ (testFlip s).gauge = s.gauge ∧ (testFlip s).vault = s.vault ∧ (testFlip
    s).fabric = s.fabric ∧ (testFlip s).sched = s.sched ∧ (testFlip s).feats = s.feats ∧ (testFlip s).members = s.members ∧ (testFlip
    s).trust = s.trust ∧ (testFlip s).now = s.now ∧ (testFlip s).freeCtr = s.freeCtr ∧ (testFlip s).out = s.out ∧ (testFlip s).pending =
    s.pending := by
  simp only [testFlip]
  (repeat' split) <;> (first | rfl | simp)

/-- `runTest` changes `recorder`, `guard`, `freeCtr` only. -/
@[simp] theorem runTest_frame (op : Nat) (s : State) :
    (runTest op s).mode = s.mode ∧ (runTest op s).power = s.power ∧ (runTest op s).stop = s.stop ∧ (runTest op s).ports = s.ports ∧
    (runTest op s).fns = s.fns ∧ (runTest op s).ctls = s.ctls ∧ (runTest op s).cache = s.cache ∧ (runTest op s).reads = s.reads ∧
    (runTest op s).decks = s.decks ∧ (runTest op s).gauge = s.gauge ∧ (runTest op s).vault = s.vault ∧ (runTest op s).fabric = s.fabric
    ∧ (runTest op s).sched = s.sched ∧ (runTest op s).feats = s.feats ∧ (runTest op s).members = s.members ∧ (runTest op s).trust =
    s.trust ∧ (runTest op s).now = s.now ∧ (runTest op s).out = s.out ∧ (runTest op s).pending = s.pending := by
  simp only [runTest]
  (repeat' split) <;> (first | rfl | simp)

/-- `testCommand` changes `mode`, `recorder`, `ports`, `guard`, `freeCtr` only. -/
@[simp] theorem testCommand_frame (op : Nat) (s : State) :
    (testCommand op s).power = s.power ∧ (testCommand op s).stop = s.stop ∧ (testCommand op s).fns = s.fns ∧ (testCommand op s).ctls =
    s.ctls ∧ (testCommand op s).cache = s.cache ∧ (testCommand op s).reads = s.reads ∧ (testCommand op s).decks = s.decks ∧ (testCommand
    op s).gauge = s.gauge ∧ (testCommand op s).vault = s.vault ∧ (testCommand op s).fabric = s.fabric ∧ (testCommand op s).sched =
    s.sched ∧ (testCommand op s).feats = s.feats ∧ (testCommand op s).members = s.members ∧ (testCommand op s).trust = s.trust ∧
    (testCommand op s).now = s.now ∧ (testCommand op s).out = s.out ∧ (testCommand op s).pending = s.pending := by simp [testCommand]

end Sys2Proof.Machine
end

