-- ==== Sys2Proof/Laws/Fabric.lean ====
section
/-!
SUPPORT. The frames of the operations of Machine/Fabric.lean: which units of the state each leaves alone.
-/

namespace Sys2Proof.Machine

/-- `noLevel` changes `mode`, `stop`, `recorder`, `ports`, `fns`, `ctls`, `cache`, `reads`, `decks`, `guard`, `out` only. -/
@[simp] theorem noLevel_frame (code : Nat) (detail : Nat) (s : State) :
    (noLevel code detail s).power = s.power ∧ (noLevel code detail s).gauge = s.gauge ∧ (noLevel code detail s).vault = s.vault ∧
    (noLevel code detail s).fabric = s.fabric ∧ (noLevel code detail s).sched = s.sched ∧ (noLevel code detail s).feats = s.feats ∧
    (noLevel code detail s).members = s.members ∧ (noLevel code detail s).trust = s.trust ∧ (noLevel code detail s).now = s.now ∧
    (noLevel code detail s).freeCtr = s.freeCtr ∧ (noLevel code detail s).pending = s.pending := by simp [noLevel]

/-- `reroute` changes `fabric` only. -/
@[simp] theorem reroute_frame (s : State) :
    (reroute s).mode = s.mode ∧ (reroute s).power = s.power ∧ (reroute s).stop = s.stop ∧ (reroute s).recorder = s.recorder ∧ (reroute
    s).ports = s.ports ∧ (reroute s).fns = s.fns ∧ (reroute s).ctls = s.ctls ∧ (reroute s).cache = s.cache ∧ (reroute s).reads = s.reads
    ∧ (reroute s).decks = s.decks ∧ (reroute s).gauge = s.gauge ∧ (reroute s).vault = s.vault ∧ (reroute s).sched = s.sched ∧ (reroute
    s).feats = s.feats ∧ (reroute s).members = s.members ∧ (reroute s).guard = s.guard ∧ (reroute s).trust = s.trust ∧ (reroute s).now =
    s.now ∧ (reroute s).freeCtr = s.freeCtr ∧ (reroute s).out = s.out ∧ (reroute s).pending = s.pending := by simp [reroute]

/-- `dropPorts` changes `recorder`, `members`, `out` only. -/
@[simp] theorem dropPorts_frame (region : Nat) (s : State) :
    (dropPorts region s).mode = s.mode ∧ (dropPorts region s).power = s.power ∧ (dropPorts region s).stop = s.stop ∧ (dropPorts region
    s).ports = s.ports ∧ (dropPorts region s).fns = s.fns ∧ (dropPorts region s).ctls = s.ctls ∧ (dropPorts region s).cache = s.cache ∧
    (dropPorts region s).reads = s.reads ∧ (dropPorts region s).decks = s.decks ∧ (dropPorts region s).gauge = s.gauge ∧ (dropPorts
    region s).vault = s.vault ∧ (dropPorts region s).fabric = s.fabric ∧ (dropPorts region s).sched = s.sched ∧ (dropPorts region
    s).feats = s.feats ∧ (dropPorts region s).guard = s.guard ∧ (dropPorts region s).trust = s.trust ∧ (dropPorts region s).now = s.now
    ∧ (dropPorts region s).freeCtr = s.freeCtr ∧ (dropPorts region s).pending = s.pending := by simp [dropPorts]

/-- `restage` changes `ctls`, `cache` only. -/
@[simp] theorem restage_frame (x : CmdRef × WriteJob) (s : State) :
    (restage x s).mode = s.mode ∧ (restage x s).power = s.power ∧ (restage x s).stop = s.stop ∧ (restage x s).recorder = s.recorder ∧
    (restage x s).ports = s.ports ∧ (restage x s).fns = s.fns ∧ (restage x s).reads = s.reads ∧ (restage x s).decks = s.decks ∧ (restage
    x s).gauge = s.gauge ∧ (restage x s).vault = s.vault ∧ (restage x s).fabric = s.fabric ∧ (restage x s).sched = s.sched ∧ (restage x
    s).feats = s.feats ∧ (restage x s).members = s.members ∧ (restage x s).guard = s.guard ∧ (restage x s).trust = s.trust ∧ (restage x
    s).now = s.now ∧ (restage x s).freeCtr = s.freeCtr ∧ (restage x s).out = s.out ∧ (restage x s).pending = s.pending := by
  simp only [restage]
  (repeat' split) <;> (first | rfl | simp)

/-- `fenceLinks` changes `fabric` only. -/
@[simp] theorem fenceLinks_frame (ls : List Nat) (s : State) :
    (fenceLinks ls s).mode = s.mode ∧ (fenceLinks ls s).power = s.power ∧ (fenceLinks ls s).stop = s.stop ∧ (fenceLinks ls s).recorder =
    s.recorder ∧ (fenceLinks ls s).ports = s.ports ∧ (fenceLinks ls s).fns = s.fns ∧ (fenceLinks ls s).ctls = s.ctls ∧ (fenceLinks ls
    s).cache = s.cache ∧ (fenceLinks ls s).reads = s.reads ∧ (fenceLinks ls s).decks = s.decks ∧ (fenceLinks ls s).gauge = s.gauge ∧
    (fenceLinks ls s).vault = s.vault ∧ (fenceLinks ls s).sched = s.sched ∧ (fenceLinks ls s).feats = s.feats ∧ (fenceLinks ls
    s).members = s.members ∧ (fenceLinks ls s).guard = s.guard ∧ (fenceLinks ls s).trust = s.trust ∧ (fenceLinks ls s).now = s.now ∧
    (fenceLinks ls s).freeCtr = s.freeCtr ∧ (fenceLinks ls s).out = s.out ∧ (fenceLinks ls s).pending = s.pending := by simp [fenceLinks]

/-- `stopBlocks` changes `fabric` only. -/
@[simp] theorem stopBlocks_frame (region : Nat) (s : State) :
    (stopBlocks region s).mode = s.mode ∧ (stopBlocks region s).power = s.power ∧ (stopBlocks region s).stop = s.stop ∧ (stopBlocks
    region s).recorder = s.recorder ∧ (stopBlocks region s).ports = s.ports ∧ (stopBlocks region s).fns = s.fns ∧ (stopBlocks region
    s).ctls = s.ctls ∧ (stopBlocks region s).cache = s.cache ∧ (stopBlocks region s).reads = s.reads ∧ (stopBlocks region s).decks =
    s.decks ∧ (stopBlocks region s).gauge = s.gauge ∧ (stopBlocks region s).vault = s.vault ∧ (stopBlocks region s).sched = s.sched ∧
    (stopBlocks region s).feats = s.feats ∧ (stopBlocks region s).members = s.members ∧ (stopBlocks region s).guard = s.guard ∧
    (stopBlocks region s).trust = s.trust ∧ (stopBlocks region s).now = s.now ∧ (stopBlocks region s).freeCtr = s.freeCtr ∧ (stopBlocks
    region s).out = s.out ∧ (stopBlocks region s).pending = s.pending := by simp [stopBlocks]

/-- `fenceRegion` changes `mode`, `stop`, `recorder`, `ports`, `fns`, `ctls`, `cache`, `reads`, `decks`, `vault`, `fabric`, `members`, `guard`, `freeCtr`, `out` only. -/
@[simp] theorem fenceRegion_frame (region : Nat) (reason : Nat) (s : State) :
    (fenceRegion region reason s).power = s.power ∧ (fenceRegion region reason s).gauge = s.gauge ∧ (fenceRegion region reason s).sched
    = s.sched ∧ (fenceRegion region reason s).feats = s.feats ∧ (fenceRegion region reason s).trust = s.trust ∧ (fenceRegion region
    reason s).now = s.now ∧ (fenceRegion region reason s).pending = s.pending := by simp [fenceRegion]

/-- `moveStreams` changes `fabric`, `out` only. -/
@[simp] theorem moveStreams_frame (region : Nat) (setups : Tbl Nat StreamSetup) (to_ : List Nat) (s : State) :
    (moveStreams region setups to_ s).mode = s.mode ∧ (moveStreams region setups to_ s).power = s.power ∧ (moveStreams region setups to_
    s).stop = s.stop ∧ (moveStreams region setups to_ s).recorder = s.recorder ∧ (moveStreams region setups to_ s).ports = s.ports ∧
    (moveStreams region setups to_ s).fns = s.fns ∧ (moveStreams region setups to_ s).ctls = s.ctls ∧ (moveStreams region setups to_
    s).cache = s.cache ∧ (moveStreams region setups to_ s).reads = s.reads ∧ (moveStreams region setups to_ s).decks = s.decks ∧
    (moveStreams region setups to_ s).gauge = s.gauge ∧ (moveStreams region setups to_ s).vault = s.vault ∧ (moveStreams region setups
    to_ s).sched = s.sched ∧ (moveStreams region setups to_ s).feats = s.feats ∧ (moveStreams region setups to_ s).members = s.members ∧
    (moveStreams region setups to_ s).guard = s.guard ∧ (moveStreams region setups to_ s).trust = s.trust ∧ (moveStreams region setups
    to_ s).now = s.now ∧ (moveStreams region setups to_ s).freeCtr = s.freeCtr ∧ (moveStreams region setups to_ s).pending = s.pending := by
  simp only [moveStreams]
  (repeat' split) <;> (first | rfl | simp (disch := (intros; (try dsimp only); (repeat' split) <;> (first | rfl | simp | skip))))

/-- `quarantineUnit` changes `recorder`, `guard` only. -/
@[simp] theorem quarantineUnit_frame (unit : Nat) (why : Nat) (s : State) :
    (quarantineUnit unit why s).mode = s.mode ∧ (quarantineUnit unit why s).power = s.power ∧ (quarantineUnit unit why s).stop = s.stop
    ∧ (quarantineUnit unit why s).ports = s.ports ∧ (quarantineUnit unit why s).fns = s.fns ∧ (quarantineUnit unit why s).ctls = s.ctls
    ∧ (quarantineUnit unit why s).cache = s.cache ∧ (quarantineUnit unit why s).reads = s.reads ∧ (quarantineUnit unit why s).decks =
    s.decks ∧ (quarantineUnit unit why s).gauge = s.gauge ∧ (quarantineUnit unit why s).vault = s.vault ∧ (quarantineUnit unit why
    s).fabric = s.fabric ∧ (quarantineUnit unit why s).sched = s.sched ∧ (quarantineUnit unit why s).feats = s.feats ∧ (quarantineUnit
    unit why s).members = s.members ∧ (quarantineUnit unit why s).trust = s.trust ∧ (quarantineUnit unit why s).now = s.now ∧
    (quarantineUnit unit why s).freeCtr = s.freeCtr ∧ (quarantineUnit unit why s).out = s.out ∧ (quarantineUnit unit why s).pending =
    s.pending := by simp [quarantineUnit]

/-- `quarantineBlock` changes `mode`, `stop`, `recorder`, `ports`, `fns`, `ctls`, `cache`, `reads`, `decks`, `vault`, `fabric`, `members`, `guard`, `freeCtr`, `out` only. -/
@[simp] theorem quarantineBlock_frame (region : Nat) (block : Nat) (why : Nat) (s : State) :
    (quarantineBlock region block why s).power = s.power ∧ (quarantineBlock region block why s).gauge = s.gauge ∧ (quarantineBlock
    region block why s).sched = s.sched ∧ (quarantineBlock region block why s).feats = s.feats ∧ (quarantineBlock region block why
    s).trust = s.trust ∧ (quarantineBlock region block why s).now = s.now ∧ (quarantineBlock region block why s).pending = s.pending := by simp [quarantineBlock]

/-- `rejectStream` changes `mode`, `stop`, `recorder`, `ports`, `fns`, `ctls`, `cache`, `reads`, `decks`, `vault`, `fabric`, `members`, `guard`, `freeCtr`, `out` only. -/
@[simp] theorem rejectStream_frame (region : Nat) (block : Nat) (stream : Nat) (s : State) :
    (rejectStream region block stream s).power = s.power ∧ (rejectStream region block stream s).gauge = s.gauge ∧ (rejectStream region
    block stream s).sched = s.sched ∧ (rejectStream region block stream s).feats = s.feats ∧ (rejectStream region block stream s).trust
    = s.trust ∧ (rejectStream region block stream s).now = s.now ∧ (rejectStream region block stream s).pending = s.pending := by simp [rejectStream]

/-- `feedOperand` changes `mode`, `stop`, `recorder`, `ports`, `fns`, `ctls`, `cache`, `reads`, `decks`, `vault`, `fabric`, `members`, `guard`, `freeCtr`, `out` only. -/
@[simp] theorem feedOperand_frame (region : Nat) (block : Nat) (o : Operand) (s : State) :
    (feedOperand region block o s).power = s.power ∧ (feedOperand region block o s).gauge = s.gauge ∧ (feedOperand region block o
    s).sched = s.sched ∧ (feedOperand region block o s).feats = s.feats ∧ (feedOperand region block o s).trust = s.trust ∧ (feedOperand
    region block o s).now = s.now ∧ (feedOperand region block o s).pending = s.pending := by
  simp only [feedOperand]
  (repeat' split) <;> (first | rfl | simp)

/-- `feedWaiting` changes `mode`, `stop`, `recorder`, `ports`, `fns`, `ctls`, `cache`, `reads`, `decks`, `vault`, `fabric`, `members`, `guard`, `freeCtr`, `out` only. -/
@[simp] theorem feedWaiting_frame (region : Nat) (block : Nat) (x0 : Nat) (x1 : State) :
    (feedWaiting region block x0 x1).power = x1.power ∧ (feedWaiting region block x0 x1).gauge = x1.gauge ∧ (feedWaiting region block x0
    x1).sched = x1.sched ∧ (feedWaiting region block x0 x1).feats = x1.feats ∧ (feedWaiting region block x0 x1).trust = x1.trust ∧
    (feedWaiting region block x0 x1).now = x1.now ∧ (feedWaiting region block x0 x1).pending = x1.pending := by
  induction x0 generalizing x1 with
  | zero => simp [feedWaiting]
  | succ n ih =>
    simp only [feedWaiting]
    split <;> simp [ih]

/-- `noteOnce` changes `recorder`, `guard` only. -/
@[simp] theorem noteOnce_frame (unit : Nat) (code : Nat) (params : List Nat) (s : State) :
    (noteOnce unit code params s).mode = s.mode ∧ (noteOnce unit code params s).power = s.power ∧ (noteOnce unit code params s).stop =
    s.stop ∧ (noteOnce unit code params s).ports = s.ports ∧ (noteOnce unit code params s).fns = s.fns ∧ (noteOnce unit code params
    s).ctls = s.ctls ∧ (noteOnce unit code params s).cache = s.cache ∧ (noteOnce unit code params s).reads = s.reads ∧ (noteOnce unit
    code params s).decks = s.decks ∧ (noteOnce unit code params s).gauge = s.gauge ∧ (noteOnce unit code params s).vault = s.vault ∧
    (noteOnce unit code params s).fabric = s.fabric ∧ (noteOnce unit code params s).sched = s.sched ∧ (noteOnce unit code params
    s).feats = s.feats ∧ (noteOnce unit code params s).members = s.members ∧ (noteOnce unit code params s).trust = s.trust ∧ (noteOnce
    unit code params s).now = s.now ∧ (noteOnce unit code params s).freeCtr = s.freeCtr ∧ (noteOnce unit code params s).out = s.out ∧
    (noteOnce unit code params s).pending = s.pending := by simp [noteOnce]

/-- `noteResidue` changes `recorder`, `ports`, `fns`, `guard`, `out` only. -/
@[simp] theorem noteResidue_frame (unit : Nat) (stream : Nat) (s : State) :
    (noteResidue unit stream s).mode = s.mode ∧ (noteResidue unit stream s).power = s.power ∧ (noteResidue unit stream s).stop = s.stop
    ∧ (noteResidue unit stream s).ctls = s.ctls ∧ (noteResidue unit stream s).cache = s.cache ∧ (noteResidue unit stream s).reads =
    s.reads ∧ (noteResidue unit stream s).decks = s.decks ∧ (noteResidue unit stream s).gauge = s.gauge ∧ (noteResidue unit stream
    s).vault = s.vault ∧ (noteResidue unit stream s).fabric = s.fabric ∧ (noteResidue unit stream s).sched = s.sched ∧ (noteResidue unit
    stream s).feats = s.feats ∧ (noteResidue unit stream s).members = s.members ∧ (noteResidue unit stream s).trust = s.trust ∧
    (noteResidue unit stream s).now = s.now ∧ (noteResidue unit stream s).freeCtr = s.freeCtr ∧ (noteResidue unit stream s).pending =
    s.pending := by simp [noteResidue]

/-- `retireCell` changes `mode`, `stop`, `recorder`, `ports`, `fns`, `ctls`, `cache`, `reads`, `decks`, `vault`, `fabric`, `members`, `guard`, `freeCtr`, `out` only. -/
@[simp] theorem retireCell_frame (region : Nat) (block : Nat) (cell : Nat) (s : State) :
    (retireCell region block cell s).power = s.power ∧ (retireCell region block cell s).gauge = s.gauge ∧ (retireCell region block cell
    s).sched = s.sched ∧ (retireCell region block cell s).feats = s.feats ∧ (retireCell region block cell s).trust = s.trust ∧
    (retireCell region block cell s).now = s.now ∧ (retireCell region block cell s).pending = s.pending := by simp [retireCell]

/-- `checkCell` changes `mode`, `stop`, `recorder`, `ports`, `fns`, `ctls`, `cache`, `reads`, `decks`, `vault`, `fabric`, `members`, `guard`, `freeCtr`, `out` only. -/
@[simp] theorem checkCell_frame (region : Nat) (block : Nat) (stream : Nat) (c : CellCheck) (s : State) :
    (checkCell region block stream c s).power = s.power ∧ (checkCell region block stream c s).gauge = s.gauge ∧ (checkCell region block
    stream c s).sched = s.sched ∧ (checkCell region block stream c s).feats = s.feats ∧ (checkCell region block stream c s).trust =
    s.trust ∧ (checkCell region block stream c s).now = s.now ∧ (checkCell region block stream c s).pending = s.pending := by
  simp only [checkCell]
  (repeat' split) <;> (first | rfl | simp)

/-- `arrive` changes `mode`, `stop`, `recorder`, `ports`, `fns`, `ctls`, `cache`, `reads`, `decks`, `vault`, `fabric`, `members`, `guard`, `freeCtr`, `out` only. -/
@[simp] theorem arrive_frame (f : Transit) (s : State) :
    (arrive f s).power = s.power ∧ (arrive f s).gauge = s.gauge ∧ (arrive f s).sched = s.sched ∧ (arrive f s).feats = s.feats ∧ (arrive
    f s).trust = s.trust ∧ (arrive f s).now = s.now ∧ (arrive f s).pending = s.pending := by simp [arrive]

/-- `sendFlit` changes `mode`, `stop`, `recorder`, `ports`, `fns`, `ctls`, `cache`, `reads`, `decks`, `vault`, `fabric`, `members`, `guard`, `freeCtr`, `out` only. -/
@[simp] theorem sendFlit_frame (f : Transit) (s : State) :
    (sendFlit f s).power = s.power ∧ (sendFlit f s).gauge = s.gauge ∧ (sendFlit f s).sched = s.sched ∧ (sendFlit f s).feats = s.feats ∧
    (sendFlit f s).trust = s.trust ∧ (sendFlit f s).now = s.now ∧ (sendFlit f s).pending = s.pending := by simp [sendFlit]

/-- `sendHeld` changes `mode`, `stop`, `recorder`, `ports`, `fns`, `ctls`, `cache`, `reads`, `decks`, `vault`, `fabric`, `members`, `guard`, `freeCtr`, `out` only. -/
@[simp] theorem sendHeld_frame (s : State) :
    (sendHeld s).power = s.power ∧ (sendHeld s).gauge = s.gauge ∧ (sendHeld s).sched = s.sched ∧ (sendHeld s).feats = s.feats ∧
    (sendHeld s).trust = s.trust ∧ (sendHeld s).now = s.now ∧ (sendHeld s).pending = s.pending := by simp [sendHeld]

/-- `handleRegionFault` changes `mode`, `stop`, `recorder`, `ports`, `fns`, `ctls`, `cache`, `reads`, `decks`, `vault`, `fabric`, `members`, `guard`, `freeCtr`, `out` only. -/
@[simp] theorem handleRegionFault_frame (region : Nat) (reason : Nat) (s : State) :
    (handleRegionFault region reason s).power = s.power ∧ (handleRegionFault region reason s).gauge = s.gauge ∧ (handleRegionFault
    region reason s).sched = s.sched ∧ (handleRegionFault region reason s).feats = s.feats ∧ (handleRegionFault region reason s).trust =
    s.trust ∧ (handleRegionFault region reason s).now = s.now ∧ (handleRegionFault region reason s).pending = s.pending := by simp [handleRegionFault]

/-- `failHalf` changes `mode`, `stop`, `recorder`, `ports`, `fns`, `ctls`, `cache`, `reads`, `decks`, `guard`, `freeCtr`, `out` only. -/
@[simp] theorem failHalf_frame (half : Nat) (s : State) :
    (failHalf half s).power = s.power ∧ (failHalf half s).gauge = s.gauge ∧ (failHalf half s).vault = s.vault ∧ (failHalf half s).fabric
    = s.fabric ∧ (failHalf half s).sched = s.sched ∧ (failHalf half s).feats = s.feats ∧ (failHalf half s).members = s.members ∧
    (failHalf half s).trust = s.trust ∧ (failHalf half s).now = s.now ∧ (failHalf half s).pending = s.pending := by simp [failHalf]

/-- `fenceRing` changes `mode`, `stop`, `recorder`, `ports`, `fns`, `ctls`, `cache`, `reads`, `decks`, `vault`, `fabric`, `members`, `guard`, `freeCtr`, `out` only. -/
@[simp] theorem fenceRing_frame (link : Nat) (s : State) :
    (fenceRing link s).power = s.power ∧ (fenceRing link s).gauge = s.gauge ∧ (fenceRing link s).sched = s.sched ∧ (fenceRing link
    s).feats = s.feats ∧ (fenceRing link s).trust = s.trust ∧ (fenceRing link s).now = s.now ∧ (fenceRing link s).pending = s.pending := by
  simp only [fenceRing]
  (repeat' split) <;> (first | rfl | simp)

/-- `stallLink` changes `mode`, `stop`, `recorder`, `ports`, `fns`, `ctls`, `cache`, `reads`, `decks`, `vault`, `fabric`, `members`, `guard`, `freeCtr`, `out` only. -/
@[simp] theorem stallLink_frame (link : Nat) (s : State) :
    (stallLink link s).power = s.power ∧ (stallLink link s).gauge = s.gauge ∧ (stallLink link s).sched = s.sched ∧ (stallLink link
    s).feats = s.feats ∧ (stallLink link s).trust = s.trust ∧ (stallLink link s).now = s.now ∧ (stallLink link s).pending = s.pending := by simp [stallLink]

/-- `handleGlildoLinkStall` changes `mode`, `stop`, `recorder`, `ports`, `fns`, `ctls`, `cache`, `reads`, `decks`, `vault`, `fabric`, `members`, `guard`, `freeCtr`, `out` only. -/
@[simp] theorem handleGlildoLinkStall_frame (link : Nat) (s : State) :
    (handleGlildoLinkStall link s).power = s.power ∧ (handleGlildoLinkStall link s).gauge = s.gauge ∧ (handleGlildoLinkStall link
    s).sched = s.sched ∧ (handleGlildoLinkStall link s).feats = s.feats ∧ (handleGlildoLinkStall link s).trust = s.trust ∧
    (handleGlildoLinkStall link s).now = s.now ∧ (handleGlildoLinkStall link s).pending = s.pending := by simp [handleGlildoLinkStall]

/-- `failEngine` changes `mode`, `stop`, `recorder`, `ports`, `fns`, `ctls`, `cache`, `reads`, `decks`, `guard`, `freeCtr`, `out` only. -/
@[simp] theorem failEngine_frame (half : Nat) (s : State) :
    (failEngine half s).power = s.power ∧ (failEngine half s).gauge = s.gauge ∧ (failEngine half s).vault = s.vault ∧ (failEngine half
    s).fabric = s.fabric ∧ (failEngine half s).sched = s.sched ∧ (failEngine half s).feats = s.feats ∧ (failEngine half s).members =
    s.members ∧ (failEngine half s).trust = s.trust ∧ (failEngine half s).now = s.now ∧ (failEngine half s).pending = s.pending := by simp [failEngine]

/-- `failCommon` changes `mode`, `stop`, `recorder`, `ports`, `fns`, `ctls`, `cache`, `reads`, `decks`, `guard`, `freeCtr`, `out` only. -/
@[simp] theorem failCommon_frame (unit : Nat) (s : State) :
    (failCommon unit s).power = s.power ∧ (failCommon unit s).gauge = s.gauge ∧ (failCommon unit s).vault = s.vault ∧ (failCommon unit
    s).fabric = s.fabric ∧ (failCommon unit s).sched = s.sched ∧ (failCommon unit s).feats = s.feats ∧ (failCommon unit s).members =
    s.members ∧ (failCommon unit s).trust = s.trust ∧ (failCommon unit s).now = s.now ∧ (failCommon unit s).pending = s.pending := by simp [failCommon]

/-- `spareSublink` changes `mode`, `stop`, `recorder`, `ports`, `fns`, `ctls`, `cache`, `reads`, `decks`, `vault`, `fabric`, `members`, `guard`, `freeCtr`, `out` only. -/
@[simp] theorem spareSublink_frame (link : Nat) (sub : Nat) (injected : Bool) (s : State) :
    (spareSublink link sub injected s).power = s.power ∧ (spareSublink link sub injected s).gauge = s.gauge ∧ (spareSublink link sub
    injected s).sched = s.sched ∧ (spareSublink link sub injected s).feats = s.feats ∧ (spareSublink link sub injected s).trust =
    s.trust ∧ (spareSublink link sub injected s).now = s.now ∧ (spareSublink link sub injected s).pending = s.pending := by simp [spareSublink]

/-- `failFlit` changes `mode`, `stop`, `recorder`, `ports`, `fns`, `ctls`, `cache`, `reads`, `decks`, `vault`, `fabric`, `members`, `guard`, `freeCtr`, `out` only. -/
@[simp] theorem failFlit_frame (link : Nat) (sub : Nat) (injected : Bool) (s : State) :
    (failFlit link sub injected s).power = s.power ∧ (failFlit link sub injected s).gauge = s.gauge ∧ (failFlit link sub injected
    s).sched = s.sched ∧ (failFlit link sub injected s).feats = s.feats ∧ (failFlit link sub injected s).trust = s.trust ∧ (failFlit
    link sub injected s).now = s.now ∧ (failFlit link sub injected s).pending = s.pending := by simp [failFlit]

/-- `crossFault` changes `mode`, `stop`, `recorder`, `ports`, `fns`, `ctls`, `cache`, `reads`, `decks`, `vault`, `fabric`, `members`, `guard`, `freeCtr`, `out` only. -/
@[simp] theorem crossFault_frame (stream : Nat) (l : Nat × Bool) (s : State) :
    (crossFault stream l s).power = s.power ∧ (crossFault stream l s).gauge = s.gauge ∧ (crossFault stream l s).sched = s.sched ∧
    (crossFault stream l s).feats = s.feats ∧ (crossFault stream l s).trust = s.trust ∧ (crossFault stream l s).now = s.now ∧
    (crossFault stream l s).pending = s.pending := by
  simp only [crossFault]
  (repeat' split) <;> (first | rfl | simp)

/-- `quarantineSource` changes `mode`, `power`, `stop`, `recorder`, `ports`, `fns`, `ctls`, `cache`, `reads`, `decks`, `gauge`, `vault`, `fabric`, `members`, `guard`, `freeCtr`, `out` only. -/
@[simp] theorem quarantineSource_frame (source : Nat) (s : State) :
    (quarantineSource source s).sched = s.sched ∧ (quarantineSource source s).feats = s.feats ∧ (quarantineSource source s).trust =
    s.trust ∧ (quarantineSource source s).now = s.now ∧ (quarantineSource source s).pending = s.pending := by simp [quarantineSource]

end Sys2Proof.Machine
end

