-- ==== Sys2Proof/Laws/Trust.lean ====
section
/-!
SUPPORT. The frames of the operations of Machine/Trust.lean: which units of the state each leaves alone.
-/

namespace Sys2Proof.Machine

/-- `putImage` changes `trust` only. -/
@[simp] theorem putImage_frame (slot : Nat) (i : Option FwImage) (s : State) :
    (putImage slot i s).mode = s.mode ∧ (putImage slot i s).power = s.power ∧ (putImage slot i s).stop = s.stop ∧ (putImage slot i
    s).recorder = s.recorder ∧ (putImage slot i s).ports = s.ports ∧ (putImage slot i s).fns = s.fns ∧ (putImage slot i s).ctls = s.ctls
    ∧ (putImage slot i s).cache = s.cache ∧ (putImage slot i s).reads = s.reads ∧ (putImage slot i s).decks = s.decks ∧ (putImage slot i
    s).gauge = s.gauge ∧ (putImage slot i s).vault = s.vault ∧ (putImage slot i s).fabric = s.fabric ∧ (putImage slot i s).sched =
    s.sched ∧ (putImage slot i s).feats = s.feats ∧ (putImage slot i s).members = s.members ∧ (putImage slot i s).guard = s.guard ∧
    (putImage slot i s).now = s.now ∧ (putImage slot i s).freeCtr = s.freeCtr ∧ (putImage slot i s).out = s.out ∧ (putImage slot i
    s).pending = s.pending := by simp [putImage]

/-- `doeAnswer` changes `fns` only. -/
@[simp] theorem doeAnswer_frame (fn : Nat) (protocol : Nat) (content : Bytes) (s : State) :
    (doeAnswer fn protocol content s).mode = s.mode ∧ (doeAnswer fn protocol content s).power = s.power ∧ (doeAnswer fn protocol content
    s).stop = s.stop ∧ (doeAnswer fn protocol content s).recorder = s.recorder ∧ (doeAnswer fn protocol content s).ports = s.ports ∧
    (doeAnswer fn protocol content s).ctls = s.ctls ∧ (doeAnswer fn protocol content s).cache = s.cache ∧ (doeAnswer fn protocol content
    s).reads = s.reads ∧ (doeAnswer fn protocol content s).decks = s.decks ∧ (doeAnswer fn protocol content s).gauge = s.gauge ∧
    (doeAnswer fn protocol content s).vault = s.vault ∧ (doeAnswer fn protocol content s).fabric = s.fabric ∧ (doeAnswer fn protocol
    content s).sched = s.sched ∧ (doeAnswer fn protocol content s).feats = s.feats ∧ (doeAnswer fn protocol content s).members =
    s.members ∧ (doeAnswer fn protocol content s).guard = s.guard ∧ (doeAnswer fn protocol content s).trust = s.trust ∧ (doeAnswer fn
    protocol content s).now = s.now ∧ (doeAnswer fn protocol content s).freeCtr = s.freeCtr ∧ (doeAnswer fn protocol content s).out =
    s.out ∧ (doeAnswer fn protocol content s).pending = s.pending := by simp [doeAnswer]

/-- `noteLow` changes `recorder`, `trust` only. -/
@[simp] theorem noteLow_frame (s : State) :
    (noteLow s).mode = s.mode ∧ (noteLow s).power = s.power ∧ (noteLow s).stop = s.stop ∧ (noteLow s).ports = s.ports ∧ (noteLow s).fns
    = s.fns ∧ (noteLow s).ctls = s.ctls ∧ (noteLow s).cache = s.cache ∧ (noteLow s).reads = s.reads ∧ (noteLow s).decks = s.decks ∧
    (noteLow s).gauge = s.gauge ∧ (noteLow s).vault = s.vault ∧ (noteLow s).fabric = s.fabric ∧ (noteLow s).sched = s.sched ∧ (noteLow
    s).feats = s.feats ∧ (noteLow s).members = s.members ∧ (noteLow s).guard = s.guard ∧ (noteLow s).now = s.now ∧ (noteLow s).freeCtr =
    s.freeCtr ∧ (noteLow s).out = s.out ∧ (noteLow s).pending = s.pending := by simp [noteLow]

/-- `openSegment` changes `recorder`, `trust` only. -/
@[simp] theorem openSegment_frame (s : State) :
    (openSegment s).1.mode = s.mode ∧ (openSegment s).1.power = s.power ∧ (openSegment s).1.stop = s.stop ∧ (openSegment s).1.ports =
    s.ports ∧ (openSegment s).1.fns = s.fns ∧ (openSegment s).1.ctls = s.ctls ∧ (openSegment s).1.cache = s.cache ∧ (openSegment
    s).1.reads = s.reads ∧ (openSegment s).1.decks = s.decks ∧ (openSegment s).1.gauge = s.gauge ∧ (openSegment s).1.vault = s.vault ∧
    (openSegment s).1.fabric = s.fabric ∧ (openSegment s).1.sched = s.sched ∧ (openSegment s).1.feats = s.feats ∧ (openSegment
    s).1.members = s.members ∧ (openSegment s).1.guard = s.guard ∧ (openSegment s).1.now = s.now ∧ (openSegment s).1.freeCtr = s.freeCtr
    ∧ (openSegment s).1.out = s.out ∧ (openSegment s).1.pending = s.pending := by
  simp only [openSegment]
  (repeat' split) <;> (first | rfl | simp)

/-- `programEntry` changes `recorder`, `trust` only. -/
@[simp] theorem programEntry_frame (e : HwEntry) (s : State) :
    (programEntry e s).mode = s.mode ∧ (programEntry e s).power = s.power ∧ (programEntry e s).stop = s.stop ∧ (programEntry e s).ports
    = s.ports ∧ (programEntry e s).fns = s.fns ∧ (programEntry e s).ctls = s.ctls ∧ (programEntry e s).cache = s.cache ∧ (programEntry e
    s).reads = s.reads ∧ (programEntry e s).decks = s.decks ∧ (programEntry e s).gauge = s.gauge ∧ (programEntry e s).vault = s.vault ∧
    (programEntry e s).fabric = s.fabric ∧ (programEntry e s).sched = s.sched ∧ (programEntry e s).feats = s.feats ∧ (programEntry e
    s).members = s.members ∧ (programEntry e s).guard = s.guard ∧ (programEntry e s).now = s.now ∧ (programEntry e s).freeCtr =
    s.freeCtr ∧ (programEntry e s).out = s.out ∧ (programEntry e s).pending = s.pending := by simp [programEntry]

/-- `roomFor` changes `recorder`, `trust` only. -/
@[simp] theorem roomFor_frame (units : Nat) (s : State) :
    (roomFor units s).mode = s.mode ∧ (roomFor units s).power = s.power ∧ (roomFor units s).stop = s.stop ∧ (roomFor units s).ports =
    s.ports ∧ (roomFor units s).fns = s.fns ∧ (roomFor units s).ctls = s.ctls ∧ (roomFor units s).cache = s.cache ∧ (roomFor units
    s).reads = s.reads ∧ (roomFor units s).decks = s.decks ∧ (roomFor units s).gauge = s.gauge ∧ (roomFor units s).vault = s.vault ∧
    (roomFor units s).fabric = s.fabric ∧ (roomFor units s).sched = s.sched ∧ (roomFor units s).feats = s.feats ∧ (roomFor units
    s).members = s.members ∧ (roomFor units s).guard = s.guard ∧ (roomFor units s).now = s.now ∧ (roomFor units s).freeCtr = s.freeCtr ∧
    (roomFor units s).out = s.out ∧ (roomFor units s).pending = s.pending := by
  simp only [roomFor]
  (repeat' split) <;> (first | rfl | simp)

/-- `programHeld` changes `recorder`, `trust` only. -/
@[simp] theorem programHeld_frame (s : State) :
    (programHeld s).mode = s.mode ∧ (programHeld s).power = s.power ∧ (programHeld s).stop = s.stop ∧ (programHeld s).ports = s.ports ∧
    (programHeld s).fns = s.fns ∧ (programHeld s).ctls = s.ctls ∧ (programHeld s).cache = s.cache ∧ (programHeld s).reads = s.reads ∧
    (programHeld s).decks = s.decks ∧ (programHeld s).gauge = s.gauge ∧ (programHeld s).vault = s.vault ∧ (programHeld s).fabric =
    s.fabric ∧ (programHeld s).sched = s.sched ∧ (programHeld s).feats = s.feats ∧ (programHeld s).members = s.members ∧ (programHeld
    s).guard = s.guard ∧ (programHeld s).now = s.now ∧ (programHeld s).freeCtr = s.freeCtr ∧ (programHeld s).out = s.out ∧ (programHeld
    s).pending = s.pending := by
  simp only [programHeld]
  (repeat' split) <;> (first | rfl | simp)

/-- `putSlots` changes `trust` only. -/
@[simp] theorem putSlots_frame (active : Nat) (pending : Nat) (s : State) :
    (putSlots active pending s).mode = s.mode ∧ (putSlots active pending s).power = s.power ∧ (putSlots active pending s).stop = s.stop
    ∧ (putSlots active pending s).recorder = s.recorder ∧ (putSlots active pending s).ports = s.ports ∧ (putSlots active pending s).fns
    = s.fns ∧ (putSlots active pending s).ctls = s.ctls ∧ (putSlots active pending s).cache = s.cache ∧ (putSlots active pending
    s).reads = s.reads ∧ (putSlots active pending s).decks = s.decks ∧ (putSlots active pending s).gauge = s.gauge ∧ (putSlots active
    pending s).vault = s.vault ∧ (putSlots active pending s).fabric = s.fabric ∧ (putSlots active pending s).sched = s.sched ∧ (putSlots
    active pending s).feats = s.feats ∧ (putSlots active pending s).members = s.members ∧ (putSlots active pending s).guard = s.guard ∧
    (putSlots active pending s).now = s.now ∧ (putSlots active pending s).freeCtr = s.freeCtr ∧ (putSlots active pending s).out = s.out
    ∧ (putSlots active pending s).pending = s.pending := by simp [putSlots]

/-- `bootSlot` changes `recorder`, `trust` only. -/
@[simp] theorem bootSlot_frame (slot : Nat) (first : Nat) (s : State) :
    (bootSlot slot first s).mode = s.mode ∧ (bootSlot slot first s).power = s.power ∧ (bootSlot slot first s).stop = s.stop ∧ (bootSlot
    slot first s).ports = s.ports ∧ (bootSlot slot first s).fns = s.fns ∧ (bootSlot slot first s).ctls = s.ctls ∧ (bootSlot slot first
    s).cache = s.cache ∧ (bootSlot slot first s).reads = s.reads ∧ (bootSlot slot first s).decks = s.decks ∧ (bootSlot slot first
    s).gauge = s.gauge ∧ (bootSlot slot first s).vault = s.vault ∧ (bootSlot slot first s).fabric = s.fabric ∧ (bootSlot slot first
    s).sched = s.sched ∧ (bootSlot slot first s).feats = s.feats ∧ (bootSlot slot first s).members = s.members ∧ (bootSlot slot first
    s).guard = s.guard ∧ (bootSlot slot first s).now = s.now ∧ (bootSlot slot first s).freeCtr = s.freeCtr ∧ (bootSlot slot first s).out
    = s.out ∧ (bootSlot slot first s).pending = s.pending := by simp [bootSlot]

/-- `handleEvent` changes `mode`, `stop`, `recorder`, `ports`, `fns`, `ctls`, `cache`, `reads`, `decks`, `vault`, `fabric`, `members`, `guard`, `trust`, `freeCtr`, `out` only. -/
@[simp] theorem handleEvent_frame (i : DeferredEvent) (s : State) :
    (handleEvent i s).power = s.power ∧ (handleEvent i s).gauge = s.gauge ∧ (handleEvent i s).sched = s.sched ∧ (handleEvent i s).feats
    = s.feats ∧ (handleEvent i s).now = s.now ∧ (handleEvent i s).pending = s.pending := by
  simp only [handleEvent]
  (repeat' split) <;> (first | rfl | simp)

/-- `answerSpdm` changes `fns`, `out` only. -/
@[simp] theorem answerSpdm_frame (fn : Nat) (code : Nat) (data : Bytes) (s : State) :
    (answerSpdm fn code data s).mode = s.mode ∧ (answerSpdm fn code data s).power = s.power ∧ (answerSpdm fn code data s).stop = s.stop
    ∧ (answerSpdm fn code data s).recorder = s.recorder ∧ (answerSpdm fn code data s).ports = s.ports ∧ (answerSpdm fn code data s).ctls
    = s.ctls ∧ (answerSpdm fn code data s).cache = s.cache ∧ (answerSpdm fn code data s).reads = s.reads ∧ (answerSpdm fn code data
    s).decks = s.decks ∧ (answerSpdm fn code data s).gauge = s.gauge ∧ (answerSpdm fn code data s).vault = s.vault ∧ (answerSpdm fn code
    data s).fabric = s.fabric ∧ (answerSpdm fn code data s).sched = s.sched ∧ (answerSpdm fn code data s).feats = s.feats ∧ (answerSpdm
    fn code data s).members = s.members ∧ (answerSpdm fn code data s).guard = s.guard ∧ (answerSpdm fn code data s).trust = s.trust ∧
    (answerSpdm fn code data s).now = s.now ∧ (answerSpdm fn code data s).freeCtr = s.freeCtr ∧ (answerSpdm fn code data s).pending =
    s.pending := by simp [answerSpdm]

/-- `spdmError` changes `fns`, `out` only. -/
@[simp] theorem spdmError_frame (fn : Nat) (err : Nat) (s : State) :
    (spdmError fn err s).mode = s.mode ∧ (spdmError fn err s).power = s.power ∧ (spdmError fn err s).stop = s.stop ∧ (spdmError fn err
    s).recorder = s.recorder ∧ (spdmError fn err s).ports = s.ports ∧ (spdmError fn err s).ctls = s.ctls ∧ (spdmError fn err s).cache =
    s.cache ∧ (spdmError fn err s).reads = s.reads ∧ (spdmError fn err s).decks = s.decks ∧ (spdmError fn err s).gauge = s.gauge ∧
    (spdmError fn err s).vault = s.vault ∧ (spdmError fn err s).fabric = s.fabric ∧ (spdmError fn err s).sched = s.sched ∧ (spdmError fn
    err s).feats = s.feats ∧ (spdmError fn err s).members = s.members ∧ (spdmError fn err s).guard = s.guard ∧ (spdmError fn err
    s).trust = s.trust ∧ (spdmError fn err s).now = s.now ∧ (spdmError fn err s).freeCtr = s.freeCtr ∧ (spdmError fn err s).pending =
    s.pending := by simp [spdmError]

/-- `handOver` changes `mode`, `stop`, `recorder`, `ports`, `fns`, `ctls`, `cache`, `reads`, `decks`, `vault`, `fabric`, `members`, `guard`, `trust`, `freeCtr`, `out` only. -/
@[simp] theorem handOver_frame (s : State) :
    (handOver s).power = s.power ∧ (handOver s).gauge = s.gauge ∧ (handOver s).sched = s.sched ∧ (handOver s).feats = s.feats ∧
    (handOver s).now = s.now ∧ (handOver s).pending = s.pending := by simp [handOver]

/-- `wasteUnit` changes `recorder`, `trust` only. -/
@[simp] theorem wasteUnit_frame (s : State) :
    (wasteUnit s).mode = s.mode ∧ (wasteUnit s).power = s.power ∧ (wasteUnit s).stop = s.stop ∧ (wasteUnit s).ports = s.ports ∧
    (wasteUnit s).fns = s.fns ∧ (wasteUnit s).ctls = s.ctls ∧ (wasteUnit s).cache = s.cache ∧ (wasteUnit s).reads = s.reads ∧ (wasteUnit
    s).decks = s.decks ∧ (wasteUnit s).gauge = s.gauge ∧ (wasteUnit s).vault = s.vault ∧ (wasteUnit s).fabric = s.fabric ∧ (wasteUnit
    s).sched = s.sched ∧ (wasteUnit s).feats = s.feats ∧ (wasteUnit s).members = s.members ∧ (wasteUnit s).guard = s.guard ∧ (wasteUnit
    s).now = s.now ∧ (wasteUnit s).freeCtr = s.freeCtr ∧ (wasteUnit s).out = s.out ∧ (wasteUnit s).pending = s.pending := by simp [wasteUnit]

/-- `endAuth` changes `recorder`, `guard`, `trust` only. -/
@[simp] theorem endAuth_frame (s : State) :
    (endAuth s).mode = s.mode ∧ (endAuth s).power = s.power ∧ (endAuth s).stop = s.stop ∧ (endAuth s).ports = s.ports ∧ (endAuth s).fns
    = s.fns ∧ (endAuth s).ctls = s.ctls ∧ (endAuth s).cache = s.cache ∧ (endAuth s).reads = s.reads ∧ (endAuth s).decks = s.decks ∧
    (endAuth s).gauge = s.gauge ∧ (endAuth s).vault = s.vault ∧ (endAuth s).fabric = s.fabric ∧ (endAuth s).sched = s.sched ∧ (endAuth
    s).feats = s.feats ∧ (endAuth s).members = s.members ∧ (endAuth s).now = s.now ∧ (endAuth s).freeCtr = s.freeCtr ∧ (endAuth s).out =
    s.out ∧ (endAuth s).pending = s.pending := by
  simp only [endAuth]
  (repeat' split) <;> (first | rfl | simp)

/-- `rejectSlot` changes `recorder`, `trust` only. -/
@[simp] theorem rejectSlot_frame (slot : Nat) (s : State) :
    (rejectSlot slot s).mode = s.mode ∧ (rejectSlot slot s).power = s.power ∧ (rejectSlot slot s).stop = s.stop ∧ (rejectSlot slot
    s).ports = s.ports ∧ (rejectSlot slot s).fns = s.fns ∧ (rejectSlot slot s).ctls = s.ctls ∧ (rejectSlot slot s).cache = s.cache ∧
    (rejectSlot slot s).reads = s.reads ∧ (rejectSlot slot s).decks = s.decks ∧ (rejectSlot slot s).gauge = s.gauge ∧ (rejectSlot slot
    s).vault = s.vault ∧ (rejectSlot slot s).fabric = s.fabric ∧ (rejectSlot slot s).sched = s.sched ∧ (rejectSlot slot s).feats =
    s.feats ∧ (rejectSlot slot s).members = s.members ∧ (rejectSlot slot s).guard = s.guard ∧ (rejectSlot slot s).now = s.now ∧
    (rejectSlot slot s).freeCtr = s.freeCtr ∧ (rejectSlot slot s).out = s.out ∧ (rejectSlot slot s).pending = s.pending := by simp [rejectSlot]

/-- `raiseSvn` changes `recorder`, `trust` only. -/
@[simp] theorem raiseSvn_frame (s : State) :
    (raiseSvn s).mode = s.mode ∧ (raiseSvn s).power = s.power ∧ (raiseSvn s).stop = s.stop ∧ (raiseSvn s).ports = s.ports ∧ (raiseSvn
    s).fns = s.fns ∧ (raiseSvn s).ctls = s.ctls ∧ (raiseSvn s).cache = s.cache ∧ (raiseSvn s).reads = s.reads ∧ (raiseSvn s).decks =
    s.decks ∧ (raiseSvn s).gauge = s.gauge ∧ (raiseSvn s).vault = s.vault ∧ (raiseSvn s).fabric = s.fabric ∧ (raiseSvn s).sched =
    s.sched ∧ (raiseSvn s).feats = s.feats ∧ (raiseSvn s).members = s.members ∧ (raiseSvn s).guard = s.guard ∧ (raiseSvn s).now = s.now
    ∧ (raiseSvn s).freeCtr = s.freeCtr ∧ (raiseSvn s).out = s.out ∧ (raiseSvn s).pending = s.pending := by simp [raiseSvn]

/-- `endSpdm` changes `fns` only. -/
@[simp] theorem endSpdm_frame (s : State) :
    (endSpdm s).mode = s.mode ∧ (endSpdm s).power = s.power ∧ (endSpdm s).stop = s.stop ∧ (endSpdm s).recorder = s.recorder ∧ (endSpdm
    s).ports = s.ports ∧ (endSpdm s).ctls = s.ctls ∧ (endSpdm s).cache = s.cache ∧ (endSpdm s).reads = s.reads ∧ (endSpdm s).decks =
    s.decks ∧ (endSpdm s).gauge = s.gauge ∧ (endSpdm s).vault = s.vault ∧ (endSpdm s).fabric = s.fabric ∧ (endSpdm s).sched = s.sched ∧
    (endSpdm s).feats = s.feats ∧ (endSpdm s).members = s.members ∧ (endSpdm s).guard = s.guard ∧ (endSpdm s).trust = s.trust ∧ (endSpdm
    s).now = s.now ∧ (endSpdm s).freeCtr = s.freeCtr ∧ (endSpdm s).out = s.out ∧ (endSpdm s).pending = s.pending := by simp [endSpdm]

/-- `hwAppend` changes `recorder`, `trust` only. -/
@[simp] theorem hwAppend_frame (kind : Nat) (units : Nat) (body : Bytes) (s : State) :
    (hwAppend kind units body s).mode = s.mode ∧ (hwAppend kind units body s).power = s.power ∧ (hwAppend kind units body s).stop =
    s.stop ∧ (hwAppend kind units body s).ports = s.ports ∧ (hwAppend kind units body s).fns = s.fns ∧ (hwAppend kind units body s).ctls
    = s.ctls ∧ (hwAppend kind units body s).cache = s.cache ∧ (hwAppend kind units body s).reads = s.reads ∧ (hwAppend kind units body
    s).decks = s.decks ∧ (hwAppend kind units body s).gauge = s.gauge ∧ (hwAppend kind units body s).vault = s.vault ∧ (hwAppend kind
    units body s).fabric = s.fabric ∧ (hwAppend kind units body s).sched = s.sched ∧ (hwAppend kind units body s).feats = s.feats ∧
    (hwAppend kind units body s).members = s.members ∧ (hwAppend kind units body s).guard = s.guard ∧ (hwAppend kind units body s).now =
    s.now ∧ (hwAppend kind units body s).freeCtr = s.freeCtr ∧ (hwAppend kind units body s).out = s.out ∧ (hwAppend kind units body
    s).pending = s.pending := by simp [hwAppend]

/-- `appendMembers` changes `recorder`, `trust` only. -/
@[simp] theorem appendMembers_frame (s : State) :
    (appendMembers s).mode = s.mode ∧ (appendMembers s).power = s.power ∧ (appendMembers s).stop = s.stop ∧ (appendMembers s).ports =
    s.ports ∧ (appendMembers s).fns = s.fns ∧ (appendMembers s).ctls = s.ctls ∧ (appendMembers s).cache = s.cache ∧ (appendMembers
    s).reads = s.reads ∧ (appendMembers s).decks = s.decks ∧ (appendMembers s).gauge = s.gauge ∧ (appendMembers s).vault = s.vault ∧
    (appendMembers s).fabric = s.fabric ∧ (appendMembers s).sched = s.sched ∧ (appendMembers s).feats = s.feats ∧ (appendMembers
    s).members = s.members ∧ (appendMembers s).guard = s.guard ∧ (appendMembers s).now = s.now ∧ (appendMembers s).freeCtr = s.freeCtr ∧
    (appendMembers s).out = s.out ∧ (appendMembers s).pending = s.pending := by simp [appendMembers]

/-- `loadSlots` changes `trust` only. -/
@[simp] theorem loadSlots_frame (s : State) :
    (loadSlots s).mode = s.mode ∧ (loadSlots s).power = s.power ∧ (loadSlots s).stop = s.stop ∧ (loadSlots s).recorder = s.recorder ∧
    (loadSlots s).ports = s.ports ∧ (loadSlots s).fns = s.fns ∧ (loadSlots s).ctls = s.ctls ∧ (loadSlots s).cache = s.cache ∧ (loadSlots
    s).reads = s.reads ∧ (loadSlots s).decks = s.decks ∧ (loadSlots s).gauge = s.gauge ∧ (loadSlots s).vault = s.vault ∧ (loadSlots
    s).fabric = s.fabric ∧ (loadSlots s).sched = s.sched ∧ (loadSlots s).feats = s.feats ∧ (loadSlots s).members = s.members ∧
    (loadSlots s).guard = s.guard ∧ (loadSlots s).now = s.now ∧ (loadSlots s).freeCtr = s.freeCtr ∧ (loadSlots s).out = s.out ∧
    (loadSlots s).pending = s.pending := by simp [loadSlots]

/-- `chooseSlot` changes `mode`, `recorder`, `trust` only. -/
@[simp] theorem chooseSlot_frame (s : State) :
    (chooseSlot s).power = s.power ∧ (chooseSlot s).stop = s.stop ∧ (chooseSlot s).ports = s.ports ∧ (chooseSlot s).fns = s.fns ∧
    (chooseSlot s).ctls = s.ctls ∧ (chooseSlot s).cache = s.cache ∧ (chooseSlot s).reads = s.reads ∧ (chooseSlot s).decks = s.decks ∧
    (chooseSlot s).gauge = s.gauge ∧ (chooseSlot s).vault = s.vault ∧ (chooseSlot s).fabric = s.fabric ∧ (chooseSlot s).sched = s.sched
    ∧ (chooseSlot s).feats = s.feats ∧ (chooseSlot s).members = s.members ∧ (chooseSlot s).guard = s.guard ∧ (chooseSlot s).now = s.now
    ∧ (chooseSlot s).freeCtr = s.freeCtr ∧ (chooseSlot s).out = s.out ∧ (chooseSlot s).pending = s.pending := by simp [chooseSlot]

/-- `loadOwner` changes `recorder`, `trust` only. -/
@[simp] theorem loadOwner_frame (s : State) :
    (loadOwner s).mode = s.mode ∧ (loadOwner s).power = s.power ∧ (loadOwner s).stop = s.stop ∧ (loadOwner s).ports = s.ports ∧
    (loadOwner s).fns = s.fns ∧ (loadOwner s).ctls = s.ctls ∧ (loadOwner s).cache = s.cache ∧ (loadOwner s).reads = s.reads ∧ (loadOwner
    s).decks = s.decks ∧ (loadOwner s).gauge = s.gauge ∧ (loadOwner s).vault = s.vault ∧ (loadOwner s).fabric = s.fabric ∧ (loadOwner
    s).sched = s.sched ∧ (loadOwner s).feats = s.feats ∧ (loadOwner s).members = s.members ∧ (loadOwner s).guard = s.guard ∧ (loadOwner
    s).now = s.now ∧ (loadOwner s).freeCtr = s.freeCtr ∧ (loadOwner s).out = s.out ∧ (loadOwner s).pending = s.pending := by
  simp only [loadOwner]
  (repeat' split) <;> (first | rfl | simp)

/-- `refuseOwner` changes `recorder`, `ctls` only. -/
@[simp] theorem refuseOwner_frame (ref : CmdRef) (action : Nat) (why : Nat) (s : State) :
    (refuseOwner ref action why s).mode = s.mode ∧ (refuseOwner ref action why s).power = s.power ∧ (refuseOwner ref action why s).stop
    = s.stop ∧ (refuseOwner ref action why s).ports = s.ports ∧ (refuseOwner ref action why s).fns = s.fns ∧ (refuseOwner ref action why
    s).cache = s.cache ∧ (refuseOwner ref action why s).reads = s.reads ∧ (refuseOwner ref action why s).decks = s.decks ∧ (refuseOwner
    ref action why s).gauge = s.gauge ∧ (refuseOwner ref action why s).vault = s.vault ∧ (refuseOwner ref action why s).fabric =
    s.fabric ∧ (refuseOwner ref action why s).sched = s.sched ∧ (refuseOwner ref action why s).feats = s.feats ∧ (refuseOwner ref action
    why s).members = s.members ∧ (refuseOwner ref action why s).guard = s.guard ∧ (refuseOwner ref action why s).trust = s.trust ∧
    (refuseOwner ref action why s).now = s.now ∧ (refuseOwner ref action why s).freeCtr = s.freeCtr ∧ (refuseOwner ref action why s).out
    = s.out ∧ (refuseOwner ref action why s).pending = s.pending := by simp [refuseOwner]

/-- `beginActivation` changes `ports`, `fns`, `ctls`, `trust`, `out` only. -/
@[simp] theorem beginActivation_frame (ref : CmdRef) (fs : Nat) (s : State) :
    (beginActivation ref fs s).mode = s.mode ∧ (beginActivation ref fs s).power = s.power ∧ (beginActivation ref fs s).stop = s.stop ∧
    (beginActivation ref fs s).recorder = s.recorder ∧ (beginActivation ref fs s).cache = s.cache ∧ (beginActivation ref fs s).reads =
    s.reads ∧ (beginActivation ref fs s).decks = s.decks ∧ (beginActivation ref fs s).gauge = s.gauge ∧ (beginActivation ref fs s).vault
    = s.vault ∧ (beginActivation ref fs s).fabric = s.fabric ∧ (beginActivation ref fs s).sched = s.sched ∧ (beginActivation ref fs
    s).feats = s.feats ∧ (beginActivation ref fs s).members = s.members ∧ (beginActivation ref fs s).guard = s.guard ∧ (beginActivation
    ref fs s).now = s.now ∧ (beginActivation ref fs s).freeCtr = s.freeCtr ∧ (beginActivation ref fs s).pending = s.pending := by simp [beginActivation]

/-- `writeFrozen` changes `recorder` only. -/
@[simp] theorem writeFrozen_frame (frozen : Bool) (s : State) :
    (writeFrozen frozen s).mode = s.mode ∧ (writeFrozen frozen s).power = s.power ∧ (writeFrozen frozen s).stop = s.stop ∧ (writeFrozen
    frozen s).ports = s.ports ∧ (writeFrozen frozen s).fns = s.fns ∧ (writeFrozen frozen s).ctls = s.ctls ∧ (writeFrozen frozen s).cache
    = s.cache ∧ (writeFrozen frozen s).reads = s.reads ∧ (writeFrozen frozen s).decks = s.decks ∧ (writeFrozen frozen s).gauge = s.gauge
    ∧ (writeFrozen frozen s).vault = s.vault ∧ (writeFrozen frozen s).fabric = s.fabric ∧ (writeFrozen frozen s).sched = s.sched ∧
    (writeFrozen frozen s).feats = s.feats ∧ (writeFrozen frozen s).members = s.members ∧ (writeFrozen frozen s).guard = s.guard ∧
    (writeFrozen frozen s).trust = s.trust ∧ (writeFrozen frozen s).now = s.now ∧ (writeFrozen frozen s).freeCtr = s.freeCtr ∧
    (writeFrozen frozen s).out = s.out ∧ (writeFrozen frozen s).pending = s.pending := by simp [writeFrozen]

/-- `spillCatchUp` changes `recorder` only. -/
@[simp] theorem spillCatchUp_frame (s : State) :
    (spillCatchUp s).mode = s.mode ∧ (spillCatchUp s).power = s.power ∧ (spillCatchUp s).stop = s.stop ∧ (spillCatchUp s).ports =
    s.ports ∧ (spillCatchUp s).fns = s.fns ∧ (spillCatchUp s).ctls = s.ctls ∧ (spillCatchUp s).cache = s.cache ∧ (spillCatchUp s).reads
    = s.reads ∧ (spillCatchUp s).decks = s.decks ∧ (spillCatchUp s).gauge = s.gauge ∧ (spillCatchUp s).vault = s.vault ∧ (spillCatchUp
    s).fabric = s.fabric ∧ (spillCatchUp s).sched = s.sched ∧ (spillCatchUp s).feats = s.feats ∧ (spillCatchUp s).members = s.members ∧
    (spillCatchUp s).guard = s.guard ∧ (spillCatchUp s).trust = s.trust ∧ (spillCatchUp s).now = s.now ∧ (spillCatchUp s).freeCtr =
    s.freeCtr ∧ (spillCatchUp s).out = s.out ∧ (spillCatchUp s).pending = s.pending := by simp [spillCatchUp]

/-- `appendBoot` changes `recorder`, `trust` only. -/
@[simp] theorem appendBoot_frame (ok : Bool) (stopState : Nat) (s : State) :
    (appendBoot ok stopState s).mode = s.mode ∧ (appendBoot ok stopState s).power = s.power ∧ (appendBoot ok stopState s).stop = s.stop
    ∧ (appendBoot ok stopState s).ports = s.ports ∧ (appendBoot ok stopState s).fns = s.fns ∧ (appendBoot ok stopState s).ctls = s.ctls
    ∧ (appendBoot ok stopState s).cache = s.cache ∧ (appendBoot ok stopState s).reads = s.reads ∧ (appendBoot ok stopState s).decks =
    s.decks ∧ (appendBoot ok stopState s).gauge = s.gauge ∧ (appendBoot ok stopState s).vault = s.vault ∧ (appendBoot ok stopState
    s).fabric = s.fabric ∧ (appendBoot ok stopState s).sched = s.sched ∧ (appendBoot ok stopState s).feats = s.feats ∧ (appendBoot ok
    stopState s).members = s.members ∧ (appendBoot ok stopState s).guard = s.guard ∧ (appendBoot ok stopState s).now = s.now ∧
    (appendBoot ok stopState s).freeCtr = s.freeCtr ∧ (appendBoot ok stopState s).out = s.out ∧ (appendBoot ok stopState s).pending =
    s.pending := by simp [appendBoot]

/-- `endActivation` changes `ctls`, `trust` only. -/
@[simp] theorem endActivation_frame (s : State) :
    (endActivation s).mode = s.mode ∧ (endActivation s).power = s.power ∧ (endActivation s).stop = s.stop ∧ (endActivation s).recorder =
    s.recorder ∧ (endActivation s).ports = s.ports ∧ (endActivation s).fns = s.fns ∧ (endActivation s).cache = s.cache ∧ (endActivation
    s).reads = s.reads ∧ (endActivation s).decks = s.decks ∧ (endActivation s).gauge = s.gauge ∧ (endActivation s).vault = s.vault ∧
    (endActivation s).fabric = s.fabric ∧ (endActivation s).sched = s.sched ∧ (endActivation s).feats = s.feats ∧ (endActivation
    s).members = s.members ∧ (endActivation s).guard = s.guard ∧ (endActivation s).now = s.now ∧ (endActivation s).freeCtr = s.freeCtr ∧
    (endActivation s).out = s.out ∧ (endActivation s).pending = s.pending := by simp [endActivation]

/-- `afterCommit` changes `trust` only. -/
@[simp] theorem afterCommit_frame (s : State) :
    (afterCommit s).mode = s.mode ∧ (afterCommit s).power = s.power ∧ (afterCommit s).stop = s.stop ∧ (afterCommit s).recorder =
    s.recorder ∧ (afterCommit s).ports = s.ports ∧ (afterCommit s).fns = s.fns ∧ (afterCommit s).ctls = s.ctls ∧ (afterCommit s).cache =
    s.cache ∧ (afterCommit s).reads = s.reads ∧ (afterCommit s).decks = s.decks ∧ (afterCommit s).gauge = s.gauge ∧ (afterCommit
    s).vault = s.vault ∧ (afterCommit s).fabric = s.fabric ∧ (afterCommit s).sched = s.sched ∧ (afterCommit s).feats = s.feats ∧
    (afterCommit s).members = s.members ∧ (afterCommit s).guard = s.guard ∧ (afterCommit s).now = s.now ∧ (afterCommit s).freeCtr =
    s.freeCtr ∧ (afterCommit s).out = s.out ∧ (afterCommit s).pending = s.pending := by simp [afterCommit]

/-- `noteTorn` changes `recorder` only. -/
@[simp] theorem noteTorn_frame (s : State) :
    (noteTorn s).mode = s.mode ∧ (noteTorn s).power = s.power ∧ (noteTorn s).stop = s.stop ∧ (noteTorn s).ports = s.ports ∧ (noteTorn
    s).fns = s.fns ∧ (noteTorn s).ctls = s.ctls ∧ (noteTorn s).cache = s.cache ∧ (noteTorn s).reads = s.reads ∧ (noteTorn s).decks =
    s.decks ∧ (noteTorn s).gauge = s.gauge ∧ (noteTorn s).vault = s.vault ∧ (noteTorn s).fabric = s.fabric ∧ (noteTorn s).sched =
    s.sched ∧ (noteTorn s).feats = s.feats ∧ (noteTorn s).members = s.members ∧ (noteTorn s).guard = s.guard ∧ (noteTorn s).trust =
    s.trust ∧ (noteTorn s).now = s.now ∧ (noteTorn s).freeCtr = s.freeCtr ∧ (noteTorn s).out = s.out ∧ (noteTorn s).pending = s.pending := by
  simp only [noteTorn]
  (repeat' split) <;> (first | rfl | simp)

/-- `revokeKeys` changes `recorder`, `trust` only. -/
@[simp] theorem revokeKeys_frame (s : State) :
    (revokeKeys s).mode = s.mode ∧ (revokeKeys s).power = s.power ∧ (revokeKeys s).stop = s.stop ∧ (revokeKeys s).ports = s.ports ∧
    (revokeKeys s).fns = s.fns ∧ (revokeKeys s).ctls = s.ctls ∧ (revokeKeys s).cache = s.cache ∧ (revokeKeys s).reads = s.reads ∧
    (revokeKeys s).decks = s.decks ∧ (revokeKeys s).gauge = s.gauge ∧ (revokeKeys s).vault = s.vault ∧ (revokeKeys s).fabric = s.fabric
    ∧ (revokeKeys s).sched = s.sched ∧ (revokeKeys s).feats = s.feats ∧ (revokeKeys s).members = s.members ∧ (revokeKeys s).guard =
    s.guard ∧ (revokeKeys s).now = s.now ∧ (revokeKeys s).freeCtr = s.freeCtr ∧ (revokeKeys s).out = s.out ∧ (revokeKeys s).pending =
    s.pending := by
  simp only [revokeKeys]
  (repeat' split) <;> (first | rfl | simp)

/-- `doeAbort` changes `fns` only. -/
@[simp] theorem doeAbort_frame (fn : Nat) (s : State) :
    (doeAbort fn s).mode = s.mode ∧ (doeAbort fn s).power = s.power ∧ (doeAbort fn s).stop = s.stop ∧ (doeAbort fn s).recorder =
    s.recorder ∧ (doeAbort fn s).ports = s.ports ∧ (doeAbort fn s).ctls = s.ctls ∧ (doeAbort fn s).cache = s.cache ∧ (doeAbort fn
    s).reads = s.reads ∧ (doeAbort fn s).decks = s.decks ∧ (doeAbort fn s).gauge = s.gauge ∧ (doeAbort fn s).vault = s.vault ∧ (doeAbort
    fn s).fabric = s.fabric ∧ (doeAbort fn s).sched = s.sched ∧ (doeAbort fn s).feats = s.feats ∧ (doeAbort fn s).members = s.members ∧
    (doeAbort fn s).guard = s.guard ∧ (doeAbort fn s).trust = s.trust ∧ (doeAbort fn s).now = s.now ∧ (doeAbort fn s).freeCtr =
    s.freeCtr ∧ (doeAbort fn s).out = s.out ∧ (doeAbort fn s).pending = s.pending := by simp [doeAbort]

/-- `putOwner` changes `trust` only. -/
@[simp] theorem putOwner_frame (key : Option Nat) (s : State) :
    (putOwner key s).mode = s.mode ∧ (putOwner key s).power = s.power ∧ (putOwner key s).stop = s.stop ∧ (putOwner key s).recorder =
    s.recorder ∧ (putOwner key s).ports = s.ports ∧ (putOwner key s).fns = s.fns ∧ (putOwner key s).ctls = s.ctls ∧ (putOwner key
    s).cache = s.cache ∧ (putOwner key s).reads = s.reads ∧ (putOwner key s).decks = s.decks ∧ (putOwner key s).gauge = s.gauge ∧
    (putOwner key s).vault = s.vault ∧ (putOwner key s).fabric = s.fabric ∧ (putOwner key s).sched = s.sched ∧ (putOwner key s).feats =
    s.feats ∧ (putOwner key s).members = s.members ∧ (putOwner key s).guard = s.guard ∧ (putOwner key s).now = s.now ∧ (putOwner key
    s).freeCtr = s.freeCtr ∧ (putOwner key s).out = s.out ∧ (putOwner key s).pending = s.pending := by simp [putOwner]

end Sys2Proof.Machine
end

