-- ==== Sys2Proof/Laws/Logs.lean ====
section
/-!
SUPPORT. The frames of the operations of Machine/Logs.lean: which units of the state each leaves alone.
-/

namespace Sys2Proof.Machine

/-- `tickFree` changes `freeCtr` only. -/
@[simp] theorem tickFree_frame (s : State) :
    (tickFree s).mode = s.mode ∧ (tickFree s).power = s.power ∧ (tickFree s).stop = s.stop ∧ (tickFree s).recorder = s.recorder ∧
    (tickFree s).ports = s.ports ∧ (tickFree s).fns = s.fns ∧ (tickFree s).ctls = s.ctls ∧ (tickFree s).cache = s.cache ∧ (tickFree
    s).reads = s.reads ∧ (tickFree s).decks = s.decks ∧ (tickFree s).gauge = s.gauge ∧ (tickFree s).vault = s.vault ∧ (tickFree
    s).fabric = s.fabric ∧ (tickFree s).sched = s.sched ∧ (tickFree s).feats = s.feats ∧ (tickFree s).members = s.members ∧ (tickFree
    s).guard = s.guard ∧ (tickFree s).trust = s.trust ∧ (tickFree s).now = s.now ∧ (tickFree s).out = s.out ∧ (tickFree s).pending =
    s.pending := by simp [tickFree]

/-- `logRead` changes `ports`, `fns`, `ctls`, `out` only. -/
@[simp] theorem logRead_frame (ctl : Nat) (lid : Nat) (s : State) :
    (logRead ctl lid s).mode = s.mode ∧ (logRead ctl lid s).power = s.power ∧ (logRead ctl lid s).stop = s.stop ∧ (logRead ctl lid
    s).recorder = s.recorder ∧ (logRead ctl lid s).cache = s.cache ∧ (logRead ctl lid s).reads = s.reads ∧ (logRead ctl lid s).decks =
    s.decks ∧ (logRead ctl lid s).gauge = s.gauge ∧ (logRead ctl lid s).vault = s.vault ∧ (logRead ctl lid s).fabric = s.fabric ∧
    (logRead ctl lid s).sched = s.sched ∧ (logRead ctl lid s).feats = s.feats ∧ (logRead ctl lid s).members = s.members ∧ (logRead ctl
    lid s).guard = s.guard ∧ (logRead ctl lid s).trust = s.trust ∧ (logRead ctl lid s).now = s.now ∧ (logRead ctl lid s).freeCtr =
    s.freeCtr ∧ (logRead ctl lid s).pending = s.pending := by simp [logRead]

end Sys2Proof.Machine
end

