-- ==== Sys2Proof/Laws/Features.lean ====
section
/-!
SUPPORT. The frames of the operations of Machine/Features.lean: which units of the state each leaves alone.
-/

namespace Sys2Proof.Machine

/-- `setCap` changes `recorder`, `feats` only. -/
@[simp] theorem setCap_frame (w : Nat) (s : State) :
    (setCap w s).mode = s.mode ∧ (setCap w s).power = s.power ∧ (setCap w s).stop = s.stop ∧ (setCap w s).ports = s.ports ∧ (setCap w
    s).fns = s.fns ∧ (setCap w s).ctls = s.ctls ∧ (setCap w s).cache = s.cache ∧ (setCap w s).reads = s.reads ∧ (setCap w s).decks =
    s.decks ∧ (setCap w s).gauge = s.gauge ∧ (setCap w s).vault = s.vault ∧ (setCap w s).fabric = s.fabric ∧ (setCap w s).sched =
    s.sched ∧ (setCap w s).members = s.members ∧ (setCap w s).guard = s.guard ∧ (setCap w s).trust = s.trust ∧ (setCap w s).now = s.now
    ∧ (setCap w s).freeCtr = s.freeCtr ∧ (setCap w s).out = s.out ∧ (setCap w s).pending = s.pending := by simp [setCap]

/-- `setDirtyPolicy` changes `feats` only. -/
@[simp] theorem setDirtyPolicy_frame (v : BitVec 32) (s : State) :
    (setDirtyPolicy v s).mode = s.mode ∧ (setDirtyPolicy v s).power = s.power ∧ (setDirtyPolicy v s).stop = s.stop ∧ (setDirtyPolicy v
    s).recorder = s.recorder ∧ (setDirtyPolicy v s).ports = s.ports ∧ (setDirtyPolicy v s).fns = s.fns ∧ (setDirtyPolicy v s).ctls =
    s.ctls ∧ (setDirtyPolicy v s).cache = s.cache ∧ (setDirtyPolicy v s).reads = s.reads ∧ (setDirtyPolicy v s).decks = s.decks ∧
    (setDirtyPolicy v s).gauge = s.gauge ∧ (setDirtyPolicy v s).vault = s.vault ∧ (setDirtyPolicy v s).fabric = s.fabric ∧
    (setDirtyPolicy v s).sched = s.sched ∧ (setDirtyPolicy v s).members = s.members ∧ (setDirtyPolicy v s).guard = s.guard ∧
    (setDirtyPolicy v s).trust = s.trust ∧ (setDirtyPolicy v s).now = s.now ∧ (setDirtyPolicy v s).freeCtr = s.freeCtr ∧ (setDirtyPolicy
    v s).out = s.out ∧ (setDirtyPolicy v s).pending = s.pending := by simp [setDirtyPolicy]

/-- `setFloors` changes `feats` only. -/
@[simp] theorem setFloors_frame (l : List Nat) (s : State) :
    (setFloors l s).mode = s.mode ∧ (setFloors l s).power = s.power ∧ (setFloors l s).stop = s.stop ∧ (setFloors l s).recorder =
    s.recorder ∧ (setFloors l s).ports = s.ports ∧ (setFloors l s).fns = s.fns ∧ (setFloors l s).ctls = s.ctls ∧ (setFloors l s).cache =
    s.cache ∧ (setFloors l s).reads = s.reads ∧ (setFloors l s).decks = s.decks ∧ (setFloors l s).gauge = s.gauge ∧ (setFloors l
    s).vault = s.vault ∧ (setFloors l s).fabric = s.fabric ∧ (setFloors l s).sched = s.sched ∧ (setFloors l s).members = s.members ∧
    (setFloors l s).guard = s.guard ∧ (setFloors l s).trust = s.trust ∧ (setFloors l s).now = s.now ∧ (setFloors l s).freeCtr =
    s.freeCtr ∧ (setFloors l s).out = s.out ∧ (setFloors l s).pending = s.pending := by simp [setFloors]

/-- `setTimers` changes `feats` only. -/
@[simp] theorem setTimers_frame (t : Nat × Nat × Nat) (s : State) :
    (setTimers t s).mode = s.mode ∧ (setTimers t s).power = s.power ∧ (setTimers t s).stop = s.stop ∧ (setTimers t s).recorder =
    s.recorder ∧ (setTimers t s).ports = s.ports ∧ (setTimers t s).fns = s.fns ∧ (setTimers t s).ctls = s.ctls ∧ (setTimers t s).cache =
    s.cache ∧ (setTimers t s).reads = s.reads ∧ (setTimers t s).decks = s.decks ∧ (setTimers t s).gauge = s.gauge ∧ (setTimers t
    s).vault = s.vault ∧ (setTimers t s).fabric = s.fabric ∧ (setTimers t s).sched = s.sched ∧ (setTimers t s).members = s.members ∧
    (setTimers t s).guard = s.guard ∧ (setTimers t s).trust = s.trust ∧ (setTimers t s).now = s.now ∧ (setTimers t s).freeCtr =
    s.freeCtr ∧ (setTimers t s).out = s.out ∧ (setTimers t s).pending = s.pending := by simp [setTimers]

/-- `setMemberTimeout` changes `feats` only. -/
@[simp] theorem setMemberTimeout_frame (v : BitVec 32) (s : State) :
    (setMemberTimeout v s).mode = s.mode ∧ (setMemberTimeout v s).power = s.power ∧ (setMemberTimeout v s).stop = s.stop ∧
    (setMemberTimeout v s).recorder = s.recorder ∧ (setMemberTimeout v s).ports = s.ports ∧ (setMemberTimeout v s).fns = s.fns ∧
    (setMemberTimeout v s).ctls = s.ctls ∧ (setMemberTimeout v s).cache = s.cache ∧ (setMemberTimeout v s).reads = s.reads ∧
    (setMemberTimeout v s).decks = s.decks ∧ (setMemberTimeout v s).gauge = s.gauge ∧ (setMemberTimeout v s).vault = s.vault ∧
    (setMemberTimeout v s).fabric = s.fabric ∧ (setMemberTimeout v s).sched = s.sched ∧ (setMemberTimeout v s).members = s.members ∧
    (setMemberTimeout v s).guard = s.guard ∧ (setMemberTimeout v s).trust = s.trust ∧ (setMemberTimeout v s).now = s.now ∧
    (setMemberTimeout v s).freeCtr = s.freeCtr ∧ (setMemberTimeout v s).out = s.out ∧ (setMemberTimeout v s).pending = s.pending := by simp [setMemberTimeout]

/-- `setPatrolRate` changes `decks` only. -/
@[simp] theorem setPatrolRate_frame (v : BitVec 32) (s : State) :
    (setPatrolRate v s).mode = s.mode ∧ (setPatrolRate v s).power = s.power ∧ (setPatrolRate v s).stop = s.stop ∧ (setPatrolRate v
    s).recorder = s.recorder ∧ (setPatrolRate v s).ports = s.ports ∧ (setPatrolRate v s).fns = s.fns ∧ (setPatrolRate v s).ctls = s.ctls
    ∧ (setPatrolRate v s).cache = s.cache ∧ (setPatrolRate v s).reads = s.reads ∧ (setPatrolRate v s).gauge = s.gauge ∧ (setPatrolRate v
    s).vault = s.vault ∧ (setPatrolRate v s).fabric = s.fabric ∧ (setPatrolRate v s).sched = s.sched ∧ (setPatrolRate v s).feats =
    s.feats ∧ (setPatrolRate v s).members = s.members ∧ (setPatrolRate v s).guard = s.guard ∧ (setPatrolRate v s).trust = s.trust ∧
    (setPatrolRate v s).now = s.now ∧ (setPatrolRate v s).freeCtr = s.freeCtr ∧ (setPatrolRate v s).out = s.out ∧ (setPatrolRate v
    s).pending = s.pending := by simp [setPatrolRate]

/-- `saveVendor` changes `feats` only. -/
@[simp] theorem saveVendor_frame (a : FeatureArgs) (s : State) :
    (saveVendor a s).mode = s.mode ∧ (saveVendor a s).power = s.power ∧ (saveVendor a s).stop = s.stop ∧ (saveVendor a s).recorder =
    s.recorder ∧ (saveVendor a s).ports = s.ports ∧ (saveVendor a s).fns = s.fns ∧ (saveVendor a s).ctls = s.ctls ∧ (saveVendor a
    s).cache = s.cache ∧ (saveVendor a s).reads = s.reads ∧ (saveVendor a s).decks = s.decks ∧ (saveVendor a s).gauge = s.gauge ∧
    (saveVendor a s).vault = s.vault ∧ (saveVendor a s).fabric = s.fabric ∧ (saveVendor a s).sched = s.sched ∧ (saveVendor a s).members
    = s.members ∧ (saveVendor a s).guard = s.guard ∧ (saveVendor a s).trust = s.trust ∧ (saveVendor a s).now = s.now ∧ (saveVendor a
    s).freeCtr = s.freeCtr ∧ (saveVendor a s).out = s.out ∧ (saveVendor a s).pending = s.pending := by simp [saveVendor]

/-- `setVendor` changes `stop`, `recorder`, `cache`, `decks`, `feats`, `out` only. -/
@[simp] theorem setVendor_frame (a : FeatureArgs) (s : State) :
    (setVendor a s).2.mode = s.mode ∧ (setVendor a s).2.power = s.power ∧ (setVendor a s).2.ports = s.ports ∧ (setVendor a s).2.fns =
    s.fns ∧ (setVendor a s).2.ctls = s.ctls ∧ (setVendor a s).2.reads = s.reads ∧ (setVendor a s).2.gauge = s.gauge ∧ (setVendor a
    s).2.vault = s.vault ∧ (setVendor a s).2.fabric = s.fabric ∧ (setVendor a s).2.sched = s.sched ∧ (setVendor a s).2.members =
    s.members ∧ (setVendor a s).2.guard = s.guard ∧ (setVendor a s).2.trust = s.trust ∧ (setVendor a s).2.now = s.now ∧ (setVendor a
    s).2.freeCtr = s.freeCtr ∧ (setVendor a s).2.pending = s.pending := by
  simp only [setVendor]
  (repeat' split) <;> (first | rfl | simp)

/-- `storeStd` changes `ctls` only. -/
@[simp] theorem storeStd_frame (ctl : Nat) (key : Nat) (sv : Bool) (v : BitVec 32) (s : State) :
    (storeStd ctl key sv v s).mode = s.mode ∧ (storeStd ctl key sv v s).power = s.power ∧ (storeStd ctl key sv v s).stop = s.stop ∧
    (storeStd ctl key sv v s).recorder = s.recorder ∧ (storeStd ctl key sv v s).ports = s.ports ∧ (storeStd ctl key sv v s).fns = s.fns
    ∧ (storeStd ctl key sv v s).cache = s.cache ∧ (storeStd ctl key sv v s).reads = s.reads ∧ (storeStd ctl key sv v s).decks = s.decks
    ∧ (storeStd ctl key sv v s).gauge = s.gauge ∧ (storeStd ctl key sv v s).vault = s.vault ∧ (storeStd ctl key sv v s).fabric =
    s.fabric ∧ (storeStd ctl key sv v s).sched = s.sched ∧ (storeStd ctl key sv v s).feats = s.feats ∧ (storeStd ctl key sv v s).members
    = s.members ∧ (storeStd ctl key sv v s).guard = s.guard ∧ (storeStd ctl key sv v s).trust = s.trust ∧ (storeStd ctl key sv v s).now
    = s.now ∧ (storeStd ctl key sv v s).freeCtr = s.freeCtr ∧ (storeStd ctl key sv v s).out = s.out ∧ (storeStd ctl key sv v s).pending
    = s.pending := by simp [storeStd]

/-- `setStandard` changes `mode`, `recorder`, `ports`, `fns`, `ctls`, `cache`, `fabric`, `sched`, `members`, `out` only. -/
@[simp] theorem setStandard_frame (ctl : Nat) (a : FeatureArgs) (s : State) :
    (setStandard ctl a s).2.2.power = s.power ∧ (setStandard ctl a s).2.2.stop = s.stop ∧ (setStandard ctl a s).2.2.reads = s.reads ∧
    (setStandard ctl a s).2.2.decks = s.decks ∧ (setStandard ctl a s).2.2.gauge = s.gauge ∧ (setStandard ctl a s).2.2.vault = s.vault ∧
    (setStandard ctl a s).2.2.feats = s.feats ∧ (setStandard ctl a s).2.2.guard = s.guard ∧ (setStandard ctl a s).2.2.trust = s.trust ∧
    (setStandard ctl a s).2.2.now = s.now ∧ (setStandard ctl a s).2.2.freeCtr = s.freeCtr ∧ (setStandard ctl a s).2.2.pending =
    s.pending := by
  simp only [setStandard]
  (repeat' split) <;> (first | rfl | simp)

end Sys2Proof.Machine
end

