-- ==== Sys2Proof/Laws/Namespaces.lean ====
section
/-!
SUPPORT. The frames of the operations of Machine/Namespaces.lean: which units of the state each leaves alone.
-/

namespace Sys2Proof.Machine

/-- `endFormat` changes `ports`, `fns`, `ctls`, `decks`, `members`, `out` only. -/
@[simp] theorem endFormat_frame (s : State) (nsid : Nat) :
    (endFormat s nsid).mode = s.mode ∧ (endFormat s nsid).power = s.power ∧ (endFormat s nsid).stop = s.stop ∧ (endFormat s
    nsid).recorder = s.recorder ∧ (endFormat s nsid).cache = s.cache ∧ (endFormat s nsid).reads = s.reads ∧ (endFormat s nsid).gauge =
    s.gauge ∧ (endFormat s nsid).vault = s.vault ∧ (endFormat s nsid).fabric = s.fabric ∧ (endFormat s nsid).sched = s.sched ∧
    (endFormat s nsid).feats = s.feats ∧ (endFormat s nsid).guard = s.guard ∧ (endFormat s nsid).trust = s.trust ∧ (endFormat s
    nsid).now = s.now ∧ (endFormat s nsid).freeCtr = s.freeCtr ∧ (endFormat s nsid).pending = s.pending := by
  simp only [endFormat]
  (repeat' split) <;> (first | rfl | simp)

/-- `rewriteDecks` changes `recorder`, `decks`, `members`, `out` only. -/
@[simp] theorem rewriteDecks_frame (s : State) :
    (rewriteDecks s).mode = s.mode ∧ (rewriteDecks s).power = s.power ∧ (rewriteDecks s).stop = s.stop ∧ (rewriteDecks s).ports =
    s.ports ∧ (rewriteDecks s).fns = s.fns ∧ (rewriteDecks s).ctls = s.ctls ∧ (rewriteDecks s).cache = s.cache ∧ (rewriteDecks s).reads
    = s.reads ∧ (rewriteDecks s).gauge = s.gauge ∧ (rewriteDecks s).vault = s.vault ∧ (rewriteDecks s).fabric = s.fabric ∧ (rewriteDecks
    s).sched = s.sched ∧ (rewriteDecks s).feats = s.feats ∧ (rewriteDecks s).guard = s.guard ∧ (rewriteDecks s).trust = s.trust ∧
    (rewriteDecks s).now = s.now ∧ (rewriteDecks s).freeCtr = s.freeCtr ∧ (rewriteDecks s).pending = s.pending := by
  simp only [rewriteDecks]
  (repeat' split) <;> (first | rfl | simp (disch := (intros; (try dsimp only); (repeat' split) <;> (first | rfl | simp | skip))))

/-- `giveUpIo` changes `stop`, `ctls`, `cache`, `reads`, `decks`, `out` only. -/
@[simp] theorem giveUpIo_frame (nsid : Nat) (status : Nat) (s : State) :
    (giveUpIo nsid status s).mode = s.mode ∧ (giveUpIo nsid status s).power = s.power ∧ (giveUpIo nsid status s).recorder = s.recorder ∧
    (giveUpIo nsid status s).ports = s.ports ∧ (giveUpIo nsid status s).fns = s.fns ∧ (giveUpIo nsid status s).gauge = s.gauge ∧
    (giveUpIo nsid status s).vault = s.vault ∧ (giveUpIo nsid status s).fabric = s.fabric ∧ (giveUpIo nsid status s).sched = s.sched ∧
    (giveUpIo nsid status s).feats = s.feats ∧ (giveUpIo nsid status s).members = s.members ∧ (giveUpIo nsid status s).guard = s.guard ∧
    (giveUpIo nsid status s).trust = s.trust ∧ (giveUpIo nsid status s).now = s.now ∧ (giveUpIo nsid status s).freeCtr = s.freeCtr ∧
    (giveUpIo nsid status s).pending = s.pending := by
  simp only [giveUpIo]
  (repeat' split) <;> (first | rfl | simp (disch := (intros; (try dsimp only); (repeat' split) <;> (first | rfl | simp | skip))))

/-- `leaveDue` changes `decks` only. -/
@[simp] theorem leaveDue_frame (id : Nat) (fill : List (Nat × Nat)) (dealloc : List (Nat × Nat)) (rewrite : Bool) (s : State) :
    (leaveDue id fill dealloc rewrite s).mode = s.mode ∧ (leaveDue id fill dealloc rewrite s).power = s.power ∧ (leaveDue id fill
    dealloc rewrite s).stop = s.stop ∧ (leaveDue id fill dealloc rewrite s).recorder = s.recorder ∧ (leaveDue id fill dealloc rewrite
    s).ports = s.ports ∧ (leaveDue id fill dealloc rewrite s).fns = s.fns ∧ (leaveDue id fill dealloc rewrite s).ctls = s.ctls ∧
    (leaveDue id fill dealloc rewrite s).cache = s.cache ∧ (leaveDue id fill dealloc rewrite s).reads = s.reads ∧ (leaveDue id fill
    dealloc rewrite s).gauge = s.gauge ∧ (leaveDue id fill dealloc rewrite s).vault = s.vault ∧ (leaveDue id fill dealloc rewrite
    s).fabric = s.fabric ∧ (leaveDue id fill dealloc rewrite s).sched = s.sched ∧ (leaveDue id fill dealloc rewrite s).feats = s.feats ∧
    (leaveDue id fill dealloc rewrite s).members = s.members ∧ (leaveDue id fill dealloc rewrite s).guard = s.guard ∧ (leaveDue id fill
    dealloc rewrite s).trust = s.trust ∧ (leaveDue id fill dealloc rewrite s).now = s.now ∧ (leaveDue id fill dealloc rewrite s).freeCtr
    = s.freeCtr ∧ (leaveDue id fill dealloc rewrite s).out = s.out ∧ (leaveDue id fill dealloc rewrite s).pending = s.pending := by simp [leaveDue]

/-- `fillRuns` changes `out` only. -/
@[simp] theorem fillRuns_frame (d : Deck) (slots : List Nat) (runs : List (Nat × Nat)) (pattern : BitVec 32) (s : State) :
    (fillRuns d slots runs pattern s).mode = s.mode ∧ (fillRuns d slots runs pattern s).power = s.power ∧ (fillRuns d slots runs pattern
    s).stop = s.stop ∧ (fillRuns d slots runs pattern s).recorder = s.recorder ∧ (fillRuns d slots runs pattern s).ports = s.ports ∧
    (fillRuns d slots runs pattern s).fns = s.fns ∧ (fillRuns d slots runs pattern s).ctls = s.ctls ∧ (fillRuns d slots runs pattern
    s).cache = s.cache ∧ (fillRuns d slots runs pattern s).reads = s.reads ∧ (fillRuns d slots runs pattern s).decks = s.decks ∧
    (fillRuns d slots runs pattern s).gauge = s.gauge ∧ (fillRuns d slots runs pattern s).vault = s.vault ∧ (fillRuns d slots runs
    pattern s).fabric = s.fabric ∧ (fillRuns d slots runs pattern s).sched = s.sched ∧ (fillRuns d slots runs pattern s).feats = s.feats
    ∧ (fillRuns d slots runs pattern s).members = s.members ∧ (fillRuns d slots runs pattern s).guard = s.guard ∧ (fillRuns d slots runs
    pattern s).trust = s.trust ∧ (fillRuns d slots runs pattern s).now = s.now ∧ (fillRuns d slots runs pattern s).freeCtr = s.freeCtr ∧
    (fillRuns d slots runs pattern s).pending = s.pending := by simp [fillRuns]

/-- `overwritePart` changes `out` only. -/
@[simp] theorem overwritePart_frame (d : Deck) (slots : List Nat) (a : Nat) (b : Nat) (passes : Nat) (pattern : BitVec 32) (invert : Bool) (s : State) :
    (overwritePart d slots a b passes pattern invert s).mode = s.mode ∧ (overwritePart d slots a b passes pattern invert s).power =
    s.power ∧ (overwritePart d slots a b passes pattern invert s).stop = s.stop ∧ (overwritePart d slots a b passes pattern invert
    s).recorder = s.recorder ∧ (overwritePart d slots a b passes pattern invert s).ports = s.ports ∧ (overwritePart d slots a b passes
    pattern invert s).fns = s.fns ∧ (overwritePart d slots a b passes pattern invert s).ctls = s.ctls ∧ (overwritePart d slots a b
    passes pattern invert s).cache = s.cache ∧ (overwritePart d slots a b passes pattern invert s).reads = s.reads ∧ (overwritePart d
    slots a b passes pattern invert s).decks = s.decks ∧ (overwritePart d slots a b passes pattern invert s).gauge = s.gauge ∧
    (overwritePart d slots a b passes pattern invert s).vault = s.vault ∧ (overwritePart d slots a b passes pattern invert s).fabric =
    s.fabric ∧ (overwritePart d slots a b passes pattern invert s).sched = s.sched ∧ (overwritePart d slots a b passes pattern invert
    s).feats = s.feats ∧ (overwritePart d slots a b passes pattern invert s).members = s.members ∧ (overwritePart d slots a b passes
    pattern invert s).guard = s.guard ∧ (overwritePart d slots a b passes pattern invert s).trust = s.trust ∧ (overwritePart d slots a b
    passes pattern invert s).now = s.now ∧ (overwritePart d slots a b passes pattern invert s).freeCtr = s.freeCtr ∧ (overwritePart d
    slots a b passes pattern invert s).pending = s.pending := by simp [overwritePart]

/-- `wipePart` changes `out` only. -/
@[simp] theorem wipePart_frame (w : WipeJob) (a : Nat) (b : Nat) (s : State) :
    (wipePart w a b s).mode = s.mode ∧ (wipePart w a b s).power = s.power ∧ (wipePart w a b s).stop = s.stop ∧ (wipePart w a b
    s).recorder = s.recorder ∧ (wipePart w a b s).ports = s.ports ∧ (wipePart w a b s).fns = s.fns ∧ (wipePart w a b s).ctls = s.ctls ∧
    (wipePart w a b s).cache = s.cache ∧ (wipePart w a b s).reads = s.reads ∧ (wipePart w a b s).decks = s.decks ∧ (wipePart w a b
    s).gauge = s.gauge ∧ (wipePart w a b s).vault = s.vault ∧ (wipePart w a b s).fabric = s.fabric ∧ (wipePart w a b s).sched = s.sched
    ∧ (wipePart w a b s).feats = s.feats ∧ (wipePart w a b s).members = s.members ∧ (wipePart w a b s).guard = s.guard ∧ (wipePart w a b
    s).trust = s.trust ∧ (wipePart w a b s).now = s.now ∧ (wipePart w a b s).freeCtr = s.freeCtr ∧ (wipePart w a b s).pending =
    s.pending := by
  simp only [wipePart]
  (repeat' split) <;> (first | rfl | simp (disch := (intros; (try dsimp only); (repeat' split) <;> (first | rfl | simp | skip))))

/-- `dropPages` changes `cache`, `vault` only. -/
@[simp] theorem dropPages_frame (nsid : Nat) (s : State) :
    (dropPages nsid s).mode = s.mode ∧ (dropPages nsid s).power = s.power ∧ (dropPages nsid s).stop = s.stop ∧ (dropPages nsid
    s).recorder = s.recorder ∧ (dropPages nsid s).ports = s.ports ∧ (dropPages nsid s).fns = s.fns ∧ (dropPages nsid s).ctls = s.ctls ∧
    (dropPages nsid s).reads = s.reads ∧ (dropPages nsid s).decks = s.decks ∧ (dropPages nsid s).gauge = s.gauge ∧ (dropPages nsid
    s).fabric = s.fabric ∧ (dropPages nsid s).sched = s.sched ∧ (dropPages nsid s).feats = s.feats ∧ (dropPages nsid s).members =
    s.members ∧ (dropPages nsid s).guard = s.guard ∧ (dropPages nsid s).trust = s.trust ∧ (dropPages nsid s).now = s.now ∧ (dropPages
    nsid s).freeCtr = s.freeCtr ∧ (dropPages nsid s).out = s.out ∧ (dropPages nsid s).pending = s.pending := by simp [dropPages]

/-- `wipeAll` changes `stop`, `recorder`, `ports`, `fns`, `ctls`, `cache`, `reads`, `decks`, `vault`, `members`, `guard`, `out` only. -/
@[simp] theorem wipeAll_frame (overwrite : Bool) (s : State) :
    (wipeAll overwrite s).mode = s.mode ∧ (wipeAll overwrite s).power = s.power ∧ (wipeAll overwrite s).gauge = s.gauge ∧ (wipeAll
    overwrite s).fabric = s.fabric ∧ (wipeAll overwrite s).sched = s.sched ∧ (wipeAll overwrite s).feats = s.feats ∧ (wipeAll overwrite
    s).trust = s.trust ∧ (wipeAll overwrite s).now = s.now ∧ (wipeAll overwrite s).freeCtr = s.freeCtr ∧ (wipeAll overwrite s).pending =
    s.pending := by
  simp only [wipeAll]
  (repeat' split) <;> (first | rfl | simp (disch := (intros; (try dsimp only); (repeat' split) <;> (first | rfl | simp | skip))))

/-- `rekey` changes `decks`, `freeCtr` only. -/
@[simp] theorem rekey_frame (s : State) :
    (rekey s).mode = s.mode ∧ (rekey s).power = s.power ∧ (rekey s).stop = s.stop ∧ (rekey s).recorder = s.recorder ∧ (rekey s).ports =
    s.ports ∧ (rekey s).fns = s.fns ∧ (rekey s).ctls = s.ctls ∧ (rekey s).cache = s.cache ∧ (rekey s).reads = s.reads ∧ (rekey s).gauge
    = s.gauge ∧ (rekey s).vault = s.vault ∧ (rekey s).fabric = s.fabric ∧ (rekey s).sched = s.sched ∧ (rekey s).feats = s.feats ∧ (rekey
    s).members = s.members ∧ (rekey s).guard = s.guard ∧ (rekey s).trust = s.trust ∧ (rekey s).now = s.now ∧ (rekey s).out = s.out ∧
    (rekey s).pending = s.pending := by
  simp only [rekey]
  (repeat' split) <;> (first | rfl | simp (disch := (intros; (try dsimp only); (repeat' split) <;> (first | rfl | simp | skip))))

/-- `endWaiting` changes `ctls` only. -/
@[simp] theorem endWaiting_frame (opcode : Nat) (f : RobEntry → Bool) (s : State) :
    (endWaiting opcode f s).mode = s.mode ∧ (endWaiting opcode f s).power = s.power ∧ (endWaiting opcode f s).stop = s.stop ∧
    (endWaiting opcode f s).recorder = s.recorder ∧ (endWaiting opcode f s).ports = s.ports ∧ (endWaiting opcode f s).fns = s.fns ∧
    (endWaiting opcode f s).cache = s.cache ∧ (endWaiting opcode f s).reads = s.reads ∧ (endWaiting opcode f s).decks = s.decks ∧
    (endWaiting opcode f s).gauge = s.gauge ∧ (endWaiting opcode f s).vault = s.vault ∧ (endWaiting opcode f s).fabric = s.fabric ∧
    (endWaiting opcode f s).sched = s.sched ∧ (endWaiting opcode f s).feats = s.feats ∧ (endWaiting opcode f s).members = s.members ∧
    (endWaiting opcode f s).guard = s.guard ∧ (endWaiting opcode f s).trust = s.trust ∧ (endWaiting opcode f s).now = s.now ∧
    (endWaiting opcode f s).freeCtr = s.freeCtr ∧ (endWaiting opcode f s).out = s.out ∧ (endWaiting opcode f s).pending = s.pending := by simp [endWaiting]

/-- `putWipe` changes `decks` only. -/
@[simp] theorem putWipe_frame (w : WipeJob) (s : State) :
    (putWipe w s).mode = s.mode ∧ (putWipe w s).power = s.power ∧ (putWipe w s).stop = s.stop ∧ (putWipe w s).recorder = s.recorder ∧
    (putWipe w s).ports = s.ports ∧ (putWipe w s).fns = s.fns ∧ (putWipe w s).ctls = s.ctls ∧ (putWipe w s).cache = s.cache ∧ (putWipe w
    s).reads = s.reads ∧ (putWipe w s).gauge = s.gauge ∧ (putWipe w s).vault = s.vault ∧ (putWipe w s).fabric = s.fabric ∧ (putWipe w
    s).sched = s.sched ∧ (putWipe w s).feats = s.feats ∧ (putWipe w s).members = s.members ∧ (putWipe w s).guard = s.guard ∧ (putWipe w
    s).trust = s.trust ∧ (putWipe w s).now = s.now ∧ (putWipe w s).freeCtr = s.freeCtr ∧ (putWipe w s).out = s.out ∧ (putWipe w
    s).pending = s.pending := by simp [putWipe]

/-- `deallocHands` changes `decks`, `members`, `out` only. -/
@[simp] theorem deallocHands_frame (d : Deck) (v : Volume) (zero : Bool) (s : State) :
    (deallocHands d v zero s).mode = s.mode ∧ (deallocHands d v zero s).power = s.power ∧ (deallocHands d v zero s).stop = s.stop ∧
    (deallocHands d v zero s).recorder = s.recorder ∧ (deallocHands d v zero s).ports = s.ports ∧ (deallocHands d v zero s).fns = s.fns
    ∧ (deallocHands d v zero s).ctls = s.ctls ∧ (deallocHands d v zero s).cache = s.cache ∧ (deallocHands d v zero s).reads = s.reads ∧
    (deallocHands d v zero s).gauge = s.gauge ∧ (deallocHands d v zero s).vault = s.vault ∧ (deallocHands d v zero s).fabric = s.fabric
    ∧ (deallocHands d v zero s).sched = s.sched ∧ (deallocHands d v zero s).feats = s.feats ∧ (deallocHands d v zero s).guard = s.guard
    ∧ (deallocHands d v zero s).trust = s.trust ∧ (deallocHands d v zero s).now = s.now ∧ (deallocHands d v zero s).freeCtr = s.freeCtr
    ∧ (deallocHands d v zero s).pending = s.pending := by simp [deallocHands]

/-- `formatOne` changes `stop`, `recorder`, `ports`, `fns`, `ctls`, `cache`, `reads`, `decks`, `vault`, `members`, `guard`, `freeCtr`, `out` only. -/
@[simp] theorem formatOne_frame (lbaf : Nat) (dps : Nat) (ses : Nat) (s : State) (nsid : Nat) :
    (formatOne lbaf dps ses s nsid).mode = s.mode ∧ (formatOne lbaf dps ses s nsid).power = s.power ∧ (formatOne lbaf dps ses s
    nsid).gauge = s.gauge ∧ (formatOne lbaf dps ses s nsid).fabric = s.fabric ∧ (formatOne lbaf dps ses s nsid).sched = s.sched ∧
    (formatOne lbaf dps ses s nsid).feats = s.feats ∧ (formatOne lbaf dps ses s nsid).trust = s.trust ∧ (formatOne lbaf dps ses s
    nsid).now = s.now ∧ (formatOne lbaf dps ses s nsid).pending = s.pending := by
  simp only [formatOne]
  (repeat' split) <;> (first | rfl | simp)

/-- `dropWipe` changes `decks` only. -/
@[simp] theorem dropWipe_frame (s : State) :
    (dropWipe s).mode = s.mode ∧ (dropWipe s).power = s.power ∧ (dropWipe s).stop = s.stop ∧ (dropWipe s).recorder = s.recorder ∧
    (dropWipe s).ports = s.ports ∧ (dropWipe s).fns = s.fns ∧ (dropWipe s).ctls = s.ctls ∧ (dropWipe s).cache = s.cache ∧ (dropWipe
    s).reads = s.reads ∧ (dropWipe s).gauge = s.gauge ∧ (dropWipe s).vault = s.vault ∧ (dropWipe s).fabric = s.fabric ∧ (dropWipe
    s).sched = s.sched ∧ (dropWipe s).feats = s.feats ∧ (dropWipe s).members = s.members ∧ (dropWipe s).guard = s.guard ∧ (dropWipe
    s).trust = s.trust ∧ (dropWipe s).now = s.now ∧ (dropWipe s).freeCtr = s.freeCtr ∧ (dropWipe s).out = s.out ∧ (dropWipe s).pending =
    s.pending := by simp [dropWipe]

end Sys2Proof.Machine
end

