-- ==== Sys2Proof/Laws/Mi.lean ====
section
/-!
SUPPORT. The frames of the operations of Machine/Mi.lean: which units of the state each leaves alone.
-/

namespace Sys2Proof.Machine

/-- `miAnswer` changes `power`, `freeCtr` only. -/
@[simp] theorem miAnswer_frame (req : Nat) (param : Nat) (value : Nat) (s : State) :
    (miAnswer req param value s).2.mode = s.mode ∧ (miAnswer req param value s).2.stop = s.stop ∧ (miAnswer req param value
    s).2.recorder = s.recorder ∧ (miAnswer req param value s).2.ports = s.ports ∧ (miAnswer req param value s).2.fns = s.fns ∧ (miAnswer
    req param value s).2.ctls = s.ctls ∧ (miAnswer req param value s).2.cache = s.cache ∧ (miAnswer req param value s).2.reads = s.reads
    ∧ (miAnswer req param value s).2.decks = s.decks ∧ (miAnswer req param value s).2.gauge = s.gauge ∧ (miAnswer req param value
    s).2.vault = s.vault ∧ (miAnswer req param value s).2.fabric = s.fabric ∧ (miAnswer req param value s).2.sched = s.sched ∧ (miAnswer
    req param value s).2.feats = s.feats ∧ (miAnswer req param value s).2.members = s.members ∧ (miAnswer req param value s).2.guard =
    s.guard ∧ (miAnswer req param value s).2.trust = s.trust ∧ (miAnswer req param value s).2.now = s.now ∧ (miAnswer req param value
    s).2.out = s.out ∧ (miAnswer req param value s).2.pending = s.pending := by
  simp only [miAnswer]
  (repeat' split) <;> (first | rfl | simp)

/-- `miReply` changes `power`, `freeCtr`, `out` only. -/
@[simp] theorem miReply_frame (args : MiArgs) (req : Nat) (value : Nat) (s : State) :
    (miReply args req value s).mode = s.mode ∧ (miReply args req value s).stop = s.stop ∧ (miReply args req value s).recorder =
    s.recorder ∧ (miReply args req value s).ports = s.ports ∧ (miReply args req value s).fns = s.fns ∧ (miReply args req value s).ctls =
    s.ctls ∧ (miReply args req value s).cache = s.cache ∧ (miReply args req value s).reads = s.reads ∧ (miReply args req value s).decks
    = s.decks ∧ (miReply args req value s).gauge = s.gauge ∧ (miReply args req value s).vault = s.vault ∧ (miReply args req value
    s).fabric = s.fabric ∧ (miReply args req value s).sched = s.sched ∧ (miReply args req value s).feats = s.feats ∧ (miReply args req
    value s).members = s.members ∧ (miReply args req value s).guard = s.guard ∧ (miReply args req value s).trust = s.trust ∧ (miReply
    args req value s).now = s.now ∧ (miReply args req value s).pending = s.pending := by simp [miReply]

/-- `sendAnswer` changes `power`, `freeCtr` only. -/
@[simp] theorem sendAnswer_frame (ctl : Nat) (request : Nat) (args : MiArgs) (b : MiBody) (s : State) :
    (sendAnswer ctl request args b s).2.mode = s.mode ∧ (sendAnswer ctl request args b s).2.stop = s.stop ∧ (sendAnswer ctl request args
    b s).2.recorder = s.recorder ∧ (sendAnswer ctl request args b s).2.ports = s.ports ∧ (sendAnswer ctl request args b s).2.fns = s.fns
    ∧ (sendAnswer ctl request args b s).2.ctls = s.ctls ∧ (sendAnswer ctl request args b s).2.cache = s.cache ∧ (sendAnswer ctl request
    args b s).2.reads = s.reads ∧ (sendAnswer ctl request args b s).2.decks = s.decks ∧ (sendAnswer ctl request args b s).2.gauge =
    s.gauge ∧ (sendAnswer ctl request args b s).2.vault = s.vault ∧ (sendAnswer ctl request args b s).2.fabric = s.fabric ∧ (sendAnswer
    ctl request args b s).2.sched = s.sched ∧ (sendAnswer ctl request args b s).2.feats = s.feats ∧ (sendAnswer ctl request args b
    s).2.members = s.members ∧ (sendAnswer ctl request args b s).2.guard = s.guard ∧ (sendAnswer ctl request args b s).2.trust = s.trust
    ∧ (sendAnswer ctl request args b s).2.now = s.now ∧ (sendAnswer ctl request args b s).2.out = s.out ∧ (sendAnswer ctl request args b
    s).2.pending = s.pending := by
  simp only [sendAnswer]
  (repeat' split) <;> (first | rfl | simp)

end Sys2Proof.Machine
end

