-- ==== Sys2Proof/Laws/HostLink.lean ====
section
/-!
SUPPORT. The frames of the operations of Machine/HostLink.lean: which units of the state each leaves alone.
-/

namespace Sys2Proof.Machine

/-- `loseLink` changes `stop`, `recorder`, `ports`, `fns`, `ctls`, `cache`, `reads`, `decks`, `members`, `guard`, `trust`, `out` only. -/
@[simp] theorem loseLink_frame (port : Nat) (bit : Option Nat) (s : State) :
    (loseLink port bit s).mode = s.mode ∧ (loseLink port bit s).power = s.power ∧ (loseLink port bit s).gauge = s.gauge ∧ (loseLink port
    bit s).vault = s.vault ∧ (loseLink port bit s).fabric = s.fabric ∧ (loseLink port bit s).sched = s.sched ∧ (loseLink port bit
    s).feats = s.feats ∧ (loseLink port bit s).now = s.now ∧ (loseLink port bit s).freeCtr = s.freeCtr ∧ (loseLink port bit s).pending =
    s.pending := by
  simp only [loseLink]
  (repeat' split) <;> (first | rfl | simp)

/-- `doeWrite` changes `fns` only. -/
@[simp] theorem doeWrite_frame (fn : Nat) (v : BitVec 32) (s : State) :
    (doeWrite fn v s).mode = s.mode ∧ (doeWrite fn v s).power = s.power ∧ (doeWrite fn v s).stop = s.stop ∧ (doeWrite fn v s).recorder =
    s.recorder ∧ (doeWrite fn v s).ports = s.ports ∧ (doeWrite fn v s).ctls = s.ctls ∧ (doeWrite fn v s).cache = s.cache ∧ (doeWrite fn
    v s).reads = s.reads ∧ (doeWrite fn v s).decks = s.decks ∧ (doeWrite fn v s).gauge = s.gauge ∧ (doeWrite fn v s).vault = s.vault ∧
    (doeWrite fn v s).fabric = s.fabric ∧ (doeWrite fn v s).sched = s.sched ∧ (doeWrite fn v s).feats = s.feats ∧ (doeWrite fn v
    s).members = s.members ∧ (doeWrite fn v s).guard = s.guard ∧ (doeWrite fn v s).trust = s.trust ∧ (doeWrite fn v s).now = s.now ∧
    (doeWrite fn v s).freeCtr = s.freeCtr ∧ (doeWrite fn v s).out = s.out ∧ (doeWrite fn v s).pending = s.pending := by simp [doeWrite]

/-- `enterD3` changes `fns` only. -/
@[simp] theorem enterD3_frame (fn : Nat) (s : State) :
    (enterD3 fn s).mode = s.mode ∧ (enterD3 fn s).power = s.power ∧ (enterD3 fn s).stop = s.stop ∧ (enterD3 fn s).recorder = s.recorder
    ∧ (enterD3 fn s).ports = s.ports ∧ (enterD3 fn s).ctls = s.ctls ∧ (enterD3 fn s).cache = s.cache ∧ (enterD3 fn s).reads = s.reads ∧
    (enterD3 fn s).decks = s.decks ∧ (enterD3 fn s).gauge = s.gauge ∧ (enterD3 fn s).vault = s.vault ∧ (enterD3 fn s).fabric = s.fabric
    ∧ (enterD3 fn s).sched = s.sched ∧ (enterD3 fn s).feats = s.feats ∧ (enterD3 fn s).members = s.members ∧ (enterD3 fn s).guard =
    s.guard ∧ (enterD3 fn s).trust = s.trust ∧ (enterD3 fn s).now = s.now ∧ (enterD3 fn s).freeCtr = s.freeCtr ∧ (enterD3 fn s).out =
    s.out ∧ (enterD3 fn s).pending = s.pending := by simp [enterD3]

/-- `postAll` changes `ports`, `fns`, `ctls`, `out` only. -/
@[simp] theorem postAll_frame (ctl : Nat) (sqid : Nat) (x0 : Nat) (x1 : State) :
    (postAll ctl sqid x0 x1).mode = x1.mode ∧ (postAll ctl sqid x0 x1).power = x1.power ∧ (postAll ctl sqid x0 x1).stop = x1.stop ∧
    (postAll ctl sqid x0 x1).recorder = x1.recorder ∧ (postAll ctl sqid x0 x1).cache = x1.cache ∧ (postAll ctl sqid x0 x1).reads =
    x1.reads ∧ (postAll ctl sqid x0 x1).decks = x1.decks ∧ (postAll ctl sqid x0 x1).gauge = x1.gauge ∧ (postAll ctl sqid x0 x1).vault =
    x1.vault ∧ (postAll ctl sqid x0 x1).fabric = x1.fabric ∧ (postAll ctl sqid x0 x1).sched = x1.sched ∧ (postAll ctl sqid x0 x1).feats
    = x1.feats ∧ (postAll ctl sqid x0 x1).members = x1.members ∧ (postAll ctl sqid x0 x1).guard = x1.guard ∧ (postAll ctl sqid x0
    x1).trust = x1.trust ∧ (postAll ctl sqid x0 x1).now = x1.now ∧ (postAll ctl sqid x0 x1).freeCtr = x1.freeCtr ∧ (postAll ctl sqid x0
    x1).pending = x1.pending := by
  induction x0 generalizing x1 with
  | zero => simp [postAll]
  | succ n ih => simp [postAll, ih]

/-- `leaveD3` changes `ports`, `fns`, `ctls`, `out` only. -/
@[simp] theorem leaveD3_frame (fn : Nat) (s : State) :
    (leaveD3 fn s).mode = s.mode ∧ (leaveD3 fn s).power = s.power ∧ (leaveD3 fn s).stop = s.stop ∧ (leaveD3 fn s).recorder = s.recorder
    ∧ (leaveD3 fn s).cache = s.cache ∧ (leaveD3 fn s).reads = s.reads ∧ (leaveD3 fn s).decks = s.decks ∧ (leaveD3 fn s).gauge = s.gauge
    ∧ (leaveD3 fn s).vault = s.vault ∧ (leaveD3 fn s).fabric = s.fabric ∧ (leaveD3 fn s).sched = s.sched ∧ (leaveD3 fn s).feats =
    s.feats ∧ (leaveD3 fn s).members = s.members ∧ (leaveD3 fn s).guard = s.guard ∧ (leaveD3 fn s).trust = s.trust ∧ (leaveD3 fn s).now
    = s.now ∧ (leaveD3 fn s).freeCtr = s.freeCtr ∧ (leaveD3 fn s).pending = s.pending := by simp [leaveD3]

/-- `flReset` changes `stop`, `recorder`, `ports`, `fns`, `ctls`, `cache`, `reads`, `decks`, `members`, `guard`, `trust`, `out` only. -/
@[simp] theorem flReset_frame (fn : Nat) (s : State) :
    (flReset fn s).mode = s.mode ∧ (flReset fn s).power = s.power ∧ (flReset fn s).gauge = s.gauge ∧ (flReset fn s).vault = s.vault ∧
    (flReset fn s).fabric = s.fabric ∧ (flReset fn s).sched = s.sched ∧ (flReset fn s).feats = s.feats ∧ (flReset fn s).now = s.now ∧
    (flReset fn s).freeCtr = s.freeCtr ∧ (flReset fn s).pending = s.pending := by simp [flReset]

/-- `doeGo` changes `fns` only. -/
@[simp] theorem doeGo_frame (fn : Nat) (s : State) :
    (doeGo fn s).mode = s.mode ∧ (doeGo fn s).power = s.power ∧ (doeGo fn s).stop = s.stop ∧ (doeGo fn s).recorder = s.recorder ∧ (doeGo
    fn s).ports = s.ports ∧ (doeGo fn s).ctls = s.ctls ∧ (doeGo fn s).cache = s.cache ∧ (doeGo fn s).reads = s.reads ∧ (doeGo fn
    s).decks = s.decks ∧ (doeGo fn s).gauge = s.gauge ∧ (doeGo fn s).vault = s.vault ∧ (doeGo fn s).fabric = s.fabric ∧ (doeGo fn
    s).sched = s.sched ∧ (doeGo fn s).feats = s.feats ∧ (doeGo fn s).members = s.members ∧ (doeGo fn s).guard = s.guard ∧ (doeGo fn
    s).trust = s.trust ∧ (doeGo fn s).now = s.now ∧ (doeGo fn s).freeCtr = s.freeCtr ∧ (doeGo fn s).out = s.out ∧ (doeGo fn s).pending =
    s.pending := by simp [doeGo]

/-- `cfgWrite` changes `stop`, `recorder`, `ports`, `fns`, `ctls`, `cache`, `reads`, `decks`, `members`, `guard`, `trust`, `out` only. -/
@[simp] theorem cfgWrite_frame (fn : Nat) (off : Nat) (v : BitVec 32) (s : State) :
    (cfgWrite fn off v s).mode = s.mode ∧ (cfgWrite fn off v s).power = s.power ∧ (cfgWrite fn off v s).gauge = s.gauge ∧ (cfgWrite fn
    off v s).vault = s.vault ∧ (cfgWrite fn off v s).fabric = s.fabric ∧ (cfgWrite fn off v s).sched = s.sched ∧ (cfgWrite fn off v
    s).feats = s.feats ∧ (cfgWrite fn off v s).now = s.now ∧ (cfgWrite fn off v s).freeCtr = s.freeCtr ∧ (cfgWrite fn off v s).pending =
    s.pending := by simp [cfgWrite]

end Sys2Proof.Machine
end

