-- ==== Sys2Proof/Laws/Reset.lean ====
section
/-!
SUPPORT. The frames of the operations of Machine/Reset.lean: which units of the state each leaves alone.
-/

namespace Sys2Proof.Machine

/-- `dropFlush` changes `vault` only. -/
@[simp] theorem dropFlush_frame (s : State) :
    (dropFlush s).mode = s.mode ∧ (dropFlush s).power = s.power ∧ (dropFlush s).stop = s.stop ∧ (dropFlush s).recorder = s.recorder ∧
    (dropFlush s).ports = s.ports ∧ (dropFlush s).fns = s.fns ∧ (dropFlush s).ctls = s.ctls ∧ (dropFlush s).cache = s.cache ∧ (dropFlush
    s).reads = s.reads ∧ (dropFlush s).decks = s.decks ∧ (dropFlush s).gauge = s.gauge ∧ (dropFlush s).fabric = s.fabric ∧ (dropFlush
    s).sched = s.sched ∧ (dropFlush s).feats = s.feats ∧ (dropFlush s).members = s.members ∧ (dropFlush s).guard = s.guard ∧ (dropFlush
    s).trust = s.trust ∧ (dropFlush s).now = s.now ∧ (dropFlush s).freeCtr = s.freeCtr ∧ (dropFlush s).out = s.out ∧ (dropFlush
    s).pending = s.pending := by
  simp only [dropFlush]
  (repeat' split) <;> (first | rfl | simp)

/-- `retentionLost` changes `power`, `recorder` only. -/
@[simp] theorem retentionLost_frame (s : State) :
    (retentionLost s).mode = s.mode ∧ (retentionLost s).stop = s.stop ∧ (retentionLost s).ports = s.ports ∧ (retentionLost s).fns =
    s.fns ∧ (retentionLost s).ctls = s.ctls ∧ (retentionLost s).cache = s.cache ∧ (retentionLost s).reads = s.reads ∧ (retentionLost
    s).decks = s.decks ∧ (retentionLost s).gauge = s.gauge ∧ (retentionLost s).vault = s.vault ∧ (retentionLost s).fabric = s.fabric ∧
    (retentionLost s).sched = s.sched ∧ (retentionLost s).feats = s.feats ∧ (retentionLost s).members = s.members ∧ (retentionLost
    s).guard = s.guard ∧ (retentionLost s).trust = s.trust ∧ (retentionLost s).now = s.now ∧ (retentionLost s).freeCtr = s.freeCtr ∧
    (retentionLost s).out = s.out ∧ (retentionLost s).pending = s.pending := by simp [retentionLost]

/-- `loadCal` changes `recorder`, `gauge`, `trust` only. -/
@[simp] theorem loadCal_frame (s : State) :
    (loadCal s).mode = s.mode ∧ (loadCal s).power = s.power ∧ (loadCal s).stop = s.stop ∧ (loadCal s).ports = s.ports ∧ (loadCal s).fns
    = s.fns ∧ (loadCal s).ctls = s.ctls ∧ (loadCal s).cache = s.cache ∧ (loadCal s).reads = s.reads ∧ (loadCal s).decks = s.decks ∧
    (loadCal s).vault = s.vault ∧ (loadCal s).fabric = s.fabric ∧ (loadCal s).sched = s.sched ∧ (loadCal s).feats = s.feats ∧ (loadCal
    s).members = s.members ∧ (loadCal s).guard = s.guard ∧ (loadCal s).now = s.now ∧ (loadCal s).freeCtr = s.freeCtr ∧ (loadCal s).out =
    s.out ∧ (loadCal s).pending = s.pending := by
  simp only [loadCal]
  (repeat' split) <;> (first | rfl | simp)

/-- `noteTornStop` changes `recorder` only. -/
@[simp] theorem noteTornStop_frame (s : State) :
    (noteTornStop s).mode = s.mode ∧ (noteTornStop s).power = s.power ∧ (noteTornStop s).stop = s.stop ∧ (noteTornStop s).ports =
    s.ports ∧ (noteTornStop s).fns = s.fns ∧ (noteTornStop s).ctls = s.ctls ∧ (noteTornStop s).cache = s.cache ∧ (noteTornStop s).reads
    = s.reads ∧ (noteTornStop s).decks = s.decks ∧ (noteTornStop s).gauge = s.gauge ∧ (noteTornStop s).vault = s.vault ∧ (noteTornStop
    s).fabric = s.fabric ∧ (noteTornStop s).sched = s.sched ∧ (noteTornStop s).feats = s.feats ∧ (noteTornStop s).members = s.members ∧
    (noteTornStop s).guard = s.guard ∧ (noteTornStop s).trust = s.trust ∧ (noteTornStop s).now = s.now ∧ (noteTornStop s).freeCtr =
    s.freeCtr ∧ (noteTornStop s).out = s.out ∧ (noteTornStop s).pending = s.pending := by simp [noteTornStop]

/-- `schedStart` changes `sched`, `out` only. -/
@[simp] theorem schedStart_frame (s : State) :
    (schedStart s).mode = s.mode ∧ (schedStart s).power = s.power ∧ (schedStart s).stop = s.stop ∧ (schedStart s).recorder = s.recorder
    ∧ (schedStart s).ports = s.ports ∧ (schedStart s).fns = s.fns ∧ (schedStart s).ctls = s.ctls ∧ (schedStart s).cache = s.cache ∧
    (schedStart s).reads = s.reads ∧ (schedStart s).decks = s.decks ∧ (schedStart s).gauge = s.gauge ∧ (schedStart s).vault = s.vault ∧
    (schedStart s).fabric = s.fabric ∧ (schedStart s).feats = s.feats ∧ (schedStart s).members = s.members ∧ (schedStart s).guard =
    s.guard ∧ (schedStart s).trust = s.trust ∧ (schedStart s).now = s.now ∧ (schedStart s).freeCtr = s.freeCtr ∧ (schedStart s).pending
    = s.pending := by simp [schedStart]

/-- `bootRom` changes `mode`, `recorder`, `ports`, `decks`, `gauge`, `vault`, `sched`, `trust`, `out` only. -/
@[simp] theorem bootRom_frame (s : State) :
    (bootRom s).power = s.power ∧ (bootRom s).stop = s.stop ∧ (bootRom s).fns = s.fns ∧ (bootRom s).ctls = s.ctls ∧ (bootRom s).cache =
    s.cache ∧ (bootRom s).reads = s.reads ∧ (bootRom s).fabric = s.fabric ∧ (bootRom s).feats = s.feats ∧ (bootRom s).members =
    s.members ∧ (bootRom s).guard = s.guard ∧ (bootRom s).now = s.now ∧ (bootRom s).freeCtr = s.freeCtr ∧ (bootRom s).pending =
    s.pending := by simp [bootRom]

/-- `railsOff` changes `power`, `out` only. -/
@[simp] theorem railsOff_frame (s : State) :
    (railsOff s).mode = s.mode ∧ (railsOff s).stop = s.stop ∧ (railsOff s).recorder = s.recorder ∧ (railsOff s).ports = s.ports ∧
    (railsOff s).fns = s.fns ∧ (railsOff s).ctls = s.ctls ∧ (railsOff s).cache = s.cache ∧ (railsOff s).reads = s.reads ∧ (railsOff
    s).decks = s.decks ∧ (railsOff s).gauge = s.gauge ∧ (railsOff s).vault = s.vault ∧ (railsOff s).fabric = s.fabric ∧ (railsOff
    s).sched = s.sched ∧ (railsOff s).feats = s.feats ∧ (railsOff s).members = s.members ∧ (railsOff s).guard = s.guard ∧ (railsOff
    s).trust = s.trust ∧ (railsOff s).now = s.now ∧ (railsOff s).freeCtr = s.freeCtr ∧ (railsOff s).pending = s.pending := by simp [railsOff]

/-- `mapSlots` changes `members` only. -/
@[simp] theorem mapSlots_frame (f : Slot → Slot) (s : State) :
    (mapSlots f s).mode = s.mode ∧ (mapSlots f s).power = s.power ∧ (mapSlots f s).stop = s.stop ∧ (mapSlots f s).recorder = s.recorder
    ∧ (mapSlots f s).ports = s.ports ∧ (mapSlots f s).fns = s.fns ∧ (mapSlots f s).ctls = s.ctls ∧ (mapSlots f s).cache = s.cache ∧
    (mapSlots f s).reads = s.reads ∧ (mapSlots f s).decks = s.decks ∧ (mapSlots f s).gauge = s.gauge ∧ (mapSlots f s).vault = s.vault ∧
    (mapSlots f s).fabric = s.fabric ∧ (mapSlots f s).sched = s.sched ∧ (mapSlots f s).feats = s.feats ∧ (mapSlots f s).guard = s.guard
    ∧ (mapSlots f s).trust = s.trust ∧ (mapSlots f s).now = s.now ∧ (mapSlots f s).freeCtr = s.freeCtr ∧ (mapSlots f s).out = s.out ∧
    (mapSlots f s).pending = s.pending := by simp [mapSlots]

/-- `hostAfterReset` changes `stop`, `recorder`, `ports`, `fns`, `ctls`, `cache`, `reads`, `decks`, `members`, `guard`, `trust`, `out` only. -/
@[simp] theorem hostAfterReset_frame (s : State) :
    (hostAfterReset s).mode = s.mode ∧ (hostAfterReset s).power = s.power ∧ (hostAfterReset s).gauge = s.gauge ∧ (hostAfterReset
    s).vault = s.vault ∧ (hostAfterReset s).fabric = s.fabric ∧ (hostAfterReset s).sched = s.sched ∧ (hostAfterReset s).feats = s.feats
    ∧ (hostAfterReset s).now = s.now ∧ (hostAfterReset s).freeCtr = s.freeCtr ∧ (hostAfterReset s).pending = s.pending := by simp [hostAfterReset]

/-- `reloadFeats` changes `decks`, `feats` only. -/
@[simp] theorem reloadFeats_frame (s : State) :
    (reloadFeats s).mode = s.mode ∧ (reloadFeats s).power = s.power ∧ (reloadFeats s).stop = s.stop ∧ (reloadFeats s).recorder =
    s.recorder ∧ (reloadFeats s).ports = s.ports ∧ (reloadFeats s).fns = s.fns ∧ (reloadFeats s).ctls = s.ctls ∧ (reloadFeats s).cache =
    s.cache ∧ (reloadFeats s).reads = s.reads ∧ (reloadFeats s).gauge = s.gauge ∧ (reloadFeats s).vault = s.vault ∧ (reloadFeats
    s).fabric = s.fabric ∧ (reloadFeats s).sched = s.sched ∧ (reloadFeats s).members = s.members ∧ (reloadFeats s).guard = s.guard ∧
    (reloadFeats s).trust = s.trust ∧ (reloadFeats s).now = s.now ∧ (reloadFeats s).freeCtr = s.freeCtr ∧ (reloadFeats s).out = s.out ∧
    (reloadFeats s).pending = s.pending := by simp [reloadFeats]

/-- `reloadPs` changes `mode` only. -/
@[simp] theorem reloadPs_frame (s : State) :
    (reloadPs s).power = s.power ∧ (reloadPs s).stop = s.stop ∧ (reloadPs s).recorder = s.recorder ∧ (reloadPs s).ports = s.ports ∧
    (reloadPs s).fns = s.fns ∧ (reloadPs s).ctls = s.ctls ∧ (reloadPs s).cache = s.cache ∧ (reloadPs s).reads = s.reads ∧ (reloadPs
    s).decks = s.decks ∧ (reloadPs s).gauge = s.gauge ∧ (reloadPs s).vault = s.vault ∧ (reloadPs s).fabric = s.fabric ∧ (reloadPs
    s).sched = s.sched ∧ (reloadPs s).feats = s.feats ∧ (reloadPs s).members = s.members ∧ (reloadPs s).guard = s.guard ∧ (reloadPs
    s).trust = s.trust ∧ (reloadPs s).now = s.now ∧ (reloadPs s).freeCtr = s.freeCtr ∧ (reloadPs s).out = s.out ∧ (reloadPs s).pending =
    s.pending := by simp [reloadPs]

/-- `decksAfter` changes `decks` only. -/
@[simp] theorem decksAfter_frame (sealed : Bool) (s : State) :
    (decksAfter sealed s).mode = s.mode ∧ (decksAfter sealed s).power = s.power ∧ (decksAfter sealed s).stop = s.stop ∧ (decksAfter
    sealed s).recorder = s.recorder ∧ (decksAfter sealed s).ports = s.ports ∧ (decksAfter sealed s).fns = s.fns ∧ (decksAfter sealed
    s).ctls = s.ctls ∧ (decksAfter sealed s).cache = s.cache ∧ (decksAfter sealed s).reads = s.reads ∧ (decksAfter sealed s).gauge =
    s.gauge ∧ (decksAfter sealed s).vault = s.vault ∧ (decksAfter sealed s).fabric = s.fabric ∧ (decksAfter sealed s).sched = s.sched ∧
    (decksAfter sealed s).feats = s.feats ∧ (decksAfter sealed s).members = s.members ∧ (decksAfter sealed s).guard = s.guard ∧
    (decksAfter sealed s).trust = s.trust ∧ (decksAfter sealed s).now = s.now ∧ (decksAfter sealed s).freeCtr = s.freeCtr ∧ (decksAfter
    sealed s).out = s.out ∧ (decksAfter sealed s).pending = s.pending := by simp [decksAfter]

/-- `unitsAfterReset` changes `mode`, `stop`, `recorder`, `ports`, `fns`, `ctls`, `cache`, `reads`, `decks`, `gauge`, `vault`, `fabric`, `feats`, `members`, `guard`, `trust`, `out` only. -/
@[simp] theorem unitsAfterReset_frame (s : State) :
    (unitsAfterReset s).power = s.power ∧ (unitsAfterReset s).sched = s.sched ∧ (unitsAfterReset s).now = s.now ∧ (unitsAfterReset
    s).freeCtr = s.freeCtr ∧ (unitsAfterReset s).pending = s.pending := by simp [unitsAfterReset]

/-- `resetCause` changes `mode` only. -/
@[simp] theorem resetCause_frame (n : Nat) (s : State) :
    (resetCause n s).power = s.power ∧ (resetCause n s).stop = s.stop ∧ (resetCause n s).recorder = s.recorder ∧ (resetCause n s).ports
    = s.ports ∧ (resetCause n s).fns = s.fns ∧ (resetCause n s).ctls = s.ctls ∧ (resetCause n s).cache = s.cache ∧ (resetCause n
    s).reads = s.reads ∧ (resetCause n s).decks = s.decks ∧ (resetCause n s).gauge = s.gauge ∧ (resetCause n s).vault = s.vault ∧
    (resetCause n s).fabric = s.fabric ∧ (resetCause n s).sched = s.sched ∧ (resetCause n s).feats = s.feats ∧ (resetCause n s).members
    = s.members ∧ (resetCause n s).guard = s.guard ∧ (resetCause n s).trust = s.trust ∧ (resetCause n s).now = s.now ∧ (resetCause n
    s).freeCtr = s.freeCtr ∧ (resetCause n s).out = s.out ∧ (resetCause n s).pending = s.pending := by simp [resetCause]

/-- `disarmShip` changes `power`, `recorder` only. -/
@[simp] theorem disarmShip_frame (s : State) :
    (disarmShip s).mode = s.mode ∧ (disarmShip s).stop = s.stop ∧ (disarmShip s).ports = s.ports ∧ (disarmShip s).fns = s.fns ∧
    (disarmShip s).ctls = s.ctls ∧ (disarmShip s).cache = s.cache ∧ (disarmShip s).reads = s.reads ∧ (disarmShip s).decks = s.decks ∧
    (disarmShip s).gauge = s.gauge ∧ (disarmShip s).vault = s.vault ∧ (disarmShip s).fabric = s.fabric ∧ (disarmShip s).sched = s.sched
    ∧ (disarmShip s).feats = s.feats ∧ (disarmShip s).members = s.members ∧ (disarmShip s).guard = s.guard ∧ (disarmShip s).trust =
    s.trust ∧ (disarmShip s).now = s.now ∧ (disarmShip s).freeCtr = s.freeCtr ∧ (disarmShip s).out = s.out ∧ (disarmShip s).pending =
    s.pending := by simp [disarmShip]

/-- `deviceReset` changes `mode`, `power`, `stop`, `recorder`, `ports`, `fns`, `ctls`, `cache`, `reads`, `decks`, `gauge`, `vault`, `fabric`, `sched`, `feats`, `members`, `guard`, `trust`, `out` only. -/
@[simp] theorem deviceReset_frame (cause : Nat) (hold : Bool) (s : State) :
    (deviceReset cause hold s).now = s.now ∧ (deviceReset cause hold s).freeCtr = s.freeCtr ∧ (deviceReset cause hold s).pending =
    s.pending := by simp [deviceReset]

/-- `unitsUnpowered` changes `mode`, `recorder`, `ports`, `fns`, `ctls`, `cache`, `reads`, `decks`, `fabric`, `feats`, `members`, `guard`, `trust` only. -/
@[simp] theorem unitsUnpowered_frame (s : State) :
    (unitsUnpowered s).power = s.power ∧ (unitsUnpowered s).stop = s.stop ∧ (unitsUnpowered s).gauge = s.gauge ∧ (unitsUnpowered
    s).vault = s.vault ∧ (unitsUnpowered s).sched = s.sched ∧ (unitsUnpowered s).now = s.now ∧ (unitsUnpowered s).freeCtr = s.freeCtr ∧
    (unitsUnpowered s).out = s.out ∧ (unitsUnpowered s).pending = s.pending := by simp [unitsUnpowered]

/-- `settleStandby` changes `mode`, `power`, `recorder`, `guard` only. -/
@[simp] theorem settleStandby_frame (s : State) :
    (settleStandby s).stop = s.stop ∧ (settleStandby s).ports = s.ports ∧ (settleStandby s).fns = s.fns ∧ (settleStandby s).ctls =
    s.ctls ∧ (settleStandby s).cache = s.cache ∧ (settleStandby s).reads = s.reads ∧ (settleStandby s).decks = s.decks ∧ (settleStandby
    s).gauge = s.gauge ∧ (settleStandby s).vault = s.vault ∧ (settleStandby s).fabric = s.fabric ∧ (settleStandby s).sched = s.sched ∧
    (settleStandby s).feats = s.feats ∧ (settleStandby s).members = s.members ∧ (settleStandby s).trust = s.trust ∧ (settleStandby
    s).now = s.now ∧ (settleStandby s).freeCtr = s.freeCtr ∧ (settleStandby s).out = s.out ∧ (settleStandby s).pending = s.pending := by simp [settleStandby]

/-- `mainOff` changes `mode`, `power`, `recorder`, `ports`, `fns`, `ctls`, `cache`, `reads`, `decks`, `fabric`, `feats`, `members`, `guard`, `trust`, `out` only. -/
@[simp] theorem mainOff_frame (s : State) :
    (mainOff s).stop = s.stop ∧ (mainOff s).gauge = s.gauge ∧ (mainOff s).vault = s.vault ∧ (mainOff s).sched = s.sched ∧ (mainOff
    s).now = s.now ∧ (mainOff s).freeCtr = s.freeCtr ∧ (mainOff s).pending = s.pending := by simp [mainOff]

/-- `coldDomain` changes `mode`, `recorder`, `decks`, `fabric`, `sched`, `members`, `guard` only. -/
@[simp] theorem coldDomain_frame (s : State) :
    (coldDomain s).power = s.power ∧ (coldDomain s).stop = s.stop ∧ (coldDomain s).ports = s.ports ∧ (coldDomain s).fns = s.fns ∧
    (coldDomain s).ctls = s.ctls ∧ (coldDomain s).cache = s.cache ∧ (coldDomain s).reads = s.reads ∧ (coldDomain s).gauge = s.gauge ∧
    (coldDomain s).vault = s.vault ∧ (coldDomain s).feats = s.feats ∧ (coldDomain s).trust = s.trust ∧ (coldDomain s).now = s.now ∧
    (coldDomain s).freeCtr = s.freeCtr ∧ (coldDomain s).out = s.out ∧ (coldDomain s).pending = s.pending := by simp [coldDomain]

end Sys2Proof.Machine
end

