-- ==== Sys2Proof/Laws/PowerFail.lean ====
section
/-!
SUPPORT. The frames of the operations of Machine/PowerFail.lean: which units of the state each leaves alone.
-/

namespace Sys2Proof.Machine

/-- `sentinelStops` changes `power`, `recorder` only. -/
@[simp] theorem sentinelStops_frame (s : State) :
    (sentinelStops s).mode = s.mode ∧ (sentinelStops s).stop = s.stop ∧ (sentinelStops s).ports = s.ports ∧ (sentinelStops s).fns =
    s.fns ∧ (sentinelStops s).ctls = s.ctls ∧ (sentinelStops s).cache = s.cache ∧ (sentinelStops s).reads = s.reads ∧ (sentinelStops
    s).decks = s.decks ∧ (sentinelStops s).gauge = s.gauge ∧ (sentinelStops s).vault = s.vault ∧ (sentinelStops s).fabric = s.fabric ∧
    (sentinelStops s).sched = s.sched ∧ (sentinelStops s).feats = s.feats ∧ (sentinelStops s).members = s.members ∧ (sentinelStops
    s).guard = s.guard ∧ (sentinelStops s).trust = s.trust ∧ (sentinelStops s).now = s.now ∧ (sentinelStops s).freeCtr = s.freeCtr ∧
    (sentinelStops s).out = s.out ∧ (sentinelStops s).pending = s.pending := by simp [sentinelStops]

/-- `beginFlush` changes `recorder`, `vault` only. -/
@[simp] theorem beginFlush_frame (abrupt : Option Nat) (s : State) :
    (beginFlush abrupt s).mode = s.mode ∧ (beginFlush abrupt s).power = s.power ∧ (beginFlush abrupt s).stop = s.stop ∧ (beginFlush
    abrupt s).ports = s.ports ∧ (beginFlush abrupt s).fns = s.fns ∧ (beginFlush abrupt s).ctls = s.ctls ∧ (beginFlush abrupt s).cache =
    s.cache ∧ (beginFlush abrupt s).reads = s.reads ∧ (beginFlush abrupt s).decks = s.decks ∧ (beginFlush abrupt s).gauge = s.gauge ∧
    (beginFlush abrupt s).fabric = s.fabric ∧ (beginFlush abrupt s).sched = s.sched ∧ (beginFlush abrupt s).feats = s.feats ∧
    (beginFlush abrupt s).members = s.members ∧ (beginFlush abrupt s).guard = s.guard ∧ (beginFlush abrupt s).trust = s.trust ∧
    (beginFlush abrupt s).now = s.now ∧ (beginFlush abrupt s).freeCtr = s.freeCtr ∧ (beginFlush abrupt s).out = s.out ∧ (beginFlush
    abrupt s).pending = s.pending := by simp [beginFlush]

/-- `countTrip` changes `power`, `recorder` only. -/
@[simp] theorem countTrip_frame (s : State) :
    (countTrip s).mode = s.mode ∧ (countTrip s).stop = s.stop ∧ (countTrip s).ports = s.ports ∧ (countTrip s).fns = s.fns ∧ (countTrip
    s).ctls = s.ctls ∧ (countTrip s).cache = s.cache ∧ (countTrip s).reads = s.reads ∧ (countTrip s).decks = s.decks ∧ (countTrip
    s).gauge = s.gauge ∧ (countTrip s).vault = s.vault ∧ (countTrip s).fabric = s.fabric ∧ (countTrip s).sched = s.sched ∧ (countTrip
    s).feats = s.feats ∧ (countTrip s).members = s.members ∧ (countTrip s).guard = s.guard ∧ (countTrip s).trust = s.trust ∧ (countTrip
    s).now = s.now ∧ (countTrip s).freeCtr = s.freeCtr ∧ (countTrip s).out = s.out ∧ (countTrip s).pending = s.pending := by simp [countTrip]

/-- `leaveHoldup` changes `mode`, `power`, `recorder`, `ports`, `fns`, `ctls`, `cache`, `reads`, `decks`, `fabric`, `feats`, `members`, `guard`, `trust`, `out` only. -/
@[simp] theorem leaveHoldup_frame (s : State) :
    (leaveHoldup s).stop = s.stop ∧ (leaveHoldup s).gauge = s.gauge ∧ (leaveHoldup s).vault = s.vault ∧ (leaveHoldup s).sched = s.sched
    ∧ (leaveHoldup s).now = s.now ∧ (leaveHoldup s).freeCtr = s.freeCtr ∧ (leaveHoldup s).pending = s.pending := by simp [leaveHoldup]

/-- `abortFlush` changes `mode`, `power`, `recorder`, `ports`, `fns`, `ctls`, `cache`, `reads`, `decks`, `vault`, `fabric`, `feats`, `members`, `guard`, `trust`, `out` only. -/
@[simp] theorem abortFlush_frame (cutoff : Bool) (pages : Nat) (ms : Nat) (mj : Nat) (mv : Nat) (s : State) :
    (abortFlush cutoff pages ms mj mv s).stop = s.stop ∧ (abortFlush cutoff pages ms mj mv s).gauge = s.gauge ∧ (abortFlush cutoff pages
    ms mj mv s).sched = s.sched ∧ (abortFlush cutoff pages ms mj mv s).now = s.now ∧ (abortFlush cutoff pages ms mj mv s).freeCtr =
    s.freeCtr ∧ (abortFlush cutoff pages ms mj mv s).pending = s.pending := by simp [abortFlush]

/-- `dropGaugeWork` changes `power`, `recorder`, `gauge`, `out` only. -/
@[simp] theorem dropGaugeWork_frame (s : State) :
    (dropGaugeWork s).mode = s.mode ∧ (dropGaugeWork s).stop = s.stop ∧ (dropGaugeWork s).ports = s.ports ∧ (dropGaugeWork s).fns =
    s.fns ∧ (dropGaugeWork s).ctls = s.ctls ∧ (dropGaugeWork s).cache = s.cache ∧ (dropGaugeWork s).reads = s.reads ∧ (dropGaugeWork
    s).decks = s.decks ∧ (dropGaugeWork s).vault = s.vault ∧ (dropGaugeWork s).fabric = s.fabric ∧ (dropGaugeWork s).sched = s.sched ∧
    (dropGaugeWork s).feats = s.feats ∧ (dropGaugeWork s).members = s.members ∧ (dropGaugeWork s).guard = s.guard ∧ (dropGaugeWork
    s).trust = s.trust ∧ (dropGaugeWork s).now = s.now ∧ (dropGaugeWork s).freeCtr = s.freeCtr ∧ (dropGaugeWork s).pending = s.pending := by simp [dropGaugeWork]

/-- `membersOff` changes `recorder`, `members` only. -/
@[simp] theorem membersOff_frame (s : State) :
    (membersOff s).mode = s.mode ∧ (membersOff s).power = s.power ∧ (membersOff s).stop = s.stop ∧ (membersOff s).ports = s.ports ∧
    (membersOff s).fns = s.fns ∧ (membersOff s).ctls = s.ctls ∧ (membersOff s).cache = s.cache ∧ (membersOff s).reads = s.reads ∧
    (membersOff s).decks = s.decks ∧ (membersOff s).gauge = s.gauge ∧ (membersOff s).vault = s.vault ∧ (membersOff s).fabric = s.fabric
    ∧ (membersOff s).sched = s.sched ∧ (membersOff s).feats = s.feats ∧ (membersOff s).guard = s.guard ∧ (membersOff s).trust = s.trust
    ∧ (membersOff s).now = s.now ∧ (membersOff s).freeCtr = s.freeCtr ∧ (membersOff s).out = s.out ∧ (membersOff s).pending = s.pending := by simp [membersOff]

/-- `abandonAll` changes `mode`, `ports`, `fns`, `ctls`, `reads`, `members`, `trust` only. -/
@[simp] theorem abandonAll_frame (s : State) :
    (abandonAll s).power = s.power ∧ (abandonAll s).stop = s.stop ∧ (abandonAll s).recorder = s.recorder ∧ (abandonAll s).cache =
    s.cache ∧ (abandonAll s).decks = s.decks ∧ (abandonAll s).gauge = s.gauge ∧ (abandonAll s).vault = s.vault ∧ (abandonAll s).fabric =
    s.fabric ∧ (abandonAll s).sched = s.sched ∧ (abandonAll s).feats = s.feats ∧ (abandonAll s).guard = s.guard ∧ (abandonAll s).now =
    s.now ∧ (abandonAll s).freeCtr = s.freeCtr ∧ (abandonAll s).out = s.out ∧ (abandonAll s).pending = s.pending := by simp [abandonAll]

/-- `enterHoldup` changes `mode`, `power`, `recorder`, `ports`, `fns`, `ctls`, `cache`, `reads`, `decks`, `vault`, `fabric`, `sched`, `members`, `guard`, `trust`, `out` only. -/
@[simp] theorem enterHoldup_frame (why : Nat) (s : State) :
    (enterHoldup why s).stop = s.stop ∧ (enterHoldup why s).gauge = s.gauge ∧ (enterHoldup why s).feats = s.feats ∧ (enterHoldup why
    s).now = s.now ∧ (enterHoldup why s).freeCtr = s.freeCtr ∧ (enterHoldup why s).pending = s.pending := by simp [enterHoldup]

/-- `powerTrip` changes `mode`, `power`, `recorder`, `ports`, `fns`, `ctls`, `cache`, `reads`, `decks`, `gauge`, `vault`, `fabric`, `sched`, `feats`, `members`, `guard`, `trust`, `out` only. -/
@[simp] theorem powerTrip_frame (why : Nat) (s : State) :
    (powerTrip why s).stop = s.stop ∧ (powerTrip why s).now = s.now ∧ (powerTrip why s).freeCtr = s.freeCtr ∧ (powerTrip why s).pending
    = s.pending := by simp [powerTrip]

/-- `programImage` changes `out` only. -/
@[simp] theorem programImage_frame (im : VaultImage) (s : State) :
    (programImage im s).mode = s.mode ∧ (programImage im s).power = s.power ∧ (programImage im s).stop = s.stop ∧ (programImage im
    s).recorder = s.recorder ∧ (programImage im s).ports = s.ports ∧ (programImage im s).fns = s.fns ∧ (programImage im s).ctls = s.ctls
    ∧ (programImage im s).cache = s.cache ∧ (programImage im s).reads = s.reads ∧ (programImage im s).decks = s.decks ∧ (programImage im
    s).gauge = s.gauge ∧ (programImage im s).vault = s.vault ∧ (programImage im s).fabric = s.fabric ∧ (programImage im s).sched =
    s.sched ∧ (programImage im s).feats = s.feats ∧ (programImage im s).members = s.members ∧ (programImage im s).guard = s.guard ∧
    (programImage im s).trust = s.trust ∧ (programImage im s).now = s.now ∧ (programImage im s).freeCtr = s.freeCtr ∧ (programImage im
    s).pending = s.pending := by
  simp only [programImage]
  (repeat' split) <;> (first | rfl | simp (disch := (intros; (try dsimp only); (repeat' split) <;> (first | rfl | simp | skip))))

/-- `markBad` changes `vault`, `out` only. -/
@[simp] theorem markBad_frame (block : Nat) (s : State) :
    (markBad block s).mode = s.mode ∧ (markBad block s).power = s.power ∧ (markBad block s).stop = s.stop ∧ (markBad block s).recorder =
    s.recorder ∧ (markBad block s).ports = s.ports ∧ (markBad block s).fns = s.fns ∧ (markBad block s).ctls = s.ctls ∧ (markBad block
    s).cache = s.cache ∧ (markBad block s).reads = s.reads ∧ (markBad block s).decks = s.decks ∧ (markBad block s).gauge = s.gauge ∧
    (markBad block s).fabric = s.fabric ∧ (markBad block s).sched = s.sched ∧ (markBad block s).feats = s.feats ∧ (markBad block
    s).members = s.members ∧ (markBad block s).guard = s.guard ∧ (markBad block s).trust = s.trust ∧ (markBad block s).now = s.now ∧
    (markBad block s).freeCtr = s.freeCtr ∧ (markBad block s).pending = s.pending := by simp [markBad]

/-- `markWritten` changes `vault` only. -/
@[simp] theorem markWritten_frame (area : Nat) (s : State) :
    (markWritten area s).mode = s.mode ∧ (markWritten area s).power = s.power ∧ (markWritten area s).stop = s.stop ∧ (markWritten area
    s).recorder = s.recorder ∧ (markWritten area s).ports = s.ports ∧ (markWritten area s).fns = s.fns ∧ (markWritten area s).ctls =
    s.ctls ∧ (markWritten area s).cache = s.cache ∧ (markWritten area s).reads = s.reads ∧ (markWritten area s).decks = s.decks ∧
    (markWritten area s).gauge = s.gauge ∧ (markWritten area s).fabric = s.fabric ∧ (markWritten area s).sched = s.sched ∧ (markWritten
    area s).feats = s.feats ∧ (markWritten area s).members = s.members ∧ (markWritten area s).guard = s.guard ∧ (markWritten area
    s).trust = s.trust ∧ (markWritten area s).now = s.now ∧ (markWritten area s).freeCtr = s.freeCtr ∧ (markWritten area s).out = s.out
    ∧ (markWritten area s).pending = s.pending := by simp [markWritten]

/-- `endFlush` changes `stop`, `recorder`, `vault`, `out` only. -/
@[simp] theorem endFlush_frame (im : VaultImage) (j : FlushJob) (ms : Nat) (mj : Nat) (minMv : Nat) (s : State) :
    (endFlush im j ms mj minMv s).mode = s.mode ∧ (endFlush im j ms mj minMv s).power = s.power ∧ (endFlush im j ms mj minMv s).ports =
    s.ports ∧ (endFlush im j ms mj minMv s).fns = s.fns ∧ (endFlush im j ms mj minMv s).ctls = s.ctls ∧ (endFlush im j ms mj minMv
    s).cache = s.cache ∧ (endFlush im j ms mj minMv s).reads = s.reads ∧ (endFlush im j ms mj minMv s).decks = s.decks ∧ (endFlush im j
    ms mj minMv s).gauge = s.gauge ∧ (endFlush im j ms mj minMv s).fabric = s.fabric ∧ (endFlush im j ms mj minMv s).sched = s.sched ∧
    (endFlush im j ms mj minMv s).feats = s.feats ∧ (endFlush im j ms mj minMv s).members = s.members ∧ (endFlush im j ms mj minMv
    s).guard = s.guard ∧ (endFlush im j ms mj minMv s).trust = s.trust ∧ (endFlush im j ms mj minMv s).now = s.now ∧ (endFlush im j ms
    mj minMv s).freeCtr = s.freeCtr ∧ (endFlush im j ms mj minMv s).pending = s.pending := by simp [endFlush]

end Sys2Proof.Machine
end

