-- ==== Sys2Proof/Laws/Boot.lean ====
section
/-!
SUPPORT. The frames of the operations of Machine/Boot.lean: which units of the state each leaves alone.
-/

namespace Sys2Proof.Machine

/-- `mendFound` changes `recorder`, `ports`, `fns`, `ctls`, `decks`, `members`, `guard`, `out` only. -/
@[simp] theorem mendFound_frame (id : Nat) (hd : Nat) (row : Nat) (d : Deck) (rs : List BlockRead) (s : State) :
    (mendFound id hd row d rs s).mode = s.mode ∧ (mendFound id hd row d rs s).power = s.power ∧ (mendFound id hd row d rs s).stop =
    s.stop ∧ (mendFound id hd row d rs s).cache = s.cache ∧ (mendFound id hd row d rs s).reads = s.reads ∧ (mendFound id hd row d rs
    s).gauge = s.gauge ∧ (mendFound id hd row d rs s).vault = s.vault ∧ (mendFound id hd row d rs s).fabric = s.fabric ∧ (mendFound id
    hd row d rs s).sched = s.sched ∧ (mendFound id hd row d rs s).feats = s.feats ∧ (mendFound id hd row d rs s).trust = s.trust ∧
    (mendFound id hd row d rs s).now = s.now ∧ (mendFound id hd row d rs s).freeCtr = s.freeCtr ∧ (mendFound id hd row d rs s).pending =
    s.pending := by simp [mendFound]

/-- `directSecond` changes `recorder`, `decks`, `members`, `out` only. -/
theorem directSecond_frame (id : Nat) (nsid : Nat) (page : Nat) (new : Bytes) (reads : List (Nat × Nat × List BlockRead)) (s : State) (t : State) (h : directSecond id nsid page new reads s = some t) :
    t.mode = s.mode ∧ t.power = s.power ∧ t.stop = s.stop ∧ t.ports = s.ports ∧ t.fns = s.fns ∧ t.ctls = s.ctls ∧ t.cache = s.cache ∧
    t.reads = s.reads ∧ t.gauge = s.gauge ∧ t.vault = s.vault ∧ t.fabric = s.fabric ∧ t.sched = s.sched ∧ t.feats = s.feats ∧ t.guard =
    s.guard ∧ t.trust = s.trust ∧ t.now = s.now ∧ t.freeCtr = s.freeCtr ∧ t.pending = s.pending := by
  simp only [directSecond] at h
  (repeat' split at h) <;> (first | (simp at h; done) | (simp at h; subst h; simp) | simp_all)

/-- `relistPage` changes `recorder`, `ports`, `fns`, `ctls`, `decks`, `members`, `guard`, `out` only. -/
@[simp] theorem relistPage_frame (p : ImagePage) (v : Volume) (s : State) :
    (relistPage p v s).mode = s.mode ∧ (relistPage p v s).power = s.power ∧ (relistPage p v s).stop = s.stop ∧ (relistPage p v s).cache
    = s.cache ∧ (relistPage p v s).reads = s.reads ∧ (relistPage p v s).gauge = s.gauge ∧ (relistPage p v s).vault = s.vault ∧
    (relistPage p v s).fabric = s.fabric ∧ (relistPage p v s).sched = s.sched ∧ (relistPage p v s).feats = s.feats ∧ (relistPage p v
    s).trust = s.trust ∧ (relistPage p v s).now = s.now ∧ (relistPage p v s).freeCtr = s.freeCtr ∧ (relistPage p v s).pending =
    s.pending := by simp [relistPage]

/-- `directRow` changes `recorder`, `ports`, `fns`, `ctls`, `decks`, `members`, `guard`, `out` only. -/
@[simp] theorem directRow_frame (p : ImagePage) (id : Nat) (hd : Nat) (row : Nat) (c : Nat) (v : Volume) (rs : List BlockRead) (d : Deck) (s : State) :
    (directRow p id hd row c v rs d s).2.mode = s.mode ∧ (directRow p id hd row c v rs d s).2.power = s.power ∧ (directRow p id hd row c
    v rs d s).2.stop = s.stop ∧ (directRow p id hd row c v rs d s).2.cache = s.cache ∧ (directRow p id hd row c v rs d s).2.reads =
    s.reads ∧ (directRow p id hd row c v rs d s).2.gauge = s.gauge ∧ (directRow p id hd row c v rs d s).2.vault = s.vault ∧ (directRow p
    id hd row c v rs d s).2.fabric = s.fabric ∧ (directRow p id hd row c v rs d s).2.sched = s.sched ∧ (directRow p id hd row c v rs d
    s).2.feats = s.feats ∧ (directRow p id hd row c v rs d s).2.trust = s.trust ∧ (directRow p id hd row c v rs d s).2.now = s.now ∧
    (directRow p id hd row c v rs d s).2.freeCtr = s.freeCtr ∧ (directRow p id hd row c v rs d s).2.pending = s.pending := by simp [directRow]

/-- `pageDone` changes `vault` only. -/
@[simp] theorem pageDone_frame (p : ImagePage) (s : State) :
    (pageDone p s).mode = s.mode ∧ (pageDone p s).power = s.power ∧ (pageDone p s).stop = s.stop ∧ (pageDone p s).recorder = s.recorder
    ∧ (pageDone p s).ports = s.ports ∧ (pageDone p s).fns = s.fns ∧ (pageDone p s).ctls = s.ctls ∧ (pageDone p s).cache = s.cache ∧
    (pageDone p s).reads = s.reads ∧ (pageDone p s).decks = s.decks ∧ (pageDone p s).gauge = s.gauge ∧ (pageDone p s).fabric = s.fabric
    ∧ (pageDone p s).sched = s.sched ∧ (pageDone p s).feats = s.feats ∧ (pageDone p s).members = s.members ∧ (pageDone p s).guard =
    s.guard ∧ (pageDone p s).trust = s.trust ∧ (pageDone p s).now = s.now ∧ (pageDone p s).freeCtr = s.freeCtr ∧ (pageDone p s).out =
    s.out ∧ (pageDone p s).pending = s.pending := by simp [pageDone]

/-- `directUpdate` changes `recorder`, `ports`, `fns`, `ctls`, `decks`, `vault`, `members`, `guard`, `out` only. -/
theorem directUpdate_frame (p : ImagePage) (id : Nat) (hd : Nat) (row : Nat) (c : Nat) (v : Volume) (reads : List (Nat × Nat × List BlockRead)) (s : State) (t : State) (h : directUpdate p id hd row c v reads s = some t) :
    t.mode = s.mode ∧ t.power = s.power ∧ t.stop = s.stop ∧ t.cache = s.cache ∧ t.reads = s.reads ∧ t.gauge = s.gauge ∧ t.fabric =
    s.fabric ∧ t.sched = s.sched ∧ t.feats = s.feats ∧ t.trust = s.trust ∧ t.now = s.now ∧ t.freeCtr = s.freeCtr ∧ t.pending = s.pending := by
  simp only [directUpdate] at h
  split at h
  · simp only [Option.some.injEq] at h; subst h; simp
  · split at h
    · simp at h
    · split at h
      · simp only [Option.some.injEq] at h; subst h; simp
      · split at h
        · rename_i u hu
          have hr : u = (directRow p id hd row c v (readsFor reads id hd) _ (mendFound id hd row _ (readsFor reads id hd) s)).2 := (congrArg Prod.snd hu).symm
          simp only [Option.some.injEq] at h; subst h; subst hr; simp
        · rename_i new u hu
          have hr : u = (directRow p id hd row c v (readsFor reads id hd) _ (mendFound id hd row _ (readsFor reads id hd) s)).2 := (congrArg Prod.snd hu).symm
          have hf := directSecond_frame _ _ _ _ _ _ _ h
          subst hr
          simp [hf]

/-- `restoreRedeal` changes `recorder`, `ports`, `fns`, `ctls`, `decks`, `members`, `out` only. -/
@[simp] theorem restoreRedeal_frame (id : Nat) (found : Bool) (recs : List JRec) (s : State) :
    (restoreRedeal id found recs s).mode = s.mode ∧ (restoreRedeal id found recs s).power = s.power ∧ (restoreRedeal id found recs
    s).stop = s.stop ∧ (restoreRedeal id found recs s).cache = s.cache ∧ (restoreRedeal id found recs s).reads = s.reads ∧
    (restoreRedeal id found recs s).gauge = s.gauge ∧ (restoreRedeal id found recs s).vault = s.vault ∧ (restoreRedeal id found recs
    s).fabric = s.fabric ∧ (restoreRedeal id found recs s).sched = s.sched ∧ (restoreRedeal id found recs s).feats = s.feats ∧
    (restoreRedeal id found recs s).guard = s.guard ∧ (restoreRedeal id found recs s).trust = s.trust ∧ (restoreRedeal id found recs
    s).now = s.now ∧ (restoreRedeal id found recs s).freeCtr = s.freeCtr ∧ (restoreRedeal id found recs s).pending = s.pending := by
  simp only [restoreRedeal]
  (repeat' split) <;> (first | rfl | simp)

/-- `resumeRedeal` changes `recorder`, `decks` only. -/
@[simp] theorem resumeRedeal_frame (id : Nat) (s : State) :
    (resumeRedeal id s).mode = s.mode ∧ (resumeRedeal id s).power = s.power ∧ (resumeRedeal id s).stop = s.stop ∧ (resumeRedeal id
    s).ports = s.ports ∧ (resumeRedeal id s).fns = s.fns ∧ (resumeRedeal id s).ctls = s.ctls ∧ (resumeRedeal id s).cache = s.cache ∧
    (resumeRedeal id s).reads = s.reads ∧ (resumeRedeal id s).gauge = s.gauge ∧ (resumeRedeal id s).vault = s.vault ∧ (resumeRedeal id
    s).fabric = s.fabric ∧ (resumeRedeal id s).sched = s.sched ∧ (resumeRedeal id s).feats = s.feats ∧ (resumeRedeal id s).members =
    s.members ∧ (resumeRedeal id s).guard = s.guard ∧ (resumeRedeal id s).trust = s.trust ∧ (resumeRedeal id s).now = s.now ∧
    (resumeRedeal id s).freeCtr = s.freeCtr ∧ (resumeRedeal id s).out = s.out ∧ (resumeRedeal id s).pending = s.pending := by
  simp only [resumeRedeal]
  (repeat' split) <;> (first | rfl | simp)

/-- `bootTests` changes `mode`, `stop`, `recorder`, `ports`, `fns`, `ctls`, `cache`, `reads`, `decks`, `gauge`, `vault`, `fabric`, `members`, `guard`, `freeCtr`, `out` only. -/
@[simp] theorem bootTests_frame (b : BootChecks) (s : State) :
    (bootTests b s).power = s.power ∧ (bootTests b s).sched = s.sched ∧ (bootTests b s).feats = s.feats ∧ (bootTests b s).trust =
    s.trust ∧ (bootTests b s).now = s.now ∧ (bootTests b s).pending = s.pending := by simp [bootTests]

/-- `dropCache` changes `mode`, `cache`, `decks` only. -/
@[simp] theorem dropCache_frame (s : State) :
    (dropCache s).power = s.power ∧ (dropCache s).stop = s.stop ∧ (dropCache s).recorder = s.recorder ∧ (dropCache s).ports = s.ports ∧
    (dropCache s).fns = s.fns ∧ (dropCache s).ctls = s.ctls ∧ (dropCache s).reads = s.reads ∧ (dropCache s).gauge = s.gauge ∧ (dropCache
    s).vault = s.vault ∧ (dropCache s).fabric = s.fabric ∧ (dropCache s).sched = s.sched ∧ (dropCache s).feats = s.feats ∧ (dropCache
    s).members = s.members ∧ (dropCache s).guard = s.guard ∧ (dropCache s).trust = s.trust ∧ (dropCache s).now = s.now ∧ (dropCache
    s).freeCtr = s.freeCtr ∧ (dropCache s).out = s.out ∧ (dropCache s).pending = s.pending := by simp [dropCache]

/-- `settleKeepers` changes `mode`, `recorder`, `ports`, `fns`, `ctls`, `decks`, `members`, `guard`, `freeCtr`, `out` only. -/
@[simp] theorem settleKeepers_frame (id : Nat) (s : State) :
    (settleKeepers id s).power = s.power ∧ (settleKeepers id s).stop = s.stop ∧ (settleKeepers id s).cache = s.cache ∧ (settleKeepers id
    s).reads = s.reads ∧ (settleKeepers id s).gauge = s.gauge ∧ (settleKeepers id s).vault = s.vault ∧ (settleKeepers id s).fabric =
    s.fabric ∧ (settleKeepers id s).sched = s.sched ∧ (settleKeepers id s).feats = s.feats ∧ (settleKeepers id s).trust = s.trust ∧
    (settleKeepers id s).now = s.now ∧ (settleKeepers id s).pending = s.pending := by
  simp only [settleKeepers]
  (repeat' split) <;> (first | rfl | simp (disch := (intros; (try dsimp only); (repeat' split) <;> (first | rfl | simp | skip))))

/-- `settleDecks` changes `mode`, `recorder`, `ports`, `fns`, `ctls`, `decks`, `members`, `guard`, `freeCtr`, `out` only. -/
@[simp] theorem settleDecks_frame (s : State) :
    (settleDecks s).power = s.power ∧ (settleDecks s).stop = s.stop ∧ (settleDecks s).cache = s.cache ∧ (settleDecks s).reads = s.reads
    ∧ (settleDecks s).gauge = s.gauge ∧ (settleDecks s).vault = s.vault ∧ (settleDecks s).fabric = s.fabric ∧ (settleDecks s).sched =
    s.sched ∧ (settleDecks s).feats = s.feats ∧ (settleDecks s).trust = s.trust ∧ (settleDecks s).now = s.now ∧ (settleDecks s).pending
    = s.pending := by simp [settleDecks]

/-- `beginService` changes `mode`, `power`, `stop`, `recorder`, `ports`, `fns`, `ctls`, `cache`, `reads`, `decks`, `members`, `guard`, `freeCtr`, `out` only. -/
@[simp] theorem beginService_frame (noServe : Nat) (noConstr : Nat) (s : State) :
    (beginService noServe noConstr s).gauge = s.gauge ∧ (beginService noServe noConstr s).vault = s.vault ∧ (beginService noServe
    noConstr s).fabric = s.fabric ∧ (beginService noServe noConstr s).sched = s.sched ∧ (beginService noServe noConstr s).feats =
    s.feats ∧ (beginService noServe noConstr s).trust = s.trust ∧ (beginService noServe noConstr s).now = s.now ∧ (beginService noServe
    noConstr s).pending = s.pending := by
  simp only [beginService]
  (repeat' split) <;> (first | rfl | simp)

/-- `markLost` changes `decks` only. -/
@[simp] theorem markLost_frame (ids : List Nat) (s : State) :
    (markLost ids s).mode = s.mode ∧ (markLost ids s).power = s.power ∧ (markLost ids s).stop = s.stop ∧ (markLost ids s).recorder =
    s.recorder ∧ (markLost ids s).ports = s.ports ∧ (markLost ids s).fns = s.fns ∧ (markLost ids s).ctls = s.ctls ∧ (markLost ids
    s).cache = s.cache ∧ (markLost ids s).reads = s.reads ∧ (markLost ids s).gauge = s.gauge ∧ (markLost ids s).vault = s.vault ∧
    (markLost ids s).fabric = s.fabric ∧ (markLost ids s).sched = s.sched ∧ (markLost ids s).feats = s.feats ∧ (markLost ids s).members
    = s.members ∧ (markLost ids s).guard = s.guard ∧ (markLost ids s).trust = s.trust ∧ (markLost ids s).now = s.now ∧ (markLost ids
    s).freeCtr = s.freeCtr ∧ (markLost ids s).out = s.out ∧ (markLost ids s).pending = s.pending := by simp [markLost]

/-- `settleRestore` changes `mode`, `power`, `stop`, `recorder`, `ports`, `fns`, `ctls`, `cache`, `reads`, `decks`, `members`, `guard`, `freeCtr`, `out` only. -/
@[simp] theorem settleRestore_frame (unclean : List Nat) (resynced : List Nat) (s : State) :
    (settleRestore unclean resynced s).gauge = s.gauge ∧ (settleRestore unclean resynced s).vault = s.vault ∧ (settleRestore unclean
    resynced s).fabric = s.fabric ∧ (settleRestore unclean resynced s).sched = s.sched ∧ (settleRestore unclean resynced s).feats =
    s.feats ∧ (settleRestore unclean resynced s).trust = s.trust ∧ (settleRestore unclean resynced s).now = s.now ∧ (settleRestore
    unclean resynced s).pending = s.pending := by simp [settleRestore]

/-- `restoreImage` changes `cache` only. -/
@[simp] theorem restoreImage_frame (ps : List ImagePage) (s : State) :
    (restoreImage ps s).2.mode = s.mode ∧ (restoreImage ps s).2.power = s.power ∧ (restoreImage ps s).2.stop = s.stop ∧ (restoreImage ps
    s).2.recorder = s.recorder ∧ (restoreImage ps s).2.ports = s.ports ∧ (restoreImage ps s).2.fns = s.fns ∧ (restoreImage ps s).2.ctls
    = s.ctls ∧ (restoreImage ps s).2.reads = s.reads ∧ (restoreImage ps s).2.decks = s.decks ∧ (restoreImage ps s).2.gauge = s.gauge ∧
    (restoreImage ps s).2.vault = s.vault ∧ (restoreImage ps s).2.fabric = s.fabric ∧ (restoreImage ps s).2.sched = s.sched ∧
    (restoreImage ps s).2.feats = s.feats ∧ (restoreImage ps s).2.members = s.members ∧ (restoreImage ps s).2.guard = s.guard ∧
    (restoreImage ps s).2.trust = s.trust ∧ (restoreImage ps s).2.now = s.now ∧ (restoreImage ps s).2.freeCtr = s.freeCtr ∧
    (restoreImage ps s).2.out = s.out ∧ (restoreImage ps s).2.pending = s.pending := by
  simp only [restoreImage]
  (repeat' split) <;> (first | rfl | simp (disch := (intros; (try dsimp only); (repeat' split) <;> (first | rfl | simp | skip))))

/-- `applySource` changes `recorder`, `ports`, `fns`, `ctls`, `cache`, `decks`, `members`, `out` only. -/
@[simp] theorem applySource_frame (id : Nat) (src : Source) (gone : List ImagePage) (s : State) :
    (applySource id src gone s).2.mode = s.mode ∧ (applySource id src gone s).2.power = s.power ∧ (applySource id src gone s).2.stop =
    s.stop ∧ (applySource id src gone s).2.reads = s.reads ∧ (applySource id src gone s).2.gauge = s.gauge ∧ (applySource id src gone
    s).2.vault = s.vault ∧ (applySource id src gone s).2.fabric = s.fabric ∧ (applySource id src gone s).2.sched = s.sched ∧
    (applySource id src gone s).2.feats = s.feats ∧ (applySource id src gone s).2.guard = s.guard ∧ (applySource id src gone s).2.trust
    = s.trust ∧ (applySource id src gone s).2.now = s.now ∧ (applySource id src gone s).2.freeCtr = s.freeCtr ∧ (applySource id src gone
    s).2.pending = s.pending := by
  simp only [applySource]
  (repeat' split) <;> (first | rfl | simp)

/-- `applyClean` changes `recorder`, `ports`, `fns`, `ctls`, `decks`, `members`, `out` only. -/
@[simp] theorem applyClean_frame (id : Nat) (s : State) :
    (applyClean id s).mode = s.mode ∧ (applyClean id s).power = s.power ∧ (applyClean id s).stop = s.stop ∧ (applyClean id s).cache =
    s.cache ∧ (applyClean id s).reads = s.reads ∧ (applyClean id s).gauge = s.gauge ∧ (applyClean id s).vault = s.vault ∧ (applyClean id
    s).fabric = s.fabric ∧ (applyClean id s).sched = s.sched ∧ (applyClean id s).feats = s.feats ∧ (applyClean id s).guard = s.guard ∧
    (applyClean id s).trust = s.trust ∧ (applyClean id s).now = s.now ∧ (applyClean id s).freeCtr = s.freeCtr ∧ (applyClean id
    s).pending = s.pending := by
  simp only [applyClean]
  (repeat' split) <;> (first | rfl | simp)

/-- `restoreDecks` changes `recorder`, `ports`, `fns`, `ctls`, `cache`, `decks`, `members`, `guard`, `out` only. -/
@[simp] theorem restoreDecks_frame (gone : List ImagePage) (s : State) :
    (restoreDecks gone s).2.2.mode = s.mode ∧ (restoreDecks gone s).2.2.power = s.power ∧ (restoreDecks gone s).2.2.stop = s.stop ∧
    (restoreDecks gone s).2.2.reads = s.reads ∧ (restoreDecks gone s).2.2.gauge = s.gauge ∧ (restoreDecks gone s).2.2.vault = s.vault ∧
    (restoreDecks gone s).2.2.fabric = s.fabric ∧ (restoreDecks gone s).2.2.sched = s.sched ∧ (restoreDecks gone s).2.2.feats = s.feats
    ∧ (restoreDecks gone s).2.2.trust = s.trust ∧ (restoreDecks gone s).2.2.now = s.now ∧ (restoreDecks gone s).2.2.freeCtr = s.freeCtr
    ∧ (restoreDecks gone s).2.2.pending = s.pending := by
  simp only [restoreDecks]
  (repeat' split) <;> (first | rfl | simp (disch := (intros; (try dsimp only); (repeat' split) <;> (first | rfl | simp | skip))))

/-- `replayHand` changes `recorder`, `ports`, `fns`, `ctls`, `decks`, `members`, `guard`, `out` only. -/
theorem replayHand_frame (id : Nat) (hd : Nat) (second : Bool) (reads : List BlockRead) (s : State) (t : State) (h : replayHand id hd second reads s = some t) :
    t.mode = s.mode ∧ t.power = s.power ∧ t.stop = s.stop ∧ t.cache = s.cache ∧ t.reads = s.reads ∧ t.gauge = s.gauge ∧ t.vault =
    s.vault ∧ t.fabric = s.fabric ∧ t.sched = s.sched ∧ t.feats = s.feats ∧ t.trust = s.trust ∧ t.now = s.now ∧ t.freeCtr = s.freeCtr ∧
    t.pending = s.pending := by
  simp only [replayHand] at h
  (repeat' apply And.intro) <;>
    (refine foldl_bind_keeps _ _ (fun u x w hw => ?_) _ _ _ h
     (repeat' split at hw) <;> first | (simp at hw; done) | (simp only [Option.some.injEq] at hw; subst hw; simp))

/-- `directPage` changes `recorder`, `ports`, `fns`, `ctls`, `decks`, `vault`, `members`, `guard`, `out` only. -/
theorem directPage_frame (p : ImagePage) (reads : List (Nat × Nat × List BlockRead)) (s : State) (t : State) (h : directPage p reads s = some t) :
    t.mode = s.mode ∧ t.power = s.power ∧ t.stop = s.stop ∧ t.cache = s.cache ∧ t.reads = s.reads ∧ t.gauge = s.gauge ∧ t.fabric =
    s.fabric ∧ t.sched = s.sched ∧ t.feats = s.feats ∧ t.trust = s.trust ∧ t.now = s.now ∧ t.freeCtr = s.freeCtr ∧ t.pending = s.pending := by
  simp only [directPage] at h
  split at h
  · simp only [Option.some.injEq] at h; subst h; simp
  · split at h
    · simp only [Option.some.injEq] at h; subst h; simp
    · split at h
      · simp only [Option.some.injEq] at h; subst h; simp
      · split at h
        · simp at h
        · rename_i u hu
          have h1 := replayHand_frame _ _ _ _ _ _ hu
          have h2 := directUpdate_frame _ _ _ _ _ _ _ _ _ h
          simp_all

/-- `directPages` changes `recorder`, `ports`, `fns`, `ctls`, `decks`, `vault`, `members`, `guard`, `out` only. -/
theorem directPages_frame (ps : List ImagePage) (reads : List (Nat × Nat × List BlockRead)) (s : State) (t : State) (h : directPages ps reads s = some t) :
    t.mode = s.mode ∧ t.power = s.power ∧ t.stop = s.stop ∧ t.cache = s.cache ∧ t.reads = s.reads ∧ t.gauge = s.gauge ∧ t.fabric =
    s.fabric ∧ t.sched = s.sched ∧ t.feats = s.feats ∧ t.trust = s.trust ∧ t.now = s.now ∧ t.freeCtr = s.freeCtr ∧ t.pending = s.pending := by
  simp only [directPages] at h
  split at h
  · simp at h
  · rename_i u hu
    simp only [Option.some.injEq] at h
    subst h
    (repeat' apply And.intro) <;>
      (refine Eq.trans ?_ (foldl_bind_keeps _ _ (fun a x b hb => by have hf := directPage_frame _ _ _ _ hb; simp only [hf]) _ _ _ hu); split <;> simp)

/-- `endRestore` changes `mode`, `power`, `stop`, `recorder`, `ports`, `fns`, `ctls`, `cache`, `reads`, `decks`, `vault`, `members`, `guard`, `freeCtr`, `out` only. -/
theorem endRestore_frame (left : List ImagePage) (reads : List (Nat × Nat × List BlockRead)) (s : State) (t : State) (h : endRestore left reads s = some t) :
    t.gauge = s.gauge ∧ t.fabric = s.fabric ∧ t.sched = s.sched ∧ t.feats = s.feats ∧ t.trust = s.trust ∧ t.now = s.now ∧ t.pending =
    s.pending := by
  simp only [endRestore] at h
  split at h
  · simp at h
  · rename_i u hu
    have h1 := directPages_frame _ _ _ _ hu
    simp only [Option.some.injEq] at h
    subst h
    simp_all

/-- `applyTable` changes `cache`, `guard` only. -/
@[simp] theorem applyTable_frame (s : State) :
    (applyTable s).mode = s.mode ∧ (applyTable s).power = s.power ∧ (applyTable s).stop = s.stop ∧ (applyTable s).recorder = s.recorder
    ∧ (applyTable s).ports = s.ports ∧ (applyTable s).fns = s.fns ∧ (applyTable s).ctls = s.ctls ∧ (applyTable s).reads = s.reads ∧
    (applyTable s).decks = s.decks ∧ (applyTable s).gauge = s.gauge ∧ (applyTable s).vault = s.vault ∧ (applyTable s).fabric = s.fabric
    ∧ (applyTable s).sched = s.sched ∧ (applyTable s).feats = s.feats ∧ (applyTable s).members = s.members ∧ (applyTable s).trust =
    s.trust ∧ (applyTable s).now = s.now ∧ (applyTable s).freeCtr = s.freeCtr ∧ (applyTable s).out = s.out ∧ (applyTable s).pending =
    s.pending := by simp [applyTable]

/-- `restoreRetained` changes `cache` only. -/
@[simp] theorem restoreRetained_frame (s : State) :
    (restoreRetained s).mode = s.mode ∧ (restoreRetained s).power = s.power ∧ (restoreRetained s).stop = s.stop ∧ (restoreRetained
    s).recorder = s.recorder ∧ (restoreRetained s).ports = s.ports ∧ (restoreRetained s).fns = s.fns ∧ (restoreRetained s).ctls = s.ctls
    ∧ (restoreRetained s).reads = s.reads ∧ (restoreRetained s).decks = s.decks ∧ (restoreRetained s).gauge = s.gauge ∧ (restoreRetained
    s).vault = s.vault ∧ (restoreRetained s).fabric = s.fabric ∧ (restoreRetained s).sched = s.sched ∧ (restoreRetained s).feats =
    s.feats ∧ (restoreRetained s).members = s.members ∧ (restoreRetained s).guard = s.guard ∧ (restoreRetained s).trust = s.trust ∧
    (restoreRetained s).now = s.now ∧ (restoreRetained s).freeCtr = s.freeCtr ∧ (restoreRetained s).out = s.out ∧ (restoreRetained
    s).pending = s.pending := by simp [restoreRetained]

/-- `restoreCache` changes `cache` only. -/
@[simp] theorem restoreCache_frame (s : State) :
    (restoreCache s).2.mode = s.mode ∧ (restoreCache s).2.power = s.power ∧ (restoreCache s).2.stop = s.stop ∧ (restoreCache
    s).2.recorder = s.recorder ∧ (restoreCache s).2.ports = s.ports ∧ (restoreCache s).2.fns = s.fns ∧ (restoreCache s).2.ctls = s.ctls
    ∧ (restoreCache s).2.reads = s.reads ∧ (restoreCache s).2.decks = s.decks ∧ (restoreCache s).2.gauge = s.gauge ∧ (restoreCache
    s).2.vault = s.vault ∧ (restoreCache s).2.fabric = s.fabric ∧ (restoreCache s).2.sched = s.sched ∧ (restoreCache s).2.feats =
    s.feats ∧ (restoreCache s).2.members = s.members ∧ (restoreCache s).2.guard = s.guard ∧ (restoreCache s).2.trust = s.trust ∧
    (restoreCache s).2.now = s.now ∧ (restoreCache s).2.freeCtr = s.freeCtr ∧ (restoreCache s).2.out = s.out ∧ (restoreCache
    s).2.pending = s.pending := by
  simp only [restoreCache]
  (repeat' split) <;> (first | rfl | simp)

/-- `bootEntries` changes `recorder`, `trust` only. -/
@[simp] theorem bootEntries_frame (ok : Bool) (s : State) :
    (bootEntries ok s).mode = s.mode ∧ (bootEntries ok s).power = s.power ∧ (bootEntries ok s).stop = s.stop ∧ (bootEntries ok s).ports
    = s.ports ∧ (bootEntries ok s).fns = s.fns ∧ (bootEntries ok s).ctls = s.ctls ∧ (bootEntries ok s).cache = s.cache ∧ (bootEntries ok
    s).reads = s.reads ∧ (bootEntries ok s).decks = s.decks ∧ (bootEntries ok s).gauge = s.gauge ∧ (bootEntries ok s).vault = s.vault ∧
    (bootEntries ok s).fabric = s.fabric ∧ (bootEntries ok s).sched = s.sched ∧ (bootEntries ok s).feats = s.feats ∧ (bootEntries ok
    s).members = s.members ∧ (bootEntries ok s).guard = s.guard ∧ (bootEntries ok s).now = s.now ∧ (bootEntries ok s).freeCtr =
    s.freeCtr ∧ (bootEntries ok s).out = s.out ∧ (bootEntries ok s).pending = s.pending := by simp [bootEntries]

end Sys2Proof.Machine
end

