-- ==== Sys2Proof/Laws/Memory.lean ====
section
/-!
SUPPORT. The canonical form of cache memory and what every write to it keeps; reading back what was written.
-/

namespace Sys2Proof.Machine

/-- The canonical form as two facts: addresses strictly rising, and no cell with the default byte. -/
theorem cellsWf_iff (l : List Host.Cell) :
    cellsWf l = true ↔ l.Pairwise (fun a b => a.1 < b.1) ∧ ∀ c ∈ l, c.2 ≠ memDefault := by
  induction l with
  | nil => simp [cellsWf]
  | cons c l ih =>
    cases l with
    | nil => simp [cellsWf]
    | cons d rest =>
      simp only [cellsWf, Bool.and_eq_true, decide_eq_true_eq, ih, List.pairwise_cons, List.mem_cons, forall_eq_or_imp]
      constructor
      · rintro ⟨⟨h0, h1⟩, ⟨h2, h3⟩, h4, h5⟩
        exact ⟨⟨⟨h1, fun a ha => Nat.lt_trans h1 (h2 a ha)⟩, h2, h3⟩, h0, h4, h5⟩
      · rintro ⟨⟨⟨h1, _⟩, h2, h3⟩, h0, h4, h5⟩
        exact ⟨⟨h0, h1⟩, ⟨h2, h3⟩, h4, h5⟩

/-- The cells of a run lie in the run, rise, and hold no default byte. -/
theorem cellsOf_spec (a : Nat) (bs : Bytes) :
    (cellsOf a bs).Pairwise (fun x y => x.1 < y.1) ∧
      ∀ c ∈ cellsOf a bs, c.2 ≠ memDefault ∧ a ≤ c.1 ∧ c.1 < a + bs.length := by
  induction bs generalizing a with
  | nil => simp [cellsOf]
  | cons b bs ih =>
    have hi := ih (a + 1)
    simp only [cellsOf, List.length_cons]
    split
    · refine ⟨hi.1, fun c hc => ?_⟩
      have := hi.2 c hc
      exact ⟨this.1, by omega, by omega⟩
    · rename_i hb
      refine ⟨List.pairwise_cons.2 ⟨fun c hc => ?_, hi.1⟩, fun c hc => ?_⟩
      · have := hi.2 c hc
        omega
      · rcases List.mem_cons.1 hc with rfl | hc
        · exact ⟨hb, by simp, by simp⟩
        · have := hi.2 c hc
          exact ⟨this.1, by omega, by omega⟩

/-- A write keeps the canonical form. -/
theorem memPut_wf (l : List Host.Cell) (a : Nat) (bs : Bytes) (h : cellsWf l = true) : cellsWf (memPut l a bs) = true := by
  rw [cellsWf_iff] at h ⊢
  obtain ⟨hp, hd⟩ := h
  have hc := cellsOf_spec a bs
  simp only [memPut]
  constructor
  · rw [List.append_assoc, List.pairwise_append, List.pairwise_append]
    refine ⟨hp.filter _, ⟨hc.1, hp.filter _, ?_⟩, ?_⟩
    · intro x hx y hy
      have h1 := hc.2 x hx
      have h2 := (List.mem_filter.1 hy).2
      simp only [decide_eq_true_eq] at h2
      omega
    · intro x hx y hy
      have h1 := (List.mem_filter.1 hx).2
      simp only [decide_eq_true_eq] at h1
      rcases List.mem_append.1 hy with hy | hy
      · have h2 := hc.2 y hy
        omega
      · have h2 := (List.mem_filter.1 hy).2
        simp only [decide_eq_true_eq] at h2
        omega
  · intro c hm
    rcases List.mem_append.1 hm with hm | hm
    · rcases List.mem_append.1 hm with hm | hm
      · exact hd c (List.mem_filter.1 hm).1
      · exact (hc.2 c hm).1
    · exact hd c (List.mem_filter.1 hm).1

/-- Writing sectors keeps the canonical form. -/
theorem writeSectors_wf (region frame : Nat) (mask zero : BitVec 8) (data : Bytes) (l : List Host.Cell) (h : cellsWf l = true) :
    cellsWf (writeSectors region frame mask zero data l) = true := by
  have : ∀ (is : List Nat) (l : List Host.Cell), cellsWf l = true → cellsWf (is.foldl (fun l i =>
      if bitOf mask i && !bitOf zero i then memPut l (frameAddr region frame + 512 * i) (sliceBytes data (512 * i) 512) else l) l) = true := by
    intro is
    induction is with
    | nil => intro l h; exact h
    | cons i is ih =>
      intro l h
      simp only [List.foldl_cons]
      apply ih
      split
      · exact memPut_wf _ _ _ h
      · exact h
  exact this _ _ h

/-- Copying sectors keeps the canonical form. -/
theorem copySectors_wf (r1 f1 r2 f2 : Nat) (mask : BitVec 8) (l : List Host.Cell) (h : cellsWf l = true) :
    cellsWf (copySectors r1 f1 r2 f2 mask l) = true := by
  have : ∀ (is : List Nat) (l : List Host.Cell), cellsWf l = true → cellsWf (is.foldl (fun l i =>
      if bitOf mask i then memPut l (frameAddr r2 f2 + 512 * i) (memRead l (frameAddr r1 f1 + 512 * i) 512) else l) l) = true := by
    intro is
    induction is with
    | nil => intro l h; exact h
    | cons i is ih =>
      intro l h
      simp only [List.foldl_cons]
      apply ih
      split
      · exact memPut_wf _ _ _ h
      · exact h
  exact this _ _ h

/-- What an address reads as in a list of cells without it. -/
theorem memGet_not_mem (l : List Host.Cell) (x : Nat) (h : ∀ c ∈ l, c.1 ≠ x) : memGet l x = memDefault := by
  induction l with
  | nil => rfl
  | cons c l ih =>
    have := h c (by simp)
    simp only [memGet, this, if_false]
    exact ih fun d hd => h d (by simp [hd])

/-- A read of an appended list looks in the first part first. -/
theorem memGet_append (l m : List Host.Cell) (x : Nat) (h : ∀ c ∈ l, c.1 ≠ x) : memGet (l ++ m) x = memGet m x := by
  induction l with
  | nil => rfl
  | cons c l ih =>
    have := h c (by simp)
    simp only [List.cons_append, memGet, this, if_false]
    exact ih fun d hd => h d (by simp [hd])

/-- A read of an appended list does not look past the last cell of the address. -/
theorem memGet_append_left (l m : List Host.Cell) (x : Nat) (h : ∀ c ∈ m, c.1 ≠ x) : memGet (l ++ m) x = memGet l x := by
  induction l with
  | nil => exact memGet_not_mem m x h
  | cons c l ih => simp only [List.cons_append, memGet, ih]

/-- Reading from the cells of a run. -/
theorem memGet_cellsOf (a : Nat) (bs : Bytes) (i : Nat) (h : i < bs.length) : memGet (cellsOf a bs) (a + i) = bs.getD i memDefault := by
  induction bs generalizing a i with
  | nil => simp at h
  | cons b bs ih =>
    simp only [cellsOf]
    have hout : ∀ c ∈ cellsOf (a + 1) bs, c.1 ≠ a := fun c hc => by have := (cellsOf_spec (a + 1) bs).2 c hc; omega
    cases i with
    | zero =>
      split
      · rename_i hb
        simp [memGet_not_mem _ a hout, hb]
      · simp [memGet]
    | succ i =>
      have e : a + (i + 1) = (a + 1) + i := by omega
      have := ih (a + 1) i (by simpa using h)
      split
      · rw [e, this]; simp
      · simp only [memGet]
        rw [if_neg (by omega), e, this]; simp

/-- A filter that keeps an address keeps what it reads as. -/
theorem memGet_filter (p : Nat → Bool) (l : List Host.Cell) (x : Nat) (hx : p x = true) :
    memGet (l.filter fun c => p c.1) x = memGet l x := by
  induction l with
  | nil => rfl
  | cons c l ih =>
    by_cases hp : p c.1 = true
    · simp [hp, memGet, ih]
    · have : c.1 ≠ x := fun e => hp (e ▸ hx)
      simp [hp, memGet, this, ih]

/-- A read of a written address gives the byte written. -/
theorem memGet_memPut_in (l : List Host.Cell) (a : Nat) (bs : Bytes) (i : Nat) (h : i < bs.length) :
    memGet (memPut l a bs) (a + i) = bs.getD i memDefault := by
  simp only [memPut, List.append_assoc]
  rw [memGet_append, memGet_append_left, memGet_cellsOf a bs i h]
  · intro c hc; have := (List.mem_filter.1 hc).2; simp at this; omega
  · intro c hc; have := (List.mem_filter.1 hc).2; simp at this; omega

/-- A write leaves every address outside the run. -/
theorem memGet_memPut_out (l : List Host.Cell) (a : Nat) (bs : Bytes) (x : Nat) (h : x < a ∨ a + bs.length ≤ x) :
    memGet (memPut l a bs) x = memGet l x := by
  simp only [memPut]
  have hc : ∀ c ∈ cellsOf a bs, c.1 ≠ x := fun c hc => by have := (cellsOf_spec a bs).2 c hc; omega
  rcases h with h | h
  · rw [List.append_assoc, memGet_append_left, memGet_filter (fun y => decide (y < a)) l x (by simpa using h)]
    intro c hm
    rcases List.mem_append.1 hm with hm | hm
    · exact hc c hm
    · have := (List.mem_filter.1 hm).2; simp at this; omega
  · rw [List.append_assoc, memGet_append, memGet_append _ _ _ hc, memGet_filter (fun y => decide (a + bs.length ≤ y)) l x (by simpa using h)]
    intro c hm; have := (List.mem_filter.1 hm).2; simp at this; omega

end Sys2Proof.Machine
end

