-- ==== Sys2Proof/Laws/Shutdown.lean ====
section
/-!
SUPPORT. The frames of the operations of Machine/Shutdown.lean: which units of the state each leaves alone.
-/

namespace Sys2Proof.Machine

/-- `beginShutdown` changes `mode`, `ports`, `ctls` only. -/
@[simp] theorem beginShutdown_frame (ctl : Nat) (kind : Nat) (s : State) :
    (beginShutdown ctl kind s).power = s.power ∧ (beginShutdown ctl kind s).stop = s.stop ∧ (beginShutdown ctl kind s).recorder =
    s.recorder ∧ (beginShutdown ctl kind s).fns = s.fns ∧ (beginShutdown ctl kind s).cache = s.cache ∧ (beginShutdown ctl kind s).reads
    = s.reads ∧ (beginShutdown ctl kind s).decks = s.decks ∧ (beginShutdown ctl kind s).gauge = s.gauge ∧ (beginShutdown ctl kind
    s).vault = s.vault ∧ (beginShutdown ctl kind s).fabric = s.fabric ∧ (beginShutdown ctl kind s).sched = s.sched ∧ (beginShutdown ctl
    kind s).feats = s.feats ∧ (beginShutdown ctl kind s).members = s.members ∧ (beginShutdown ctl kind s).guard = s.guard ∧
    (beginShutdown ctl kind s).trust = s.trust ∧ (beginShutdown ctl kind s).now = s.now ∧ (beginShutdown ctl kind s).freeCtr = s.freeCtr
    ∧ (beginShutdown ctl kind s).out = s.out ∧ (beginShutdown ctl kind s).pending = s.pending := by simp [beginShutdown]

/-- `shutNormal` changes `mode`, `ports`, `fns`, `ctls`, `out` only. -/
@[simp] theorem shutNormal_frame (ctl : Nat) (s : State) :
    (shutNormal ctl s).power = s.power ∧ (shutNormal ctl s).stop = s.stop ∧ (shutNormal ctl s).recorder = s.recorder ∧ (shutNormal ctl
    s).cache = s.cache ∧ (shutNormal ctl s).reads = s.reads ∧ (shutNormal ctl s).decks = s.decks ∧ (shutNormal ctl s).gauge = s.gauge ∧
    (shutNormal ctl s).vault = s.vault ∧ (shutNormal ctl s).fabric = s.fabric ∧ (shutNormal ctl s).sched = s.sched ∧ (shutNormal ctl
    s).feats = s.feats ∧ (shutNormal ctl s).members = s.members ∧ (shutNormal ctl s).guard = s.guard ∧ (shutNormal ctl s).trust =
    s.trust ∧ (shutNormal ctl s).now = s.now ∧ (shutNormal ctl s).freeCtr = s.freeCtr ∧ (shutNormal ctl s).pending = s.pending := by simp [shutNormal]

/-- `requestCycle` changes `mode`, `power`, `recorder`, `out` only. -/
@[simp] theorem requestCycle_frame (source : Nat) (ctl : Nat) (s : State) :
    (requestCycle source ctl s).stop = s.stop ∧ (requestCycle source ctl s).ports = s.ports ∧ (requestCycle source ctl s).fns = s.fns ∧
    (requestCycle source ctl s).ctls = s.ctls ∧ (requestCycle source ctl s).cache = s.cache ∧ (requestCycle source ctl s).reads =
    s.reads ∧ (requestCycle source ctl s).decks = s.decks ∧ (requestCycle source ctl s).gauge = s.gauge ∧ (requestCycle source ctl
    s).vault = s.vault ∧ (requestCycle source ctl s).fabric = s.fabric ∧ (requestCycle source ctl s).sched = s.sched ∧ (requestCycle
    source ctl s).feats = s.feats ∧ (requestCycle source ctl s).members = s.members ∧ (requestCycle source ctl s).guard = s.guard ∧
    (requestCycle source ctl s).trust = s.trust ∧ (requestCycle source ctl s).now = s.now ∧ (requestCycle source ctl s).freeCtr =
    s.freeCtr ∧ (requestCycle source ctl s).pending = s.pending := by simp [requestCycle]

/-- `writeRcvCtl` changes `mode`, `power`, `stop`, `recorder`, `ports`, `fns`, `ctls`, `cache`, `reads`, `decks`, `gauge`, `vault`, `fabric`, `sched`, `feats`, `members`, `guard`, `trust`, `out` only. -/
@[simp] theorem writeRcvCtl_frame (fn : Nat) (value : BitVec 32) (s : State) :
    (writeRcvCtl fn value s).now = s.now ∧ (writeRcvCtl fn value s).freeCtr = s.freeCtr ∧ (writeRcvCtl fn value s).pending = s.pending := by simp [writeRcvCtl]

/-- `flushMembers` changes `members`, `out` only. -/
@[simp] theorem flushMembers_frame (s : State) :
    (flushMembers s).mode = s.mode ∧ (flushMembers s).power = s.power ∧ (flushMembers s).stop = s.stop ∧ (flushMembers s).recorder =
    s.recorder ∧ (flushMembers s).ports = s.ports ∧ (flushMembers s).fns = s.fns ∧ (flushMembers s).ctls = s.ctls ∧ (flushMembers
    s).cache = s.cache ∧ (flushMembers s).reads = s.reads ∧ (flushMembers s).decks = s.decks ∧ (flushMembers s).gauge = s.gauge ∧
    (flushMembers s).vault = s.vault ∧ (flushMembers s).fabric = s.fabric ∧ (flushMembers s).sched = s.sched ∧ (flushMembers s).feats =
    s.feats ∧ (flushMembers s).guard = s.guard ∧ (flushMembers s).trust = s.trust ∧ (flushMembers s).now = s.now ∧ (flushMembers
    s).freeCtr = s.freeCtr ∧ (flushMembers s).pending = s.pending := by
  simp only [flushMembers]
  (repeat' split) <;> (first | rfl | simp (disch := (intros; (try dsimp only); (repeat' split) <;> (first | rfl | simp | skip))))

/-- `trimDeck` changes `recorder`, `decks`, `members`, `out` only. -/
@[simp] theorem trimDeck_frame (id : Nat) (s : State) :
    (trimDeck id s).mode = s.mode ∧ (trimDeck id s).power = s.power ∧ (trimDeck id s).stop = s.stop ∧ (trimDeck id s).ports = s.ports ∧
    (trimDeck id s).fns = s.fns ∧ (trimDeck id s).ctls = s.ctls ∧ (trimDeck id s).cache = s.cache ∧ (trimDeck id s).reads = s.reads ∧
    (trimDeck id s).gauge = s.gauge ∧ (trimDeck id s).vault = s.vault ∧ (trimDeck id s).fabric = s.fabric ∧ (trimDeck id s).sched =
    s.sched ∧ (trimDeck id s).feats = s.feats ∧ (trimDeck id s).guard = s.guard ∧ (trimDeck id s).trust = s.trust ∧ (trimDeck id s).now
    = s.now ∧ (trimDeck id s).freeCtr = s.freeCtr ∧ (trimDeck id s).pending = s.pending := by
  simp only [trimDeck]
  (repeat' split) <;> (first | rfl | simp)

/-- `stopClean` changes `stop`, `recorder`, `decks`, `fabric`, `members`, `out` only. -/
@[simp] theorem stopClean_frame (s : State) :
    (stopClean s).mode = s.mode ∧ (stopClean s).power = s.power ∧ (stopClean s).ports = s.ports ∧ (stopClean s).fns = s.fns ∧ (stopClean
    s).ctls = s.ctls ∧ (stopClean s).cache = s.cache ∧ (stopClean s).reads = s.reads ∧ (stopClean s).gauge = s.gauge ∧ (stopClean
    s).vault = s.vault ∧ (stopClean s).sched = s.sched ∧ (stopClean s).feats = s.feats ∧ (stopClean s).guard = s.guard ∧ (stopClean
    s).trust = s.trust ∧ (stopClean s).now = s.now ∧ (stopClean s).freeCtr = s.freeCtr ∧ (stopClean s).pending = s.pending := by simp [stopClean]

/-- `shutAbrupt` changes `mode`, `recorder`, `ports`, `fns`, `ctls`, `vault`, `out` only. -/
@[simp] theorem shutAbrupt_frame (ctl : Nat) (s : State) :
    (shutAbrupt ctl s).power = s.power ∧ (shutAbrupt ctl s).stop = s.stop ∧ (shutAbrupt ctl s).cache = s.cache ∧ (shutAbrupt ctl
    s).reads = s.reads ∧ (shutAbrupt ctl s).decks = s.decks ∧ (shutAbrupt ctl s).gauge = s.gauge ∧ (shutAbrupt ctl s).fabric = s.fabric
    ∧ (shutAbrupt ctl s).sched = s.sched ∧ (shutAbrupt ctl s).feats = s.feats ∧ (shutAbrupt ctl s).members = s.members ∧ (shutAbrupt ctl
    s).guard = s.guard ∧ (shutAbrupt ctl s).trust = s.trust ∧ (shutAbrupt ctl s).now = s.now ∧ (shutAbrupt ctl s).freeCtr = s.freeCtr ∧
    (shutAbrupt ctl s).pending = s.pending := by simp [shutAbrupt]

end Sys2Proof.Machine
end

