-- ==== Sys2Proof/Laws/Registers.lean ====
section
/-!
SUPPORT. The frames of the operations of Machine/Registers.lean: which units of the state each leaves alone.
-/

namespace Sys2Proof.Machine

/-- `writeCmbmsc` changes `mode`, `recorder`, `ports`, `fns`, `ctls`, `cache`, `out` only. -/
@[simp] theorem writeCmbmsc_frame (ctl : Nat) (high : Bool) (v : BitVec 32) (s : State) :
    (writeCmbmsc ctl high v s).power = s.power ∧ (writeCmbmsc ctl high v s).stop = s.stop ∧ (writeCmbmsc ctl high v s).reads = s.reads ∧
    (writeCmbmsc ctl high v s).decks = s.decks ∧ (writeCmbmsc ctl high v s).gauge = s.gauge ∧ (writeCmbmsc ctl high v s).vault = s.vault
    ∧ (writeCmbmsc ctl high v s).fabric = s.fabric ∧ (writeCmbmsc ctl high v s).sched = s.sched ∧ (writeCmbmsc ctl high v s).feats =
    s.feats ∧ (writeCmbmsc ctl high v s).members = s.members ∧ (writeCmbmsc ctl high v s).guard = s.guard ∧ (writeCmbmsc ctl high v
    s).trust = s.trust ∧ (writeCmbmsc ctl high v s).now = s.now ∧ (writeCmbmsc ctl high v s).freeCtr = s.freeCtr ∧ (writeCmbmsc ctl high
    v s).pending = s.pending := by simp [writeCmbmsc]

/-- `commitWide` changes `feats`, `guard` only. -/
@[simp] theorem commitWide_frame (reg : Nat) (low : Nat) (high : Nat) (s : State) :
    (commitWide reg low high s).mode = s.mode ∧ (commitWide reg low high s).power = s.power ∧ (commitWide reg low high s).stop = s.stop
    ∧ (commitWide reg low high s).recorder = s.recorder ∧ (commitWide reg low high s).ports = s.ports ∧ (commitWide reg low high s).fns
    = s.fns ∧ (commitWide reg low high s).ctls = s.ctls ∧ (commitWide reg low high s).cache = s.cache ∧ (commitWide reg low high
    s).reads = s.reads ∧ (commitWide reg low high s).decks = s.decks ∧ (commitWide reg low high s).gauge = s.gauge ∧ (commitWide reg low
    high s).vault = s.vault ∧ (commitWide reg low high s).fabric = s.fabric ∧ (commitWide reg low high s).sched = s.sched ∧ (commitWide
    reg low high s).members = s.members ∧ (commitWide reg low high s).trust = s.trust ∧ (commitWide reg low high s).now = s.now ∧
    (commitWide reg low high s).freeCtr = s.freeCtr ∧ (commitWide reg low high s).out = s.out ∧ (commitWide reg low high s).pending =
    s.pending := by simp [commitWide]

/-- `outOfRange` changes `recorder` only. -/
@[simp] theorem outOfRange_frame (off : Nat) (value : Nat) (s : State) :
    (outOfRange off value s).mode = s.mode ∧ (outOfRange off value s).power = s.power ∧ (outOfRange off value s).stop = s.stop ∧
    (outOfRange off value s).ports = s.ports ∧ (outOfRange off value s).fns = s.fns ∧ (outOfRange off value s).ctls = s.ctls ∧
    (outOfRange off value s).cache = s.cache ∧ (outOfRange off value s).reads = s.reads ∧ (outOfRange off value s).decks = s.decks ∧
    (outOfRange off value s).gauge = s.gauge ∧ (outOfRange off value s).vault = s.vault ∧ (outOfRange off value s).fabric = s.fabric ∧
    (outOfRange off value s).sched = s.sched ∧ (outOfRange off value s).feats = s.feats ∧ (outOfRange off value s).members = s.members ∧
    (outOfRange off value s).guard = s.guard ∧ (outOfRange off value s).trust = s.trust ∧ (outOfRange off value s).now = s.now ∧
    (outOfRange off value s).freeCtr = s.freeCtr ∧ (outOfRange off value s).out = s.out ∧ (outOfRange off value s).pending = s.pending := by simp [outOfRange]

/-- `writeEvrCtl` changes `recorder` only. -/
@[simp] theorem writeEvrCtl_frame (v : BitVec 32) (s : State) :
    (writeEvrCtl v s).mode = s.mode ∧ (writeEvrCtl v s).power = s.power ∧ (writeEvrCtl v s).stop = s.stop ∧ (writeEvrCtl v s).ports =
    s.ports ∧ (writeEvrCtl v s).fns = s.fns ∧ (writeEvrCtl v s).ctls = s.ctls ∧ (writeEvrCtl v s).cache = s.cache ∧ (writeEvrCtl v
    s).reads = s.reads ∧ (writeEvrCtl v s).decks = s.decks ∧ (writeEvrCtl v s).gauge = s.gauge ∧ (writeEvrCtl v s).vault = s.vault ∧
    (writeEvrCtl v s).fabric = s.fabric ∧ (writeEvrCtl v s).sched = s.sched ∧ (writeEvrCtl v s).feats = s.feats ∧ (writeEvrCtl v
    s).members = s.members ∧ (writeEvrCtl v s).guard = s.guard ∧ (writeEvrCtl v s).trust = s.trust ∧ (writeEvrCtl v s).now = s.now ∧
    (writeEvrCtl v s).freeCtr = s.freeCtr ∧ (writeEvrCtl v s).out = s.out ∧ (writeEvrCtl v s).pending = s.pending := by simp [writeEvrCtl]

/-- `writePwin` changes `recorder`, `ctls` only. -/
@[simp] theorem writePwin_frame (ctl : Nat) (win : Nat) (off : Nat) (v : BitVec 32) (s : State) :
    (writePwin ctl win off v s).mode = s.mode ∧ (writePwin ctl win off v s).power = s.power ∧ (writePwin ctl win off v s).stop = s.stop
    ∧ (writePwin ctl win off v s).ports = s.ports ∧ (writePwin ctl win off v s).fns = s.fns ∧ (writePwin ctl win off v s).cache =
    s.cache ∧ (writePwin ctl win off v s).reads = s.reads ∧ (writePwin ctl win off v s).decks = s.decks ∧ (writePwin ctl win off v
    s).gauge = s.gauge ∧ (writePwin ctl win off v s).vault = s.vault ∧ (writePwin ctl win off v s).fabric = s.fabric ∧ (writePwin ctl
    win off v s).sched = s.sched ∧ (writePwin ctl win off v s).feats = s.feats ∧ (writePwin ctl win off v s).members = s.members ∧
    (writePwin ctl win off v s).guard = s.guard ∧ (writePwin ctl win off v s).trust = s.trust ∧ (writePwin ctl win off v s).now = s.now
    ∧ (writePwin ctl win off v s).freeCtr = s.freeCtr ∧ (writePwin ctl win off v s).out = s.out ∧ (writePwin ctl win off v s).pending =
    s.pending := by simp [writePwin]

/-- `writeEcctCtl` changes `recorder`, `cache`, `guard`, `freeCtr` only. -/
@[simp] theorem writeEcctCtl_frame (v : BitVec 32) (s : State) :
    (writeEcctCtl v s).mode = s.mode ∧ (writeEcctCtl v s).power = s.power ∧ (writeEcctCtl v s).stop = s.stop ∧ (writeEcctCtl v s).ports
    = s.ports ∧ (writeEcctCtl v s).fns = s.fns ∧ (writeEcctCtl v s).ctls = s.ctls ∧ (writeEcctCtl v s).reads = s.reads ∧ (writeEcctCtl v
    s).decks = s.decks ∧ (writeEcctCtl v s).gauge = s.gauge ∧ (writeEcctCtl v s).vault = s.vault ∧ (writeEcctCtl v s).fabric = s.fabric
    ∧ (writeEcctCtl v s).sched = s.sched ∧ (writeEcctCtl v s).feats = s.feats ∧ (writeEcctCtl v s).members = s.members ∧ (writeEcctCtl v
    s).trust = s.trust ∧ (writeEcctCtl v s).now = s.now ∧ (writeEcctCtl v s).out = s.out ∧ (writeEcctCtl v s).pending = s.pending := by simp [writeEcctCtl]

/-- `writeAdminRegs` changes `ctls` only. -/
@[simp] theorem writeAdminRegs_frame (ctl : Nat) (off : Nat) (v : BitVec 32) (s : State) :
    (writeAdminRegs ctl off v s).mode = s.mode ∧ (writeAdminRegs ctl off v s).power = s.power ∧ (writeAdminRegs ctl off v s).stop =
    s.stop ∧ (writeAdminRegs ctl off v s).recorder = s.recorder ∧ (writeAdminRegs ctl off v s).ports = s.ports ∧ (writeAdminRegs ctl off
    v s).fns = s.fns ∧ (writeAdminRegs ctl off v s).cache = s.cache ∧ (writeAdminRegs ctl off v s).reads = s.reads ∧ (writeAdminRegs ctl
    off v s).decks = s.decks ∧ (writeAdminRegs ctl off v s).gauge = s.gauge ∧ (writeAdminRegs ctl off v s).vault = s.vault ∧
    (writeAdminRegs ctl off v s).fabric = s.fabric ∧ (writeAdminRegs ctl off v s).sched = s.sched ∧ (writeAdminRegs ctl off v s).feats =
    s.feats ∧ (writeAdminRegs ctl off v s).members = s.members ∧ (writeAdminRegs ctl off v s).guard = s.guard ∧ (writeAdminRegs ctl off
    v s).trust = s.trust ∧ (writeAdminRegs ctl off v s).now = s.now ∧ (writeAdminRegs ctl off v s).freeCtr = s.freeCtr ∧ (writeAdminRegs
    ctl off v s).out = s.out ∧ (writeAdminRegs ctl off v s).pending = s.pending := by simp [writeAdminRegs]

/-- `writeCc` changes `mode`, `stop`, `recorder`, `ports`, `fns`, `ctls`, `cache`, `reads`, `decks`, `vault`, `members`, `guard`, `trust`, `out` only. -/
@[simp] theorem writeCc_frame (ctl : Nat) (v : BitVec 32) (s : State) :
    (writeCc ctl v s).power = s.power ∧ (writeCc ctl v s).gauge = s.gauge ∧ (writeCc ctl v s).fabric = s.fabric ∧ (writeCc ctl v
    s).sched = s.sched ∧ (writeCc ctl v s).feats = s.feats ∧ (writeCc ctl v s).now = s.now ∧ (writeCc ctl v s).freeCtr = s.freeCtr ∧
    (writeCc ctl v s).pending = s.pending := by simp [writeCc]

/-- `writeFinj` changes `recorder`, `guard` only. -/
@[simp] theorem writeFinj_frame (off : Nat) (v : BitVec 32) (s : State) :
    (writeFinj off v s).mode = s.mode ∧ (writeFinj off v s).power = s.power ∧ (writeFinj off v s).stop = s.stop ∧ (writeFinj off v
    s).ports = s.ports ∧ (writeFinj off v s).fns = s.fns ∧ (writeFinj off v s).ctls = s.ctls ∧ (writeFinj off v s).cache = s.cache ∧
    (writeFinj off v s).reads = s.reads ∧ (writeFinj off v s).decks = s.decks ∧ (writeFinj off v s).gauge = s.gauge ∧ (writeFinj off v
    s).vault = s.vault ∧ (writeFinj off v s).fabric = s.fabric ∧ (writeFinj off v s).sched = s.sched ∧ (writeFinj off v s).feats =
    s.feats ∧ (writeFinj off v s).members = s.members ∧ (writeFinj off v s).trust = s.trust ∧ (writeFinj off v s).now = s.now ∧
    (writeFinj off v s).freeCtr = s.freeCtr ∧ (writeFinj off v s).out = s.out ∧ (writeFinj off v s).pending = s.pending := by simp [writeFinj]

/-- `writeReg` changes `mode`, `power`, `stop`, `recorder`, `ports`, `fns`, `ctls`, `cache`, `reads`, `decks`, `gauge`, `vault`, `fabric`, `sched`, `feats`, `members`, `guard`, `trust`, `freeCtr`, `out` only. -/
@[simp] theorem writeReg_frame (fn : Nat) (off : Nat) (v : BitVec 32) (s : State) :
    (writeReg fn off v s).now = s.now ∧ (writeReg fn off v s).pending = s.pending := by simp [writeReg]

/-- `writeDword` changes `mode`, `power`, `stop`, `recorder`, `ports`, `fns`, `ctls`, `cache`, `reads`, `decks`, `gauge`, `vault`, `fabric`, `sched`, `feats`, `members`, `guard`, `trust`, `freeCtr`, `out` only. -/
@[simp] theorem writeDword_frame (fn : Nat) (off : Nat) (v : BitVec 32) (s : State) :
    (writeDword fn off v s).now = s.now ∧ (writeDword fn off v s).pending = s.pending := by
  simp only [writeDword]
  (repeat' split) <;> (first | rfl | simp)

/-- `writeQuad` changes `mode`, `power`, `stop`, `recorder`, `ports`, `fns`, `ctls`, `cache`, `reads`, `decks`, `gauge`, `vault`, `fabric`, `sched`, `feats`, `members`, `guard`, `trust`, `freeCtr`, `out` only. -/
@[simp] theorem writeQuad_frame (fn : Nat) (off : Nat) (v : BitVec 64) (s : State) :
    (writeQuad fn off v s).now = s.now ∧ (writeQuad fn off v s).pending = s.pending := by simp [writeQuad]

/-- `readDword` changes `fns` only. -/
@[simp] theorem readDword_frame (fn : Nat) (off : Nat) (s : State) :
    (readDword fn off s).2.mode = s.mode ∧ (readDword fn off s).2.power = s.power ∧ (readDword fn off s).2.stop = s.stop ∧ (readDword fn
    off s).2.recorder = s.recorder ∧ (readDword fn off s).2.ports = s.ports ∧ (readDword fn off s).2.ctls = s.ctls ∧ (readDword fn off
    s).2.cache = s.cache ∧ (readDword fn off s).2.reads = s.reads ∧ (readDword fn off s).2.decks = s.decks ∧ (readDword fn off
    s).2.gauge = s.gauge ∧ (readDword fn off s).2.vault = s.vault ∧ (readDword fn off s).2.fabric = s.fabric ∧ (readDword fn off
    s).2.sched = s.sched ∧ (readDword fn off s).2.feats = s.feats ∧ (readDword fn off s).2.members = s.members ∧ (readDword fn off
    s).2.guard = s.guard ∧ (readDword fn off s).2.trust = s.trust ∧ (readDword fn off s).2.now = s.now ∧ (readDword fn off s).2.freeCtr
    = s.freeCtr ∧ (readDword fn off s).2.out = s.out ∧ (readDword fn off s).2.pending = s.pending := by
  simp only [readDword]
  (repeat' split) <;> (first | rfl | simp)

/-- `bar0Read` changes `fns` only. -/
@[simp] theorem bar0Read_frame (fn : Nat) (offset : Nat) (size : Nat) (s : State) :
    (bar0Read fn offset size s).2.mode = s.mode ∧ (bar0Read fn offset size s).2.power = s.power ∧ (bar0Read fn offset size s).2.stop =
    s.stop ∧ (bar0Read fn offset size s).2.recorder = s.recorder ∧ (bar0Read fn offset size s).2.ports = s.ports ∧ (bar0Read fn offset
    size s).2.ctls = s.ctls ∧ (bar0Read fn offset size s).2.cache = s.cache ∧ (bar0Read fn offset size s).2.reads = s.reads ∧ (bar0Read
    fn offset size s).2.decks = s.decks ∧ (bar0Read fn offset size s).2.gauge = s.gauge ∧ (bar0Read fn offset size s).2.vault = s.vault
    ∧ (bar0Read fn offset size s).2.fabric = s.fabric ∧ (bar0Read fn offset size s).2.sched = s.sched ∧ (bar0Read fn offset size
    s).2.feats = s.feats ∧ (bar0Read fn offset size s).2.members = s.members ∧ (bar0Read fn offset size s).2.guard = s.guard ∧ (bar0Read
    fn offset size s).2.trust = s.trust ∧ (bar0Read fn offset size s).2.now = s.now ∧ (bar0Read fn offset size s).2.freeCtr = s.freeCtr
    ∧ (bar0Read fn offset size s).2.out = s.out ∧ (bar0Read fn offset size s).2.pending = s.pending := by
  simp only [bar0Read]
  (repeat' split) <;> (first | rfl | simp)

/-- `bar4Store` changes `ports`, `fns`, `out` only. -/
@[simp] theorem bar4Store_frame (fn : Nat) (offset : Nat) (size : Nat) (value : BitVec 64) (s : State) :
    (bar4Store fn offset size value s).mode = s.mode ∧ (bar4Store fn offset size value s).power = s.power ∧ (bar4Store fn offset size
    value s).stop = s.stop ∧ (bar4Store fn offset size value s).recorder = s.recorder ∧ (bar4Store fn offset size value s).ctls = s.ctls
    ∧ (bar4Store fn offset size value s).cache = s.cache ∧ (bar4Store fn offset size value s).reads = s.reads ∧ (bar4Store fn offset
    size value s).decks = s.decks ∧ (bar4Store fn offset size value s).gauge = s.gauge ∧ (bar4Store fn offset size value s).vault =
    s.vault ∧ (bar4Store fn offset size value s).fabric = s.fabric ∧ (bar4Store fn offset size value s).sched = s.sched ∧ (bar4Store fn
    offset size value s).feats = s.feats ∧ (bar4Store fn offset size value s).members = s.members ∧ (bar4Store fn offset size value
    s).guard = s.guard ∧ (bar4Store fn offset size value s).trust = s.trust ∧ (bar4Store fn offset size value s).now = s.now ∧
    (bar4Store fn offset size value s).freeCtr = s.freeCtr ∧ (bar4Store fn offset size value s).pending = s.pending := by simp [bar4Store]

/-- `bar0Write` changes `mode`, `power`, `stop`, `recorder`, `ports`, `fns`, `ctls`, `cache`, `reads`, `decks`, `gauge`, `vault`, `fabric`, `sched`, `feats`, `members`, `guard`, `trust`, `freeCtr`, `out` only. -/
@[simp] theorem bar0Write_frame (fn : Nat) (offset : Nat) (size : Nat) (value : BitVec 64) (s : State) :
    (bar0Write fn offset size value s).now = s.now ∧ (bar0Write fn offset size value s).pending = s.pending := by simp [bar0Write]

end Sys2Proof.Machine
end

