-- ==== Sys2Proof/Laws/MemoryKept.lean ====
section
/-!
SUPPORT. Every shared operation keeps cache memory in its canonical form (`Safety.MemoryFits`).
-/

namespace Sys2Proof.Machine

open Sys2Proof.Safety

theorem memPut_memoryFits (l : List Host.Cell) (a : Nat) (bs : Bytes) (h : MemoryFits l) : MemoryFits (memPut l a bs) := memPut_wf l a bs h
theorem writeSectors_memoryFits (region frame : Nat) (mask zero : BitVec 8) (data : Bytes) (l : List Host.Cell) (h : MemoryFits l) :
    MemoryFits (writeSectors region frame mask zero data l) := writeSectors_wf region frame mask zero data l h
theorem copySectors_memoryFits (r1 f1 r2 f2 : Nat) (mask : BitVec 8) (l : List Host.Cell) (h : MemoryFits l) :
    MemoryFits (copySectors r1 f1 r2 f2 mask l) := copySectors_wf r1 f1 r2 f2 mask l h
theorem nil_memoryFits : MemoryFits [] := rfl
theorem ite_memoryFits (c : Prop) [Decidable c] (a b : State) (ha : MemoryFits a.cache.dram) (hb : MemoryFits b.cache.dram) :
    MemoryFits (if c then a else b).cache.dram := by
  split
  · exact ha
  · exact hb
theorem getD_memoryFits (o : Option Cache) (c : Cache) (h : ∀ r, o = some r → MemoryFits r.dram) (hc : MemoryFits c.dram) : MemoryFits (o.getD c).dram := by
  cases o with
  | none => exact hc
  | some r => exact h r rfl
theorem foldl_memoryFits {α : Type} (F : State → α → State) (hF : ∀ t x, MemoryFits t.cache.dram → MemoryFits (F t x).cache.dram)
    (l : List α) (s : State) (h : MemoryFits s.cache.dram) : MemoryFits (l.foldl F s).cache.dram := by
  induction l generalizing s with
  | nil => exact h
  | cons x l ih => exact ih _ (hF _ _ h)
theorem foldl_snd_memoryFits {α β : Type} (F : β × State → α → β × State) (hF : ∀ t x, MemoryFits t.2.cache.dram → MemoryFits (F t x).2.cache.dram)
    (l : List α) (s : β × State) (h : MemoryFits s.2.cache.dram) : MemoryFits (l.foldl F s).2.cache.dram := by
  induction l generalizing s with
  | nil => exact h
  | cons x l ih => exact ih _ (hF _ _ h)
theorem foldl_bind_memoryFits {α : Type} (F : State → α → Option State)
    (hF : ∀ s x t, F s x = some t → MemoryFits s.cache.dram → MemoryFits t.cache.dram) (l : List α) (s t : State)
    (e : l.foldl (fun acc x => acc.bind fun s => F s x) (some s) = some t) (hs : MemoryFits s.cache.dram) : MemoryFits t.cache.dram := by
  induction l generalizing s with
  | nil => simp only [List.foldl_nil, Option.some.injEq] at e; exact e ▸ hs
  | cons x l ih =>
    simp only [List.foldl_cons, Option.bind_some] at e
    cases hx : F s x with
    | none => rw [hx, foldl_bind_none] at e; simp at e
    | some u => rw [hx] at e; exact ih u e (hF s x u hx hs)
theorem foldlL_memoryFits {α : Type} (F : List Host.Cell → α → List Host.Cell) (hF : ∀ t x, MemoryFits t → MemoryFits (F t x))
    (l : List α) (s : List Host.Cell) (h : MemoryFits s) : MemoryFits (l.foldl F s) := by
  induction l generalizing s with
  | nil => exact h
  | cons x l ih => exact ih _ (hF _ _ h)
theorem foldlP_memoryFits {α β : Type} (F : β × Cache → α → β × Cache) (hF : ∀ t x, MemoryFits t.2.dram → MemoryFits (F t x).2.dram)
    (l : List α) (s : β × Cache) (h : MemoryFits s.2.dram) : MemoryFits (l.foldl F s).2.dram := by
  induction l generalizing s with
  | nil => exact h
  | cons x l ih => exact ih _ (hF _ _ h)
theorem foldlC_memoryFits {α : Type} (F : Cache → α → Cache) (hF : ∀ t x, MemoryFits t.dram → MemoryFits (F t x).dram)
    (l : List α) (s : Cache) (h : MemoryFits s.dram) : MemoryFits (l.foldl F s).dram := by
  induction l generalizing s with
  | nil => exact h
  | cons x l ih => exact ih _ (hF _ _ h)
theorem updEntry_memoryFits (region : Nat) (frame : Nat) (f : DirEntry → DirEntry) (c : Cache)
    (hs : MemoryFits c.dram) : MemoryFits (updEntry region frame f c).dram := by
  simp only [updEntry]
  repeat' (first | (with_reducible assumption) | (with_reducible exact nil_memoryFits) | split | dsimp only | simp)

theorem freeFrame_memoryFits (region : Nat) (frame : Nat) (c : Cache) (hs : MemoryFits c.dram) : MemoryFits (freeFrame region frame c).dram := by
  simp only [freeFrame]
  repeat' (first | (with_reducible assumption) | (with_reducible exact nil_memoryFits) | split | dsimp only | simp)

theorem allocFrame_memoryFits {region : Nat} {set : Nat} {c : Cache} {r1 : Nat} (r : Cache) (e : allocFrame region set c = some (r1, r))
    (hs : MemoryFits c.dram) : MemoryFits r.dram := by
  simp only [allocFrame] at e
  (repeat' split at e) <;> (first | (simp at e; done) | skip)
  all_goals (simp only [Option.some.injEq, Prod.mk.injEq] at e; first | subst e | (obtain ⟨_, e⟩ := e; subst e)
                                                                      | (obtain ⟨_, _, e⟩ := e; subst e))
  all_goals repeat' (first | (with_reducible assumption) | (with_reducible exact nil_memoryFits) | (with_reducible apply freeFrame_memoryFits) | split
                           | dsimp only | simp)

theorem drawWseq_memoryFits (region : Nat) (c : Cache) (hs : MemoryFits c.dram) : MemoryFits (drawWseq region c).2.dram := by
  simp only [drawWseq]
  repeat' (first | (with_reducible assumption) | (with_reducible exact nil_memoryFits) | split | dsimp only | simp)

theorem remirrorPage_memoryFits (e : DirEntry) (c : Cache) (hs : MemoryFits c.dram) : MemoryFits (remirrorPage e c).dram := by
  simp only [remirrorPage]
  repeat' (first | (with_reducible assumption) | (with_reducible exact nil_memoryFits) | (with_reducible apply updEntry_memoryFits)
                 | (with_reducible apply copySectors_memoryFits) | (with_reducible apply drawWseq_memoryFits)
                 | (with_reducible refine allocFrame_memoryFits _ (by with_reducible assumption) ?_) | split | dsimp only | simp)

theorem remirrorAll_memoryFits (c : Cache) (hs : MemoryFits c.dram) : MemoryFits (remirrorAll c).dram := by
  simp only [remirrorAll]
  repeat' (first | (with_reducible assumption) | (with_reducible exact nil_memoryFits) | (with_reducible apply remirrorPage_memoryFits)
                 | (with_reducible refine foldl_memoryFits _ (fun t x ht => ?_) _ _ ?_)
                 | (with_reducible refine foldl_snd_memoryFits _ (fun t x ht => ?_) _ _ ?_)
                 | (with_reducible refine foldlC_memoryFits _ (fun t x ht => ?_) _ _ ?_)
                 | (with_reducible refine foldlL_memoryFits _ (fun t x ht => ?_) _ _ ?_)
                 | (with_reducible refine foldlP_memoryFits _ (fun t x ht => ?_) _ _ ?_) | split | dsimp only | simp)

theorem moveFrame_memoryFits {e : DirEntry} {c : Cache} (r : Cache) (e : moveFrame e c = some r) (hs : MemoryFits c.dram) : MemoryFits r.dram := by
  simp only [moveFrame] at e
  (repeat' split at e) <;> (first | (simp at e; done) | skip)
  all_goals (simp only [Option.some.injEq, Prod.mk.injEq] at e; first | subst e | (obtain ⟨_, e⟩ := e; subst e)
                                                                      | (obtain ⟨_, _, e⟩ := e; subst e))
  all_goals repeat' (first | (with_reducible assumption) | (with_reducible exact nil_memoryFits) | (with_reducible apply updEntry_memoryFits)
                           | (with_reducible apply copySectors_memoryFits) | (with_reducible apply drawWseq_memoryFits)
                           | (with_reducible apply freeFrame_memoryFits)
                           | (with_reducible refine allocFrame_memoryFits _ (by with_reducible assumption) ?_) | split | dsimp only | simp)

theorem freePair_memoryFits (e : DirEntry) (c : Cache) (hs : MemoryFits c.dram) : MemoryFits (freePair e c).dram := by
  simp only [freePair]
  repeat' (first | (with_reducible assumption) | (with_reducible exact nil_memoryFits) | (with_reducible apply freeFrame_memoryFits) | split
                 | dsimp only | simp)

theorem retireFrame_memoryFits (region : Nat) (frame : Nat) (c : Cache) (hs : MemoryFits c.dram) : MemoryFits (retireFrame region frame c).dram := by
  simp only [retireFrame]
  repeat' (first | (with_reducible assumption) | (with_reducible exact nil_memoryFits) | (with_reducible apply freePair_memoryFits)
                 | (with_reducible apply freeFrame_memoryFits) | (with_reducible refine moveFrame_memoryFits _ (by with_reducible assumption) ?_)
                 | split | dsimp only | simp)

theorem highestFrame_memoryFits {c : Cache} {ch : Nat} {x0 : Nat} {r1 : Nat} (r : Cache) (e : highestFrame c ch x0 = some (r1, r))
    (hs : MemoryFits c.dram) : MemoryFits r.dram := by
  induction x0 generalizing c r1 with
  | zero => simp [highestFrame] at e
  | succ n ih =>
    simp only [highestFrame] at e
    split at e
    · exact ih e hs
    · split at e
      · simp only [Option.some.injEq, Prod.mk.injEq] at e
        obtain ⟨_, e⟩ := e
        subst e
        exact retireFrame_memoryFits _ _ _ hs
      · exact ih e hs

theorem retireAll_memoryFits (region : Nat) (frames : List Nat) (c : Cache) (hs : MemoryFits c.dram) : MemoryFits (retireAll region frames c).dram := by
  simp only [retireAll]
  repeat' (first | (with_reducible assumption) | (with_reducible exact nil_memoryFits) | (with_reducible apply retireFrame_memoryFits)
                 | (with_reducible refine foldl_memoryFits _ (fun t x ht => ?_) _ _ ?_)
                 | (with_reducible refine foldl_snd_memoryFits _ (fun t x ht => ?_) _ _ ?_)
                 | (with_reducible refine foldlC_memoryFits _ (fun t x ht => ?_) _ _ ?_)
                 | (with_reducible refine foldlL_memoryFits _ (fun t x ht => ?_) _ _ ?_)
                 | (with_reducible refine foldlP_memoryFits _ (fun t x ht => ?_) _ _ ?_) | split | dsimp only | simp)

theorem supersedeOlder_memoryFits (c : Cache) (hs : MemoryFits c.dram) : MemoryFits (supersedeOlder c).dram := by
  simp only [supersedeOlder]
  repeat' (first | (with_reducible assumption) | (with_reducible exact nil_memoryFits) | split | dsimp only | simp)

theorem poisonSector_memoryFits (e : DirEntry) (sec : Nat) (c : Cache) (hs : MemoryFits c.dram) : MemoryFits (poisonSector e sec c).dram := by
  simp only [poisonSector]
  repeat' (first | (with_reducible assumption) | (with_reducible exact nil_memoryFits) | (with_reducible apply updEntry_memoryFits) | split
                 | dsimp only | simp)

theorem convertPart_memoryFits (now : Nat) (ref : CmdRef) (journaled : Bool) (part : PagePart) (c : Cache)
    (hs : MemoryFits c.dram) : MemoryFits (convertPart now ref journaled part c).dram := by
  simp only [convertPart]
  repeat' (first | (with_reducible assumption) | (with_reducible exact nil_memoryFits)
                 | (with_reducible refine foldl_memoryFits _ (fun t x ht => ?_) _ _ ?_)
                 | (with_reducible refine foldl_snd_memoryFits _ (fun t x ht => ?_) _ _ ?_)
                 | (with_reducible refine foldlC_memoryFits _ (fun t x ht => ?_) _ _ ?_)
                 | (with_reducible refine foldlL_memoryFits _ (fun t x ht => ?_) _ _ ?_)
                 | (with_reducible refine foldlP_memoryFits _ (fun t x ht => ?_) _ _ ?_) | split | dsimp only | simp)

theorem retireThese_memoryFits (l : List (Nat × Nat)) (c : Cache) (hs : MemoryFits c.dram) : MemoryFits (retireThese l c).dram := by
  simp only [retireThese]
  repeat' (first | (with_reducible assumption) | (with_reducible exact nil_memoryFits) | (with_reducible apply retireFrame_memoryFits)
                 | (with_reducible refine foldl_memoryFits _ (fun t x ht => ?_) _ _ ?_)
                 | (with_reducible refine foldl_snd_memoryFits _ (fun t x ht => ?_) _ _ ?_)
                 | (with_reducible refine foldlC_memoryFits _ (fun t x ht => ?_) _ _ ?_)
                 | (with_reducible refine foldlL_memoryFits _ (fun t x ht => ?_) _ _ ?_)
                 | (with_reducible refine foldlP_memoryFits _ (fun t x ht => ?_) _ _ ?_) | split | dsimp only | simp)

theorem retireWaiting_memoryFits (c : Cache) (hs : MemoryFits c.dram) : MemoryFits (retireWaiting c).dram := by
  simp only [retireWaiting]
  repeat' (first | (with_reducible assumption) | (with_reducible exact nil_memoryFits) | (with_reducible apply retireThese_memoryFits) | split
                 | dsimp only | simp)

theorem retireIdle_memoryFits (c : Cache) (hs : MemoryFits c.dram) : MemoryFits (retireIdle c).dram := by
  simp only [retireIdle]
  repeat' (first | (with_reducible assumption) | (with_reducible exact nil_memoryFits) | split | dsimp only | simp)

theorem freeAllStaged_memoryFits (c : Cache) (hs : MemoryFits c.dram) : MemoryFits (freeAllStaged c).dram := by
  simp only [freeAllStaged]
  repeat' (first | (with_reducible assumption) | (with_reducible exact nil_memoryFits) | (with_reducible apply retireIdle_memoryFits) | split
                 | dsimp only | simp)

theorem fenceCache_memoryFits (region : Nat) (c : Cache) (hs : MemoryFits c.dram) : MemoryFits (fenceCache region c).dram := by
  simp only [fenceCache]
  repeat' (first | (with_reducible assumption) | (with_reducible exact nil_memoryFits) | (with_reducible apply freeAllStaged_memoryFits) | split
                 | dsimp only | simp)

theorem dropMirror_memoryFits (e : DirEntry) (c : Cache) (hs : MemoryFits c.dram) : MemoryFits (dropMirror e c).dram := by
  simp only [dropMirror]
  repeat' (first | (with_reducible assumption) | (with_reducible exact nil_memoryFits) | (with_reducible apply updEntry_memoryFits)
                 | (with_reducible apply freeFrame_memoryFits) | split | dsimp only | simp)

theorem installFill_memoryFits (keyNs : Nat) (vpage : Nat) (data : Bytes) (c : Cache)
    (hs : MemoryFits c.dram) : MemoryFits (installFill keyNs vpage data c).dram := by
  simp only [installFill]
  repeat' (first | (with_reducible assumption) | (with_reducible exact nil_memoryFits) | (with_reducible apply updEntry_memoryFits)
                 | (with_reducible apply memPut_memoryFits) | (with_reducible apply freeFrame_memoryFits) | split | dsimp only | simp)

theorem accessPages_memoryFits (pages : List (Nat × Nat)) (c : Cache) (hs : MemoryFits c.dram) : MemoryFits (accessPages pages c).dram := by
  simp only [accessPages]
  repeat' (first | (with_reducible assumption) | (with_reducible exact nil_memoryFits) | split | dsimp only | simp)

theorem convertParts_memoryFits (now : Nat) (ref : CmdRef) (journaled : Bool) (parts : List PagePart) (c : Cache)
    (hs : MemoryFits c.dram) : MemoryFits (convertParts now ref journaled parts c).dram := by
  simp only [convertParts]
  repeat' (first | (with_reducible assumption) | (with_reducible exact nil_memoryFits) | (with_reducible apply convertPart_memoryFits)
                 | (with_reducible refine foldl_memoryFits _ (fun t x ht => ?_) _ _ ?_)
                 | (with_reducible refine foldl_snd_memoryFits _ (fun t x ht => ?_) _ _ ?_)
                 | (with_reducible refine foldlC_memoryFits _ (fun t x ht => ?_) _ _ ?_)
                 | (with_reducible refine foldlL_memoryFits _ (fun t x ht => ?_) _ _ ?_)
                 | (with_reducible refine foldlP_memoryFits _ (fun t x ht => ?_) _ _ ?_) | split | dsimp only | simp)

theorem discardCmb_memoryFits (ctl : Nat) (c : Cache) (hs : MemoryFits c.dram) : MemoryFits (discardCmb ctl c).dram := by
  simp only [discardCmb]
  repeat' (first | (with_reducible assumption) | (with_reducible exact nil_memoryFits) | split | dsimp only | simp)

theorem finishVersion_memoryFits (keyNs : Nat) (vpage : Nat) (ver : Nat) (c : Cache)
    (hs : MemoryFits c.dram) : MemoryFits (finishVersion keyNs vpage ver c).dram := by
  simp only [finishVersion]
  repeat' (first | (with_reducible assumption) | (with_reducible exact nil_memoryFits) | (with_reducible apply updEntry_memoryFits)
                 | (with_reducible apply dropMirror_memoryFits) | split | dsimp only | simp)

theorem allocPair_memoryFits {keyNs : Nat} {vpage : Nat} {c : Cache} {r1 : Nat × Nat} {r2 : Option (Nat × Nat)} (r : Cache) (e : allocPair keyNs vpage c = some (r1, r2, r))
    (hs : MemoryFits c.dram) : MemoryFits r.dram := by
  simp only [allocPair] at e
  (repeat' split at e) <;> (first | (simp at e; done) | skip)
  all_goals (simp only [Option.some.injEq, Prod.mk.injEq] at e; first | subst e | (obtain ⟨_, e⟩ := e; subst e)
                                                                      | (obtain ⟨_, _, e⟩ := e; subst e))
  all_goals repeat' (first | (with_reducible assumption) | (with_reducible exact nil_memoryFits)
                           | (with_reducible refine allocFrame_memoryFits _ (by with_reducible assumption) ?_) | split | dsimp only | simp)

theorem placePart_memoryFits {ref : Option CmdRef} {st : PState} {mst : PState} {part : PagePart} {c : Cache} {r1 : PagePart} (r : Cache) (e : placePart ref st mst part c = some (r1, r))
    (hs : MemoryFits c.dram) : MemoryFits r.dram := by
  simp only [placePart] at e
  (repeat' split at e) <;> (first | (simp at e; done) | skip)
  all_goals (simp only [Option.some.injEq, Prod.mk.injEq] at e; first | subst e | (obtain ⟨_, e⟩ := e; subst e)
                                                                      | (obtain ⟨_, _, e⟩ := e; subst e))
  all_goals repeat' (first | (with_reducible assumption) | (with_reducible exact nil_memoryFits) | (with_reducible apply writeSectors_memoryFits)
                           | (with_reducible apply drawWseq_memoryFits)
                           | (with_reducible refine allocPair_memoryFits _ (by with_reducible assumption) ?_) | split | dsimp only | simp)

theorem mergeSector_memoryFits (e : DirEntry) (older : List DirEntry) (c : Cache) (i : Nat)
    (hs : MemoryFits c.dram) : MemoryFits (mergeSector e older c i).dram := by
  simp only [mergeSector]
  repeat' (first | (with_reducible assumption) | (with_reducible exact nil_memoryFits) | (with_reducible apply updEntry_memoryFits)
                 | (with_reducible apply copySectors_memoryFits) | split | dsimp only | simp)

theorem stampVer_memoryFits (frames : List (Nat × Nat)) (c : Cache) (hs : MemoryFits c.dram) : MemoryFits (stampVer frames c).dram := by
  simp only [stampVer]
  repeat' (first | (with_reducible assumption) | (with_reducible exact nil_memoryFits) | split | dsimp only | simp)

theorem overlayPage_memoryFits {keyNs : Nat} {vpage : Nat} {valid : BitVec 8} {zero : BitVec 8} {poison : BitVec 8} {data : Bytes} {c : Cache} (r : Cache) (e : overlayPage keyNs vpage valid zero poison data c = some r)
    (hs : MemoryFits c.dram) : MemoryFits r.dram := by
  simp only [overlayPage, Option.map_eq_some_iff] at e
  obtain ⟨n, _, e⟩ := e
  subst e
  exact foldlL_memoryFits _ (fun t x ht => writeSectors_memoryFits _ _ _ _ _ _ ht) _ _ hs

theorem mergePage_memoryFits (keyNs : Nat) (vpage : Nat) (c : Cache) (hs : MemoryFits c.dram) : MemoryFits (mergePage keyNs vpage c).dram := by
  simp only [mergePage]
  repeat' (first | (with_reducible assumption) | (with_reducible exact nil_memoryFits) | (with_reducible apply mergeSector_memoryFits)
                 | (with_reducible refine foldl_memoryFits _ (fun t x ht => ?_) _ _ ?_)
                 | (with_reducible refine foldl_snd_memoryFits _ (fun t x ht => ?_) _ _ ?_)
                 | (with_reducible refine foldlC_memoryFits _ (fun t x ht => ?_) _ _ ?_)
                 | (with_reducible refine foldlL_memoryFits _ (fun t x ht => ?_) _ _ ?_)
                 | (with_reducible refine foldlP_memoryFits _ (fun t x ht => ?_) _ _ ?_) | split | dsimp only | simp)

theorem restorePage_memoryFits {st : PState} {keyNs : Nat} {vpage : Nat} {valid : BitVec 8} {zero : BitVec 8} {poison : BitVec 8} {data : Bytes} {c : Cache} (r : Cache) (e : restorePage st keyNs vpage valid zero poison data c = some r)
    (hs : MemoryFits c.dram) : MemoryFits r.dram := by
  simp only [restorePage] at e
  (repeat' split at e) <;> (first | (simp at e; done) | skip)
  all_goals (simp only [Option.some.injEq, Prod.mk.injEq] at e; first | subst e | (obtain ⟨_, e⟩ := e; subst e)
                                                                      | (obtain ⟨_, _, e⟩ := e; subst e))
  all_goals repeat' (first | (with_reducible assumption) | (with_reducible exact nil_memoryFits) | (with_reducible apply stampVer_memoryFits)
                           | (with_reducible apply writeSectors_memoryFits) | (with_reducible apply mergePage_memoryFits)
                           | (with_reducible apply drawWseq_memoryFits)
                           | (with_reducible refine allocFrame_memoryFits _ (by with_reducible assumption) ?_)
                           | (with_reducible refine placePart_memoryFits _ (by with_reducible assumption) ?_) | split | dsimp only | simp)

theorem stageParts_memoryFits {ref : CmdRef} {x0 : List PagePart} {x1 : Cache} {r1 : List PagePart} (r : Cache) (e : stageParts ref x0 x1 = some (r1, r))
    (hs : MemoryFits x1.dram) : MemoryFits r.dram := by
  induction x0 generalizing x1 r1 r with
  | nil =>
    simp only [stageParts, Option.some.injEq, Prod.mk.injEq] at e
    obtain ⟨_, e⟩ := e
    subst e
    exact hs
  | cons p ps ih =>
    simp only [stageParts] at e
    split at e
    · simp at e
    · split at e
      · simp at e
      · rename_i hp
        split at e
        · simp at e
        · rename_i hq
          simp only [Option.some.injEq, Prod.mk.injEq] at e
          obtain ⟨_, e⟩ := e
          subst e
          exact ih _ hq (placePart_memoryFits _ hp hs)

theorem retireDestaged_memoryFits (c : Cache) (hs : MemoryFits c.dram) : MemoryFits (retireDestaged c).dram := by
  simp only [retireDestaged]
  repeat' (first | (with_reducible assumption) | (with_reducible exact nil_memoryFits) | (with_reducible apply retireThese_memoryFits) | split
                 | dsimp only | simp)

theorem installPage_memoryFits {st : PState} {keyNs : Nat} {vpage : Nat} {data : Bytes} {c : Cache} (r : Cache) (e : installPage st keyNs vpage data c = some r)
    (hs : MemoryFits c.dram) : MemoryFits r.dram := by
  simp only [installPage] at e
  (repeat' split at e) <;> (first | (simp at e; done) | skip)
  all_goals (simp only [Option.some.injEq, Prod.mk.injEq] at e; first | subst e | (obtain ⟨_, e⟩ := e; subst e)
                                                                      | (obtain ⟨_, _, e⟩ := e; subst e))
  all_goals repeat' (first | (with_reducible assumption) | (with_reducible exact nil_memoryFits)
                           | (with_reducible refine placePart_memoryFits _ (by with_reducible assumption) ?_) | split | dsimp only | simp)

theorem installAll_memoryFits {st : PState} {keyNs : Nat} {x0 : List (Nat × Bytes)} {x1 : Cache} (r : Cache) (e : installAll st keyNs x0 x1 = some r)
    (hs : MemoryFits x1.dram) : MemoryFits r.dram := by
  induction x0 generalizing x1 with
  | nil =>
    simp only [installAll, Option.some.injEq] at e
    subst e
    exact hs
  | cons p ps ih =>
    simp only [installAll] at e
    split at e
    · exact ih e (installPage_memoryFits _ (by assumption) hs)
    · simp at e

theorem touchPage_memoryFits (keyNs : Nat) (vpage : Nat) (c : Cache) (hs : MemoryFits c.dram) : MemoryFits (touchPage keyNs vpage c).dram := by
  simp only [touchPage]
  repeat' (first | (with_reducible assumption) | (with_reducible exact nil_memoryFits) | (with_reducible apply updEntry_memoryFits) | split
                 | dsimp only | simp)

theorem installData_memoryFits (force : Bool) (first : Nat) (nsid : Nat) (pages : List JPage) (acc : List ImagePage × Cache)
    (hs : MemoryFits acc.2.dram) : MemoryFits (installData force first nsid pages acc).2.dram := by
  simp only [installData]
  refine foldlP_memoryFits _ (fun t x ht => ?_) _ _ hs
  split
  · exact ht
  · split
    · rename_i h1
      rcases hr : restorePage .dirtyJ (nsid - 1) x.vpage x.valid x.zero x.poison x.data t.2 with _ | c
      · rw [hr] at h1
        exact overlayPage_memoryFits _ h1 ht
      · rw [hr] at h1
        simp only [Option.orElse_some, Option.some.injEq] at h1
        subst h1
        exact restorePage_memoryFits _ hr ht
    · exact ht

theorem installRecs_memoryFits (id : Nat) (src : Source) (gone : List ImagePage) (s : State)
    (hs : MemoryFits s.cache.dram) : MemoryFits (installRecs id src gone s).2.dram := by
  simp only [installRecs]
  repeat' (first | (with_reducible assumption) | (with_reducible exact nil_memoryFits) | (with_reducible apply installData_memoryFits)
                 | (with_reducible refine foldl_memoryFits _ (fun t x ht => ?_) _ _ ?_)
                 | (with_reducible refine foldl_snd_memoryFits _ (fun t x ht => ?_) _ _ ?_)
                 | (with_reducible refine foldlC_memoryFits _ (fun t x ht => ?_) _ _ ?_)
                 | (with_reducible refine foldlL_memoryFits _ (fun t x ht => ?_) _ _ ?_)
                 | (with_reducible refine foldlP_memoryFits _ (fun t x ht => ?_) _ _ ?_) | split | dsimp only | simp)

theorem cmbWritePage_memoryFits {ctl : Nat} {page : Nat} {off : Nat} {bs : Bytes} {poisoned : Bool} {c : Cache} (r : Cache) (e : cmbWritePage ctl page off bs poisoned c = some r)
    (hs : MemoryFits c.dram) : MemoryFits r.dram := by
  have hc : ∀ c1, (match newestOf c (cmbKey ctl) page with
      | some _ => some c
      | none => (placePart none .cmb .cmbMirror
          { ns := cmbKey ctl, vpage := page, mask := 0, zero := 0, poison := 0, data := [], spans := [], base := none, home := none }
          c).map (·.2)) = some c1 → MemoryFits c1.dram := by
    intro c1 h1
    split at h1
    · simp only [Option.some.injEq] at h1
      subst h1
      exact hs
    · simp only [Option.map_eq_some_iff] at h1
      obtain ⟨⟨p, c2⟩, h2, h3⟩ := h1
      subst h3
      exact placePart_memoryFits _ h2 hs
  simp only [cmbWritePage] at e
  split at e
  · simp at e
  · rename_i c1 h1
    have h2 := hc c1 h1
    split at e
    · simp at e
    · (repeat' split at e) <;> (simp only [Option.some.injEq] at e; subst e)
      all_goals repeat' (first | (with_reducible assumption) | (with_reducible apply writeSectors_memoryFits)
                               | (with_reducible apply updEntry_memoryFits) | simp)

theorem cmbWrite_memoryFits {ctl : Nat} {x0 : Nat} {x1 : Nat} {x2 : Bytes} {x3 : Cache} (r : Cache) (e : cmbWrite ctl x0 x1 x2 x3 = some r)
    (hs : MemoryFits x3.dram) : MemoryFits r.dram := by
  induction x0 generalizing x1 x2 x3 with
  | zero =>
    simp only [cmbWrite, Option.some.injEq] at e
    subst e
    exact hs
  | succ n ih =>
    simp only [cmbWrite] at e
    split at e
    · simp only [Option.some.injEq] at e
      subst e
      exact hs
    · split at e
      · rename_i c1 h1
        exact ih e (cmbWritePage_memoryFits _ h1 hs)
      · simp at e

theorem closeEpoch_memoryFits (region : Nat) (c : Cache) (hs : MemoryFits c.dram) : MemoryFits (closeEpoch region c).dram := by
  simp only [closeEpoch]
  repeat' (first | (with_reducible assumption) | (with_reducible exact nil_memoryFits) | (with_reducible apply retireIdle_memoryFits)
                 | (with_reducible apply freePair_memoryFits) | (with_reducible refine foldl_memoryFits _ (fun t x ht => ?_) _ _ ?_)
                 | (with_reducible refine foldl_snd_memoryFits _ (fun t x ht => ?_) _ _ ?_)
                 | (with_reducible refine foldlC_memoryFits _ (fun t x ht => ?_) _ _ ?_)
                 | (with_reducible refine foldlL_memoryFits _ (fun t x ht => ?_) _ _ ?_)
                 | (with_reducible refine foldlP_memoryFits _ (fun t x ht => ?_) _ _ ?_) | split | dsimp only | simp)

theorem placeLate_memoryFits (ctl : Nat) (x0 : List (Nat × Bytes)) (x1 : Cache) (hs : MemoryFits x1.dram) : MemoryFits (placeLate ctl x0 x1).2.dram := by
  induction x0 generalizing x1 with
  | nil => exact hs
  | cons w ws ih =>
    simp only [placeLate]
    split
    · rename_i h1
      exact ih _ (cmbWrite_memoryFits _ h1 hs)
    · exact hs

theorem freeStaged_memoryFits (ref : CmdRef) (c : Cache) (hs : MemoryFits c.dram) : MemoryFits (freeStaged ref c).dram := by
  simp only [freeStaged]
  repeat' (first | (with_reducible assumption) | (with_reducible exact nil_memoryFits) | (with_reducible apply retireIdle_memoryFits) | split
                 | dsimp only | simp)

theorem remerge_memoryFits (ref : CmdRef) (p : PagePart) (c : Cache) (hs : MemoryFits c.dram) : MemoryFits (remerge ref p c).dram := by
  simp only [remerge]
  repeat' (first | (with_reducible assumption) | (with_reducible exact nil_memoryFits) | (with_reducible apply writeSectors_memoryFits)
                 | (with_reducible refine foldl_memoryFits _ (fun t x ht => ?_) _ _ ?_)
                 | (with_reducible refine foldl_snd_memoryFits _ (fun t x ht => ?_) _ _ ?_)
                 | (with_reducible refine foldlC_memoryFits _ (fun t x ht => ?_) _ _ ?_)
                 | (with_reducible refine foldlL_memoryFits _ (fun t x ht => ?_) _ _ ?_)
                 | (with_reducible refine foldlP_memoryFits _ (fun t x ht => ?_) _ _ ?_) | split | dsimp only | simp)

theorem scatterData_memoryFits {ctl : Nat} {c : Ctl} {x0 : List (Option Nat × Nat)} {x1 : Bytes} {x2 : Cache} {r1 : Bytes} (r : Cache) (e : scatterData ctl c x0 x1 x2 = some (r1, r))
    (hs : MemoryFits x2.dram) : MemoryFits r.dram := by
  induction x0 generalizing x1 x2 r1 r with
  | nil =>
    simp only [scatterData, Option.some.injEq, Prod.mk.injEq] at e
    obtain ⟨_, e⟩ := e
    subst e
    exact hs
  | cons p ps ih =>
    obtain ⟨o, n⟩ := p
    cases o with
    | none => exact ih _ (by simpa only [scatterData] using e) hs
    | some a =>
      simp only [scatterData] at e
      split at e
      · split at e
        · rename_i m1 h1
          exact ih _ e (cmbWrite_memoryFits _ h1 hs)
        · simp at e
      · simp only [Option.map_eq_some_iff, Prod.mk.injEq] at e
        obtain ⟨⟨b, m2⟩, h2, _, h3⟩ := e
        subst h3
        exact ih _ h2 hs

theorem settleVersions_memoryFits (c : Cache) (hs : MemoryFits c.dram) : MemoryFits (settleVersions c).dram := by
  simp only [settleVersions]
  repeat' (first | (with_reducible assumption) | (with_reducible exact nil_memoryFits) | (with_reducible apply freeAllStaged_memoryFits)
                 | (with_reducible apply supersedeOlder_memoryFits) | (with_reducible apply mergePage_memoryFits)
                 | (with_reducible refine foldl_memoryFits _ (fun t x ht => ?_) _ _ ?_)
                 | (with_reducible refine foldl_snd_memoryFits _ (fun t x ht => ?_) _ _ ?_)
                 | (with_reducible refine foldlC_memoryFits _ (fun t x ht => ?_) _ _ ?_)
                 | (with_reducible refine foldlL_memoryFits _ (fun t x ht => ?_) _ _ ?_)
                 | (with_reducible refine foldlP_memoryFits _ (fun t x ht => ?_) _ _ ?_) | split | dsimp only | simp)

theorem markDestaging_memoryFits (keyNs : Nat) (ch : List (Nat × Nat × Nat × Nat)) (c : Cache)
    (hs : MemoryFits c.dram) : MemoryFits (markDestaging keyNs ch c).dram := by
  simp only [markDestaging]
  repeat' (first | (with_reducible assumption) | (with_reducible exact nil_memoryFits) | split | dsimp only | simp)

theorem wtRecord_memoryFits (s : State) (hs : MemoryFits s.cache.dram) : MemoryFits (wtRecord s).cache.dram := by
  simp only [wtRecord]
  repeat' (first | (with_reducible assumption) | (with_reducible exact nil_memoryFits) | split | dsimp only | simp)

theorem dropWork_memoryFits (r : CmdRef) (s : State) (hs : MemoryFits s.cache.dram) : MemoryFits (dropWork r s).cache.dram := by
  simp only [dropWork]
  repeat' (first | (with_reducible assumption) | (with_reducible exact nil_memoryFits) | (with_reducible apply freeStaged_memoryFits) | split
                 | dsimp only | simp)

theorem abandonCmd_memoryFits (r : CmdRef) (status : Nat) (s : State) (hs : MemoryFits s.cache.dram) : MemoryFits (abandonCmd r status s).cache.dram := by
  simp only [abandonCmd]
  repeat' (first | (with_reducible assumption) | (with_reducible exact nil_memoryFits) | (with_reducible apply dropWork_memoryFits)
                 | (with_reducible apply wtRecord_memoryFits) | split | dsimp only | simp)

theorem beginDeletion_memoryFits (ctl : Nat) (qid : Nat) (s : State) (hs : MemoryFits s.cache.dram) : MemoryFits (beginDeletion ctl qid s).cache.dram := by
  simp only [beginDeletion]
  repeat' (first | (with_reducible assumption) | (with_reducible exact nil_memoryFits) | (with_reducible apply abandonCmd_memoryFits)
                 | (with_reducible refine foldl_memoryFits _ (fun t x ht => ?_) _ _ ?_)
                 | (with_reducible refine foldl_snd_memoryFits _ (fun t x ht => ?_) _ _ ?_)
                 | (with_reducible refine foldlC_memoryFits _ (fun t x ht => ?_) _ _ ?_)
                 | (with_reducible refine foldlL_memoryFits _ (fun t x ht => ?_) _ _ ?_)
                 | (with_reducible refine foldlP_memoryFits _ (fun t x ht => ?_) _ _ ?_) | split | dsimp only | simp)

theorem fetchOne_memoryFits (ctl : Nat) (sqid : Nat) (e : SqEntry) (s : State)
    (hs : MemoryFits s.cache.dram) : MemoryFits (fetchOne ctl sqid e s).cache.dram := by
  simp only [fetchOne]
  repeat' (first | (with_reducible assumption) | (with_reducible exact nil_memoryFits) | (with_reducible apply beginDeletion_memoryFits) | split
                 | dsimp only | simp)

theorem dropUncommitted_memoryFits (ctl : Nat) (s : State) (hs : MemoryFits s.cache.dram) : MemoryFits (dropUncommitted ctl s).cache.dram := by
  simp only [dropUncommitted]
  repeat' (first | (with_reducible assumption) | (with_reducible exact nil_memoryFits) | (with_reducible apply dropWork_memoryFits)
                 | (with_reducible refine foldl_memoryFits _ (fun t x ht => ?_) _ _ ?_)
                 | (with_reducible refine foldl_snd_memoryFits _ (fun t x ht => ?_) _ _ ?_)
                 | (with_reducible refine foldlC_memoryFits _ (fun t x ht => ?_) _ _ ?_)
                 | (with_reducible refine foldlL_memoryFits _ (fun t x ht => ?_) _ _ ?_)
                 | (with_reducible refine foldlP_memoryFits _ (fun t x ht => ?_) _ _ ?_) | split | dsimp only | simp)

theorem controllerReset_memoryFits (ctl : Nat) (s : State) (hs : MemoryFits s.cache.dram) : MemoryFits (controllerReset ctl s).cache.dram := by
  simp only [controllerReset]
  repeat' (first | (with_reducible assumption) | (with_reducible exact nil_memoryFits) | (with_reducible apply wtRecord_memoryFits)
                 | (with_reducible apply dropUncommitted_memoryFits) | split | dsimp only | simp)

theorem disableCtl_memoryFits (ctl : Nat) (s : State) (hs : MemoryFits s.cache.dram) : MemoryFits (disableCtl ctl s).cache.dram := by
  simp only [disableCtl]
  repeat' (first | (with_reducible assumption) | (with_reducible exact nil_memoryFits) | (with_reducible apply controllerReset_memoryFits) | split
                 | dsimp only | simp)

theorem enterService_memoryFits (noServe : Nat) (noConstr : Nat) (s : State)
    (hs : MemoryFits s.cache.dram) : MemoryFits (enterService noServe noConstr s).cache.dram := by
  simp only [enterService]
  repeat' (first | (with_reducible assumption) | (with_reducible exact nil_memoryFits) | split | dsimp only | simp)

theorem rejectWrites_memoryFits (s : State) (hs : MemoryFits s.cache.dram) : MemoryFits (rejectWrites s).cache.dram := by
  simp only [rejectWrites]
  repeat' (first | (with_reducible assumption) | (with_reducible exact nil_memoryFits) | (with_reducible apply abandonCmd_memoryFits)
                 | (with_reducible refine foldl_memoryFits _ (fun t x ht => ?_) _ _ ?_)
                 | (with_reducible refine foldl_snd_memoryFits _ (fun t x ht => ?_) _ _ ?_)
                 | (with_reducible refine foldlC_memoryFits _ (fun t x ht => ?_) _ _ ?_)
                 | (with_reducible refine foldlL_memoryFits _ (fun t x ht => ?_) _ _ ?_)
                 | (with_reducible refine foldlP_memoryFits _ (fun t x ht => ?_) _ _ ?_) | split | dsimp only | simp)

theorem policyCheck_memoryFits (s : State) (hs : MemoryFits s.cache.dram) : MemoryFits (policyCheck s).cache.dram := by
  simp only [policyCheck]
  repeat' (first | (with_reducible assumption) | (with_reducible exact nil_memoryFits) | (with_reducible apply wtRecord_memoryFits) | split
                 | dsimp only | simp)

theorem enableCtl_memoryFits (ctl : Nat) (mps : Nat) (ams : Nat) (asqs : Nat) (acqs : Nat) (s : State)
    (hs : MemoryFits s.cache.dram) : MemoryFits (enableCtl ctl mps ams asqs acqs s).cache.dram := by
  simp only [enableCtl]
  repeat' (first | (with_reducible assumption) | (with_reducible exact nil_memoryFits) | (with_reducible apply policyCheck_memoryFits) | split
                 | dsimp only | simp)

theorem enterQuarantine_memoryFits (no : Nat) (code : Nat) (detail : Nat) (s : State)
    (hs : MemoryFits s.cache.dram) : MemoryFits (enterQuarantine no code detail s).cache.dram := by
  simp only [enterQuarantine]
  repeat' (first | (with_reducible assumption) | (with_reducible exact nil_memoryFits) | (with_reducible apply rejectWrites_memoryFits) | split
                 | dsimp only | simp)

theorem toWriteBack_memoryFits (s : State) (hs : MemoryFits s.cache.dram) : MemoryFits (toWriteBack s).cache.dram := by
  simp only [toWriteBack]
  repeat' (first | (with_reducible assumption) | (with_reducible exact nil_memoryFits) | split | dsimp only | simp)

theorem tryBar2_memoryFits {ctl : Nat} {write : Bool} {tlp : Bar2Tlp} {s : State} (r : State) (e : tryBar2 ctl write tlp s = some r)
    (hs : MemoryFits s.cache.dram) : MemoryFits r.cache.dram := by
  simp only [tryBar2] at e
  (repeat' split at e) <;> (first | (simp at e; done) | skip)
  all_goals (simp only [Option.some.injEq, Prod.mk.injEq] at e; first | subst e | (obtain ⟨_, e⟩ := e; subst e)
                                                                      | (obtain ⟨_, _, e⟩ := e; subst e))
  all_goals repeat' (first | (with_reducible assumption) | (with_reducible exact nil_memoryFits) | (with_reducible apply accessPages_memoryFits)
                           | (with_reducible refine cmbWritePage_memoryFits _ (by with_reducible assumption) ?_) | split | dsimp only | simp)

theorem decodeAgain_memoryFits (ctl : Nat) (t : Bool × Bar2Tlp) (s : State) (hs : MemoryFits s.cache.dram) : MemoryFits (decodeAgain ctl t s).cache.dram := by
  simp only [decodeAgain]
  cases h : tryBar2 ctl t.1 t.2 s with
  | none => exact hs
  | some r => exact tryBar2_memoryFits _ h hs

theorem noteWait_memoryFits (at_ : Nat × Nat) (s : State) (hs : MemoryFits s.cache.dram) : MemoryFits (noteWait at_ s).cache.dram := by
  simp only [noteWait]
  repeat' (first | (with_reducible assumption) | (with_reducible exact nil_memoryFits) | split | dsimp only | simp)

theorem stallBar2_memoryFits (ctl : Nat) (write : Bool) (t : Bar2Tlp) (s : State)
    (hs : MemoryFits s.cache.dram) : MemoryFits (stallBar2 ctl write t s).cache.dram := by
  simp only [stallBar2]
  repeat' (first | (with_reducible assumption) | (with_reducible exact nil_memoryFits) | (with_reducible apply noteWait_memoryFits) | split
                 | dsimp only | simp)

theorem drainLate_memoryFits (ctl : Nat) (s : State) (hs : MemoryFits s.cache.dram) : MemoryFits (drainLate ctl s).cache.dram := by
  simp only [drainLate]
  split
  · exact hs
  · exact placeLate_memoryFits _ _ _ hs

theorem runBar2_memoryFits (ctl : Nat) (write : Bool) (t : Bar2Tlp) (s : State)
    (hs : MemoryFits s.cache.dram) : MemoryFits (runBar2 ctl write t s).cache.dram := by
  simp only [runBar2]
  split
  · cases h : tryBar2 ctl write t (drainLate ctl s) with
    | none => exact stallBar2_memoryFits _ _ _ _ (drainLate_memoryFits _ _ hs)
    | some r => exact tryBar2_memoryFits _ h (drainLate_memoryFits _ _ hs)
  · exact drainLate_memoryFits _ _ hs

theorem drainStalled_memoryFits (ctl : Nat) (s : State) (hs : MemoryFits s.cache.dram) : MemoryFits (drainStalled ctl s).cache.dram := by
  simp only [drainStalled]
  repeat' (first | (with_reducible assumption) | (with_reducible exact nil_memoryFits) | (with_reducible apply runBar2_memoryFits)
                 | (with_reducible apply drainLate_memoryFits) | (with_reducible refine foldl_memoryFits _ (fun t x ht => ?_) _ _ ?_)
                 | (with_reducible refine foldl_snd_memoryFits _ (fun t x ht => ?_) _ _ ?_)
                 | (with_reducible refine foldlC_memoryFits _ (fun t x ht => ?_) _ _ ?_)
                 | (with_reducible refine foldlL_memoryFits _ (fun t x ht => ?_) _ _ ?_)
                 | (with_reducible refine foldlP_memoryFits _ (fun t x ht => ?_) _ _ ?_) | split | dsimp only | simp)

theorem retireInbound_memoryFits (ctl : Nat) (s : State) (hs : MemoryFits s.cache.dram) : MemoryFits (retireInbound ctl s).cache.dram := by
  simp only [retireInbound]
  repeat' (first | (with_reducible assumption) | (with_reducible exact nil_memoryFits) | (with_reducible apply drainStalled_memoryFits)
                 | (with_reducible apply decodeAgain_memoryFits) | (with_reducible refine foldl_memoryFits _ (fun t x ht => ?_) _ _ ?_)
                 | (with_reducible refine foldl_snd_memoryFits _ (fun t x ht => ?_) _ _ ?_)
                 | (with_reducible refine foldlC_memoryFits _ (fun t x ht => ?_) _ _ ?_)
                 | (with_reducible refine foldlL_memoryFits _ (fun t x ht => ?_) _ _ ?_)
                 | (with_reducible refine foldlP_memoryFits _ (fun t x ht => ?_) _ _ ?_) | split | dsimp only | simp)

theorem retryStalled_memoryFits (s : State) (hs : MemoryFits s.cache.dram) : MemoryFits (retryStalled s).cache.dram := by
  simp only [retryStalled]
  repeat' (first | (with_reducible assumption) | (with_reducible exact nil_memoryFits) | (with_reducible apply drainStalled_memoryFits)
                 | (with_reducible refine foldl_memoryFits _ (fun t x ht => ?_) _ _ ?_)
                 | (with_reducible refine foldl_snd_memoryFits _ (fun t x ht => ?_) _ _ ?_)
                 | (with_reducible refine foldlC_memoryFits _ (fun t x ht => ?_) _ _ ?_)
                 | (with_reducible refine foldlL_memoryFits _ (fun t x ht => ?_) _ _ ?_)
                 | (with_reducible refine foldlP_memoryFits _ (fun t x ht => ?_) _ _ ?_) | split | dsimp only | simp)

theorem cmbmscWrite_memoryFits (ctl : Nat) (cre : Bool) (cmse : Bool) (cba : Nat) (s : State)
    (hs : MemoryFits s.cache.dram) : MemoryFits (cmbmscWrite ctl cre cmse cba s).cache.dram := by
  simp only [cmbmscWrite]
  repeat' (first | (with_reducible assumption) | (with_reducible exact nil_memoryFits) | (with_reducible apply discardCmb_memoryFits)
                 | (with_reducible apply retireWaiting_memoryFits) | (with_reducible apply retryStalled_memoryFits) | split | dsimp only | simp)

theorem inboundBar2_memoryFits (write : Bool) (t : Bar2Tlp) (s : State) (hs : MemoryFits s.cache.dram) : MemoryFits (inboundBar2 write t s).cache.dram := by
  simp only [inboundBar2]
  repeat' (first | (with_reducible assumption) | (with_reducible exact nil_memoryFits) | (with_reducible apply drainStalled_memoryFits)
                 | (with_reducible apply runBar2_memoryFits) | split | dsimp only | simp)

theorem setHoldup_memoryFits (limit : Nat) (s : State) (hs : MemoryFits s.cache.dram) : MemoryFits (setHoldup limit s).cache.dram := by
  simp only [setHoldup]
  repeat' (first | (with_reducible assumption) | (with_reducible exact nil_memoryFits) | (with_reducible apply policyCheck_memoryFits) | split
                 | dsimp only | simp)

theorem dropHoldup_memoryFits (s : State) (hs : MemoryFits s.cache.dram) : MemoryFits (dropHoldup s).cache.dram := by
  simp only [dropHoldup]
  repeat' (first | (with_reducible assumption) | (with_reducible exact nil_memoryFits) | (with_reducible apply setHoldup_memoryFits) | split
                 | dsimp only | simp)

theorem dropVaultChannel_memoryFits (ch : Nat) (s : State) (hs : MemoryFits s.cache.dram) : MemoryFits (dropVaultChannel ch s).cache.dram := by
  simp only [dropVaultChannel]
  repeat' (first | (with_reducible assumption) | (with_reducible exact nil_memoryFits) | (with_reducible apply dropHoldup_memoryFits) | split
                 | dsimp only | simp)

theorem removePack_memoryFits (s : State) (hs : MemoryFits s.cache.dram) : MemoryFits (removePack s).cache.dram := by
  simp only [removePack]
  repeat' (first | (with_reducible assumption) | (with_reducible exact nil_memoryFits) | (with_reducible apply dropHoldup_memoryFits) | split
                 | dsimp only | simp)

theorem sentinelLost_memoryFits (s : State) (hs : MemoryFits s.cache.dram) : MemoryFits (sentinelLost s).cache.dram := by
  simp only [sentinelLost]
  repeat' (first | (with_reducible assumption) | (with_reducible exact nil_memoryFits) | (with_reducible apply dropHoldup_memoryFits) | split
                 | dsimp only | simp)

theorem applyTimers_memoryFits (s : State) (hs : MemoryFits s.cache.dram) : MemoryFits (applyTimers s).cache.dram := by
  simp only [applyTimers]
  repeat' (first | (with_reducible assumption) | (with_reducible exact nil_memoryFits) | split | dsimp only | simp)

theorem wakeChannels_memoryFits (s : State) (hs : MemoryFits s.cache.dram) : MemoryFits (wakeChannels s).cache.dram := by
  simp only [wakeChannels]
  repeat' (first | (with_reducible assumption) | (with_reducible exact nil_memoryFits) | split | dsimp only | simp)

theorem evalCache_memoryFits (s : State) (hs : MemoryFits s.cache.dram) : MemoryFits (evalCache s).cache.dram := by
  simp only [evalCache]
  repeat' (first | (with_reducible assumption) | (with_reducible exact nil_memoryFits) | (with_reducible apply wakeChannels_memoryFits)
                 | (with_reducible apply policyCheck_memoryFits) | split | dsimp only | simp)

theorem enterIdlePs_memoryFits (ps : Nat) (s : State) (hs : MemoryFits s.cache.dram) : MemoryFits (enterIdlePs ps s).cache.dram := by
  simp only [enterIdlePs]
  repeat' (first | (with_reducible assumption) | (with_reducible exact nil_memoryFits)
                 | (with_reducible refine foldl_memoryFits _ (fun t x ht => ?_) _ _ ?_)
                 | (with_reducible refine foldl_snd_memoryFits _ (fun t x ht => ?_) _ _ ?_)
                 | (with_reducible refine foldlC_memoryFits _ (fun t x ht => ?_) _ _ ?_)
                 | (with_reducible refine foldlL_memoryFits _ (fun t x ht => ?_) _ _ ?_)
                 | (with_reducible refine foldlP_memoryFits _ (fun t x ht => ?_) _ _ ?_) | split | dsimp only | simp)

theorem goToPs_memoryFits (ps : Nat) (s : State) (hs : MemoryFits s.cache.dram) : MemoryFits (goToPs ps s).cache.dram := by
  simp only [goToPs]
  repeat' (first | (with_reducible assumption) | (with_reducible exact nil_memoryFits) | (with_reducible apply enterIdlePs_memoryFits) | split
                 | dsimp only | simp)

theorem settlePs_memoryFits (s : State) (hs : MemoryFits s.cache.dram) : MemoryFits (settlePs s).cache.dram := by
  simp only [settlePs]
  repeat' (first | (with_reducible assumption) | (with_reducible exact nil_memoryFits) | (with_reducible apply enterIdlePs_memoryFits) | split
                 | dsimp only | simp)

theorem finishPages_memoryFits (u : HandUpd) (s : State) (hs : MemoryFits s.cache.dram) : MemoryFits (finishPages u s).cache.dram := by
  simp only [finishPages]
  repeat' (first | (with_reducible assumption) | (with_reducible exact nil_memoryFits) | (with_reducible apply finishVersion_memoryFits)
                 | (with_reducible refine foldl_memoryFits _ (fun t x ht => ?_) _ _ ?_)
                 | (with_reducible refine foldl_snd_memoryFits _ (fun t x ht => ?_) _ _ ?_)
                 | (with_reducible refine foldlC_memoryFits _ (fun t x ht => ?_) _ _ ?_)
                 | (with_reducible refine foldlL_memoryFits _ (fun t x ht => ?_) _ _ ?_)
                 | (with_reducible refine foldlP_memoryFits _ (fun t x ht => ?_) _ _ ?_) | split | dsimp only | simp)

theorem finishFirsts_memoryFits (id : Nat) (s : State) (hs : MemoryFits s.cache.dram) : MemoryFits (finishFirsts id s).cache.dram := by
  simp only [finishFirsts]
  repeat' (first | (with_reducible assumption) | (with_reducible exact nil_memoryFits) | (with_reducible apply finishPages_memoryFits)
                 | (with_reducible refine foldl_memoryFits _ (fun t x ht => ?_) _ _ ?_)
                 | (with_reducible refine foldl_snd_memoryFits _ (fun t x ht => ?_) _ _ ?_)
                 | (with_reducible refine foldlC_memoryFits _ (fun t x ht => ?_) _ _ ?_)
                 | (with_reducible refine foldlL_memoryFits _ (fun t x ht => ?_) _ _ ?_)
                 | (with_reducible refine foldlP_memoryFits _ (fun t x ht => ?_) _ _ ?_) | split | dsimp only | simp)

theorem abandonRedeal_memoryFits (id : Nat) (reason : Nat) (f : DeckLabel → DeckLabel) (s : State)
    (hs : MemoryFits s.cache.dram) : MemoryFits (abandonRedeal id reason f s).cache.dram := by
  simp only [abandonRedeal]
  repeat' (first | (with_reducible assumption) | (with_reducible exact nil_memoryFits) | (with_reducible apply finishFirsts_memoryFits)
                 | (with_reducible refine foldl_memoryFits _ (fun t x ht => ?_) _ _ ?_)
                 | (with_reducible refine foldl_snd_memoryFits _ (fun t x ht => ?_) _ _ ?_)
                 | (with_reducible refine foldlC_memoryFits _ (fun t x ht => ?_) _ _ ?_)
                 | (with_reducible refine foldlL_memoryFits _ (fun t x ht => ?_) _ _ ?_)
                 | (with_reducible refine foldlP_memoryFits _ (fun t x ht => ?_) _ _ ?_) | split | dsimp only | simp)

theorem declareFailed_memoryFits (id : Nat) (mem : Nat) (s : State) (hs : MemoryFits s.cache.dram) : MemoryFits (declareFailed id mem s).cache.dram := by
  simp only [declareFailed]
  repeat' (first | (with_reducible assumption) | (with_reducible exact nil_memoryFits) | (with_reducible apply abandonRedeal_memoryFits) | split
                 | dsimp only | simp)

theorem failSlot_memoryFits (x : Nat) (s : State) (hs : MemoryFits s.cache.dram) : MemoryFits (failSlot x s).cache.dram := by
  simp only [failSlot]
  repeat' (first | (with_reducible assumption) | (with_reducible exact nil_memoryFits) | (with_reducible apply declareFailed_memoryFits) | split
                 | dsimp only | simp)

theorem settleHealth_memoryFits (x : Nat) (s : State) (hs : MemoryFits s.cache.dram) : MemoryFits (settleHealth x s).cache.dram := by
  simp only [settleHealth]
  repeat' (first | (with_reducible assumption) | (with_reducible exact nil_memoryFits) | (with_reducible apply failSlot_memoryFits) | split
                 | dsimp only | simp)

theorem settleAll_memoryFits (s : State) (hs : MemoryFits s.cache.dram) : MemoryFits (settleAll s).cache.dram := by
  simp only [settleAll]
  repeat' (first | (with_reducible assumption) | (with_reducible exact nil_memoryFits) | (with_reducible apply settleHealth_memoryFits)
                 | (with_reducible refine foldl_memoryFits _ (fun t x ht => ?_) _ _ ?_)
                 | (with_reducible refine foldl_snd_memoryFits _ (fun t x ht => ?_) _ _ ?_)
                 | (with_reducible refine foldlC_memoryFits _ (fun t x ht => ?_) _ _ ?_)
                 | (with_reducible refine foldlL_memoryFits _ (fun t x ht => ?_) _ _ ?_)
                 | (with_reducible refine foldlP_memoryFits _ (fun t x ht => ?_) _ _ ?_) | split | dsimp only | simp)

theorem settleStarts_memoryFits (id : Nat) (s : State) (hs : MemoryFits s.cache.dram) : MemoryFits (settleStarts id s).cache.dram := by
  simp only [settleStarts]
  repeat' (first | (with_reducible assumption) | (with_reducible exact nil_memoryFits)
                 | (with_reducible refine installAll_memoryFits _ (by with_reducible assumption) ?_)
                 | (with_reducible refine foldl_memoryFits _ (fun t x ht => ?_) _ _ ?_)
                 | (with_reducible refine foldl_snd_memoryFits _ (fun t x ht => ?_) _ _ ?_)
                 | (with_reducible refine foldlC_memoryFits _ (fun t x ht => ?_) _ _ ?_)
                 | (with_reducible refine foldlL_memoryFits _ (fun t x ht => ?_) _ _ ?_)
                 | (with_reducible refine foldlP_memoryFits _ (fun t x ht => ?_) _ _ ?_) | split | dsimp only | simp)

theorem startUpdate_memoryFits (id : Nat) (hd : Nat) (v : Volume) (reads : List BlockRead) (s : State)
    (hs : MemoryFits s.cache.dram) : MemoryFits (startUpdate id hd v reads s).cache.dram := by
  simp only [startUpdate]
  repeat' (first | (with_reducible assumption) | (with_reducible exact nil_memoryFits) | (with_reducible apply markDestaging_memoryFits)
                 | (with_reducible apply settleStarts_memoryFits) | (with_reducible refine installAll_memoryFits _ (by with_reducible assumption) ?_)
                 | (with_reducible refine foldl_memoryFits _ (fun t x ht => ?_) _ _ ?_)
                 | (with_reducible refine foldl_snd_memoryFits _ (fun t x ht => ?_) _ _ ?_)
                 | (with_reducible refine foldlC_memoryFits _ (fun t x ht => ?_) _ _ ?_)
                 | (with_reducible refine foldlL_memoryFits _ (fun t x ht => ?_) _ _ ?_)
                 | (with_reducible refine foldlP_memoryFits _ (fun t x ht => ?_) _ _ ?_) | split | dsimp only | simp)

theorem failAbsent_memoryFits (id : Nat) (hd : Nat) (s : State) (hs : MemoryFits s.cache.dram) : MemoryFits (failAbsent id hd s).cache.dram := by
  simp only [failAbsent]
  repeat' (first | (with_reducible assumption) | (with_reducible exact nil_memoryFits) | (with_reducible apply declareFailed_memoryFits)
                 | (with_reducible refine foldl_memoryFits _ (fun t x ht => ?_) _ _ ?_)
                 | (with_reducible refine foldl_snd_memoryFits _ (fun t x ht => ?_) _ _ ?_)
                 | (with_reducible refine foldlC_memoryFits _ (fun t x ht => ?_) _ _ ?_)
                 | (with_reducible refine foldlL_memoryFits _ (fun t x ht => ?_) _ _ ?_)
                 | (with_reducible refine foldlP_memoryFits _ (fun t x ht => ?_) _ _ ?_) | split | dsimp only | simp)

theorem issueUpdate_memoryFits (id : Nat) (u : HandUpd) (reads : List BlockRead) (s0 : State)
    (hs : MemoryFits s0.cache.dram) : MemoryFits (issueUpdate id u reads s0).cache.dram := by
  simp only [issueUpdate]
  repeat' (first | (with_reducible assumption) | (with_reducible exact nil_memoryFits) | (with_reducible apply accessPages_memoryFits)
                 | (with_reducible refine foldl_memoryFits _ (fun t x ht => ?_) _ _ ?_)
                 | (with_reducible refine foldl_snd_memoryFits _ (fun t x ht => ?_) _ _ ?_)
                 | (with_reducible refine foldlC_memoryFits _ (fun t x ht => ?_) _ _ ?_)
                 | (with_reducible refine foldlL_memoryFits _ (fun t x ht => ?_) _ _ ?_)
                 | (with_reducible refine foldlP_memoryFits _ (fun t x ht => ?_) _ _ ?_) | split | dsimp only | simp)

theorem haltAt_memoryFits (ref : CmdRef) (reason : Nat) (info : Nat) (s : State)
    (hs : MemoryFits s.cache.dram) : MemoryFits (haltAt ref reason info s).cache.dram := by
  simp only [haltAt]
  repeat' (first | (with_reducible assumption) | (with_reducible exact nil_memoryFits) | (with_reducible apply dropWork_memoryFits)
                 | (with_reducible apply wtRecord_memoryFits) | (with_reducible refine foldl_memoryFits _ (fun t x ht => ?_) _ _ ?_)
                 | (with_reducible refine foldl_snd_memoryFits _ (fun t x ht => ?_) _ _ ?_)
                 | (with_reducible refine foldlC_memoryFits _ (fun t x ht => ?_) _ _ ?_)
                 | (with_reducible refine foldlL_memoryFits _ (fun t x ht => ?_) _ _ ?_)
                 | (with_reducible refine foldlP_memoryFits _ (fun t x ht => ?_) _ _ ?_) | split | dsimp only | simp)

theorem failFill_memoryFits (keyNs : Nat) (vpage : Nat) (s : State) (hs : MemoryFits s.cache.dram) : MemoryFits (failFill keyNs vpage s).cache.dram := by
  simp only [failFill]
  repeat' (first | (with_reducible assumption) | (with_reducible exact nil_memoryFits) | (with_reducible apply abandonCmd_memoryFits)
                 | (with_reducible refine foldl_memoryFits _ (fun t x ht => ?_) _ _ ?_)
                 | (with_reducible refine foldl_snd_memoryFits _ (fun t x ht => ?_) _ _ ?_)
                 | (with_reducible refine foldlC_memoryFits _ (fun t x ht => ?_) _ _ ?_)
                 | (with_reducible refine foldlL_memoryFits _ (fun t x ht => ?_) _ _ ?_)
                 | (with_reducible refine foldlP_memoryFits _ (fun t x ht => ?_) _ _ ?_) | split | dsimp only | simp)

theorem failPi_memoryFits (ref : CmdRef) (e : PiError) (s : State) (hs : MemoryFits s.cache.dram) : MemoryFits (failPi ref e s).cache.dram := by
  simp only [failPi]
  repeat' (first | (with_reducible assumption) | (with_reducible exact nil_memoryFits) | (with_reducible apply abandonCmd_memoryFits) | split
                 | dsimp only | simp)

theorem deliverRead_memoryFits {j : ReadJob} {out : Bytes} {s : State} (r : State) (e : deliverRead j out s = some r)
    (hs : MemoryFits s.cache.dram) : MemoryFits r.cache.dram := by
  simp only [deliverRead] at e
  split at e
  · simp at e
  · split at e
    · simp at e
    · rename_i h1
      simp only [Option.some.injEq] at e
      subst e
      have h2 := scatterData_memoryFits _ h1 (drainLate_memoryFits _ _ hs)
      split
      · exact h2
      · simpa using h2

theorem finishRead_memoryFits (j : ReadJob) (s : State) (hs : MemoryFits s.cache.dram) : MemoryFits (finishRead j s).cache.dram := by
  simp only [finishRead]
  split
  · simpa using hs
  · split
    · exact failPi_memoryFits _ _ _ hs
    · split
      · split
        · simpa using hs
        · simpa using hs
      · split
        · simpa using hs
        · split
          · split <;> exact hs
          · rename_i u hu
            simpa using deliverRead_memoryFits _ hu hs

theorem servePage_memoryFits (ns : Nat) (v : Volume) (d : Deck) (vpage : Nat) (data : Bytes) (s : State)
    (hs : MemoryFits s.cache.dram) : MemoryFits (servePage ns v d vpage data s).cache.dram := by
  simp only [servePage]
  repeat' (first | (with_reducible assumption) | (with_reducible exact nil_memoryFits) | (with_reducible apply accessPages_memoryFits)
                 | (with_reducible apply finishRead_memoryFits) | (with_reducible apply installFill_memoryFits)
                 | (with_reducible refine foldl_memoryFits _ (fun t x ht => ?_) _ _ ?_)
                 | (with_reducible refine foldl_snd_memoryFits _ (fun t x ht => ?_) _ _ ?_)
                 | (with_reducible refine foldlC_memoryFits _ (fun t x ht => ?_) _ _ ?_)
                 | (with_reducible refine foldlL_memoryFits _ (fun t x ht => ?_) _ _ ?_)
                 | (with_reducible refine foldlP_memoryFits _ (fun t x ht => ?_) _ _ ?_) | split | dsimp only | simp)

theorem beginFill_memoryFits (id : Nat) (d : Deck) (v : Volume) (page : Nat) (s : State)
    (hs : MemoryFits s.cache.dram) : MemoryFits (beginFill id d v page s).cache.dram := by
  simp only [beginFill]
  repeat' (first | (with_reducible assumption) | (with_reducible exact nil_memoryFits) | (with_reducible apply drawWseq_memoryFits)
                 | (with_reducible refine allocFrame_memoryFits _ (by with_reducible assumption) ?_) | split | dsimp only | simp)

theorem startRead_memoryFits (a : IoArgs) (v : Volume) (d : Deck) (compare : Option (Bytes × Bytes)) (toHost : Bool) (s : State)
    (hs : MemoryFits s.cache.dram) : MemoryFits (startRead a v d compare toHost s).cache.dram := by
  simp only [startRead]
  repeat' (first | (with_reducible assumption) | (with_reducible exact nil_memoryFits) | (with_reducible apply accessPages_memoryFits)
                 | (with_reducible apply finishRead_memoryFits) | (with_reducible apply beginFill_memoryFits) | (with_reducible apply touchPage_memoryFits)
                 | (with_reducible refine foldl_memoryFits _ (fun t x ht => ?_) _ _ ?_)
                 | (with_reducible refine foldl_snd_memoryFits _ (fun t x ht => ?_) _ _ ?_)
                 | (with_reducible refine foldlC_memoryFits _ (fun t x ht => ?_) _ _ ?_)
                 | (with_reducible refine foldlL_memoryFits _ (fun t x ht => ?_) _ _ ?_)
                 | (with_reducible refine foldlP_memoryFits _ (fun t x ht => ?_) _ _ ?_) | split | dsimp only | simp)

theorem askBase_memoryFits (parts : List PagePart) (s : State) (hs : MemoryFits s.cache.dram) : MemoryFits (askBase parts s).cache.dram := by
  simp only [askBase]
  repeat' (first | (with_reducible assumption) | (with_reducible exact nil_memoryFits) | (with_reducible apply beginFill_memoryFits)
                 | (with_reducible refine foldl_memoryFits _ (fun t x ht => ?_) _ _ ?_)
                 | (with_reducible refine foldl_snd_memoryFits _ (fun t x ht => ?_) _ _ ?_)
                 | (with_reducible refine foldlC_memoryFits _ (fun t x ht => ?_) _ _ ?_)
                 | (with_reducible refine foldlL_memoryFits _ (fun t x ht => ?_) _ _ ?_)
                 | (with_reducible refine foldlP_memoryFits _ (fun t x ht => ?_) _ _ ?_) | split | dsimp only | simp)

theorem tryStage_memoryFits (ref : CmdRef) (parts : List PagePart) (s : State)
    (hs : MemoryFits s.cache.dram) : MemoryFits (tryStage ref parts s).cache.dram := by
  simp only [tryStage]
  repeat' (first | (with_reducible assumption) | (with_reducible exact nil_memoryFits) | (with_reducible apply accessPages_memoryFits)
                 | (with_reducible apply askBase_memoryFits) | (with_reducible apply noteWait_memoryFits)
                 | (with_reducible refine stageParts_memoryFits _ (by with_reducible assumption) ?_) | split | dsimp only | simp)

theorem beginWrite_memoryFits (ref : CmdRef) (nsid : Nat) (parts : List PagePart) (s : State)
    (hs : MemoryFits s.cache.dram) : MemoryFits (beginWrite ref nsid parts s).cache.dram := by
  simp only [beginWrite]
  repeat' (first | (with_reducible assumption) | (with_reducible exact nil_memoryFits) | (with_reducible apply tryStage_memoryFits) | split
                 | dsimp only | simp)

theorem readLike_memoryFits (a : IoArgs) (compare : Option (Bytes × Bytes)) (toHost : Bool) (s : State)
    (hs : MemoryFits s.cache.dram) : MemoryFits (readLike a compare toHost s).cache.dram := by
  simp only [readLike, afterPtr]
  repeat' (first | (with_reducible assumption) | (with_reducible exact nil_memoryFits) | (with_reducible apply haltAt_memoryFits)
                 | (with_reducible apply startRead_memoryFits) | split | dsimp only | simp)

theorem takeFill_memoryFits (ns : Nat) (id : Nat) (d : Deck) (v : Volume) (vpage : Nat) (at_ : Nat × Nat × Nat) (reads : List BlockRead) (s : State)
    (hs : MemoryFits s.cache.dram) : MemoryFits (takeFill ns id d v vpage at_ reads s).cache.dram := by
  simp only [takeFill]
  repeat' (first | (with_reducible assumption) | (with_reducible exact nil_memoryFits) | (with_reducible apply failFill_memoryFits)
                 | (with_reducible apply servePage_memoryFits) | split | dsimp only | simp)

theorem resyncHand_memoryFits (deck : Nat) (hand : Nat) (wm : Nat) (started : BitVec 64) (reads : List BlockRead) (s : State)
    (hs : MemoryFits s.cache.dram) : MemoryFits (resyncHand deck hand wm started reads s).cache.dram := by
  simp only [resyncHand]
  repeat' (first | (with_reducible assumption) | (with_reducible exact nil_memoryFits) | (with_reducible apply settleAll_memoryFits)
                 | (with_reducible refine foldl_memoryFits _ (fun t x ht => ?_) _ _ ?_)
                 | (with_reducible refine foldl_snd_memoryFits _ (fun t x ht => ?_) _ _ ?_)
                 | (with_reducible refine foldlC_memoryFits _ (fun t x ht => ?_) _ _ ?_)
                 | (with_reducible refine foldlL_memoryFits _ (fun t x ht => ?_) _ _ ?_)
                 | (with_reducible refine foldlP_memoryFits _ (fun t x ht => ?_) _ _ ?_) | split | dsimp only | simp)

theorem copyRound_memoryFits (deck : Nat) (fe : FailEntry) (e : MemberEntry) (todo : List (Nat × Nat)) (reads : List (Nat × List BlockRead)) (s : State)
    (hs : MemoryFits s.cache.dram) : MemoryFits (copyRound deck fe e todo reads s).cache.dram := by
  simp only [copyRound]
  repeat' (first | (with_reducible assumption) | (with_reducible exact nil_memoryFits) | (with_reducible apply settleAll_memoryFits)
                 | (with_reducible refine foldl_memoryFits _ (fun t x ht => ?_) _ _ ?_)
                 | (with_reducible refine foldl_snd_memoryFits _ (fun t x ht => ?_) _ _ ?_)
                 | (with_reducible refine foldlC_memoryFits _ (fun t x ht => ?_) _ _ ?_)
                 | (with_reducible refine foldlL_memoryFits _ (fun t x ht => ?_) _ _ ?_)
                 | (with_reducible refine foldlP_memoryFits _ (fun t x ht => ?_) _ _ ?_) | split | dsimp only | simp)

theorem mendRow_memoryFits (deck : Nat) (hand : Nat) (row : Nat) (sus : Nat × Nat × List (Nat × Nat)) (reads : List BlockRead) (s : State)
    (hs : MemoryFits s.cache.dram) : MemoryFits (mendRow deck hand row sus reads s).cache.dram := by
  simp only [mendRow]
  repeat' (first | (with_reducible assumption) | (with_reducible exact nil_memoryFits) | (with_reducible apply settleAll_memoryFits) | split
                 | dsimp only | simp)

theorem checkRow_memoryFits (deck : Nat) (hand : Nat) (row : Nat) (reads : List BlockRead) (s : State)
    (hs : MemoryFits s.cache.dram) : MemoryFits (checkRow deck hand row reads s).cache.dram := by
  simp only [checkRow]
  repeat' (first | (with_reducible assumption) | (with_reducible exact nil_memoryFits) | (with_reducible apply settleAll_memoryFits) | split
                 | dsimp only | simp)

theorem commitSwitch_memoryFits (id : Nat) (d : Deck) (nd : Deck) (r : RedealField) (run : RedealRun) (s : State)
    (hs : MemoryFits s.cache.dram) : MemoryFits (commitSwitch id d nd r run s).cache.dram := by
  simp only [commitSwitch]
  repeat' (first | (with_reducible assumption) | (with_reducible exact nil_memoryFits)
                 | (with_reducible refine foldl_memoryFits _ (fun t x ht => ?_) _ _ ?_)
                 | (with_reducible refine foldl_snd_memoryFits _ (fun t x ht => ?_) _ _ ?_)
                 | (with_reducible refine foldlC_memoryFits _ (fun t x ht => ?_) _ _ ?_)
                 | (with_reducible refine foldlL_memoryFits _ (fun t x ht => ?_) _ _ ?_)
                 | (with_reducible refine foldlP_memoryFits _ (fun t x ht => ?_) _ _ ?_) | split | dsimp only | simp)

theorem copyHand_memoryFits (deck : Nat) (nsid : Nat) (vhand : Nat) (hd : Nat) (r : RedealField) (run : RedealRun) (nd : Deck) (v : Volume) (reads : List (Nat × List BlockRead)) (ws : List WaitWrite) (s : State)
    (hs : MemoryFits s.cache.dram) : MemoryFits (copyHand deck nsid vhand hd r run nd v reads ws s).cache.dram := by
  simp only [copyHand]
  repeat' (first | (with_reducible assumption) | (with_reducible exact nil_memoryFits) | (with_reducible apply settleAll_memoryFits)
                 | (with_reducible refine foldl_memoryFits _ (fun t x ht => ?_) _ _ ?_)
                 | (with_reducible refine foldl_snd_memoryFits _ (fun t x ht => ?_) _ _ ?_)
                 | (with_reducible refine foldlC_memoryFits _ (fun t x ht => ?_) _ _ ?_)
                 | (with_reducible refine foldlL_memoryFits _ (fun t x ht => ?_) _ _ ?_)
                 | (with_reducible refine foldlP_memoryFits _ (fun t x ht => ?_) _ _ ?_) | split | dsimp only | simp)

theorem dropAdded_memoryFits (x : Nat) (s : State) (hs : MemoryFits s.cache.dram) : MemoryFits (dropAdded x s).cache.dram := by
  simp only [dropAdded]
  repeat' (first | (with_reducible assumption) | (with_reducible exact nil_memoryFits) | (with_reducible apply abandonRedeal_memoryFits)
                 | (with_reducible refine foldl_memoryFits _ (fun t x ht => ?_) _ _ ?_)
                 | (with_reducible refine foldl_snd_memoryFits _ (fun t x ht => ?_) _ _ ?_)
                 | (with_reducible refine foldlC_memoryFits _ (fun t x ht => ?_) _ _ ?_)
                 | (with_reducible refine foldlL_memoryFits _ (fun t x ht => ?_) _ _ ?_)
                 | (with_reducible refine foldlP_memoryFits _ (fun t x ht => ?_) _ _ ?_) | split | dsimp only | simp)

theorem settlePorts_memoryFits (x : Nat) (s : State) (hs : MemoryFits s.cache.dram) : MemoryFits (settlePorts x s).cache.dram := by
  simp only [settlePorts]
  repeat' (first | (with_reducible assumption) | (with_reducible exact nil_memoryFits) | (with_reducible apply dropAdded_memoryFits) | split
                 | dsimp only | simp)

theorem failPort_memoryFits (x : Nat) (port : Nat) (s : State) (hs : MemoryFits s.cache.dram) : MemoryFits (failPort x port s).cache.dram := by
  simp only [failPort]
  repeat' (first | (with_reducible assumption) | (with_reducible exact nil_memoryFits) | (with_reducible apply dropAdded_memoryFits) | split
                 | dsimp only | simp)

theorem takeStep_memoryFits (x : Nat) (port : Nat) (n : Nat) (s : State) (hs : MemoryFits s.cache.dram) : MemoryFits (takeStep x port n s).cache.dram := by
  simp only [takeStep]
  repeat' (first | (with_reducible assumption) | (with_reducible exact nil_memoryFits) | (with_reducible apply failPort_memoryFits) | split
                 | dsimp only | simp)

theorem handleWithheldTagTimeout_memoryFits (slot : Nat) (port : Nat) (s : State)
    (hs : MemoryFits s.cache.dram) : MemoryFits (handleWithheldTagTimeout slot port s).cache.dram := by
  simp only [handleWithheldTagTimeout]
  repeat' (first | (with_reducible assumption) | (with_reducible exact nil_memoryFits) | (with_reducible apply settleAll_memoryFits)
                 | (with_reducible apply takeStep_memoryFits) | split | dsimp only | simp)

theorem failStep_memoryFits (x : Nat) (port : Nat) (s : State) (hs : MemoryFits s.cache.dram) : MemoryFits (failStep x port s).cache.dram := by
  simp only [failStep]
  repeat' (first | (with_reducible assumption) | (with_reducible exact nil_memoryFits) | (with_reducible apply failSlot_memoryFits)
                 | (with_reducible apply failPort_memoryFits) | split | dsimp only | simp)

theorem endStep_memoryFits (x : Nat) (port : Nat) (n : Nat) (ok : Bool) (s : State)
    (hs : MemoryFits s.cache.dram) : MemoryFits (endStep x port n ok s).cache.dram := by
  simp only [endStep]
  repeat' (first | (with_reducible assumption) | (with_reducible exact nil_memoryFits) | (with_reducible apply settleAll_memoryFits)
                 | (with_reducible apply failStep_memoryFits) | split | dsimp only | simp)

theorem settleRing_memoryFits (t : MTag) (s : State) (hs : MemoryFits s.cache.dram) : MemoryFits (settleRing t s).cache.dram := by
  simp only [settleRing]
  repeat' (first | (with_reducible assumption) | (with_reducible exact nil_memoryFits) | (with_reducible apply settleStarts_memoryFits) | split
                 | dsimp only | simp)

theorem noteTimeout_memoryFits (x : Nat) (port : Nat) (s : State) (hs : MemoryFits s.cache.dram) : MemoryFits (noteTimeout x port s).cache.dram := by
  simp only [noteTimeout]
  repeat' (first | (with_reducible assumption) | (with_reducible exact nil_memoryFits) | (with_reducible apply takeStep_memoryFits) | split
                 | dsimp only | simp)

theorem handleMemberPortReadyTimeout_memoryFits (slot : Nat) (port : Nat) (s : State)
    (hs : MemoryFits s.cache.dram) : MemoryFits (handleMemberPortReadyTimeout slot port s).cache.dram := by
  simp only [handleMemberPortReadyTimeout]
  repeat' (first | (with_reducible assumption) | (with_reducible exact nil_memoryFits) | (with_reducible apply settleAll_memoryFits) | split
                 | dsimp only | simp)

theorem handleMemberPortBringup_memoryFits (slot : Nat) (port : Nat) (speed : Nat) (width : Nat) (info : DriveInfo) (s : State)
    (hs : MemoryFits s.cache.dram) : MemoryFits (handleMemberPortBringup slot port speed width info s).cache.dram := by
  simp only [handleMemberPortBringup]
  repeat' (first | (with_reducible assumption) | (with_reducible exact nil_memoryFits) | (with_reducible apply settleAll_memoryFits)
                 | (with_reducible apply settlePorts_memoryFits) | split | dsimp only | simp)

theorem writeFails_memoryFits (x : Nat) (t : MTag) (s : State) (hs : MemoryFits s.cache.dram) : MemoryFits (writeFails x t s).cache.dram := by
  simp only [writeFails]
  repeat' (first | (with_reducible assumption) | (with_reducible exact nil_memoryFits) | (with_reducible apply dropAdded_memoryFits)
                 | (with_reducible apply failSlot_memoryFits) | split | dsimp only | simp)

theorem mediaReadOnly_memoryFits (x : Nat) (s : State) (hs : MemoryFits s.cache.dram) : MemoryFits (mediaReadOnly x s).cache.dram := by
  simp only [mediaReadOnly]
  repeat' (first | (with_reducible assumption) | (with_reducible exact nil_memoryFits) | (with_reducible apply failSlot_memoryFits) | split
                 | dsimp only | simp)

theorem handleLadderStepBoundExpiry_memoryFits (slot : Nat) (port : Nat) (s : State)
    (hs : MemoryFits s.cache.dram) : MemoryFits (handleLadderStepBoundExpiry slot port s).cache.dram := by
  simp only [handleLadderStepBoundExpiry]
  repeat' (first | (with_reducible assumption) | (with_reducible exact nil_memoryFits) | (with_reducible apply settleAll_memoryFits)
                 | (with_reducible apply failStep_memoryFits) | split | dsimp only | simp)

theorem nextStep_memoryFits (x : Nat) (port : Nat) (t : MTag) (s : State) (hs : MemoryFits s.cache.dram) : MemoryFits (nextStep x port t s).cache.dram := by
  simp only [nextStep]
  repeat' (first | (with_reducible assumption) | (with_reducible exact nil_memoryFits) | (with_reducible apply takeStep_memoryFits) | split
                 | dsimp only | simp)

theorem lateRing_memoryFits (t : MTag) (s : State) (hs : MemoryFits s.cache.dram) : MemoryFits (lateRing t s).cache.dram := by
  simp only [lateRing]
  repeat' (first | (with_reducible assumption) | (with_reducible exact nil_memoryFits) | (with_reducible apply settleRing_memoryFits) | split
                 | dsimp only | simp)

theorem handleMemberCommandTimeout_memoryFits (slot : Nat) (port : Nat) (tag : Nat) (s : State)
    (hs : MemoryFits s.cache.dram) : MemoryFits (handleMemberCommandTimeout slot port tag s).cache.dram := by
  simp only [handleMemberCommandTimeout]
  repeat' (first | (with_reducible assumption) | (with_reducible exact nil_memoryFits) | (with_reducible apply settleAll_memoryFits)
                 | (with_reducible apply noteTimeout_memoryFits) | (with_reducible apply nextStep_memoryFits) | (with_reducible apply lateRing_memoryFits)
                 | (with_reducible refine foldl_memoryFits _ (fun t x ht => ?_) _ _ ?_)
                 | (with_reducible refine foldl_snd_memoryFits _ (fun t x ht => ?_) _ _ ?_)
                 | (with_reducible refine foldlC_memoryFits _ (fun t x ht => ?_) _ _ ?_)
                 | (with_reducible refine foldlL_memoryFits _ (fun t x ht => ?_) _ _ ?_)
                 | (with_reducible refine foldlP_memoryFits _ (fun t x ht => ?_) _ _ ?_) | split | dsimp only | simp)

theorem handleMemberAsyncEvent_memoryFits (slot : Nat) (critWarn : BitVec 8) (fwChange : Option Nat) (temp : Nat) (s : State)
    (hs : MemoryFits s.cache.dram) : MemoryFits (handleMemberAsyncEvent slot critWarn fwChange temp s).cache.dram := by
  simp only [handleMemberAsyncEvent]
  repeat' (first | (with_reducible assumption) | (with_reducible exact nil_memoryFits) | (with_reducible apply settleAll_memoryFits)
                 | (with_reducible apply mediaReadOnly_memoryFits) | (with_reducible refine foldl_memoryFits _ (fun t x ht => ?_) _ _ ?_)
                 | (with_reducible refine foldl_snd_memoryFits _ (fun t x ht => ?_) _ _ ?_)
                 | (with_reducible refine foldlC_memoryFits _ (fun t x ht => ?_) _ _ ?_)
                 | (with_reducible refine foldlL_memoryFits _ (fun t x ht => ?_) _ _ ?_)
                 | (with_reducible refine foldlP_memoryFits _ (fun t x ht => ?_) _ _ ?_) | split | dsimp only | simp)

theorem handleMemberPcieCompletionTimeout_memoryFits (slot : Nat) (port : Nat) (s : State)
    (hs : MemoryFits s.cache.dram) : MemoryFits (handleMemberPcieCompletionTimeout slot port s).cache.dram := by
  simp only [handleMemberPcieCompletionTimeout]
  repeat' (first | (with_reducible assumption) | (with_reducible exact nil_memoryFits) | (with_reducible apply settleAll_memoryFits)
                 | (with_reducible apply takeStep_memoryFits) | split | dsimp only | simp)

theorem handleFailedPendingTimeout_memoryFits (slot : Nat) (final : Bool) (s : State)
    (hs : MemoryFits s.cache.dram) : MemoryFits (handleFailedPendingTimeout slot final s).cache.dram := by
  simp only [handleFailedPendingTimeout]
  repeat' (first | (with_reducible assumption) | (with_reducible exact nil_memoryFits) | (with_reducible apply failSlot_memoryFits)
                 | (with_reducible apply settlePorts_memoryFits) | split | dsimp only | simp)

theorem handleContainmentRelease_memoryFits (slot : Nat) (port : Nat) (s : State)
    (hs : MemoryFits s.cache.dram) : MemoryFits (handleContainmentRelease slot port s).cache.dram := by
  simp only [handleContainmentRelease]
  repeat' (first | (with_reducible assumption) | (with_reducible exact nil_memoryFits) | (with_reducible apply settleAll_memoryFits) | split
                 | dsimp only | simp)

theorem handlePrsntRemoval_memoryFits (slot : Nat) (s : State) (hs : MemoryFits s.cache.dram) : MemoryFits (handlePrsntRemoval slot s).cache.dram := by
  simp only [handlePrsntRemoval]
  repeat' (first | (with_reducible assumption) | (with_reducible exact nil_memoryFits) | (with_reducible apply dropAdded_memoryFits) | split
                 | dsimp only | simp)

theorem handleMemberAdminTimeout_memoryFits (slot : Nat) (port : Nat) (s : State)
    (hs : MemoryFits s.cache.dram) : MemoryFits (handleMemberAdminTimeout slot port s).cache.dram := by
  simp only [handleMemberAdminTimeout]
  repeat' (first | (with_reducible assumption) | (with_reducible exact nil_memoryFits) | (with_reducible apply settleAll_memoryFits)
                 | (with_reducible apply takeStep_memoryFits) | split | dsimp only | simp)

theorem failChannel_memoryFits (ch : Nat) (reason : Nat) (s : State) (hs : MemoryFits s.cache.dram) : MemoryFits (failChannel ch reason s).cache.dram := by
  simp only [failChannel]
  repeat' (first | (with_reducible assumption) | (with_reducible exact nil_memoryFits) | (with_reducible apply retireAll_memoryFits) | split
                 | dsimp only | simp)

theorem retireBank_memoryFits (ch : Nat) (bank : Nat) (s : State) (hs : MemoryFits s.cache.dram) : MemoryFits (retireBank ch bank s).cache.dram := by
  simp only [retireBank]
  repeat' (first | (with_reducible assumption) | (with_reducible exact nil_memoryFits) | (with_reducible apply retireAll_memoryFits)
                 | (with_reducible apply failChannel_memoryFits) | split | dsimp only | simp)

theorem enterFrame_memoryFits (region : Nat) (ch : Nat) (frame : Nat) (s : State)
    (hs : MemoryFits s.cache.dram) : MemoryFits (enterFrame region ch frame s).2.cache.dram := by
  simp only [enterFrame]
  repeat' (first | (with_reducible assumption) | (with_reducible exact nil_memoryFits) | (with_reducible apply retireBank_memoryFits) | split
                 | dsimp only | simp)

theorem retireOne.go_memoryFits (region : Nat) (frame : Nat) (s : State)
    (hs : MemoryFits s.cache.dram) : MemoryFits (retireOne.go region frame s).cache.dram := by
  simp only [retireOne.go]
  repeat' (first | (with_reducible assumption) | (with_reducible exact nil_memoryFits) | (with_reducible apply retireBank_memoryFits)
                 | (with_reducible apply enterFrame_memoryFits) | (with_reducible apply retireFrame_memoryFits) | split | dsimp only | simp)

theorem retireOne_memoryFits (region : Nat) (frame : Nat) (s : State) (hs : MemoryFits s.cache.dram) : MemoryFits (retireOne region frame s).cache.dram := by
  simp only [retireOne]
  repeat' (first | (with_reducible assumption) | (with_reducible exact nil_memoryFits) | (with_reducible apply retireOne.go_memoryFits) | split
                 | dsimp only | simp)

theorem uncorrectable_memoryFits (e : DirEntry) (sec : Nat) (partnerBad : Bool) (s : State)
    (hs : MemoryFits s.cache.dram) : MemoryFits (uncorrectable e sec partnerBad s).cache.dram := by
  simp only [uncorrectable]
  repeat' (first | (with_reducible assumption) | (with_reducible exact nil_memoryFits) | (with_reducible apply retireOne_memoryFits)
                 | (with_reducible apply poisonSector_memoryFits) | split | dsimp only | simp)

theorem nameDevice_memoryFits (ch : Nat) (dev : Nat) (frame : Nat) (s : State)
    (hs : MemoryFits s.cache.dram) : MemoryFits (nameDevice ch dev frame s).cache.dram := by
  simp only [nameDevice]
  repeat' (first | (with_reducible assumption) | (with_reducible exact nil_memoryFits) | (with_reducible apply failChannel_memoryFits) | split
                 | dsimp only | simp)

theorem loseEntry_memoryFits (region : Nat) (frame : Nat) (s : State) (hs : MemoryFits s.cache.dram) : MemoryFits (loseEntry region frame s).cache.dram := by
  simp only [loseEntry]
  repeat' (first | (with_reducible assumption) | (with_reducible exact nil_memoryFits) | (with_reducible apply enterQuarantine_memoryFits)
                 | (with_reducible apply retireOne_memoryFits) | (with_reducible apply freeFrame_memoryFits) | split | dsimp only | simp)

theorem recoverWord_memoryFits (t : SramTarget) (copyLost : Bool) (s : State)
    (hs : MemoryFits s.cache.dram) : MemoryFits (recoverWord t copyLost s).cache.dram := by
  simp only [recoverWord]
  repeat' (first | (with_reducible assumption) | (with_reducible exact nil_memoryFits) | (with_reducible apply loseEntry_memoryFits)
                 | (with_reducible apply abandonCmd_memoryFits) | (with_reducible refine foldl_memoryFits _ (fun t x ht => ?_) _ _ ?_)
                 | (with_reducible refine foldl_snd_memoryFits _ (fun t x ht => ?_) _ _ ?_)
                 | (with_reducible refine foldlC_memoryFits _ (fun t x ht => ?_) _ _ ?_)
                 | (with_reducible refine foldlL_memoryFits _ (fun t x ht => ?_) _ _ ?_)
                 | (with_reducible refine foldlP_memoryFits _ (fun t x ht => ?_) _ _ ?_) | split | dsimp only | simp)

theorem takeTestFrames_memoryFits (s : State) (hs : MemoryFits s.cache.dram) : MemoryFits (takeTestFrames s).cache.dram := by
  simp only [takeTestFrames]
  repeat' (first | (with_reducible assumption) | (with_reducible exact nil_memoryFits)
                 | (with_reducible refine highestFrame_memoryFits _ (by with_reducible assumption) ?_)
                 | (with_reducible refine foldl_memoryFits _ (fun t x ht => ?_) _ _ ?_)
                 | (with_reducible refine foldl_snd_memoryFits _ (fun t x ht => ?_) _ _ ?_)
                 | (with_reducible refine foldlC_memoryFits _ (fun t x ht => ?_) _ _ ?_)
                 | (with_reducible refine foldlL_memoryFits _ (fun t x ht => ?_) _ _ ?_)
                 | (with_reducible refine foldlP_memoryFits _ (fun t x ht => ?_) _ _ ?_) | split | dsimp only | simp)

theorem dropTestFrames_memoryFits (s : State) (hs : MemoryFits s.cache.dram) : MemoryFits (dropTestFrames s).cache.dram := by
  simp only [dropTestFrames]
  repeat' (first | (with_reducible assumption) | (with_reducible exact nil_memoryFits) | split | dsimp only | simp)

theorem noLevel_memoryFits (code : Nat) (detail : Nat) (s : State) (hs : MemoryFits s.cache.dram) : MemoryFits (noLevel code detail s).cache.dram := by
  simp only [noLevel]
  repeat' (first | (with_reducible assumption) | (with_reducible exact nil_memoryFits) | (with_reducible apply enterQuarantine_memoryFits) | split
                 | dsimp only | simp)

theorem restage_memoryFits (x : CmdRef × WriteJob) (s : State) (hs : MemoryFits s.cache.dram) : MemoryFits (restage x s).cache.dram := by
  simp only [restage]
  repeat' (first | (with_reducible assumption) | (with_reducible exact nil_memoryFits)
                 | (with_reducible refine stageParts_memoryFits _ (by with_reducible assumption) ?_) | split | dsimp only | simp)

theorem fenceRegion_memoryFits (region : Nat) (reason : Nat) (s : State)
    (hs : MemoryFits s.cache.dram) : MemoryFits (fenceRegion region reason s).cache.dram := by
  simp only [fenceRegion]
  repeat' (first | (with_reducible assumption) | (with_reducible exact nil_memoryFits) | (with_reducible apply noLevel_memoryFits)
                 | (with_reducible apply settleAll_memoryFits) | (with_reducible apply restage_memoryFits) | (with_reducible apply fenceCache_memoryFits)
                 | (with_reducible refine foldl_memoryFits _ (fun t x ht => ?_) _ _ ?_)
                 | (with_reducible refine foldl_snd_memoryFits _ (fun t x ht => ?_) _ _ ?_)
                 | (with_reducible refine foldlC_memoryFits _ (fun t x ht => ?_) _ _ ?_)
                 | (with_reducible refine foldlL_memoryFits _ (fun t x ht => ?_) _ _ ?_)
                 | (with_reducible refine foldlP_memoryFits _ (fun t x ht => ?_) _ _ ?_) | split | dsimp only | simp)

theorem quarantineBlock_memoryFits (region : Nat) (block : Nat) (why : Nat) (s : State)
    (hs : MemoryFits s.cache.dram) : MemoryFits (quarantineBlock region block why s).cache.dram := by
  simp only [quarantineBlock]
  repeat' (first | (with_reducible assumption) | (with_reducible exact nil_memoryFits) | (with_reducible apply fenceRegion_memoryFits) | split
                 | dsimp only | simp)

theorem rejectStream_memoryFits (region : Nat) (block : Nat) (stream : Nat) (s : State)
    (hs : MemoryFits s.cache.dram) : MemoryFits (rejectStream region block stream s).cache.dram := by
  simp only [rejectStream]
  repeat' (first | (with_reducible assumption) | (with_reducible exact nil_memoryFits) | (with_reducible apply quarantineBlock_memoryFits) | split
                 | dsimp only | simp)

theorem feedOperand_memoryFits (region : Nat) (block : Nat) (o : Operand) (s : State)
    (hs : MemoryFits s.cache.dram) : MemoryFits (feedOperand region block o s).cache.dram := by
  simp only [feedOperand]
  repeat' (first | (with_reducible assumption) | (with_reducible exact nil_memoryFits) | (with_reducible apply rejectStream_memoryFits) | split
                 | dsimp only | simp)

theorem feedWaiting_memoryFits (region : Nat) (block : Nat) (x0 : Nat) (x1 : State)
    (hs : MemoryFits x1.cache.dram) : MemoryFits (feedWaiting region block x0 x1).cache.dram := by
  induction x0 generalizing x1 with
  | zero => exact hs
  | succ n ih =>
    simp only [feedWaiting]
    split
    · exact hs
    · exact ih _ (feedOperand_memoryFits _ _ _ _ (by simpa using hs))

theorem retireCell_memoryFits (region : Nat) (block : Nat) (cell : Nat) (s : State)
    (hs : MemoryFits s.cache.dram) : MemoryFits (retireCell region block cell s).cache.dram := by
  simp only [retireCell]
  repeat' (first | (with_reducible assumption) | (with_reducible exact nil_memoryFits) | (with_reducible apply quarantineBlock_memoryFits) | split
                 | dsimp only | simp)

theorem checkCell_memoryFits (region : Nat) (block : Nat) (stream : Nat) (c : CellCheck) (s : State)
    (hs : MemoryFits s.cache.dram) : MemoryFits (checkCell region block stream c s).cache.dram := by
  simp only [checkCell]
  repeat' (first | (with_reducible assumption) | (with_reducible exact nil_memoryFits) | (with_reducible apply retireCell_memoryFits) | split
                 | dsimp only | simp)

theorem arrive_memoryFits (f : Transit) (s : State) (hs : MemoryFits s.cache.dram) : MemoryFits (arrive f s).cache.dram := by
  simp only [arrive]
  repeat' (first | (with_reducible assumption) | (with_reducible exact nil_memoryFits) | (with_reducible apply feedWaiting_memoryFits)
                 | (with_reducible apply rejectStream_memoryFits) | (with_reducible apply checkCell_memoryFits)
                 | (with_reducible apply feedOperand_memoryFits) | split | dsimp only | simp)

theorem sendFlit_memoryFits (f : Transit) (s : State) (hs : MemoryFits s.cache.dram) : MemoryFits (sendFlit f s).cache.dram := by
  simp only [sendFlit]
  repeat' (first | (with_reducible assumption) | (with_reducible exact nil_memoryFits) | (with_reducible apply arrive_memoryFits) | split | dsimp only
                 | simp)

theorem sendHeld_memoryFits (s : State) (hs : MemoryFits s.cache.dram) : MemoryFits (sendHeld s).cache.dram := by
  simp only [sendHeld]
  repeat' (first | (with_reducible assumption) | (with_reducible exact nil_memoryFits) | (with_reducible apply sendFlit_memoryFits)
                 | (with_reducible refine foldl_memoryFits _ (fun t x ht => ?_) _ _ ?_)
                 | (with_reducible refine foldl_snd_memoryFits _ (fun t x ht => ?_) _ _ ?_)
                 | (with_reducible refine foldlC_memoryFits _ (fun t x ht => ?_) _ _ ?_)
                 | (with_reducible refine foldlL_memoryFits _ (fun t x ht => ?_) _ _ ?_)
                 | (with_reducible refine foldlP_memoryFits _ (fun t x ht => ?_) _ _ ?_) | split | dsimp only | simp)

theorem handleRegionFault_memoryFits (region : Nat) (reason : Nat) (s : State)
    (hs : MemoryFits s.cache.dram) : MemoryFits (handleRegionFault region reason s).cache.dram := by
  simp only [handleRegionFault]
  repeat' (first | (with_reducible assumption) | (with_reducible exact nil_memoryFits) | (with_reducible apply sendHeld_memoryFits)
                 | (with_reducible apply fenceRegion_memoryFits) | split | dsimp only | simp)

theorem failHalf_memoryFits (half : Nat) (s : State) (hs : MemoryFits s.cache.dram) : MemoryFits (failHalf half s).cache.dram := by
  simp only [failHalf]
  repeat' (first | (with_reducible assumption) | (with_reducible exact nil_memoryFits) | (with_reducible apply noLevel_memoryFits) | split
                 | dsimp only | simp)

theorem fenceRing_memoryFits (link : Nat) (s : State) (hs : MemoryFits s.cache.dram) : MemoryFits (fenceRing link s).cache.dram := by
  simp only [fenceRing]
  repeat' (first | (with_reducible assumption) | (with_reducible exact nil_memoryFits) | (with_reducible apply noLevel_memoryFits)
                 | (with_reducible apply fenceRegion_memoryFits) | split | dsimp only | simp)

theorem stallLink_memoryFits (link : Nat) (s : State) (hs : MemoryFits s.cache.dram) : MemoryFits (stallLink link s).cache.dram := by
  simp only [stallLink]
  repeat' (first | (with_reducible assumption) | (with_reducible exact nil_memoryFits) | (with_reducible apply fenceRegion_memoryFits)
                 | (with_reducible apply fenceRing_memoryFits) | split | dsimp only | simp)

theorem handleGlildoLinkStall_memoryFits (link : Nat) (s : State) (hs : MemoryFits s.cache.dram) : MemoryFits (handleGlildoLinkStall link s).cache.dram := by
  simp only [handleGlildoLinkStall]
  repeat' (first | (with_reducible assumption) | (with_reducible exact nil_memoryFits) | (with_reducible apply sendHeld_memoryFits)
                 | (with_reducible apply stallLink_memoryFits) | split | dsimp only | simp)

theorem failEngine_memoryFits (half : Nat) (s : State) (hs : MemoryFits s.cache.dram) : MemoryFits (failEngine half s).cache.dram := by
  simp only [failEngine]
  repeat' (first | (with_reducible assumption) | (with_reducible exact nil_memoryFits) | (with_reducible apply noLevel_memoryFits) | split
                 | dsimp only | simp)

theorem failCommon_memoryFits (unit : Nat) (s : State) (hs : MemoryFits s.cache.dram) : MemoryFits (failCommon unit s).cache.dram := by
  simp only [failCommon]
  repeat' (first | (with_reducible assumption) | (with_reducible exact nil_memoryFits) | (with_reducible apply noLevel_memoryFits) | split
                 | dsimp only | simp)

theorem spareSublink_memoryFits (link : Nat) (sub : Nat) (injected : Bool) (s : State)
    (hs : MemoryFits s.cache.dram) : MemoryFits (spareSublink link sub injected s).cache.dram := by
  simp only [spareSublink]
  repeat' (first | (with_reducible assumption) | (with_reducible exact nil_memoryFits) | (with_reducible apply stallLink_memoryFits) | split
                 | dsimp only | simp)

theorem failFlit_memoryFits (link : Nat) (sub : Nat) (injected : Bool) (s : State)
    (hs : MemoryFits s.cache.dram) : MemoryFits (failFlit link sub injected s).cache.dram := by
  simp only [failFlit]
  repeat' (first | (with_reducible assumption) | (with_reducible exact nil_memoryFits) | (with_reducible apply spareSublink_memoryFits) | split
                 | dsimp only | simp)

theorem crossFault_memoryFits (stream : Nat) (l : Nat × Bool) (s : State) (hs : MemoryFits s.cache.dram) : MemoryFits (crossFault stream l s).cache.dram := by
  simp only [crossFault]
  repeat' (first | (with_reducible assumption) | (with_reducible exact nil_memoryFits) | (with_reducible apply failFlit_memoryFits) | split
                 | dsimp only | simp)

theorem quarantineSource_memoryFits (source : Nat) (s : State) (hs : MemoryFits s.cache.dram) : MemoryFits (quarantineSource source s).cache.dram := by
  simp only [quarantineSource]
  repeat' (first | (with_reducible assumption) | (with_reducible exact nil_memoryFits) | (with_reducible apply quarantineBlock_memoryFits)
                 | (with_reducible apply settleAll_memoryFits) | (with_reducible apply fenceRegion_memoryFits) | (with_reducible apply failEngine_memoryFits)
                 | (with_reducible apply failCommon_memoryFits) | (with_reducible apply failHalf_memoryFits) | (with_reducible apply failChannel_memoryFits)
                 | (with_reducible apply sentinelLost_memoryFits) | split | dsimp only | simp)

theorem handleEvent_memoryFits (i : DeferredEvent) (s : State) (hs : MemoryFits s.cache.dram) : MemoryFits (handleEvent i s).cache.dram := by
  simp only [handleEvent]
  repeat' (first | (with_reducible assumption) | (with_reducible exact nil_memoryFits) | (with_reducible apply handlePrsntRemoval_memoryFits)
                 | (with_reducible apply handleFailedPendingTimeout_memoryFits) | (with_reducible apply handleMemberAdminTimeout_memoryFits)
                 | (with_reducible apply handleMemberPortBringup_memoryFits) | (with_reducible apply handleRegionFault_memoryFits)
                 | (with_reducible apply handleMemberAsyncEvent_memoryFits) | (with_reducible apply handleMemberPortReadyTimeout_memoryFits)
                 | (with_reducible apply handleMemberPcieCompletionTimeout_memoryFits) | (with_reducible apply handleLadderStepBoundExpiry_memoryFits)
                 | (with_reducible apply handleContainmentRelease_memoryFits) | (with_reducible apply handleMemberCommandTimeout_memoryFits)
                 | (with_reducible apply handleGlildoLinkStall_memoryFits) | (with_reducible apply handleWithheldTagTimeout_memoryFits) | split
                 | dsimp only | simp)

theorem handOver_memoryFits (s : State) (hs : MemoryFits s.cache.dram) : MemoryFits (handOver s).cache.dram := by
  simp only [handOver]
  repeat' (first | (with_reducible assumption) | (with_reducible exact nil_memoryFits) | (with_reducible apply handleEvent_memoryFits)
                 | (with_reducible refine foldl_memoryFits _ (fun t x ht => ?_) _ _ ?_)
                 | (with_reducible refine foldl_snd_memoryFits _ (fun t x ht => ?_) _ _ ?_)
                 | (with_reducible refine foldlC_memoryFits _ (fun t x ht => ?_) _ _ ?_)
                 | (with_reducible refine foldlL_memoryFits _ (fun t x ht => ?_) _ _ ?_)
                 | (with_reducible refine foldlP_memoryFits _ (fun t x ht => ?_) _ _ ?_) | split | dsimp only | simp)

theorem setVendor_memoryFits (a : FeatureArgs) (s : State) (hs : MemoryFits s.cache.dram) : MemoryFits (setVendor a s).2.cache.dram := by
  simp only [setVendor]
  repeat' (first | (with_reducible assumption) | (with_reducible exact nil_memoryFits) | (with_reducible apply policyCheck_memoryFits) | split
                 | dsimp only | simp)

theorem setStandard_memoryFits (ctl : Nat) (a : FeatureArgs) (s : State) (hs : MemoryFits s.cache.dram) : MemoryFits (setStandard ctl a s).2.2.cache.dram := by
  simp only [setStandard]
  repeat' (first | (with_reducible assumption) | (with_reducible exact nil_memoryFits) | (with_reducible apply goToPs_memoryFits) | split | dsimp only
                 | simp)

theorem giveUpIo_memoryFits (nsid : Nat) (status : Nat) (s : State) (hs : MemoryFits s.cache.dram) : MemoryFits (giveUpIo nsid status s).cache.dram := by
  simp only [giveUpIo]
  repeat' (first | (with_reducible assumption) | (with_reducible exact nil_memoryFits) | (with_reducible apply abandonCmd_memoryFits)
                 | (with_reducible refine foldl_memoryFits _ (fun t x ht => ?_) _ _ ?_)
                 | (with_reducible refine foldl_snd_memoryFits _ (fun t x ht => ?_) _ _ ?_)
                 | (with_reducible refine foldlC_memoryFits _ (fun t x ht => ?_) _ _ ?_)
                 | (with_reducible refine foldlL_memoryFits _ (fun t x ht => ?_) _ _ ?_)
                 | (with_reducible refine foldlP_memoryFits _ (fun t x ht => ?_) _ _ ?_) | split | dsimp only | simp)

theorem dropPages_memoryFits (nsid : Nat) (s : State) (hs : MemoryFits s.cache.dram) : MemoryFits (dropPages nsid s).cache.dram := by
  simp only [dropPages]
  repeat' (first | (with_reducible assumption) | (with_reducible exact nil_memoryFits) | split | dsimp only | simp)

theorem wipeAll_memoryFits (overwrite : Bool) (s : State) (hs : MemoryFits s.cache.dram) : MemoryFits (wipeAll overwrite s).cache.dram := by
  simp only [wipeAll]
  repeat' (first | (with_reducible assumption) | (with_reducible exact nil_memoryFits) | (with_reducible apply dropPages_memoryFits)
                 | (with_reducible apply giveUpIo_memoryFits) | (with_reducible refine foldl_memoryFits _ (fun t x ht => ?_) _ _ ?_)
                 | (with_reducible refine foldl_snd_memoryFits _ (fun t x ht => ?_) _ _ ?_)
                 | (with_reducible refine foldlC_memoryFits _ (fun t x ht => ?_) _ _ ?_)
                 | (with_reducible refine foldlL_memoryFits _ (fun t x ht => ?_) _ _ ?_)
                 | (with_reducible refine foldlP_memoryFits _ (fun t x ht => ?_) _ _ ?_) | split | dsimp only | simp)

theorem formatOne_memoryFits (lbaf : Nat) (dps : Nat) (ses : Nat) (s : State) (nsid : Nat)
    (hs : MemoryFits s.cache.dram) : MemoryFits (formatOne lbaf dps ses s nsid).cache.dram := by
  simp only [formatOne]
  repeat' (first | (with_reducible assumption) | (with_reducible exact nil_memoryFits) | (with_reducible apply dropPages_memoryFits)
                 | (with_reducible apply giveUpIo_memoryFits) | split | dsimp only | simp)

theorem loseLink_memoryFits (port : Nat) (bit : Option Nat) (s : State) (hs : MemoryFits s.cache.dram) : MemoryFits (loseLink port bit s).cache.dram := by
  simp only [loseLink]
  repeat' (first | (with_reducible assumption) | (with_reducible exact nil_memoryFits) | (with_reducible apply controllerReset_memoryFits) | split
                 | dsimp only | simp)

theorem flReset_memoryFits (fn : Nat) (s : State) (hs : MemoryFits s.cache.dram) : MemoryFits (flReset fn s).cache.dram := by
  simp only [flReset]
  repeat' (first | (with_reducible assumption) | (with_reducible exact nil_memoryFits) | (with_reducible apply retireInbound_memoryFits)
                 | (with_reducible apply discardCmb_memoryFits) | (with_reducible apply retireWaiting_memoryFits)
                 | (with_reducible apply controllerReset_memoryFits) | split | dsimp only | simp)

theorem cfgWrite_memoryFits (fn : Nat) (off : Nat) (v : BitVec 32) (s : State) (hs : MemoryFits s.cache.dram) : MemoryFits (cfgWrite fn off v s).cache.dram := by
  simp only [cfgWrite]
  repeat' (first | (with_reducible assumption) | (with_reducible exact nil_memoryFits) | (with_reducible apply flReset_memoryFits) | split
                 | dsimp only | simp)

theorem hostAfterReset_memoryFits (s : State) (hs : MemoryFits s.cache.dram) : MemoryFits (hostAfterReset s).cache.dram := by
  simp only [hostAfterReset]
  repeat' (first | (with_reducible assumption) | (with_reducible exact nil_memoryFits) | (with_reducible apply controllerReset_memoryFits)
                 | (with_reducible refine foldl_memoryFits _ (fun t x ht => ?_) _ _ ?_)
                 | (with_reducible refine foldl_snd_memoryFits _ (fun t x ht => ?_) _ _ ?_)
                 | (with_reducible refine foldlC_memoryFits _ (fun t x ht => ?_) _ _ ?_)
                 | (with_reducible refine foldlL_memoryFits _ (fun t x ht => ?_) _ _ ?_)
                 | (with_reducible refine foldlP_memoryFits _ (fun t x ht => ?_) _ _ ?_) | split | dsimp only | simp)

theorem unitsAfterReset_memoryFits (s : State) (hs : MemoryFits s.cache.dram) : MemoryFits (unitsAfterReset s).cache.dram := by
  simp only [unitsAfterReset]
  repeat' (first | (with_reducible assumption) | (with_reducible exact nil_memoryFits) | (with_reducible apply dropTestFrames_memoryFits)
                 | (with_reducible apply hostAfterReset_memoryFits) | split | dsimp only | simp)

theorem deviceReset_memoryFits (cause : Nat) (hold : Bool) (s : State) (hs : MemoryFits s.cache.dram) : MemoryFits (deviceReset cause hold s).cache.dram := by
  simp only [deviceReset]
  repeat' (first | (with_reducible assumption) | (with_reducible exact nil_memoryFits) | (with_reducible apply unitsAfterReset_memoryFits) | split
                 | dsimp only | simp)

theorem unitsUnpowered_memoryFits (s : State) (hs : MemoryFits s.cache.dram) : MemoryFits (unitsUnpowered s).cache.dram := by
  simp only [unitsUnpowered]
  repeat' (first | (with_reducible assumption) | (with_reducible exact nil_memoryFits) | split | dsimp only | simp)

theorem mainOff_memoryFits (s : State) (hs : MemoryFits s.cache.dram) : MemoryFits (mainOff s).cache.dram := by
  simp only [mainOff]
  repeat' (first | (with_reducible assumption) | (with_reducible exact nil_memoryFits) | (with_reducible apply unitsUnpowered_memoryFits) | split
                 | dsimp only | simp)

theorem leaveHoldup_memoryFits (s : State) (hs : MemoryFits s.cache.dram) : MemoryFits (leaveHoldup s).cache.dram := by
  simp only [leaveHoldup]
  repeat' (first | (with_reducible assumption) | (with_reducible exact nil_memoryFits) | (with_reducible apply mainOff_memoryFits)
                 | (with_reducible apply unitsUnpowered_memoryFits) | split | dsimp only | simp)

theorem abortFlush_memoryFits (cutoff : Bool) (pages : Nat) (ms : Nat) (mj : Nat) (mv : Nat) (s : State)
    (hs : MemoryFits s.cache.dram) : MemoryFits (abortFlush cutoff pages ms mj mv s).cache.dram := by
  simp only [abortFlush]
  repeat' (first | (with_reducible assumption) | (with_reducible exact nil_memoryFits) | (with_reducible apply leaveHoldup_memoryFits)
                 | (with_reducible apply unitsUnpowered_memoryFits) | split | dsimp only | simp)

theorem enterHoldup_memoryFits (why : Nat) (s : State) (hs : MemoryFits s.cache.dram) : MemoryFits (enterHoldup why s).cache.dram := by
  simp only [enterHoldup]
  repeat' (first | (with_reducible assumption) | (with_reducible exact nil_memoryFits) | (with_reducible apply settleVersions_memoryFits)
                 | (with_reducible refine foldl_memoryFits _ (fun t x ht => ?_) _ _ ?_)
                 | (with_reducible refine foldl_snd_memoryFits _ (fun t x ht => ?_) _ _ ?_)
                 | (with_reducible refine foldlC_memoryFits _ (fun t x ht => ?_) _ _ ?_)
                 | (with_reducible refine foldlL_memoryFits _ (fun t x ht => ?_) _ _ ?_)
                 | (with_reducible refine foldlP_memoryFits _ (fun t x ht => ?_) _ _ ?_) | split | dsimp only | simp)

theorem powerTrip_memoryFits (why : Nat) (s : State) (hs : MemoryFits s.cache.dram) : MemoryFits (powerTrip why s).cache.dram := by
  simp only [powerTrip]
  repeat' (first | (with_reducible assumption) | (with_reducible exact nil_memoryFits) | (with_reducible apply abortFlush_memoryFits)
                 | (with_reducible apply mainOff_memoryFits) | (with_reducible apply enterHoldup_memoryFits) | split | dsimp only | simp)

theorem bootTests_memoryFits (b : BootChecks) (s : State) (hs : MemoryFits s.cache.dram) : MemoryFits (bootTests b s).cache.dram := by
  simp only [bootTests]
  repeat' (first | (with_reducible assumption) | (with_reducible exact nil_memoryFits) | (with_reducible apply spareSublink_memoryFits)
                 | (with_reducible apply dropVaultChannel_memoryFits) | (with_reducible apply retireCell_memoryFits)
                 | (with_reducible refine foldl_memoryFits _ (fun t x ht => ?_) _ _ ?_)
                 | (with_reducible refine foldl_snd_memoryFits _ (fun t x ht => ?_) _ _ ?_)
                 | (with_reducible refine foldlC_memoryFits _ (fun t x ht => ?_) _ _ ?_)
                 | (with_reducible refine foldlL_memoryFits _ (fun t x ht => ?_) _ _ ?_)
                 | (with_reducible refine foldlP_memoryFits _ (fun t x ht => ?_) _ _ ?_) | split | dsimp only | simp)

theorem dropCache_memoryFits (s : State) (hs : MemoryFits s.cache.dram) : MemoryFits (dropCache s).cache.dram := by
  simp only [dropCache]
  repeat' (first | (with_reducible assumption) | (with_reducible exact nil_memoryFits) | split | dsimp only | simp)

theorem beginService_memoryFits (noServe : Nat) (noConstr : Nat) (s : State)
    (hs : MemoryFits s.cache.dram) : MemoryFits (beginService noServe noConstr s).cache.dram := by
  simp only [beginService]
  repeat' (first | (with_reducible assumption) | (with_reducible exact nil_memoryFits) | (with_reducible apply noLevel_memoryFits)
                 | (with_reducible apply enterService_memoryFits) | (with_reducible apply policyCheck_memoryFits)
                 | (with_reducible refine foldl_memoryFits _ (fun t x ht => ?_) _ _ ?_)
                 | (with_reducible refine foldl_snd_memoryFits _ (fun t x ht => ?_) _ _ ?_)
                 | (with_reducible refine foldlC_memoryFits _ (fun t x ht => ?_) _ _ ?_)
                 | (with_reducible refine foldlL_memoryFits _ (fun t x ht => ?_) _ _ ?_)
                 | (with_reducible refine foldlP_memoryFits _ (fun t x ht => ?_) _ _ ?_) | split | dsimp only | simp)

theorem settleRestore_memoryFits (unclean : List Nat) (resynced : List Nat) (s : State)
    (hs : MemoryFits s.cache.dram) : MemoryFits (settleRestore unclean resynced s).cache.dram := by
  simp only [settleRestore]
  repeat' (first | (with_reducible assumption) | (with_reducible exact nil_memoryFits) | (with_reducible apply beginService_memoryFits)
                 | (with_reducible apply enterQuarantine_memoryFits) | split | dsimp only | simp)

theorem restoreImage_memoryFits (ps : List ImagePage) (s : State) (hs : MemoryFits s.cache.dram) : MemoryFits (restoreImage ps s).2.cache.dram := by
  simp only [restoreImage]
  refine foldl_snd_memoryFits _ (fun t x ht => ?_) _ _ hs
  split
  · rename_i h1
    exact restorePage_memoryFits _ h1 ht
  · exact ht

theorem applySource_memoryFits (id : Nat) (src : Source) (gone : List ImagePage) (s : State)
    (hs : MemoryFits s.cache.dram) : MemoryFits (applySource id src gone s).2.cache.dram := by
  simp only [applySource]
  repeat' (first | (with_reducible assumption) | (with_reducible exact nil_memoryFits) | (with_reducible apply installRecs_memoryFits) | split
                 | dsimp only | simp)

theorem restoreDecks_memoryFits (gone : List ImagePage) (s : State) (hs : MemoryFits s.cache.dram) : MemoryFits (restoreDecks gone s).2.2.cache.dram := by
  simp only [restoreDecks]
  repeat' (first | (with_reducible assumption) | (with_reducible exact nil_memoryFits) | (with_reducible apply applySource_memoryFits)
                 | (with_reducible refine foldl_memoryFits _ (fun t x ht => ?_) _ _ ?_)
                 | (with_reducible refine foldl_snd_memoryFits _ (fun t x ht => ?_) _ _ ?_)
                 | (with_reducible refine foldlC_memoryFits _ (fun t x ht => ?_) _ _ ?_)
                 | (with_reducible refine foldlL_memoryFits _ (fun t x ht => ?_) _ _ ?_)
                 | (with_reducible refine foldlP_memoryFits _ (fun t x ht => ?_) _ _ ?_) | split | dsimp only | simp)

theorem endRestore_memoryFits {left : List ImagePage} {reads : List (Nat × Nat × List BlockRead)} {s : State} (r : State) (e : endRestore left reads s = some r)
    (hs : MemoryFits s.cache.dram) : MemoryFits r.cache.dram := by
  simp only [endRestore] at e
  split at e
  · simp at e
  · rename_i u hu
    simp only [Option.some.injEq] at e
    subst e
    have hf := directPages_frame _ _ _ _ hu
    exact settleRestore_memoryFits _ _ _ (by simpa [hf] using restoreDecks_memoryFits _ _ hs)

theorem applyTable_memoryFits (s : State) (hs : MemoryFits s.cache.dram) : MemoryFits (applyTable s).cache.dram := by
  simp only [applyTable]
  repeat' (first | (with_reducible assumption) | (with_reducible exact nil_memoryFits) | (with_reducible apply retireAll_memoryFits)
                 | (with_reducible refine foldl_memoryFits _ (fun t x ht => ?_) _ _ ?_)
                 | (with_reducible refine foldl_snd_memoryFits _ (fun t x ht => ?_) _ _ ?_)
                 | (with_reducible refine foldlC_memoryFits _ (fun t x ht => ?_) _ _ ?_)
                 | (with_reducible refine foldlL_memoryFits _ (fun t x ht => ?_) _ _ ?_)
                 | (with_reducible refine foldlP_memoryFits _ (fun t x ht => ?_) _ _ ?_) | split | dsimp only | simp)

theorem restoreRetained_memoryFits (s : State) (hs : MemoryFits s.cache.dram) : MemoryFits (restoreRetained s).cache.dram := by
  simp only [restoreRetained]
  repeat' (first | (with_reducible assumption) | (with_reducible exact nil_memoryFits) | (with_reducible apply remirrorAll_memoryFits) | split
                 | dsimp only | simp)

theorem restoreCache_memoryFits (s : State) (hs : MemoryFits s.cache.dram) : MemoryFits (restoreCache s).2.cache.dram := by
  simp only [restoreCache]
  repeat' (first | (with_reducible assumption) | (with_reducible exact nil_memoryFits) | (with_reducible apply restoreImage_memoryFits)
                 | (with_reducible apply restoreRetained_memoryFits) | split | dsimp only | simp)

theorem writeRcvCtl_memoryFits (fn : Nat) (value : BitVec 32) (s : State) (hs : MemoryFits s.cache.dram) : MemoryFits (writeRcvCtl fn value s).cache.dram := by
  simp only [writeRcvCtl]
  repeat' (first | (with_reducible assumption) | (with_reducible exact nil_memoryFits) | (with_reducible apply deviceReset_memoryFits) | split
                 | dsimp only | simp)

theorem writeCmbmsc_memoryFits (ctl : Nat) (high : Bool) (v : BitVec 32) (s : State)
    (hs : MemoryFits s.cache.dram) : MemoryFits (writeCmbmsc ctl high v s).cache.dram := by
  simp only [writeCmbmsc]
  repeat' (first | (with_reducible assumption) | (with_reducible exact nil_memoryFits) | (with_reducible apply cmbmscWrite_memoryFits) | split
                 | dsimp only | simp)

theorem writeEcctCtl_memoryFits (v : BitVec 32) (s : State) (hs : MemoryFits s.cache.dram) : MemoryFits (writeEcctCtl v s).cache.dram := by
  simp only [writeEcctCtl]
  repeat' (first | (with_reducible assumption) | (with_reducible exact nil_memoryFits) | (with_reducible apply takeTestFrames_memoryFits)
                 | (with_reducible apply dropTestFrames_memoryFits) | split | dsimp only | simp)

theorem writeCc_memoryFits (ctl : Nat) (v : BitVec 32) (s : State) (hs : MemoryFits s.cache.dram) : MemoryFits (writeCc ctl v s).cache.dram := by
  simp only [writeCc]
  repeat' (first | (with_reducible assumption) | (with_reducible exact nil_memoryFits) | (with_reducible apply disableCtl_memoryFits)
                 | (with_reducible apply enableCtl_memoryFits) | split | dsimp only | simp)

theorem writeReg_memoryFits (fn : Nat) (off : Nat) (v : BitVec 32) (s : State) (hs : MemoryFits s.cache.dram) : MemoryFits (writeReg fn off v s).cache.dram := by
  simp only [writeReg]
  repeat' (first | (with_reducible assumption) | (with_reducible exact nil_memoryFits) | (with_reducible apply writeEcctCtl_memoryFits)
                 | (with_reducible apply writeRcvCtl_memoryFits) | (with_reducible apply writeCc_memoryFits) | (with_reducible apply writeCmbmsc_memoryFits)
                 | (with_reducible refine ite_memoryFits _ _ _ ?_ ?_) | split | dsimp only | simp [-ite_cache, -ite_recorder])

theorem writeDword_memoryFits (fn : Nat) (off : Nat) (v : BitVec 32) (s : State)
    (hs : MemoryFits s.cache.dram) : MemoryFits (writeDword fn off v s).cache.dram := by
  simp only [writeDword]
  repeat' (first | (with_reducible assumption) | (with_reducible exact nil_memoryFits) | (with_reducible apply writeReg_memoryFits) | split
                 | dsimp only | simp)

theorem writeQuad_memoryFits (fn : Nat) (off : Nat) (v : BitVec 64) (s : State)
    (hs : MemoryFits s.cache.dram) : MemoryFits (writeQuad fn off v s).cache.dram := by
  simp only [writeQuad]
  repeat' (first | (with_reducible assumption) | (with_reducible exact nil_memoryFits) | (with_reducible apply writeDword_memoryFits) | split
                 | dsimp only | simp)

theorem bar0Write_memoryFits (fn : Nat) (offset : Nat) (size : Nat) (value : BitVec 64) (s : State)
    (hs : MemoryFits s.cache.dram) : MemoryFits (bar0Write fn offset size value s).cache.dram := by
  simp only [bar0Write]
  repeat' (first | (with_reducible assumption) | (with_reducible exact nil_memoryFits) | (with_reducible apply writeQuad_memoryFits)
                 | (with_reducible apply writeDword_memoryFits) | split | dsimp only | simp)

end Sys2Proof.Machine
end

