-- ==== Sys2Proof/Laws/QueueUnits.lean ====
section
/-!
SUPPORT. What the operations on queues, reorder buffers and events leave of a controller's queues.
-/

namespace Sys2Proof.Machine

/-- A queue that a lookup finds has the identifier looked up. -/
theorem findSq_id (c : Ctl) (id : Nat) (q : Sq) (h : findSq c id = some q) : q.id = id := by
  have := List.find?_some h
  simpa using this

/-- A completion queue that a lookup finds has the identifier looked up. -/
theorem findCq_id (c : Ctl) (id : Nat) (q : Cq) (h : findCq c id = some q) : q.id = id := by
  have := List.find?_some h
  simpa using this

/-- A replaced submission queue is found under its identifier. -/
theorem findSq_putSq_self (c : Ctl) (q p : Sq) (id : Nat) (hid : p.id = id) (h : findSq c id = some q) :
    findSq (putSq c p) id = some p := by
  subst hid
  simp only [findSq, putSq] at *
  generalize c.sqs = l at *
  induction l with
  | nil => simp at h
  | cons x l ih =>
    by_cases hx : x.id = p.id
    · simp [hx]
    · simp only [List.find?_cons, hx, decide_false] at h
      simp [hx, ih h]

/-- Replacing a submission queue leaves the others. -/
theorem findSq_putSq_other (c : Ctl) (p : Sq) (id : Nat) (h : id ≠ p.id) : findSq (putSq c p) id = findSq c id := by
  simp only [findSq, putSq]
  generalize c.sqs = l
  induction l with
  | nil => rfl
  | cons x l ih =>
    by_cases hx : x.id = p.id
    · have : p.id ≠ id := Ne.symm h
      simp [hx, this, ih]
    · by_cases hi : x.id = id
      · simp [hi]
        simp [← hi, hx]
      · simp [hx, hi, ih]

/-- A replaced completion queue is found under its identifier. -/
theorem findCq_putCq_self (c : Ctl) (q p : Cq) (id : Nat) (hid : p.id = id) (h : findCq c id = some q) :
    findCq (putCq c p) id = some p := by
  subst hid
  simp only [findCq, putCq] at *
  generalize c.cqs = l at *
  induction l with
  | nil => simp at h
  | cons x l ih =>
    by_cases hx : x.id = p.id
    · simp [hx]
    · simp only [List.find?_cons, hx, decide_false] at h
      simp [hx, ih h]

/-- Replacing a completion queue leaves the others. -/
theorem findCq_putCq_other (c : Ctl) (p : Cq) (id : Nat) (h : id ≠ p.id) : findCq (putCq c p) id = findCq c id := by
  simp only [findCq, putCq]
  generalize c.cqs = l
  induction l with
  | nil => rfl
  | cons x l ih =>
    by_cases hx : x.id = p.id
    · have : p.id ≠ id := Ne.symm h
      simp [hx, this, ih]
    · by_cases hi : x.id = id
      · simp [hi]
        simp [← hi, hx]
      · simp [hx, hi, ih]

/-- Operations on one part of a controller leave the lookups of the other part. -/
@[simp] theorem putSq_cqs (c : Ctl) (q : Sq) : (putSq c q).cqs = c.cqs := (rfl)
@[simp] theorem putCq_sqs (c : Ctl) (q : Cq) : (putCq c q).sqs = c.sqs := (rfl)
@[simp] theorem findCq_putSq (c : Ctl) (q : Sq) (id : Nat) : findCq (putSq c q) id = findCq c id := (rfl)
@[simp] theorem findSq_putCq (c : Ctl) (q : Cq) (id : Nat) : findSq (putCq c q) id = findSq c id := (rfl)

/-- The controllers after one is replaced. -/
theorem State.setCtl_ctl (s : State) (i j : Nat) (c : Ctl) : (s.setCtl i c).ctl j = if j = i then c else s.ctl j := by
  by_cases h : j = i
  · subst h
    simp
  · simp [h]

/-- A state with the same controllers has the same controller. -/
theorem State.ctl_congr (s t : State) (h : t.ctls = s.ctls) (i : Nat) : t.ctl i = s.ctl i := by simp [State.ctl, h]

@[simp] theorem emit_ctl (o : Out) (s : State) (i : Nat) : (emit o s).ctl i = s.ctl i := (rfl)
@[simp] theorem setFn_ctl (s : State) (j : Nat) (f : Func) (i : Nat) : (s.setFn j f).ctl i = s.ctl i := (rfl)
@[simp] theorem setPort_ctl (s : State) (j : Nat) (p : HostPort) (i : Nat) : (s.setPort j p).ctl i = s.ctl i := (rfl)
@[simp] theorem sendTlp_ctl (fn : Nat) (o : Out) (s : State) (i : Nat) : (sendTlp fn o s).ctl i = s.ctl i := by simp [State.ctl]
@[simp] theorem recordEvent_ctl (code : Nat) (params : List Nat) (s : State) (i : Nat) : (recordEvent code params s).ctl i = s.ctl i := by
  simp [State.ctl]
@[simp] theorem signalVec_ctl (ctl vec : Nat) (s : State) (i : Nat) : (signalVec ctl vec s).ctl i = s.ctl i := by simp [State.ctl]
@[simp] theorem settleInta_ctl (ctl : Nat) (s : State) (i : Nat) : (settleInta ctl s).ctl i = s.ctl i := by simp [State.ctl]
@[simp] theorem aerAdvisory_ctl (fn : Nat) (bit : Option Nat) (s : State) (i : Nat) : (aerAdvisory fn bit s).ctl i = s.ctl i := by
  simp [State.ctl]

/-- An interrupt for a completion leaves the queues. -/
theorem interruptFor_queues (ctl : Nat) (q : Cq) (s : State) (i : Nat) :
    ((interruptFor ctl q s).ctl i).sqs = (s.ctl i).sqs ∧ ((interruptFor ctl q s).ctl i).cqs = (s.ctl i).cqs := by
  by_cases hi : i = ctl
  · subst hi
    simp only [interruptFor]
    (repeat' split) <;> simp
  · simp only [interruptFor]
    (repeat' split) <;> simp [hi]

/-- A write that waits for the Controller Memory Buffer leaves the queues. -/
theorem writeLate_queues (ctl off : Nat) (bs : Bytes) (s : State) (i : Nat) :
    ((writeLate ctl off bs s).ctl i).sqs = (s.ctl i).sqs ∧ ((writeLate ctl off bs s).ctl i).cqs = (s.ctl i).cqs := by
  by_cases hi : i = ctl
  · subst hi
    simp [writeLate]
  · simp [writeLate, hi]

/-- A completion entry changes completion queues only: every submission queue, and every other completion queue, is as before. -/
theorem writeCqe_queues (ctl cqid sqid sqhd cid status dw0 : Nat) (s : State) (i : Nat) :
    ((writeCqe ctl cqid sqid sqhd cid status dw0 s).ctl i).sqs = (s.ctl i).sqs ∧
      ∀ x, x ≠ cqid → findCq ((writeCqe ctl cqid sqid sqhd cid status dw0 s).ctl i) x = findCq (s.ctl i) x := by
  simp only [writeCqe]
  cases hq : findCq (s.ctl ctl) cqid with
  | none => simp
  | some q =>
    have hid := findCq_id _ _ _ hq
    refine ⟨?_, fun x hx => ?_⟩
    · rw [(interruptFor_queues _ _ _ _).1, sendTlp_ctl]
      split
      · rw [(writeLate_queues _ _ _ _ _).1, State.setCtl_ctl]
        split <;> simp_all
      · rw [State.setCtl_ctl]
        split <;> simp_all
    · have hput := findCq_putCq_other (s.ctl ctl) { q with
          tail := (q.tail + 1) % q.size
          phase := if (q.tail + 1) % q.size = 0 then !q.phase else q.phase } x (by simpa [hid] using hx)
      simp only [findCq] at hput ⊢
      rw [(interruptFor_queues _ _ _ _).2, sendTlp_ctl]
      split
      · rw [(writeLate_queues _ _ _ _ _).2, State.setCtl_ctl]
        split
        · rename_i hi
          rw [hput, hi]
        · rfl
      · rw [State.setCtl_ctl]
        split
        · rename_i hi
          rw [hput, hi]
        · rfl

/-- Reporting events changes the admin completion queue at most. -/
theorem deliverAens_queues (ctl n : Nat) (s : State) (i : Nat) :
    ((deliverAens ctl n s).ctl i).sqs = (s.ctl i).sqs ∧
      ∀ x, x ≠ 0 → findCq ((deliverAens ctl n s).ctl i) x = findCq (s.ctl i) x := by
  induction n generalizing s with
  | zero => simp [deliverAens]
  | succ n ih =>
    simp only [deliverAens]
    split
    · split
      · refine ⟨(ih _).1.trans ?_, fun x hx => ((ih _).2 x hx).trans ?_⟩
        · rw [(writeCqe_queues _ _ _ _ _ _ _ _ _).1, State.setCtl_ctl]
          split
          · rename_i h
            rw [h]
          · rfl
        · rw [(writeCqe_queues _ _ _ _ _ _ _ _ _).2 x hx, State.setCtl_ctl]
          split
          · rename_i h
            rw [h]
            rfl
          · rfl
      · simp
    · simp

/-- Raising an event changes the admin completion queue at most. -/
theorem raiseAen_queues (ctl kind info lid : Nat) (s : State) (i : Nat) :
    ((raiseAen ctl kind info lid s).ctl i).sqs = (s.ctl i).sqs ∧
      ∀ x, x ≠ 0 → findCq ((raiseAen ctl kind info lid s).ctl i) x = findCq (s.ctl i) x := by
  simp only [raiseAen]
  refine ⟨(deliverAens_queues _ _ _ _).1.trans ?_, fun x hx => ((deliverAens_queues _ _ _ _).2 x hx).trans ?_⟩
  · split
    · rfl
    · rw [State.setCtl_ctl]
      split
      · rename_i h
        rw [h]
      · rfl
  · split
    · rfl
    · rw [State.setCtl_ctl]
      split
      · rename_i h
        rw [h]
        rfl
      · rfl

/-- A structural fault halts the active queue it names, and no other; other queues and the I/O completion queues are as before. -/
theorem haltQueue_queue (ctl sqid reason info : Nat) (cid : Option Nat) (s : State) (q : Sq) (hs : sqid ≠ 0)
    (hq : findSq (s.ctl ctl) sqid = some q) (ha : q.state = .active) :
    ∃ h : HaltRec, findSq ((haltQueue ctl sqid reason info cid s).ctl ctl) sqid = some { q with state := .halted, halt := some h } ∧
      h.reason = reason ∧ h.faultInfo = info := by
  have hid := findSq_id _ _ _ hq
  simp only [haltQueue, hq, hs, ha, ne_eq, not_true_eq_false, or_self, if_false]
  refine ⟨{ reason := reason, cidValid := cid.isSome, cid := cid.getD 0, head := q.head, tail := q.tail, faultInfo := info,
            lateTail := (q.halt.map fun h => h.lateTail).getD q.tail, time := s.recTime }, ?_, rfl, rfl⟩
  simp only [haltAs, findSq, (raiseAen_queues _ _ _ _ _ _).1, recordEvent_ctl, State.setCtl_ctl_self]
  exact findSq_putSq_self (s.ctl ctl) q _ sqid hid hq

/-- A structural fault leaves every other submission queue and every I/O completion queue. -/
theorem haltQueue_others (ctl sqid reason info : Nat) (cid : Option Nat) (s : State) :
    (∀ x, x ≠ sqid → findSq ((haltQueue ctl sqid reason info cid s).ctl ctl) x = findSq (s.ctl ctl) x) ∧
      ∀ x, x ≠ 0 → findCq ((haltQueue ctl sqid reason info cid s).ctl ctl) x = findCq (s.ctl ctl) x := by
  simp only [haltQueue]
  cases hq : findSq (s.ctl ctl) sqid with
  | none => simp
  | some q =>
    have hid := findSq_id _ _ _ hq
    dsimp only
    split
    · simp
    · simp only [haltAs]
      refine ⟨fun x hx => ?_, fun x hx => ?_⟩
      · simp only [findSq, (raiseAen_queues _ _ _ _ _ _).1, recordEvent_ctl, State.setCtl_ctl_self]
        exact findSq_putSq_other (s.ctl ctl) _ x (by simpa [hid] using hx)
      · rw [(raiseAen_queues _ _ _ _ _ _).2 x hx]
        simp only [recordEvent_ctl, State.setCtl_ctl_self]
        rfl

/-- A queue that is already halted stays as it is. -/
theorem haltQueue_halted (ctl sqid reason info : Nat) (cid : Option Nat) (s : State) (q : Sq)
    (hq : findSq (s.ctl ctl) sqid = some q) (ha : q.state ≠ .active) : haltQueue ctl sqid reason info cid s = s := by
  simp [haltQueue, hq, ha]

/-- The reorder buffer entry of a command after it is changed. -/
theorem robOf_updRob_self (r : CmdRef) (f : RobEntry → RobEntry) (s : State) (e : RobEntry) (h : robOf s r = some e)
    (hf : ∀ x, (f x).cid = x.cid ∧ (f x).dup = x.dup) : robOf (updRob r f s) r = some (f e) := by
  simp only [robOf, updRob] at *
  cases hq : findSq (s.ctl r.ctl) r.sqid with
  | none => simp [hq] at h
  | some q =>
    have hid := findSq_id _ _ _ hq
    simp only [hq, Option.bind_some] at h
    simp only [State.setCtl_ctl_self]
    rw [findSq_putSq_self _ q _ _ (by exact hid) hq]
    simp only [Option.bind_some, findRob] at h ⊢
    generalize q.rob = l at h ⊢
    induction l with
    | nil => simp at h
    | cons x l ih =>
      by_cases hx : x.cid = r.cid ∧ x.dup = false
      · simp only [List.find?_cons, hx.1, hx.2, decide_true, Bool.not_false, Bool.and_self, Option.some.injEq] at h
        subst h
        simp [hx, hf]
      · have hb : (decide (x.cid = r.cid) && !x.dup) = false := by
          by_cases hc : x.cid = r.cid
          · simp_all
          · simp [hc]
        simp only [List.find?_cons, hb] at h
        simp only [List.map_cons, hx, if_false, List.find?_cons, hb]
        exact ih h

/-- Changing one command's reorder buffer entry leaves every other command's. -/
theorem robOf_updRob_other (r r' : CmdRef) (f : RobEntry → RobEntry) (s : State) (h : r' ≠ r) (hf : ∀ x, (f x).cid = x.cid ∧ (f x).dup = x.dup) :
    robOf (updRob r f s) r' = robOf s r' := by
  simp only [robOf, updRob]
  cases hq : findSq (s.ctl r.ctl) r.sqid with
  | none => rfl
  | some q =>
    have hid := findSq_id _ _ _ hq
    simp only [State.setCtl_ctl]
    by_cases hc : r'.ctl = r.ctl
    · simp only [hc, if_true]
      by_cases hsq : r'.sqid = r.sqid
      · have hcid : r'.cid ≠ r.cid := by
          intro hcid
          apply h
          cases r
          cases r'
          simp_all
        simp only [hsq, hq]
        rw [findSq_putSq_self _ q _ _ (by exact hid) hq]
        simp only [Option.bind_some, findRob]
        generalize q.rob = l
        induction l with
        | nil => rfl
        | cons x l ih =>
          have hy : ∀ y : RobEntry, y.cid = x.cid → y.dup = x.dup →
              (decide (y.cid = r'.cid) && !y.dup) = (decide (x.cid = r'.cid) && !x.dup) := fun y h1 h2 => by rw [h1, h2]
          by_cases hx : x.cid = r.cid ∧ x.dup = false
          · have hn : (decide (x.cid = r'.cid) && !x.dup) = false := by
              have : ¬ r.cid = r'.cid := fun e => hcid e.symm
              simp [hx, this]
            rw [List.map_cons, if_pos hx, List.find?_cons, List.find?_cons, hy _ (hf x).1 (hf x).2, hn]
            exact ih
          · simp only [List.map_cons, hx, if_false, List.find?_cons]
            split
            · rfl
            · exact ih
      · rw [findSq_putSq_other _ _ _ (by simpa [hid] using hsq)]
    · simp [hc]

/-- Changing a reorder buffer entry leaves the queues of other identifiers. -/
theorem updRob_otherQueue (r : CmdRef) (f : RobEntry → RobEntry) (s : State) (x : Nat) (h : x ≠ r.sqid) :
    findSq ((updRob r f s).ctl r.ctl) x = findSq (s.ctl r.ctl) x := by
  simp only [updRob]
  cases hq : findSq (s.ctl r.ctl) r.sqid with
  | none => rfl
  | some q =>
    have hid := findSq_id _ _ _ hq
    simp only [State.setCtl_ctl_self]
    exact findSq_putSq_other _ _ _ (by simpa [hid] using h)

/-- A reorder buffer entry stands where the controllers do. -/
theorem robOf_congr (s t : State) (h : t.ctls = s.ctls) (r : CmdRef) : robOf t r = robOf s r := by
  simp [robOf, State.ctl_congr s t h]

end Sys2Proof.Machine
end

