-- ==== Sys2Proof/Laws/RecorderKept.lean ====
section
/-!
SUPPORT. Every shared operation keeps the event recorder within its bounds (`Safety.RecorderFits`, 16 R480, R481).
-/

namespace Sys2Proof.Machine

open Sys2Proof.Safety

theorem pushRing_length (cap : Nat) (l : List EventRec) (r : EventRec) : (pushRing cap l r).length ≤ cap := by
  simp only [pushRing, List.length_drop]
  omega
theorem nextSeqOf_lt (n : Nat) : nextSeqOf n < 0xFFFFFFFF := by
  unfold nextSeqOf
  split <;> omega
theorem ite_recorderFits (c : Prop) [Decidable c] (a b : State) (ha : RecorderFits a.recorder) (hb : RecorderFits b.recorder) :
    RecorderFits (if c then a else b).recorder := by
  split
  · exact ha
  · exact hb
theorem foldl_recorderFits {α : Type} (F : State → α → State) (hF : ∀ t x, RecorderFits t.recorder → RecorderFits (F t x).recorder)
    (l : List α) (s : State) (h : RecorderFits s.recorder) : RecorderFits (l.foldl F s).recorder := by
  induction l generalizing s with
  | nil => exact h
  | cons x l ih => exact ih _ (hF _ _ h)
theorem foldl_bind_recorderFits {α : Type} (F : State → α → Option State)
    (hF : ∀ s x t, F s x = some t → RecorderFits s.recorder → RecorderFits t.recorder) (l : List α) (s t : State)
    (e : l.foldl (fun acc x => acc.bind fun s => F s x) (some s) = some t) (hs : RecorderFits s.recorder) : RecorderFits t.recorder := by
  induction l generalizing s with
  | nil => simp only [List.foldl_nil, Option.some.injEq] at e; exact e ▸ hs
  | cons x l ih =>
    simp only [List.foldl_cons, Option.bind_some] at e
    cases hx : F s x with
    | none => rw [hx, foldl_bind_none] at e; simp at e
    | some u => rw [hx] at e; exact ih u e (hF s x u hx hs)
theorem foldl_snd_recorderFits {α β : Type} (F : β × State → α → β × State)
    (hF : ∀ t x, RecorderFits t.2.recorder → RecorderFits (F t x).2.recorder)
    (l : List α) (s : β × State) (h : RecorderFits s.2.recorder) : RecorderFits (l.foldl F s).2.recorder := by
  induction l generalizing s with
  | nil => exact h
  | cons x l ih => exact ih _ (hF _ _ h)
theorem storeRecord_recorderFits (code : Nat) (params : List Nat) (s : State) (hs : RecorderFits s.recorder) : RecorderFits (storeRecord code params s).recorder := by
  obtain ⟨h1, h2, h3, h4⟩ := hs
  have hn := nextSeqOf_lt
  have hp := pushRing_length
  simp only [storeRecord, pushSent]
  (repeat' split) <;> (refine ⟨?_, ?_, ?_, ?_⟩ <;> simp [hn, hp, h1, h2, h3, h4] <;> omega)

theorem thawRing_recorderFits (s : State) (hs : RecorderFits s.recorder) : RecorderFits (thawRing s).recorder := by
  simp only [thawRing]
  repeat' (first | (with_reducible assumption) | (with_reducible apply storeRecord_recorderFits) | split | dsimp only | simp
                 | (unfold RecorderFits at *; simp_all; done) | (unfold RecorderFits at *; simp_all; omega))

theorem freezeRing_recorderFits (byTrigger : Bool) (s : State) (hs : RecorderFits s.recorder) : RecorderFits (freezeRing byTrigger s).recorder := by
  simp only [freezeRing]
  split
  · exact hs
  · exact storeRecord_recorderFits _ _ _ hs

theorem recordEvent_recorderFits (code : Nat) (params : List Nat) (s : State) (hs : RecorderFits s.recorder) : RecorderFits (recordEvent code params s).recorder := by
  have h1 := storeRecord_recorderFits code params s hs
  simp only [recordEvent]
  repeat' split
  all_goals first
    | exact h1
    | (apply freezeRing_recorderFits; exact h1)

theorem takeover_recorderFits (source : Nat) (level : Nat) (bound : Nat) (code : Nat) (s : State)
    (hs : RecorderFits s.recorder) : RecorderFits (takeover source level bound code s).recorder := by
  simp only [takeover]
  repeat' (first | (with_reducible assumption) | (with_reducible apply recordEvent_recorderFits) | split | dsimp only | simp
                 | (unfold RecorderFits at *; simp_all; done) | (unfold RecorderFits at *; simp_all; omega))

theorem disarmFinj_recorderFits (why : Nat) (s : State) (hs : RecorderFits s.recorder) : RecorderFits (disarmFinj why s).recorder := by
  simp only [disarmFinj]
  repeat' (first | (with_reducible assumption) | (with_reducible apply recordEvent_recorderFits) | split | dsimp only | simp
                 | (unfold RecorderFits at *; simp_all; done) | (unfold RecorderFits at *; simp_all; omega))

theorem transit_recorderFits (no : Nat) (dst : DevMode) (cause : Nat) (s : State) (hs : RecorderFits s.recorder) : RecorderFits (transit no dst cause s).recorder := by
  simp only [transit]
  repeat' (first | (with_reducible assumption) | (with_reducible apply disarmFinj_recorderFits) | (with_reducible apply recordEvent_recorderFits) | split
                 | dsimp only | simp | (unfold RecorderFits at *; simp_all; done) | (unfold RecorderFits at *; simp_all; omega))

theorem haltAs_recorderFits (ctl : Nat) (q : Sq) (reason : Nat) (info : Nat) (cid : Option Nat) (s : State)
    (hs : RecorderFits s.recorder) : RecorderFits (haltAs ctl q reason info cid s).recorder := by
  simp only [haltAs]
  repeat' (first | (with_reducible assumption) | (with_reducible apply recordEvent_recorderFits) | split | dsimp only | simp
                 | (unfold RecorderFits at *; simp_all; done) | (unfold RecorderFits at *; simp_all; omega))

theorem haltQueue_recorderFits (ctl : Nat) (sqid : Nat) (reason : Nat) (info : Nat) (cid : Option Nat) (s : State)
    (hs : RecorderFits s.recorder) : RecorderFits (haltQueue ctl sqid reason info cid s).recorder := by
  simp only [haltQueue]
  repeat' (first | (with_reducible assumption) | (with_reducible apply haltAs_recorderFits) | split | dsimp only | simp
                 | (unfold RecorderFits at *; simp_all; done) | (unfold RecorderFits at *; simp_all; omega))

theorem fetchOne_recorderFits (ctl : Nat) (sqid : Nat) (e : SqEntry) (s : State) (hs : RecorderFits s.recorder) : RecorderFits (fetchOne ctl sqid e s).recorder := by
  simp only [fetchOne]
  repeat' (first | (with_reducible assumption) | (with_reducible apply haltQueue_recorderFits) | split | dsimp only | simp
                 | (unfold RecorderFits at *; simp_all; done) | (unfold RecorderFits at *; simp_all; omega))

theorem haltPosters_recorderFits (ctl : Nat) (cqid : Nat) (value : Nat) (s : State)
    (hs : RecorderFits s.recorder) : RecorderFits (haltPosters ctl cqid value s).recorder := by
  simp only [haltPosters]
  repeat' (first | (with_reducible assumption) | (with_reducible apply haltQueue_recorderFits)
                 | (with_reducible refine foldl_recorderFits _ (fun t x ht => ?_) _ _ ?_)
                 | (with_reducible refine foldl_snd_recorderFits _ (fun t x ht => ?_) _ _ ?_) | split | dsimp only | simp
                 | (unfold RecorderFits at *; simp_all; done) | (unfold RecorderFits at *; simp_all; omega))

theorem badDoorbell_recorderFits (ctl : Nat) (offset : Nat) (value : Nat) (info : Nat) (s : State)
    (hs : RecorderFits s.recorder) : RecorderFits (badDoorbell ctl offset value info s).recorder := by
  simp only [badDoorbell]
  repeat' (first | (with_reducible assumption) | (with_reducible apply recordEvent_recorderFits) | split | dsimp only | simp
                 | (unfold RecorderFits at *; simp_all; done) | (unfold RecorderFits at *; simp_all; omega))

theorem tailDoorbell_recorderFits (ctl : Nat) (sqid : Nat) (value : Nat) (s : State)
    (hs : RecorderFits s.recorder) : RecorderFits (tailDoorbell ctl sqid value s).recorder := by
  simp only [tailDoorbell]
  repeat' (first | (with_reducible assumption) | (with_reducible apply badDoorbell_recorderFits) | (with_reducible apply haltQueue_recorderFits) | split
                 | dsimp only | simp | (unfold RecorderFits at *; simp_all; done) | (unfold RecorderFits at *; simp_all; omega))

theorem resumeQueue_recorderFits (ctl : Nat) (q : Sq) (h : HaltRec) (action : Nat) (newHead : Nat) (s : State)
    (hs : RecorderFits s.recorder) : RecorderFits (resumeQueue ctl q h action newHead s).recorder := by
  simp only [resumeQueue]
  repeat' (first | (with_reducible assumption) | (with_reducible apply recordEvent_recorderFits) | split | dsimp only | simp
                 | (unfold RecorderFits at *; simp_all; done) | (unfold RecorderFits at *; simp_all; omega))

theorem doResume_recorderFits (ref : CmdRef) (sqid : Nat) (skip : Bool) (s : State)
    (hs : RecorderFits s.recorder) : RecorderFits (doResume ref sqid skip s).recorder := by
  simp only [doResume]
  repeat' (first | (with_reducible assumption) | (with_reducible apply resumeQueue_recorderFits) | split | dsimp only | simp
                 | (unfold RecorderFits at *; simp_all; done) | (unfold RecorderFits at *; simp_all; omega))

theorem headDoorbell_recorderFits (ctl : Nat) (cqid : Nat) (value : Nat) (s : State)
    (hs : RecorderFits s.recorder) : RecorderFits (headDoorbell ctl cqid value s).recorder := by
  simp only [headDoorbell]
  repeat' (first | (with_reducible assumption) | (with_reducible apply haltPosters_recorderFits) | (with_reducible apply badDoorbell_recorderFits) | split
                 | dsimp only | simp | (unfold RecorderFits at *; simp_all; done) | (unfold RecorderFits at *; simp_all; omega))

theorem controllerReset_recorderFits (ctl : Nat) (s : State) (hs : RecorderFits s.recorder) : RecorderFits (controllerReset ctl s).recorder := by
  simp only [controllerReset]
  repeat' (first | (with_reducible assumption) | (with_reducible apply disarmFinj_recorderFits) | split | dsimp only | simp
                 | (unfold RecorderFits at *; simp_all; done) | (unfold RecorderFits at *; simp_all; omega))

theorem disableCtl_recorderFits (ctl : Nat) (s : State) (hs : RecorderFits s.recorder) : RecorderFits (disableCtl ctl s).recorder := by
  simp only [disableCtl]
  repeat' (first | (with_reducible assumption) | (with_reducible apply controllerReset_recorderFits) | split | dsimp only | simp
                 | (unfold RecorderFits at *; simp_all; done) | (unfold RecorderFits at *; simp_all; omega))

theorem leaveQuarantine_recorderFits (no : Nat) (s : State) (hs : RecorderFits s.recorder) : RecorderFits (leaveQuarantine no s).recorder := by
  simp only [leaveQuarantine]
  repeat' (first | (with_reducible assumption) | (with_reducible apply recordEvent_recorderFits) | split | dsimp only | simp
                 | (unfold RecorderFits at *; simp_all; done) | (unfold RecorderFits at *; simp_all; omega))

theorem enterService_recorderFits (noServe : Nat) (noConstr : Nat) (s : State)
    (hs : RecorderFits s.recorder) : RecorderFits (enterService noServe noConstr s).recorder := by
  simp only [enterService]
  repeat' (first | (with_reducible assumption) | (with_reducible apply transit_recorderFits) | split | dsimp only | simp
                 | (unfold RecorderFits at *; simp_all; done) | (unfold RecorderFits at *; simp_all; omega))

theorem constraintEval_recorderFits (s : State) (hs : RecorderFits s.recorder) : RecorderFits (constraintEval s).recorder := by
  simp only [constraintEval]
  repeat' (first | (with_reducible assumption) | (with_reducible apply transit_recorderFits) | split | dsimp only | simp
                 | (unfold RecorderFits at *; simp_all; done) | (unfold RecorderFits at *; simp_all; omega))

theorem policyCheck_recorderFits (s : State) (hs : RecorderFits s.recorder) : RecorderFits (policyCheck s).recorder := by
  simp only [policyCheck]
  repeat' (first | (with_reducible assumption) | (with_reducible apply recordEvent_recorderFits) | split | dsimp only | simp
                 | (unfold RecorderFits at *; simp_all; done) | (unfold RecorderFits at *; simp_all; omega))

theorem enableCtl_recorderFits (ctl : Nat) (mps : Nat) (ams : Nat) (asqs : Nat) (acqs : Nat) (s : State)
    (hs : RecorderFits s.recorder) : RecorderFits (enableCtl ctl mps ams asqs acqs s).recorder := by
  simp only [enableCtl]
  repeat' (first | (with_reducible assumption) | (with_reducible apply policyCheck_recorderFits) | split | dsimp only | simp
                 | (unfold RecorderFits at *; simp_all; done) | (unfold RecorderFits at *; simp_all; omega))

theorem enterQuarantine_recorderFits (no : Nat) (code : Nat) (detail : Nat) (s : State)
    (hs : RecorderFits s.recorder) : RecorderFits (enterQuarantine no code detail s).recorder := by
  simp only [enterQuarantine]
  repeat' (first | (with_reducible assumption) | (with_reducible apply transit_recorderFits) | (with_reducible apply recordEvent_recorderFits) | split
                 | dsimp only | simp | (unfold RecorderFits at *; simp_all; done) | (unfold RecorderFits at *; simp_all; omega))

theorem toWriteBack_recorderFits (s : State) (hs : RecorderFits s.recorder) : RecorderFits (toWriteBack s).recorder := by
  simp only [toWriteBack]
  repeat' (first | (with_reducible assumption) | (with_reducible apply recordEvent_recorderFits) | split | dsimp only | simp
                 | (unfold RecorderFits at *; simp_all; done) | (unfold RecorderFits at *; simp_all; omega))

theorem rejectBar2_recorderFits (ctl : Nat) (win : Nat) (t : Bar2Tlp) (write : Bool) (s : State)
    (hs : RecorderFits s.recorder) : RecorderFits (rejectBar2 ctl win t write s).recorder := by
  simp only [rejectBar2]
  repeat' (first | (with_reducible assumption) | (with_reducible apply recordEvent_recorderFits) | split | dsimp only | simp
                 | (unfold RecorderFits at *; simp_all; done) | (unfold RecorderFits at *; simp_all; omega))

theorem tryBar2_recorderFits (ctl : Nat) (write : Bool) (tlp : Bar2Tlp) (s : State) (t : State) (e : tryBar2 ctl write tlp s = some t)
    (hs : RecorderFits s.recorder) : RecorderFits t.recorder := by
  simp only [tryBar2] at e
  (repeat' split at e) <;> (first | (simp at e; done) | skip)
  all_goals (simp only [Option.some.injEq] at e; subst e)
  all_goals repeat' (first | (with_reducible apply rejectBar2_recorderFits) | (with_reducible assumption) | split | simp)

theorem decodeAgain_recorderFits (ctl : Nat) (t : Bool × Bar2Tlp) (s : State) (hs : RecorderFits s.recorder) : RecorderFits (decodeAgain ctl t s).recorder := by
  simp only [decodeAgain]
  cases h : tryBar2 ctl t.1 t.2 s with
  | none => exact hs
  | some r => exact tryBar2_recorderFits _ _ _ _ _ h hs

theorem noteWait_recorderFits (at_ : Nat × Nat) (s : State) (hs : RecorderFits s.recorder) : RecorderFits (noteWait at_ s).recorder := by
  simp only [noteWait]
  repeat' (first | (with_reducible assumption) | (with_reducible apply recordEvent_recorderFits) | split | dsimp only | simp
                 | (unfold RecorderFits at *; simp_all; done) | (unfold RecorderFits at *; simp_all; omega))

theorem stallBar2_recorderFits (ctl : Nat) (write : Bool) (t : Bar2Tlp) (s : State)
    (hs : RecorderFits s.recorder) : RecorderFits (stallBar2 ctl write t s).recorder := by
  simp only [stallBar2]
  repeat' (first | (with_reducible assumption) | (with_reducible apply noteWait_recorderFits) | split | dsimp only | simp
                 | (unfold RecorderFits at *; simp_all; done) | (unfold RecorderFits at *; simp_all; omega))

theorem runBar2_recorderFits (ctl : Nat) (write : Bool) (t : Bar2Tlp) (s : State) (hs : RecorderFits s.recorder) : RecorderFits (runBar2 ctl write t s).recorder := by
  simp only [runBar2]
  split
  · cases h : tryBar2 ctl write t (drainLate ctl s) with
    | none => exact stallBar2_recorderFits _ _ _ _ (by simpa using hs)
    | some r => exact tryBar2_recorderFits _ _ _ _ _ h (by simpa using hs)
  · simpa using hs

theorem drainStalled_recorderFits (ctl : Nat) (s : State) (hs : RecorderFits s.recorder) : RecorderFits (drainStalled ctl s).recorder := by
  simp only [drainStalled]
  repeat' (first | (with_reducible assumption) | (with_reducible apply runBar2_recorderFits)
                 | (with_reducible refine foldl_recorderFits _ (fun t x ht => ?_) _ _ ?_)
                 | (with_reducible refine foldl_snd_recorderFits _ (fun t x ht => ?_) _ _ ?_) | split | dsimp only | simp
                 | (unfold RecorderFits at *; simp_all; done) | (unfold RecorderFits at *; simp_all; omega))

theorem retireInbound_recorderFits (ctl : Nat) (s : State) (hs : RecorderFits s.recorder) : RecorderFits (retireInbound ctl s).recorder := by
  simp only [retireInbound]
  repeat' (first | (with_reducible assumption) | (with_reducible apply drainStalled_recorderFits) | (with_reducible apply recordEvent_recorderFits)
                 | (with_reducible apply decodeAgain_recorderFits) | (with_reducible refine foldl_recorderFits _ (fun t x ht => ?_) _ _ ?_)
                 | (with_reducible refine foldl_snd_recorderFits _ (fun t x ht => ?_) _ _ ?_) | split | dsimp only | simp
                 | (unfold RecorderFits at *; simp_all; done) | (unfold RecorderFits at *; simp_all; omega))

theorem retryStalled_recorderFits (s : State) (hs : RecorderFits s.recorder) : RecorderFits (retryStalled s).recorder := by
  simp only [retryStalled]
  repeat' (first | (with_reducible assumption) | (with_reducible apply drainStalled_recorderFits)
                 | (with_reducible refine foldl_recorderFits _ (fun t x ht => ?_) _ _ ?_)
                 | (with_reducible refine foldl_snd_recorderFits _ (fun t x ht => ?_) _ _ ?_) | split | dsimp only | simp
                 | (unfold RecorderFits at *; simp_all; done) | (unfold RecorderFits at *; simp_all; omega))

theorem cmbmscWrite_recorderFits (ctl : Nat) (cre : Bool) (cmse : Bool) (cba : Nat) (s : State)
    (hs : RecorderFits s.recorder) : RecorderFits (cmbmscWrite ctl cre cmse cba s).recorder := by
  simp only [cmbmscWrite]
  repeat' (first | (with_reducible assumption) | (with_reducible apply retryStalled_recorderFits) | split | dsimp only | simp
                 | (unfold RecorderFits at *; simp_all; done) | (unfold RecorderFits at *; simp_all; omega))

theorem applyWin_recorderFits (ctl : Nat) (win : Nat) (s : State) (hs : RecorderFits s.recorder) : RecorderFits (applyWin ctl win s).recorder := by
  simp only [applyWin]
  repeat' (first | (with_reducible assumption) | (with_reducible apply recordEvent_recorderFits) | split | dsimp only | simp
                 | (unfold RecorderFits at *; simp_all; done) | (unfold RecorderFits at *; simp_all; omega))

theorem inboundBar2_recorderFits (write : Bool) (t : Bar2Tlp) (s : State) (hs : RecorderFits s.recorder) : RecorderFits (inboundBar2 write t s).recorder := by
  simp only [inboundBar2]
  repeat' (first | (with_reducible assumption) | (with_reducible apply drainStalled_recorderFits) | (with_reducible apply runBar2_recorderFits) | split
                 | dsimp only | simp | (unfold RecorderFits at *; simp_all; done) | (unfold RecorderFits at *; simp_all; omega))

theorem setHoldup_recorderFits (limit : Nat) (s : State) (hs : RecorderFits s.recorder) : RecorderFits (setHoldup limit s).recorder := by
  simp only [setHoldup]
  repeat' (first | (with_reducible assumption) | (with_reducible apply policyCheck_recorderFits) | (with_reducible apply recordEvent_recorderFits) | split
                 | dsimp only | simp | (unfold RecorderFits at *; simp_all; done) | (unfold RecorderFits at *; simp_all; omega))

theorem dropHoldup_recorderFits (s : State) (hs : RecorderFits s.recorder) : RecorderFits (dropHoldup s).recorder := by
  simp only [dropHoldup]
  repeat' (first | (with_reducible assumption) | (with_reducible apply setHoldup_recorderFits) | split | dsimp only | simp
                 | (unfold RecorderFits at *; simp_all; done) | (unfold RecorderFits at *; simp_all; omega))

theorem dropVaultChannel_recorderFits (ch : Nat) (s : State) (hs : RecorderFits s.recorder) : RecorderFits (dropVaultChannel ch s).recorder := by
  simp only [dropVaultChannel]
  repeat' (first | (with_reducible assumption) | (with_reducible apply dropHoldup_recorderFits) | (with_reducible apply takeover_recorderFits) | split
                 | dsimp only | simp | (unfold RecorderFits at *; simp_all; done) | (unfold RecorderFits at *; simp_all; omega))

theorem identifyPack_recorderFits (s : State) (hs : RecorderFits s.recorder) : RecorderFits (identifyPack s).recorder := by
  simp only [identifyPack]
  repeat' (first | (with_reducible assumption) | (with_reducible apply recordEvent_recorderFits)
                 | (with_reducible refine foldl_recorderFits _ (fun t x ht => ?_) _ _ ?_)
                 | (with_reducible refine foldl_snd_recorderFits _ (fun t x ht => ?_) _ _ ?_) | split | dsimp only | simp
                 | (unfold RecorderFits at *; simp_all; done) | (unfold RecorderFits at *; simp_all; omega))

theorem startGauge_recorderFits (s : State) (hs : RecorderFits s.recorder) : RecorderFits (startGauge s).recorder := by
  simp only [startGauge]
  repeat' (first | (with_reducible assumption) | (with_reducible apply recordEvent_recorderFits) | split | dsimp only | simp
                 | (unfold RecorderFits at *; simp_all; done) | (unfold RecorderFits at *; simp_all; omega))

theorem judgePack_recorderFits (code : Nat) (socV : Frac) (s : State) (hs : RecorderFits s.recorder) : RecorderFits (judgePack code socV s).recorder := by
  simp only [judgePack]
  repeat' (first | (with_reducible assumption) | (with_reducible apply recordEvent_recorderFits) | split | dsimp only | simp
                 | (unfold RecorderFits at *; simp_all; done) | (unfold RecorderFits at *; simp_all; omega))

theorem dropLearning_recorderFits (s : State) (hs : RecorderFits s.recorder) : RecorderFits (dropLearning s).recorder := by
  simp only [dropLearning]
  repeat' (first | (with_reducible assumption) | (with_reducible apply recordEvent_recorderFits) | split | dsimp only | simp
                 | (unfold RecorderFits at *; simp_all; done) | (unfold RecorderFits at *; simp_all; omega))

theorem endLearning_recorderFits (outcome : Nat) (g : Gauge) (s : State) (hs : RecorderFits s.recorder) : RecorderFits (endLearning outcome g s).recorder := by
  simp only [endLearning]
  repeat' (first | (with_reducible assumption) | (with_reducible apply recordEvent_recorderFits) | split | dsimp only | simp
                 | (unfold RecorderFits at *; simp_all; done) | (unfold RecorderFits at *; simp_all; omega))

theorem voltageRule_recorderFits (upper : Frac) (socV : Frac) (s : State) (hs : RecorderFits s.recorder) : RecorderFits (voltageRule upper socV s).recorder := by
  simp only [voltageRule]
  repeat' (first | (with_reducible assumption) | (with_reducible apply recordEvent_recorderFits) | split | dsimp only | simp
                 | (unfold RecorderFits at *; simp_all; done) | (unfold RecorderFits at *; simp_all; omega))

theorem removePack_recorderFits (s : State) (hs : RecorderFits s.recorder) : RecorderFits (removePack s).recorder := by
  simp only [removePack]
  repeat' (first | (with_reducible assumption) | (with_reducible apply dropHoldup_recorderFits) | (with_reducible apply takeover_recorderFits)
                 | (with_reducible apply recordEvent_recorderFits) | (with_reducible apply dropLearning_recorderFits) | split | dsimp only | simp
                 | (unfold RecorderFits at *; simp_all; done) | (unfold RecorderFits at *; simp_all; omega))

theorem sentinelLost_recorderFits (s : State) (hs : RecorderFits s.recorder) : RecorderFits (sentinelLost s).recorder := by
  simp only [sentinelLost]
  repeat' (first | (with_reducible assumption) | (with_reducible apply dropHoldup_recorderFits) | (with_reducible apply takeover_recorderFits) | split
                 | dsimp only | simp | (unfold RecorderFits at *; simp_all; done) | (unfold RecorderFits at *; simp_all; omega))

theorem learnRule_recorderFits (s : State) (hs : RecorderFits s.recorder) : RecorderFits (learnRule s).recorder := by
  simp only [learnRule]
  repeat' (first | (with_reducible assumption) | (with_reducible apply endLearning_recorderFits) | split | dsimp only | simp
                 | (unfold RecorderFits at *; simp_all; done) | (unfold RecorderFits at *; simp_all; omega))

theorem claimSlots_recorderFits (id : Nat) (l : DeckLabel) (s : State) (hs : RecorderFits s.recorder) : RecorderFits (claimSlots id l s).recorder := by
  simp only [claimSlots]
  repeat' (first | (with_reducible assumption) | (with_reducible apply recordEvent_recorderFits)
                 | (with_reducible refine foldl_recorderFits _ (fun t x ht => ?_) _ _ ?_)
                 | (with_reducible refine foldl_snd_recorderFits _ (fun t x ht => ?_) _ _ ?_) | split | dsimp only | simp
                 | (unfold RecorderFits at *; simp_all; done) | (unfold RecorderFits at *; simp_all; omega))

theorem noteExposed_recorderFits (id : Nat) (exp : Nat) (s : State) (hs : RecorderFits s.recorder) : RecorderFits (noteExposed id exp s).recorder := by
  simp only [noteExposed]
  repeat' (first | (with_reducible assumption) | (with_reducible apply recordEvent_recorderFits) | split | dsimp only | simp
                 | (unfold RecorderFits at *; simp_all; done) | (unfold RecorderFits at *; simp_all; omega))

theorem takeState_recorderFits (id : Nat) (code : Nat) (old : Nat) (s : State) (hs : RecorderFits s.recorder) : RecorderFits (takeState id code old s).recorder := by
  simp only [takeState]
  repeat' (first | (with_reducible assumption) | (with_reducible apply disarmFinj_recorderFits) | split | dsimp only | simp
                 | (unfold RecorderFits at *; simp_all; done) | (unfold RecorderFits at *; simp_all; omega))

theorem evalDeck_recorderFits (id : Nat) (s : State) (hs : RecorderFits s.recorder) : RecorderFits (evalDeck id s).recorder := by
  simp only [evalDeck]
  repeat' (first | (with_reducible assumption) | (with_reducible apply noteExposed_recorderFits) | (with_reducible apply takeState_recorderFits) | split
                 | dsimp only | simp | (unfold RecorderFits at *; simp_all; done) | (unfold RecorderFits at *; simp_all; omega))

theorem leaveSlot_recorderFits (x : Nat) (s : State) (hs : RecorderFits s.recorder) : RecorderFits (leaveSlot x s).recorder := by
  simp only [leaveSlot]
  repeat' (first | (with_reducible assumption) | (with_reducible apply recordEvent_recorderFits) | split | dsimp only | simp
                 | (unfold RecorderFits at *; simp_all; done) | (unfold RecorderFits at *; simp_all; omega))

theorem clearPages_recorderFits (nsid : Nat) (pages : List Nat) (s : State) (hs : RecorderFits s.recorder) : RecorderFits (clearPages nsid pages s).recorder := by
  simp only [clearPages]
  repeat' (first | (with_reducible assumption) | (with_reducible apply evalDeck_recorderFits) | (with_reducible apply recordEvent_recorderFits)
                 | (with_reducible refine foldl_recorderFits _ (fun t x ht => ?_) _ _ ?_)
                 | (with_reducible refine foldl_snd_recorderFits _ (fun t x ht => ?_) _ _ ?_) | split | dsimp only | simp
                 | (unfold RecorderFits at *; simp_all; done) | (unfold RecorderFits at *; simp_all; omega))

theorem installDeck_recorderFits (id : Nat) (d : Deck) (s : State) (hs : RecorderFits s.recorder) : RecorderFits (installDeck id d s).recorder := by
  simp only [installDeck]
  repeat' (first | (with_reducible assumption) | (with_reducible apply claimSlots_recorderFits) | split | dsimp only | simp
                 | (unfold RecorderFits at *; simp_all; done) | (unfold RecorderFits at *; simp_all; omega))

theorem releaseSlot_recorderFits (x : Nat) (s : State) (hs : RecorderFits s.recorder) : RecorderFits (releaseSlot x s).recorder := by
  simp only [releaseSlot]
  repeat' (first | (with_reducible assumption) | (with_reducible apply recordEvent_recorderFits) | split | dsimp only | simp
                 | (unfold RecorderFits at *; simp_all; done) | (unfold RecorderFits at *; simp_all; omega))

theorem listPages_recorderFits (nsid : Nat) (pages : List Nat) (s : State) (hs : RecorderFits s.recorder) : RecorderFits (listPages nsid pages s).2.recorder := by
  simp only [listPages]
  repeat' (first | (with_reducible assumption) | (with_reducible apply evalDeck_recorderFits) | (with_reducible apply recordEvent_recorderFits)
                 | (with_reducible refine foldl_recorderFits _ (fun t x ht => ?_) _ _ ?_)
                 | (with_reducible refine foldl_snd_recorderFits _ (fun t x ht => ?_) _ _ ?_) | split | dsimp only | simp
                 | (unfold RecorderFits at *; simp_all; done) | (unfold RecorderFits at *; simp_all; omega))

theorem heatRules_recorderFits (s : State) (hs : RecorderFits s.recorder) : RecorderFits (heatRules s).recorder := by
  simp only [heatRules]
  repeat' (first | (with_reducible assumption) | (with_reducible apply recordEvent_recorderFits) | split | dsimp only | simp
                 | (unfold RecorderFits at *; simp_all; done) | (unfold RecorderFits at *; simp_all; omega))

theorem evalCache_recorderFits (s : State) (hs : RecorderFits s.recorder) : RecorderFits (evalCache s).recorder := by
  simp only [evalCache]
  repeat' (first | (with_reducible assumption) | (with_reducible apply policyCheck_recorderFits) | split | dsimp only | simp
                 | (unfold RecorderFits at *; simp_all; done) | (unfold RecorderFits at *; simp_all; omega))

theorem avsRules_recorderFits (m : WindowMeas) (s : State) (hs : RecorderFits s.recorder) : RecorderFits (avsRules m s).recorder := by
  simp only [avsRules]
  repeat' (first | (with_reducible assumption) | (with_reducible apply takeover_recorderFits) | (with_reducible apply recordEvent_recorderFits)
                 | (with_reducible refine foldl_recorderFits _ (fun t x ht => ?_) _ _ ?_)
                 | (with_reducible refine foldl_snd_recorderFits _ (fun t x ht => ?_) _ _ ?_) | split | dsimp only | simp
                 | (unfold RecorderFits at *; simp_all; done) | (unfold RecorderFits at *; simp_all; omega))

theorem excessRule_recorderFits (left : Int) (trump : Int) (capMw : Nat) (s : State)
    (hs : RecorderFits s.recorder) : RecorderFits (excessRule left trump capMw s).recorder := by
  simp only [excessRule]
  repeat' (first | (with_reducible assumption) | (with_reducible apply recordEvent_recorderFits) | split | dsimp only | simp
                 | (unfold RecorderFits at *; simp_all; done) | (unfold RecorderFits at *; simp_all; omega))

theorem charge_recorderFits (x : Nat) (n : Nat) (s : State) (hs : RecorderFits s.recorder) : RecorderFits (charge x n s).recorder := by
  simp only [charge]
  repeat' (first | (with_reducible assumption) | (with_reducible apply recordEvent_recorderFits) | split | dsimp only | simp
                 | (unfold RecorderFits at *; simp_all; done) | (unfold RecorderFits at *; simp_all; omega))

theorem chargeMedia_recorderFits (x : Nat) (s : State) (hs : RecorderFits s.recorder) : RecorderFits (chargeMedia x s).recorder := by
  simp only [chargeMedia]
  repeat' (first | (with_reducible assumption) | (with_reducible apply charge_recorderFits) | split | dsimp only | simp
                 | (unfold RecorderFits at *; simp_all; done) | (unfold RecorderFits at *; simp_all; omega))

theorem chargeTag_recorderFits (x : Nat) (s : State) (hs : RecorderFits s.recorder) : RecorderFits (chargeTag x s).recorder := by
  simp only [chargeTag]
  repeat' (first | (with_reducible assumption) | (with_reducible apply charge_recorderFits) | split | dsimp only | simp
                 | (unfold RecorderFits at *; simp_all; done) | (unfold RecorderFits at *; simp_all; omega))

theorem pushRing1_recorderFits (id : Nat) (d : Deck) (g : Ring) (r : JRec) (s : State)
    (hs : RecorderFits s.recorder) : RecorderFits (pushRing1 id d g r s).2.recorder := by
  simp only [pushRing1]
  repeat' (first | (with_reducible assumption) | (with_reducible apply recordEvent_recorderFits)
                 | (with_reducible refine foldl_recorderFits _ (fun t x ht => ?_) _ _ ?_)
                 | (with_reducible refine foldl_snd_recorderFits _ (fun t x ht => ?_) _ _ ?_) | split | dsimp only | simp
                 | (unfold RecorderFits at *; simp_all; done) | (unfold RecorderFits at *; simp_all; omega))

theorem pushKeepers_recorderFits (id : Nat) (r : JRec) (s : State) (hs : RecorderFits s.recorder) : RecorderFits (pushKeepers id r s).recorder := by
  simp only [pushKeepers]
  repeat' (first | (with_reducible assumption) | (with_reducible apply pushRing1_recorderFits)
                 | (with_reducible refine foldl_recorderFits _ (fun t x ht => ?_) _ _ ?_)
                 | (with_reducible refine foldl_snd_recorderFits _ (fun t x ht => ?_) _ _ ?_) | split | dsimp only | simp
                 | (unfold RecorderFits at *; simp_all; done) | (unfold RecorderFits at *; simp_all; omega))

theorem appendGen_recorderFits (id : Nat) (gen : Nat) (body : JBody) (keep : Bool) (s : State)
    (hs : RecorderFits s.recorder) : RecorderFits (appendGen id gen body keep s).2.recorder := by
  simp only [appendGen]
  repeat' (first | (with_reducible assumption) | (with_reducible apply pushKeepers_recorderFits) | split | dsimp only | simp
                 | (unfold RecorderFits at *; simp_all; done) | (unfold RecorderFits at *; simp_all; omega))

theorem appendRec_recorderFits (id : Nat) (body : JBody) (keep : Bool) (s : State)
    (hs : RecorderFits s.recorder) : RecorderFits (appendRec id body keep s).2.recorder := by
  simp only [appendRec]
  repeat' (first | (with_reducible assumption) | (with_reducible apply appendGen_recorderFits) | split | dsimp only | simp
                 | (unfold RecorderFits at *; simp_all; done) | (unfold RecorderFits at *; simp_all; omega))

theorem progressRec_recorderFits (id : Nat) (p : Progress) (s : State) (hs : RecorderFits s.recorder) : RecorderFits (progressRec id p s).recorder := by
  simp only [progressRec]
  repeat' (first | (with_reducible assumption) | (with_reducible apply appendRec_recorderFits) | split | dsimp only | simp
                 | (unfold RecorderFits at *; simp_all; done) | (unfold RecorderFits at *; simp_all; omega))

theorem beginReplica_recorderFits (id : Nat) (mem : Nat) (s : State) (hs : RecorderFits s.recorder) : RecorderFits (beginReplica id mem s).recorder := by
  simp only [beginReplica]
  repeat' (first | (with_reducible assumption) | (with_reducible apply pushRing1_recorderFits)
                 | (with_reducible refine foldl_recorderFits _ (fun t x ht => ?_) _ _ ?_)
                 | (with_reducible refine foldl_snd_recorderFits _ (fun t x ht => ?_) _ _ ?_) | split | dsimp only | simp
                 | (unfold RecorderFits at *; simp_all; done) | (unfold RecorderFits at *; simp_all; omega))

theorem improveKeepers_recorderFits (id : Nat) (s : State) (hs : RecorderFits s.recorder) : RecorderFits (improveKeepers id s).recorder := by
  simp only [improveKeepers]
  repeat' (first | (with_reducible assumption) | (with_reducible apply beginReplica_recorderFits) | (with_reducible apply evalDeck_recorderFits)
                 | (with_reducible apply recordEvent_recorderFits) | split | dsimp only | simp | (unfold RecorderFits at *; simp_all; done)
                 | (unfold RecorderFits at *; simp_all; omega))

theorem closeTrim_recorderFits (id : Nat) (entries : Bool) (s : State) (hs : RecorderFits s.recorder) : RecorderFits (closeTrim id entries s).recorder := by
  simp only [closeTrim]
  repeat' (first | (with_reducible assumption) | (with_reducible apply appendRec_recorderFits) | split | dsimp only | simp
                 | (unfold RecorderFits at *; simp_all; done) | (unfold RecorderFits at *; simp_all; omega))

theorem releaseRec_recorderFits (id : Nat) (jseq : Nat) (s : State) (hs : RecorderFits s.recorder) : RecorderFits (releaseRec id jseq s).recorder := by
  simp only [releaseRec]
  repeat' (first | (with_reducible assumption) | (with_reducible apply closeTrim_recorderFits) | split | dsimp only | simp
                 | (unfold RecorderFits at *; simp_all; done) | (unfold RecorderFits at *; simp_all; omega))

theorem rewriteRing_recorderFits (id : Nat) (g : Ring) (s : State) (hs : RecorderFits s.recorder) : RecorderFits (rewriteRing id g s).recorder := by
  simp only [rewriteRing]
  repeat' (first | (with_reducible assumption) | (with_reducible apply pushRing1_recorderFits)
                 | (with_reducible refine foldl_recorderFits _ (fun t x ht => ?_) _ _ ?_)
                 | (with_reducible refine foldl_snd_recorderFits _ (fun t x ht => ?_) _ _ ?_) | split | dsimp only | simp
                 | (unfold RecorderFits at *; simp_all; done) | (unfold RecorderFits at *; simp_all; omega))

theorem dropKeeper_recorderFits (id : Nat) (mem : Nat) (s : State) (hs : RecorderFits s.recorder) : RecorderFits (dropKeeper id mem s).recorder := by
  simp only [dropKeeper]
  repeat' (first | (with_reducible assumption) | (with_reducible apply takeover_recorderFits) | (with_reducible apply beginReplica_recorderFits)
                 | (with_reducible apply evalDeck_recorderFits) | (with_reducible apply recordEvent_recorderFits) | split | dsimp only | simp
                 | (unfold RecorderFits at *; simp_all; done) | (unfold RecorderFits at *; simp_all; omega))

theorem retireKeeper_recorderFits (id : Nat) (new : Nat) (s : State) (hs : RecorderFits s.recorder) : RecorderFits (retireKeeper id new s).recorder := by
  simp only [retireKeeper]
  repeat' (first | (with_reducible assumption) | (with_reducible apply recordEvent_recorderFits) | split | dsimp only | simp
                 | (unfold RecorderFits at *; simp_all; done) | (unfold RecorderFits at *; simp_all; omega))

theorem closeBatchOf_recorderFits (id : Nat) (newGen : Bool) (s : State) (hs : RecorderFits s.recorder) : RecorderFits (closeBatchOf id newGen s).recorder := by
  simp only [closeBatchOf]
  repeat' (first | (with_reducible assumption) | (with_reducible apply appendGen_recorderFits) | split | dsimp only | simp
                 | (unfold RecorderFits at *; simp_all; done) | (unfold RecorderFits at *; simp_all; omega))

theorem closeBatch_recorderFits (id : Nat) (s : State) (hs : RecorderFits s.recorder) : RecorderFits (closeBatch id s).recorder := by
  simp only [closeBatch]
  repeat' (first | (with_reducible assumption) | (with_reducible apply closeBatchOf_recorderFits) | split | dsimp only | simp
                 | (unfold RecorderFits at *; simp_all; done) | (unfold RecorderFits at *; simp_all; omega))

theorem payDue_recorderFits (id : Nat) (s : State) (hs : RecorderFits s.recorder) : RecorderFits (payDue id s).recorder := by
  simp only [payDue]
  repeat' (first | (with_reducible assumption) | (with_reducible apply rewriteRing_recorderFits)
                 | (with_reducible refine foldl_recorderFits _ (fun t x ht => ?_) _ _ ?_)
                 | (with_reducible refine foldl_snd_recorderFits _ (fun t x ht => ?_) _ _ ?_) | split | dsimp only | simp
                 | (unfold RecorderFits at *; simp_all; done) | (unfold RecorderFits at *; simp_all; omega))

theorem releaseIntent_recorderFits (id : Nat) (wseq : Nat) (s : State) (hs : RecorderFits s.recorder) : RecorderFits (releaseIntent id wseq s).recorder := by
  simp only [releaseIntent]
  repeat' (first | (with_reducible assumption) | (with_reducible apply closeTrim_recorderFits) | (with_reducible apply releaseRec_recorderFits) | split
                 | dsimp only | simp | (unfold RecorderFits at *; simp_all; done) | (unfold RecorderFits at *; simp_all; omega))

theorem leavePending_recorderFits (x : Nat) (s : State) (hs : RecorderFits s.recorder) : RecorderFits (leavePending x s).recorder := by
  simp only [leavePending]
  repeat' (first | (with_reducible assumption) | (with_reducible apply recordEvent_recorderFits) | split | dsimp only | simp
                 | (unfold RecorderFits at *; simp_all; done) | (unfold RecorderFits at *; simp_all; omega))

theorem shelveDrive_recorderFits (x : Nat) (s : State) (hs : RecorderFits s.recorder) : RecorderFits (shelveDrive x s).recorder := by
  simp only [shelveDrive]
  repeat' (first | (with_reducible assumption) | (with_reducible apply leavePending_recorderFits) | split | dsimp only | simp
                 | (unfold RecorderFits at *; simp_all; done) | (unfold RecorderFits at *; simp_all; omega))

theorem trimData_recorderFits (id : Nat) (s : State) (hs : RecorderFits s.recorder) : RecorderFits (trimData id s).recorder := by
  simp only [trimData]
  repeat' (first | (with_reducible assumption) | (with_reducible apply releaseRec_recorderFits)
                 | (with_reducible refine foldl_recorderFits _ (fun t x ht => ?_) _ _ ?_)
                 | (with_reducible refine foldl_snd_recorderFits _ (fun t x ht => ?_) _ _ ?_) | split | dsimp only | simp
                 | (unfold RecorderFits at *; simp_all; done) | (unfold RecorderFits at *; simp_all; omega))

theorem enterPending_recorderFits (x : Nat) (s : State) (hs : RecorderFits s.recorder) : RecorderFits (enterPending x s).recorder := by
  simp only [enterPending]
  repeat' (first | (with_reducible assumption) | (with_reducible apply recordEvent_recorderFits) | split | dsimp only | simp
                 | (unfold RecorderFits at *; simp_all; done) | (unfold RecorderFits at *; simp_all; omega))

theorem judgePorts_recorderFits (x : Nat) (s : State) (hs : RecorderFits s.recorder) : RecorderFits (judgePorts x s).recorder := by
  simp only [judgePorts]
  repeat' (first | (with_reducible assumption) | (with_reducible apply enterPending_recorderFits) | (with_reducible apply leavePending_recorderFits)
                 | split | dsimp only | simp | (unfold RecorderFits at *; simp_all; done) | (unfold RecorderFits at *; simp_all; omega))

theorem endProgress_recorderFits (id : Nat) (op : Nat) (s : State) (hs : RecorderFits s.recorder) : RecorderFits (endProgress id op s).recorder := by
  simp only [endProgress]
  repeat' (first | (with_reducible assumption) | (with_reducible apply releaseRec_recorderFits)
                 | (with_reducible refine foldl_recorderFits _ (fun t x ht => ?_) _ _ ?_)
                 | (with_reducible refine foldl_snd_recorderFits _ (fun t x ht => ?_) _ _ ?_) | split | dsimp only | simp
                 | (unfold RecorderFits at *; simp_all; done) | (unfold RecorderFits at *; simp_all; omega))

theorem finishFirsts_recorderFits (id : Nat) (s : State) (hs : RecorderFits s.recorder) : RecorderFits (finishFirsts id s).recorder := by
  simp only [finishFirsts]
  repeat' (first | (with_reducible assumption) | (with_reducible apply trimData_recorderFits)
                 | (with_reducible refine foldl_recorderFits _ (fun t x ht => ?_) _ _ ?_)
                 | (with_reducible refine foldl_snd_recorderFits _ (fun t x ht => ?_) _ _ ?_) | split | dsimp only | simp
                 | (unfold RecorderFits at *; simp_all; done) | (unfold RecorderFits at *; simp_all; omega))

theorem abandonRedeal_recorderFits (id : Nat) (reason : Nat) (f : DeckLabel → DeckLabel) (s : State)
    (hs : RecorderFits s.recorder) : RecorderFits (abandonRedeal id reason f s).recorder := by
  simp only [abandonRedeal]
  repeat' (first | (with_reducible assumption) | (with_reducible apply finishFirsts_recorderFits) | (with_reducible apply endProgress_recorderFits)
                 | (with_reducible apply recordEvent_recorderFits) | (with_reducible apply releaseSlot_recorderFits)
                 | (with_reducible apply releaseRec_recorderFits) | (with_reducible refine foldl_recorderFits _ (fun t x ht => ?_) _ _ ?_)
                 | (with_reducible refine foldl_snd_recorderFits _ (fun t x ht => ?_) _ _ ?_) | split | dsimp only | simp
                 | (unfold RecorderFits at *; simp_all; done) | (unfold RecorderFits at *; simp_all; omega))

theorem rebuildRec_recorderFits (id : Nat) (s : State) (hs : RecorderFits s.recorder) : RecorderFits (rebuildRec id s).recorder := by
  simp only [rebuildRec]
  repeat' (first | (with_reducible assumption) | (with_reducible apply progressRec_recorderFits) | split | dsimp only | simp
                 | (unfold RecorderFits at *; simp_all; done) | (unfold RecorderFits at *; simp_all; omega))

theorem appendEntry_recorderFits (id : Nat) (mem : Nat) (s : State) (hs : RecorderFits s.recorder) : RecorderFits (appendEntry id mem s).recorder := by
  simp only [appendEntry]
  repeat' (first | (with_reducible assumption) | (with_reducible apply recordEvent_recorderFits) | split | dsimp only | simp
                 | (unfold RecorderFits at *; simp_all; done) | (unfold RecorderFits at *; simp_all; omega))

theorem settleRebuilt_recorderFits (id : Nat) (s : State) (hs : RecorderFits s.recorder) : RecorderFits (settleRebuilt id s).recorder := by
  simp only [settleRebuilt]
  repeat' (first | (with_reducible assumption) | (with_reducible apply recordEvent_recorderFits)
                 | (with_reducible refine foldl_recorderFits _ (fun t x ht => ?_) _ _ ?_)
                 | (with_reducible refine foldl_snd_recorderFits _ (fun t x ht => ?_) _ _ ?_) | split | dsimp only | simp
                 | (unfold RecorderFits at *; simp_all; done) | (unfold RecorderFits at *; simp_all; omega))

theorem replacementFails_recorderFits (id : Nat) (mem : Nat) (x : Nat) (s : State)
    (hs : RecorderFits s.recorder) : RecorderFits (replacementFails id mem x s).recorder := by
  simp only [replacementFails]
  repeat' (first | (with_reducible assumption) | (with_reducible apply endProgress_recorderFits) | (with_reducible apply settleRebuilt_recorderFits)
                 | (with_reducible apply recordEvent_recorderFits) | split | dsimp only | simp | (unfold RecorderFits at *; simp_all; done)
                 | (unfold RecorderFits at *; simp_all; omega))

theorem declareFailed_recorderFits (id : Nat) (mem : Nat) (s : State) (hs : RecorderFits s.recorder) : RecorderFits (declareFailed id mem s).recorder := by
  simp only [declareFailed]
  repeat' (first | (with_reducible assumption) | (with_reducible apply shelveDrive_recorderFits) | (with_reducible apply dropKeeper_recorderFits)
                 | (with_reducible apply appendEntry_recorderFits) | (with_reducible apply rebuildRec_recorderFits) | (with_reducible apply evalDeck_recorderFits)
                 | (with_reducible apply recordEvent_recorderFits) | (with_reducible apply abandonRedeal_recorderFits)
                 | (with_reducible apply replacementFails_recorderFits) | split | dsimp only | simp | (unfold RecorderFits at *; simp_all; done)
                 | (unfold RecorderFits at *; simp_all; omega))

theorem failSlot_recorderFits (x : Nat) (s : State) (hs : RecorderFits s.recorder) : RecorderFits (failSlot x s).recorder := by
  simp only [failSlot]
  repeat' (first | (with_reducible assumption) | (with_reducible apply declareFailed_recorderFits) | split | dsimp only | simp
                 | (unfold RecorderFits at *; simp_all; done) | (unfold RecorderFits at *; simp_all; omega))

theorem settleHealth_recorderFits (x : Nat) (s : State) (hs : RecorderFits s.recorder) : RecorderFits (settleHealth x s).recorder := by
  simp only [settleHealth]
  repeat' (first | (with_reducible assumption) | (with_reducible apply failSlot_recorderFits) | (with_reducible apply recordEvent_recorderFits) | split
                 | dsimp only | simp | (unfold RecorderFits at *; simp_all; done) | (unfold RecorderFits at *; simp_all; omega))

theorem settleAll_recorderFits (s : State) (hs : RecorderFits s.recorder) : RecorderFits (settleAll s).recorder := by
  simp only [settleAll]
  repeat' (first | (with_reducible assumption) | (with_reducible apply settleHealth_recorderFits)
                 | (with_reducible refine foldl_recorderFits _ (fun t x ht => ?_) _ _ ?_)
                 | (with_reducible refine foldl_snd_recorderFits _ (fun t x ht => ?_) _ _ ?_) | split | dsimp only | simp
                 | (unfold RecorderFits at *; simp_all; done) | (unfold RecorderFits at *; simp_all; omega))

theorem beginUpdate_recorderFits (id : Nat) (d : Deck) (hd : Nat) (key : Nat) (second : Bool) (parent : Nat) (nsid : Nat) (reconJseq : Nat) (recon : List Nat) (dataJ : Bool) (kind : UpdKind) (ch : List (Nat × Nat × Nat × Nat)) (s : State)
    (hs : RecorderFits s.recorder) : RecorderFits (beginUpdate id d hd key second parent nsid reconJseq recon dataJ kind ch s).recorder := by
  simp only [beginUpdate]
  repeat' (first | (with_reducible assumption) | (with_reducible apply closeBatch_recorderFits)
                 | (with_reducible refine foldl_recorderFits _ (fun t x ht => ?_) _ _ ?_)
                 | (with_reducible refine foldl_snd_recorderFits _ (fun t x ht => ?_) _ _ ?_) | split | dsimp only | simp
                 | (unfold RecorderFits at *; simp_all; done) | (unfold RecorderFits at *; simp_all; omega))

theorem settleStarts_recorderFits (id : Nat) (s : State) (hs : RecorderFits s.recorder) : RecorderFits (settleStarts id s).recorder := by
  simp only [settleStarts]
  repeat' (first | (with_reducible assumption) | (with_reducible apply beginUpdate_recorderFits)
                 | (with_reducible refine foldl_recorderFits _ (fun t x ht => ?_) _ _ ?_)
                 | (with_reducible refine foldl_snd_recorderFits _ (fun t x ht => ?_) _ _ ?_) | split | dsimp only | simp
                 | (unfold RecorderFits at *; simp_all; done) | (unfold RecorderFits at *; simp_all; omega))

theorem startUpdate_recorderFits (id : Nat) (hd : Nat) (v : Volume) (reads : List BlockRead) (s : State)
    (hs : RecorderFits s.recorder) : RecorderFits (startUpdate id hd v reads s).recorder := by
  simp only [startUpdate]
  repeat' (first | (with_reducible assumption) | (with_reducible apply settleStarts_recorderFits) | (with_reducible apply appendRec_recorderFits)
                 | (with_reducible apply beginUpdate_recorderFits) | (with_reducible refine foldl_recorderFits _ (fun t x ht => ?_) _ _ ?_)
                 | (with_reducible refine foldl_snd_recorderFits _ (fun t x ht => ?_) _ _ ?_) | split | dsimp only | simp
                 | (unfold RecorderFits at *; simp_all; done) | (unfold RecorderFits at *; simp_all; omega))

theorem startDuals_recorderFits (id : Nat) (s : State) (hs : RecorderFits s.recorder) : RecorderFits (startDuals id s).recorder := by
  simp only [startDuals]
  repeat' (first | (with_reducible assumption) | (with_reducible apply beginUpdate_recorderFits)
                 | (with_reducible refine foldl_recorderFits _ (fun t x ht => ?_) _ _ ?_)
                 | (with_reducible refine foldl_snd_recorderFits _ (fun t x ht => ?_) _ _ ?_) | split | dsimp only | simp
                 | (unfold RecorderFits at *; simp_all; done) | (unfold RecorderFits at *; simp_all; omega))

theorem durableIntent_recorderFits (id : Nat) (i : Intent) (s : State) (hs : RecorderFits s.recorder) : RecorderFits (durableIntent id i s).2.recorder := by
  simp only [durableIntent]
  repeat' (first | (with_reducible assumption) | (with_reducible apply appendGen_recorderFits) | split | dsimp only | simp
                 | (unfold RecorderFits at *; simp_all; done) | (unfold RecorderFits at *; simp_all; omega))

theorem failAbsent_recorderFits (id : Nat) (hd : Nat) (s : State) (hs : RecorderFits s.recorder) : RecorderFits (failAbsent id hd s).recorder := by
  simp only [failAbsent]
  repeat' (first | (with_reducible assumption) | (with_reducible apply declareFailed_recorderFits)
                 | (with_reducible refine foldl_recorderFits _ (fun t x ht => ?_) _ _ ?_)
                 | (with_reducible refine foldl_snd_recorderFits _ (fun t x ht => ?_) _ _ ?_) | split | dsimp only | simp
                 | (unfold RecorderFits at *; simp_all; done) | (unfold RecorderFits at *; simp_all; omega))

theorem listLost_recorderFits (id : Nat) (u : HandUpd) (reads : List BlockRead) (s : State)
    (hs : RecorderFits s.recorder) : RecorderFits (listLost id u reads s).2.2.recorder := by
  simp only [listLost]
  repeat' (first | (with_reducible assumption) | (with_reducible apply durableIntent_recorderFits) | (with_reducible apply listPages_recorderFits)
                 | (with_reducible apply releaseIntent_recorderFits) | split | dsimp only | simp | (unfold RecorderFits at *; simp_all; done)
                 | (unfold RecorderFits at *; simp_all; omega))

theorem chargeTags_recorderFits (d : Deck) (hd : Nat) (row : Nat) (reads : List BlockRead) (s : State)
    (hs : RecorderFits s.recorder) : RecorderFits (chargeTags d hd row reads s).recorder := by
  simp only [chargeTags]
  repeat' (first | (with_reducible assumption) | (with_reducible apply chargeTag_recorderFits)
                 | (with_reducible refine foldl_recorderFits _ (fun t x ht => ?_) _ _ ?_)
                 | (with_reducible refine foldl_snd_recorderFits _ (fun t x ht => ?_) _ _ ?_) | split | dsimp only | simp
                 | (unfold RecorderFits at *; simp_all; done) | (unfold RecorderFits at *; simp_all; omega))

theorem relist_recorderFits (u : HandUpd) (s : State) (hs : RecorderFits s.recorder) : RecorderFits (relist u s).recorder := by
  simp only [relist]
  repeat' (first | (with_reducible assumption) | (with_reducible apply clearPages_recorderFits) | (with_reducible apply listPages_recorderFits) | split
                 | dsimp only | simp | (unfold RecorderFits at *; simp_all; done) | (unfold RecorderFits at *; simp_all; omega))

theorem issueUpdate_recorderFits (id : Nat) (u : HandUpd) (reads : List BlockRead) (s0 : State)
    (hs : RecorderFits s0.recorder) : RecorderFits (issueUpdate id u reads s0).recorder := by
  simp only [issueUpdate]
  repeat' (first | (with_reducible assumption) | (with_reducible apply listLost_recorderFits) | (with_reducible apply relist_recorderFits)
                 | (with_reducible refine foldl_recorderFits _ (fun t x ht => ?_) _ _ ?_)
                 | (with_reducible refine foldl_snd_recorderFits _ (fun t x ht => ?_) _ _ ?_) | split | dsimp only | simp
                 | (unfold RecorderFits at *; simp_all; done) | (unfold RecorderFits at *; simp_all; omega))

theorem haltAt_recorderFits (ref : CmdRef) (reason : Nat) (info : Nat) (s : State)
    (hs : RecorderFits s.recorder) : RecorderFits (haltAt ref reason info s).recorder := by
  simp only [haltAt]
  repeat' (first | (with_reducible assumption) | (with_reducible apply haltAs_recorderFits)
                 | (with_reducible refine foldl_recorderFits _ (fun t x ht => ?_) _ _ ?_)
                 | (with_reducible refine foldl_snd_recorderFits _ (fun t x ht => ?_) _ _ ?_) | split | dsimp only | simp
                 | (unfold RecorderFits at *; simp_all; done) | (unfold RecorderFits at *; simp_all; omega))

theorem failPi_recorderFits (ref : CmdRef) (e : PiError) (s : State) (hs : RecorderFits s.recorder) : RecorderFits (failPi ref e s).recorder := by
  simp only [failPi]
  repeat' (first | (with_reducible assumption) | (with_reducible apply recordEvent_recorderFits) | split | dsimp only | simp
                 | (unfold RecorderFits at *; simp_all; done) | (unfold RecorderFits at *; simp_all; omega))

theorem finishRead_recorderFits (j : ReadJob) (s : State) (hs : RecorderFits s.recorder) : RecorderFits (finishRead j s).recorder := by
  simp only [finishRead]
  split
  · simpa using hs
  · split
    · exact failPi_recorderFits _ _ _ hs
    · split
      · split
        · simpa using hs
        · simpa using hs
      · split
        · simpa using hs
        · split
          · split <;> exact hs
          · rename_i u hu
            have hf := deliverRead_frame _ _ _ _ hu
            simpa [hf] using hs

theorem servePage_recorderFits (ns : Nat) (v : Volume) (d : Deck) (vpage : Nat) (data : Bytes) (s : State)
    (hs : RecorderFits s.recorder) : RecorderFits (servePage ns v d vpage data s).recorder := by
  simp only [servePage]
  repeat' (first | (with_reducible assumption) | (with_reducible apply finishRead_recorderFits)
                 | (with_reducible refine foldl_recorderFits _ (fun t x ht => ?_) _ _ ?_)
                 | (with_reducible refine foldl_snd_recorderFits _ (fun t x ht => ?_) _ _ ?_) | split | dsimp only | simp
                 | (unfold RecorderFits at *; simp_all; done) | (unfold RecorderFits at *; simp_all; omega))

theorem startRead_recorderFits (a : IoArgs) (v : Volume) (d : Deck) (compare : Option (Bytes × Bytes)) (toHost : Bool) (s : State)
    (hs : RecorderFits s.recorder) : RecorderFits (startRead a v d compare toHost s).recorder := by
  simp only [startRead]
  repeat' (first | (with_reducible assumption) | (with_reducible apply finishRead_recorderFits)
                 | (with_reducible refine foldl_recorderFits _ (fun t x ht => ?_) _ _ ?_)
                 | (with_reducible refine foldl_snd_recorderFits _ (fun t x ht => ?_) _ _ ?_) | split | dsimp only | simp
                 | (unfold RecorderFits at *; simp_all; done) | (unfold RecorderFits at *; simp_all; omega))

theorem tryStage_recorderFits (ref : CmdRef) (parts : List PagePart) (s : State) (hs : RecorderFits s.recorder) : RecorderFits (tryStage ref parts s).recorder := by
  simp only [tryStage]
  repeat' (first | (with_reducible assumption) | (with_reducible apply noteWait_recorderFits) | split | dsimp only | simp
                 | (unfold RecorderFits at *; simp_all; done) | (unfold RecorderFits at *; simp_all; omega))

theorem beginWrite_recorderFits (ref : CmdRef) (nsid : Nat) (parts : List PagePart) (s : State)
    (hs : RecorderFits s.recorder) : RecorderFits (beginWrite ref nsid parts s).recorder := by
  simp only [beginWrite]
  repeat' (first | (with_reducible assumption) | (with_reducible apply tryStage_recorderFits) | split | dsimp only | simp
                 | (unfold RecorderFits at *; simp_all; done) | (unfold RecorderFits at *; simp_all; omega))

theorem readLike_recorderFits (a : IoArgs) (compare : Option (Bytes × Bytes)) (toHost : Bool) (s : State)
    (hs : RecorderFits s.recorder) : RecorderFits (readLike a compare toHost s).recorder := by
  simp only [readLike, afterPtr]
  repeat' (first | (with_reducible assumption) | (with_reducible apply haltAt_recorderFits) | (with_reducible apply startRead_recorderFits) | split
                 | dsimp only | simp | (unfold RecorderFits at *; simp_all; done) | (unfold RecorderFits at *; simp_all; omega))

theorem takeFill_recorderFits (ns : Nat) (id : Nat) (d : Deck) (v : Volume) (vpage : Nat) (at_ : Nat × Nat × Nat) (reads : List BlockRead) (s : State)
    (hs : RecorderFits s.recorder) : RecorderFits (takeFill ns id d v vpage at_ reads s).recorder := by
  simp only [takeFill]
  repeat' (first | (with_reducible assumption) | (with_reducible apply servePage_recorderFits) | (with_reducible apply chargeTags_recorderFits) | split
                 | dsimp only | simp | (unfold RecorderFits at *; simp_all; done) | (unfold RecorderFits at *; simp_all; omega))

theorem chargeReads_recorderFits (d : Deck) (hd : Nat) (reads : List BlockRead) (s : State)
    (hs : RecorderFits s.recorder) : RecorderFits (chargeReads d hd reads s).recorder := by
  simp only [chargeReads]
  repeat' (first | (with_reducible assumption) | (with_reducible apply chargeMedia_recorderFits) | (with_reducible apply chargeTag_recorderFits)
                 | (with_reducible refine foldl_recorderFits _ (fun t x ht => ?_) _ _ ?_)
                 | (with_reducible refine foldl_snd_recorderFits _ (fun t x ht => ?_) _ _ ?_) | split | dsimp only | simp
                 | (unfold RecorderFits at *; simp_all; done) | (unfold RecorderFits at *; simp_all; omega))

theorem listRow_recorderFits (id : Nat) (d : Deck) (hd : Nat) (row : Nat) (lost : List Nat) (s : State)
    (hs : RecorderFits s.recorder) : RecorderFits (listRow id d hd row lost s).2.recorder := by
  simp only [listRow]
  repeat' (first | (with_reducible assumption) | (with_reducible apply listPages_recorderFits) | split | dsimp only | simp
                 | (unfold RecorderFits at *; simp_all; done) | (unfold RecorderFits at *; simp_all; omega))

theorem consistRow_recorderFits (id : Nat) (hd : Nat) (row : Nat) (stead : Option (Nat × MemberEntry)) (have_ : RowBlocks) (lost : List Nat) (s : State)
    (hs : RecorderFits s.recorder) : RecorderFits (consistRow id hd row stead have_ lost s).2.recorder := by
  simp only [consistRow]
  repeat' (first | (with_reducible assumption) | (with_reducible apply durableIntent_recorderFits) | (with_reducible apply releaseIntent_recorderFits)
                 | (with_reducible apply listRow_recorderFits) | split | dsimp only | simp | (unfold RecorderFits at *; simp_all; done)
                 | (unfold RecorderFits at *; simp_all; omega))

theorem replayRow_recorderFits (id : Nat) (i : Intent) (reads : List BlockRead) (listed : Bool) (s : State) (row : Nat)
    (hs : RecorderFits s.recorder) : RecorderFits (replayRow id i reads listed s row).recorder := by
  simp only [replayRow]
  repeat' (first | (with_reducible assumption) | (with_reducible apply consistRow_recorderFits) | split | dsimp only | simp
                 | (unfold RecorderFits at *; simp_all; done) | (unfold RecorderFits at *; simp_all; omega))

theorem listUnsourced_recorderFits (id : Nat) (d : Deck) (ld : Deck) (i : Intent) (s : State)
    (hs : RecorderFits s.recorder) : RecorderFits (listUnsourced id d ld i s).2.recorder := by
  simp only [listUnsourced]
  repeat' (first | (with_reducible assumption) | (with_reducible apply listPages_recorderFits) | (with_reducible apply recordEvent_recorderFits) | split
                 | dsimp only | simp | (unfold RecorderFits at *; simp_all; done) | (unfold RecorderFits at *; simp_all; omega))

theorem beginResync_recorderFits (id : Nat) (s : State) (hs : RecorderFits s.recorder) : RecorderFits (beginResync id s).recorder := by
  simp only [beginResync]
  repeat' (first | (with_reducible assumption) | (with_reducible apply recordEvent_recorderFits) | (with_reducible apply progressRec_recorderFits) | split
                 | dsimp only | simp | (unfold RecorderFits at *; simp_all; done) | (unfold RecorderFits at *; simp_all; omega))

theorem resyncIfDue_recorderFits (id : Nat) (s : State) (hs : RecorderFits s.recorder) : RecorderFits (resyncIfDue id s).recorder := by
  simp only [resyncIfDue]
  repeat' (first | (with_reducible assumption) | (with_reducible apply beginResync_recorderFits) | split | dsimp only | simp
                 | (unfold RecorderFits at *; simp_all; done) | (unfold RecorderFits at *; simp_all; omega))

theorem replayIntent_recorderFits (deck : Nat) (i : Intent) (reads : List BlockRead) (s : State)
    (hs : RecorderFits s.recorder) : RecorderFits (replayIntent deck i reads s).recorder := by
  simp only [replayIntent]
  repeat' (first | (with_reducible assumption) | (with_reducible apply chargeReads_recorderFits) | (with_reducible apply replayRow_recorderFits)
                 | (with_reducible apply listUnsourced_recorderFits) | (with_reducible apply resyncIfDue_recorderFits)
                 | (with_reducible apply releaseIntent_recorderFits) | (with_reducible refine foldl_recorderFits _ (fun t x ht => ?_) _ _ ?_)
                 | (with_reducible refine foldl_snd_recorderFits _ (fun t x ht => ?_) _ _ ?_) | split | dsimp only | simp
                 | (unfold RecorderFits at *; simp_all; done) | (unfold RecorderFits at *; simp_all; omega))

theorem rebuildRow_recorderFits (id : Nat) (hd : Nat) (cs : List Nat) (reads : List BlockRead) (acc : Bool × State) (row : Nat)
    (hs : RecorderFits acc.2.recorder) : RecorderFits (rebuildRow id hd cs reads acc row).2.recorder := by
  simp only [rebuildRow]
  repeat' (first | (with_reducible assumption) | (with_reducible apply consistRow_recorderFits) | split | dsimp only | simp
                 | (unfold RecorderFits at *; simp_all; done) | (unfold RecorderFits at *; simp_all; omega))

theorem rebuildHand_recorderFits (deck : Nat) (hand : Nat) (cs : List Nat) (reads : List BlockRead) (s : State)
    (hs : RecorderFits s.recorder) : RecorderFits (rebuildHand deck hand cs reads s).recorder := by
  simp only [rebuildHand]
  repeat' (first | (with_reducible assumption) | (with_reducible apply chargeReads_recorderFits) | (with_reducible apply rebuildRow_recorderFits)
                 | (with_reducible apply evalDeck_recorderFits) | (with_reducible refine foldl_recorderFits _ (fun t x ht => ?_) _ _ ?_)
                 | (with_reducible refine foldl_snd_recorderFits _ (fun t x ht => ?_) _ _ ?_) | split | dsimp only | simp
                 | (unfold RecorderFits at *; simp_all; done) | (unfold RecorderFits at *; simp_all; omega))

theorem beginCopyback_recorderFits (id : Nat) (x : Nat) (s : State) (hs : RecorderFits s.recorder) : RecorderFits (beginCopyback id x s).recorder := by
  simp only [beginCopyback]
  repeat' (first | (with_reducible assumption) | (with_reducible apply recordEvent_recorderFits) | split | dsimp only | simp
                 | (unfold RecorderFits at *; simp_all; done) | (unfold RecorderFits at *; simp_all; omega))

theorem startRecorded_recorderFits (id : Nat) (s : State) (hs : RecorderFits s.recorder) : RecorderFits (startRecorded id s).recorder := by
  simp only [startRecorded]
  repeat' (first | (with_reducible assumption) | (with_reducible apply beginCopyback_recorderFits) | split | dsimp only | simp
                 | (unfold RecorderFits at *; simp_all; done) | (unfold RecorderFits at *; simp_all; omega))

theorem copyRow_recorderFits (id : Nat) (hd : Nat) (c : Nat) (e : MemberEntry) (reads : List BlockRead) (acc : Bool × State) (row : Nat)
    (hs : RecorderFits acc.2.recorder) : RecorderFits (copyRow id hd c e reads acc row).2.recorder := by
  simp only [copyRow]
  repeat' (first | (with_reducible assumption) | (with_reducible apply consistRow_recorderFits) | split | dsimp only | simp
                 | (unfold RecorderFits at *; simp_all; done) | (unfold RecorderFits at *; simp_all; omega))

theorem scanHand_recorderFits (id : Nat) (hd : Nat) (s : State) (hs : RecorderFits s.recorder) : RecorderFits (scanHand id hd s).recorder := by
  simp only [scanHand]
  repeat' (first | (with_reducible assumption) | (with_reducible apply durableIntent_recorderFits) | (with_reducible apply listPages_recorderFits)
                 | (with_reducible apply releaseIntent_recorderFits) | split | dsimp only | simp | (unfold RecorderFits at *; simp_all; done)
                 | (unfold RecorderFits at *; simp_all; omega))

theorem scanStep_recorderFits (id : Nat) (acc : Bool × State) (hd : Nat) (hs : RecorderFits acc.2.recorder) : RecorderFits (scanStep id acc hd).2.recorder := by
  simp only [scanStep]
  repeat' (first | (with_reducible assumption) | (with_reducible apply scanHand_recorderFits) | split | dsimp only | simp
                 | (unfold RecorderFits at *; simp_all; done) | (unfold RecorderFits at *; simp_all; omega))

theorem endCopyback_recorderFits (id : Nat) (mem : Nat) (x : Nat) (s : State) (hs : RecorderFits s.recorder) : RecorderFits (endCopyback id mem x s).recorder := by
  simp only [endCopyback]
  repeat' (first | (with_reducible assumption) | (with_reducible apply improveKeepers_recorderFits) | (with_reducible apply endProgress_recorderFits)
                 | (with_reducible apply rebuildRec_recorderFits) | (with_reducible apply recordEvent_recorderFits) | split | dsimp only | simp
                 | (unfold RecorderFits at *; simp_all; done) | (unfold RecorderFits at *; simp_all; omega))

theorem endResync_recorderFits (id : Nat) (s : State) (hs : RecorderFits s.recorder) : RecorderFits (endResync id s).recorder := by
  simp only [endResync]
  repeat' (first | (with_reducible assumption) | (with_reducible apply endProgress_recorderFits) | (with_reducible apply recordEvent_recorderFits) | split
                 | dsimp only | simp | (unfold RecorderFits at *; simp_all; done) | (unfold RecorderFits at *; simp_all; omega))

theorem resyncRow_recorderFits (id : Nat) (hd : Nat) (reads : List BlockRead) (s : State) (row : Nat)
    (hs : RecorderFits s.recorder) : RecorderFits (resyncRow id hd reads s row).recorder := by
  simp only [resyncRow]
  repeat' (first | (with_reducible assumption) | (with_reducible apply consistRow_recorderFits) | split | dsimp only | simp
                 | (unfold RecorderFits at *; simp_all; done) | (unfold RecorderFits at *; simp_all; omega))

theorem resyncHand_recorderFits (deck : Nat) (hand : Nat) (wm : Nat) (started : BitVec 64) (reads : List BlockRead) (s : State)
    (hs : RecorderFits s.recorder) : RecorderFits (resyncHand deck hand wm started reads s).recorder := by
  simp only [resyncHand]
  repeat' (first | (with_reducible assumption) | (with_reducible apply chargeReads_recorderFits) | (with_reducible apply resyncRow_recorderFits)
                 | (with_reducible apply settleAll_recorderFits) | (with_reducible apply endResync_recorderFits) | (with_reducible apply evalDeck_recorderFits)
                 | (with_reducible apply progressRec_recorderFits) | (with_reducible refine foldl_recorderFits _ (fun t x ht => ?_) _ _ ?_)
                 | (with_reducible refine foldl_snd_recorderFits _ (fun t x ht => ?_) _ _ ?_) | split | dsimp only | simp
                 | (unfold RecorderFits at *; simp_all; done) | (unfold RecorderFits at *; simp_all; omega))

theorem addFinding_recorderFits (id : Nat) (hd : Nat) (row : Nat) (code : Nat) (chunk : Nat) (action : Nat) (fromHost : Bool) (s : State)
    (hs : RecorderFits s.recorder) : RecorderFits (addFinding id hd row code chunk action fromHost s).recorder := by
  simp only [addFinding]
  repeat' (first | (with_reducible assumption) | (with_reducible apply recordEvent_recorderFits) | (with_reducible apply charge_recorderFits) | split
                 | dsimp only | simp | (unfold RecorderFits at *; simp_all; done) | (unfold RecorderFits at *; simp_all; omega))

theorem repairBlocks_recorderFits (id : Nat) (hd : Nat) (row : Nat) (bs : RowBlocks) (reads : List BlockRead) (ss : List ParityStream) (s : State)
    (hs : RecorderFits s.recorder) : RecorderFits (repairBlocks id hd row bs reads ss s).recorder := by
  simp only [repairBlocks]
  repeat' (first | (with_reducible assumption) | (with_reducible apply durableIntent_recorderFits) | (with_reducible apply releaseIntent_recorderFits)
                 | split | dsimp only | simp | (unfold RecorderFits at *; simp_all; done) | (unfold RecorderFits at *; simp_all; omega))

theorem repairRead_recorderFits (id : Nat) (hd : Nat) (row : Nat) (chunk : Nat) (code : Nat) (reads : List BlockRead) (s : State)
    (hs : RecorderFits s.recorder) : RecorderFits (repairRead id hd row chunk code reads s).recorder := by
  simp only [repairRead]
  repeat' (first | (with_reducible assumption) | (with_reducible apply consistRow_recorderFits) | (with_reducible apply evalDeck_recorderFits)
                 | (with_reducible apply addFinding_recorderFits) | (with_reducible apply repairBlocks_recorderFits) | split | dsimp only | simp
                 | (unfold RecorderFits at *; simp_all; done) | (unfold RecorderFits at *; simp_all; omega))

theorem mendSurvivors_recorderFits (id : Nat) (hd : Nat) (reads : List BlockRead) (s : State) (row : Nat)
    (hs : RecorderFits s.recorder) : RecorderFits (mendSurvivors id hd reads s row).recorder := by
  simp only [mendSurvivors, withLock]
  repeat' (first | (with_reducible assumption) | (with_reducible apply repairRead_recorderFits)
                 | (with_reducible refine foldl_recorderFits _ (fun t x ht => ?_) _ _ ?_)
                 | (with_reducible refine foldl_snd_recorderFits _ (fun t x ht => ?_) _ _ ?_) | split | dsimp only | simp
                 | (unfold RecorderFits at *; simp_all; done) | (unfold RecorderFits at *; simp_all; omega))

theorem finishScanRow_recorderFits (id : Nat) (hd : Nat) (i : Intent) (reads : List BlockRead) (s : State) (row : Nat)
    (hs : RecorderFits s.recorder) : RecorderFits (finishScanRow id hd i reads s row).recorder := by
  simp only [finishScanRow]
  repeat' (first | (with_reducible assumption) | (with_reducible apply consistRow_recorderFits) | split | dsimp only | simp
                 | (unfold RecorderFits at *; simp_all; done) | (unfold RecorderFits at *; simp_all; omega))

theorem finishScanHand_recorderFits (id : Nat) (hd : Nat) (i : Intent) (reads : List BlockRead) (s : State)
    (hs : RecorderFits s.recorder) : RecorderFits (finishScanHand id hd i reads s).recorder := by
  simp only [finishScanHand]
  repeat' (first | (with_reducible assumption) | (with_reducible apply finishScanRow_recorderFits) | (with_reducible apply releaseIntent_recorderFits)
                 | (with_reducible refine foldl_recorderFits _ (fun t x ht => ?_) _ _ ?_)
                 | (with_reducible refine foldl_snd_recorderFits _ (fun t x ht => ?_) _ _ ?_) | split | dsimp only | simp
                 | (unfold RecorderFits at *; simp_all; done) | (unfold RecorderFits at *; simp_all; omega))

theorem setHold_recorderFits (ref : CmdRef) (deckId : Nat) (hold : Bool) (s : State)
    (hs : RecorderFits s.recorder) : RecorderFits (setHold ref deckId hold s).recorder := by
  simp only [setHold]
  repeat' (first | (with_reducible assumption) | (with_reducible apply startRecorded_recorderFits) | (with_reducible apply evalDeck_recorderFits)
                 | (with_reducible apply recordEvent_recorderFits) | split | dsimp only | simp | (unfold RecorderFits at *; simp_all; done)
                 | (unfold RecorderFits at *; simp_all; omega))

theorem copyRound_recorderFits (deck : Nat) (fe : FailEntry) (e : MemberEntry) (todo : List (Nat × Nat)) (reads : List (Nat × List BlockRead)) (s : State)
    (hs : RecorderFits s.recorder) : RecorderFits (copyRound deck fe e todo reads s).recorder := by
  simp only [copyRound]
  repeat' (first | (with_reducible assumption) | (with_reducible apply chargeReads_recorderFits) | (with_reducible apply settleAll_recorderFits)
                 | (with_reducible apply endCopyback_recorderFits) | (with_reducible apply copyRow_recorderFits) | (with_reducible apply evalDeck_recorderFits)
                 | (with_reducible refine foldl_recorderFits _ (fun t x ht => ?_) _ _ ?_)
                 | (with_reducible refine foldl_snd_recorderFits _ (fun t x ht => ?_) _ _ ?_) | split | dsimp only | simp
                 | (unfold RecorderFits at *; simp_all; done) | (unfold RecorderFits at *; simp_all; omega))

theorem addFindings_recorderFits (id : Nat) (hd : Nat) (row : Nat) (action : Nat) (fs : List (Nat × Nat)) (s : State)
    (hs : RecorderFits s.recorder) : RecorderFits (addFindings id hd row action fs s).recorder := by
  simp only [addFindings]
  repeat' (first | (with_reducible assumption) | (with_reducible apply addFinding_recorderFits)
                 | (with_reducible refine foldl_recorderFits _ (fun t x ht => ?_) _ _ ?_)
                 | (with_reducible refine foldl_snd_recorderFits _ (fun t x ht => ?_) _ _ ?_) | split | dsimp only | simp
                 | (unfold RecorderFits at *; simp_all; done) | (unfold RecorderFits at *; simp_all; omega))

theorem mendRow_recorderFits (deck : Nat) (hand : Nat) (row : Nat) (sus : Nat × Nat × List (Nat × Nat)) (reads : List BlockRead) (s : State)
    (hs : RecorderFits s.recorder) : RecorderFits (mendRow deck hand row sus reads s).recorder := by
  simp only [mendRow]
  repeat' (first | (with_reducible assumption) | (with_reducible apply consistRow_recorderFits) | (with_reducible apply settleAll_recorderFits)
                 | (with_reducible apply addFindings_recorderFits) | (with_reducible apply evalDeck_recorderFits)
                 | (with_reducible apply repairBlocks_recorderFits) | split | dsimp only | simp | (unfold RecorderFits at *; simp_all; done)
                 | (unfold RecorderFits at *; simp_all; omega))

theorem endPass_recorderFits (id : Nat) (s : State) (hs : RecorderFits s.recorder) : RecorderFits (endPass id s).recorder := by
  simp only [endPass]
  repeat' (first | (with_reducible assumption) | (with_reducible apply recordEvent_recorderFits) | split | dsimp only | simp
                 | (unfold RecorderFits at *; simp_all; done) | (unfold RecorderFits at *; simp_all; omega))

theorem stepCursor_recorderFits (id : Nat) (hd : Nat) (row : Nat) (s : State) (hs : RecorderFits s.recorder) : RecorderFits (stepCursor id hd row s).recorder := by
  simp only [stepCursor]
  repeat' (first | (with_reducible assumption) | (with_reducible apply endPass_recorderFits) | split | dsimp only | simp
                 | (unfold RecorderFits at *; simp_all; done) | (unfold RecorderFits at *; simp_all; omega))

theorem beginPass_recorderFits (id : Nat) (s : State) (hs : RecorderFits s.recorder) : RecorderFits (beginPass id s).recorder := by
  simp only [beginPass]
  repeat' (first | (with_reducible assumption) | (with_reducible apply recordEvent_recorderFits) | split | dsimp only | simp
                 | (unfold RecorderFits at *; simp_all; done) | (unfold RecorderFits at *; simp_all; omega))

theorem checkRow_recorderFits (deck : Nat) (hand : Nat) (row : Nat) (reads : List BlockRead) (s : State)
    (hs : RecorderFits s.recorder) : RecorderFits (checkRow deck hand row reads s).recorder := by
  simp only [checkRow]
  repeat' (first | (with_reducible assumption) | (with_reducible apply chargeReads_recorderFits) | (with_reducible apply settleAll_recorderFits)
                 | (with_reducible apply addFindings_recorderFits) | (with_reducible apply stepCursor_recorderFits) | split | dsimp only | simp
                 | (unfold RecorderFits at *; simp_all; done) | (unfold RecorderFits at *; simp_all; omega))

theorem patrolRec_recorderFits (id : Nat) (s : State) (hs : RecorderFits s.recorder) : RecorderFits (patrolRec id s).recorder := by
  simp only [patrolRec]
  repeat' (first | (with_reducible assumption) | (with_reducible apply progressRec_recorderFits) | split | dsimp only | simp
                 | (unfold RecorderFits at *; simp_all; done) | (unfold RecorderFits at *; simp_all; omega))

theorem commitSwitch_recorderFits (id : Nat) (d : Deck) (nd : Deck) (r : RedealField) (run : RedealRun) (s : State)
    (hs : RecorderFits s.recorder) : RecorderFits (commitSwitch id d nd r run s).recorder := by
  simp only [commitSwitch]
  repeat' (first | (with_reducible assumption) | (with_reducible apply endProgress_recorderFits) | (with_reducible apply beginPass_recorderFits)
                 | (with_reducible apply evalDeck_recorderFits) | (with_reducible apply recordEvent_recorderFits)
                 | (with_reducible refine foldl_recorderFits _ (fun t x ht => ?_) _ _ ?_)
                 | (with_reducible refine foldl_snd_recorderFits _ (fun t x ht => ?_) _ _ ?_) | split | dsimp only | simp
                 | (unfold RecorderFits at *; simp_all; done) | (unfold RecorderFits at *; simp_all; omega))

theorem pushDrain_recorderFits (id : Nat) (s : State) (hs : RecorderFits s.recorder) : RecorderFits (pushDrain id s).recorder := by
  simp only [pushDrain]
  repeat' (first | (with_reducible assumption) | (with_reducible apply closeTrim_recorderFits)
                 | (with_reducible refine foldl_recorderFits _ (fun t x ht => ?_) _ _ ?_)
                 | (with_reducible refine foldl_snd_recorderFits _ (fun t x ht => ?_) _ _ ?_) | split | dsimp only | simp
                 | (unfold RecorderFits at *; simp_all; done) | (unfold RecorderFits at *; simp_all; omega))

theorem copyHand_recorderFits (deck : Nat) (nsid : Nat) (vhand : Nat) (hd : Nat) (r : RedealField) (run : RedealRun) (nd : Deck) (v : Volume) (reads : List (Nat × List BlockRead)) (ws : List WaitWrite) (s : State)
    (hs : RecorderFits s.recorder) : RecorderFits (copyHand deck nsid vhand hd r run nd v reads ws s).recorder := by
  simp only [copyHand]
  repeat' (first | (with_reducible assumption) | (with_reducible apply chargeReads_recorderFits) | (with_reducible apply settleAll_recorderFits)
                 | (with_reducible refine foldl_recorderFits _ (fun t x ht => ?_) _ _ ?_)
                 | (with_reducible refine foldl_snd_recorderFits _ (fun t x ht => ?_) _ _ ?_) | split | dsimp only | simp
                 | (unfold RecorderFits at *; simp_all; done) | (unfold RecorderFits at *; simp_all; omega))

theorem redealRec_recorderFits (id : Nat) (s : State) (hs : RecorderFits s.recorder) : RecorderFits (redealRec id s).recorder := by
  simp only [redealRec]
  repeat' (first | (with_reducible assumption) | (with_reducible apply progressRec_recorderFits) | split | dsimp only | simp
                 | (unfold RecorderFits at *; simp_all; done) | (unfold RecorderFits at *; simp_all; omega))

theorem beginDrain_recorderFits (id : Nat) (s : State) (hs : RecorderFits s.recorder) : RecorderFits (beginDrain id s).recorder := by
  simp only [beginDrain]
  repeat' (first | (with_reducible assumption) | (with_reducible apply redealRec_recorderFits) | split | dsimp only | simp
                 | (unfold RecorderFits at *; simp_all; done) | (unfold RecorderFits at *; simp_all; omega))

theorem setClass_recorderFits (x : Nat) (c : DriveClass) (at_ : Option (Nat × Nat)) (s : State)
    (hs : RecorderFits s.recorder) : RecorderFits (setClass x c at_ s).recorder := by
  simp only [setClass]
  repeat' (first | (with_reducible assumption) | (with_reducible apply recordEvent_recorderFits) | split | dsimp only | simp
                 | (unfold RecorderFits at *; simp_all; done) | (unfold RecorderFits at *; simp_all; omega))

theorem seatMembers_recorderFits (id : Nat) (members : List MemberEntry) (s : State)
    (hs : RecorderFits s.recorder) : RecorderFits (seatMembers id members s).recorder := by
  simp only [seatMembers]
  repeat' (first | (with_reducible assumption) | (with_reducible apply setClass_recorderFits)
                 | (with_reducible refine foldl_recorderFits _ (fun t x ht => ?_) _ _ ?_)
                 | (with_reducible refine foldl_snd_recorderFits _ (fun t x ht => ?_) _ _ ?_) | split | dsimp only | simp
                 | (unfold RecorderFits at *; simp_all; done) | (unfold RecorderFits at *; simp_all; omega))

theorem assembleDeck_recorderFits (s : State) (u : Uuid) (hs : RecorderFits s.recorder) : RecorderFits (assembleDeck s u).recorder := by
  simp only [assembleDeck]
  repeat' (first | (with_reducible assumption) | (with_reducible apply seatMembers_recorderFits) | (with_reducible apply setClass_recorderFits)
                 | (with_reducible apply evalDeck_recorderFits) | (with_reducible refine foldl_recorderFits _ (fun t x ht => ?_) _ _ ?_)
                 | (with_reducible refine foldl_snd_recorderFits _ (fun t x ht => ?_) _ _ ?_) | split | dsimp only | simp
                 | (unfold RecorderFits at *; simp_all; done) | (unfold RecorderFits at *; simp_all; omega))

theorem closeWindow_recorderFits (s : State) (hs : RecorderFits s.recorder) : RecorderFits (closeWindow s).recorder := by
  simp only [closeWindow]
  repeat' (first | (with_reducible assumption) | (with_reducible apply setClass_recorderFits) | (with_reducible apply assembleDeck_recorderFits)
                 | (with_reducible refine foldl_recorderFits _ (fun t x ht => ?_) _ _ ?_)
                 | (with_reducible refine foldl_snd_recorderFits _ (fun t x ht => ?_) _ _ ?_) | split | dsimp only | simp
                 | (unfold RecorderFits at *; simp_all; done) | (unfold RecorderFits at *; simp_all; omega))

theorem windowEnd_recorderFits (s : State) (hs : RecorderFits s.recorder) : RecorderFits (windowEnd s).recorder := by
  simp only [windowEnd]
  repeat' (first | (with_reducible assumption) | (with_reducible apply closeWindow_recorderFits) | split | dsimp only | simp
                 | (unfold RecorderFits at *; simp_all; done) | (unfold RecorderFits at *; simp_all; omega))

theorem moveMember_recorderFits (id : Nat) (mem : Nat) (x : Nat) (s : State) (hs : RecorderFits s.recorder) : RecorderFits (moveMember id mem x s).recorder := by
  simp only [moveMember]
  repeat' (first | (with_reducible assumption) | (with_reducible apply leavePending_recorderFits) | split | dsimp only | simp
                 | (unfold RecorderFits at *; simp_all; done) | (unfold RecorderFits at *; simp_all; omega))

theorem joinMember_recorderFits (id : Nat) (mem : Nat) (x : Nat) (s : State) (hs : RecorderFits s.recorder) : RecorderFits (joinMember id mem x s).recorder := by
  simp only [joinMember]
  repeat' (first | (with_reducible assumption) | (with_reducible apply moveMember_recorderFits) | (with_reducible apply setClass_recorderFits) | split
                 | dsimp only | simp | (unfold RecorderFits at *; simp_all; done) | (unfold RecorderFits at *; simp_all; omega))

theorem returnDrive_recorderFits (x : Nat) (s : State) (hs : RecorderFits s.recorder) : RecorderFits (returnDrive x s).recorder := by
  simp only [returnDrive]
  repeat' (first | (with_reducible assumption) | (with_reducible apply payDue_recorderFits) | (with_reducible apply improveKeepers_recorderFits)
                 | (with_reducible apply joinMember_recorderFits) | (with_reducible apply startRecorded_recorderFits)
                 | (with_reducible apply evalDeck_recorderFits) | (with_reducible apply leavePending_recorderFits) | split | dsimp only | simp
                 | (unfold RecorderFits at *; simp_all; done) | (unfold RecorderFits at *; simp_all; omega))

theorem countStep_recorderFits (x : Nat) (n : Nat) (s : State) (hs : RecorderFits s.recorder) : RecorderFits (countStep x n s).recorder := by
  simp only [countStep]
  repeat' (first | (with_reducible assumption) | (with_reducible apply charge_recorderFits) | split | dsimp only | simp
                 | (unfold RecorderFits at *; simp_all; done) | (unfold RecorderFits at *; simp_all; omega))

theorem retryCommand_recorderFits (x : Nat) (port : Nat) (t : MTag) (errored : Bool) (s : State)
    (hs : RecorderFits s.recorder) : RecorderFits (retryCommand x port t errored s).recorder := by
  simp only [retryCommand]
  repeat' (first | (with_reducible assumption) | (with_reducible apply countStep_recorderFits) | (with_reducible apply recordEvent_recorderFits) | split
                 | dsimp only | simp | (unfold RecorderFits at *; simp_all; done) | (unfold RecorderFits at *; simp_all; omega))

theorem dropAdded_recorderFits (x : Nat) (s : State) (hs : RecorderFits s.recorder) : RecorderFits (dropAdded x s).recorder := by
  simp only [dropAdded]
  repeat' (first | (with_reducible assumption) | (with_reducible apply abandonRedeal_recorderFits)
                 | (with_reducible refine foldl_recorderFits _ (fun t x ht => ?_) _ _ ?_)
                 | (with_reducible refine foldl_snd_recorderFits _ (fun t x ht => ?_) _ _ ?_) | split | dsimp only | simp
                 | (unfold RecorderFits at *; simp_all; done) | (unfold RecorderFits at *; simp_all; omega))

theorem classify_recorderFits (x : Nat) (s : State) (hs : RecorderFits s.recorder) : RecorderFits (classify x s).recorder := by
  simp only [classify]
  repeat' (first | (with_reducible assumption) | (with_reducible apply returnDrive_recorderFits) | (with_reducible apply setClass_recorderFits)
                 | (with_reducible apply windowEnd_recorderFits) | split | dsimp only | simp | (unfold RecorderFits at *; simp_all; done)
                 | (unfold RecorderFits at *; simp_all; omega))

theorem settlePorts_recorderFits (x : Nat) (s : State) (hs : RecorderFits s.recorder) : RecorderFits (settlePorts x s).recorder := by
  simp only [settlePorts]
  repeat' (first | (with_reducible assumption) | (with_reducible apply dropAdded_recorderFits) | (with_reducible apply classify_recorderFits)
                 | (with_reducible apply judgePorts_recorderFits) | (with_reducible apply setClass_recorderFits) | (with_reducible apply windowEnd_recorderFits)
                 | split | dsimp only | simp | (unfold RecorderFits at *; simp_all; done) | (unfold RecorderFits at *; simp_all; omega))

theorem beginStep_recorderFits (x : Nat) (port : Nat) (n : Nat) (s : State) (hs : RecorderFits s.recorder) : RecorderFits (beginStep x port n s).recorder := by
  simp only [beginStep]
  repeat' (first | (with_reducible assumption) | (with_reducible apply countStep_recorderFits) | (with_reducible apply judgePorts_recorderFits)
                 | (with_reducible apply recordEvent_recorderFits) | split | dsimp only | simp | (unfold RecorderFits at *; simp_all; done)
                 | (unfold RecorderFits at *; simp_all; omega))

theorem beginCycle_recorderFits (x : Nat) (port : Nat) (s : State) (hs : RecorderFits s.recorder) : RecorderFits (beginCycle x port s).recorder := by
  simp only [beginCycle]
  repeat' (first | (with_reducible assumption) | (with_reducible apply countStep_recorderFits) | (with_reducible apply enterPending_recorderFits)
                 | (with_reducible apply recordEvent_recorderFits) | split | dsimp only | simp | (unfold RecorderFits at *; simp_all; done)
                 | (unfold RecorderFits at *; simp_all; omega))

theorem failPort_recorderFits (x : Nat) (port : Nat) (s : State) (hs : RecorderFits s.recorder) : RecorderFits (failPort x port s).recorder := by
  simp only [failPort]
  repeat' (first | (with_reducible assumption) | (with_reducible apply beginCycle_recorderFits) | (with_reducible apply dropAdded_recorderFits)
                 | (with_reducible apply setClass_recorderFits) | (with_reducible apply recordEvent_recorderFits) | split | dsimp only | simp
                 | (unfold RecorderFits at *; simp_all; done) | (unfold RecorderFits at *; simp_all; omega))

theorem takeStep_recorderFits (x : Nat) (port : Nat) (n : Nat) (s : State) (hs : RecorderFits s.recorder) : RecorderFits (takeStep x port n s).recorder := by
  simp only [takeStep]
  repeat' (first | (with_reducible assumption) | (with_reducible apply beginStep_recorderFits) | (with_reducible apply failPort_recorderFits) | split
                 | dsimp only | simp | (unfold RecorderFits at *; simp_all; done) | (unfold RecorderFits at *; simp_all; omega))

theorem handleWithheldTagTimeout_recorderFits (slot : Nat) (port : Nat) (s : State)
    (hs : RecorderFits s.recorder) : RecorderFits (handleWithheldTagTimeout slot port s).recorder := by
  simp only [handleWithheldTagTimeout]
  repeat' (first | (with_reducible assumption) | (with_reducible apply settleAll_recorderFits) | (with_reducible apply takeStep_recorderFits) | split
                 | dsimp only | simp | (unfold RecorderFits at *; simp_all; done) | (unfold RecorderFits at *; simp_all; omega))

theorem failStep_recorderFits (x : Nat) (port : Nat) (s : State) (hs : RecorderFits s.recorder) : RecorderFits (failStep x port s).recorder := by
  simp only [failStep]
  repeat' (first | (with_reducible assumption) | (with_reducible apply beginStep_recorderFits) | (with_reducible apply failSlot_recorderFits)
                 | (with_reducible apply failPort_recorderFits) | split | dsimp only | simp | (unfold RecorderFits at *; simp_all; done)
                 | (unfold RecorderFits at *; simp_all; omega))

theorem settleMember_recorderFits (id : Nat) (s : State) (hs : RecorderFits s.recorder) : RecorderFits (settleMember id s).recorder := by
  simp only [settleMember]
  repeat' (first | (with_reducible assumption) | (with_reducible apply payDue_recorderFits) | split | dsimp only | simp
                 | (unfold RecorderFits at *; simp_all; done) | (unfold RecorderFits at *; simp_all; omega))

theorem resumeReach_recorderFits (x : Nat) (s : State) (hs : RecorderFits s.recorder) : RecorderFits (resumeReach x s).recorder := by
  simp only [resumeReach]
  repeat' (first | (with_reducible assumption) | (with_reducible apply judgePorts_recorderFits) | (with_reducible apply settleMember_recorderFits) | split
                 | dsimp only | simp | (unfold RecorderFits at *; simp_all; done) | (unfold RecorderFits at *; simp_all; omega))

theorem passStep_recorderFits (x : Nat) (port : Nat) (s : State) (hs : RecorderFits s.recorder) : RecorderFits (passStep x port s).recorder := by
  simp only [passStep]
  repeat' (first | (with_reducible assumption) | (with_reducible apply judgePorts_recorderFits) | (with_reducible apply recordEvent_recorderFits)
                 | (with_reducible apply resumeReach_recorderFits) | split | dsimp only | simp | (unfold RecorderFits at *; simp_all; done)
                 | (unfold RecorderFits at *; simp_all; omega))

theorem endStep_recorderFits (x : Nat) (port : Nat) (n : Nat) (ok : Bool) (s : State)
    (hs : RecorderFits s.recorder) : RecorderFits (endStep x port n ok s).recorder := by
  simp only [endStep]
  repeat' (first | (with_reducible assumption) | (with_reducible apply settleAll_recorderFits) | (with_reducible apply failStep_recorderFits)
                 | (with_reducible apply passStep_recorderFits) | split | dsimp only | simp | (unfold RecorderFits at *; simp_all; done)
                 | (unfold RecorderFits at *; simp_all; omega))

theorem settleRing_recorderFits (t : MTag) (s : State) (hs : RecorderFits s.recorder) : RecorderFits (settleRing t s).recorder := by
  simp only [settleRing]
  repeat' (first | (with_reducible assumption) | (with_reducible apply settleStarts_recorderFits) | split | dsimp only | simp
                 | (unfold RecorderFits at *; simp_all; done) | (unfold RecorderFits at *; simp_all; omega))

theorem noteTimeout_recorderFits (x : Nat) (port : Nat) (s : State) (hs : RecorderFits s.recorder) : RecorderFits (noteTimeout x port s).recorder := by
  simp only [noteTimeout]
  repeat' (first | (with_reducible assumption) | (with_reducible apply takeStep_recorderFits) | split | dsimp only | simp
                 | (unfold RecorderFits at *; simp_all; done) | (unfold RecorderFits at *; simp_all; omega))

theorem learnDrive_recorderFits (x : Nat) (port : Nat) (speed : Nat) (width : Nat) (info : DriveInfo) (s : State)
    (hs : RecorderFits s.recorder) : RecorderFits (learnDrive x port speed width info s).recorder := by
  simp only [learnDrive]
  repeat' (first | (with_reducible assumption) | (with_reducible apply recordEvent_recorderFits)
                 | (with_reducible refine foldl_recorderFits _ (fun t x ht => ?_) _ _ ?_)
                 | (with_reducible refine foldl_snd_recorderFits _ (fun t x ht => ?_) _ _ ?_) | split | dsimp only | simp
                 | (unfold RecorderFits at *; simp_all; done) | (unfold RecorderFits at *; simp_all; omega))

theorem handleMemberPortReadyTimeout_recorderFits (slot : Nat) (port : Nat) (s : State)
    (hs : RecorderFits s.recorder) : RecorderFits (handleMemberPortReadyTimeout slot port s).recorder := by
  simp only [handleMemberPortReadyTimeout]
  repeat' (first | (with_reducible assumption) | (with_reducible apply beginStep_recorderFits) | (with_reducible apply settleAll_recorderFits) | split
                 | dsimp only | simp | (unfold RecorderFits at *; simp_all; done) | (unfold RecorderFits at *; simp_all; omega))

theorem handlePrsntInsertion_recorderFits (slot : Nat) (s : State) (hs : RecorderFits s.recorder) : RecorderFits (handlePrsntInsertion slot s).recorder := by
  simp only [handlePrsntInsertion]
  repeat' (first | (with_reducible assumption) | (with_reducible apply recordEvent_recorderFits) | split | dsimp only | simp
                 | (unfold RecorderFits at *; simp_all; done) | (unfold RecorderFits at *; simp_all; omega))

theorem measureDrive_recorderFits (x : Nat) (info : DriveInfo) (s : State) (hs : RecorderFits s.recorder) : RecorderFits (measureDrive x info s).recorder := by
  simp only [measureDrive]
  repeat' (first | (with_reducible assumption) | (with_reducible apply recordEvent_recorderFits) | split | dsimp only | simp
                 | (unfold RecorderFits at *; simp_all; done) | (unfold RecorderFits at *; simp_all; omega))

theorem rejoin_recorderFits (x : Nat) (s : State) (hs : RecorderFits s.recorder) : RecorderFits (rejoin x s).recorder := by
  simp only [rejoin]
  repeat' (first | (with_reducible assumption) | (with_reducible apply resumeReach_recorderFits) | split | dsimp only | simp
                 | (unfold RecorderFits at *; simp_all; done) | (unfold RecorderFits at *; simp_all; omega))

theorem handleMemberPortBringup_recorderFits (slot : Nat) (port : Nat) (speed : Nat) (width : Nat) (info : DriveInfo) (s : State)
    (hs : RecorderFits s.recorder) : RecorderFits (handleMemberPortBringup slot port speed width info s).recorder := by
  simp only [handleMemberPortBringup]
  repeat' (first | (with_reducible assumption) | (with_reducible apply measureDrive_recorderFits) | (with_reducible apply settleAll_recorderFits)
                 | (with_reducible apply rejoin_recorderFits) | (with_reducible apply passStep_recorderFits) | (with_reducible apply settlePorts_recorderFits)
                 | (with_reducible apply learnDrive_recorderFits) | split | dsimp only | simp | (unfold RecorderFits at *; simp_all; done)
                 | (unfold RecorderFits at *; simp_all; omega))

theorem writeFails_recorderFits (x : Nat) (t : MTag) (s : State) (hs : RecorderFits s.recorder) : RecorderFits (writeFails x t s).recorder := by
  simp only [writeFails]
  repeat' (first | (with_reducible assumption) | (with_reducible apply dropAdded_recorderFits) | (with_reducible apply setClass_recorderFits)
                 | (with_reducible apply failSlot_recorderFits) | (with_reducible apply enterPending_recorderFits) | split | dsimp only | simp
                 | (unfold RecorderFits at *; simp_all; done) | (unfold RecorderFits at *; simp_all; omega))

theorem mediaReadOnly_recorderFits (x : Nat) (s : State) (hs : RecorderFits s.recorder) : RecorderFits (mediaReadOnly x s).recorder := by
  simp only [mediaReadOnly]
  repeat' (first | (with_reducible assumption) | (with_reducible apply judgePorts_recorderFits) | (with_reducible apply failSlot_recorderFits) | split
                 | dsimp only | simp | (unfold RecorderFits at *; simp_all; done) | (unfold RecorderFits at *; simp_all; omega))

theorem handleLadderStepBoundExpiry_recorderFits (slot : Nat) (port : Nat) (s : State)
    (hs : RecorderFits s.recorder) : RecorderFits (handleLadderStepBoundExpiry slot port s).recorder := by
  simp only [handleLadderStepBoundExpiry]
  repeat' (first | (with_reducible assumption) | (with_reducible apply settleAll_recorderFits) | (with_reducible apply failStep_recorderFits) | split
                 | dsimp only | simp | (unfold RecorderFits at *; simp_all; done) | (unfold RecorderFits at *; simp_all; omega))

theorem nextStep_recorderFits (x : Nat) (port : Nat) (t : MTag) (s : State) (hs : RecorderFits s.recorder) : RecorderFits (nextStep x port t s).recorder := by
  simp only [nextStep]
  repeat' (first | (with_reducible assumption) | (with_reducible apply takeStep_recorderFits) | split | dsimp only | simp
                 | (unfold RecorderFits at *; simp_all; done) | (unfold RecorderFits at *; simp_all; omega))

theorem lateRing_recorderFits (t : MTag) (s : State) (hs : RecorderFits s.recorder) : RecorderFits (lateRing t s).recorder := by
  simp only [lateRing]
  repeat' (first | (with_reducible assumption) | (with_reducible apply dropKeeper_recorderFits) | (with_reducible apply settleRing_recorderFits) | split
                 | dsimp only | simp | (unfold RecorderFits at *; simp_all; done) | (unfold RecorderFits at *; simp_all; omega))

theorem handleMemberCommandTimeout_recorderFits (slot : Nat) (port : Nat) (tag : Nat) (s : State)
    (hs : RecorderFits s.recorder) : RecorderFits (handleMemberCommandTimeout slot port tag s).recorder := by
  simp only [handleMemberCommandTimeout]
  repeat' (first | (with_reducible assumption) | (with_reducible apply settleAll_recorderFits) | (with_reducible apply noteTimeout_recorderFits)
                 | (with_reducible apply retryCommand_recorderFits) | (with_reducible apply nextStep_recorderFits)
                 | (with_reducible apply recordEvent_recorderFits) | (with_reducible apply lateRing_recorderFits) | (with_reducible apply charge_recorderFits)
                 | (with_reducible refine foldl_recorderFits _ (fun t x ht => ?_) _ _ ?_)
                 | (with_reducible refine foldl_snd_recorderFits _ (fun t x ht => ?_) _ _ ?_) | split | dsimp only | simp
                 | (unfold RecorderFits at *; simp_all; done) | (unfold RecorderFits at *; simp_all; omega))

theorem handleMemberAsyncEvent_recorderFits (slot : Nat) (critWarn : BitVec 8) (fwChange : Option Nat) (temp : Nat) (s : State)
    (hs : RecorderFits s.recorder) : RecorderFits (handleMemberAsyncEvent slot critWarn fwChange temp s).recorder := by
  simp only [handleMemberAsyncEvent]
  repeat' (first | (with_reducible assumption) | (with_reducible apply measureDrive_recorderFits) | (with_reducible apply settleAll_recorderFits)
                 | (with_reducible apply mediaReadOnly_recorderFits) | (with_reducible apply charge_recorderFits)
                 | (with_reducible refine foldl_recorderFits _ (fun t x ht => ?_) _ _ ?_)
                 | (with_reducible refine foldl_snd_recorderFits _ (fun t x ht => ?_) _ _ ?_) | split | dsimp only | simp
                 | (unfold RecorderFits at *; simp_all; done) | (unfold RecorderFits at *; simp_all; omega))

theorem handleMemberPcieCompletionTimeout_recorderFits (slot : Nat) (port : Nat) (s : State)
    (hs : RecorderFits s.recorder) : RecorderFits (handleMemberPcieCompletionTimeout slot port s).recorder := by
  simp only [handleMemberPcieCompletionTimeout]
  repeat' (first | (with_reducible assumption) | (with_reducible apply settleAll_recorderFits) | (with_reducible apply takeStep_recorderFits) | split
                 | dsimp only | simp | (unfold RecorderFits at *; simp_all; done) | (unfold RecorderFits at *; simp_all; omega))

theorem injectAt_recorderFits (x : Nat) (port : Nat) (dir : Nat) (kind : Nat) (s : State)
    (hs : RecorderFits s.recorder) : RecorderFits (injectAt x port dir kind s).2.recorder := by
  simp only [injectAt]
  repeat' (first | (with_reducible assumption) | (with_reducible apply disarmFinj_recorderFits) | (with_reducible apply recordEvent_recorderFits) | split
                 | dsimp only | simp | (unfold RecorderFits at *; simp_all; done) | (unfold RecorderFits at *; simp_all; omega))

theorem handleFailedPendingTimeout_recorderFits (slot : Nat) (final : Bool) (s : State)
    (hs : RecorderFits s.recorder) : RecorderFits (handleFailedPendingTimeout slot final s).recorder := by
  simp only [handleFailedPendingTimeout]
  repeat' (first | (with_reducible assumption) | (with_reducible apply failSlot_recorderFits) | (with_reducible apply settlePorts_recorderFits) | split
                 | dsimp only | simp | (unfold RecorderFits at *; simp_all; done) | (unfold RecorderFits at *; simp_all; omega))

theorem handleContainmentRelease_recorderFits (slot : Nat) (port : Nat) (s : State)
    (hs : RecorderFits s.recorder) : RecorderFits (handleContainmentRelease slot port s).recorder := by
  simp only [handleContainmentRelease]
  repeat' (first | (with_reducible assumption) | (with_reducible apply beginStep_recorderFits) | (with_reducible apply settleAll_recorderFits)
                 | (with_reducible apply recordEvent_recorderFits) | (with_reducible apply charge_recorderFits) | split | dsimp only | simp
                 | (unfold RecorderFits at *; simp_all; done) | (unfold RecorderFits at *; simp_all; omega))

theorem powerOff_recorderFits (x : Nat) (s : State) (hs : RecorderFits s.recorder) : RecorderFits (powerOff x s).recorder := by
  simp only [powerOff]
  repeat' (first | (with_reducible assumption) | (with_reducible apply recordEvent_recorderFits)
                 | (with_reducible refine foldl_recorderFits _ (fun t x ht => ?_) _ _ ?_)
                 | (with_reducible refine foldl_snd_recorderFits _ (fun t x ht => ?_) _ _ ?_) | split | dsimp only | simp
                 | (unfold RecorderFits at *; simp_all; done) | (unfold RecorderFits at *; simp_all; omega))

theorem handleDpcTrigger_recorderFits (slot : Nat) (port : Nat) (cause : Nat) (s : State)
    (hs : RecorderFits s.recorder) : RecorderFits (handleDpcTrigger slot port cause s).recorder := by
  simp only [handleDpcTrigger]
  repeat' (first | (with_reducible assumption) | (with_reducible apply takeover_recorderFits) | (with_reducible apply judgePorts_recorderFits)
                 | (with_reducible apply recordEvent_recorderFits) | split | dsimp only | simp | (unfold RecorderFits at *; simp_all; done)
                 | (unfold RecorderFits at *; simp_all; omega))

theorem handlePrsntRemoval_recorderFits (slot : Nat) (s : State) (hs : RecorderFits s.recorder) : RecorderFits (handlePrsntRemoval slot s).recorder := by
  simp only [handlePrsntRemoval]
  repeat' (first | (with_reducible assumption) | (with_reducible apply powerOff_recorderFits) | (with_reducible apply dropAdded_recorderFits)
                 | (with_reducible apply enterPending_recorderFits) | (with_reducible apply recordEvent_recorderFits) | split | dsimp only | simp
                 | (unfold RecorderFits at *; simp_all; done) | (unfold RecorderFits at *; simp_all; omega))

theorem handleMemberAdminTimeout_recorderFits (slot : Nat) (port : Nat) (s : State)
    (hs : RecorderFits s.recorder) : RecorderFits (handleMemberAdminTimeout slot port s).recorder := by
  simp only [handleMemberAdminTimeout]
  repeat' (first | (with_reducible assumption) | (with_reducible apply settleAll_recorderFits) | (with_reducible apply takeStep_recorderFits) | split
                 | dsimp only | simp | (unfold RecorderFits at *; simp_all; done) | (unfold RecorderFits at *; simp_all; omega))

theorem noteAction_recorderFits (slot : Nat) (action : Nat) (cdw11 : Nat) (s : State)
    (hs : RecorderFits s.recorder) : RecorderFits (noteAction slot action cdw11 s).recorder := by
  simp only [noteAction]
  repeat' (first | (with_reducible assumption) | (with_reducible apply recordEvent_recorderFits) | split | dsimp only | simp
                 | (unfold RecorderFits at *; simp_all; done) | (unfold RecorderFits at *; simp_all; omega))

theorem failChannel_recorderFits (ch : Nat) (reason : Nat) (s : State) (hs : RecorderFits s.recorder) : RecorderFits (failChannel ch reason s).recorder := by
  simp only [failChannel]
  repeat' (first | (with_reducible assumption) | (with_reducible apply takeover_recorderFits) | (with_reducible apply recordEvent_recorderFits) | split
                 | dsimp only | simp | (unfold RecorderFits at *; simp_all; done) | (unfold RecorderFits at *; simp_all; omega))

theorem retireBank_recorderFits (ch : Nat) (bank : Nat) (s : State) (hs : RecorderFits s.recorder) : RecorderFits (retireBank ch bank s).recorder := by
  simp only [retireBank]
  repeat' (first | (with_reducible assumption) | (with_reducible apply failChannel_recorderFits) | (with_reducible apply recordEvent_recorderFits) | split
                 | dsimp only | simp | (unfold RecorderFits at *; simp_all; done) | (unfold RecorderFits at *; simp_all; omega))

theorem enterFrame_recorderFits (region : Nat) (ch : Nat) (frame : Nat) (s : State)
    (hs : RecorderFits s.recorder) : RecorderFits (enterFrame region ch frame s).2.recorder := by
  simp only [enterFrame]
  repeat' (first | (with_reducible assumption) | (with_reducible apply retireBank_recorderFits) | split | dsimp only | simp
                 | (unfold RecorderFits at *; simp_all; done) | (unfold RecorderFits at *; simp_all; omega))

theorem retireOne.go_recorderFits (region : Nat) (frame : Nat) (s : State) (hs : RecorderFits s.recorder) : RecorderFits (retireOne.go region frame s).recorder := by
  simp only [retireOne.go]
  repeat' (first | (with_reducible assumption) | (with_reducible apply retireBank_recorderFits) | (with_reducible apply enterFrame_recorderFits)
                 | (with_reducible apply recordEvent_recorderFits) | split | dsimp only | simp | (unfold RecorderFits at *; simp_all; done)
                 | (unfold RecorderFits at *; simp_all; omega))

theorem retireOne_recorderFits (region : Nat) (frame : Nat) (s : State) (hs : RecorderFits s.recorder) : RecorderFits (retireOne region frame s).recorder := by
  simp only [retireOne]
  repeat' (first | (with_reducible assumption) | (with_reducible apply retireOne.go_recorderFits) | split | dsimp only | simp
                 | (unfold RecorderFits at *; simp_all; done) | (unfold RecorderFits at *; simp_all; omega))

theorem uncorrectable_recorderFits (e : DirEntry) (sec : Nat) (partnerBad : Bool) (s : State)
    (hs : RecorderFits s.recorder) : RecorderFits (uncorrectable e sec partnerBad s).recorder := by
  simp only [uncorrectable]
  repeat' (first | (with_reducible assumption) | (with_reducible apply retireOne_recorderFits) | (with_reducible apply recordEvent_recorderFits) | split
                 | dsimp only | simp | (unfold RecorderFits at *; simp_all; done) | (unfold RecorderFits at *; simp_all; omega))

theorem repairRow_recorderFits (die : Nat) (macroNo : Nat) (row : Nat) (s : State)
    (hs : RecorderFits s.recorder) : RecorderFits (repairRow die macroNo row s).recorder := by
  simp only [repairRow]
  repeat' (first | (with_reducible assumption) | (with_reducible apply recordEvent_recorderFits) | split | dsimp only | simp
                 | (unfold RecorderFits at *; simp_all; done) | (unfold RecorderFits at *; simp_all; omega))

theorem loseRecord_recorderFits (pos : Nat) (s : State) (hs : RecorderFits s.recorder) : RecorderFits (loseRecord pos s).recorder := by
  obtain ⟨h1, h2, h3, h4⟩ := hs
  refine ⟨h1, h2, Nat.le_trans (List.length_eraseIdx_le _ _) h3, ?_⟩
  simp only [loseRecord]
  omega

theorem tearRepair_recorderFits (i : Nat) (s : State) (hs : RecorderFits s.recorder) : RecorderFits (tearRepair i s).recorder := by
  simp only [tearRepair]
  repeat' (first | (with_reducible assumption) | (with_reducible apply recordEvent_recorderFits) | split | dsimp only | simp
                 | (unfold RecorderFits at *; simp_all; done) | (unfold RecorderFits at *; simp_all; omega))

theorem nameDevice_recorderFits (ch : Nat) (dev : Nat) (frame : Nat) (s : State)
    (hs : RecorderFits s.recorder) : RecorderFits (nameDevice ch dev frame s).recorder := by
  simp only [nameDevice]
  repeat' (first | (with_reducible assumption) | (with_reducible apply takeover_recorderFits) | (with_reducible apply failChannel_recorderFits)
                 | (with_reducible apply recordEvent_recorderFits) | split | dsimp only | simp | (unfold RecorderFits at *; simp_all; done)
                 | (unfold RecorderFits at *; simp_all; omega))

theorem loseEntry_recorderFits (region : Nat) (frame : Nat) (s : State) (hs : RecorderFits s.recorder) : RecorderFits (loseEntry region frame s).recorder := by
  simp only [loseEntry]
  repeat' (first | (with_reducible assumption) | (with_reducible apply enterQuarantine_recorderFits) | (with_reducible apply retireOne_recorderFits)
                 | split | dsimp only | simp | (unfold RecorderFits at *; simp_all; done) | (unfold RecorderFits at *; simp_all; omega))

theorem recoverWord_recorderFits (t : SramTarget) (copyLost : Bool) (s : State) (hs : RecorderFits s.recorder) : RecorderFits (recoverWord t copyLost s).recorder := by
  simp only [recoverWord]
  repeat' (first | (with_reducible assumption) | (with_reducible apply loseRecord_recorderFits) | (with_reducible apply takeover_recorderFits)
                 | (with_reducible apply loseEntry_recorderFits) | (with_reducible apply recordEvent_recorderFits)
                 | (with_reducible refine foldl_recorderFits _ (fun t x ht => ?_) _ _ ?_)
                 | (with_reducible refine foldl_snd_recorderFits _ (fun t x ht => ?_) _ _ ?_) | split | dsimp only | simp
                 | (unfold RecorderFits at *; simp_all; done) | (unfold RecorderFits at *; simp_all; omega))

theorem countFault_recorderFits (a : FinjDesc) (s : State) (hs : RecorderFits s.recorder) : RecorderFits (countFault a s).recorder := by
  simp only [countFault]
  repeat' (first | (with_reducible assumption) | (with_reducible apply disarmFinj_recorderFits) | (with_reducible apply recordEvent_recorderFits) | split
                 | dsimp only | simp | (unfold RecorderFits at *; simp_all; done) | (unfold RecorderFits at *; simp_all; omega))

theorem armFinj_recorderFits (d : FinjDesc) (s : State) (hs : RecorderFits s.recorder) : RecorderFits (armFinj d s).recorder := by
  simp only [armFinj]
  repeat' (first | (with_reducible assumption) | (with_reducible apply recordEvent_recorderFits) | split | dsimp only | simp
                 | (unfold RecorderFits at *; simp_all; done) | (unfold RecorderFits at *; simp_all; omega))

theorem injectFlit_recorderFits (link : Nat) (sub : Nat) (s : State) (hs : RecorderFits s.recorder) : RecorderFits (injectFlit link sub s).recorder := by
  simp only [injectFlit]
  repeat' (first | (with_reducible assumption) | (with_reducible apply countFault_recorderFits) | split | dsimp only | simp
                 | (unfold RecorderFits at *; simp_all; done) | (unfold RecorderFits at *; simp_all; omega))

theorem noteTest_recorderFits (op : Nat) (s : State) (hs : RecorderFits s.recorder) : RecorderFits (noteTest op s).recorder := by
  simp only [noteTest]
  repeat' (first | (with_reducible assumption) | (with_reducible apply recordEvent_recorderFits) | split | dsimp only | simp
                 | (unfold RecorderFits at *; simp_all; done) | (unfold RecorderFits at *; simp_all; omega))

theorem flitFault_recorderFits (link : Nat) (dir : Nat) (sub : Nat) (s : State)
    (hs : RecorderFits s.recorder) : RecorderFits (flitFault link dir sub s).2.recorder := by
  simp only [flitFault]
  repeat' (first | (with_reducible assumption) | (with_reducible apply countFault_recorderFits) | split | dsimp only | simp
                 | (unfold RecorderFits at *; simp_all; done) | (unfold RecorderFits at *; simp_all; omega))

theorem runTest_recorderFits (op : Nat) (s : State) (hs : RecorderFits s.recorder) : RecorderFits (runTest op s).recorder := by
  simp only [runTest]
  repeat' (first | (with_reducible assumption) | (with_reducible apply noteTest_recorderFits) | split | dsimp only | simp
                 | (unfold RecorderFits at *; simp_all; done) | (unfold RecorderFits at *; simp_all; omega))

theorem testCommand_recorderFits (op : Nat) (s : State) (hs : RecorderFits s.recorder) : RecorderFits (testCommand op s).recorder := by
  simp only [testCommand]
  repeat' (first | (with_reducible assumption) | (with_reducible apply runTest_recorderFits) | split | dsimp only | simp
                 | (unfold RecorderFits at *; simp_all; done) | (unfold RecorderFits at *; simp_all; omega))

theorem noLevel_recorderFits (code : Nat) (detail : Nat) (s : State) (hs : RecorderFits s.recorder) : RecorderFits (noLevel code detail s).recorder := by
  simp only [noLevel]
  repeat' (first | (with_reducible assumption) | (with_reducible apply enterQuarantine_recorderFits) | split | dsimp only | simp
                 | (unfold RecorderFits at *; simp_all; done) | (unfold RecorderFits at *; simp_all; omega))

theorem dropPorts_recorderFits (region : Nat) (s : State) (hs : RecorderFits s.recorder) : RecorderFits (dropPorts region s).recorder := by
  simp only [dropPorts]
  repeat' (first | (with_reducible assumption) | (with_reducible apply judgePorts_recorderFits)
                 | (with_reducible refine foldl_recorderFits _ (fun t x ht => ?_) _ _ ?_)
                 | (with_reducible refine foldl_snd_recorderFits _ (fun t x ht => ?_) _ _ ?_) | split | dsimp only | simp
                 | (unfold RecorderFits at *; simp_all; done) | (unfold RecorderFits at *; simp_all; omega))

theorem fenceRegion_recorderFits (region : Nat) (reason : Nat) (s : State) (hs : RecorderFits s.recorder) : RecorderFits (fenceRegion region reason s).recorder := by
  simp only [fenceRegion]
  repeat' (first | (with_reducible assumption) | (with_reducible apply noLevel_recorderFits) | (with_reducible apply constraintEval_recorderFits)
                 | (with_reducible apply settleAll_recorderFits) | (with_reducible apply takeover_recorderFits) | (with_reducible apply dropPorts_recorderFits)
                 | (with_reducible apply recordEvent_recorderFits) | (with_reducible refine foldl_recorderFits _ (fun t x ht => ?_) _ _ ?_)
                 | (with_reducible refine foldl_snd_recorderFits _ (fun t x ht => ?_) _ _ ?_) | split | dsimp only | simp
                 | (unfold RecorderFits at *; simp_all; done) | (unfold RecorderFits at *; simp_all; omega))

theorem quarantineUnit_recorderFits (unit : Nat) (why : Nat) (s : State) (hs : RecorderFits s.recorder) : RecorderFits (quarantineUnit unit why s).recorder := by
  simp only [quarantineUnit]
  repeat' (first | (with_reducible assumption) | (with_reducible apply recordEvent_recorderFits) | split | dsimp only | simp
                 | (unfold RecorderFits at *; simp_all; done) | (unfold RecorderFits at *; simp_all; omega))

theorem quarantineBlock_recorderFits (region : Nat) (block : Nat) (why : Nat) (s : State)
    (hs : RecorderFits s.recorder) : RecorderFits (quarantineBlock region block why s).recorder := by
  simp only [quarantineBlock]
  repeat' (first | (with_reducible assumption) | (with_reducible apply takeover_recorderFits) | (with_reducible apply fenceRegion_recorderFits)
                 | (with_reducible apply quarantineUnit_recorderFits) | split | dsimp only | simp | (unfold RecorderFits at *; simp_all; done)
                 | (unfold RecorderFits at *; simp_all; omega))

theorem rejectStream_recorderFits (region : Nat) (block : Nat) (stream : Nat) (s : State)
    (hs : RecorderFits s.recorder) : RecorderFits (rejectStream region block stream s).recorder := by
  simp only [rejectStream]
  repeat' (first | (with_reducible assumption) | (with_reducible apply quarantineBlock_recorderFits) | split | dsimp only | simp
                 | (unfold RecorderFits at *; simp_all; done) | (unfold RecorderFits at *; simp_all; omega))

theorem feedOperand_recorderFits (region : Nat) (block : Nat) (o : Operand) (s : State)
    (hs : RecorderFits s.recorder) : RecorderFits (feedOperand region block o s).recorder := by
  simp only [feedOperand]
  repeat' (first | (with_reducible assumption) | (with_reducible apply rejectStream_recorderFits) | split | dsimp only | simp
                 | (unfold RecorderFits at *; simp_all; done) | (unfold RecorderFits at *; simp_all; omega))

theorem feedWaiting_recorderFits (region : Nat) (block : Nat) (x0 : Nat) (x1 : State)
    (hs : RecorderFits x1.recorder) : RecorderFits (feedWaiting region block x0 x1).recorder := by
  induction x0 generalizing x1 with
  | zero => exact hs
  | succ n ih =>
    simp only [feedWaiting]
    split
    · exact hs
    · exact ih _ (feedOperand_recorderFits _ _ _ _ (by simpa using hs))

theorem noteOnce_recorderFits (unit : Nat) (code : Nat) (params : List Nat) (s : State)
    (hs : RecorderFits s.recorder) : RecorderFits (noteOnce unit code params s).recorder := by
  simp only [noteOnce]
  repeat' (first | (with_reducible assumption) | (with_reducible apply recordEvent_recorderFits) | split | dsimp only | simp
                 | (unfold RecorderFits at *; simp_all; done) | (unfold RecorderFits at *; simp_all; omega))

theorem noteResidue_recorderFits (unit : Nat) (stream : Nat) (s : State) (hs : RecorderFits s.recorder) : RecorderFits (noteResidue unit stream s).recorder := by
  simp only [noteResidue]
  repeat' (first | (with_reducible assumption) | (with_reducible apply noteOnce_recorderFits) | split | dsimp only | simp
                 | (unfold RecorderFits at *; simp_all; done) | (unfold RecorderFits at *; simp_all; omega))

theorem retireCell_recorderFits (region : Nat) (block : Nat) (cell : Nat) (s : State)
    (hs : RecorderFits s.recorder) : RecorderFits (retireCell region block cell s).recorder := by
  simp only [retireCell]
  repeat' (first | (with_reducible assumption) | (with_reducible apply quarantineBlock_recorderFits) | (with_reducible apply takeover_recorderFits)
                 | (with_reducible apply recordEvent_recorderFits) | split | dsimp only | simp | (unfold RecorderFits at *; simp_all; done)
                 | (unfold RecorderFits at *; simp_all; omega))

theorem checkCell_recorderFits (region : Nat) (block : Nat) (stream : Nat) (c : CellCheck) (s : State)
    (hs : RecorderFits s.recorder) : RecorderFits (checkCell region block stream c s).recorder := by
  simp only [checkCell]
  repeat' (first | (with_reducible assumption) | (with_reducible apply noteResidue_recorderFits) | (with_reducible apply retireCell_recorderFits) | split
                 | dsimp only | simp | (unfold RecorderFits at *; simp_all; done) | (unfold RecorderFits at *; simp_all; omega))

theorem arrive_recorderFits (f : Transit) (s : State) (hs : RecorderFits s.recorder) : RecorderFits (arrive f s).recorder := by
  simp only [arrive]
  repeat' (first | (with_reducible assumption) | (with_reducible apply feedWaiting_recorderFits) | (with_reducible apply rejectStream_recorderFits)
                 | (with_reducible apply checkCell_recorderFits) | (with_reducible apply feedOperand_recorderFits) | split | dsimp only | simp
                 | (unfold RecorderFits at *; simp_all; done) | (unfold RecorderFits at *; simp_all; omega))

theorem sendFlit_recorderFits (f : Transit) (s : State) (hs : RecorderFits s.recorder) : RecorderFits (sendFlit f s).recorder := by
  simp only [sendFlit]
  repeat' (first | (with_reducible assumption) | (with_reducible apply arrive_recorderFits) | split | dsimp only | simp
                 | (unfold RecorderFits at *; simp_all; done) | (unfold RecorderFits at *; simp_all; omega))

theorem sendHeld_recorderFits (s : State) (hs : RecorderFits s.recorder) : RecorderFits (sendHeld s).recorder := by
  simp only [sendHeld]
  repeat' (first | (with_reducible assumption) | (with_reducible apply sendFlit_recorderFits)
                 | (with_reducible refine foldl_recorderFits _ (fun t x ht => ?_) _ _ ?_)
                 | (with_reducible refine foldl_snd_recorderFits _ (fun t x ht => ?_) _ _ ?_) | split | dsimp only | simp
                 | (unfold RecorderFits at *; simp_all; done) | (unfold RecorderFits at *; simp_all; omega))

theorem handleRegionFault_recorderFits (region : Nat) (reason : Nat) (s : State)
    (hs : RecorderFits s.recorder) : RecorderFits (handleRegionFault region reason s).recorder := by
  simp only [handleRegionFault]
  repeat' (first | (with_reducible assumption) | (with_reducible apply sendHeld_recorderFits) | (with_reducible apply fenceRegion_recorderFits) | split
                 | dsimp only | simp | (unfold RecorderFits at *; simp_all; done) | (unfold RecorderFits at *; simp_all; omega))

theorem failHalf_recorderFits (half : Nat) (s : State) (hs : RecorderFits s.recorder) : RecorderFits (failHalf half s).recorder := by
  simp only [failHalf]
  repeat' (first | (with_reducible assumption) | (with_reducible apply noLevel_recorderFits) | (with_reducible apply takeover_recorderFits)
                 | (with_reducible apply recordEvent_recorderFits) | split | dsimp only | simp | (unfold RecorderFits at *; simp_all; done)
                 | (unfold RecorderFits at *; simp_all; omega))

theorem fenceRing_recorderFits (link : Nat) (s : State) (hs : RecorderFits s.recorder) : RecorderFits (fenceRing link s).recorder := by
  simp only [fenceRing]
  repeat' (first | (with_reducible assumption) | (with_reducible apply noLevel_recorderFits) | (with_reducible apply takeover_recorderFits)
                 | (with_reducible apply fenceRegion_recorderFits) | split | dsimp only | simp | (unfold RecorderFits at *; simp_all; done)
                 | (unfold RecorderFits at *; simp_all; omega))

theorem stallLink_recorderFits (link : Nat) (s : State) (hs : RecorderFits s.recorder) : RecorderFits (stallLink link s).recorder := by
  simp only [stallLink]
  repeat' (first | (with_reducible assumption) | (with_reducible apply fenceRegion_recorderFits) | (with_reducible apply fenceRing_recorderFits) | split
                 | dsimp only | simp | (unfold RecorderFits at *; simp_all; done) | (unfold RecorderFits at *; simp_all; omega))

theorem handleGlildoLinkStall_recorderFits (link : Nat) (s : State) (hs : RecorderFits s.recorder) : RecorderFits (handleGlildoLinkStall link s).recorder := by
  simp only [handleGlildoLinkStall]
  repeat' (first | (with_reducible assumption) | (with_reducible apply sendHeld_recorderFits) | (with_reducible apply stallLink_recorderFits) | split
                 | dsimp only | simp | (unfold RecorderFits at *; simp_all; done) | (unfold RecorderFits at *; simp_all; omega))

theorem failEngine_recorderFits (half : Nat) (s : State) (hs : RecorderFits s.recorder) : RecorderFits (failEngine half s).recorder := by
  simp only [failEngine]
  repeat' (first | (with_reducible assumption) | (with_reducible apply noLevel_recorderFits) | (with_reducible apply takeover_recorderFits)
                 | (with_reducible apply quarantineUnit_recorderFits) | split | dsimp only | simp | (unfold RecorderFits at *; simp_all; done)
                 | (unfold RecorderFits at *; simp_all; omega))

theorem failCommon_recorderFits (unit : Nat) (s : State) (hs : RecorderFits s.recorder) : RecorderFits (failCommon unit s).recorder := by
  simp only [failCommon]
  repeat' (first | (with_reducible assumption) | (with_reducible apply noLevel_recorderFits) | (with_reducible apply takeover_recorderFits)
                 | (with_reducible apply quarantineUnit_recorderFits) | split | dsimp only | simp | (unfold RecorderFits at *; simp_all; done)
                 | (unfold RecorderFits at *; simp_all; omega))

theorem spareSublink_recorderFits (link : Nat) (sub : Nat) (injected : Bool) (s : State)
    (hs : RecorderFits s.recorder) : RecorderFits (spareSublink link sub injected s).recorder := by
  simp only [spareSublink]
  repeat' (first | (with_reducible assumption) | (with_reducible apply takeover_recorderFits) | (with_reducible apply stallLink_recorderFits) | split
                 | dsimp only | simp | (unfold RecorderFits at *; simp_all; done) | (unfold RecorderFits at *; simp_all; omega))

theorem failFlit_recorderFits (link : Nat) (sub : Nat) (injected : Bool) (s : State)
    (hs : RecorderFits s.recorder) : RecorderFits (failFlit link sub injected s).recorder := by
  simp only [failFlit]
  repeat' (first | (with_reducible assumption) | (with_reducible apply spareSublink_recorderFits) | split | dsimp only | simp
                 | (unfold RecorderFits at *; simp_all; done) | (unfold RecorderFits at *; simp_all; omega))

theorem crossFault_recorderFits (stream : Nat) (l : Nat × Bool) (s : State) (hs : RecorderFits s.recorder) : RecorderFits (crossFault stream l s).recorder := by
  simp only [crossFault]
  repeat' (first | (with_reducible assumption) | (with_reducible apply failFlit_recorderFits) | (with_reducible apply flitFault_recorderFits)
                 | (with_reducible apply noteResidue_recorderFits) | split | dsimp only | simp | (unfold RecorderFits at *; simp_all; done)
                 | (unfold RecorderFits at *; simp_all; omega))

theorem quarantineSource_recorderFits (source : Nat) (s : State) (hs : RecorderFits s.recorder) : RecorderFits (quarantineSource source s).recorder := by
  simp only [quarantineSource]
  repeat' (first | (with_reducible assumption) | (with_reducible apply quarantineBlock_recorderFits) | (with_reducible apply settleAll_recorderFits)
                 | (with_reducible apply takeover_recorderFits) | (with_reducible apply fenceRegion_recorderFits) | (with_reducible apply failEngine_recorderFits)
                 | (with_reducible apply failCommon_recorderFits) | (with_reducible apply dropPorts_recorderFits) | (with_reducible apply failHalf_recorderFits)
                 | (with_reducible apply failChannel_recorderFits) | (with_reducible apply sentinelLost_recorderFits)
                 | (with_reducible apply quarantineUnit_recorderFits) | split | dsimp only | simp | (unfold RecorderFits at *; simp_all; done)
                 | (unfold RecorderFits at *; simp_all; omega))

theorem noteLow_recorderFits (s : State) (hs : RecorderFits s.recorder) : RecorderFits (noteLow s).recorder := by
  simp only [noteLow]
  repeat' (first | (with_reducible assumption) | (with_reducible apply recordEvent_recorderFits) | split | dsimp only | simp
                 | (unfold RecorderFits at *; simp_all; done) | (unfold RecorderFits at *; simp_all; omega))

theorem openSegment_recorderFits (s : State) (hs : RecorderFits s.recorder) : RecorderFits (openSegment s).1.recorder := by
  simp only [openSegment]
  repeat' (first | (with_reducible assumption) | (with_reducible apply recordEvent_recorderFits) | split | dsimp only | simp
                 | (unfold RecorderFits at *; simp_all; done) | (unfold RecorderFits at *; simp_all; omega))

theorem programEntry_recorderFits (e : HwEntry) (s : State) (hs : RecorderFits s.recorder) : RecorderFits (programEntry e s).recorder := by
  simp only [programEntry]
  repeat' (first | (with_reducible assumption) | (with_reducible apply recordEvent_recorderFits) | split | dsimp only | simp
                 | (unfold RecorderFits at *; simp_all; done) | (unfold RecorderFits at *; simp_all; omega))

theorem roomFor_recorderFits (units : Nat) (s : State) (hs : RecorderFits s.recorder) : RecorderFits (roomFor units s).recorder := by
  simp only [roomFor]
  repeat' (first | (with_reducible assumption) | (with_reducible apply noteLow_recorderFits) | (with_reducible apply openSegment_recorderFits)
                 | (with_reducible apply programEntry_recorderFits) | split | dsimp only | simp | (unfold RecorderFits at *; simp_all; done)
                 | (unfold RecorderFits at *; simp_all; omega))

theorem programHeld_recorderFits (s : State) (hs : RecorderFits s.recorder) : RecorderFits (programHeld s).recorder := by
  simp only [programHeld]
  repeat' (first | (with_reducible assumption) | (with_reducible apply roomFor_recorderFits) | (with_reducible apply programEntry_recorderFits) | split
                 | dsimp only | simp | (unfold RecorderFits at *; simp_all; done) | (unfold RecorderFits at *; simp_all; omega))

theorem bootSlot_recorderFits (slot : Nat) (first : Nat) (s : State) (hs : RecorderFits s.recorder) : RecorderFits (bootSlot slot first s).recorder := by
  simp only [bootSlot]
  repeat' (first | (with_reducible assumption) | (with_reducible apply recordEvent_recorderFits) | split | dsimp only | simp
                 | (unfold RecorderFits at *; simp_all; done) | (unfold RecorderFits at *; simp_all; omega))

theorem handleEvent_recorderFits (i : DeferredEvent) (s : State) (hs : RecorderFits s.recorder) : RecorderFits (handleEvent i s).recorder := by
  simp only [handleEvent]
  repeat' (first | (with_reducible assumption) | (with_reducible apply handlePrsntRemoval_recorderFits)
                 | (with_reducible apply handleFailedPendingTimeout_recorderFits) | (with_reducible apply handleMemberAdminTimeout_recorderFits)
                 | (with_reducible apply handleMemberPortBringup_recorderFits) | (with_reducible apply handleRegionFault_recorderFits)
                 | (with_reducible apply handleMemberAsyncEvent_recorderFits) | (with_reducible apply handleMemberPortReadyTimeout_recorderFits)
                 | (with_reducible apply handleMemberPcieCompletionTimeout_recorderFits) | (with_reducible apply handlePrsntInsertion_recorderFits)
                 | (with_reducible apply handleLadderStepBoundExpiry_recorderFits) | (with_reducible apply handleContainmentRelease_recorderFits)
                 | (with_reducible apply handleDpcTrigger_recorderFits) | (with_reducible apply handleMemberCommandTimeout_recorderFits)
                 | (with_reducible apply handleGlildoLinkStall_recorderFits) | (with_reducible apply handleWithheldTagTimeout_recorderFits) | split
                 | dsimp only | simp | (unfold RecorderFits at *; simp_all; done) | (unfold RecorderFits at *; simp_all; omega))

theorem handOver_recorderFits (s : State) (hs : RecorderFits s.recorder) : RecorderFits (handOver s).recorder := by
  simp only [handOver]
  repeat' (first | (with_reducible assumption) | (with_reducible apply handleEvent_recorderFits)
                 | (with_reducible refine foldl_recorderFits _ (fun t x ht => ?_) _ _ ?_)
                 | (with_reducible refine foldl_snd_recorderFits _ (fun t x ht => ?_) _ _ ?_) | split | dsimp only | simp
                 | (unfold RecorderFits at *; simp_all; done) | (unfold RecorderFits at *; simp_all; omega))

theorem wasteUnit_recorderFits (s : State) (hs : RecorderFits s.recorder) : RecorderFits (wasteUnit s).recorder := by
  simp only [wasteUnit]
  repeat' (first | (with_reducible assumption) | (with_reducible apply roomFor_recorderFits) | split | dsimp only | simp
                 | (unfold RecorderFits at *; simp_all; done) | (unfold RecorderFits at *; simp_all; omega))

theorem endAuth_recorderFits (s : State) (hs : RecorderFits s.recorder) : RecorderFits (endAuth s).recorder := by
  simp only [endAuth]
  repeat' (first | (with_reducible assumption) | (with_reducible apply disarmFinj_recorderFits) | (with_reducible apply recordEvent_recorderFits) | split
                 | dsimp only | simp | (unfold RecorderFits at *; simp_all; done) | (unfold RecorderFits at *; simp_all; omega))

theorem rejectSlot_recorderFits (slot : Nat) (s : State) (hs : RecorderFits s.recorder) : RecorderFits (rejectSlot slot s).recorder := by
  simp only [rejectSlot]
  repeat' (first | (with_reducible assumption) | (with_reducible apply recordEvent_recorderFits) | split | dsimp only | simp
                 | (unfold RecorderFits at *; simp_all; done) | (unfold RecorderFits at *; simp_all; omega))

theorem raiseSvn_recorderFits (s : State) (hs : RecorderFits s.recorder) : RecorderFits (raiseSvn s).recorder := by
  simp only [raiseSvn]
  repeat' (first | (with_reducible assumption) | (with_reducible apply recordEvent_recorderFits) | split | dsimp only | simp
                 | (unfold RecorderFits at *; simp_all; done) | (unfold RecorderFits at *; simp_all; omega))

theorem hwAppend_recorderFits (kind : Nat) (units : Nat) (body : Bytes) (s : State)
    (hs : RecorderFits s.recorder) : RecorderFits (hwAppend kind units body s).recorder := by
  simp only [hwAppend]
  repeat' (first | (with_reducible assumption) | (with_reducible apply roomFor_recorderFits) | (with_reducible apply programHeld_recorderFits)
                 | (with_reducible apply programEntry_recorderFits) | split | dsimp only | simp | (unfold RecorderFits at *; simp_all; done)
                 | (unfold RecorderFits at *; simp_all; omega))

theorem appendMembers_recorderFits (s : State) (hs : RecorderFits s.recorder) : RecorderFits (appendMembers s).recorder := by
  simp only [appendMembers]
  repeat' (first | (with_reducible assumption) | (with_reducible apply hwAppend_recorderFits) | split | dsimp only | simp
                 | (unfold RecorderFits at *; simp_all; done) | (unfold RecorderFits at *; simp_all; omega))

theorem chooseSlot_recorderFits (s : State) (hs : RecorderFits s.recorder) : RecorderFits (chooseSlot s).recorder := by
  simp only [chooseSlot]
  repeat' (first | (with_reducible assumption) | (with_reducible apply bootSlot_recorderFits) | (with_reducible apply rejectSlot_recorderFits) | split
                 | dsimp only | simp | (unfold RecorderFits at *; simp_all; done) | (unfold RecorderFits at *; simp_all; omega))

theorem loadOwner_recorderFits (s : State) (hs : RecorderFits s.recorder) : RecorderFits (loadOwner s).recorder := by
  simp only [loadOwner]
  repeat' (first | (with_reducible assumption) | (with_reducible apply recordEvent_recorderFits) | split | dsimp only | simp
                 | (unfold RecorderFits at *; simp_all; done) | (unfold RecorderFits at *; simp_all; omega))

theorem refuseOwner_recorderFits (ref : CmdRef) (action : Nat) (why : Nat) (s : State)
    (hs : RecorderFits s.recorder) : RecorderFits (refuseOwner ref action why s).recorder := by
  simp only [refuseOwner]
  repeat' (first | (with_reducible assumption) | (with_reducible apply recordEvent_recorderFits) | split | dsimp only | simp
                 | (unfold RecorderFits at *; simp_all; done) | (unfold RecorderFits at *; simp_all; omega))

theorem writeFrozen_recorderFits (frozen : Bool) (s : State) (hs : RecorderFits s.recorder) : RecorderFits (writeFrozen frozen s).recorder := by
  simp only [writeFrozen]
  repeat' (first | (with_reducible assumption) | (with_reducible apply freezeRing_recorderFits) | (with_reducible apply thawRing_recorderFits) | split
                 | dsimp only | simp | (unfold RecorderFits at *; simp_all; done) | (unfold RecorderFits at *; simp_all; omega))

theorem spillCatchUp_recorderFits (s : State) (hs : RecorderFits s.recorder) : RecorderFits (spillCatchUp s).recorder := by
  simp only [spillCatchUp]
  repeat' (first | (with_reducible assumption) | (with_reducible refine foldl_recorderFits _ (fun t x ht => ?_) _ _ ?_)
                 | (with_reducible refine foldl_snd_recorderFits _ (fun t x ht => ?_) _ _ ?_) | split | dsimp only | simp
                 | (unfold RecorderFits at *; simp_all; done) | (unfold RecorderFits at *; simp_all; omega))

theorem appendBoot_recorderFits (ok : Bool) (stopState : Nat) (s : State) (hs : RecorderFits s.recorder) : RecorderFits (appendBoot ok stopState s).recorder := by
  simp only [appendBoot]
  repeat' (first | (with_reducible assumption) | (with_reducible apply hwAppend_recorderFits) | (with_reducible apply wasteUnit_recorderFits)
                 | (with_reducible apply recordEvent_recorderFits) | (with_reducible refine foldl_recorderFits _ (fun t x ht => ?_) _ _ ?_)
                 | (with_reducible refine foldl_snd_recorderFits _ (fun t x ht => ?_) _ _ ?_) | split | dsimp only | simp
                 | (unfold RecorderFits at *; simp_all; done) | (unfold RecorderFits at *; simp_all; omega))

theorem noteTorn_recorderFits (s : State) (hs : RecorderFits s.recorder) : RecorderFits (noteTorn s).recorder := by
  simp only [noteTorn]
  repeat' (first | (with_reducible assumption) | (with_reducible apply recordEvent_recorderFits) | split | dsimp only | simp
                 | (unfold RecorderFits at *; simp_all; done) | (unfold RecorderFits at *; simp_all; omega))

theorem revokeKeys_recorderFits (s : State) (hs : RecorderFits s.recorder) : RecorderFits (revokeKeys s).recorder := by
  simp only [revokeKeys]
  repeat' (first | (with_reducible assumption) | (with_reducible apply recordEvent_recorderFits)
                 | (with_reducible refine foldl_recorderFits _ (fun t x ht => ?_) _ _ ?_)
                 | (with_reducible refine foldl_snd_recorderFits _ (fun t x ht => ?_) _ _ ?_) | split | dsimp only | simp
                 | (unfold RecorderFits at *; simp_all; done) | (unfold RecorderFits at *; simp_all; omega))

theorem setCap_recorderFits (w : Nat) (s : State) (hs : RecorderFits s.recorder) : RecorderFits (setCap w s).recorder := by
  simp only [setCap]
  repeat' (first | (with_reducible assumption) | (with_reducible apply recordEvent_recorderFits) | split | dsimp only | simp
                 | (unfold RecorderFits at *; simp_all; done) | (unfold RecorderFits at *; simp_all; omega))

theorem setVendor_recorderFits (a : FeatureArgs) (s : State) (hs : RecorderFits s.recorder) : RecorderFits (setVendor a s).2.recorder := by
  simp only [setVendor]
  repeat' (first | (with_reducible assumption) | (with_reducible apply policyCheck_recorderFits) | (with_reducible apply setCap_recorderFits) | split
                 | dsimp only | simp | (unfold RecorderFits at *; simp_all; done) | (unfold RecorderFits at *; simp_all; omega))

theorem setStandard_recorderFits (ctl : Nat) (a : FeatureArgs) (s : State) (hs : RecorderFits s.recorder) : RecorderFits (setStandard ctl a s).2.2.recorder := by
  simp only [setStandard]
  repeat' (first | (with_reducible assumption) | split | dsimp only | simp | (unfold RecorderFits at *; simp_all; done)
                 | (unfold RecorderFits at *; simp_all; omega))

theorem rewriteDecks_recorderFits (s : State) (hs : RecorderFits s.recorder) : RecorderFits (rewriteDecks s).recorder := by
  simp only [rewriteDecks]
  repeat' (first | (with_reducible assumption) | (with_reducible apply rewriteRing_recorderFits)
                 | (with_reducible refine foldl_recorderFits _ (fun t x ht => ?_) _ _ ?_)
                 | (with_reducible refine foldl_snd_recorderFits _ (fun t x ht => ?_) _ _ ?_) | split | dsimp only | simp
                 | (unfold RecorderFits at *; simp_all; done) | (unfold RecorderFits at *; simp_all; omega))

theorem wipeAll_recorderFits (overwrite : Bool) (s : State) (hs : RecorderFits s.recorder) : RecorderFits (wipeAll overwrite s).recorder := by
  simp only [wipeAll]
  repeat' (first | (with_reducible assumption) | (with_reducible apply trimData_recorderFits) | (with_reducible apply evalDeck_recorderFits)
                 | (with_reducible refine foldl_recorderFits _ (fun t x ht => ?_) _ _ ?_)
                 | (with_reducible refine foldl_snd_recorderFits _ (fun t x ht => ?_) _ _ ?_) | split | dsimp only | simp
                 | (unfold RecorderFits at *; simp_all; done) | (unfold RecorderFits at *; simp_all; omega))

theorem formatOne_recorderFits (lbaf : Nat) (dps : Nat) (ses : Nat) (s : State) (nsid : Nat)
    (hs : RecorderFits s.recorder) : RecorderFits (formatOne lbaf dps ses s nsid).recorder := by
  simp only [formatOne]
  repeat' (first | (with_reducible assumption) | (with_reducible apply trimData_recorderFits) | (with_reducible apply evalDeck_recorderFits) | split
                 | dsimp only | simp | (unfold RecorderFits at *; simp_all; done) | (unfold RecorderFits at *; simp_all; omega))

theorem loseLink_recorderFits (port : Nat) (bit : Option Nat) (s : State) (hs : RecorderFits s.recorder) : RecorderFits (loseLink port bit s).recorder := by
  simp only [loseLink]
  repeat' (first | (with_reducible assumption) | (with_reducible apply controllerReset_recorderFits) | (with_reducible apply recordEvent_recorderFits)
                 | split | dsimp only | simp | (unfold RecorderFits at *; simp_all; done) | (unfold RecorderFits at *; simp_all; omega))

theorem flReset_recorderFits (fn : Nat) (s : State) (hs : RecorderFits s.recorder) : RecorderFits (flReset fn s).recorder := by
  simp only [flReset]
  repeat' (first | (with_reducible assumption) | (with_reducible apply retireInbound_recorderFits) | (with_reducible apply controllerReset_recorderFits)
                 | split | dsimp only | simp | (unfold RecorderFits at *; simp_all; done) | (unfold RecorderFits at *; simp_all; omega))

theorem cfgWrite_recorderFits (fn : Nat) (off : Nat) (v : BitVec 32) (s : State) (hs : RecorderFits s.recorder) : RecorderFits (cfgWrite fn off v s).recorder := by
  simp only [cfgWrite]
  repeat' (first | (with_reducible assumption) | (with_reducible apply flReset_recorderFits) | split | dsimp only | simp
                 | (unfold RecorderFits at *; simp_all; done) | (unfold RecorderFits at *; simp_all; omega))

theorem retentionLost_recorderFits (s : State) (hs : RecorderFits s.recorder) : RecorderFits (retentionLost s).recorder := by
  simp only [retentionLost]
  repeat' (first | (with_reducible assumption) | split | dsimp only | simp | (unfold RecorderFits at *; simp_all; done)
                 | (unfold RecorderFits at *; simp_all; omega))

theorem loadCal_recorderFits (s : State) (hs : RecorderFits s.recorder) : RecorderFits (loadCal s).recorder := by
  simp only [loadCal]
  repeat' (first | (with_reducible assumption) | (with_reducible apply recordEvent_recorderFits) | split | dsimp only | simp
                 | (unfold RecorderFits at *; simp_all; done) | (unfold RecorderFits at *; simp_all; omega))

theorem noteTornStop_recorderFits (s : State) (hs : RecorderFits s.recorder) : RecorderFits (noteTornStop s).recorder := by
  simp only [noteTornStop]
  repeat' (first | (with_reducible assumption) | (with_reducible apply recordEvent_recorderFits) | split | dsimp only | simp
                 | (unfold RecorderFits at *; simp_all; done) | (unfold RecorderFits at *; simp_all; omega))

theorem bootRom_recorderFits (s : State) (hs : RecorderFits s.recorder) : RecorderFits (bootRom s).recorder := by
  simp only [bootRom]
  repeat' (first | (with_reducible assumption) | (with_reducible apply noteTorn_recorderFits) | (with_reducible apply spillCatchUp_recorderFits)
                 | (with_reducible apply loadCal_recorderFits) | (with_reducible apply chooseSlot_recorderFits) | (with_reducible apply noteTornStop_recorderFits)
                 | (with_reducible apply loadOwner_recorderFits) | split | dsimp only | simp | (unfold RecorderFits at *; simp_all; done)
                 | (unfold RecorderFits at *; simp_all; omega))

theorem hostAfterReset_recorderFits (s : State) (hs : RecorderFits s.recorder) : RecorderFits (hostAfterReset s).recorder := by
  simp only [hostAfterReset]
  repeat' (first | (with_reducible assumption) | (with_reducible apply controllerReset_recorderFits)
                 | (with_reducible refine foldl_recorderFits _ (fun t x ht => ?_) _ _ ?_)
                 | (with_reducible refine foldl_snd_recorderFits _ (fun t x ht => ?_) _ _ ?_) | split | dsimp only | simp
                 | (unfold RecorderFits at *; simp_all; done) | (unfold RecorderFits at *; simp_all; omega))

theorem unitsAfterReset_recorderFits (s : State) (hs : RecorderFits s.recorder) : RecorderFits (unitsAfterReset s).recorder := by
  simp only [unitsAfterReset]
  repeat' (first | (with_reducible assumption) | (with_reducible apply hostAfterReset_recorderFits) | (with_reducible apply endAuth_recorderFits)
                 | (with_reducible apply leaveQuarantine_recorderFits) | (with_reducible apply disarmFinj_recorderFits) | split | dsimp only | simp
                 | (unfold RecorderFits at *; simp_all; done) | (unfold RecorderFits at *; simp_all; omega))

theorem disarmShip_recorderFits (s : State) (hs : RecorderFits s.recorder) : RecorderFits (disarmShip s).recorder := by
  simp only [disarmShip]
  repeat' (first | (with_reducible assumption) | (with_reducible apply recordEvent_recorderFits) | split | dsimp only | simp
                 | (unfold RecorderFits at *; simp_all; done) | (unfold RecorderFits at *; simp_all; omega))

theorem deviceReset_recorderFits (cause : Nat) (hold : Bool) (s : State) (hs : RecorderFits s.recorder) : RecorderFits (deviceReset cause hold s).recorder := by
  simp only [deviceReset]
  repeat' (first | (with_reducible assumption) | (with_reducible apply unitsAfterReset_recorderFits) | (with_reducible apply bootRom_recorderFits)
                 | (with_reducible apply transit_recorderFits) | (with_reducible apply recordEvent_recorderFits) | (with_reducible apply disarmShip_recorderFits)
                 | split | dsimp only | simp | (unfold RecorderFits at *; simp_all; done) | (unfold RecorderFits at *; simp_all; omega))

theorem unitsUnpowered_recorderFits (s : State) (hs : RecorderFits s.recorder) : RecorderFits (unitsUnpowered s).recorder := by
  simp only [unitsUnpowered]
  repeat' (first | (with_reducible assumption) | split | dsimp only | simp | (unfold RecorderFits at *; simp_all; done)
                 | (unfold RecorderFits at *; simp_all; omega))

theorem settleStandby_recorderFits (s : State) (hs : RecorderFits s.recorder) : RecorderFits (settleStandby s).recorder := by
  simp only [settleStandby]
  repeat' (first | (with_reducible assumption) | (with_reducible apply retentionLost_recorderFits) | (with_reducible apply transit_recorderFits) | split
                 | dsimp only | simp | (unfold RecorderFits at *; simp_all; done) | (unfold RecorderFits at *; simp_all; omega))

theorem mainOff_recorderFits (s : State) (hs : RecorderFits s.recorder) : RecorderFits (mainOff s).recorder := by
  simp only [mainOff]
  repeat' (first | (with_reducible assumption) | (with_reducible apply settleStandby_recorderFits) | (with_reducible apply unitsUnpowered_recorderFits)
                 | split | dsimp only | simp | (unfold RecorderFits at *; simp_all; done) | (unfold RecorderFits at *; simp_all; omega))

theorem coldDomain_recorderFits (s : State) (hs : RecorderFits s.recorder) : RecorderFits (coldDomain s).recorder := by
  simp only [coldDomain]
  repeat' (first | (with_reducible assumption) | split | dsimp only | simp | (unfold RecorderFits at *; simp_all; done)
                 | (unfold RecorderFits at *; simp_all; omega))

theorem sentinelStops_recorderFits (s : State) (hs : RecorderFits s.recorder) : RecorderFits (sentinelStops s).recorder := by
  simp only [sentinelStops]
  repeat' (first | (with_reducible assumption) | (with_reducible apply retentionLost_recorderFits) | split | dsimp only | simp
                 | (unfold RecorderFits at *; simp_all; done) | (unfold RecorderFits at *; simp_all; omega))

theorem beginFlush_recorderFits (abrupt : Option Nat) (s : State) (hs : RecorderFits s.recorder) : RecorderFits (beginFlush abrupt s).recorder := by
  simp only [beginFlush]
  repeat' (first | (with_reducible assumption) | (with_reducible apply recordEvent_recorderFits) | split | dsimp only | simp
                 | (unfold RecorderFits at *; simp_all; done) | (unfold RecorderFits at *; simp_all; omega))

theorem countTrip_recorderFits (s : State) (hs : RecorderFits s.recorder) : RecorderFits (countTrip s).recorder := by
  simp only [countTrip]
  repeat' (first | (with_reducible assumption) | (with_reducible apply recordEvent_recorderFits) | split | dsimp only | simp
                 | (unfold RecorderFits at *; simp_all; done) | (unfold RecorderFits at *; simp_all; omega))

theorem leaveHoldup_recorderFits (s : State) (hs : RecorderFits s.recorder) : RecorderFits (leaveHoldup s).recorder := by
  simp only [leaveHoldup]
  repeat' (first | (with_reducible assumption) | (with_reducible apply mainOff_recorderFits) | (with_reducible apply transit_recorderFits)
                 | (with_reducible apply disarmShip_recorderFits) | (with_reducible apply unitsUnpowered_recorderFits) | split | dsimp only | simp
                 | (unfold RecorderFits at *; simp_all; done) | (unfold RecorderFits at *; simp_all; omega))

theorem abortFlush_recorderFits (cutoff : Bool) (pages : Nat) (ms : Nat) (mj : Nat) (mv : Nat) (s : State)
    (hs : RecorderFits s.recorder) : RecorderFits (abortFlush cutoff pages ms mj mv s).recorder := by
  simp only [abortFlush]
  repeat' (first | (with_reducible assumption) | (with_reducible apply recordEvent_recorderFits) | (with_reducible apply sentinelStops_recorderFits)
                 | (with_reducible apply leaveHoldup_recorderFits) | (with_reducible apply unitsUnpowered_recorderFits) | split | dsimp only | simp
                 | (unfold RecorderFits at *; simp_all; done) | (unfold RecorderFits at *; simp_all; omega))

theorem dropGaugeWork_recorderFits (s : State) (hs : RecorderFits s.recorder) : RecorderFits (dropGaugeWork s).recorder := by
  simp only [dropGaugeWork]
  repeat' (first | (with_reducible assumption) | (with_reducible apply endLearning_recorderFits) | split | dsimp only | simp
                 | (unfold RecorderFits at *; simp_all; done) | (unfold RecorderFits at *; simp_all; omega))

theorem membersOff_recorderFits (s : State) (hs : RecorderFits s.recorder) : RecorderFits (membersOff s).recorder := by
  simp only [membersOff]
  repeat' (first | (with_reducible assumption) | (with_reducible apply recordEvent_recorderFits)
                 | (with_reducible refine foldl_recorderFits _ (fun t x ht => ?_) _ _ ?_)
                 | (with_reducible refine foldl_snd_recorderFits _ (fun t x ht => ?_) _ _ ?_) | split | dsimp only | simp
                 | (unfold RecorderFits at *; simp_all; done) | (unfold RecorderFits at *; simp_all; omega))

theorem enterHoldup_recorderFits (why : Nat) (s : State) (hs : RecorderFits s.recorder) : RecorderFits (enterHoldup why s).recorder := by
  simp only [enterHoldup]
  repeat' (first | (with_reducible assumption) | (with_reducible apply membersOff_recorderFits) | (with_reducible apply beginFlush_recorderFits)
                 | (with_reducible apply transit_recorderFits) | (with_reducible refine foldl_recorderFits _ (fun t x ht => ?_) _ _ ?_)
                 | (with_reducible refine foldl_snd_recorderFits _ (fun t x ht => ?_) _ _ ?_) | split | dsimp only | simp
                 | (unfold RecorderFits at *; simp_all; done) | (unfold RecorderFits at *; simp_all; omega))

theorem powerTrip_recorderFits (why : Nat) (s : State) (hs : RecorderFits s.recorder) : RecorderFits (powerTrip why s).recorder := by
  simp only [powerTrip]
  repeat' (first | (with_reducible assumption) | (with_reducible apply countTrip_recorderFits) | (with_reducible apply abortFlush_recorderFits)
                 | (with_reducible apply dropGaugeWork_recorderFits) | (with_reducible apply mainOff_recorderFits)
                 | (with_reducible apply leaveQuarantine_recorderFits) | (with_reducible apply transit_recorderFits)
                 | (with_reducible apply enterHoldup_recorderFits) | split | dsimp only | simp | (unfold RecorderFits at *; simp_all; done)
                 | (unfold RecorderFits at *; simp_all; omega))

theorem endFlush_recorderFits (im : VaultImage) (j : FlushJob) (ms : Nat) (mj : Nat) (minMv : Nat) (s : State)
    (hs : RecorderFits s.recorder) : RecorderFits (endFlush im j ms mj minMv s).recorder := by
  simp only [endFlush]
  repeat' (first | (with_reducible assumption) | (with_reducible apply recordEvent_recorderFits) | split | dsimp only | simp
                 | (unfold RecorderFits at *; simp_all; done) | (unfold RecorderFits at *; simp_all; omega))

theorem mendFound_recorderFits (id : Nat) (hd : Nat) (row : Nat) (d : Deck) (rs : List BlockRead) (s : State)
    (hs : RecorderFits s.recorder) : RecorderFits (mendFound id hd row d rs s).recorder := by
  simp only [mendFound]
  repeat' (first | (with_reducible assumption) | (with_reducible apply consistRow_recorderFits) | split | dsimp only | simp
                 | (unfold RecorderFits at *; simp_all; done) | (unfold RecorderFits at *; simp_all; omega))

theorem directSecond_recorderFits (id : Nat) (nsid : Nat) (page : Nat) (new : Bytes) (reads : List (Nat × Nat × List BlockRead)) (s : State) (t : State) (e : directSecond id nsid page new reads s = some t)
    (hs : RecorderFits s.recorder) : RecorderFits t.recorder := by
  simp only [directSecond] at e
  (repeat' split at e) <;> (first | (simp at e; done) | skip)
  all_goals (simp only [Option.some.injEq] at e; subst e)
  all_goals repeat' (first | (with_reducible apply durableIntent_recorderFits) | (with_reducible apply releaseIntent_recorderFits)
                           | (with_reducible assumption) | split | simp)

theorem relistPage_recorderFits (p : ImagePage) (v : Volume) (s : State) (hs : RecorderFits s.recorder) : RecorderFits (relistPage p v s).recorder := by
  simp only [relistPage]
  repeat' (first | (with_reducible assumption) | (with_reducible apply clearPages_recorderFits) | (with_reducible apply listPages_recorderFits) | split
                 | dsimp only | simp | (unfold RecorderFits at *; simp_all; done) | (unfold RecorderFits at *; simp_all; omega))

theorem directRow_recorderFits (p : ImagePage) (id : Nat) (hd : Nat) (row : Nat) (c : Nat) (v : Volume) (rs : List BlockRead) (d : Deck) (s : State)
    (hs : RecorderFits s.recorder) : RecorderFits (directRow p id hd row c v rs d s).2.recorder := by
  simp only [directRow]
  repeat' (first | (with_reducible assumption) | (with_reducible apply relistPage_recorderFits) | (with_reducible apply durableIntent_recorderFits)
                 | (with_reducible apply releaseIntent_recorderFits) | split | dsimp only | simp | (unfold RecorderFits at *; simp_all; done)
                 | (unfold RecorderFits at *; simp_all; omega))

theorem directUpdate_recorderFits (p : ImagePage) (id : Nat) (hd : Nat) (row : Nat) (c : Nat) (v : Volume) (reads : List (Nat × Nat × List BlockRead)) (s : State) (t : State) (e : directUpdate p id hd row c v reads s = some t)
    (hs : RecorderFits s.recorder) : RecorderFits t.recorder := by
  simp only [directUpdate] at e
  split at e
  · simp only [Option.some.injEq] at e; subst e; exact hs
  · split at e
    · simp at e
    · have hm := fun d => mendFound_recorderFits id hd row d (readsFor reads id hd) s hs
      split at e
      · simp only [Option.some.injEq] at e; subst e; exact hm _
      · split at e
        · rename_i u hu
          have hr : _ = u := congrArg Prod.snd hu
          simp only [Option.some.injEq] at e; subst e; subst hr
          exact directRow_recorderFits _ _ _ _ _ _ _ _ _ (hm _)
        · rename_i u hu
          have hr : _ = u := congrArg Prod.snd hu
          subst hr
          exact directSecond_recorderFits _ _ _ _ _ _ _ e (directRow_recorderFits _ _ _ _ _ _ _ _ _ (hm _))

theorem restoreRedeal_recorderFits (id : Nat) (found : Bool) (recs : List JRec) (s : State)
    (hs : RecorderFits s.recorder) : RecorderFits (restoreRedeal id found recs s).recorder := by
  simp only [restoreRedeal]
  repeat' (first | (with_reducible assumption) | (with_reducible apply redealRec_recorderFits) | split | dsimp only | simp
                 | (unfold RecorderFits at *; simp_all; done) | (unfold RecorderFits at *; simp_all; omega))

theorem resumeRedeal_recorderFits (id : Nat) (s : State) (hs : RecorderFits s.recorder) : RecorderFits (resumeRedeal id s).recorder := by
  simp only [resumeRedeal]
  repeat' (first | (with_reducible assumption) | (with_reducible apply recordEvent_recorderFits) | split | dsimp only | simp
                 | (unfold RecorderFits at *; simp_all; done) | (unfold RecorderFits at *; simp_all; omega))

theorem bootTests_recorderFits (b : BootChecks) (s : State) (hs : RecorderFits s.recorder) : RecorderFits (bootTests b s).recorder := by
  simp only [bootTests]
  repeat' (first | (with_reducible assumption) | (with_reducible apply spareSublink_recorderFits) | (with_reducible apply repairRow_recorderFits)
                 | (with_reducible apply tearRepair_recorderFits) | (with_reducible apply dropVaultChannel_recorderFits)
                 | (with_reducible apply retireCell_recorderFits) | (with_reducible refine foldl_recorderFits _ (fun t x ht => ?_) _ _ ?_)
                 | (with_reducible refine foldl_snd_recorderFits _ (fun t x ht => ?_) _ _ ?_) | split | dsimp only | simp
                 | (unfold RecorderFits at *; simp_all; done) | (unfold RecorderFits at *; simp_all; omega))

theorem settleKeepers_recorderFits (id : Nat) (s : State) (hs : RecorderFits s.recorder) : RecorderFits (settleKeepers id s).recorder := by
  simp only [settleKeepers]
  repeat' (first | (with_reducible assumption) | (with_reducible apply dropKeeper_recorderFits) | (with_reducible apply improveKeepers_recorderFits)
                 | (with_reducible apply beginReplica_recorderFits) | (with_reducible refine foldl_recorderFits _ (fun t x ht => ?_) _ _ ?_)
                 | (with_reducible refine foldl_snd_recorderFits _ (fun t x ht => ?_) _ _ ?_) | split | dsimp only | simp
                 | (unfold RecorderFits at *; simp_all; done) | (unfold RecorderFits at *; simp_all; omega))

theorem settleDecks_recorderFits (s : State) (hs : RecorderFits s.recorder) : RecorderFits (settleDecks s).recorder := by
  simp only [settleDecks]
  repeat' (first | (with_reducible assumption) | (with_reducible apply settleMember_recorderFits) | (with_reducible apply startRecorded_recorderFits)
                 | (with_reducible apply settleRebuilt_recorderFits) | (with_reducible apply evalDeck_recorderFits)
                 | (with_reducible apply resumeRedeal_recorderFits) | (with_reducible apply settleKeepers_recorderFits)
                 | (with_reducible refine foldl_recorderFits _ (fun t x ht => ?_) _ _ ?_)
                 | (with_reducible refine foldl_snd_recorderFits _ (fun t x ht => ?_) _ _ ?_) | split | dsimp only | simp
                 | (unfold RecorderFits at *; simp_all; done) | (unfold RecorderFits at *; simp_all; omega))

theorem beginService_recorderFits (noServe : Nat) (noConstr : Nat) (s : State)
    (hs : RecorderFits s.recorder) : RecorderFits (beginService noServe noConstr s).recorder := by
  simp only [beginService]
  repeat' (first | (with_reducible assumption) | (with_reducible apply noLevel_recorderFits) | (with_reducible apply settleDecks_recorderFits)
                 | (with_reducible apply enterService_recorderFits) | (with_reducible apply policyCheck_recorderFits)
                 | (with_reducible refine foldl_recorderFits _ (fun t x ht => ?_) _ _ ?_)
                 | (with_reducible refine foldl_snd_recorderFits _ (fun t x ht => ?_) _ _ ?_) | split | dsimp only | simp
                 | (unfold RecorderFits at *; simp_all; done) | (unfold RecorderFits at *; simp_all; omega))

theorem settleRestore_recorderFits (unclean : List Nat) (resynced : List Nat) (s : State)
    (hs : RecorderFits s.recorder) : RecorderFits (settleRestore unclean resynced s).recorder := by
  simp only [settleRestore]
  repeat' (first | (with_reducible assumption) | (with_reducible apply beginService_recorderFits) | (with_reducible apply enterQuarantine_recorderFits)
                 | split | dsimp only | simp | (unfold RecorderFits at *; simp_all; done) | (unfold RecorderFits at *; simp_all; omega))

theorem applySource_recorderFits (id : Nat) (src : Source) (gone : List ImagePage) (s : State)
    (hs : RecorderFits s.recorder) : RecorderFits (applySource id src gone s).2.recorder := by
  simp only [applySource]
  repeat' (first | (with_reducible assumption) | (with_reducible apply restoreRedeal_recorderFits) | (with_reducible apply resyncIfDue_recorderFits)
                 | (with_reducible apply recordEvent_recorderFits) | split | dsimp only | simp | (unfold RecorderFits at *; simp_all; done)
                 | (unfold RecorderFits at *; simp_all; omega))

theorem applyClean_recorderFits (id : Nat) (s : State) (hs : RecorderFits s.recorder) : RecorderFits (applyClean id s).recorder := by
  simp only [applyClean]
  repeat' (first | (with_reducible assumption) | (with_reducible apply restoreRedeal_recorderFits)
                 | (with_reducible refine foldl_recorderFits _ (fun t x ht => ?_) _ _ ?_)
                 | (with_reducible refine foldl_snd_recorderFits _ (fun t x ht => ?_) _ _ ?_) | split | dsimp only | simp
                 | (unfold RecorderFits at *; simp_all; done) | (unfold RecorderFits at *; simp_all; omega))

theorem restoreDecks_recorderFits (gone : List ImagePage) (s : State) (hs : RecorderFits s.recorder) : RecorderFits (restoreDecks gone s).2.2.recorder := by
  simp only [restoreDecks]
  repeat' (first | (with_reducible assumption) | (with_reducible apply applySource_recorderFits) | (with_reducible apply evalDeck_recorderFits)
                 | (with_reducible apply applyClean_recorderFits) | (with_reducible refine foldl_recorderFits _ (fun t x ht => ?_) _ _ ?_)
                 | (with_reducible refine foldl_snd_recorderFits _ (fun t x ht => ?_) _ _ ?_) | split | dsimp only | simp
                 | (unfold RecorderFits at *; simp_all; done) | (unfold RecorderFits at *; simp_all; omega))

theorem replayHand_recorderFits (id : Nat) (hd : Nat) (second : Bool) (reads : List BlockRead) (s : State) (t : State) (e : replayHand id hd second reads s = some t)
    (hs : RecorderFits s.recorder) : RecorderFits t.recorder := by
  simp only [replayHand] at e
  refine foldl_bind_recorderFits _ (fun u x w hw hu => ?_) _ _ _ e hs
  (repeat' split at hw) <;> first
    | (simp at hw; done)
    | (simp only [Option.some.injEq] at hw; subst hw; first | exact hu | exact replayIntent_recorderFits _ _ _ _ hu)

theorem directPage_recorderFits (p : ImagePage) (reads : List (Nat × Nat × List BlockRead)) (s : State) (t : State) (e : directPage p reads s = some t)
    (hs : RecorderFits s.recorder) : RecorderFits t.recorder := by
  simp only [directPage] at e
  split at e
  · simp only [Option.some.injEq] at e; subst e; exact hs
  · split at e
    · simp only [Option.some.injEq] at e; subst e; exact hs
    · split at e
      · simp only [Option.some.injEq] at e; subst e; exact hs
      · split at e
        · simp at e
        · rename_i u hu
          exact directUpdate_recorderFits _ _ _ _ _ _ _ _ _ e (replayHand_recorderFits _ _ _ _ _ _ hu (by simpa using hs))

theorem directPages_recorderFits (ps : List ImagePage) (reads : List (Nat × Nat × List BlockRead)) (s : State) (t : State) (e : directPages ps reads s = some t)
    (hs : RecorderFits s.recorder) : RecorderFits t.recorder := by
  simp only [directPages] at e
  split at e
  · simp at e
  · rename_i u hu
    simp only [Option.some.injEq] at e
    subst e
    have hv := foldl_bind_recorderFits _ (fun a x b hb ha => directPage_recorderFits _ _ _ _ hb ha) _ _ _ hu hs
    split
    · exact hv
    · exact foldl_recorderFits _ (fun t x ht => trimData_recorderFits _ _ ht) _ _ hv

theorem endRestore_recorderFits (left : List ImagePage) (reads : List (Nat × Nat × List BlockRead)) (s : State) (t : State) (e : endRestore left reads s = some t)
    (hs : RecorderFits s.recorder) : RecorderFits t.recorder := by
  simp only [endRestore] at e
  split at e
  · simp at e
  · rename_i u hu
    simp only [Option.some.injEq] at e
    subst e
    exact settleRestore_recorderFits _ _ _ (directPages_recorderFits _ _ _ _ hu (restoreDecks_recorderFits _ _ hs))

theorem bootEntries_recorderFits (ok : Bool) (s : State) (hs : RecorderFits s.recorder) : RecorderFits (bootEntries ok s).recorder := by
  simp only [bootEntries]
  repeat' (first | (with_reducible assumption) | (with_reducible apply appendBoot_recorderFits) | (with_reducible apply appendMembers_recorderFits)
                 | split | dsimp only | simp | (unfold RecorderFits at *; simp_all; done) | (unfold RecorderFits at *; simp_all; omega))

theorem requestCycle_recorderFits (source : Nat) (ctl : Nat) (s : State) (hs : RecorderFits s.recorder) : RecorderFits (requestCycle source ctl s).recorder := by
  simp only [requestCycle]
  repeat' (first | (with_reducible assumption) | (with_reducible apply recordEvent_recorderFits) | split | dsimp only | simp
                 | (unfold RecorderFits at *; simp_all; done) | (unfold RecorderFits at *; simp_all; omega))

theorem writeRcvCtl_recorderFits (fn : Nat) (value : BitVec 32) (s : State) (hs : RecorderFits s.recorder) : RecorderFits (writeRcvCtl fn value s).recorder := by
  simp only [writeRcvCtl]
  repeat' (first | (with_reducible assumption) | (with_reducible apply recordEvent_recorderFits) | (with_reducible apply requestCycle_recorderFits)
                 | (with_reducible apply deviceReset_recorderFits) | split | dsimp only | simp | (unfold RecorderFits at *; simp_all; done)
                 | (unfold RecorderFits at *; simp_all; omega))

theorem trimDeck_recorderFits (id : Nat) (s : State) (hs : RecorderFits s.recorder) : RecorderFits (trimDeck id s).recorder := by
  simp only [trimDeck]
  repeat' (first | (with_reducible assumption) | (with_reducible apply closeTrim_recorderFits) | (with_reducible apply patrolRec_recorderFits)
                 | (with_reducible apply releaseRec_recorderFits) | (with_reducible refine foldl_recorderFits _ (fun t x ht => ?_) _ _ ?_)
                 | (with_reducible refine foldl_snd_recorderFits _ (fun t x ht => ?_) _ _ ?_) | split | dsimp only | simp
                 | (unfold RecorderFits at *; simp_all; done) | (unfold RecorderFits at *; simp_all; omega))

theorem stopClean_recorderFits (s : State) (hs : RecorderFits s.recorder) : RecorderFits (stopClean s).recorder := by
  simp only [stopClean]
  repeat' (first | (with_reducible assumption) | (with_reducible apply trimDeck_recorderFits)
                 | (with_reducible refine foldl_recorderFits _ (fun t x ht => ?_) _ _ ?_)
                 | (with_reducible refine foldl_snd_recorderFits _ (fun t x ht => ?_) _ _ ?_) | split | dsimp only | simp
                 | (unfold RecorderFits at *; simp_all; done) | (unfold RecorderFits at *; simp_all; omega))

theorem shutAbrupt_recorderFits (ctl : Nat) (s : State) (hs : RecorderFits s.recorder) : RecorderFits (shutAbrupt ctl s).recorder := by
  simp only [shutAbrupt]
  repeat' (first | (with_reducible assumption) | (with_reducible apply beginFlush_recorderFits) | split | dsimp only | simp
                 | (unfold RecorderFits at *; simp_all; done) | (unfold RecorderFits at *; simp_all; omega))

theorem writeCmbmsc_recorderFits (ctl : Nat) (high : Bool) (v : BitVec 32) (s : State)
    (hs : RecorderFits s.recorder) : RecorderFits (writeCmbmsc ctl high v s).recorder := by
  simp only [writeCmbmsc]
  repeat' (first | (with_reducible assumption) | (with_reducible apply cmbmscWrite_recorderFits) | split | dsimp only | simp
                 | (unfold RecorderFits at *; simp_all; done) | (unfold RecorderFits at *; simp_all; omega))

theorem outOfRange_recorderFits (off : Nat) (value : Nat) (s : State) (hs : RecorderFits s.recorder) : RecorderFits (outOfRange off value s).recorder := by
  simp only [outOfRange]
  repeat' (first | (with_reducible assumption) | (with_reducible apply recordEvent_recorderFits) | split | dsimp only | simp
                 | (unfold RecorderFits at *; simp_all; done) | (unfold RecorderFits at *; simp_all; omega))

theorem writeEvrCtl_recorderFits (v : BitVec 32) (s : State) (hs : RecorderFits s.recorder) : RecorderFits (writeEvrCtl v s).recorder := by
  simp only [writeEvrCtl]
  repeat' (first | (with_reducible assumption) | split | dsimp only | simp | (unfold RecorderFits at *; simp_all; done)
                 | (unfold RecorderFits at *; simp_all; omega))

theorem writePwin_recorderFits (ctl : Nat) (win : Nat) (off : Nat) (v : BitVec 32) (s : State)
    (hs : RecorderFits s.recorder) : RecorderFits (writePwin ctl win off v s).recorder := by
  simp only [writePwin]
  repeat' (first | (with_reducible assumption) | (with_reducible apply outOfRange_recorderFits) | (with_reducible apply recordEvent_recorderFits)
                 | (with_reducible apply applyWin_recorderFits) | split | dsimp only | simp | (unfold RecorderFits at *; simp_all; done)
                 | (unfold RecorderFits at *; simp_all; omega))

theorem writeEcctCtl_recorderFits (v : BitVec 32) (s : State) (hs : RecorderFits s.recorder) : RecorderFits (writeEcctCtl v s).recorder := by
  simp only [writeEcctCtl]
  repeat' (first | (with_reducible assumption) | (with_reducible apply outOfRange_recorderFits) | (with_reducible apply runTest_recorderFits) | split
                 | dsimp only | simp | (unfold RecorderFits at *; simp_all; done) | (unfold RecorderFits at *; simp_all; omega))

theorem writeCc_recorderFits (ctl : Nat) (v : BitVec 32) (s : State) (hs : RecorderFits s.recorder) : RecorderFits (writeCc ctl v s).recorder := by
  simp only [writeCc]
  repeat' (first | (with_reducible assumption) | (with_reducible apply shutAbrupt_recorderFits) | (with_reducible apply disableCtl_recorderFits)
                 | (with_reducible apply enableCtl_recorderFits) | split | dsimp only | simp | (unfold RecorderFits at *; simp_all; done)
                 | (unfold RecorderFits at *; simp_all; omega))

theorem writeFinj_recorderFits (off : Nat) (v : BitVec 32) (s : State) (hs : RecorderFits s.recorder) : RecorderFits (writeFinj off v s).recorder := by
  simp only [writeFinj]
  repeat' (first | (with_reducible assumption) | (with_reducible apply disarmFinj_recorderFits) | (with_reducible apply armFinj_recorderFits) | split
                 | dsimp only | simp | (unfold RecorderFits at *; simp_all; done) | (unfold RecorderFits at *; simp_all; omega))

theorem writeReg_recorderFits (fn : Nat) (off : Nat) (v : BitVec 32) (s : State) (hs : RecorderFits s.recorder) : RecorderFits (writeReg fn off v s).recorder := by
  simp only [writeReg]
  repeat' (first | (with_reducible assumption) | (with_reducible refine ite_recorderFits _ _ _ ?_ ?_) | (with_reducible apply writeEvrCtl_recorderFits)
                 | (with_reducible apply writePwin_recorderFits) | (with_reducible apply writeEcctCtl_recorderFits)
                 | (with_reducible apply outOfRange_recorderFits) | (with_reducible apply writeFrozen_recorderFits)
                 | (with_reducible apply tailDoorbell_recorderFits) | (with_reducible apply writeRcvCtl_recorderFits) | (with_reducible apply writeCc_recorderFits)
                 | (with_reducible apply setCap_recorderFits) | (with_reducible apply headDoorbell_recorderFits) | (with_reducible apply writeFinj_recorderFits)
                 | (with_reducible apply writeCmbmsc_recorderFits) | dsimp only | (simp [-ite_cache, -ite_recorder]))

theorem writeDword_recorderFits (fn : Nat) (off : Nat) (v : BitVec 32) (s : State) (hs : RecorderFits s.recorder) : RecorderFits (writeDword fn off v s).recorder := by
  simp only [writeDword]
  repeat' (first | (with_reducible assumption) | (with_reducible apply writeReg_recorderFits) | (with_reducible apply outOfRange_recorderFits) | split
                 | dsimp only | simp | (unfold RecorderFits at *; simp_all; done) | (unfold RecorderFits at *; simp_all; omega))

theorem writeQuad_recorderFits (fn : Nat) (off : Nat) (v : BitVec 64) (s : State) (hs : RecorderFits s.recorder) : RecorderFits (writeQuad fn off v s).recorder := by
  simp only [writeQuad]
  repeat' (first | (with_reducible assumption) | (with_reducible apply outOfRange_recorderFits) | (with_reducible apply writeDword_recorderFits) | split
                 | dsimp only | simp | (unfold RecorderFits at *; simp_all; done) | (unfold RecorderFits at *; simp_all; omega))

theorem bar0Write_recorderFits (fn : Nat) (offset : Nat) (size : Nat) (value : BitVec 64) (s : State)
    (hs : RecorderFits s.recorder) : RecorderFits (bar0Write fn offset size value s).recorder := by
  simp only [bar0Write]
  repeat' (first | (with_reducible assumption) | (with_reducible apply writeQuad_recorderFits) | (with_reducible apply recordEvent_recorderFits)
                 | (with_reducible apply writeDword_recorderFits) | split | dsimp only | simp | (unfold RecorderFits at *; simp_all; done)
                 | (unfold RecorderFits at *; simp_all; omega))

end Sys2Proof.Machine
end

