-- ==== Sys2Proof/Machine/Signals.lean ====
section
/-!
DEFINITION. The state of each external signal group in each device mode (02 R66; 19 R519).
-/

namespace Sys2Proof.Machine

/-- The external signal groups of R66, in its order. -/
inductive SigGroup where
  | hostLanes | hostInputs | storReady | pwrcycReq | memberLanes | memberPerst | memberClocks | slotPower | dram | vaultOnfi | bootFlash | buses
  | sideband | gaugeInputs | packDisconnect | railEnables
  deriving DecidableEq, Repr

/-- The columns of R66: a board without the part, or a part with no rail up, then the modes, and a reset. -/
inductive SigColumn where
  | absent | ship | standby | reset | boot | restore | service | holdup | quarantine
  deriving DecidableEq, Repr

/-- The states that R66 names. -/
inductive SigState where
  | hiZ | electricalIdle | training | up | transmittersOff | off | failSafe | input | ignored | low | high | pulsedLowOnRequest | drivenLow
  | lowUntilSlotPower | highButLadder | running | held | staggeredOrHeld | on_ | onButLadder | selfRefresh | trainingOrExit | active
  | readForFlush | idle | idleWpLow | stopRecordRead | read | serviceWrites | program | readWpLow | bootWrites | restoreWrites | flashWrites
  | quarantineWrites | setpointsHeld | notSensed | sensed | open_ | closed | mainOff | mainOn | holdupRails
  deriving DecidableEq, Repr

/-- The table of R66, one row for each group, in the order of the columns. -/
def sigRow : SigGroup → List SigState
  | .hostLanes => [.hiZ, .hiZ, .hiZ, .electricalIdle, .training, .up, .up, .transmittersOff, .up]
  | .hostInputs => [.failSafe, .failSafe, .failSafe, .input, .input, .input, .input, .ignored, .input]
  | .storReady => [.low, .low, .low, .low, .low, .low, .high, .low, .high]
  | .pwrcycReq => [.high, .high, .high, .high, .high, .high, .pulsedLowOnRequest, .high, .pulsedLowOnRequest]
  | .memberLanes => [.hiZ, .hiZ, .hiZ, .electricalIdle, .training, .up, .up, .off, .up]
  | .memberPerst => [.low, .low, .low, .drivenLow, .lowUntilSlotPower, .high, .highButLadder, .drivenLow, .high]
  | .memberClocks => [.off, .off, .off, .running, .running, .running, .running, .off, .running]
  | .slotPower => [.off, .off, .off, .held, .staggeredOrHeld, .on_, .onButLadder, .off, .on_]
  | .dram => [.off, .off, .off, .selfRefresh, .trainingOrExit, .active, .active, .readForFlush, .active]
  | .vaultOnfi => [.off, .off, .off, .idleWpLow, .stopRecordRead, .read, .serviceWrites, .program, .readWpLow]
  | .bootFlash => [.off, .off, .off, .idle, .bootWrites, .restoreWrites, .flashWrites, .idle, .quarantineWrites]
  | .buses => [.off, .off, .off, .setpointsHeld, .active, .active, .active, .active, .active]
  | .sideband => [.hiZ, .hiZ, .up, .up, .up, .up, .up, .up, .up]
  | .gaugeInputs => [.notSensed, .notSensed, .sensed, .sensed, .sensed, .sensed, .sensed, .sensed, .sensed]
  | .packDisconnect => [.open_, .open_, .closed, .closed, .closed, .closed, .closed, .closed, .closed]
  | .railEnables => [.off, .off, .mainOff, .mainOn, .mainOn, .mainOn, .mainOn, .holdupRails, .mainOn]

/-- Index of a column. -/
def sigIndex : SigColumn → Nat
  | .absent => 0 | .ship => 1 | .standby => 2 | .reset => 3 | .boot => 4 | .restore => 5 | .service => 6 | .holdup => 7 | .quarantine => 8

/-- The column that a state stands in: a BOOT that PERST# holds is the reset column. -/
def sigColumn (s : State) : SigColumn :=
  if s.power.sentinelOff then .absent
  else
    match s.mode.mode with
    | .ship => .ship
    | .standby => .standby
    | .boot => if s.mode.bootHold then .reset else .boot
    | .restore => .restore
    | .serve | .constrained => .service
    | .holdup => .holdup
    | .quarantine => .quarantine

/-- The state of a signal group (R66). -/
def signalState (g : SigGroup) (s : State) : SigState := (sigRow g).getD (sigIndex (sigColumn s)) .off

/-! ## The other groups (19 R519) -/

/-- The signal groups of R519, in its order. -/
inductive PinGroup where
  | prsnt | clkReq | unusedClocks | straps | chgEn | huEn | learnLoadEn | packFets | railEn | thermTrip | test
  deriving DecidableEq, Repr

/-- The states that R519 names. `ruled` stands for a pin that another rule drives; `pinLevel` gives its level. -/
inductive PinState where
  | boardPull | notSensed | sensed | atNextBoot | hiZ | ruled | off | legsLow | notSampled | atPowerGood | low | high | on_ | holdupRails | tapReset
  deriving DecidableEq, Repr

/-- The table of R519: absent or unpowered, SHIP, STANDBY, the main modes, HOLDUP. -/
def pinRow : PinGroup → List PinState
  | .prsnt => [.boardPull, .notSensed, .sensed, .sensed, .atNextBoot]
  | .clkReq => [.hiZ, .hiZ, .hiZ, .ruled, .hiZ]
  | .unusedClocks => [.off, .off, .off, .legsLow, .off]
  | .straps => [.boardPull, .notSampled, .notSampled, .atPowerGood, .notSampled]
  | .chgEn => [.low, .low, .ruled, .ruled, .low]
  | .huEn => [.low, .low, .low, .ruled, .high]
  | .learnLoadEn => [.low, .low, .low, .ruled, .low]
  | .packFets => [.off, .off, .on_, .on_, .on_]
  | .railEn => [.low, .low, .low, .high, .holdupRails]
  | .thermTrip => [.high, .high, .ruled, .ruled, .ruled]
  | .test => [.hiZ, .hiZ, .hiZ, .tapReset, .tapReset]

/-- The column of R519 that a state stands in; a reset and every mode between STANDBY and HOLDUP are main modes. -/
def pinIndex : SigColumn → Nat
  | .absent => 0 | .ship => 1 | .standby => 2 | .holdup => 4 | _ => 3

/-- The state of a group of R519. -/
def pinState (g : PinGroup) (s : State) : PinState := (pinRow g).getD (pinIndex (sigColumn s)) .off

/-- The level of a pin that another rule drives: CHG_EN by 14 R411, HU_EN by 14 R399, LEARN_LOAD_EN by 14 R401, THERMTRIP_N by 19 R531. -/
def pinLevel (g : PinGroup) (s : State) : Option Bool :=
  match g with
  | .chgEn => some s.power.chgEn
  | .huEn => some s.power.huEn
  | .learnLoadEn => some s.power.learnLoadEn
  | .thermTrip => some (!s.power.thermTrip)
  | _ => none

end Sys2Proof.Machine
end

