-- ==== Sys2Proof/WellFormed.lean ====
section
/-!
DEFINITION. Well-formedness of commands: every operand lies in the range of the field or of the unit numbering that the manual
gives it. The table gives no operand bits, so a check stands here once for each operand. `exec` is total and gives an ill-formed command
the effect the rules give the value (a refusal by status, or none at all); no meaning relies on these checks.
-/

namespace Sys2Proof

/-- NVMe controller IDs are 1 and 2 (04 R100). -/
def ctlOk (ctl : Nat) : Bool := decide (ctl = 1) || decide (ctl = 2)

/-- A command is named by a controller, a queue identifier and a command identifier of 16 bits each. -/
def CmdRef.wellFormed (r : CmdRef) : Bool := ctlOk r.ctl && decide (r.sqid < 2 ^ 16) && decide (r.cid < 2 ^ 16)

/-- Reference tag 48 bits, application tag and mask 16 bits each (15 R433; 05 R146). -/
def PiArgs.wellFormed (a : PiArgs) : Bool := decide (a.refTag < 2 ^ 48) && decide (a.appTag < 2 ^ 16) && decide (a.appMask < 2 ^ 16)

/-- NSID 32 bits, SLBA 64 bits, NLB 16 bits (04 R118). -/
def IoArgs.wellFormed (a : IoArgs) : Bool :=
  a.ref.wellFormed && decide (a.nsid < 2 ^ 32) && decide (a.slba < 2 ^ 64) && decide (a.nlb < 2 ^ 16) && a.pi.wellFormed &&
  a.mptr.all fun p => decide (p < 2 ^ 64)

/-- A range's fields: 64 and 32 bits. -/
def DsmRange.wellFormed (r : DsmRange) : Bool := decide (r.slba < 2 ^ 64) && decide (r.len < 2 ^ 32)

/-- Command identifier 16 bits, opcode 8 bits, PSDT 2 bits, NSID, CDW10 and CDW11 32 bits each (04 R113, R114). -/
def SqEntry.wellFormed (e : SqEntry) : Bool :=
  decide (e.cid < 2 ^ 16) && decide (e.opcode < 256) && decide (e.psdt < 4) && decide (e.nsid < 2 ^ 32) && decide (e.cdw10 < 2 ^ 32) &&
  decide (e.cdw11 < 2 ^ 32)

/-- A chunk tag's fields have their widths (07 R230). -/
def ChunkTag.wellFormed (t : ChunkTag) : Bool :=
  decide (t.gen < 2 ^ 16) && decide (t.hand < 2 ^ 40) && decide (t.chunk < 64) && decide (t.block < 64) && decide (t.wseq < 2 ^ 28)

/-- A block read for a hand carries 4,096 bytes, and its chunk index is below 64 (07 R205, R230). -/
def BlockRead.wellFormed (b : BlockRead) : Bool :=
  decide (b.data.length = 4096) && decide (b.chunk < 64) && (b.tag.map ChunkTag.wellFormed).getD true

/-- A posted or read BAR2 TLP of one of the two functions; a write carries data of the length given (06 R201). -/
def Bar2Tlp.wellFormed (t : Bar2Tlp) : Bool :=
  decide (t.fn < 2) && decide (t.offset < 2 ^ 64) && (t.data.isEmpty || decide (t.data.length = t.len))

/-- The fields of the calibration record (14 R405). -/
def CalRecord.wellFormed (c : CalRecord) : Bool :=
  decide (c.version < 256) && decide (c.source < 256) && decide (c.idTol < 2 ^ 16) && decide (c.senseGain < 2 ^ 16) &&
    decide (c.thermBeta < 2 ^ 16) && decide (c.idGain < 2 ^ 16)

/-- A block of a namespace: a multiple of 4,096 bytes from its start, and 4,096 bytes (07 R212). -/
def blockOk (b : Nat × Bytes) : Bool := decide (b.1 % 4096 = 0) && decide (b.2.length = 4096)

/-- Metadata bytes are 0 or 16, a PCI Express port has 1 to 16 lanes, and the registers have their widths (07 R206, 12 R334, R335). -/
def DriveInfo.wellFormed (i : DriveInfo) : Bool :=
  (decide (i.metaBytes = 0) || decide (i.metaBytes = 16)) && decide (i.afi < 256) && [1, 2, 4, 8, 16].contains i.maxWidth &&
    decide (i.classCode < 2 ^ 24) && decide (i.version < 2 ^ 32) && decide (i.mpsMin < 16) && decide (i.cmic < 256) &&
    decide (i.mdts < 256) && [128, 256, 512, 1024, 2048, 4096].contains i.mps && decide (i.nmic < 256) && decide (i.dlfeat < 256) && decide (i.oncs < 2 ^ 16) && i.blocks.all blockOk

/-- A feature identifier has 8 bits (05 R154). -/
def FeatureArgs.wellFormed (a : FeatureArgs) : Bool := decide (a.fid < 256)

/-- Cell voltages are 16-bit values in mV (14 R392). -/
def GaugeRead.wellFormed (g : GaugeRead) : Bool := g.cellMv.all fun v => decide (v < 2 ^ 16)

/-- Slots 0 to 63, ports 0 and 1, tags of 16 bits (12 R332, R344). -/
def MemberCpl.wellFormed (c : MemberCpl) : Bool := decide (c.slot < 64) && decide (c.port < 2) && decide (c.tag < 2 ^ 16)

/-- Slots 0 to 63, ports 0 and 1, 64-bit addresses (12 R339). -/
def MemberTlp.wellFormed (t : MemberTlp) : Bool :=
  decide (t.slot < 64) && decide (t.port < 2) && decide (t.addr < 2 ^ 64) && decide (t.data.length ≤ t.len)

/-- The fields of a request of NVMe-MI Send (05 R156). -/
def MiBody.wellFormed (b : MiBody) : Bool :=
  decide (b.value < 2 ^ 32) && decide (b.opcode < 256) && decide (b.nsid < 2 ^ 32) && decide (b.cdw10 < 2 ^ 32) && decide (b.cdw11 < 2 ^ 32)

/-- A request parameter has 32 bits, and a log page offset 64 (05 R156). -/
def MiArgs.wellFormed (a : MiArgs) : Bool := decide (a.param < 2 ^ 32) && decide (a.offset < 2 ^ 64)

/-- The fields of the host data structure (05 R141). -/
def NsCreate.wellFormed (a : NsCreate) : Bool :=
  decide (a.nsze < 2 ^ 64) && decide (a.ncap < 2 ^ 64) && decide (a.flbas < 256) && decide (a.dps < 256) && decide (a.nmic < 256) &&
    decide (a.deckId < 256) && decide (a.crypt < 256)

/-- The fields of the fault injection descriptor (15 R445). -/
def FinjDesc.wellFormed (d : FinjDesc) : Bool :=
  decide (d.target < 256) && decide (d.action < 256) && decide (d.stage < 256) && decide (d.dir < 256) && decide (d.slotLink < 256) &&
    decide (d.portSub < 256) && decide (d.matchKind < 256) && decide (d.reorderDepth < 256) && decide (d.count < 2 ^ 32) &&
    decide (d.interval < 2 ^ 32) && decide (d.skip < 2 ^ 32) && decide (d.corruptDw < 2 ^ 16)

/-- A Fault Injection arm command (05 R151). -/
def FinjCmd.wellFormed (c : FinjCmd) : Bool := c.ref.wellFormed && c.desc.wellFormed && decide (c.len < 2 ^ 16)

/-- KEY_INDEX has 8 bits and SVN 32 bits (16 R456). -/
def FwImage.wellFormed (i : FwImage) : Bool :=
  decide (i.keyIndex < 256) && decide (i.svn < 2 ^ 32) && decide (i.magic < 2 ^ 64) && decide (i.version < 2 ^ 16) &&
    decide (i.fslOffset < 2 ^ 32) && decide (i.fslLen < 2 ^ 32) && decide (i.mainOffset < 2 ^ 32) && decide (i.mainLen < 2 ^ 32) &&
    decide (i.fslDigest < 2 ^ 384) && decide (i.mainDigest < 2 ^ 384) && decide (i.fslMeasured < 2 ^ 384) && decide (i.mainMeasured < 2 ^ 384)

/-- Die, macro and row of an SRAM row; region, block and cell; link and sublink (01 R16 to R21; 15 R439). -/
def BootChecks.wellFormed (b : BootChecks) : Bool :=
  (b.sram.all fun x => decide (x.1.1 < 6) && decide (x.1.2.1 < 1024) && decide (x.1.2.2 < 512)) &&
  (b.cells.all fun x => decide (x.1 < 4) && decide (x.2.1 < 9) && decide (x.2.2 < 3)) &&
  (b.sublinks.all fun x => decide (x.1 < 8) && decide (x.2 < 17)) && b.vaultLost.all (fun c => decide (c < 4)) && b.torn.all fun i => decide (i < 1024)

/-- MSYN counts 1 to 3 syndromes of a stream of at most 64 chunks (01 R32). -/
def StreamSetup.wellFormed (u : StreamSetup) : Bool :=
  decide (u.msyn ≤ 3) && decide (u.width ≤ 32) && decide (1 ≤ u.count) && decide (u.count ≤ 32) && decide (u.cls ≤ 6)

/-- The fields of an AUTH payload (16 R475). -/
def OwnerAuthArgs.wellFormed (a : OwnerAuthArgs) : Bool := decide (a.durationS < 2 ^ 32) && decide (a.ownerSeq < 2 ^ 32)

/-- The fields of a PROVISION payload (16 R474). -/
def Provision.wellFormed (p : Provision) : Bool := decide (p.ownerSeq < 2 ^ 32)

/-- The fields of Deck Create and Deck Redeal (05 R151). -/
def ShapeArgs.wellFormed (a : ShapeArgs) : Bool :=
  decide (a.deckId < 256) && decide (a.k < 32) && decide (a.m < 4) && decide (a.s < 64) && decide (a.chunkCode < 8) &&
    a.slots.all fun x => decide (x < 64)

/-- The other fields of Deck Create (05 R151). -/
def ShapeRest.wellFormed (a : ShapeRest) : Bool := decide (a.k < 32) && decide (a.m < 4) && decide (a.s < 64) && decide (a.chunkCode < 8)

/-- A block of the vault's areas, or one of its four channels (14 R413). -/
def NandFail.wellFormed : NandFail → Bool
  | .block n => decide (n < 2 ^ 16)
  | .channel n => decide (n < 4)

/-- Deck, member indices and whole blocks (10 R301, R302). -/
def PassStart.wellFormed (p : PassStart) : Bool := decide (p.deck < 32) && p.copies.all fun c => decide (c.1 < 64) && c.2.all blockOk

/-- Four regions and the hub (01 R24). -/
def FlitWay.wellFormed (w : FlitWay) : Bool := decide (w.src ≤ 4) && decide (w.region < 4)

/-- BAR 0 and BAR 4 (03 R85). -/
def BarPlace.wellFormed (p : BarPlace) : Bool := decide (p.bar = 0 ∨ p.bar = 4) && decide (p.offset < 2 ^ 32)

/-- SPDM has 8 certificate slots (16 R472). -/
def SpdmArgs.wellFormed (a : SpdmArgs) : Bool := decide (a.slot < 8) && decide (a.index < 256)

/-- Dies 0 to 5, macros below 1,024, rows below 512 (15 R439). -/
def SramTarget.wellFormed (t : SramTarget) : Bool := decide (t.die < 6) && decide (t.macroNo < 1024) && decide (t.row < 512) && decide (t.half < 2) &&
  t.streams.all fun x => decide (x.1 < 9) && decide (x.2 < 4096)

/-- Six devices serve a word (15 R426). -/
def WordErrors.wellFormed (w : WordErrors) : Bool := decide (w.perDevice.length = 6)

/-- Five supply domains (01 R20) and five core dies. -/
def WindowMeas.wellFormed (w : WindowMeas) : Bool :=
  decide (w.coreUj.length = 5) && decide (w.railMw.length = 5) && decide (w.avsAck.length = 5) && decide (w.temps.length = 5)

/-- Every operand of the command lies in its range. One arm for each constructor. -/
def Instr.wellFormed : Instr → Bool
  | .auxRailRise => true
  | .auxRailLoss => true
  | .mainPowerGoodHeld => true
  | .railPgRise group => decide (group < 5)
  | .staggerGroupEnable group => decide (group < 8)
  | .memberPerstDeassert slot => decide (slot < 64)
  | .memoryTrainingComplete ch _ _ => decide (ch < 8)
  | .configResponseStart port => decide (port < 2)
  | .rrsEnd port => decide (port < 2)
  | .bootMemberWindowClose => true
  | .bootComplete _ _ _ checks => checks.wellFormed
  | .restoreComplete _ imagePages reads =>
    decide (imagePages < 2 ^ 32) && (reads.all fun r => decide (r.1 < 32) && r.2.2.all BlockRead.wellFormed)
  | .intentReplay deck wseq reads => decide (deck < 32) && decide (wseq < 2 ^ 48) && reads.all BlockRead.wellFormed
  | .mainPgFall => true
  | .mainSenseLow => true
  | .railPgFall group => decide (group < 5)
  | .railPgTimeout group => decide (group < 5)
  | .holdupFlushEnd ms mj minMv => decide (ms < 2 ^ 32) && decide (mj < 2 ^ 32) && decide (minMv < 2 ^ 16)
  | .flushAbortCutoff pages ms mj mv => decide (pages < 2 ^ 32) && decide (ms < 2 ^ 32) && decide (mj < 2 ^ 32) && decide (mv < 2 ^ 16)
  | .nandProgramFail fail => fail.wellFormed
  | .perstAssert port => decide (port < 2)
  | .perstDeassert port => decide (port < 2)
  | .hotReset port => decide (port < 2)
  | .hostLinkDown loss => decide (loss.port < 2)
  | .hostSerdesLaneFail lane => decide (lane < 16)
  | .flr fn => decide (fn < 2)
  | .d3hotEntry fn => decide (fn < 2)
  | .d0Return fn => decide (fn < 2)
  | .l0pEntry port => decide (port < 2)
  | .l0pExit port => decide (port < 2)
  | .l1Entry port sub => decide (port < 2) && decide (sub < 3)
  | .l1Exit port => decide (port < 2)
  | .configRequest fn _ offset _ _ => decide (fn < 2) && decide (offset < 2 ^ 32)
  | .bar0MisalignedAccess fn _ offset size => decide (fn < 2) && decide (offset < 2 ^ 32) && decide (size < 9)
  | .poisonedBarWrite fn bar offset _ => decide (fn < 2) && decide (bar < 5) && decide (offset < 2 ^ 32)
  | .unsupportedAddressRequest fn addr => decide (fn < 2) && decide (addr < 2 ^ 64)
  | .hostDataReadError ref => ref.wellFormed
  | .sqEntryReadError ctl sqid _ => ctlOk ctl && decide (sqid < 2 ^ 16)
  | .msixUnmask ctl vec => ctlOk ctl && decide (vec < 2 ^ 11)
  | .doeDiscovery fn index => decide (fn < 2) && decide (index < 256)
  | .doeAbort fn => decide (fn < 2)
  | .doeUnsupportedProtocol fn => decide (fn < 2)
  | .spdmGetVersion fn => decide (fn < 2)
  | .spdmGetCapabilities fn => decide (fn < 2)
  | .spdmNegotiateAlgorithms fn _ => decide (fn < 2)
  | .spdmGetDigests fn => decide (fn < 2)
  | .spdmGetCertificate fn args => decide (fn < 2) && args.wellFormed
  | .spdmChallenge fn args => decide (fn < 2) && args.wellFormed
  | .spdmGetMeasurements fn args => decide (fn < 2) && args.wellFormed
  | .sqTailDoorbell ctl sqid value => ctlOk ctl && decide (sqid < 2 ^ 16) && decide (value < 2 ^ 32)
  | .cqHeadDoorbell ctl cqid value => ctlOk ctl && decide (cqid < 2 ^ 16) && decide (value < 2 ^ 32)
  | .commandFetch ctl sqid entries => ctlOk ctl && decide (sqid < 2 ^ 16) && entries.all SqEntry.wellFormed
  | .completionPost ctl sqid => ctlOk ctl && decide (sqid < 2 ^ 16)
  | .ccEnable ctl mps ams asqs acqs =>
    ctlOk ctl && decide (mps < 16) && decide (ams < 8) && decide (asqs < 2 ^ 12) && decide (acqs < 2 ^ 12)
  | .ccDisable ctl => ctlOk ctl
  | .shutdownNormal ctl => ctlOk ctl
  | .shutdownAbrupt ctl => ctlOk ctl
  | .shutdownComplete ctl => ctlOk ctl
  | .cmbmscWrite ctl _ _ cba => ctlOk ctl && decide (cba < 2 ^ 52)
  | .ioFlush ref nsid => ref.wellFormed && decide (nsid < 2 ^ 32)
  | .ioWrite args _ _ => args.wellFormed
  | .ioRead args => args.wellFormed
  | .ioCompare args _ _ => args.wellFormed
  | .ioWriteZeroes args => args.wellFormed
  | .ioDatasetManagement ref nsid _ ranges => ref.wellFormed && decide (nsid < 2 ^ 32) && ranges.all DsmRange.wellFormed
  | .ioVerify args => args.wellFormed
  | .writeAdmit ref => ref.wellFormed
  | .directorySwitch ref => ref.wellFormed
  | .mergeSuperseded ns vpage => decide (ns < 2 ^ 40) && decide (vpage < 2 ^ 60)
  | .epochClose region => decide (region < 4)
  | .fillComplete ns vpage own others =>
    decide (ns < 2 ^ 40) && decide (vpage < 2 ^ 60) && own.all BlockRead.wellFormed && others.all BlockRead.wellFormed
  | .dataRecordSend ref => ref.wellFormed
  | .dataRecordDurable ref => ref.wellFormed
  | .cachePolicyToWriteBack => true
  | .handUpdateStart deck hand reads => decide (deck < 32) && decide (hand < 2 ^ 40) && reads.all BlockRead.wellFormed
  | .intentBatchClose deck => decide (deck < 32)
  | .trimBatchClose deck _ => decide (deck < 32)
  | .intentDurable deck wseq reads => decide (deck < 32) && decide (wseq < 2 ^ 48) && reads.all BlockRead.wellFormed
  | .handUpdateWritesComplete deck wseq => decide (deck < 32) && decide (wseq < 2 ^ 48)
  | .handUpdateDurable deck wseq => decide (deck < 32) && decide (wseq < 2 ^ 48)
  | .memberFlushDeadline slot => decide (slot < 64)
  | .keeperHeaderWrite deck => decide (deck < 32)
  | .replicaComplete deck member => decide (deck < 32) && decide (member < 64)
  | .resyncHand deck hand reads => decide (deck < 32) && decide (hand < 2 ^ 40) && reads.all BlockRead.wellFormed
  | .readErrorRepair deck hand row chunk own others =>
    decide (deck < 32) && decide (hand < 2 ^ 40) && decide (row < 2 ^ 20) && decide (chunk < 64) && own.all BlockRead.wellFormed &&
      others.all BlockRead.wellFormed
  | .rowOverflowConsistency deck hand row lost others =>
    decide (deck < 32) && decide (hand < 2 ^ 40) && decide (row < 2 ^ 20) && lost.all BlockRead.wellFormed && others.all BlockRead.wellFormed
  | .failureScan deck => decide (deck < 32)
  | .rebuildHand deck hand reads => decide (deck < 32) && decide (hand < 2 ^ 40) && reads.all BlockRead.wellFormed
  | .rebuildSegmentEnd deck => decide (deck < 32)
  | .rebuildProgressWrite deck => decide (deck < 32)
  | .copybackRound deck reads => decide (deck < 32) && (reads.all fun r => r.2.all BlockRead.wellFormed)
  | .copybackProgressWrite deck => decide (deck < 32)
  | .patrolPassStart pass => pass.wellFormed
  | .patrolRow deck hand row reads =>
    decide (deck < 32) && decide (hand < 2 ^ 40) && decide (row < 2 ^ 20) && reads.all BlockRead.wellFormed
  | .patrolRepair deck hand row reads =>
    decide (deck < 32) && decide (hand < 2 ^ 40) && decide (row < 2 ^ 20) && reads.all BlockRead.wellFormed
  | .patrolProgressWrite deck => decide (deck < 32)
  | .patrolPageWrite => true
  | .redealCopyHand deck nsid vhand reads =>
    decide (deck < 32) && decide (nsid < 2 ^ 32) && decide (vhand < 2 ^ 40) && reads.all fun r => r.2.all BlockRead.wellFormed
  | .redealProgressWrite deck => decide (deck < 32)
  | .generationSwitch deck => decide (deck < 32)
  | .oldRoundsRelease deck => decide (deck < 32)
  | .parityOperand way block _ data _ setup =>
    way.wellFormed && decide (block < 9) && decide (data.length = 64) && setup.all StreamSetup.wellFormed
  | .glildoFlitError link sub => decide (link < 8) && decide (sub < 17)
  | .glildoLinkStall link => decide (link < 8)
  | .regionFault region reason => decide (region < 4) && decide (reason < 256)
  | .remirrorComplete region => decide (region < 4)
  | .hubHalfFault half => decide (half < 2)
  | .lockstepMismatch die half => decide (die < 5) && decide (half < 2)
  | .mod15Mismatch _ => true
  | .cryptoResidueMismatch half _ => decide (half < 2)
  | .dramScrub region frame word errs _ _ => decide (region < 4) && decide (frame < 2 ^ 40) && decide (word < 64) && errs.wellFormed
  | .sramScrub target _ => target.wellFormed
  | .sramRowRepair die macroNo row => decide (die < 6) && decide (macroNo < 1024) && decide (row < 512)
  | .schedulerWindow meas => meas.wellFormed
  | .pmbusPowerRead mw => decide (mw < 2 ^ 32)
  | .startupCapEnd => true
  | .dieTempMissing die => decide (die < 5)
  | .thermtripAssert die _ => decide (die < 5)
  | .thermtripRelease die _ => decide (die < 5)
  | .crystalStop => true
  | .memSelfRefreshEntry ch => decide (ch < 8)
  | .memberPortL12Entry slot port => decide (slot < 64) && decide (port < 2)
  | .parityBlockGate region block => decide (region < 4) && decide (block < 9)
  | .apstTransition ctl => ctlOk ctl
  | .memberPortBringup slot port speed width info =>
    decide (slot < 64) && decide (port < 2) && decide (speed < 65) && decide (width < 17) && info.wellFormed
  | .memberPortReadyTimeout slot port => decide (slot < 64) && decide (port < 2)
  | .memberCompletion cpl => cpl.wellFormed
  | .memberCommandTimeout slot port tag => decide (slot < 64) && decide (port < 2) && decide (tag < 2 ^ 16)
  | .memberAdminTimeout slot port => decide (slot < 64) && decide (port < 2)
  | .lateCompletion slot port tag => decide (slot < 64) && decide (port < 2) && decide (tag < 2 ^ 16)
  | .tagQuarantineEnd slot port tag => decide (slot < 64) && decide (port < 2) && decide (tag < 2 ^ 16)
  | .memberInboundTlp tlp => tlp.wellFormed
  | .dpcTrigger slot port cause => decide (slot < 64) && decide (port < 2) && decide (cause < 4)
  | .containmentRelease slot port => decide (slot < 64) && decide (port < 2)
  | .prsntRemoval slot => decide (slot < 64)
  | .prsntInsertion slot => decide (slot < 64)
  | .slotPowerOn => true
  | .failedPendingTimeout slot _ => decide (slot < 64)
  | .memberControllerReset slot port _ => decide (slot < 64) && decide (port < 2)
  | .secondaryBusReset slot port _ => decide (slot < 64) && decide (port < 2)
  | .slotPowerCycle slot _ => decide (slot < 64)
  | .failedPortRetry slot port => decide (slot < 64) && decide (port < 2)
  | .healthRecoveryTick slot => decide (slot < 64)
  | .memberAsyncEvent slot _ _ temp => decide (slot < 64) && decide (temp < 2 ^ 16)
  | .membersEntryAppend => true
  | .gaugePinSample thermOhm idOhm => decide (thermOhm < 2 ^ 32) && decide (idOhm < 2 ^ 32)
  | .gaugeCurrentSample _ => true
  | .gaugeEvaluation read => read.wellFormed
  | .packRestReanchor => true
  | .packTempWindowReturn => true
  | .pathTestStart => true
  | .pathTestEnd peakMa _ dvMv diMa => decide (peakMa < 2 ^ 32) && decide (dvMv < 2 ^ 16) && decide (diMa < 2 ^ 32)
  | .learningStart => true
  | .learningDischargeStop => true
  | .learningEnd => true
  | .chargeTermination => true
  | .learnedSlotWrite _ => true
  | .vaultAreaErase area => decide (area < 2)
  | .heartwoodAppendRetry _ => true
  | .spillBatch => true
  | .stagedDwordDiscard fn offset => decide (fn < 2) && decide (offset < 2 ^ 32)
  | .firmwareDownloadClaimEnd => true
  | .ownerAuthExpiry => true
  | .finjExpiry => true
  | .pwrcycTimeout => true
  | .selfReset => true
  | .formatSanitizeProgress done => decide (done < 2 ^ 16)
  | .formatComplete nsid => decide (nsid < 2 ^ 32)
  | .sanitizeComplete _ => true
  | .namespaceDeleteCommit nsid => decide (nsid < 2 ^ 32)
  | .firmwareActivationComplete => true
  | .pwinApply ctl win => ctlOk ctl && decide (win < 16)
  | .pwinActivate ctl win => ctlOk ctl && decide (win < 16)
  | .bar2Write tlp => tlp.wellFormed
  | .bar2Read tlp => tlp.wellFormed
  | .ecctTestEnSet _ => true
  | .ecctWrite => true
  | .ecctFlip => true
  | .ecctRead => true
  | .ecctRawRead => true
  | .finjArm byCmd => byCmd.all FinjCmd.wellFormed
  | .finjDisarm byCmd => byCmd.all CmdRef.wellFormed
  | .evrFreezeWrite _ => true
  | .rcvCtlDevReset fn _ => decide (fn < 2)
  | .rcvCtlPwrcyc fn _ => decide (fn < 2)
  | .registerWrite fn place size _ => decide (fn < 2) && place.wellFormed && decide (size < 9)
  | .miReadDataStructure args => args.wellFormed
  | .miSubsystemHealthPoll args => args.wellFormed
  | .miControllerHealthPoll args => args.wellFormed
  | .miConfigurationGet args => args.wellFormed
  | .miConfigurationSet args value => args.wellFormed && decide (value < 2 ^ 32)
  | .miAdminTunnel args ctl opcode nsid cdw10 cdw11 =>
    args.wellFormed && ctlOk ctl && decide (opcode < 256) && decide (nsid < 2 ^ 32) && decide (cdw10 < 2 ^ 32) && decide (cdw11 < 2 ^ 32)
  | .deleteIoSq ref qid => ref.wellFormed && decide (qid < 2 ^ 16)
  | .createIoSq ref qid qsize cqid prio _ =>
    ref.wellFormed && decide (qid < 2 ^ 16) && decide (qsize < 2 ^ 16) && decide (cqid < 2 ^ 16) && decide (prio < 4)
  | .deleteIoCq ref qid => ref.wellFormed && decide (qid < 2 ^ 16)
  | .createIoCq ref qid qsize _ _ iv => ref.wellFormed && decide (qid < 2 ^ 16) && decide (qsize < 2 ^ 16) && decide (iv < 2 ^ 16)
  | .getLogPage ref lid lsp nsid offset len =>
    ref.wellFormed && decide (lid < 256) && decide (lsp < 256) && decide (nsid < 2 ^ 32) && decide (offset < 2 ^ 64) && decide (len < 2 ^ 34)
  | .identify ref cns nsid cntid => ref.wellFormed && decide (cns < 256) && decide (nsid < 2 ^ 32) && decide (cntid < 2 ^ 16)
  | .abort ref sqid cid => ref.wellFormed && decide (sqid < 2 ^ 16) && decide (cid < 2 ^ 16)
  | .setFeatures ref args => ref.wellFormed && args.wellFormed
  | .getFeatures ref fid sel cdw11 => ref.wellFormed && decide (fid < 256) && decide (sel < 16) && decide (cdw11 < 2 ^ 32)
  | .asynchronousEventRequest ref => ref.wellFormed
  | .namespaceManagementCreate ref args => ref.wellFormed && args.wellFormed
  | .namespaceManagementDelete ref nsid => ref.wellFormed && decide (nsid < 2 ^ 32)
  | .firmwareImageDownload ref offset len image =>
    ref.wellFormed && decide (offset < 2 ^ 34) && decide (len < 2 ^ 34) && image.all FwImage.wellFormed
  | .firmwareCommit ref fs ca => ref.wellFormed && decide (fs < 8) && decide (ca < 8)
  | .firmwareCommitActivate ref fs => ref.wellFormed && decide (fs < 8)
  | .namespaceAttachment ref nsid sel ctls =>
    ref.wellFormed && decide (nsid < 2 ^ 32) && decide (sel < 16) && (ctls.all fun x => decide (x < 65536))
  | .nvmeMiSend ref request args body => ref.wellFormed && decide (request < 256) && args.wellFormed && body.wellFormed
  | .nvmeMiReceive ref => ref.wellFormed
  | .formatNvm ref nsid lbaf dps ses =>
    ref.wellFormed && decide (nsid < 2 ^ 32) && decide (lbaf < 64) && decide (dps < 16) && decide (ses < 8)
  | .sanitize ref sanact owpass _ _ => ref.wellFormed && decide (sanact < 8) && decide (owpass < 16)
  | .deckCreate ref args memberFails => ref.wellFormed && args.wellFormed && decide (memberFails.getD 0 ≤ 5)
  | .deckImport ref deckId slots rest => ref.wellFormed && decide (deckId < 256) && (slots.all fun x => decide (x < 64)) && rest.wellFormed
  | .deckDestroy ref deckId => ref.wellFormed && decide (deckId < 256)
  | .deckRedeal ref args => ref.wellFormed && args.wellFormed
  | .deckRedealCancel ref deckId rest => ref.wellFormed && decide (deckId < 256) && (rest.1.all fun x => decide (x < 64)) && rest.2.wellFormed
  | .memberControlOnline ref slot cdw11 => ref.wellFormed && decide (slot < 64) && decide (cdw11 < 2 ^ 32)
  | .memberControlOffline ref slot cdw11 => ref.wellFormed && decide (slot < 64) && decide (cdw11 < 2 ^ 32)
  | .memberControlFail ref slot cdw11 => ref.wellFormed && decide (slot < 64) && decide (cdw11 < 2 ^ 32)
  | .memberControlErase ref slot cdw11 => ref.wellFormed && decide (slot < 64) && decide (cdw11 < 2 ^ 32)
  | .memberControlPortReset ref slot cdw11 => ref.wellFormed && decide (slot < 64) && decide (cdw11 < 2 ^ 32)
  | .memberControlClear ref slot cdw11 => ref.wellFormed && decide (slot < 64) && decide (cdw11 < 2 ^ 32)
  | .memberControlMemClear ref slot cdw11 => ref.wellFormed && decide (slot < 64) && decide (cdw11 < 2 ^ 32)
  | .rebuildControlResume ref deckId => ref.wellFormed && decide (deckId < 256)
  | .rebuildControlHold ref deckId => ref.wellFormed && decide (deckId < 256)
  | .rebuildControlReplace ref deckId slot => ref.wellFormed && decide (deckId < 256) && decide (slot < 64)
  | .rebuildControlStatus ref deckId => ref.wellFormed && decide (deckId < 256)
  | .patrolControlResume ref deckId => ref.wellFormed && decide (deckId < 256)
  | .patrolControlPause ref deckId => ref.wellFormed && decide (deckId < 256)
  | .patrolControlRestart ref deckId => ref.wellFormed && decide (deckId < 256)
  | .patrolControlRepairOn ref deckId => ref.wellFormed && decide (deckId < 256)
  | .patrolControlRepairOff ref deckId => ref.wellFormed && decide (deckId < 256)
  | .queueResumeRetry ref sqid => ref.wellFormed && decide (sqid < 2 ^ 16)
  | .queueResumeSkip ref sqid => ref.wellFormed && decide (sqid < 2 ^ 16)
  | .recorderFreeze ref => ref.wellFormed
  | .recorderThaw ref => ref.wellFormed
  | .calibrationAccessRead ref len => ref.wellFormed && decide (len < 2 ^ 34)
  | .calibrationAccessWrite ref len cal => ref.wellFormed && decide (len < 2 ^ 34) && cal.wellFormed
  | .bootStatementGet ref len first => ref.wellFormed && decide (len < 2 ^ 34) && decide (first < 2 ^ 32)
  | .shipEnterArm ref => ref.wellFormed
  | .shipEnterDisarm ref => ref.wellFormed
  | .recoveryRequestDeviceReset ref => ref.wellFormed
  | .recoveryRequestPowerCycle ref => ref.wellFormed
  | .ownerChallengeGet ref len => ref.wellFormed && decide (len < 2 ^ 34)
  | .ownerProvision ref args => ref.wellFormed && args.wellFormed
  | .ownerAuth ref args => ref.wellFormed && args.wellFormed
  | .mainPgRise _ _ => true
  | .auxRailFall _ => true
  | .hostLinkUp port speed width => decide (port < 2) && decide (speed < 65) && decide (width < 17)
  | .aggregationTimeExpiry ctl vec => ctlOk ctl && decide (vec < 2 ^ 11)
  | .withheldTagTimeout slot port => decide (slot < 64) && decide (port < 2)
  | .ladderStepBoundExpiry slot port => decide (slot < 64) && decide (port < 2)
  | .memberPcieCompletionTimeout slot port => decide (slot < 64) && decide (port < 2)
  | .sentinelFault => true
  | .crystalRunsAgain => true

end Sys2Proof
end

