-- ==== Sys2Proof/Tests/Slice0.lean ====
section
/-!
SUPPORT. Tests of the model: for every obligation with hypotheses a small state that meets them, the ill-formed commands that
`Instr.wellFormed` refuses, and the worked examples that spec/ prints with their results.
-/

open Sys2Proof Sys2Proof.Machine Sys2Proof.Safety

namespace Sys2Proof.Tests

-- One theorem at a time: a theorem that the kernel decides waits for all before it, and many at once ask for too many threads.
set_option Elab.async false

/-! ## Small states -/

/-- The block in SERVE with host port 0 up and the controller in `c`. -/
def serving (c : Ctl) : State :=
  { State.reset with
    mode := { mode := .serve, lastTrans := 8, coldBoot := false }
    power := { hubUp := true }
    ports := [(0, { linkUp := true, speed := 64, width := 16, perst := false, cfgAnswers := true, rrs := false })]
    ctls := [(1, c)] }

/-- A command of the admin queue. -/
def adminRef : CmdRef := { ctl := 1, sqid := 0, cid := 7 }
/-- A command of I/O queue 1. -/
def ioRef : CmdRef := { ctl := 1, sqid := 1, cid := 9 }

/-- An enabled controller whose admin queue and I/O queue 1 (of 8 entries) hold the commands given. -/
def ctlWith (admin io : List RobEntry) : Ctl :=
  { ccEn := true, rdy := true
    sqs := [{ id := 0, size := 32, cqid := 0, rob := admin }, { id := 1, size := 8, cqid := 1, head := 6, tail := 1, rob := io }]
    cqs := [{ id := 0, size := 32, ien := true }, { id := 1, size := 8, head := 6, tail := 1, lastHead := 6 }] }

/-- One open admin command, `adminRef`, on a block in SERVE. -/
def adminState : State := serving (ctlWith [{ cid := 7, opcode := 0x05 }] [])

/-- One open command of I/O queue 1, `ioRef`. -/
def ioState : State := serving (ctlWith [] [{ cid := 9, opcode := 0x02 }])

/-! ## Queues -/

/-- The head at 6 and the tail at 1 of 8 leave 4 entries free: 5 advances by all 4, 6 by one more, and 8 is outside. -/
theorem witness_TailDoorbellMovesOrHaltsQueue :
    barLive ioState 1 = true ∧ ioState.mode.ps < 3 ∧
    ∃ q ∈ findSq (ioState.ctl 1) 1, q.state = .active ∧ q.head < q.size ∧ q.tail < q.size ∧
      ((5 : Int) - q.tail) % q.size ≤ ((q.head : Int) - q.tail - 1) % q.size ∧ 5 < q.size ∧
      ((q.head : Int) - q.tail - 1) % q.size < ((6 : Int) - q.tail) % q.size ∧ q.size ≤ 8 := by decide

/-- Three entries are posted: 1 releases all, 2 one more, 8 is outside; queue 1 posts there. -/
theorem witness_HeadDoorbellReleasesOrHaltsPosters :
    barLive ioState 1 = true ∧ ioState.mode.ps < 3 ∧
    (∃ q ∈ findCq (ioState.ctl 1) 1, q.head < q.size ∧ q.tail < q.size ∧
      ((1 : Int) - q.head) % q.size ≤ ((q.tail : Int) - q.head) % q.size ∧
      ((q.tail : Int) - q.head) % q.size < ((2 : Int) - q.head) % q.size ∧ q.size ≤ 8) ∧
    ∃ p ∈ findSq (ioState.ctl 1) 1, p.cqid = 1 ∧ p.state = .active := by decide

/-- Small states meet the hypotheses of each clause of `Obligations.UnknownDoorbellRaisesErrorEvent`. -/
theorem witness_UnknownDoorbellRaisesErrorEvent :
    barLive ioState 1 = true ∧ ioState.mode.ps < 3 ∧ findSq (ioState.ctl 1) 2 = none ∧ findCq (ioState.ctl 1) 2 = none ∧
    (∃ q ∈ findSq (ioState.ctl 1) 0, q.state = .active ∧ (tailCheck q.head q.tail q.size 32).isSome = true) ∧
    ∃ q ∈ findCq (ioState.ctl 1) 0, headAccepted q 1 = false := by decide

/-- A state whose I/O queue 1 has a command to fetch, one done at the front, or one open. -/
def doneState : State := serving (ctlWith [] [{ cid := 9, opcode := 0x02, committed := true }])

/-- Small states meet the hypotheses of each clause of `Obligations.FetchAndPostMoveCommandsInOrder`. -/
theorem witness_FetchAndPostMoveCommandsInOrder :
    (let s := serving { ctlWith [] [] with cqs := [{ id := 1, size := 8 }], sqs := [{ id := 1, size := 8, cqid := 1, tail := 1 }] }
     ctlExists s 1 = true ∧ mayFetch s 1 = true ∧ outranked s 1 1 = false ∧
     (∃ q ∈ findSq (s.ctl 1) 1, q.state = .active ∧ q.head ≠ q.tail ∧ roomInRob s 1 q = true ∧ ∀ r ∈ q.rob, r.cid ≠ 3) ∧
     let e : SqEntry := { cid := 3, opcode := 0x02, ptr := .prp 4096 0 [], len := 4096 }
     (∃ q ∈ findSq (s.ctl 1) 1, heldEntry s 1 q e = e) ∧ opcodeKnown 1 2 = true ∧ entryPtr (s.ctl 1).mps 1 e = .good ∧ deletedBy (s.ctl 1) 1 e (entryDoom (s.ctl 1).mps 1 e) = none) ∧
    (∃ q ∈ findSq (doneState.ctl 1) 1, q.state = .active ∧ cqRoom (doneState.ctl 1) q.cqid = true ∧ (doneState.fn 0).d3hot = false ∧
      ∃ e ∈ q.rob.head?, robDone e = true ∧ e.dropped.all (trimDone doneState) = true) ∧
    ∃ q ∈ findSq (ioState.ctl 1) 1, ∃ e ∈ q.rob.head?, robDone e = false := by decide

/-- Small states meet the hypotheses of each clause of `Obligations.QueueCreationAndDeletionComplete`. -/
theorem witness_QueueCreationAndDeletionComplete :
    (mayCommit adminState adminRef = true ∧ adminRef.sqid = 0 ∧ findCq (adminState.ctl adminRef.ctl) 2048 = none ∧
      (findCq (adminState.ctl adminRef.ctl) 1).isSome = true ∧ findSq (adminState.ctl adminRef.ctl) 2048 = none) ∧
    (∀ io ∈ [[], [{ cid := 9, opcode := 0x02 }]],
      let s := serving (ctlWith [{ cid := 7, opcode := 0x00 }] io)
      mayCommit s adminRef = true ∧ (∃ e ∈ robOf s adminRef, e.opcode = 0x00 ∧ e.deletes = none) ∧
      ∃ q ∈ findSq (s.ctl 1) 1, q.state = .active ∧ q.rob = io) ∧
    (let s := serving { ctlWith [] [] with sqs := [{ id := 0, size := 32, cqid := 0, rob := [{ cid := 7, opcode := 0x00, deletes := some 1 }] },
       { id := 1, size := 8, cqid := 1, state := .deleting, rob := [{ cid := 9, opcode := 0x02, doom := some 0x08 }] }] }
     mayCommit s adminRef = true ∧ (∃ e ∈ robOf s adminRef, e.opcode = 0x00 ∧ e.deletes = some 1) ∧
     ∃ q ∈ findSq (s.ctl 1) 1, q.state = .deleting) ∧
    ∀ io ∈ [[], [{ cid := 9, opcode := 0x02 }]],
      let s := serving { ctlWith [] [] with sqs := [{ id := 0, size := 32, cqid := 0, tail := 1 }, { id := 1, size := 8, cqid := 1, rob := io }] }
      let e : SqEntry := { cid := 3, opcode := 0x00, cdw10 := 1 }
      (∃ a ∈ findSq (s.ctl 1) 0, heldEntry s 1 a e = e ∧ a.state = .active ∧ a.head ≠ a.tail ∧ roomInRob s 1 a = true ∧ ∀ r ∈ a.rob, r.cid ≠ e.cid) ∧
      (s.ctl 1).aers.contains e.cid = false ∧ entryDoom (s.ctl 1).mps 0 e = none ∧ ctlExists s 1 = true ∧ mayFetch s 1 = true ∧
      ∃ q ∈ findSq (s.ctl 1) 1, q.state = .active ∧ q.rob = io := by decide

/-- One command open beside the Abort, one done, none with identifier 5; and eight Aborts open. -/
theorem witness_AbortHasExactlyOneOutcome :
    (let s := serving (ctlWith [{ cid := 7, opcode := 0x08 }]
       [{ cid := 9, opcode := 0x02 }, { cid := 10, opcode := 0x02, committed := true }])
     mayCommit s adminRef = true ∧ ioRef ≠ adminRef ∧ abortsOpen (s.ctl 1) < 8 ∧
     robOf s { ctl := 1, sqid := 1, cid := 5 } = none ∧ (∃ e ∈ robOf s { ctl := 1, sqid := 1, cid := 10 }, robDone e = true) ∧
     ∃ e ∈ robOf s ioRef, robDone e = false) ∧
    (let s := serving { ctlWith [{ cid := 7, opcode := 0x08 }] [] with aers := [3] }
     mayCommit s adminRef = true ∧ robOf s { ctl := 1, sqid := 0, cid := 3 } = none ∧ waitsForEvent (s.ctl 1) 0 3 = true) ∧
    let s := serving (ctlWith (((List.range 8).map fun i => { cid := 20 + i, opcode := 0x08, committed := true }) ++ [{ cid := 7, opcode := 0x08 }]) [])
    mayCommit s adminRef = true ∧ 8 ≤ abortsOpen (s.ctl 1) := by decide

/-- A queue halted for one of the reasons of R129. -/
def haltedState (reason : Nat) : State :=
  serving { ctlWith [{ cid := 7, opcode := 0xC0 }] [] with
    sqs := [{ id := 0, size := 32, cqid := 0, rob := [{ cid := 7, opcode := 0xC0 }] },
      { id := 1, size := 8, cqid := 1, head := 6, tail := 1, state := .halted, halt := some {
        reason := reason, cidValid := false, cid := 0, head := 6, tail := 1, faultInfo := 0, lateTail := 1, time := 0 } }] }

/-- Small states meet the hypotheses of each clause of `Obligations.QueueResumeRestartsHaltedQueue`. -/
theorem witness_QueueResumeRestartsHaltedQueue :
    ∀ reason ∈ [1, 3, 4], mayCommit (haltedState reason) adminRef = true ∧ ∃ q ∈ findSq ((haltedState reason).ctl 1) 1,
      ∃ h ∈ q.halt, h.reason = reason ∧ tailCheck q.head q.tail q.size h.lateTail = none ∧
        tailCheck ((q.head + 1) % q.size) q.tail q.size h.lateTail = none := by decide

/-- Small states meet the hypotheses of each clause of `Obligations.HostErrorsAndVectorsComplete`. -/
theorem witness_HostErrorsAndVectorsComplete :
    (isOpen adminState adminRef = true ∧ (adminState.ctl 1).aers.length < 8 ∧ (adminState.ctl 1).aens = []) ∧
    (barLive adminState 1 = true ∧ msixEnabled (adminState.fn 0) = false) ∧
    (let s := adminState.setFn 0 { cfg := [(0x50, 0xC0000000)], pba := [3] }
     barLive s 1 = true ∧ msixMasked (s.fn 0) = true) ∧
    (let s := adminState.setFn 0 { adminState.fn 0 with cfg := (0x50, 0x80000000) :: (adminState.fn 0).cfg, pba := [3] }
     barLive s 1 = true ∧ 3 ∈ (s.fn 0).pba ∧ 2047 ∉ (s.fn 0).pba ∧ msixEnabled (s.fn 0) = true ∧ msixMasked (s.fn 0) = false) ∧
    (let s := adminState.setCtl 1 { adminState.ctl 1 with aggregated := [(3, 2)] }
     tblHas (s.ctl 1).aggregated 3 = true ∧ (s.fn 0).d3hot = false) ∧
    (∃ e ∈ robOf ioState ioRef, robDone e = false ∧ e.job = none) ∧
    (let s := serving (ctlWith [] [{ cid := 9, opcode := 0x01, job := some { step := .recordSent, parts := [], journaled := true, jseq := 5 } }])
     ∃ e ∈ robOf s ioRef, robDone e = false ∧ e.job.isSome = true) ∧
    (∃ q ∈ findSq (ioState.ctl 1) 1, q.state = .active ∧ q.head ≠ q.tail) ∧
    ∃ q ∈ findSq ((serving { ctlWith [] [] with sqs := [{ id := 1, size := 8, cqid := 1, tail := 1, retried := true }] }).ctl 1) 1,
      q.state = .active ∧ q.head ≠ q.tail ∧ q.retried = true := by decide

/-! ## Modes, resets, shutdown and power fail -/

/-- A state in another mode. -/
def inMode (m : DevMode) (s : State) : State := { s with mode := { s.mode with mode := m } }

/-- A volume of 16 blocks of 4,096 bytes in the first round of deck 1, attached to controller 1. -/
def oneVolume : Volume :=
  { nsid := 1, deckId := 1, lbaf := 2, extended := false, deckGen := 1, nsze := 16, handsAlloc := 5, crypt := 0, extents := [(0, 0, 5)]
    dps := 0, vstate := 1, key := 1, recSeq := 0, bad := [], overflow := false, writeLock := false, attached := [1], formatLeft := none }

/-- A dirty version of page 0 of volume 1. -/
def dirtyPage : DirEntry :=
  { region := (pageRegions [] 0 0).1.getD 0, frame := 4, state := .dirty, keyNs := 0, vpage := 0, valid := 0xFF, zero := 0, poison := 0, linkRegion := 1, linkWay := 0
    wseq := 0, stageRef := none, hot := 0, ver := 1, epoch := 0, merging := false }

/-- A block in SERVE that holds one dirty page. -/
def dirtyState : State := { ioState with cache := { ioState.cache with dir := [dirtyPage] } }

/-- Small states meet the hypotheses of each clause of `Obligations.ControllerEnableMakesAdminQueues`. -/
theorem witness_ControllerEnableMakesAdminQueues :
    (let s := serving {}
     barLive s 1 = true ∧ (s.ctl 1).ccEn = false ∧ s.mode.shutDone = false ∧ (s.ctl 1).aers = []) ∧
    (barLive ioState 1 = true ∧ (ioState.ctl 1).ccEn = true) ∧
    (let s : State := { ioState with
       cache := { ioState.cache with limit := 32768 }
       gauge := { ioState.gauge with huReady := true } }
     s.cache.writeThrough = true ∧ wtCondition s = 0 ∧ 32768 ≤ s.cache.limit ∧ s.serving = true ∧ s.mode.shutDone = false) := by decide

/-- A controller whose normal shutdown (1) or abrupt shutdown is under way. -/
def shutting : State := { serving { ctlWith [] [] with shst := 1 } with mode := { State.reset.mode with mode := .serve, shutdownKind := 1 } }

/-- Small states meet the hypotheses of each clause of `Obligations.ShutdownsFollowTheirSteps`. -/
theorem witness_ShutdownsFollowTheirSteps :
    (barLive ioState 1 = true ∧ ioState.serving = true ∧ ioState.ready = true ∧ (ioState.ctl 1).ccEn = true ∧ (ioState.ctl 1).shst = 0 ∧
      ioState.mode.ps < 3 ∧ (∀ id ∈ ioState.ctlIds, id = 1 ∨ (ioState.ctl id).ccEn = false ∨ (ioState.ctl id).shst ≠ 0) ∧
      ioState.vault.channels ≠ [] ∧ ioState.vault.flush = none) ∧
    (ctlExists shutting 1 = true ∧ shutting.serving = true ∧ (shutting.ctl 1).shst = 1 ∧ openCount (shutting.ctl 1) = 0 ∧
      shutting.mode.shutdownKind = 1 ∧ shutting.mode.shutDone = false ∧ shutQuiet shutting = true ∧ allDestaged shutting = true ∧
      ∀ id ∈ shutting.ctlIds, id = 1 ∨ (shutting.ctl id).ccEn = false ∨ (shutting.ctl id).shst ≠ 0) ∧
    ctlExists (inMode .quarantine shutting) 1 = true ∧ openCount ((inMode .quarantine shutting).ctl 1) = 0 ∧
    (inMode .quarantine shutting).mode.mode = .quarantine ∧ ((inMode .quarantine shutting).ctl 1).shst = 1 := by decide

/-- Small states meet the hypotheses of each clause of `Obligations.RecoveryIsRequestedOnce`. -/
theorem witness_RecoveryIsRequestedOnce :
    (adminTurn adminState adminRef = true ∧ adminState.ready = true ∧ adminState.mode.rcvPending = 0 ∧ bar0Live adminState 0 = true) ∧
    (let s : State := { adminState with mode := { adminState.mode with rcvPending := 2 } }
     adminTurn s adminRef = true ∧ s.ready = true ∧ s.mode.rcvPending ≠ 0 ∧ s.mode.rcvPending = 2 ∧ bar0Live s 0 = true) ∧
    ((0x5EC6FFFF#32) >>> 16).toNat ≠ 0x5EC7 ∧ (0x5EC70003#32).getLsbD 0 = true ∧ (0x5EC70003#32).getLsbD 1 = true := by decide

/-- Small states meet the hypotheses of each clause of `Obligations.DeviceResetEntersBoot`. -/
theorem witness_DeviceResetEntersBoot :
    (mainMode ioState = true ∧ ioState.power.hubUp = true ∧ 0 ∈ ioState.portIds ∧ (ioState.port 0).perst = false ∧
      portLive ioState 0 = true ∧ (ioState.port 0).linkUp = true) ∧
    (let s : State := { ioState with trust := { ioState.trust with selfReset := true } }
     mainMode s = true ∧ s.power.hubUp = true ∧ s.trust.selfReset = true) ∧
    let s : State := { State.reset with mode := { State.reset.mode with bootHold := true } }
    0 ∈ s.portIds ∧ (s.port 0).perst = true ∧ s.mode.bootHold = true ∧ ∀ p ∈ s.portIds, p ≠ 0 → (s.port p).perst = false := by decide

/-- Small states meet the hypotheses of each clause of `Obligations.PowerUpRaisesTheRails`. -/
theorem witness_PowerUpRaisesTheRails :
    (let s : State := inMode .ship { State.reset with power := { State.reset.power with auxGood := false, mainPg := false } }
     s.power.auxGood = false ∧ s.mode.mode = .ship ∧ s.power.mainPg = false ∧ s.mode.mode ≠ .holdup) ∧
    (let s : State := inMode .standby State.reset
     s.mode.mode = .standby ∧ s.power.mainPg = true ∧ s.power.holdOff = false ∧ s.power.thermTrip = false ∧ s.power.sentinelOff = false) ∧
    (State.reset.power.railEn.getD 0 false = true ∧ State.reset.power.railPg.getD 0 false = false) ∧
    (let s : State := inMode .standby { State.reset with power := { State.reset.power with shipArmed := true, mainPg := false } }
     s.mode.mode = .standby ∧ s.power.shipArmed = true ∧ s.power.mainPg = false ∧ ioState.mode.mode ≠ .standby) ∧
    let s : State := { State.reset with power := { State.reset.power with
      railEn := [true, true, true, true, true]
      railPg := [true, true, true, true, false] } }
    s.power.railEn.getD 4 false = true ∧ s.power.railPg.getD 4 false = false ∧ s.power.hubUp = false ∧ s.mode.mode = .boot := by decide

/-- Small states meet the hypotheses of each clause of `Obligations.PowerFailEntersHoldupOrStandby`. -/
theorem witness_PowerFailEntersHoldupOrStandby :
    (mainMode dirtyState = true ∧ dirtyState.power.mainPg = true ∧ imageHolds dirtyState = false ∧ dirtyState.vault.channels ≠ [] ∧
      dirtyState.power.shipArmed = false) ∧
    (mainMode ioState = true ∧ ioState.power.mainPg = true ∧ imageHolds ioState = true ∧ ioState.power.shipArmed = false) ∧
    ∀ s ∈ [dirtyState, ioState], (s.power.railEn.getD 0 false = true ∧ s.power.railPg.getD 0 false = false) ∧
      let t : State := { s with power := { s.power with
        railEn := [true, true, true, true, true]
        railPg := [true, true, true, true, true] } }
      mainMode t = true ∧ imageHolds t = imageHolds s ∧ t.power.railEn.getD 4 false = true ∧ t.power.railPg.getD 4 false = true := by decide

/-- A flush under way in HOLDUP. -/
def flushing (mainPg : Bool) : State :=
  let s := inMode .holdup ioState
  { s with
    power := { s.power with mainPg := mainPg, huEn := true }
    vault := { s.vault with flush := some {
      image := { area := 0, imageSeq := 1, channels := 4, bootCount := 1, time := 0, pages := [], journal := [] }
      since := 0
      startTime := 0
      abrupt := none } } }

/-- Small states meet the hypotheses of each clause of `Obligations.FlushEndLeavesAValidImage`. -/
theorem witness_FlushEndLeavesAValidImage :
    (∀ m ∈ [false, true], (flushing m).mode.mode = .holdup ∧ (∃ j ∈ (flushing m).vault.flush, j.abrupt = none) ∧
      (flushing m).power.shipArmed = false ∧ (flushing m).power.holdOff = false ∧ (flushing m).power.mainPg = m) ∧
    0 ∉ ioState.vault.badBlocks ∧
    (ioState.serving = true ∧ ioState.vault.imageValid = false ∧ ioState.vault.flush = none) ∧
    ioState.mode.mode ≠ .standby ∧ ioState.mode.mode ≠ .ship := by decide

/-- BOOT with everything that it waits for. -/
def bootDone : State :=
  { State.reset with
    mode := { State.reset.mode with windowClosed := true }
    power := { State.reset.power with hubUp := true }
    cache := { State.reset.cache with channels := (List.range 8).map fun i => (i, { trained := true }) } }

/-- The same with a valid stop record of a power loss and its image. -/
def bootImage : State :=
  { bootDone with stop := { copy0 := .valid {
    state := 3, imageValid := true, shipArmed := false, writeThrough := true, seqNo := 1, bootCount := 1, time := 0, imageSeq := 1,
    dirtyPages := 1 } } }

/-- RESTORE from a source. -/
def restoring (src : Nat) : State := { bootImage with mode := { bootImage.mode with mode := .restore, restoreSource := src } }

/-- Small states meet the hypotheses of each clause of `Obligations.BootAndRestoreEndInAMode`. -/
theorem witness_BootAndRestoreEndInAMode :
    (bootReady bootDone = true ∧ (applyTable (bootTests {} bootDone)).mode.bootFault = 0 ∧
      restoreFrom (revokeKeys (raiseSvn (bootEntries true (applyTable (bootTests {} bootDone))))) = none) ∧
    (bootReady bootImage = true ∧ (applyTable (bootTests {} bootImage)).mode.bootFault = 0 ∧
      restoreFrom (revokeKeys (raiseSvn (bootEntries true (applyTable (bootTests {} bootImage))))) = some 1) ∧
    (∀ src ∈ [1, 2, 3, 4], (restoring src).mode.mode = .restore ∧ (restoring src).mode.restoreSource = src) ∧
    (let s : State := { restoring 1 with vault := { (restoring 1).vault with image := some {
       area := 0, imageSeq := 1, channels := 4, bootCount := 1, time := 0, pages := [], journal := [] } } }
     s.mode.mode = .restore ∧ s.mode.restoreSource = 1 ∧ s.vault.image.isSome = true ∧
       ((stopCurrent s.stop).map fun r => r.1.dirtyPages).getD 0 ≤ 1) ∧
    (restoring 1).vault.image = none ∧ 0 < ((stopCurrent (restoring 1).stop).map fun r => r.1.dirtyPages).getD 0 := by decide

/-- Small states meet the hypotheses of each clause of `Obligations.RegisterWritesFollowTheirType`. -/
theorem witness_RegisterWritesFollowTheirType :
    bar0Live ioState 0 = true ∧ ioState.mode.ps < 3 ∧
    (∀ w ∈ [0, 40, 125], capOk w = true) ∧ (∀ w ∈ [39, 126], capOk w = false) ∧
    halfOk 0x8210 false 0x64050A14 = true ∧ halfOk 0x8210 true 0x6464 = true ∧
    (let s := ioState.setFn 0 { staged := [(0x8210, 5)] }
     tblHas (s.fn 0).staged 0x8210 = true) ∧
    ¬ (4 = 4 ∧ 0x8202 % 4 = 0) ∧ ¬ (4 = 8 ∧ 0x8202 % 8 = 0) ∧ ¬ (8 = 4 ∧ 0x8204 % 4 = 0) ∧ ¬ (8 = 8 ∧ 0x8204 % 8 = 0) := by decide

/-! ## Host link, functions and fabric -/

/-- The configuration dwords that enable L0p, L1 and L1.2 with a threshold of 32 µs. -/
def pmCfg : Tbl Nat (BitVec 32) := [(0x080, 0x2), (0x308, 0x60010004), (0x338, 0x8)]

/-- A host link with no fetched command, and an LTR value at the threshold. -/
def quietState : State :=
  let s := (serving (ctlWith [] [])).setFn 0 { cfg := pmCfg }
  s.setPort 0 { s.port 0 with ltrUs := 2000 }

/-- Small states meet the hypotheses of each clause of `Obligations.LinkComesUpAndGoesDown`. -/
theorem witness_LinkComesUpAndGoesDown :
    (let s := ioState.setPort 0 { perst := false }
     portLive s 0 = true ∧ (s.port 0).linkUp = false ∧ 64 ∈ [2, 5, 8, 16, 32, 64] ∧ 16 ≤ trainWidth s 0) ∧
    (portLive ioState 0 = true ∧ (ioState.port 0).cfgAnswers = true ∧ (ioState.port 0).linkUp = true) ∧
    (cfgLive ioState 0 = true ∧ 0xFFC % 4 = 0 ∧ 0xFFC < 4096 ∧ (ioState.port (ctlPort ioState 1)).rrs = false ∧ ioState.mode.ps < 3) ∧
    (let s := ioState.setPort 0 { ioState.port 0 with rrs := true }
     cfgLive s 0 = true ∧ (s.port (ctlPort s 1)).rrs = true) ∧
    (ioState.power.hostBif = false ∧ portLive ioState 0 = true ∧ (ioState.port 0).linkUp = true ∧ (ioState.port 0).badGroups = [] ∧ (ioState.port 0).width = 16) := by decide

/-- Small states meet the hypotheses of each clause of `Obligations.FunctionAndLinkStatesComplete`. -/
theorem witness_FunctionAndLinkStatesComplete :
    (cfgLive ioState 0 = true ∧ (ioState.port (ctlPort ioState 1)).rrs = false ∧ barLive ioState 1 = true ∧ ioState.mode.ps < 3) ∧
    (portLive quietState 0 = true ∧ (quietState.port 0).linkUp = true ∧ (quietState.port 0).l1 = none ∧ l0pEnabled quietState 0 = true ∧
      linkQuiet quietState 0 = true ∧ l1Enabled quietState 0 = true ∧ l1SubEnabled quietState 0 2 = true) ∧
    (∃ id ∈ ioState.ctlIds, barLive ioState id = true) ∧
    (hubAnswers ioState = true ∧ ctlExists ioState 1 = true ∧ inBar ioState 0 0x1000 = false) ∧
    (let s := ioState.setFn 0 { d3hot := true }
     hubAnswers s = true ∧ ctlExists s 1 = true ∧ (s.fn 0).d3hot = true) := by
  have h1 : (cfgWritten (quietState.fn 0) 0x338).getLsbD 3 = true := by decide
  have h2 : (cfgWritten (quietState.fn 0) 0x080).getLsbD 1 = true := by decide
  have h3 : (cfgWritten (quietState.fn 0) 0x308).getLsbD 2 = true := by decide
  refine ⟨by decide, ⟨by decide, by decide, by decide, ?_, by decide, ?_, ?_⟩, by decide, by decide, by decide⟩
  · simp [l0pEnabled, cfgRead, h1]
  · simp [l1Enabled, cfgRead, h2]
  · have h : (quietState.fn 0).d3hot = false := by decide
    simp [l1SubEnabled, cfgRead, h, h3]

/-- Small states meet the hypotheses of each clause of `Obligations.FabricFaultsTakeTheirLevel`. -/
theorem witness_FabricFaultsTakeTheirLevel :
    (ioState.hubPowered = true ∧ 3 ∉ ioState.cache.fenced ∧ switching ioState = false) ∧
    (let s : State := { ioState with trust := { ioState.trust with activating := some { ref := adminRef, toSlot := 2 } } }
     s.hubPowered = true ∧ switching s = true) ∧
    (let s : State := { ioState with cache := { ioState.cache with remirroring := [3] } }
     s.hubPowered = true ∧ 3 ∈ s.cache.remirroring) ∧
    ((ioState.link 7).fenced = false ∧ ioState.fabric.transit = [] ∧ ringJoined (fenceLinks [7] ioState) ioState.cache.fenced = true ∧ 15 ∉ (ioState.link 7).bad ∧
      ioState.guard.finj.armed = none ∧ (ioState.link 7).replays = []) ∧
    (let s := ioState.setLink 7 { replays := [(15, 0), (15, 0)] }
     (s.link 7).replays = [(15, 0), (15, 0)] ∧ s.now ≤ 0 + 1000000 ∧ (s.link 7).bad = [] ∧ (s.link 7).fenced = false ∧
       s.guard.finj.armed = none ∧ s.fabric.transit = []) ∧
    (halfWhole ioState 1 = true ∧ ioState.mode.halfDown.length = 2 ∧ ioState.mode.halfDown.getD 1 false = false ∧ ioState.mode.halfDown.getD 0 false = false) ∧
    tblFind ioState.guard.lockstepAt (0, 1) = none ∧
    (tblFind ioState.guard.mod15At 5 = none ∧ tblFind ioState.guard.noted (5, 0x8021) = none) ∧
    (ioState.mode.cryptoDown.length = 2 ∧ ioState.mode.cryptoDown.getD 1 false = false ∧ ioState.mode.cryptoDown.getD 0 false = false) := by
  decide

/-- A stream of 2 chunks set up on block 3 of region 1, whose second chunk parity is written (or checked), after the first or before it. -/
def streamState (check : Bool) (lines : Tbl (Nat × Nat) AccLine) : State :=
  ioState.setPblock 1 3 { setups := [(5, { msyn := 1, width := 3, check := check, count := 2 })], lines := lines }

/-- The tags of its first operand (op 1) and of its last (op 3): the residue of hand 2 and offset 7 is 9. -/
def tagOf (op : BitVec 4) (ares : BitVec 4) : FlitTag :=
  { stream := 5, op := op, hand := 2, chunk := 1, msyn := 1, coefA := 1, coefB := 2, foff := 7, ares := ares
    fres := flitResidue (List.replicate 64 0xA5) }

/-- The lines after the first operand. -/
def halfSum : Tbl (Nat × Nat) AccLine :=
  [((5, 7), { count := 1, seeds := 1, lasts := 0, checks := 0, p := zeros 64, q := zeros 64, t := zeros 64 })]

/-- Small states meet the hypotheses of each clause of `Obligations.ParityLinesAreTheSums`. -/
theorem witness_ParityLinesAreTheSums :
    (let s := streamState false []
     let b := s.pblock 1 3
     s.hubPowered = true ∧ 1 ∉ s.cache.fenced ∧ s.fabric.transit = [] ∧ routeOf s 1 1 5 = [] ∧
       routeOf s 4 1 5 ≠ [] ∧ (∀ l ∈ routeOf s 4 1 5, (s.link l.1).fenced = false ∧ buffersUsed s l = 0) ∧ s.guard.finj.armed = none ∧
       b.active = true ∧ b.gated = false ∧ fitBytes 64 (List.replicate 64 0xA5) = List.replicate 64 0xA5 ∧
       (tagOf 1 9).fres ≠ flitResidue (List.replicate 64 0) ∧ tagRejected b (tagOf 0 9) = false ∧ tagRejected b (tagOf 1 9) = false ∧
       (∃ u ∈ tblFind b.setups 5, 0 + 1 < u.count) ∧ (5, 7) ∉ b.finished ∧ b.waiting = [] ∧ lineFree b 5 = true ∧
       tagRejected b (tagOf 1 8) = true ∧ b.rejected = []) ∧
    ∀ check ∈ [false, true],
      let s := streamState check halfSum
      let b := s.pblock 1 3
      s.hubPowered = true ∧ 1 ∉ s.cache.fenced ∧ s.fabric.transit = [] ∧
        routeOf s 1 1 5 = [] ∧ s.guard.finj.armed = none ∧
        b.active = true ∧ b.gated = false ∧ tagRejected b (tagOf 3 9) = false ∧
        tblHas b.lines (5, 7) = true ∧ b.waiting = [] ∧
        ∃ u ∈ tblFind b.setups 5, u.count ≤ (tblGet b.lines (5, 7) zeroLine).count + 1 ∧
          marksOk u.count (accumulate (tagOf 3 9) (List.replicate 64 0xA5) (tblGet b.lines (5, 7) zeroLine)) = true := by decide +kernel

/-! ## Gauge and scheduler -/

/-- A pack in place, identified as code 1 (1 Ah, Li-ion) and rested at 50 %. -/
def packState : State :=
  { adminState with gauge := { State.reset.gauge with
      present := true, idCode := some 1, fccUah := 1000000, socV := { num := 1, den := 2 }, tempOk := true, tempDc := 250, cellMv := [3700, 3700] } }

/-- Small states meet the hypotheses of each clause of `Obligations.PackIsSampledAndCounted`. -/
theorem witness_PackIsSampledAndCounted :
    (adminState.mode.mode ≠ .ship ∧ adminState.power.sentinelDown = false ∧ adminState.power.sentinelOff = false ∧
      500000 < 500001 ∧ adminState.gauge.openRun < 4) ∧
    (let s : State := { packState with gauge := { packState.gauge with openRun := 4 } }
     4 ≤ s.gauge.openRun ∧ s.gauge.present = true ∧ s.mode.mode ≠ .ship) ∧
    (let s : State := { adminState with gauge := { adminState.gauge with closedRun := 4 } }
     500000 ≤ 500000 ∧ s.gauge.present = false ∧ 4 ≤ s.gauge.closedRun ∧ s.power.sentinelDown = false) ∧
    (packState.gauge.cal.senseGain = 16777216 ∧ packState.gauge.cal.senseOffset = 0 ∧ packState.gauge.learning = .idle) ∧
    (packState.gauge.present = true ∧ packState.gauge.idCode.isSome = true ∧ packState.power.sentinelDown = false ∧ atRest packState.gauge = true) ∧
    (∀ temp ∈ [-200, 600], let s : State := { packState with gauge := { packState.gauge with tempWait := true, tempDc := temp } }
      s.gauge.tempWait = true ∧ -200 ≤ s.gauge.tempDc ∧ s.gauge.tempDc ≤ 600) ∧
    mayCommit adminState adminRef = true ∧ adminRef.sqid = 0 := by decide

/-- Small states meet the hypotheses of each clause of `Obligations.HoldupReadyMeansItsConditions`. -/
theorem witness_HoldupReadyMeansItsConditions :
    packState.mode.mode ≠ .ship ∧ packState.power.sentinelOff = false ∧ packState.power.sentinelDown = false ∧
    (let s : State := { packState with power := { packState.power with sentinelDown := true } }
     s.mode.mode ≠ .ship ∧ s.power.sentinelDown = true) := by decide

/-- A learning run: idle and ready to start, discharging, or resting from 100 % to a given state of charge. -/
def learningState (step : LearnStep) (soc dq : Nat) : State :=
  { packState with
    mode := { packState.mode with mode := .serve }
    gauge := { packState.gauge with
      fullCharge := true, rested := true, learning := step, learnS1 := { num := 1, den := 1 }, socV := { num := soc, den := 100 }
      learnDq := dq } }

/-- Small states meet the hypotheses of each clause of `Obligations.PathTestAndLearningComplete`. -/
theorem witness_PathTestAndLearningComplete :
    (packState.serving = true ∧ packState.power.mainPg = true ∧ packState.gauge.pathTest = false ∧ packState.power.sentinelDown = false) ∧
    (let s : State := { packState with gauge := { packState.gauge with pathTest := true } }
     s.gauge.pathTest = true) ∧
    (let s : State := { packState with power := { packState.power with chgEn := true } }
     s.power.chgEn = true) ∧
    (let s := learningState .idle 100 0
     s.gauge.idCode = some 1 ∧ s.mode.mode = .serve ∧ 100 ≤ s.gauge.tempDc ∧ s.gauge.tempDc ≤ 450 ∧ s.gauge.learnEn = true ∧
       s.gauge.fullCharge = true ∧ s.gauge.rested = true ∧ s.gauge.learning = .idle ∧ s.gauge.present = true) ∧
    ((learningState .discharging 100 0).gauge.learning = .discharging ∧ (learningState .discharging 100 0).gauge.learnEn = true) ∧
    (let s := learningState .resting 71 0
     s.gauge.idCode = some 1 ∧ s.gauge.learning = .resting ∧ s.gauge.learnEn = true ∧ s.gauge.rested = true ∧
       fLt (fSub s.gauge.learnS1 s.gauge.socV) (frac 30 100) = true) ∧
    (let s := learningState .resting 50 (500000 * 3600 * 24000 * 1000)
     s.gauge.idCode = some 1 ∧ s.gauge.learning = .resting ∧ fLt (fSub s.gauge.learnS1 s.gauge.socV) (frac 30 100) = false ∧
       let fcc := (fFloor (fDiv (frac s.gauge.learnDq (3600000 * 24000)) (fSub s.gauge.learnS1 s.gauge.socV))).toNat
       nameCapUah 1 ≤ 2 * fcc ∧ 10 * fcc ≤ 11 * nameCapUah 1) := by decide

/-- Small states meet the hypotheses of each clause of `Obligations.GrantsKeepTheFloors`. -/
theorem witness_GrantsKeepTheFloors :
    ([100, 50, 40, 30, 20, 10, 5] : List Int).length = 7 ∧ (∀ r ∈ ([100, 50, 40, 30, 20, 10, 5] : List Int), 0 ≤ r) ∧
    [50, 20, 10, 5, 2, 1].length = 6 := by decide

/-- Small states meet the hypotheses of each clause of `Obligations.WindowMovesVoltagesTwentyMillivolts`. -/
theorem witness_WindowMovesVoltagesTwentyMillivolts :
    ioState.hubPowered = true ∧
    (let s : State := { ioState with sched := { ioState.sched with nacks := [0, 0, 0, 0, 2] } }
     s.hubPowered = true ∧ [true, true, true, true, false].getD 4 true = false ∧ s.sched.nacks.getD 4 0 = 2 ∧ s.sched.vset.length = 5) ∧
    (let s : State := { inMode .holdup ioState with sched := { ioState.sched with held := [4] } }
     s.hubPowered = true ∧ s.mode.mode = .holdup ∧ 4 ∈ s.sched.held ∧ [true, true, true, true, false].getD 4 true = false) := by decide

/-- The features of the controller with APST enabled, and its entry for power state 0. -/
def apstState (target : Nat) : State :=
  serving { ctlWith [] [] with feats := [(0x0C, 1)], apst := [(0, target, 100)] }

/-- Small states meet the hypotheses of each clause of `Obligations.PowerMeasuresAndIdleStatesComplete`. -/
theorem witness_PowerMeasuresAndIdleStatesComplete :
    (ioState.hubPowered = true ∧ ioState.sched.startup = true ∧ ioState.mode.mode ≠ .holdup ∧ 4 ∉ ioState.sched.missing) ∧
    (let s := ioState.setChan 7 { trained := true }
     s.hubPowered = true ∧ s.feats.memSrUs ≠ 0 ∧ s.cache.level < 3 ∧ (s.chan 7).trained = true ∧ (s.chan 7).failed = false ∧
       (s.chan 7).selfRefresh = false) ∧
    (let s := ioState.setPblock 3 8 {}
     s.feats.blockGateUs ≠ 0 ∧ (s.pblock 3 8).active = true ∧ (s.pblock 3 8).gated = false ∧ (s.pblock 3 8).lines = [] ∧
       (s.pblock 3 8).waiting = []) ∧
    (∀ target ∈ [3, 4], let s := apstState target
      s.serving = true ∧ ctlExists s 1 = true ∧ apstOn (s.ctl 1) = true ∧ s.mode.ps < 3 ∧ (∀ id ∈ s.ctlIds, openCount (s.ctl id) = 0) ∧
        tblFind (s.ctl 1).apst s.mode.ps = some (target, 100)) ∧
    (ioState.power.sentinelDown = false ∧ ioState.mode.mode ≠ .ship ∧ (1200 : Int) ≤ 1200 ∧ ioState.power.thermTrip = false) ∧
    (let s : State := { ioState with power := { ioState.power with thermTrip := true } }
     s.power.sentinelDown = false ∧ (999 : Int) < 1000 ∧ s.power.thermTrip = true) ∧
    ioState.power.sentinelDown = false ∧ ioState.power.sentinelOff = false ∧ ioState.power.crystalStopped = false := by decide

/-! ## Cache, journal and hand updates -/

/-- A deck of 16 members with K = 2, M = 1, S = 1: five hands a round, and chunks of 16 KiB. -/
def smallShape : Shape := { mode := .shuffle, k := 2, m := 1, n := 16, s := 1, chunkShift := 14, seed := 0, rounds := 14272 }

/-- Its label, with a member in each of slots 0 to 15. -/
def smallLabel : DeckLabel :=
  { deckId := 1, shape := smallShape, deckState := 0, generation := 1, cleanStop := false, imported := false, failList := []
    keeper0 := some 0, keeper1 := some 2, uuid := 77, dataStart := nativeDataStart, journalStart := 1048576, voltStart := 2097152
    labelSeq := 1, createTime := 0, redeal := none, members := (List.range 16).map fun i => ⟨some i, .active, false, 536870912, i + 1⟩
    wseqCeil := 1024 }

/-- The keeper ring on member 0, empty. -/
def smallRing : Ring :=
  { member := 0, keeper := true, complete := true, epoch := 1, hdrSeq := 1, headBlock := 1, tailBlock := 1, headRseq := 1, moved := 0, recs := [] }

/-- The deck, with nothing under way. -/
def smallDeck : Deck :=
  { label := smallLabel, pending := false, wseq := 8, jseq := 8, tableSeq := 1, tables := [], gone := [], journal := [], intents := [], batch := []
    trimJ := [], trimW := [], rings := [smallRing], updates := [], locks := [], replay := [], resync := none, copyStarted := 0, segs := []
    curSeg := 0xFF, cursor := 0, rebuilt := [], replaceSlot := none, hold := false, patrol := {}, redeal := none, scanDue := false
    exposure := 0, dataLost := false }

/-- What a drive says of itself. -/
def driveOf (x : Nat) : DriveInfo :=
  { nguid := x + 1, cap := 536870912, metaBytes := 16, vwc := true, fwRev := 0, afi := 1, meas := 0
    spdm := false, spdmError := none, blockErase := false, l12ok := true, maxWidth := 4 }

/-- A drive with both ports serving: a member of deck 1, or of no deck. -/
def driveSlot (cls : DriveClass) (x : Nat) : Slot :=
  let port : MPort := { speed := 64, width := 2, usable := true, ident := some (x + 1), l12ok := true }
  { present := true, power := true, perst := false, portA := port, portB := port, cls := cls, info := some (driveOf x)
    deckId := if cls = .member then some 1 else none
    index := if cls = .member then some x else none }

/-- A state with the deck given, its members, and `oneVolume`. -/
def withDeck (d : Deck) (s : State) : State :=
  { s with
    decks := { s.decks with decks := [(1, d)], volumes := [(1, oneVolume)] }
    members := { s.members with slots := (List.range 16).map fun x => (x, driveSlot .member x) } }

/-- A read or write of one block at the address given, with a page of host memory. -/
def oneBlock (slba : Nat) : IoArgs :=
  { ref := ioRef, nsid := 1, slba := slba, nlb := 0, ptr := .prp 4096 0 [], pract := false, pi := {} }

/-- The part of a command that writes page 15 whole. -/
def partOne : PagePart := { ns := 0, vpage := 15, mask := 0xFF, zero := 0, poison := 0, data := [], spans := [], base := none, home := none }

/-- A write at a step of its life. -/
def jobState (step : WriteStep) (journaled : Bool) : State :=
  withDeck smallDeck (serving (ctlWith [] [{ cid := 9, opcode := 1, nsid := 1, job := some {
    step := step, parts := [partOne], journaled := journaled, jseq := 1 } }]))

/-- `oneVolume` with metadata and protection information of type 1: 8 bytes after 512, in the last bytes. -/
def piVolume : Volume := { oneVolume with lbaf := 1, dps := 1 }

/-- A check of the application tag 5, which metadata of zeros fails. -/
def tagCheck : PiArgs := { prchk := 2, appTag := 5, appMask := 0xFFFF }

/-- The DATA record of a write of `ioRef`. -/
def recordOne : JRec := { jseq := 1, gen := 1, body := .data 1 1 1 false [], blocks := 1 }

/-- The deck with that record in its journal and on its keeper. -/
def recordDeck : Deck := { smallDeck with journal := [recordOne], rings := [{ smallRing with recs := [recordOne] }] }

/-- Small states meet the hypotheses of each clause of `Obligations.WritesAreStagedThenSwitched`. -/
theorem witness_WritesAreStagedThenSwitched :
    (let s := withDeck smallDeck ioState
     let x := hostTransfer s oneVolume (cmbArgs s oneVolume (oneBlock 15)) [] []
     (match protectWrite oneVolume {} false 1 x.1 x.2 with | .error _ => false | .ok _ => true) = true) ∧
    (match protectWrite piVolume tagCheck false 1 (zeros 512) (zeros 8) with | .error _ => true | .ok _ => false) = true ∧
    (let s := withDeck smallDeck ioState
     let b := cmbArgs s oneVolume (oneBlock 15)
     (∃ e ∈ robOf s ioRef, e.job = none) ∧ ioOpen s ioRef = true ∧ metaHeld s 1 = false ∧ rangeStatus s (oneBlock 15) true = 0 ∧
       s.vol 1 = some oneVolume ∧ (s.deck 1).isSome = true ∧ checkIo s oneVolume false b = .good ∧
       dataPoisoned s 1 (ioPieces (s.ctl 1).mps oneVolume b) = false ∧
       volStatus s 1 1 true = 0 ∧ heldRanges s ioRef [⟨14, 2⟩] = [⟨14, 2⟩] ∧ 2 * (volFormat oneVolume).1 ≤ 2 * 1048576 ∧ 14 + 2 ≤ oneVolume.nsze) ∧
    (∃ e ∈ robOf (jobState .waiting true) ioRef, ∃ j ∈ e.job, j.step = .waiting) ∧ isOpen (jobState .waiting true) ioRef = true ∧
    (let s := withDeck recordDeck (jobState .recordSent true)
     (∃ e ∈ robOf s ioRef, e.nsid = 1 ∧ ∃ j ∈ e.job, j.step = .recordSent ∧ j.jseq = 1) ∧ isOpen s ioRef = true ∧
       (s.vol 1).isSome = true ∧ recDurable s 1 recordDeck 1 = true) ∧
    (∀ journaled ∈ [false, true], let s := jobState (if journaled then .recordDurable else .staged) journaled
      mayCommit s ioRef = true ∧ ∃ e ∈ robOf s ioRef, ∃ j ∈ e.job, if j.journaled then j.step = .recordDurable else j.step = .staged) ∧
    let s := jobState .staged true
    (∃ q ∈ findSq (s.ctl 1) 1, earlierDurable q.rob 9 = true) ∧ isOpen s ioRef = true ∧ s.serving = true ∧ indexRoom s 1 0 = true ∧
      ∃ e ∈ robOf s ioRef, ∃ j ∈ e.job, j.journaled = true ∧ j.step = .staged ∧ overlapAhead s ioRef (jobPages j) = false ∧
        ∃ v ∈ s.vol e.nsid, v.deckId = 1 ∧ ∃ d ∈ s.deck v.deckId,
          ringTakesData d (recBlocks (.data 1 1 e.nsid false (jobRecord j.parts))) = true := by decide +kernel

/-- Small states meet the hypotheses of each clause of `Obligations.HostErrorsAndVectorsComplete`. -/
theorem witness_HostErrorsAndVectorsComplete_record :
    let s := withDeck recordDeck (jobState .recordSent true)
    ∃ e ∈ robOf s ioRef, robDone e = false ∧ ∃ j ∈ e.job,
      s.decks.decks.find? (fun p => p.2.journal.any (isDataOf ioRef e.nsid j.jseq)) = some (1, recordDeck) := by decide +kernel

/-- Page 15 of the volume, whole and of zeros, in the cache. -/
def cleanPage : DirEntry := { dirtyPage with region := (pageRegions [] 0 15).1.getD 0, state := .clean, vpage := 15, zero := 0xFF }

/-- `oneVolume` in blocks of 512 bytes. -/
def blockVolume : Volume := { oneVolume with lbaf := 0, nsze := 128 }

/-- Small states meet the hypotheses of each clause of `Obligations.ReadsServeTheNewestVersions`. -/
theorem witness_ReadsServeTheNewestVersions_read :
    let s0 := withDeck smallDeck { ioState with cache := { ioState.cache with dir := [cleanPage] } }
    let s := { s0 with decks := { s0.decks with volumes := [(1, blockVolume)] } }
    let b := cmbArgs s blockVolume (oneBlock 120)
    (robOf s ioRef).isSome = true ∧ ioOpen s ioRef = true ∧ isTurn s ioRef = true ∧ s.reads = [] ∧ metaHeld s 1 = false ∧
      rangeStatus s (oneBlock 120) false = 0 ∧ s.vol 1 = some blockVolume ∧ (s.deck 1).isSome = true ∧ (s.ctl 1).late = [] ∧
      (let r := byteRanges smallShape blockVolume 120 1
       (∀ p ∈ (pagesOf r.1.1 r.1.2).map (fun p => resolvePage s.cache 0 p (wantMask p r.1.1 r.1.2)), p.missing = 0 ∧ p.poison = 0) ∧
         pagesOf r.1.1 r.1.2 = [15] ∧ pagesOf r.2.1 r.2.2 = []) ∧
      checkIo s blockVolume true b = .good ∧ checkIo s blockVolume false b = .good ∧
      ioPieces (s.ctl 1).mps blockVolume b = [(some 4096, 512)] ∧ inCmb (s.ctl 1) 4096 512 = none ∧
      hostTransfer s blockVolume b (zeros 512) [] = (zeros 512, []) ∧
      piCheck blockVolume {} 1 [] [] = none ∧ (piCheck piVolume tagCheck 1 (zeros 512) (zeros 8)).isSome = true := by
  decide +kernel

/-- Small states meet the hypotheses of each clause of `Obligations.ReadsServeTheNewestVersions`. -/
theorem witness_ReadsServeTheNewestVersions :
    (let s := withDeck smallDeck ioState
     (∃ q ∈ findSq (s.ctl 1) 1, ∃ e ∈ q.rob.head?, e.cid = 9) ∧ ioOpen s ioRef = true ∧ volStatus s 1 1 false = 0 ∧ sanitizeBar s = 0) ∧
    let s : State := withDeck smallDeck { ioState with cache := { ioState.cache with fills := [(0, 15)] } }
    let lock := decodeReq 1 0 15
    let locked := { smallDeck with locks := [(1, .exclusive)] }
    let above : Deck := { smallDeck with resync := some (0, 0) }
    let lost : List BlockRead := (List.range 3).map fun c => { row := 3, chunk := c, status := .mediaError, data := [], tag := none }
    (0, 15) ∈ s.cache.fills ∧ (∃ v ∈ s.vol 1, v.deckId = 1 ∧ fillPlace smallDeck v 15 = some (1, 3, 1)) ∧ (s.deck 1).isSome = true ∧
      tblHas (atHand s 1 smallDeck 1 3
        [{ row := 3, chunk := 1, status := .good, data := zeros 4096, tag := none }]) 1 = true ∧
      tblHas (atHand s 1 above 1 3 []) 1 = false ∧ aboveResync above 1 = true ∧
      tblHas (atHand s 1 locked 1 3 []) 1 = false ∧ aboveResync locked 1 = false ∧ lockGranted s 1 locked lock = false ∧
      tblHas (atHand s 1 smallDeck 1 3 lost) 1 = false ∧ aboveResync smallDeck 1 = false ∧ lockGranted s 1 smallDeck lock = true ∧
      smallShape.m < ((List.range (widthOf smallShape)).filter fun x =>
        !tblHas (atHand s 1 smallDeck 1 3 lost) x && (chunkMissing smallDeck 1 x || lost.any fun r => decide (r.row = 3) && decide (r.chunk = x))).length := by
  decide +kernel

/-- A controller with its buffer enabled at 4 GiB, and window 15 as given. -/
def cmbState (cre : Bool) (w : Pwin) : State :=
  serving { ctlWith [] [] with cre := cre, cmse := cre, cba := 4294967296, pwins := [(15, w)] }

/-- A read or write of 512 bytes by requester 0x100. -/
def bar2At (off : Nat) : Bar2Tlp := { fn := 0, rid := 0x100, offset := off, len := 512, data := List.replicate 512 0x5A, poisoned := false }

/-- The values of a window over the first 16 pages for requester 0x100, that allow neither reads nor writes. -/
def shutWin : PwinRegs := { en := true, rid := 0x100, wbase := 0, wsize := 16, tbase := 262128 }

/-- Small states meet the hypotheses of each clause of `Obligations.MemoryBufferAndWindowsComplete`. -/
theorem witness_MemoryBufferAndWindowsComplete :
    (let s := cmbState false {}
     let set := { s.ctl 1 with cre := true, cmse := true, cba := 4294967296, cbai := false }
     barLive s 1 = true ∧ (s.ctl 1).cre = false ∧ dirtyCount s ≤ dirtyLimitOf (s.setCtl 1 set) ∧ (s.ctl 1).stalled = [] ∧
       winPending (s.ctl 1) = false ∧ cmbEnabled (s.ctl 1) = false) ∧
    (let s : State := { cmbState false {} with cache := { State.reset.cache with dir := [dirtyPage] } }
     let set := { s.ctl 1 with cre := true, cmse := true, cba := 4294967296, cbai := false }
     barLive s 1 = true ∧ (s.ctl 1).cre = false ∧ dirtyLimitOf (s.setCtl 1 set) < dirtyCount s) ∧
    (let s := cmbState true { active := shutWin }
     barLive s 1 = true ∧ (s.ctl 1).cre = true ∧ s.mode.ps < 3 ∧ winPending (s.ctl 1) = false ∧ cmbEnabled (s.ctl 1) = true ∧
       decodeBar2 (s.ctl 1) (bar2At 0) true = .rejected 15 ∧ decodeBar2 (s.ctl 1) (bar2At 0) false = .rejected 15) ∧
    (let s := cmbState true {}
     barLive s 1 = true ∧ cmbEnabled (s.ctl 1) = true ∧ (∀ n, n < 16 → ridMatches (pwin (s.ctl 1) n).active 0x100 = false) ∧
       (cmbRead 1 1073741312 512 s.cache).2 = false ∧ (bar2At 1073741312).poisoned = false ∧ (s.ctl 1).stalled = [] ∧
       (cmbWritePage 1 262143 3584 (bar2At 1073741312).data false s.cache).isSome = true ∧
       (cmbWritePage 1 262143 3584 (bar2At 1073741312).data false { s.cache with fenced := [0, 1, 2, 3] }).isNone = true) ∧
    (let s := cmbState true { pending := true }
     15 < 16 ∧ (pwin (s.ctl 1) 15).pending = true ∧ (s.ctl 1).held = [] ∧ (s.ctl 1).stalled = []) ∧
    (let s := cmbState true { staged := shutWin }
     let w := pwin (s.ctl 1) 15
     w.pending = false ∧ w.staged.wbase + w.staged.wsize ≤ 262144 ∧ w.staged.tbase + w.staged.wsize ≤ 262144) ∧
    let s := cmbState true { staged := { shutWin with tbase := 262129 } }
    let w := pwin (s.ctl 1) 15
    w.pending = false ∧ 262144 < w.staged.tbase + w.staged.wsize := by decide +kernel

/-- An intent of WSEQ 8 for hand 0, in the journal as record 8. -/
def smallIntent : Intent :=
  { wseq := 8, hand := 0, kind := .full, blkFirst := 0, blkLast := 0, dmask := 1, pmask := 1, degraded := false, dataJ := false, mmask := 7
    reconJseq := 0, jseq := some 8, durable := false, newGen := false }

/-- The update of hand 0 that the intent protects. -/
def smallUpd : HandUpd :=
  { hand := 0, wseq := 8, kind := .full, blkFirst := 0, blkLast := 0, changed := [], nsid := 1, issued := false, todo := [], complete := false
    durable := false, second := false, parent := 0, dual := [], reconJseq := 0, recon := [] }

/-- The deck with that update at a step. -/
def updDeckAt (u : HandUpd) : Deck :=
  { smallDeck with
    rings := [{ smallRing with recs := [{ jseq := 8, gen := 1, body := .intent [smallIntent], blocks := 1 }] }]
    intents := [smallIntent], updates := [u], locks := [(0, .exclusive)] }

/-- Small states meet the hypotheses of each clause of `Obligations.HandUpdatesRunTheirSteps`. -/
theorem witness_HandUpdatesRunTheirSteps :
    let lock : LockReq := { key := 0, mode := .exclusive, user := .update }
    (let s := withDeck smallDeck dirtyState
     (∃ v ∈ handOwner s 1 0, v.2 = 0) ∧ (s.deck 1).isSome = true ∧ destageTurn s 1 0 = true ∧ smallDeck.starting = [] ∧ indexRoom s 1 0 = true ∧
       lock ∉ smallDeck.granted ∧ lock ∉ smallDeck.lockQueue ∧ 0 ∉ smallDeck.entryWait ∧ lockGranted s 1 smallDeck lock = true) ∧
    (let d := { smallDeck with locks := [(0, .shared)] }
     let s := withDeck d dirtyState
     destageTurn s 1 0 = true ∧ indexRoom s 1 0 = true ∧ lockGranted s 1 d lock = false) ∧
    (∃ d ∈ (withDeck (updDeckAt smallUpd) ioState).deck 1, (∃ i ∈ d.intents.find? (fun x => decide (x.wseq = 8)),
        i.jseq.any (recDurable (withDeck (updDeckAt smallUpd) ioState) 1 d) = true) ∧
      ∃ u ∈ d.updates.find? (fun x => decide (x.wseq = 8)), u.issued = false) ∧
    (let d := updDeckAt { smallUpd with issued := true }
     let s := withDeck d ioState
     (∃ u ∈ d.updates.find? (fun x => decide (x.wseq = 8)), u.second = false ∧ u.issued = true ∧ u.complete = false ∧ u.todo = []) ∧
       d.redeal = none ∧ handHeld s 1 0 = false ∧ d.lockQueue = []) ∧
    (let d := updDeckAt { smallUpd with issued := true, complete := true }
     let s := withDeck d ioState
     ∃ u ∈ d.updates.find? (fun x => decide (x.wseq = 8)), u.complete = true ∧ u.durable = false ∧ flushed s d u = true) ∧
    (let g := { smallRing with moved := 9, complete := false }
     let d := { smallDeck with rings := [g] }
     let s := withDeck d ioState
     d.rings = [g] ∧ g.keeper = true ∧ 0 < g.moved ∧ (∃ u ∈ (clearCleanStop 1 s).deck 1, u.rings = [g]) ∧
       d.rings.find? (fun r => decide (r.member = 0)) = some g ∧ g.complete = false) ∧
    let s := ioState.setSlot 3 { driveSlot .member 3 with unflushed := true }
    (s.slot 3).unflushed = true ∧ slotReachable (s.slot 3) = true := by decide +kernel

/-! ## Integrity and test -/

/-- The page of `dirtyState`, on a trained channel, without marks. -/
def scrubState : State := { dirtyState with cache := { dirtyState.cache with dir := [{ dirtyPage with region := 0 }] } }

/-- Small states meet the hypotheses of each clause of `Obligations.MemoryErrorsAreCountedAndRepaired`. -/
theorem witness_MemoryErrorsAreCountedAndRepaired :
    (State.reset.mode.mode = .boot ∧ (State.reset.chan 7).trained = false ∧ (State.reset.chan 0).trained = false ∧
      false = State.reset.cache.halfDensity) ∧
    (scrubState.ready = true ∧ (scrubState.chan (frameChannel 0 4)).failed = false ∧ (scrubState.chan (frameChannel 0 4)).marks = [] ∧
      ∃ e ∈ entryAt scrubState.cache 0 4, bitOf e.valid (63 / 8) = true ∧ bitOf e.zero (63 / 8) = false ∧ e.state ≠ .retired) ∧
    (sumOf [0, 0, 0, 0, 0, 0] = 0 ∧ sumOf [1, 1, 1, 1, 0, 0] = 4 ∧ wordClass none [5, 1, 0, 0, 0, 0] = .ue) ∧
    (ioState.hubPowered = true ∧ (ioState.guard.repairs.filter fun r => decide (r.die = 5) && decide (r.macroNo = 1023)).length < 8 ∧
      ioState.guard.repairs.length < 1024) ∧
    let s : State := { ioState with guard := { ioState.guard with repairs := (List.range 8).map fun i => { void := false, die := 5, macroNo := 1023, row := i, spare := i } } }
    s.hubPowered = true ∧ 8 ≤ (s.guard.repairs.filter fun r => decide (r.die = 5) && decide (r.macroNo = 1023)).length := by decide

/-- Test mode with a test frame on channel 7 and the address of its word 63, or of an SRAM macro. -/
def ecctState (testEn sram : Bool) : State :=
  { serving {} with guard := { State.reset.guard with ecct := {
      testEn := testEn, frames := [(7, 3, 5)]
      addr := if sram then 0x8000000000000000 else 7 * 2 ^ 8 + 63
      data := List.replicate 64 0x3C } } }

/-- Small states meet the hypotheses of each clause of `Obligations.TestModeReadsBackWhatItWrites`. -/
theorem witness_TestModeReadsBackWhatItWrites :
    ∀ testEn ∈ [false, true], ∀ sram ∈ [false, true],
      let s := ecctState testEn sram
      hubAnswers s = true ∧ rwlOpen s = true ∧ s.guard.ecct.testEn = testEn ∧ s.guard.ecct.data.length = 64 ∧
        ecctExists s.guard.ecct = true ∧ ecctSram s.guard.ecct = sram := by decide

/-- A descriptor of the first row of R449, on a Glildo link. -/
def linkDesc : FinjDesc :=
  { target := 2, action := 1, stage := 0, dir := 0, slotLink := 1, portSub := 2, matchKind := 0, reorderDepth := 0, count := 1, interval := 1
    skip := 0, corruptMask := 0, corruptDw := 0 }

/-- SERVE without a cause of CONSTRAINED, with an authorisation of every scope. -/
def ownerState : State :=
  { adminState with
    trust := { adminState.trust with auth := some (7, 1000) }
    cache := { adminState.cache with writeThrough := false } }

/-- Small states meet the hypotheses of each clause of `Obligations.FaultInjectionIsArmedOnce`. -/
theorem witness_FaultInjectionIsArmedOnce :
    (adminTurn ownerState adminRef = true ∧ authorised ownerState 0 = true ∧ armRefusal linkDesc ownerState = 0) ∧
    (adminTurn adminState adminRef = true ∧ hubAnswers adminState = true ∧ authorised adminState 0 = false ∧ armRefusal linkDesc adminState = 1) ∧
    armRefusal { linkDesc with slotLink := 9 } ownerState = 6 ∧
    (let s : State := { ownerState with guard := { ownerState.guard with finj := { ownerState.guard.finj with armed := some linkDesc } } }
     hubAnswers s = true ∧ authorised s 0 = true ∧ s.guard.finj.armed = some linkDesc ∧ armRefusal linkDesc s = 8) := by decide

/-! ## Admin commands -/

/-- Small states meet the hypotheses of each clause of `Obligations.LogsFeaturesAndIdentifyAnswer`. -/
theorem witness_LogsFeaturesAndIdentifyAnswer :
    adminTurn adminState adminRef = true ∧ (logPage adminState 1 0xC0 0 0xFFFFFFFF).1 = 0 ∧ (identifyData adminState 1 1 0 0).1 = 0 ∧
    (getFeature adminState 1 0xC0 0 0).1 = 0 ∧ (∀ w ∈ [0, 40, 125], capOk w = true) ∧ (∀ w ∈ [39, 126], capOk w = false) ∧
    low16 0x00010018 = 24 ∧ low16 0x00002238 = 8760 ∧ low16 0x0000C350 = 50000 ∧ 0xC9 ∉ standardFids ++ vendorFids := by decide +kernel

/-- Small states meet the hypotheses of each clause of `Obligations.ManagementRequestsAreAnswered`. -/
theorem witness_ManagementRequestsAreAnswered :
    (sidebandLive adminState = true ∧ adminState.mode.mode ≠ .standby) ∧
    (sidebandLive (inMode .standby adminState) = true ∧ (inMode .standby adminState).mode.mode = .standby) ∧
    (adminTurn adminState adminRef = true ∧
      ((adminState.setCtl 1 { adminState.ctl 1 with miResponse := some [1] }).ctl 1).miResponse = some [1]) ∧
    adminTurn (adminState.setCtl 1 { adminState.ctl 1 with miResponse := some [1] }) adminRef = true := by decide +kernel

/-- The data of a create of 8 blocks of 4,096 bytes on deck 1. -/
def smallCreate : NsCreate := { nsze := 8, ncap := 8, flbas := 2, dps := 0, nmic := 1, deckId := 1, crypt := 0 }

/-- A wipe job of the whole device. -/
def smallWipe : WipeJob :=
  { kind := 2, nsids := [1], done := 0, ses := 0, pattern := 0, owpass := 1, invert := false, ref := some adminRef }

/-- Small states meet the hypotheses of each clause of `Obligations.NamespacesAreMadeAndRemoved`. -/
theorem witness_NamespacesAreMadeAndRemoved :
    (let s := withDeck smallDeck adminState
     adminTurn s adminRef = true ∧ nsCreateStatus s smallCreate = 0 ∧ (s.deck 1).isSome = true ∧ freeNsid s = some 2 ∧
       nsExtents s smallCreate smallDeck = some (5, [(0, 5, 5)]) ∧ nsDeleteStatus s 1 = 0 ∧ attachStatus s 1 1 [1] = 0 ∧
       formatStatus s 1 2 0 0 = 0 ∧ (∀ n ∈ formatNsids s 1, updatesOn s n = false) ∧ sanitizeStatus s 1 = 0 ∧ sanitizeStatus s 3 = 0 ∧
       formatNsids s 1 ≠ [] ∧ (∀ p ∈ s.decks.decks, p.2.updates = [])) ∧
    (let s := withDeck smallDeck adminState
     let s : State := { s with decks := { s.decks with volumes := [] } }
     adminTurn s adminRef = true ∧ formatStatus s 0xFFFFFFFF 2 0 0 = 0 ∧ formatNsids s 0xFFFFFFFF = []) ∧
    (let s := withDeck smallDeck (serving (ctlWith [{ cid := 7, opcode := 0x0D, waits := true, nsid := 1 }] []))
     (s.vol 1).isSome = true ∧ deleting s 1 = true ∧ ioOpenOn s 1 = false ∧ updatesOn s 1 = false) ∧
    (let s := withDeck smallDeck adminState
     let s : State := { s with decks := { s.decks with wipe := some smallWipe } }
     (∃ w ∈ s.decks.wipe, w.kind ≠ 1 ∧ w.done < 65536) ∧ plainRuns s = true) ∧
    let s := withDeck smallDeck adminState
    let s := s.setVol 1 { oneVolume with formatLeft := some 1, vstate := 2 }
    ∃ v ∈ s.vol 1, v.formatLeft.isSome = true := by decide +kernel

/-- Slots with a new drive and without slot power. -/
def newDriveState (power : Bool) : State :=
  adminState.setSlot 31 { driveSlot .newDrive 31 with power := power }

/-- Small states meet the hypotheses of each clause of `Obligations.MemberControlActs`. -/
theorem witness_MemberControlActs :
    (adminTurn adminState adminRef = true ∧ authorised adminState 2 = false ∧ authorised ownerState 2 = true ∧
      adminTurn ownerState adminRef = true) ∧
    (∀ power ∈ [false, true], let s := newDriveState power
      adminTurn s adminRef = true ∧ 31 < s.slots ∧ (s.slot 31).present = true ∧ (s.slot 31).power = power ∧ outStatus s 31 = 0 ∧
        portUsable s 31 (otherPort (1 % 2)) = true ∧ mayErase (s.slot 31).cls = true ∧ inRedeal s 31 = false ∧
        slotReachable (s.slot 31) = true) ∧
    let s := withDeck smallDeck adminState
    0 < s.slots ∧ (s.slot 0).cls = .member ∧ outStatus s 0 = 0 := by decide +kernel

/-! ## Members -/

/-- A slot with the port A given. -/
def portState (v : Slot) (p : MPort) : State := ioState.setSlot 5 { v with portA := p }

/-- A drive that has just been powered. -/
def freshSlot : Slot := { present := true, power := true, perst := false }

/-- A new image is being switched to. -/
def switchState : State := { ioState with trust := { ioState.trust with activating := some { ref := adminRef, toSlot := 1 } } }

/-- Small states meet the hypotheses of each clause of `Obligations.SlotsFollowPresenceAndPower`. -/
theorem witness_SlotsFollowPresenceAndPower :
    switching switchState = true ∧
    (let s := State.reset.setSlot 63 {}
     switching s = false ∧ presenceRead s = true ∧ presenceActs s = false ∧ 63 < s.slots ∧ (s.slot 63).present = false) ∧
    (let s := State.reset.setSlot 63 { present := true }
     switching s = false ∧ presenceRead s = true ∧ presenceActs s = false ∧ (s.slot 63).present = true) ∧
    (ioState.hubPowered = true ∧ 63 < ioState.slots ∧ (ioState.slot 63).present = false ∧ ioState.mode.mode ≠ .holdup ∧ switching ioState = false) ∧
    (∀ cls ∈ [.member, .newDrive], let s := ioState.setSlot 63 (driveSlot cls 63)
      s.hubPowered = true ∧ (s.slot 63).present = true ∧ (s.slot 63).cls = cls ∧ (s.slot 63).power = true) ∧
    (let s : State := { newDriveState false with members := { (newDriveState false).members with powerQueue := [31, 7] } }
     s.members.powerQueue = [31, 7] ∧ (s.slot 31).present = true) ∧
    (let s := ioState.setSlot 5 freshSlot
     (s.slot 5).present = true ∧ (s.slot 5).power = true ∧ (s.slot 5).perst = false ∧ (portOf (s.slot 5) 1).usable = false ∧
       (portOf (s.slot 5) 1).contained = false ∧ portRegion s.slots 5 1 ∉ s.cache.fenced ∧ inWindow s = false ∧
       (portOf (s.slot 5) 1).ident = none ∧ (portOf (s.slot 5) 1).lateTried = false ∧ (portOf (s.slot 5) 1).ladder = 0) ∧
    State.reset.mode.mode = .boot ∧ State.reset.mode.windowClosed = false ∧ 7 < 8 ∧ 63 < State.reset.slots ∧ 63 % 8 = 7 := by decide +kernel

/-- Small states meet the hypotheses of each clause of `Obligations.LadderStepsFollowTheirOrder`. -/
theorem witness_LadderStepsFollowTheirOrder :
    switching (portState freshSlot {}) = false ∧
    (let s := portState (driveSlot .newDrive 5) { usable := true, ladder := 1, tags := [⟨3, 0, .flush, .withheld, 0, 1, false, [], []⟩] }
     (s.slot 5).present = true ∧ (s.slot 5).power = true ∧ (portOf (s.slot 5) 0).contained = false ∧ (portOf (s.slot 5) 0).failed = false ∧
       (portOf (s.slot 5) 0).ladder < 2 ∧ withheldOn s 5 0 ≠ 0 ∧ (portOf (s.slot 5) 0).ladder < 3) ∧
    (let s := portState (driveSlot .newDrive 5) { failed := true }
     (portOf (s.slot 5) 0).failed = true ∧ (portOf (s.slot 5) 0).ladder = 0 ∧ (s.slot 5).present = true ∧ (s.slot 5).power = true) ∧
    (∀ present ∈ [false, true], let s := portState { freshSlot with present := present } { contained := true }
      (portOf (s.slot 5) 0).contained = true ∧ (s.slot 5).present = present) ∧
    (∀ step ∈ [2, 3, 4], let s := portState freshSlot { ladder := step }
      (portOf (s.slot 5) 0).ladder = step ∧ (s.slot 5).portA.ladder = step) := by decide +kernel

/-- A command on a tag of port A of slot 5. -/
def tagState (st : TagState) : State :=
  portState (driveSlot .newDrive 5) { speed := 64, width := 1, usable := true, tags := [⟨3, 2, .flush, st, 4096, 0, false, [], []⟩] }

/-- A member of deck 1 that is absent and failed-pending. -/
def pendingState : State :=
  let s := withDeck smallDeck ioState
  s.setSlot 3 { driveSlot .member 3 with present := false, removed := true, pendingAt := some 0, info := none }

/-- Small states meet the hypotheses of each clause of `Obligations.MemberCommandsAreTrackedByTheirTags`. -/
theorem witness_MemberCommandsAreTrackedByTheirTags :
    (∀ st ∈ [.outstanding, .quarantined false, .quarantined true],
      (∃ g ∈ findTag (tagState st) 5 0 3, g.state = st ∧ g.step = 0) ∧ (tagState st).guard.finj.armed = none) ∧
    (let s := tagState .outstanding
     (s.slot 5).present = true ∧ (portOf (s.slot 5) 0).speed ≠ 0 ∧ (portOf (s.slot 5) 0).contained = false ∧
       decodeInbound s { slot := 5, port := 0, write := true, addr := 0, len := 4, poisoned := false } = .violation ∧
       (∀ g ∈ findTag s 5 0 3, g.state = .outstanding ∧
         decodeInbound s { slot := 5, port := 0, write := true, addr := dataBase + 3 * 262144 + 4092, len := 4, poisoned := false, data := [1, 2, 3, 4] } =
           .toTag g 4092) ∧
       (let rp := rootPort s.slots 5 0
        decodeInbound s { slot := 5, port := 0, write := true, addr := msiBase + 64 * rp + 60, len := 4, poisoned := false } = .message 15 ∧
        decodeInbound s { slot := 5, port := 0, write := true, addr := queueBase + 65536 * rp + 4096, len := 4, poisoned := false } = .toQueue 4096 ∧
        decodeInbound s { slot := 5, port := 0, write := false, addr := queueBase + 65536 * rp + 8192, len := 4, poisoned := false } = .pass [0, 0, 0, 0]) ∧
       switching s = false ∧ (∀ w ∈ (s.slot 5).portA.tags, w.state ≠ .waiting) ∧
       decodeInbound (tagState (.quarantined true)) { slot := 5, port := 0, write := true, addr := dataBase + 3 * 262144, len := 4, poisoned := false } = .blocked ∧
       (portServes (s.slot 5).portA || portServes (s.slot 5).portB) = true) ∧
    (let s := ioState.setSlot 5 { driveSlot .newDrive 5 with health := 999 }
     (s.slot 5).present = true ∧ (s.slot 5).health < 1000) ∧
    (isPending (pendingState.slot 3) = true ∧ (pendingState.slot 3).deckId = some 1 ∧ (pendingState.slot 3).index = some 3 ∧
      (pendingState.deck 1).isSome = true ∧ mstateOf smallDeck 3 = .active ∧ strangerIn pendingState 3 = false ∧ switching pendingState = false ∧
      (pendingState.slot 3).removed = true ∧ slotMayFail pendingState 3 = true) ∧
    (let s : State := { portState (driveSlot .newDrive 5) { usable := true, l12ok := true } with
       cache := { ioState.cache with writeThrough := false } }
     (portOf (s.slot 5) 0).usable = true ∧ (portOf (s.slot 5) 0).l12ok = true ∧ (portOf (s.slot 5) 0).l12 = false ∧
       (portOf (s.slot 5) 0).tags = [] ∧ s.feats.linkL12Us ≠ 0 ∧ s.cache.writeThrough = false) := by decide +kernel

/-! ## Patrol, rebuild and repair -/

/-- Deck 1 with its patrol at a hand and row, and one suspect row. -/
def patrolDeck (hand row : Nat) (off : Bool) : Deck :=
  { smallDeck with patrol := { running := true, cursor := hand, row := row, suspects := [(0, 3, [(1, 2)])], repairOff := off } }

/-- Blocks 0, 1 and 2 of a row, read good but for the chunk left out. -/
def rowReads (row : Nat) (out : Option Nat) : List BlockRead :=
  ((List.range 3).filter fun c => !decide (out = some c)).map fun c =>
    { row := row, chunk := c, status := .good, data := zeros 4096, tag := none }

/-- The rows of a hand, as read. -/
def handReads (out : Option Nat) : List BlockRead := (List.range 4).flatMap fun r => rowReads r out

/-- Small states meet the hypotheses of each clause of `Obligations.PatrolWalksEveryHeldHand`. -/
theorem witness_PatrolWalksEveryHeldHand :
    (let s := withDeck smallDeck adminState
     adminTurn s adminRef = true ∧ s.mode.mode ≠ .quarantine ∧ patrolRuns s smallDeck = true ∧ smallDeck.patrol.running = false ∧
       smallDeck.patrol.copiesDue = false ∧ heldHands s 1 ≠ []) ∧
    (let d := { smallDeck with patrol := { running := true, copiesDue := true } }
     let s := withDeck d adminState
     patrolRuns s d = true ∧ d.patrol.running = true ∧ (nextHeld s 1 d.patrol.cursor).isSome = true ∧ d.patrol.copiesDue = true) ∧
    (let s : State := { withDeck smallDeck adminState with decks := { decks := [(1, smallDeck)] } }
     patrolRuns s smallDeck = true ∧ heldHands s 1 = []) ∧
    (∀ off ∈ [false, true], ∀ at_ ∈ [(0, 0), (0, 3), (1, 0)],
      let d := patrolDeck at_.1 at_.2 off
      let s := withDeck d adminState
      patrolRuns s d = true ∧ d.patrol.running = true ∧ d.patrol.copiesDue = false ∧ nextHeld s 1 d.patrol.cursor = some at_.1 ∧
        d.patrol.row = at_.2 ∧ lockGranted s 1 d { key := at_.1, mode := .shared, user := .check } = true ∧ d.patrol.repairOff = off) ∧
    let d := patrolDeck 1 0 false
    let s := withDeck d adminState
    patrolRuns s d = true ∧ indexRoom s 1 0 = true ∧ 0 < handCount d ∧ lockGranted s 1 d (repairLock 0 3) = true ∧ d.patrol.repairOff = false ∧
      d.patrol.suspects = [(0, 3, [(1, 2)])] ∧ (decideRow s 1 d 0 3 []).2 = [] ∧
      (decideRow s 1 d 0 3 ({ row := 3, chunk := 2, status := .mediaError, data := [], tag := none } :: rowReads 3 (some 2))).2 = [(1, 2)] := by decide +kernel

/-- The member that holds chunk 1 of hand 0. -/
def firstMember : Nat := (chunkMember smallShape [] 0 1).getD 0

/-- Deck 1 with that member failed, and its entry of the fail list in the state given. -/
def failedDeck (f : FState) (st : MState) : Deck :=
  { smallDeck with
    label := { smallLabel with
      failList := [⟨firstMember, f, 0⟩]
      members := (List.range 16).map fun i => ⟨some i, if i = firstMember then st else .active, false, 536870912, i + 1⟩ }
    segs := [(0, 0)]
    curSeg := 0 }

/-- A hand that the failure scan has locked. -/
def scannedDeck : Deck :=
  { failedDeck .rebuilding .failed with intents := [{ smallIntent with degraded := true }], locks := [(0, .exclusive)] }

/-- Small states meet the hypotheses of each clause of `Obligations.RebuildSweepsItsSegments`. -/
theorem witness_RebuildSweepsItsSegments :
    (let s := withDeck scannedDeck adminState
     s.serving = true ∧ scannedDeck.lockQueue = [] ∧
       ∃ i ∈ scanHeld scannedDeck 0, ∀ row ∈ intentRows i, rowSettled s 1 scannedDeck 0 (handReads (some 1)) row = true) ∧
    (let d := failedDeck .rebuilding .failed
     let e := moveCursor d
     let s := withDeck d adminState
     scanHeld d 0 = none ∧ rebuildRuns s e = true ∧ anyScanHeld e = false ∧ segOf e.segs (handRound e.label.shape 0) = e.curSeg ∧
       e.cursor ≤ handRound e.label.shape 0 ∧ handRound e.label.shape 0 < e.cursor + 64 ∧ rebuildNow e 0 ≠ [] ∧ mostExposed s 1 e 0 = true ∧
       belowResync e 0 = true ∧ indexRoom s 1 0 = true ∧ placesReachable s e 0 (rebuildNow e 0) = true ∧
       lockGranted s 1 d { key := 0, mode := .shared, user := .rebuild } = true ∧
       ∀ row, row < chunkBlocks e.label.shape → (fullRow e (atHand s 1 e 0 row (handReads (some 1)))).isSome = true) ∧
    (let d := moveCursor { failedDeck .rebuilding .failed with cursor := 14272 }
     d.label.cleanStop = false ∧ d.segs[d.curSeg]? = some (0, 0) ∧ segEnd d ≤ d.cursor ∧ d.replaceSlot = none) ∧
    (let d := { failedDeck .rebuilding .failed with scanDue := true }
     d.scanDue = true ∧ ∀ hd ∈ heldHands (withDeck d adminState) 1, handExposure (withDeck d adminState) 1 d hd ≤ d.label.shape.m) ∧
    (∀ f ∈ [.rebuilding, .rebuilt], let d := failedDeck f .failed
      let s := (withDeck d adminState).setSlot 20 (driveSlot .newDrive 20)
      adminTurn s adminRef = true ∧ s.mode.mode ≠ .quarantine ∧ replacementOk s d 20 = true ∧ notHeld d = true ∧
        ∃ e ∈ d.label.failList.getLast?, e.fstate = f ∧ e.member < d.label.members.length) := by decide +kernel

/-- Copy-back to the replacement in the slot of the failed member, at a round. -/
def copyDeck (wm : Nat) : Deck :=
  let d := failedDeck .copyback .replacing
  { d with label := { d.label with failList := [⟨firstMember, .copyback, wm⟩] } }

/-- An entry to replay on hand 0, whose lock is held for it. -/
def replayDeck : Deck := { smallDeck with replay := [{ smallIntent with blkLast := 1, mmask := 0 }], locks := [(0, .exclusive)] }

/-- Small states meet the hypotheses of each clause of `Obligations.RowsAreRepairedAndCopiedBack`. -/
theorem witness_RowsAreRepairedAndCopiedBack_sweeps :
    (∀ wm ∈ [0, 14271], let d := copyDeck wm
      let s := withDeck d adminState
      let reads := (List.range 5).map fun q => (wm * 5 + q, handReads none)
      (∃ fe ∈ d.label.failList.getLast?, fe.fstate = .copyback ∧ fe.watermark = wm ∧ fe.watermark < d.label.shape.rounds ∧
        ∃ e ∈ memberOf d fe.member, e.slot = some firstMember ∧ e.mstate = .replacing) ∧
      rebuildRuns s d = true ∧ anyScanHeld d = false ∧ slotReachable (s.slot firstMember) = true ∧
      ∀ q, q < handsPerRound d.label.shape →
         let h := wm * handsPerRound d.label.shape + q
        (copyChunk d firstMember h).isSome = true →
          belowResync d h = true ∧ indexRoom s 1 h = true ∧ lockGranted s 1 d (copybackLock h) = true ∧
          ∀ row, row < chunkBlocks d.label.shape → (fullRow d (atHand s 1 d h row (tblGet reads h []))).isSome = true) ∧
    (∀ hand ∈ [0, 1, 71359], let wm := if hand = 71359 then 71359 else 0
      let d := { smallDeck with resync := some (wm, 0) }
      let s := withDeck d adminState
      urgentRuns s = true ∧ wm ≤ hand ∧ hand < handCount d ∧ indexRoom s 1 hand = true ∧ placesReachable s d hand (parityChunks d) = true ∧
        handSettled s 1 d hand (handReads none) = true ∧ lockGranted s 1 d { key := hand, mode := .exclusive, user := .resync } = true) := by decide +kernel

/-- Small states meet the hypotheses of each clause of `Obligations.RowsAreRepairedAndCopiedBack`. -/
theorem witness_RowsAreRepairedAndCopiedBack :
    (let d := replayDeck
     let s := withDeck d adminState
     s.ready = true ∧ d.lockQueue = [] ∧ ∃ i ∈ d.replay.find? (fun i => decide (i.wseq = 8)),
       replayReady s 1 d i (handReads none) = true ∧
         ∀ x ∈ d.replay.filter (fun x => !decide (x.wseq = 8)), x.hand ≠ i.hand ∨ x.newGen ≠ i.newGen) ∧
    (let d := smallDeck
     let s := withDeck d adminState
     let reads := [0, 1].map (fun c => { row := 3, chunk := c, status := .mediaError, data := [], tag := none }) ++
       (rowReads 3 none).filter fun r => !([0, 1] : List Nat).contains r.chunk
     let have_ := atHand s 1 d 0 3 reads
     let gone := lostOfRow d 0 3 reads have_
     handOwner s 1 0 = some (oneVolume, 0) ∧ s.vol 1 = some oneVolume ∧ s.serving = true ∧ indexRoom s 1 0 = true ∧
       lockGranted s 1 d { key := 0, mode := .exclusive, user := .overflow 3 } = true ∧ 0 < handCount d ∧ 3 < chunkBlocks d.label.shape ∧
       rowOverflowed d 0 3 reads have_ = true ∧ gone = [0, 1] ∧ reachAll s (overflowWrites d 0 3 none 0 have_ gone) = true) ∧
    (let d := smallDeck
     let s := withDeck d adminState
     let reads := { row := 3, chunk := 1, status := .mediaError, data := [], tag := none } :: rowReads 3 (some 1)
     plainRuns s = true ∧ d.patrol.repairOff = false ∧ indexRoom s 1 0 = true ∧ lockGranted s 1 d (repairLock 0 3) = true ∧
       placesReachable s d 0 [1] = true ∧ 0 < handCount d ∧ 3 < chunkBlocks d.label.shape ∧ chunkWritable d 0 1 = true ∧
       (failedReads s 1 d 0 3 reads).any (fun f => decide (f.2 = 1)) = true ∧ rowSettled s 1 d 0 reads 3 = true ∧
       (fullRow d ((atHand s 1 d 0 3 reads).filter fun b => !decide (b.1 = 1))).isSome = true) := by decide +kernel

/-! ## Redeal and decks -/

/-- The arguments that redeal deck 1 to 17 members with K = 3. -/
def redealArgs : ShapeArgs :=
  { deckId := 1, mode := .shuffle, k := 3, m := 1, s := 1, chunkCode := 0, slots := List.range 17, seed := 0 }

/-- Deck 1 in service beside a new drive in slot 16. -/
def redealState (d : Deck) : State := (withDeck d adminState).setSlot 16 (driveSlot .newDrive 16)

/-- A redeal of deck 1 to a second copy of its shape on the rounds above, at a position of its copy. -/
def redealField (phase : RedealPhase) : RedealField :=
  { newGen := 2, newShape := smallShape, phase := phase, wmNsid := 1, wmVhand := 0, started := 0, handsTotal := 5, addSlots := [] }

/-- `smallDeck` with a redeal under way. -/
def redealDeck (phase : RedealPhase) (pos : Option (Nat × Nat)) (draining : Bool) (old : List (Nat × Nat)) : Deck :=
  { smallDeck with
    label := { smallLabel with redeal := some (redealField phase) }
    redeal := some { position := pos, copied := [], handsDone := 0, newExtents := [(1, [(0, 5, 5)])], draining := draining, oldBytes := old
                     oldRounds := 1, copyAt := [] } }

/-- The other fields of Cancel, and of an import: all zero. -/
def zeroRest : ShapeRest := {}

/-- Small states meet the hypotheses of each clause of `Obligations.RedealsCopyAndSwitchGenerations`. -/
theorem witness_RedealsCopyAndSwitchGenerations :
    (zeroShape zeroRest = true ∧ zeroShape { k := 3 } = false) ∧
    (let s := redealState smallDeck
     adminTurn s adminRef = true ∧ changeBar s = 0 ∧ redealFieldsOk s smallDeck redealArgs = true ∧ redealBusy s smallDeck = false ∧
       smallDeck.redeal = none ∧ redealBusy s (redealDeck .copy none false []) = true ∧ (newAlloc s 1 smallDeck (redealShape smallDeck redealArgs)).isSome = true) ∧
    (let s := (redealState smallDeck).setVol 1 { oneVolume with extents := [(0, 0, 71360)] }
     redealFieldsOk s smallDeck redealArgs = true ∧ redealBusy s smallDeck = false ∧
       newAlloc s 1 smallDeck (redealShape smallDeck redealArgs) = none) ∧
    (let d := redealDeck .copy (some (1, 0)) false []
     let s := withDeck d adminState
     adminTurn s adminRef = true ∧ changeBar s = 0 ∧ d.label.redeal.isSome = true ∧ isDraining d = false ∧ plainRuns s = true ∧
       redealReady s d (redealField .copy) = true ∧ inFlight [(1, [(0, 5, 5)])] (1, 0) 64 (some (1, 0)) = true ∧
       extentHand [(0, 5, 5)] 0 = some 5 ∧ s.vol 1 = some oneVolume ∧ (∃ run ∈ d.redeal, run.copied = []) ∧
       ∃ nd ∈ newLayout d, (∀ q ∈ copyLocks d nd oneVolume 0 5, lockGranted s 1 d q = true) ∧
         ∃ ws ∈ copyWrites s 1 d nd oneVolume 0 5 [(0, handReads none)], reachAll s ws = true) ∧
    (let d := { redealDeck .copy none false [] with updates := [smallUpd] }
     let s := withDeck d adminState
     s.serving = true ∧ redealReady s d (redealField .copy) = true ∧ d.updates ≠ []) ∧
    (let d := redealDeck .switch none true []
     let s := withDeck d adminState
     s.serving = true ∧ redealReady s d (redealField .switch) = true ∧
       ∃ run ∈ d.redeal, run.position = none ∧ run.draining = true ∧ ∃ d1 ∈ (pushDrain 1 s).deck 1, drained (pushDrain 1 s) 1 d1 = true ∧
         ∃ nd ∈ newLayout d1, ∀ v ∈ volumesOf s 1, (switchedVol d1 nd (redealField .switch) run v).bad.length ≤ 245) := by decide +kernel

/-- Deck 1 after its switch, with the reads given still open when it came. -/
def releaseDeck (old : List (Nat × Nat × Nat)) : Deck :=
  { smallDeck with redeal := (redealDeck .copy none true []).redeal.map fun r => { r with oldReads := old } }

/-- Slot 3 reads a block of deck 1 under tag 3 of port A. -/
def readingState (d : Deck) : State :=
  let v := driveSlot .member 3
  (withDeck d adminState).setSlot 3 { v with portA := { v.portA with tags := [⟨3, 2, .read 1 0 0 0, .outstanding, 4096, 0, false, [], []⟩] } }

/-- Small states meet the hypotheses of each clause of `Obligations.RedealsCopyAndSwitchGenerations`. -/
theorem witness_RedealsCopyAndSwitchGenerations_release :
    ∀ old ∈ [[], [(3, 0, 3)]], let d := releaseDeck old
      let s := readingState d
      s.deck 1 = some d ∧ d.redeal.isSome = true ∧ d.label.redeal = none ∧ (old ≠ [] → ∃ x ∈ old, x ∈ openReads s 1) := by decide +kernel

/-- A DVS-3220 deck of 3 drives that can be imported, and the drives. -/
def foreLabel (i : Nat) : ForeLabel :=
  { k := 2, m := 1, n := 3, memberIndex := i, cleanStop := true, uuid := 55, dataStart := 301989888, rounds := 100, labelSeq := 4 }

/-- A block that can import the deck on its drives. -/
def importState : State :=
  let s : State := { adminState with decks := { adminState.decks with importable := [⟨2, foreLabel 0, [40, 41, 42]⟩] } }
  [0, 1, 2].foldl (fun s i => s.setSlot (40 + i) { driveSlot .importable (40 + i) with fore := some (foreLabel i) }) s

/-- Three new drives for a deck of K = 2 and M = 1, dealt by rotation. -/
def createArgs : ShapeArgs := { deckId := 3, mode := .rotate, k := 2, m := 1, s := 0, chunkCode := 2, slots := [1, 20, 40], seed := 0 }

/-- Three drives of class NEW, for a new deck. -/
def createState : State := [1, 20, 40].foldl (fun s x => s.setSlot x (driveSlot .newDrive x)) adminState

/-- Small states meet the hypotheses of each clause of `Obligations.DecksAreCreatedImportedAndDestroyed`. -/
theorem witness_DecksAreCreatedImportedAndDestroyed :
    (adminTurn createState adminRef = true ∧ changeBar createState = 0 ∧ createStatus createArgs createState = 0) ∧
    (adminTurn adminState adminRef = true ∧ changeBar adminState = 0 ∧ createStatus createArgs adminState ≠ 0) ∧
    (adminTurn importState adminRef = true ∧ changeBar importState = 0 ∧ freeNsid importState = some 1 ∧
      ∃ i ∈ importState.decks.importable.find? (fun i => decide (i.deckId = 2)), zeroShape zeroRest = true ∧ importOk i [40, 41, 42] importState = true) ∧
    (let s := withDeck smallDeck adminState
     adminTurn s adminRef = true ∧ changeBar s = 0 ∧ volumesOf s 1 ≠ []) ∧
    let s : State := { withDeck smallDeck adminState with decks := { decks := [(1, smallDeck)] } }
    adminTurn s adminRef = true ∧ changeBar s = 0 ∧ volumesOf s 1 = [] ∧ smallDeck.label.redeal = none := by decide +kernel

/-! ## Recorder, firmware, trust and owner -/

/-- The recorder frozen, on a block with an open admin command. -/
def frozenState : State := { ownerState with recorder := { ownerState.recorder with frozen := true } }

/-- Small states meet the hypotheses of each clause of `Obligations.RecorderFreezesThawsAndSpills`. -/
theorem witness_RecorderFreezesThawsAndSpills :
    (ownerState.recorder.frozen = false ∧ adminTurn ownerState adminRef = true ∧ hubAnswers ownerState = true ∧
      authorised ownerState 1 = true ∧ calInRange calDefaults = true) ∧
    (frozenState.recorder.frozen = true ∧ adminTurn frozenState adminRef = true ∧ hubAnswers frozenState = true) := by decide +kernel

/-- An image that verifies. -/
def goodImage : FwImage :=
  { fslLen := 1024, mainOffset := 2048, mainLen := 4096, fslMeasured := 2, mainMeasured := 3, keyOk := true, sigOk := true, raiseSvn := false, needsReset := false, svn := 0, fwRev := 1
    fslDigest := 2, mainDigest := 3, keyIndex := 0, revoke := 0 }

/-- A log entry of kind 1 (BOOT). -/
def bootEntry : HwEntry := { seqNo := 1, kind := 1, units := 2, unitAt := some 0, bootCount := 1, body := [], bytes := zeros 1024 }

/-- Both slots with images of which slot 2 verifies or not, and one log entry. -/
def imageState (second : Option FwImage) : State :=
  { adminState with trust := { adminState.trust with image1 := some goodImage, image2 := second, entries := [bootEntry], nextUnit := 2 } }

/-- Small states meet the hypotheses of each clause of `Obligations.FirmwareIsClaimedVerifiedAndRecorded`. -/
theorem witness_FirmwareIsClaimedVerifiedAndRecorded :
    (let s := imageState (some goodImage)
     adminTurn s adminRef = true ∧ s.trust.claim = none ∧ 8388608 - 4096 + 4096 ≤ 8388608 ∧ s.trust.running ≤ 2 ∧ 1 ≤ s.trust.activeSlot ∧
       s.trust.activeSlot ≤ 2 ∧ downloadSlot s.trust = 2 ∧ slotVerifies s.trust 2 = true ∧ slotVerifies s.trust 1 = true ∧
       s.trust.activating = none ∧ entriesWithin 1024 (allEntries s.trust) ≠ [] ∧ latestBoot s.trust = 1 ∧
       (∃ e ∈ allEntries s.trust, e.seqNo = latestBoot s.trust) ∧ s.trust.held = none ∧ needsSegment s.trust 2 = false ∧
       hubAnswers s = true ∧ s.mode.mode ≠ .boot ∧ s.trust.members.map (fun m => m.2) ≠ some s.trust.measured) ∧
    slotVerifies (imageState none).trust 2 = false ∧
    (let s := imageState (some goodImage)
     let s : State := { s with trust := { s.trust with activating := some { ref := adminRef, toSlot := 2 } } }
     (∃ i ∈ imageOf s.trust 2, i.needsReset = false) ∧ slotVerifies s.trust 2 = true) ∧
    let s : State := { adminState with trust := { adminState.trust with held := some bootEntry } }
    hubAnswers s = true ∧ s.trust.held = some bootEntry := by decide +kernel

/-- Function 0 with SPDM at a step. -/
def spdmState (st : SpdmState) : State := adminState.setFn 0 { spdm := st }

/-- An owner in place, whose nonce of this moment is 9. -/
def ownedState : State := { adminState with trust := { adminState.trust with ownerKey := some 4, ownerCount := 1, nonce := some (9, 0) } }

/-- A PROVISION of a first owner, and an AUTH of a day. -/
def firstProvision : Provision :=
  { lengthOk := true, reservedZero := true, clear := false, ownerSeq := 1, ownerKey := 4, nonce := 0, dsn := Config.dsn, sigOk := false }

/-- An authorisation request of a duration. -/
def dayAuth (s : Nat) : OwnerAuthArgs :=
  { lengthOk := true, reservedZero := true, scope := 7, durationS := s, nonce := 9, dsn := Config.dsn, ownerSeq := 1, sigOk := true }

/-- Small states meet the hypotheses of each clause of `Obligations.SpdmAndOwnerRequestsAreAnswered`. -/
theorem witness_SpdmAndOwnerRequestsAreAnswered :
    (∀ st ∈ [.none, .version, .capabilities, .negotiated],
      doeLive (spdmState st) 0 = true ∧ ((spdmState st).fn 0).doeError = false ∧ ((spdmState st).fn 0).spdm = st ∧
        (chainOf (spdmState st).trust).isSome = true ∧ (measurement (spdmState st) 1).isSome = true) ∧
    (adminTurn adminState adminRef = true ∧ adminTurn ownedState adminRef = true ∧ ownerState.trust.auth.isSome = true) := by decide

/-- Small states meet the hypotheses of each clause of `Obligations.SpdmAndOwnerRequestsAreAnswered`. -/
theorem witness_SpdmAndOwnerRequestsAreAnswered_owner :
    provisionFault firstProvision adminState = 0 ∧ provisionFault { firstProvision with ownerSeq := 0 } adminState = 3 ∧
    (∀ s ∈ [0, 86400], authFault (dayAuth s) ownedState = 0) ∧ authFault (dayAuth 86401) ownedState = 7 := by
  refine ⟨?_, ?_, ?_, ?_⟩ <;> simp [provisionFault, authFault, firstProvision, dayAuth, adminState, ownedState, serving, nonceOk, State.reset]

/-! ## The whole block -/

/-- Small states meet the hypotheses of each clause of `Obligations.StepRunsTheFrontCommand`. -/
theorem witness_StepRunsTheFrontCommand :
    (∃ t, exec .crystalRunsAgain ioState = .next t) ∧ State.reset.pending = [] := ⟨⟨_, rfl⟩, rfl⟩

/-- Small states meet the hypotheses of each clause of `Obligations.EveryStepKeepsItsInvariants`. -/
theorem witness_EveryStepKeepsItsInvariants :
    RecorderFits State.reset.recorder ∧ MemoryFits State.reset.cache.dram ∧ (∃ t, step State.reset = .next t) ∧
    MemoryFits (memPut [] 5 [1, 0, 2]) ∧ Part.gauge ∉ changes .crystalRunsAgain := by
  refine ⟨by unfold RecorderFits; decide, by unfold MemoryFits; decide, ⟨_, rfl⟩, by unfold MemoryFits; decide, by decide⟩

/-- Small states meet the hypotheses of each clause of `Obligations.StoresStayInTheirFrames`. -/
theorem witness_StoresStayInTheirFrames :
    (∃ t, exec (.mergeSuperseded 0 0) dirtyState = .next t) ∧ (newestOf dirtyState.cache 0 0).isSome = true ∧
    outside (((newestOf dirtyState.cache 0 0).toList).flatMap entryFrames) (frameAddr dirtyPage.region 5) ∧
    ¬ outside (((newestOf dirtyState.cache 0 0).toList).flatMap entryFrames) (frameAddr dirtyPage.region 4) ∧
    (∃ t, exec (.epochClose 3) dirtyState = .next t) ∧ (∃ t, exec (.bar2Write (bar2At 0)) dirtyState = .next t) ∧
    (∃ t, exec (.directorySwitch ioRef) dirtyState = .next t) ∧ (∃ t, exec (.writeAdmit ioRef) dirtyState = .next t) ∧ dirtyState.reads = [] ∧
    ∃ t, exec (.fillComplete 0 15 none []) dirtyState = .next t := by
  refine ⟨⟨_, rfl⟩, by decide, by unfold outside; decide, by unfold outside; decide, ⟨_, rfl⟩, ⟨_, rfl⟩, ⟨_, rfl⟩, ⟨_, rfl⟩, rfl, ⟨_, rfl⟩⟩

/-- Small states meet the hypotheses of each clause of `Obligations.EventsAreNumberedAndStored`. -/
theorem witness_EventsAreNumberedAndStored :
    State.reset.recorder.nextSeq < 0xFFFFFFFF ∧ (∀ s ∈ [ioState, frozenState], s.hubPowered = true) ∧ ioState.recorder.frozen = false ∧
    frozenState.recorder.frozen = true ∧ State.reset.hubPowered = false := by decide

/-- Small states meet the hypotheses of each clause of `Obligations.DealingPutsChunksOnDistinctMembers`. -/
theorem witness_DealingPutsChunksOnDistinctMembers :
    0 < handsPerRound smallShape ∧ 2 < widthOf smallShape ∧ handRound smallShape 0 = handRound smallShape 4 ∧ ((0, 2) : Nat × Nat) ≠ (4, 2) := by
  decide

/-- Small states meet the hypotheses of each clause of `Obligations.QueueCommandsStayOnTheirController`. -/
theorem witness_QueueCommandsStayOnTheirController :
    (∃ t, exec (.sqTailDoorbell 1 1 5) ioState = .next t) ∧
    (∃ t, exec (.commandFetch 1 0 [{ cid := 3, opcode := 0x00, cdw10 := 1 }]) ioState = .next t) ∧ (∃ cq ∈ findCq (ioState.ctl 1) 1, headAccepted cq 1 = true) ∧
    ∃ t, exec (.cqHeadDoorbell 1 1 1) ioState = .next t := ⟨⟨_, rfl⟩, ⟨_, rfl⟩, by decide, ⟨_, rfl⟩⟩

/-! ## The worked examples of the manual

Every expected value below is printed in the section of spec/ that the docstring names. -/

/-- 00, example under R10: g^8 = 0x1D, and divided back by g it is g^7 = 0x80. -/
theorem test_field_wraps_at_degree_eight : gmul 0x80 2 = 0x1D ∧ gdiv 0x1D 2 = 0x80 ∧ gexp 8 = 0x1D := by decide +kernel

/-- 00, example under R14. -/
theorem test_slots_attach_to_their_regions :
    (homeRegion 64 37, partnerRegion 64 37) = (2, 3) ∧ (homeRegion 64 63, partnerRegion 64 63) = (3, 0) ∧
    (homeRegion 32 13, partnerRegion 32 13) = (1, 2) := by decide

/-- 01, example under R32: ARES of hand 1,000,003 at flit 517, and FRES of the zero flit. -/
theorem test_flit_tag_residues : mod15 (1000003 + 517) = 5 ∧ flitResidue (zeros 64) = 0 := by decide +kernel

/-- 04, example under R128: 5 is past the free entries, 4 is taken, 8 is outside the queue. -/
theorem test_tail_doorbell_example : tailCheck 5 3 8 5 = some 1 ∧ tailCheck 5 3 8 4 = none ∧ tailCheck 5 3 8 8 = some 2 := by decide

/-- The 4+2 deck of 20 members and 64 KiB chunks of the examples of 05, 07 and 11. -/
def exampleShape : Shape := { mode := .shuffle, k := 4, m := 2, n := 20, s := 2, chunkShift := 16, seed := 0, rounds := 1700000 }

/-- 05, example under R144: the hands of a 100 GiB volume, and the deck hand of one of its blocks. -/
theorem test_volume_is_placed_in_extents :
    handsNeeded exampleShape 26214400 4096 0 = 409602 ∧ 20000100 * 4096 / handBytes exampleShape = 312501 ∧
    extentHand [(0, 1200000, 300000), (300000, 4800000, 109602)] 312501 = some 4812501 := by decide

/-- 06, example under R173: hash, regions and set of page 16 of NSID 1. -/
theorem test_page_placement_example :
    placeHash 0 16 = 0xE3777867 ∧ pageRegions [] 0 16 = (some 3, some 1) ∧ pageSet 0 16 65536 = 56857 := by decide

/-- 06, the same example: channels, banks and ADDR_CHK. -/
theorem test_frame_place_example :
    frameChannel 3 909717 = 7 ∧ frameBank 909717 = 10 ∧ frameChannel 1 909712 = 2 ∧ frameBank 909712 = 8 ∧
    addrChk { dirtyPage with keyNs := 0, vpage := 16 } 0 = 0x1400 ∧ addrChk { dirtyPage with keyNs := 0, vpage := 16 } 63 = 0x143F := by decide

/-- 07 R216: the first outputs of SplitMix64. -/
theorem test_splitmix_outputs :
    (splitmixNext 0).2 = 0xE220A8397B1DCDAF ∧ (splitmixNext (splitmixNext 0).1).2 = 0x6E789E6AA1B965F4 := by decide

/-- 07 R216: the dealing test vector, which every implementation must reproduce exactly. -/
theorem test_dealing_vector :
    perm exampleShape 0 = [14, 6, 0, 19, 16, 17, 10, 18, 5, 7, 4, 12, 11, 1, 9, 3, 8, 2, 15, 13] ∧
    perm exampleShape 1 = [17, 12, 1, 11, 18, 8, 16, 14, 4, 0, 2, 3, 5, 15, 9, 6, 10, 13, 7, 19] ∧
    perm exampleShape 2 = [12, 19, 15, 9, 16, 3, 7, 13, 4, 2, 14, 11, 17, 10, 18, 1, 8, 0, 5, 6] := by decide +kernel

/-- 07, example under R216: the hand, row, chunk, members and member offset of LBA 100. -/
theorem test_block_is_found_on_its_member :
    extentHand [(0, 6, 3)] 1 = some 7 ∧ blockOfPage exampleShape 100 = (1, 4, 2) ∧ chunkMember exampleShape [] 7 2 = some 4 ∧
    chunkMember exampleShape [] 7 4 = some 14 ∧ chunkMember exampleShape [] 7 5 = some 11 ∧
    blockOffset { smallLabel with shape := exampleShape, dataStart := 301989888 } 7 4 = 302137344 := by decide +kernel

/-- 07, example under R217: members 7 and 15 fail in this order; with 7 alone, hand 1 D_3 lies on member 15. -/
theorem test_fail_list_moves_chunks :
    let fl : List FailEntry := [⟨7, .rebuilding, 0⟩, ⟨15, .rebuilding, 0⟩]
    chunkMember exampleShape fl 1 3 = some 13 ∧ chunkMember exampleShape fl 5 1 = some 19 ∧ chunkMember exampleShape fl 7 0 = some 5 ∧
    chunkMember exampleShape fl 6 2 = some 6 ∧ chunkMember exampleShape (fl.take 1) 1 3 = some 15 := by decide +kernel

/-- 08, examples under R240 and R244: P and Q of a 4+2 row, and two decodes of it. -/
theorem test_double_parity_example :
    let row : RowBlocks := [(0, [0x5A]), (1, [0x3C]), (2, [0xC7]), (3, [0x81])]
    encodeRow 4 2 1 row = [(4, [0x20]), (5, [0x65])] ∧
    decodeLost 4 2 1 [2] [(0, [0x5A]), (1, [0x3C]), (3, [0x81]), (4, [0x20]), (5, [0x65])] = some [(2, [0xC7])] ∧
    decodeLost 4 2 1 [1, 3] [(0, [0x5A]), (2, [0xC7]), (4, [0x20]), (5, [0x65])] = some [(1, [0x3C]), (3, [0x81])] := by decide +kernel

/-- 08, example under R244: P, Q and T of a 6+3 row, and the decode of three lost chunks. -/
theorem test_triple_parity_example :
    encodeRow 6 3 1 [(0, [0x0F]), (1, [0xA4]), (2, [0x36]), (3, [0xE1]), (4, [0x72]), (5, [0x9B])] =
      [(6, [0x95]), (7, [0xA2]), (8, [0xBC])] ∧
    decodeLost 6 3 1 [1, 3, 4] [(0, [0x0F]), (2, [0x36]), (5, [0x9B]), (6, [0x95]), (7, [0xA2]), (8, [0xBC])] =
      some [(1, [0xA4]), (3, [0xE1]), (4, [0x72])] := by decide +kernel

/-- 08, example under R250: one wrong byte is located in chunk 2 and corrected. -/
theorem test_wrong_chunk_is_located :
    let row : RowBlocks := [(0, [0x5A]), (1, [0x3C]), (2, [0xD7]), (3, [0x81]), (4, [0x20]), (5, [0x65])]
    syndromes 4 2 1 row = [[0x10], [0x40]] ∧ rowVerdict 4 2 1 row = .chunk 2 ∧ correctBlock 4 2 1 2 row = [0xC7] := by decide +kernel

/-- 10, example under R294: the segment with the most clear bits is swept first, the lower one on a tie of what is left. -/
theorem test_rebuild_sweeps_worst_segment_first :
    let fl : List FailEntry := [⟨7, .rebuilding, 700⟩, ⟨15, .rebuilding, 0⟩, ⟨3, .rebuilding, 0⟩]
    let d (segs : List (Nat × Nat)) : Deck := { smallDeck with label := { smallLabel with failList := fl }, segs := segs }
    chooseSeg (d [(0, 1), (400, 3), (700, 0)]) = 2 ∧ chooseSeg (d [(0, 1), (400, 3), (700, 7)]) = 0 ∧
    chooseSeg (d [(0, 7), (400, 3), (700, 7)]) = 1 := by decide

/-- 11, example under R316: hands of the new layout, and the new place of block 20,000,100. -/
theorem test_redeal_example :
    let sh : Shape := { exampleShape with k := 6, n := 24, s := 0 }
    handsNeeded sh 26214400 4096 0 = 273069 ∧ blockOfPage sh 20000100 = (208334, 4, 2) ∧ handRound sh 208334 = 69444 ∧
    blockOffset { smallLabel with shape := sh, dataStart := 301989888 } 208334 4 = 4853088256 := by decide +kernel

/-- 13, example under R380: the grants of one window at 80 W, and destage's part of the HOST grant. -/
theorem test_energy_grants_example :
    decideGrants 8000 2900 0 [50, 20, 10, 5, 2, 1] [300, 4200, 2000, 0, 0, 150, 0] =
      { bWork := 5100, left := 4800, debt := 0, grant := [300, 3744, 960, 0, 0, 96, 0], spare := 0 } ∧
    destagePart 1 4200 4200 50 100 3744 0 = 936 := by decide

/-- 14, example under R410: soc_stop is 83.51 %, and the dirty limit is half the cache at 92 % and 4.3 GiB at 85 %. -/
theorem test_energy_available_example :
    let e (soc : Nat) := energyCalc 1 800000 54000 0 (frac soc 100) 0
    (fFloor (fAdd (fMul (e 92).socStop (frac 10000 1)) (frac 1 2)) = 8351 ∧ (e 92).pcapMw / 100 = 636) ∧
    huLimitOf 2 4194304 (e 92) = 2097152 ∧ huLimitOf 2 4194304 (e 85) * 10 / 262144 = 43 := by decide +kernel

/-- 14, the same example: at 84 % the available energy is below the fixed 80 J of two flushes, so hold-up is not ready. -/
theorem test_energy_available_negative : huLimitOf 2 4194304 (energyCalc 1 800000 54000 0 (frac 84 100) 0) = 0 := by decide +kernel

/-- The test registers with channel 5, word 0 and the pattern of 0x3C. -/
def exampleEcct : State :=
  { serving {} with guard := { State.reset.guard with ecct := {
      testEn := true, frames := [(5, 2, 7)], addr := 5 * 2 ^ 8, data := List.replicate 64 0x3C } } }

/-- The registers after a mask is flipped into the word and the word is read. -/
def flipAndRead (mask : Bytes) (s : State) : State :=
  runTest 2 (runTest 1 { s with guard := { s.guard with ecct := { s.guard.ecct with data := mask } } })

/-- 15, example under R444, steps 2 to 4: all of device 2 wrong is corrected as a device error of 18 symbols. -/
theorem test_device_correction_example :
    let e := (flipAndRead (zeros 36 ++ List.replicate 18 0xFF ++ zeros 10) (runTest 0 exampleEcct)).guard.ecct
    (e.result, e.syms, e.devFound, e.data) = (1, 18, 2, List.replicate 64 0x3C) := by decide +kernel

/-- 15, steps 5 to 7: nine symbols of device 0 beside a marked device 2 are corrected, and one more is not. -/
theorem test_marked_device_example :
    let marked (s : State) : State := { s with guard := { s.guard with ecct := { s.guard.ecct with testMark := true, dev := 2 } } }
    let s := flipAndRead (zeros 36 ++ List.replicate 18 0xFF ++ zeros 10) (runTest 0 exampleEcct)
    let nine : Bytes := List.replicate 9 1 ++ zeros 55
    let a := flipAndRead nine (marked s)
    (a.guard.ecct.result, a.guard.ecct.syms) = (1, 27) ∧ (flipAndRead nine s).guard.ecct.result = 2 ∧
    (flipAndRead (zeros 9 ++ [1] ++ zeros 54) a).guard.ecct.result = 2 := by decide +kernel

/-- 16, example under R480: the 32 bytes of the record of transition T4. -/
theorem test_event_record_example :
    let s : State := { State.reset with now := 1600000000, recorder := { State.reset.recorder with nextSeq := 0x12345 }
                                        power := { hubUp := true } }
    ((recordEvent 0x0001 [2, 4, 4, 0] s).recorder.hubRing.head?.map eventBytes) = some
      [0x45, 0x23, 0x01, 0x00, 0x00, 0x10, 0x5E, 0x5F, 0x00, 0x00, 0x00, 0x80, 0x01, 0x00, 0x01, 0x01, 0x02, 0x00, 0x00, 0x00,
       0x04, 0x00, 0x00, 0x00, 0x04, 0x00, 0x00, 0x00, 0x00, 0x00, 0x00, 0x00] := by decide +kernel

/-- 18, example under R513: floors of total 110 divide by it. -/
theorem test_floor_registers_example :
    (decideGrants 4800 0 0 [40, 30, 10, 10, 10, 10] [0, 5000, 5000, 5000, 5000, 5000, 5000]).left = 4800 ∧
    floorsOf (0x0A0A1E28 + 0x0A0A * 2 ^ 32) = [40, 30, 10, 10, 10, 10] ∧ floorDivisor [40, 30, 10, 10, 10, 10] = 110 ∧
    40 * 4800 / floorDivisor [40, 30, 10, 10, 10, 10] = 1745 := by decide

/-! ## Well-formedness

One well-formed term of every operand type, and one ill-formed term for every check of `Instr.wellFormed`. -/

def smokeBadRef : CmdRef := { ctl := 3, sqid := 0, cid := 0 }
def smokeBadRead : BlockRead := { row := 0, chunk := 0, status := .good, data := [], tag := none }
def smokeTag : ChunkTag := { crc := 0, gen := 0, hand := 0, chunk := 0, block := 0, wseq := 0 }
def smokeIo : IoArgs := { ref := ioRef, nsid := 1, slba := 0, nlb := 0, ptr := .prp 0 0 [], pract := false, pi := {} }
def smokeMeas : WindowMeas :=
  { queued := [], completed := [], coreUj := List.replicate 5 0, railMw := List.replicate 5 0, avsAck := List.replicate 5 true
    temps := List.replicate 5 none, flits := [], busy := [], cells := [], leftover := [] }
def smokeGauge : GaugeRead := { cellMv := [3600], currentMa := 0, tempDc := 250 }
def smokeCal : CalRecord :=
  { version := 1, source := 0, idTol := 0, senseGain := 0, senseOffset := 0, cellGain := [], thermBeta := 0, idGain := 0, avsOffset := [] }
def smokeCpl : MemberCpl := { slot := 0, port := 0, tag := 0, status := 0, dnr := false, mediaError := false }
def smokeTlp : MemberTlp := { slot := 0, port := 0, write := true, addr := 0, len := 4, poisoned := false }
def smokeBar2 : Bar2Tlp := { fn := 0, rid := 0, offset := 0, len := 4, data := [0, 0, 0, 0], poisoned := false }
def smokeDrive : DriveInfo :=
  { nguid := 1, cap := 0, metaBytes := 16, vwc := true, fwRev := 0, afi := 1, meas := 0
    spdm := false, spdmError := none, blockErase := false, l12ok := true, maxWidth := 4 }
def smokeMi : MiArgs := { sideband := false, param := 0 }
def smokeFeature : FeatureArgs := { fid := 7, sv := false, cdw11 := 0, data := [] }
def smokeNs : NsCreate := { nsze := 0, ncap := 0, flbas := 0, dps := 0, nmic := 0, deckId := 1, crypt := 0 }
def smokeShape : ShapeArgs := { deckId := 1, mode := .rotate, k := 4, m := 2, s := 1, chunkCode := 0, slots := [1], seed := 0 }
def smokeImage : FwImage :=
  { fslLen := 0, mainOffset := 512, mainLen := 0, fslMeasured := 0, mainMeasured := 0, keyOk := true, sigOk := true, raiseSvn := false, needsReset := false, svn := 0, fwRev := 0
    fslDigest := 0, mainDigest := 0, keyIndex := 0, revoke := 0 }
def smokeProvision : Provision :=
  { lengthOk := true, reservedZero := true, clear := false, ownerSeq := 1, ownerKey := 0, nonce := 0, dsn := 0, sigOk := true }
def smokeAuth : OwnerAuthArgs :=
  { lengthOk := true, reservedZero := true, scope := 1, durationS := 1, nonce := 0, dsn := 0, ownerSeq := 1, sigOk := true }
def smokeSram : SramTarget := { die := 0, macroNo := 0, row := 0, array := .directory, frame := 0, streams := [], half := 0, ref := adminRef }
def smokeWord : WordErrors := { perDevice := List.replicate 6 0, metaOk := true }
def smokeFlit : FlitTag := { stream := 0, op := 0, hand := 0, chunk := 0, msyn := 0, coefA := 0, coefB := 0, foff := 0, ares := 0, fres := 0 }
def smokeFinj : FinjDesc :=
  { target := 0, action := 0, stage := 0, dir := 0, slotLink := 0, portSub := 0, matchKind := 0, reorderDepth := 0, count := 0
    interval := 0, skip := 0, corruptMask := 0, corruptDw := 0 }

/-- Each of these commands has one operand outside its range. -/
theorem smoke_ill_formed_1 :
    ([
      .railPgRise 5,
      .staggerGroupEnable 8,
      .memberPerstDeassert 64,
      .memoryTrainingComplete 8 false false,
      .configResponseStart 2,
      .rrsEnd 2,
      .bootComplete false false false { vaultLost := [4] },
      .restoreComplete false (2 ^ 32) [],
      .restoreComplete false 0 [(32, 0, [])],
      .restoreComplete false 0 [(0, 0, [smokeBadRead])],
      .intentReplay 32 0 [],
      .intentReplay 0 (2 ^ 48) [],
      .intentReplay 0 0 [smokeBadRead],
      .railPgFall 5,
      .railPgTimeout 5,
      .holdupFlushEnd (2 ^ 32) 0 0,
      .holdupFlushEnd 0 (2 ^ 32) 0,
      .holdupFlushEnd 0 0 (2 ^ 16),
      .flushAbortCutoff (2 ^ 32) 0 0 0,
      .flushAbortCutoff 0 (2 ^ 32) 0 0,
      .flushAbortCutoff 0 0 (2 ^ 32) 0,
      .flushAbortCutoff 0 0 0 (2 ^ 16),
      .nandProgramFail (.block (2 ^ 16)),
      .nandProgramFail (.channel 4),
      .perstAssert 2,
      .perstDeassert 2,
      .hotReset 2,
      .hostLinkDown { port := 2, cause := .surpriseDown }] : List Instr).all (fun i => !i.wellFormed) = true := by decide

/-- Each of these commands has one operand outside its range. -/
theorem smoke_ill_formed_2 :
    ([
      .hostSerdesLaneFail 16,
      .flr 2,
      .d3hotEntry 2,
      .d0Return 2,
      .l0pEntry 2,
      .l0pExit 2,
      .l1Entry 2 0,
      .l1Entry 0 3,
      .l1Exit 2,
      .configRequest 2 false 0 0 false,
      .configRequest 0 false (2 ^ 32) 0 false,
      .bar0MisalignedAccess 2 false 0 0,
      .bar0MisalignedAccess 0 false (2 ^ 32) 0,
      .bar0MisalignedAccess 0 false 0 9,
      .poisonedBarWrite 2 0 0 0,
      .poisonedBarWrite 0 5 0 0,
      .poisonedBarWrite 0 0 (2 ^ 32) 0,
      .unsupportedAddressRequest 2 0,
      .unsupportedAddressRequest 0 (2 ^ 64),
      .hostDataReadError smokeBadRef,
      .sqEntryReadError 3 0 false,
      .sqEntryReadError 1 (2 ^ 16) false,
      .msixUnmask 3 0,
      .msixUnmask 1 (2 ^ 11),
      .doeDiscovery 2 0,
      .doeDiscovery 0 256,
      .doeAbort 2,
      .doeUnsupportedProtocol 2] : List Instr).all (fun i => !i.wellFormed) = true := by decide

/-- Each of these commands has one operand outside its range. -/
theorem smoke_ill_formed_3 :
    ([
      .spdmGetVersion 2,
      .spdmGetCapabilities 2,
      .spdmNegotiateAlgorithms 2 false,
      .spdmGetDigests 2,
      .spdmGetCertificate 2 { slot := 0, index := 0, nonce := 0 },
      .spdmGetCertificate 0 { slot := 8, index := 0, nonce := 0 },
      .spdmChallenge 2 { slot := 0, index := 0, nonce := 0 },
      .spdmChallenge 0 { slot := 8, index := 0, nonce := 0 },
      .spdmGetMeasurements 2 { slot := 0, index := 0, nonce := 0 },
      .spdmGetMeasurements 0 { slot := 8, index := 0, nonce := 0 },
      .sqTailDoorbell 3 0 0,
      .sqTailDoorbell 1 (2 ^ 16) 0,
      .sqTailDoorbell 1 0 (2 ^ 32),
      .cqHeadDoorbell 3 0 0,
      .cqHeadDoorbell 1 (2 ^ 16) 0,
      .cqHeadDoorbell 1 0 (2 ^ 32),
      .commandFetch 3 0 [],
      .commandFetch 1 (2 ^ 16) [],
      .commandFetch 1 0 [{ cid := 65536, opcode := 2 }],
      .completionPost 3 0,
      .completionPost 1 (2 ^ 16),
      .ccEnable 3 0 0 0 0,
      .ccEnable 1 16 0 0 0,
      .ccEnable 1 0 8 0 0,
      .ccEnable 1 0 0 (2 ^ 12) 0,
      .ccEnable 1 0 0 0 (2 ^ 12),
      .ccDisable 3,
      .shutdownNormal 3] : List Instr).all (fun i => !i.wellFormed) = true := by decide

/-- Each of these commands has one operand outside its range. -/
theorem smoke_ill_formed_4 :
    ([
      .shutdownAbrupt 3,
      .shutdownComplete 3,
      .cmbmscWrite 3 false false 0,
      .cmbmscWrite 1 false false (2 ^ 52),
      .ioFlush smokeBadRef 0,
      .ioFlush adminRef (2 ^ 32),
      .ioWrite { smokeIo with nlb := 65536 } [] [],
      .ioRead { smokeIo with nlb := 65536 },
      .ioCompare { smokeIo with nlb := 65536 } [] [],
      .ioWriteZeroes { smokeIo with nlb := 65536 },
      .ioDatasetManagement smokeBadRef 0 false [],
      .ioDatasetManagement adminRef (2 ^ 32) false [],
      .ioDatasetManagement adminRef 0 false [{ slba := 0, len := 2 ^ 32 }],
      .ioVerify { smokeIo with nlb := 65536 },
      .writeAdmit smokeBadRef,
      .directorySwitch smokeBadRef,
      .mergeSuperseded (2 ^ 40) 0,
      .mergeSuperseded 0 (2 ^ 60),
      .epochClose 4,
      .fillComplete (2 ^ 40) 0 none [],
      .fillComplete 0 (2 ^ 60) none [],
      .fillComplete 0 0 (some smokeBadRead) [],
      .fillComplete 0 0 none [smokeBadRead],
      .dataRecordSend smokeBadRef,
      .dataRecordDurable smokeBadRef,
      .handUpdateStart 32 0 [],
      .handUpdateStart 0 (2 ^ 40) [],
      .handUpdateStart 0 0 [smokeBadRead]] : List Instr).all (fun i => !i.wellFormed) = true := by decide

/-- Each of these commands has one operand outside its range. -/
theorem smoke_ill_formed_5 :
    ([
      .intentBatchClose 32,
      .trimBatchClose 32 false,
      .intentDurable 32 0 [],
      .intentDurable 0 (2 ^ 48) [],
      .intentDurable 0 0 [smokeBadRead],
      .handUpdateWritesComplete 32 0,
      .handUpdateWritesComplete 0 (2 ^ 48),
      .handUpdateDurable 32 0,
      .handUpdateDurable 0 (2 ^ 48),
      .memberFlushDeadline 64,
      .keeperHeaderWrite 32,
      .replicaComplete 32 0,
      .replicaComplete 0 64,
      .resyncHand 32 0 [],
      .resyncHand 0 (2 ^ 40) [],
      .resyncHand 0 0 [smokeBadRead],
      .readErrorRepair 32 0 0 0 none [],
      .readErrorRepair 0 (2 ^ 40) 0 0 none [],
      .readErrorRepair 0 0 (2 ^ 20) 0 none [],
      .readErrorRepair 0 0 0 64 none [],
      .readErrorRepair 0 0 0 0 (some smokeBadRead) [],
      .readErrorRepair 0 0 0 0 none [smokeBadRead],
      .rowOverflowConsistency 32 0 0 [] [],
      .rowOverflowConsistency 0 (2 ^ 40) 0 [] [],
      .rowOverflowConsistency 0 0 (2 ^ 20) [] [],
      .rowOverflowConsistency 0 0 0 [smokeBadRead] [],
      .rowOverflowConsistency 0 0 0 [] [smokeBadRead],
      .failureScan 32] : List Instr).all (fun i => !i.wellFormed) = true := by decide

/-- Each of these commands has one operand outside its range. -/
theorem smoke_ill_formed_6 :
    ([
      .rebuildHand 32 0 [],
      .rebuildHand 0 (2 ^ 40) [],
      .rebuildHand 0 0 [smokeBadRead],
      .rebuildSegmentEnd 32,
      .rebuildProgressWrite 32,
      .copybackRound 32 [],
      .copybackRound 0 [(0, [smokeBadRead])],
      .copybackProgressWrite 32,
      .patrolPassStart { deck := 32 },
      .patrolPassStart { deck := 0, copies := [(64, [])] },
      .patrolPassStart { deck := 0, copies := [(0, [(1, [])])] },
      .patrolRow 32 0 0 [],
      .patrolRow 0 (2 ^ 40) 0 [],
      .patrolRow 0 0 (2 ^ 20) [],
      .patrolRow 0 0 0 [smokeBadRead],
      .patrolRepair 32 0 0 [],
      .patrolRepair 0 (2 ^ 40) 0 [],
      .patrolRepair 0 0 (2 ^ 20) [],
      .patrolRepair 0 0 0 [smokeBadRead],
      .patrolProgressWrite 32,
      .redealCopyHand 32 0 0 [],
      .redealCopyHand 0 (2 ^ 32) 0 [],
      .redealCopyHand 0 0 (2 ^ 40) [],
      .redealCopyHand 0 0 0 [(0, [smokeBadRead])],
      .redealProgressWrite 32,
      .generationSwitch 32,
      .oldRoundsRelease 32,
      .parityOperand { src := 5, region := 0 } 0 smokeFlit (List.replicate 64 0) .good none] : List Instr).all (fun i => !i.wellFormed) = true := by decide

/-- Each of these commands has one operand outside its range. -/
theorem smoke_ill_formed_7 :
    ([
      .parityOperand { src := 0, region := 4 } 0 smokeFlit (List.replicate 64 0) .good none,
      .parityOperand { src := 0, region := 0 } 9 smokeFlit (List.replicate 64 0) .good none,
      .parityOperand { src := 0, region := 0 } 0 smokeFlit [] .good none,
      .parityOperand { src := 0, region := 0 } 0 smokeFlit (List.replicate 64 0) .good (some { msyn := 4, width := 1, check := false, count := 4 }),
      .glildoFlitError 8 0,
      .glildoFlitError 0 17,
      .glildoLinkStall 8,
      .regionFault 4 0,
      .regionFault 0 256,
      .remirrorComplete 4,
      .hubHalfFault 2,
      .lockstepMismatch 5 0,
      .lockstepMismatch 0 2,
      .cryptoResidueMismatch 2 false,
      .dramScrub 4 0 0 smokeWord false false,
      .dramScrub 0 (2 ^ 40) 0 smokeWord false false,
      .dramScrub 0 0 64 smokeWord false false,
      .dramScrub 0 0 0 { smokeWord with perDevice := [0] } false false,
      .sramScrub { smokeSram with die := 6 } { bits := 1, again := false, copyLost := false, stuck := false },
      .sramRowRepair 6 0 0,
      .sramRowRepair 0 1024 0,
      .sramRowRepair 0 0 512,
      .schedulerWindow { smokeMeas with temps := [] },
      .pmbusPowerRead (2 ^ 32),
      .dieTempMissing 5,
      .thermtripAssert 5 0,
      .thermtripRelease 5 0,
      .memSelfRefreshEntry 8] : List Instr).all (fun i => !i.wellFormed) = true := by decide

/-- Each of these commands has one operand outside its range. -/
theorem smoke_ill_formed_8 :
    ([
      .memberPortL12Entry 64 0,
      .memberPortL12Entry 0 2,
      .parityBlockGate 4 0,
      .parityBlockGate 0 9,
      .apstTransition 3,
      .memberPortBringup 64 0 0 0 smokeDrive,
      .memberPortBringup 0 2 0 0 smokeDrive,
      .memberPortBringup 0 0 65 0 smokeDrive,
      .memberPortBringup 0 0 0 17 smokeDrive,
      .memberPortBringup 0 0 0 0 { smokeDrive with metaBytes := 8 },
      .memberPortReadyTimeout 64 0,
      .memberPortReadyTimeout 0 2,
      .memberCompletion { smokeCpl with tag := 65536 },
      .memberCommandTimeout 64 0 0,
      .memberCommandTimeout 0 2 0,
      .memberCommandTimeout 0 0 (2 ^ 16),
      .memberAdminTimeout 64 0,
      .memberAdminTimeout 0 2,
      .lateCompletion 64 0 0,
      .lateCompletion 0 2 0,
      .lateCompletion 0 0 (2 ^ 16),
      .tagQuarantineEnd 64 0 0,
      .tagQuarantineEnd 0 2 0,
      .tagQuarantineEnd 0 0 (2 ^ 16),
      .memberInboundTlp { smokeTlp with port := 2 },
      .dpcTrigger 64 0 0,
      .dpcTrigger 0 2 0,
      .dpcTrigger 0 0 4] : List Instr).all (fun i => !i.wellFormed) = true := by decide

/-- Each of these commands has one operand outside its range. -/
theorem smoke_ill_formed_9 :
    ([
      .containmentRelease 64 0,
      .containmentRelease 0 2,
      .prsntRemoval 64,
      .prsntInsertion 64,
      .failedPendingTimeout 64 false,
      .memberControllerReset 64 0 false,
      .memberControllerReset 0 2 false,
      .secondaryBusReset 64 0 false,
      .secondaryBusReset 0 2 false,
      .slotPowerCycle 64 false,
      .failedPortRetry 64 0,
      .failedPortRetry 0 2,
      .healthRecoveryTick 64,
      .memberAsyncEvent 64 0 none 0,
      .memberAsyncEvent 0 0 none (2 ^ 16),
      .gaugePinSample (2 ^ 32) 0,
      .gaugePinSample 0 (2 ^ 32),
      .gaugeEvaluation { smokeGauge with cellMv := [65536] },
      .pathTestEnd (2 ^ 32) false 0 0,
      .pathTestEnd 0 false (2 ^ 16) 0,
      .pathTestEnd 0 false 0 (2 ^ 32),
      .vaultAreaErase 2,
      .stagedDwordDiscard 2 0,
      .stagedDwordDiscard 0 (2 ^ 32),
      .formatSanitizeProgress (2 ^ 16),
      .formatComplete (2 ^ 32),
      .namespaceDeleteCommit (2 ^ 32),
      .pwinApply 3 0] : List Instr).all (fun i => !i.wellFormed) = true := by decide

/-- Each of these commands has one operand outside its range. -/
theorem smoke_ill_formed_10 :
    ([
      .pwinApply 1 16,
      .pwinActivate 3 0,
      .pwinActivate 1 16,
      .bar2Write { smokeBar2 with fn := 2 },
      .bar2Read { smokeBar2 with fn := 2 },
      .finjArm (some { ref := smokeBadRef, desc := smokeFinj }),
      .finjArm (some { ref := adminRef, desc := { smokeFinj with skip := 2 ^ 32 } }),
      .finjArm (some { ref := adminRef, desc := smokeFinj, len := 2 ^ 16 }),
      .finjDisarm (some smokeBadRef),
      .rcvCtlDevReset 2 0,
      .rcvCtlPwrcyc 2 0,
      .registerWrite 2 { offset := 0 } 0 0,
      .registerWrite 0 { bar := 2, offset := 0 } 0 0,
      .registerWrite 0 { offset := 2 ^ 32 } 0 0,
      .registerWrite 0 { offset := 0 } 9 0,
      .miReadDataStructure { smokeMi with param := 2 ^ 32 },
      .miSubsystemHealthPoll { smokeMi with param := 2 ^ 32 },
      .miControllerHealthPoll { smokeMi with param := 2 ^ 32 },
      .miConfigurationGet { smokeMi with param := 2 ^ 32 },
      .miConfigurationSet { smokeMi with param := 2 ^ 32 } 0,
      .miConfigurationSet smokeMi (2 ^ 32),
      .miAdminTunnel { smokeMi with param := 2 ^ 32 } 1 0 0 0 0,
      .miAdminTunnel smokeMi 3 0 0 0 0,
      .miAdminTunnel smokeMi 1 256 0 0 0,
      .miAdminTunnel smokeMi 1 0 (2 ^ 32) 0 0,
      .miAdminTunnel smokeMi 1 0 0 (2 ^ 32) 0,
      .miAdminTunnel smokeMi 1 0 0 0 (2 ^ 32),
      .deleteIoSq smokeBadRef 0] : List Instr).all (fun i => !i.wellFormed) = true := by decide

/-- Each of these commands has one operand outside its range. -/
theorem smoke_ill_formed_11 :
    ([
      .deleteIoSq adminRef (2 ^ 16),
      .createIoSq smokeBadRef 0 0 0 0 false,
      .createIoSq adminRef (2 ^ 16) 0 0 0 false,
      .createIoSq adminRef 0 (2 ^ 16) 0 0 false,
      .createIoSq adminRef 0 0 (2 ^ 16) 0 false,
      .createIoSq adminRef 0 0 0 4 false,
      .deleteIoCq smokeBadRef 0,
      .deleteIoCq adminRef (2 ^ 16),
      .createIoCq smokeBadRef 0 0 false false 0,
      .createIoCq adminRef (2 ^ 16) 0 false false 0,
      .createIoCq adminRef 0 (2 ^ 16) false false 0,
      .createIoCq adminRef 0 0 false false (2 ^ 16),
      .getLogPage smokeBadRef 0 0 0 0 0,
      .getLogPage adminRef 256 0 0 0 0,
      .getLogPage adminRef 0 256 0 0 0,
      .getLogPage adminRef 0 0 (2 ^ 32) 0 0,
      .getLogPage adminRef 0 0 0 (2 ^ 64) 0,
      .getLogPage adminRef 0 0 0 0 (2 ^ 34),
      .identify smokeBadRef 0 0 0,
      .identify adminRef 256 0 0,
      .identify adminRef 0 (2 ^ 32) 0,
      .identify adminRef 0 0 (2 ^ 16),
      .abort smokeBadRef 0 0,
      .abort adminRef (2 ^ 16) 0,
      .abort adminRef 0 (2 ^ 16),
      .setFeatures smokeBadRef smokeFeature,
      .setFeatures adminRef { smokeFeature with fid := 256 },
      .getFeatures smokeBadRef 0 0 0] : List Instr).all (fun i => !i.wellFormed) = true := by decide

/-- Each of these commands has one operand outside its range. -/
theorem smoke_ill_formed_12 :
    ([
      .getFeatures adminRef 256 0 0,
      .getFeatures adminRef 0 16 0,
      .getFeatures adminRef 0 0 (2 ^ 32),
      .asynchronousEventRequest smokeBadRef,
      .namespaceManagementCreate smokeBadRef smokeNs,
      .namespaceManagementCreate adminRef { smokeNs with deckId := 256 },
      .namespaceManagementDelete smokeBadRef 0,
      .namespaceManagementDelete adminRef (2 ^ 32),
      .firmwareImageDownload smokeBadRef 0 0 none,
      .firmwareImageDownload adminRef (2 ^ 34) 0 none,
      .firmwareImageDownload adminRef 0 (2 ^ 34) none,
      .firmwareImageDownload adminRef 0 0 (some { smokeImage with keyIndex := 256 }),
      .firmwareCommit smokeBadRef 0 0,
      .firmwareCommit adminRef 8 0,
      .firmwareCommit adminRef 0 8,
      .firmwareCommitActivate smokeBadRef 0,
      .firmwareCommitActivate adminRef 8,
      .namespaceAttachment smokeBadRef 0 0 [],
      .namespaceAttachment adminRef (2 ^ 32) 0 [],
      .namespaceAttachment adminRef 0 16 [],
      .namespaceAttachment adminRef 0 0 [65536],
      .nvmeMiSend smokeBadRef 0 smokeMi {},
      .nvmeMiSend adminRef 256 smokeMi {},
      .nvmeMiSend adminRef 0 { smokeMi with param := 2 ^ 32 } {},
      .nvmeMiSend adminRef 0 smokeMi { opcode := 256 },
      .nvmeMiReceive smokeBadRef,
      .formatNvm smokeBadRef 0 0 0 0,
      .formatNvm adminRef (2 ^ 32) 0 0 0] : List Instr).all (fun i => !i.wellFormed) = true := by decide

/-- Each of these commands has one operand outside its range. -/
theorem smoke_ill_formed_13 :
    ([
      .formatNvm adminRef 0 64 0 0,
      .formatNvm adminRef 0 0 16 0,
      .formatNvm adminRef 0 0 0 8,
      .sanitize smokeBadRef 0 0 false 0,
      .sanitize adminRef 8 0 false 0,
      .sanitize adminRef 0 16 false 0,
      .deckCreate smokeBadRef smokeShape none,
      .deckCreate adminRef { smokeShape with m := 4 } none,
      .deckCreate adminRef smokeShape (some 6),
      .deckImport smokeBadRef 0 [] {},
      .deckImport adminRef 256 [] {},
      .deckImport adminRef 0 [64] {},
      .deckImport adminRef 0 [] { m := 4 },
      .deckDestroy smokeBadRef 0,
      .deckDestroy adminRef 256,
      .deckRedeal smokeBadRef smokeShape,
      .deckRedeal adminRef { smokeShape with m := 4 },
      .deckRedealCancel smokeBadRef 0 ([], {}),
      .deckRedealCancel adminRef 256 ([], {}),
      .deckRedealCancel adminRef 0 ([64], {}),
      .deckRedealCancel adminRef 0 ([], { m := 4 }),
      .memberControlOnline smokeBadRef 0 0,
      .memberControlOnline adminRef 64 0,
      .memberControlOnline adminRef 0 (2 ^ 32),
      .memberControlOffline smokeBadRef 0 0,
      .memberControlOffline adminRef 64 0,
      .memberControlOffline adminRef 0 (2 ^ 32),
      .memberControlFail smokeBadRef 0 0] : List Instr).all (fun i => !i.wellFormed) = true := by decide

/-- Each of these commands has one operand outside its range. -/
theorem smoke_ill_formed_14 :
    ([
      .memberControlFail adminRef 64 0,
      .memberControlFail adminRef 0 (2 ^ 32),
      .memberControlErase smokeBadRef 0 0,
      .memberControlErase adminRef 64 0,
      .memberControlErase adminRef 0 (2 ^ 32),
      .memberControlPortReset smokeBadRef 0 0,
      .memberControlPortReset adminRef 64 0,
      .memberControlPortReset adminRef 0 (2 ^ 32),
      .memberControlClear smokeBadRef 0 0,
      .memberControlClear adminRef 64 0,
      .memberControlClear adminRef 0 (2 ^ 32),
      .memberControlMemClear smokeBadRef 0 0,
      .memberControlMemClear adminRef 64 0,
      .memberControlMemClear adminRef 0 (2 ^ 32),
      .rebuildControlResume smokeBadRef 0,
      .rebuildControlResume adminRef 256,
      .rebuildControlHold smokeBadRef 0,
      .rebuildControlHold adminRef 256,
      .rebuildControlReplace smokeBadRef 0 0,
      .rebuildControlReplace adminRef 256 0,
      .rebuildControlReplace adminRef 0 64,
      .rebuildControlStatus smokeBadRef 0,
      .rebuildControlStatus adminRef 256,
      .patrolControlResume smokeBadRef 0,
      .patrolControlResume adminRef 256,
      .patrolControlPause smokeBadRef 0,
      .patrolControlPause adminRef 256,
      .patrolControlRestart smokeBadRef 0] : List Instr).all (fun i => !i.wellFormed) = true := by decide

/-- Each of these commands has one operand outside its range. -/
theorem smoke_ill_formed_15 :
    ([
      .patrolControlRestart adminRef 256,
      .patrolControlRepairOn smokeBadRef 0,
      .patrolControlRepairOn adminRef 256,
      .patrolControlRepairOff smokeBadRef 0,
      .patrolControlRepairOff adminRef 256,
      .queueResumeRetry smokeBadRef 0,
      .queueResumeRetry adminRef (2 ^ 16),
      .queueResumeSkip smokeBadRef 0,
      .queueResumeSkip adminRef (2 ^ 16),
      .recorderFreeze smokeBadRef,
      .recorderThaw smokeBadRef,
      .calibrationAccessRead smokeBadRef 0,
      .calibrationAccessRead adminRef (2 ^ 34),
      .calibrationAccessWrite smokeBadRef 0 smokeCal,
      .calibrationAccessWrite adminRef (2 ^ 34) smokeCal,
      .calibrationAccessWrite adminRef 0 { smokeCal with version := 256 },
      .bootStatementGet smokeBadRef 0 0,
      .bootStatementGet adminRef (2 ^ 34) 0,
      .bootStatementGet adminRef 0 (2 ^ 32),
      .shipEnterArm smokeBadRef,
      .shipEnterDisarm smokeBadRef,
      .recoveryRequestDeviceReset smokeBadRef,
      .recoveryRequestPowerCycle smokeBadRef,
      .ownerChallengeGet smokeBadRef 0,
      .ownerChallengeGet adminRef (2 ^ 34),
      .ownerProvision smokeBadRef smokeProvision,
      .ownerProvision adminRef { smokeProvision with ownerSeq := 2 ^ 32 },
      .ownerAuth smokeBadRef smokeAuth] : List Instr).all (fun i => !i.wellFormed) = true := by decide

/-- Each of these commands has one operand outside its range. -/
theorem smoke_ill_formed_16 :
    ([
      .ownerAuth adminRef { smokeAuth with durationS := 2 ^ 32 },
      .hostLinkUp 2 0 0,
      .hostLinkUp 0 65 0,
      .hostLinkUp 0 0 17,
      .aggregationTimeExpiry 3 0,
      .aggregationTimeExpiry 1 (2 ^ 11),
      .withheldTagTimeout 64 0,
      .withheldTagTimeout 0 2,
      .ladderStepBoundExpiry 64 0,
      .ladderStepBoundExpiry 0 2,
      .memberPcieCompletionTimeout 64 0,
      .memberPcieCompletionTimeout 0 2] : List Instr).all (fun i => !i.wellFormed) = true := by decide

/-- The same commands with every operand in its range. -/
theorem smoke_well_formed_1 :
    ([
      .auxRailRise,
      .auxRailLoss,
      .mainPowerGoodHeld,
      .railPgRise 0,
      .staggerGroupEnable 0,
      .memberPerstDeassert 0,
      .memoryTrainingComplete 0 false false,
      .configResponseStart 0,
      .rrsEnd 0,
      .bootMemberWindowClose,
      .bootComplete false false false {},
      .restoreComplete false 0 [],
      .intentReplay 0 0 [],
      .mainPgFall,
      .mainSenseLow,
      .railPgFall 0,
      .railPgTimeout 0,
      .holdupFlushEnd 0 0 0,
      .flushAbortCutoff 0 0 0 0,
      .nandProgramFail (.block 0),
      .perstAssert 0,
      .perstDeassert 0,
      .hotReset 0,
      .hostLinkDown { port := 0, cause := .surpriseDown },
      .hostSerdesLaneFail 0,
      .flr 0,
      .d3hotEntry 0,
      .d0Return 0,
      .l0pEntry 0,
      .l0pExit 0,
      .l1Entry 0 0,
      .l1Exit 0,
      .configRequest 0 false 0 0 false,
      .bar0MisalignedAccess 0 false 0 0,
      .poisonedBarWrite 0 0 0 0,
      .unsupportedAddressRequest 0 0,
      .hostDataReadError adminRef,
      .sqEntryReadError 1 0 false,
      .msixUnmask 1 0,
      .doeDiscovery 0 0,
      .doeAbort 0,
      .doeUnsupportedProtocol 0,
      .spdmGetVersion 0,
      .spdmGetCapabilities 0,
      .spdmNegotiateAlgorithms 0 false,
      .spdmGetDigests 0,
      .spdmGetCertificate 0 { slot := 0, index := 0, nonce := 0 },
      .spdmChallenge 0 { slot := 0, index := 0, nonce := 0 },
      .spdmGetMeasurements 0 { slot := 0, index := 0, nonce := 0 },
      .sqTailDoorbell 1 0 0,
      .cqHeadDoorbell 1 0 0,
      .commandFetch 1 0 [],
      .completionPost 1 0,
      .ccEnable 1 0 0 0 0,
      .ccDisable 1,
      .shutdownNormal 1,
      .shutdownAbrupt 1,
      .shutdownComplete 1,
      .cmbmscWrite 1 false false 0,
      .ioFlush adminRef 0,
      .ioWrite smokeIo [] [],
      .ioRead smokeIo,
      .ioCompare smokeIo [] [],
      .ioWriteZeroes smokeIo,
      .ioDatasetManagement adminRef 0 false []] : List Instr).all (fun i => i.wellFormed) = true := by decide +kernel

/-- The same commands with every operand in its range. -/
theorem smoke_well_formed_2 :
    ([
      .ioVerify smokeIo,
      .writeAdmit adminRef,
      .directorySwitch adminRef,
      .mergeSuperseded 0 0,
      .epochClose 0,
      .fillComplete 0 0 none [],
      .dataRecordSend adminRef,
      .dataRecordDurable adminRef,
      .cachePolicyToWriteBack,
      .handUpdateStart 0 0 [],
      .intentBatchClose 0,
      .trimBatchClose 0 false,
      .intentDurable 0 0 [],
      .handUpdateWritesComplete 0 0,
      .handUpdateDurable 0 0,
      .memberFlushDeadline 0,
      .keeperHeaderWrite 0,
      .replicaComplete 0 0,
      .resyncHand 0 0 [],
      .readErrorRepair 0 0 0 0 none [],
      .rowOverflowConsistency 0 0 0 [] [],
      .failureScan 0,
      .rebuildHand 0 0 [],
      .rebuildSegmentEnd 0,
      .rebuildProgressWrite 0,
      .copybackRound 0 [],
      .copybackProgressWrite 0,
      .patrolPassStart { deck := 0 },
      .patrolRow 0 0 0 [],
      .patrolRepair 0 0 0 [],
      .patrolProgressWrite 0,
      .patrolPageWrite,
      .redealCopyHand 0 0 0 [],
      .redealProgressWrite 0,
      .generationSwitch 0,
      .oldRoundsRelease 0,
      .parityOperand { src := 0, region := 0 } 0 smokeFlit (List.replicate 64 0) .good none,
      .glildoFlitError 0 0,
      .glildoLinkStall 0,
      .regionFault 0 0,
      .remirrorComplete 0,
      .hubHalfFault 0,
      .lockstepMismatch 0 0,
      .mod15Mismatch 0,
      .cryptoResidueMismatch 0 false,
      .dramScrub 0 0 0 smokeWord false false,
      .sramScrub smokeSram { bits := 1, again := false, copyLost := false, stuck := false },
      .sramRowRepair 0 0 0,
      .schedulerWindow smokeMeas,
      .pmbusPowerRead 0,
      .startupCapEnd,
      .dieTempMissing 0,
      .thermtripAssert 0 0,
      .thermtripRelease 0 0,
      .crystalStop,
      .memSelfRefreshEntry 0,
      .memberPortL12Entry 0 0,
      .parityBlockGate 0 0,
      .apstTransition 1,
      .memberPortBringup 0 0 0 0 smokeDrive,
      .memberPortReadyTimeout 0 0,
      .memberCompletion smokeCpl,
      .memberCommandTimeout 0 0 0,
      .memberAdminTimeout 0 0,
      .lateCompletion 0 0 0] : List Instr).all (fun i => i.wellFormed) = true := by decide +kernel

/-- The same commands with every operand in its range. -/
theorem smoke_well_formed_3 :
    ([
      .tagQuarantineEnd 0 0 0,
      .memberInboundTlp smokeTlp,
      .dpcTrigger 0 0 0,
      .containmentRelease 0 0,
      .prsntRemoval 0,
      .prsntInsertion 0,
      .slotPowerOn,
      .failedPendingTimeout 0 false,
      .memberControllerReset 0 0 false,
      .secondaryBusReset 0 0 false,
      .slotPowerCycle 0 false,
      .failedPortRetry 0 0,
      .healthRecoveryTick 0,
      .memberAsyncEvent 0 0 none 0,
      .membersEntryAppend,
      .gaugePinSample 0 0,
      .gaugeCurrentSample 0,
      .gaugeEvaluation smokeGauge,
      .packRestReanchor,
      .packTempWindowReturn,
      .pathTestStart,
      .pathTestEnd 0 false 0 0,
      .learningStart,
      .learningDischargeStop,
      .learningEnd,
      .chargeTermination,
      .learnedSlotWrite false,
      .vaultAreaErase 0,
      .heartwoodAppendRetry false,
      .spillBatch,
      .stagedDwordDiscard 0 0,
      .firmwareDownloadClaimEnd,
      .ownerAuthExpiry,
      .finjExpiry,
      .pwrcycTimeout,
      .selfReset,
      .formatSanitizeProgress 0,
      .formatComplete 0,
      .sanitizeComplete false,
      .namespaceDeleteCommit 0,
      .firmwareActivationComplete,
      .pwinApply 1 0,
      .pwinActivate 1 0,
      .bar2Write smokeBar2,
      .bar2Read smokeBar2,
      .ecctTestEnSet false,
      .ecctWrite,
      .ecctFlip,
      .ecctRead,
      .ecctRawRead,
      .finjArm none,
      .finjDisarm none,
      .evrFreezeWrite false,
      .rcvCtlDevReset 0 0,
      .rcvCtlPwrcyc 0 0,
      .registerWrite 0 { offset := 0 } 0 0,
      .miReadDataStructure smokeMi,
      .miSubsystemHealthPoll smokeMi,
      .miControllerHealthPoll smokeMi,
      .miConfigurationGet smokeMi,
      .miConfigurationSet smokeMi 0,
      .miAdminTunnel smokeMi 1 0 0 0 0,
      .deleteIoSq adminRef 0,
      .createIoSq adminRef 0 0 0 0 false,
      .deleteIoCq adminRef 0] : List Instr).all (fun i => i.wellFormed) = true := by decide +kernel

/-- The same commands with every operand in its range. -/
theorem smoke_well_formed_4 :
    ([
      .createIoCq adminRef 0 0 false false 0,
      .getLogPage adminRef 0 0 0 0 0,
      .identify adminRef 0 0 0,
      .abort adminRef 0 0,
      .setFeatures adminRef smokeFeature,
      .getFeatures adminRef 0 0 0,
      .asynchronousEventRequest adminRef,
      .namespaceManagementCreate adminRef smokeNs,
      .namespaceManagementDelete adminRef 0,
      .firmwareImageDownload adminRef 0 0 none,
      .firmwareCommit adminRef 0 0,
      .firmwareCommitActivate adminRef 0,
      .namespaceAttachment adminRef 0 0 [],
      .nvmeMiSend adminRef 0 smokeMi {},
      .nvmeMiReceive adminRef,
      .formatNvm adminRef 0 0 0 0,
      .sanitize adminRef 0 0 false 0,
      .deckCreate adminRef smokeShape none,
      .deckImport adminRef 0 [] {},
      .deckDestroy adminRef 0,
      .deckRedeal adminRef smokeShape,
      .deckRedealCancel adminRef 0 ([], {}),
      .memberControlOnline adminRef 0 0,
      .memberControlOffline adminRef 0 0,
      .memberControlFail adminRef 0 0,
      .memberControlErase adminRef 0 0,
      .memberControlPortReset adminRef 0 0,
      .memberControlClear adminRef 0 0,
      .memberControlMemClear adminRef 0 0,
      .rebuildControlResume adminRef 0,
      .rebuildControlHold adminRef 0,
      .rebuildControlReplace adminRef 0 0,
      .rebuildControlStatus adminRef 0,
      .patrolControlResume adminRef 0,
      .patrolControlPause adminRef 0,
      .patrolControlRestart adminRef 0,
      .patrolControlRepairOn adminRef 0,
      .patrolControlRepairOff adminRef 0,
      .queueResumeRetry adminRef 0,
      .queueResumeSkip adminRef 0,
      .recorderFreeze adminRef,
      .recorderThaw adminRef,
      .calibrationAccessRead adminRef 0,
      .calibrationAccessWrite adminRef 0 smokeCal,
      .bootStatementGet adminRef 0 0,
      .shipEnterArm adminRef,
      .shipEnterDisarm adminRef,
      .recoveryRequestDeviceReset adminRef,
      .recoveryRequestPowerCycle adminRef,
      .ownerChallengeGet adminRef 0,
      .ownerProvision adminRef smokeProvision,
      .ownerAuth adminRef smokeAuth,
      .mainPgRise false 0,
      .auxRailFall false,
      .hostLinkUp 0 0 0,
      .aggregationTimeExpiry 1 0,
      .withheldTagTimeout 0 0,
      .ladderStepBoundExpiry 0 0,
      .memberPcieCompletionTimeout 0 0,
      .sentinelFault,
      .crystalRunsAgain] : List Instr).all (fun i => i.wellFormed) = true := by decide +kernel

/-- Each check of an operand structure refuses the term that breaks it. -/
theorem smoke_ill_formed_operands :
    ([(IoArgs.wellFormed { smokeIo with ref := smokeBadRef }),
      (IoArgs.wellFormed { smokeIo with nsid := 2 ^ 32 }),
      (IoArgs.wellFormed { smokeIo with slba := 2 ^ 64 }),
      (IoArgs.wellFormed { smokeIo with nlb := 2 ^ 16 }),
      (IoArgs.wellFormed { smokeIo with pi := { refTag := 2 ^ 48 } }),
      (IoArgs.wellFormed { smokeIo with pi := { appTag := 2 ^ 16 } }),
      (IoArgs.wellFormed { smokeIo with pi := { appMask := 2 ^ 16 } }),
      (IoArgs.wellFormed { smokeIo with mptr := some (2 ^ 64) }),
      (CmdRef.wellFormed { adminRef with ctl := 0 }),
      (CmdRef.wellFormed { adminRef with sqid := 2 ^ 16 }),
      (CmdRef.wellFormed { adminRef with cid := 2 ^ 16 }),
      (Bar2Tlp.wellFormed { smokeBar2 with fn := 2 }),
      (Bar2Tlp.wellFormed { smokeBar2 with offset := 2 ^ 64 }),
      (Bar2Tlp.wellFormed { smokeBar2 with len := 5 }),
      (CalRecord.wellFormed { smokeCal with version := 256 }),
      (CalRecord.wellFormed { smokeCal with source := 256 }),
      (CalRecord.wellFormed { smokeCal with idTol := 2 ^ 16 }),
      (CalRecord.wellFormed { smokeCal with senseGain := 2 ^ 16 }),
      (CalRecord.wellFormed { smokeCal with thermBeta := 2 ^ 16 }),
      (CalRecord.wellFormed { smokeCal with idGain := 2 ^ 16 }),
      (DriveInfo.wellFormed { smokeDrive with metaBytes := 8 }),
      (DriveInfo.wellFormed { smokeDrive with afi := 256 }),
      (DriveInfo.wellFormed { smokeDrive with maxWidth := 3 }),
      (DriveInfo.wellFormed { smokeDrive with classCode := 2 ^ 24 }),
      (DriveInfo.wellFormed { smokeDrive with version := 2 ^ 32 }),
      (DriveInfo.wellFormed { smokeDrive with mpsMin := 16 }),
      (DriveInfo.wellFormed { smokeDrive with cmic := 256 }),
      (DriveInfo.wellFormed { smokeDrive with mdts := 256 }),
      (DriveInfo.wellFormed { smokeDrive with mps := 64 }),
      (DriveInfo.wellFormed { smokeDrive with nmic := 256 }),
      (DriveInfo.wellFormed { smokeDrive with dlfeat := 256 }),
      (DriveInfo.wellFormed { smokeDrive with oncs := 2 ^ 16 }),
      (DriveInfo.wellFormed { smokeDrive with blocks := [(1, [])] }),
      (DriveInfo.wellFormed { smokeDrive with blocks := [(0, [])] }),
      (MemberCpl.wellFormed { smokeCpl with slot := 64 }),
      (MemberCpl.wellFormed { smokeCpl with port := 2 }),
      (MemberCpl.wellFormed { smokeCpl with tag := 2 ^ 16 }),
      (MemberTlp.wellFormed { smokeTlp with slot := 64 }),
      (MemberTlp.wellFormed { smokeTlp with port := 2 }),
      (MemberTlp.wellFormed { smokeTlp with addr := 2 ^ 64 }),
      (MemberTlp.wellFormed { smokeTlp with data := [0, 0, 0, 0, 0] }),
      (NsCreate.wellFormed { smokeNs with nsze := 2 ^ 64 }),
      (NsCreate.wellFormed { smokeNs with ncap := 2 ^ 64 }),
      (NsCreate.wellFormed { smokeNs with flbas := 256 }),
      (NsCreate.wellFormed { smokeNs with dps := 256 }),
      (NsCreate.wellFormed { smokeNs with nmic := 256 }),
      (NsCreate.wellFormed { smokeNs with deckId := 256 }),
      (NsCreate.wellFormed { smokeNs with crypt := 256 }),
      (FinjDesc.wellFormed { smokeFinj with target := 256 }),
      (FinjDesc.wellFormed { smokeFinj with action := 256 }),
      (FinjDesc.wellFormed { smokeFinj with stage := 256 }),
      (FinjDesc.wellFormed { smokeFinj with dir := 256 }),
      (FinjDesc.wellFormed { smokeFinj with slotLink := 256 }),
      (FinjDesc.wellFormed { smokeFinj with portSub := 256 }),
      (FinjDesc.wellFormed { smokeFinj with matchKind := 256 }),
      (FinjDesc.wellFormed { smokeFinj with reorderDepth := 256 }),
      (FinjDesc.wellFormed { smokeFinj with count := 2 ^ 32 }),
      (FinjDesc.wellFormed { smokeFinj with interval := 2 ^ 32 }),
      (FinjDesc.wellFormed { smokeFinj with skip := 2 ^ 32 }),
      (FinjDesc.wellFormed { smokeFinj with corruptDw := 2 ^ 16 }),
      (FwImage.wellFormed { smokeImage with keyIndex := 256 }),
      (FwImage.wellFormed { smokeImage with svn := 2 ^ 32 }),
      (FwImage.wellFormed { smokeImage with magic := 2 ^ 64 }),
      (FwImage.wellFormed { smokeImage with version := 2 ^ 16 }),
      (FwImage.wellFormed { smokeImage with fslOffset := 2 ^ 32 }),
      (FwImage.wellFormed { smokeImage with fslLen := 2 ^ 32 }),
      (FwImage.wellFormed { smokeImage with mainOffset := 2 ^ 32 }),
      (FwImage.wellFormed { smokeImage with mainLen := 2 ^ 32 }),
      (FwImage.wellFormed { smokeImage with fslDigest := 2 ^ 384 }),
      (FwImage.wellFormed { smokeImage with mainDigest := 2 ^ 384 }),
      (FwImage.wellFormed { smokeImage with fslMeasured := 2 ^ 384 }),
      (FwImage.wellFormed { smokeImage with mainMeasured := 2 ^ 384 }),
      (OwnerAuthArgs.wellFormed { smokeAuth with durationS := 2 ^ 32 }),
      (OwnerAuthArgs.wellFormed { smokeAuth with ownerSeq := 2 ^ 32 }),
      (ShapeArgs.wellFormed { smokeShape with deckId := 256 }),
      (ShapeArgs.wellFormed { smokeShape with k := 32 }),
      (ShapeArgs.wellFormed { smokeShape with m := 4 }),
      (ShapeArgs.wellFormed { smokeShape with s := 64 }),
      (ShapeArgs.wellFormed { smokeShape with chunkCode := 8 }),
      (ShapeArgs.wellFormed { smokeShape with slots := [64] }),
      (SramTarget.wellFormed { smokeSram with die := 6 }),
      (SramTarget.wellFormed { smokeSram with macroNo := 1024 }),
      (SramTarget.wellFormed { smokeSram with row := 512 }),
      (SramTarget.wellFormed { smokeSram with half := 2 }),
      (SramTarget.wellFormed { smokeSram with streams := [(9, 0)] }),
      (SramTarget.wellFormed { smokeSram with streams := [(0, 4096)] }),
      (WindowMeas.wellFormed { smokeMeas with coreUj := [] }),
      (WindowMeas.wellFormed { smokeMeas with railMw := [] }),
      (WindowMeas.wellFormed { smokeMeas with avsAck := [] }),
      (WindowMeas.wellFormed { smokeMeas with temps := [] }),
      (StreamSetup.wellFormed { msyn := 0, width := 1, check := false, count := 4, cls := 7 }),
      (StreamSetup.wellFormed { msyn := 4, width := 1, check := false, count := 4 }),
      (StreamSetup.wellFormed { msyn := 0, width := 1, check := false, count := 33 }),
      (StreamSetup.wellFormed { msyn := 0, width := 1, check := false, count := 0 }),
      (StreamSetup.wellFormed { msyn := 0, width := 33, check := false, count := 4 }),
      (BootChecks.wellFormed { sram := [((6, 0, 0), true)] }),
      (BootChecks.wellFormed { sram := [((0, 1024, 0), true)] }),
      (BootChecks.wellFormed { sram := [((0, 0, 512), true)] }),
      (BootChecks.wellFormed { cells := [(4, 0, 0)] }),
      (BootChecks.wellFormed { cells := [(0, 9, 0)] }),
      (BootChecks.wellFormed { cells := [(0, 0, 3)] }),
      (BootChecks.wellFormed { sublinks := [(8, 0)] }),
      (BootChecks.wellFormed { sublinks := [(0, 17)] }),
      (BootChecks.wellFormed { torn := [1024] }),
      (MiBody.wellFormed { value := 2 ^ 32 }),
      (MiBody.wellFormed { nsid := 2 ^ 32 }),
      (MiBody.wellFormed { cdw10 := 2 ^ 32 }),
      (MiBody.wellFormed { cdw11 := 2 ^ 32 }),
      (MiArgs.wellFormed { smokeMi with offset := 2 ^ 64 }),
      (ShapeRest.wellFormed { k := 32 }),
      (ShapeRest.wellFormed { s := 64 }),
      (ShapeRest.wellFormed { chunkCode := 8 }),
      (SqEntry.wellFormed { cid := 0, opcode := 2, psdt := 4 }),
      (SqEntry.wellFormed { cid := 0, opcode := 2, nsid := 2 ^ 32 }),
      (SqEntry.wellFormed { cid := 0, opcode := 2, cdw10 := 2 ^ 32 }),
      (SqEntry.wellFormed { cid := 0, opcode := 2, cdw11 := 2 ^ 32 }),
      (ChunkTag.wellFormed { smokeTag with gen := 2 ^ 16 }),
      (ChunkTag.wellFormed { smokeTag with hand := 2 ^ 40 }),
      (ChunkTag.wellFormed { smokeTag with chunk := 64 }),
      (ChunkTag.wellFormed { smokeTag with block := 64 }),
      (ChunkTag.wellFormed { smokeTag with wseq := 2 ^ 28 }),
      (SpdmArgs.wellFormed { slot := 8, index := 0, nonce := 0 }),
      (SpdmArgs.wellFormed { slot := 0, index := 256, nonce := 0 }),
      (SqEntry.wellFormed { cid := 0, opcode := 256 }),
      (DsmRange.wellFormed { slba := 2 ^ 64, len := 0 }),
      (BlockRead.wellFormed { smokeBadRead with chunk := 64 })] : List Bool).all (fun b => !b) = true := by decide

end Sys2Proof.Tests
end

section
/-!
PROOFS. The laws of the fabric that the statements of 01 need: what a table without a key holds, which way a flit goes, what a parity
block answers to it, and which fields a takeover and a residue mismatch write.
-/

namespace Sys2Proof.Machine

/-! ## Tables -/

/-- A lookup finds nothing under a deleted key. -/
@[simp] theorem tblFind_tblDel_self {κ α : Type} [DecidableEq κ] (t : Tbl κ α) (k : κ) : tblFind (tblDel t k) k = none := by
  induction t with
  | nil => rfl
  | cons p t ih => by_cases h : p.1 = k <;> simp [tblDel, tblFind, h, ih]

/-- A lookup finds nothing under a key that a filter takes out. -/
theorem tblFind_filter_none {κ α : Type} [DecidableEq κ] (keep : κ × α → Bool) (t : Tbl κ α) (k : κ) (h : ∀ v, keep (k, v) = false) :
    tblFind (t.filter keep) k = none := by
  induction t with
  | nil => rfl
  | cons p t ih =>
    by_cases hp : p.1 = k
    · have hdrop : keep p = false := by rw [← hp] at h; exact h p.2
      simp [hdrop, ih]
    · cases hkeep : keep p <;> simp [hkeep, tblFind, hp, ih]

/-- A sum over a table is the same when a key gets the value that it holds already, or the default when that counts nothing. -/
theorem foldl_add_tblPut_tblGet {κ α : Type} [DecidableEq κ] (w : α → Nat) (t : Tbl κ α) (k : κ) (d : α) (hd : w d = 0) (n : Nat) :
    (tblPut t k (tblGet t k d)).foldl (fun n x => n + w x.2) n = t.foldl (fun n x => n + w x.2) n := by
  induction t generalizing n with
  | nil => simp [tblPut, tblGet, hd]
  | cons p t ih => by_cases h : p.1 = k <;> simp [tblPut, tblGet, h, ih]

/-! ## Parity blocks of the state -/

@[simp] theorem State.setPblock_pblock_self (s : State) (region block : Nat) (b : PBlock) : (s.setPblock region block b).pblock region block = b := by
  simp [State.pblock, State.setPblock]

@[simp] theorem emit_pblock (o : Out) (s : State) (region block : Nat) : (emit o s).pblock region block = s.pblock region block := (rfl)

@[simp] theorem noteResidue_pblock (unit stream region block : Nat) (s : State) :
    (noteResidue unit stream s).pblock region block = s.pblock region block := by
  simp [State.pblock]

/-! ## Links and the way of a flit (01 R22, R24) -/

/-- A block that is written back as it stands leaves every receiver buffer as it was. -/
theorem hasCredit_setPblock_same (s : State) (region block : Nat) (via : Nat × Bool) :
    hasCredit (s.setPblock region block (s.pblock region block)) via = hasCredit s via := by
  have hsum := foldl_add_tblPut_tblGet (fun b : PBlock => (b.waiting.filter fun o => decide (o.via = some via)).length) s.fabric.blocks
    (region, block) (if block = 8 then { active := false, gated := true } else {}) (by split <;> rfl) 0
  exact congrArg (fun n => decide ((s.fabric.transit.filter fun f => decide (f.held = some via)).length + n < Config.linkCredits)) hsum

/-- A way on which every link gives a credit is crossed whole. -/
theorem crossLinks_fst_nil (s : State) (ls : List (Nat × Bool)) (at_ : Option (Nat × Bool))
    (h : ∀ l ∈ ls, (s.link l.1).fenced = false ∧ hasCredit s l = true) : (crossLinks s ls at_).1 = [] := by
  induction ls generalizing at_ with
  | nil => rfl
  | cons l ls ih =>
    have hl := h l (by simp)
    simpa [crossLinks, hl] using ih (some l) fun x hx => h x (by simp [hx])

/-- With credits all the way a flit arrives at once. -/
theorem sendFlit_arrives (f : Transit) (s : State) (h : ∀ l ∈ f.path, (s.link l.1).fenced = false ∧ hasCredit s l = true) :
    sendFlit f s = arrive { f with path := [], held := (crossLinks s f.path f.held).2 } s := by
  simp [sendFlit, crossLinks_fst_nil s f.path f.held h]

/-- With no flit held back there is none to send on. -/
theorem sendHeld_eq_self (s : State) (h : s.fabric.transit = []) : sendHeld s = s := by
  simp [sendHeld, h]

/-- With no injection armed a crossing draws a sublink and does nothing else (15 R448). -/
theorem crossFault_of_unarmed (stream : Nat) (l : Nat × Bool) (s : State) (h : s.guard.finj.armed = none) :
    crossFault stream l s = { s with freeCtr := s.freeCtr + 1 } := by
  simp [crossFault, flitFault, h]

/-- With no injection armed a way of links draws a sublink for each. -/
theorem foldl_crossFault_of_unarmed (stream : Nat) (ls : List (Nat × Bool)) (s : State) (h : s.guard.finj.armed = none) :
    ls.foldl (fun s l => crossFault stream l s) s = { s with freeCtr := s.freeCtr + ls.length } := by
  induction ls generalizing s with
  | nil => rfl
  | cons l ls ih =>
    simp only [List.foldl_cons, crossFault_of_unarmed stream l s h]
    rw [ih { s with freeCtr := s.freeCtr + 1 } h]
    simp [Nat.add_right_comm _ 1, Nat.add_assoc]

/-- With no injection armed a reported flit error injects nothing. -/
theorem injectFlit_of_unarmed (link sub : Nat) (s : State) (h : s.guard.finj.armed = none) : injectFlit link sub s = s := by
  simp [injectFlit, h]

/-! ## What a takeover and a mismatch write -/

/-- A takeover counts, and names its source and its level, in TAKEOVER_STAT; the rest of the mode stands (17 R493). -/
@[simp] theorem takeover_mode (source level bound code : Nat) (s : State) :
    (takeover source level bound code s).mode = { s.mode with
      takeovers := min 0xFFFFFFFF (s.mode.takeovers + 1), lastSource := source, lastLevel := level
      lastUs := min 0xFFFF (Config.takeoverUs s.freeCtr % (bound + 1)) } := by
  simp [takeover]

/-- The record of a mismatch leaves the counts of `guard`, the times of the mod-15 mismatches and the units out of use (15 R432). -/
@[simp] theorem noteOnce_guard (unit code : Nat) (params : List Nat) (s : State) :
    (noteOnce unit code params s).guard.residue = s.guard.residue ∧ (noteOnce unit code params s).guard.mod15 = s.guard.mod15 ∧
    (noteOnce unit code params s).guard.mod15At = s.guard.mod15At ∧ (noteOnce unit code params s).guard.quarantined = s.guard.quarantined := by
  cases hlast : tblFind s.guard.noted (unit, code) with
  | none => simp [noteOnce, hlast]
  | some last => by_cases hsec : last + 1000000000 ≤ s.now <;> simp [noteOnce, hlast, hsec]

/-- A residue mismatch counts once (15 R432). -/
@[simp] theorem noteResidue_residue (unit stream : Nat) (s : State) : (noteResidue unit stream s).guard.residue = s.guard.residue + 1 := by
  simp [noteResidue]

end Sys2Proof.Machine
end

section
/-!
PROOFS. What a parity block answers to a flit (01 R33 to R36), and the statement on its lines.
-/

namespace Sys2Proof.Machine

/-! ## One operand in a block (R34, R35) -/

/-- What the last operand of an offset sends out: the lines, or the flag flit of a check stream (R35). -/
def linesOut (region block : Nat) (check : Bool) (key : Nat × Nat) (l : AccLine) : Out :=
  if check then .checkFlag region block key.1 key.2 ((l.p ++ l.q ++ l.t).all fun x => decide (x = 0))
  else .parity region block key.1 key.2 l.p l.q l.t

/-- The stream and offset whose lines a flit adds to (R34). -/
abbrev tagKey (t : FlitTag) : Nat × Nat := (t.stream.toNat, t.foff.toNat)

/-- The lines of its offset with an operand added, those of an offset not yet begun being zero (R33). -/
def linesWith (t : FlitTag) (d : Bytes) (b : PBlock) : AccLine := accumulate t d (tblGet b.lines (tagKey t) zeroLine)

section
variable {region block : Nat} {tag : FlitTag} {d : Bytes} {via : Option (Nat × Bool)} {b : PBlock} {u : StreamSetup}

/-- An operand before the last of its offset only adds to the lines of its offset (R33, R35). -/
theorem takeOperand_adds (hsetup : tblFind b.setups tag.stream.toNat = some u) (hopen : tagKey tag ∉ b.finished)
    (hline : tblHas b.lines (tagKey tag) = true ∨ lineFree b tag.stream.toNat = true) (hmore : (linesWith tag d b).count < u.count) :
    takeOperand region block { tag := tag, data := d, via := via } b =
      { block := { b with lines := tblPut b.lines (tagKey tag) (linesWith tag d b) }, out := none, bad := false } := by
  have hfinds : ¬(tblHas b.lines (tagKey tag) = false ∧ lineFree b tag.stream.toNat = false) := by rcases hline with h | h <;> simp [h]
  unfold linesWith at *
  simp [takeOperand, hsetup, hopen, hfinds, hmore]

/-- The last operand of an offset with the right marks finishes the offset and sends its lines out (R35). -/
theorem takeOperand_emits (hsetup : tblFind b.setups tag.stream.toNat = some u) (hopen : tagKey tag ∉ b.finished)
    (hline : tblHas b.lines (tagKey tag) = true ∨ lineFree b tag.stream.toNat = true) (hlast : u.count ≤ (linesWith tag d b).count)
    (hmarks : marksOk u.count (linesWith tag d b) = true) :
    takeOperand region block { tag := tag, data := d, via := via } b =
      { block := { b with lines := tblDel b.lines (tagKey tag), finished := tagKey tag :: b.finished }
        out := some (linesOut region block u.check (tagKey tag) (linesWith tag d b)), bad := false } := by
  have hfinds : ¬(tblHas b.lines (tagKey tag) = false ∧ lineFree b tag.stream.toNat = false) := by rcases hline with h | h <;> simp [h]
  have hcount : ¬(linesWith tag d b).count < u.count := Nat.not_lt.mpr hlast
  unfold linesWith at *
  cases hcheck : u.check <;> simp [takeOperand, hsetup, hopen, hfinds, hcount, hmarks, hcheck, linesOut]

end

/-- An operand that its block takes writes the block and emits what the block sends out. -/
theorem feedOperand_taken (region block : Nat) (o : Operand) (s : State) (b : PBlock) (out : Option Out)
    (h : takeOperand region block o (s.pblock region block) = { block := b, out := out, bad := false }) :
    feedOperand region block o s = out.elim (s.setPblock region block b) fun x => emit x (s.setPblock region block b) := by
  cases out <;> simp [feedOperand, h]

/-! ## A flit at its block (R33 to R36) -/

section
variable {f : Transit} {s : State}

/-- A PASS flit goes on unchanged. -/
theorem arrive_pass (hactive : (s.pblock f.region f.block).active = true) (hlive : f.region ∉ s.cache.fenced)
    (hgood : tagRejected (s.pblock f.region f.block) f.tag = false) (hpass : f.tag.op.toNat = 0) :
    arrive f s = emit (.flit f.region f.block (packTag f.tag) f.data) s := by
  simp [arrive, hactive, hlive, hgood, hpass]

/-- A flit that the tag decoder rejects rejects its stream (R36). -/
theorem arrive_rejected (hactive : (s.pblock f.region f.block).active = true) (hlive : f.region ∉ s.cache.fenced)
    (hbad : tagRejected (s.pblock f.region f.block) f.tag = true) :
    arrive f s = rejectStream f.region f.block f.tag.stream.toNat s := by
  simp [arrive, hactive, hlive, hbad]

/-- An operand that the tag decoder and the coefficient stage pass is fed to the block. With no operand waiting after it, that is all. -/
theorem arrive_operand (hactive : (s.pblock f.region f.block).active = true) (hlive : f.region ∉ s.cache.fenced)
    (hgood : tagRejected (s.pblock f.region f.block) f.tag = false) (hop : f.tag.op.toNat ≠ 0) (hcheck : f.check = .good)
    (hwait : ((feedOperand f.region f.block { tag := f.tag, data := f.data, via := f.held } s).pblock f.region f.block).waiting = []) :
    arrive f s = feedOperand f.region f.block { tag := f.tag, data := f.data, via := f.held } s := by
  simp [arrive, hactive, hlive, hgood, hop, hcheck, checkCell, hwait, feedWaiting]

/-- The first rejection on a block drops the stream there and has it reissued (R36). -/
theorem rejectStream_first (region block stream : Nat) (s : State) (h : (s.pblock region block).rejected = []) (hway : s.fabric.transit = []) :
    rejectStream region block stream s = emit (.reissue region block stream)
      (s.setPblock region block { dropStream stream (s.pblock region block) with rejected := [stream] }) := by
  have hnone : ∀ mine : Transit → Bool, { s with fabric := { s.fabric with transit := s.fabric.transit.filter mine } } = s := by
    intro mine; rw [hway, List.filter_nil, ← hway]
  simp [rejectStream, h, hnone]

/-- A dropped stream has no set-up and no lines in the block. -/
theorem dropStream_holds_nothing (stream : Nat) (b : PBlock) :
    tblFind (dropStream stream b).setups stream = none ∧ ∀ k, k.1 = stream → tblFind (dropStream stream b).lines k = none :=
  ⟨tblFind_tblDel_self _ _, fun k hk => tblFind_filter_none _ _ k fun _ => by simp [hk]⟩

end

/-! ## The command (R22, R24, R32) -/

/-- A flit for an active, live parity block that is not gated, whose links give credits, with no other flit held back and no injection armed. -/
structure ParityReady (src region block stream : Nat) (s : State) : Prop where
  hub : s.hubPowered = true
  src_le : src ≤ 4
  src_live : src ∉ s.cache.fenced
  no_transit : s.fabric.transit = []
  unarmed : s.guard.finj.armed = none
  credits : ∀ l ∈ routeOf s src region stream, (s.link l.1).fenced = false ∧ hasCredit s l = true
  region_lt : region < 4
  block_lt : block < 9
  region_live : region ∉ s.cache.fenced
  active : (s.pblock region block).active = true
  ungated : (s.pblock region block).gated = false

section
variable {src region block : Nat} {tag : FlitTag} {data : Bytes} {s : State}

/-- The block of a ready flit is written back as it stands, and the flit is checked and sent (R22, R32). -/
theorem execParityOperand_of_ready (h : ParityReady src region block tag.stream.toNat s) :
    exec (.parityOperand { src := src, region := region } block tag data .good none) s =
      if tag.fres ≠ flitResidue (fitBytes 64 data) then
        .next (noteResidue (sourceOf (region + 1) 0x12) tag.stream.toNat (s.setPblock region block (s.pblock region block)))
      else
        .next (noteAll s (sendHeld (sendFlit
          { src := src, region := region, block := block, tag := tag, data := fitBytes 64 data, check := .good
            path := routeOf s src region tag.stream.toNat, held := none }
          { s.setPblock region block (s.pblock region block) with
            freeCtr := s.freeCtr + (routeOf s src region tag.stream.toNat).length }))) := by
  have hblock : { s.pblock region block with gated := false } = s.pblock region block := by rw [← h.ungated]
  have hcross := foldl_crossFault_of_unarmed tag.stream.toNat (routeOf s src region tag.stream.toNat)
    (s.setPblock region block (s.pblock region block)) h.unarmed
  have hroute : routeOf (s.setPblock region block (s.pblock region block)) = routeOf s := rfl
  have hway : ∀ n, routeOf { s.setPblock region block (s.pblock region block) with freeCtr := n } = routeOf s := fun _ => rfl
  dsimp only at hblock hcross hway
  simp only [exec, execParityOperand, hblock, hroute, hcross, hway, State.setPblock_freeCtr]
  simp [h.hub, h.src_le, h.src_live, h.region_lt, h.block_lt, h.region_live, h.active]

/-- A flit with a good FRES arrives at once at its block, which nothing on the way has changed. -/
theorem parityOperand_arrives (h : ParityReady src region block tag.stream.toNat s) (hfres : tag.fres = flitResidue (fitBytes 64 data)) :
    ∃ via t, exec (.parityOperand { src := src, region := region } block tag data .good none) s =
        .next (noteAll s (sendHeld (arrive
          { src := src, region := region, block := block, tag := tag, data := fitBytes 64 data, check := .good, path := [], held := via } t))) ∧
      t.pblock region block = s.pblock region block ∧ t.out = s.out ∧ t.fabric.transit = [] ∧ t.cache = s.cache := by
  rw [execParityOperand_of_ready h, if_neg fun hne => hne hfres, sendFlit_arrives]
  · exact ⟨_, _, rfl, State.setPblock_pblock_self .., rfl, h.no_transit, rfl⟩
  · intro l hl
    obtain ⟨hfence, hcredit⟩ := h.credits l hl
    exact ⟨hfence, (hasCredit_setPblock_same s region block l).trans hcredit⟩

/-- A flit whose FRES is not the residue of its data is only counted (15 R432). -/
theorem parityOperand_discarded (h : ParityReady src region block tag.stream.toNat s) (hfres : tag.fres ≠ flitResidue (fitBytes 64 data)) :
    ∃ r, exec (.parityOperand { src := src, region := region } block tag data .good none) s = .next r ∧
      r.guard.residue = s.guard.residue + 1 ∧ r.pblock region block = s.pblock region block :=
  ⟨_, by rw [execParityOperand_of_ready h, if_pos hfres], by simp, by simp⟩

/-- A PASS flit is emitted unchanged (R36). -/
theorem parityOperand_passes (h : ParityReady src region block tag.stream.toNat s) (hfres : tag.fres = flitResidue (fitBytes 64 data))
    (hpass : tag.op.toNat = 0) (hgood : tagRejected (s.pblock region block) tag = false) :
    ∃ r, exec (.parityOperand { src := src, region := region } block tag data .good none) s = .next (noteAll s r) ∧
      r.out = Out.flit region block (packTag tag) (fitBytes 64 data) :: s.out ∧ r.pblock region block = s.pblock region block := by
  obtain ⟨via, t, hexec, hblock, hout, htransit, hcache⟩ := parityOperand_arrives h hfres
  rw [arrive_pass (by rw [hblock]; exact h.active) (by rw [hcache]; exact h.region_live) (by rw [hblock]; exact hgood) hpass,
    sendHeld_eq_self _ (by simpa using htransit)] at hexec
  exact ⟨_, hexec, by simp [hout], by simp [hblock]⟩

/-- A rejected flit drops its stream from the block and has it reissued, the first time (R36). -/
theorem parityOperand_rejected (h : ParityReady src region block tag.stream.toNat s) (hfres : tag.fres = flitResidue (fitBytes 64 data))
    (hbad : tagRejected (s.pblock region block) tag = true) (hfirst : (s.pblock region block).rejected = []) :
    ∃ r, exec (.parityOperand { src := src, region := region } block tag data .good none) s = .next (noteAll s r) ∧
      r.out = Out.reissue region block tag.stream.toNat :: s.out ∧
      r.pblock region block = { dropStream tag.stream.toNat (s.pblock region block) with rejected := [tag.stream.toNat] } := by
  obtain ⟨via, t, hexec, hblock, hout, htransit, hcache⟩ := parityOperand_arrives h hfres
  rw [arrive_rejected (by rw [hblock]; exact h.active) (by rw [hcache]; exact h.region_live) (by rw [hblock]; exact hbad),
    rejectStream_first _ _ _ _ (by rw [hblock]; exact hfirst) htransit,
    sendHeld_eq_self _ (by simpa [State.setPblock] using htransit)] at hexec
  exact ⟨_, hexec, by simp [hout], by simp [hblock]⟩

/-- An operand that its block takes, with no other waiting, writes the block and emits what the block sends out (R34, R35). -/
theorem parityOperand_taken (h : ParityReady src region block tag.stream.toNat s) (hfres : tag.fres = flitResidue (fitBytes 64 data))
    (hgood : tagRejected (s.pblock region block) tag = false) (hop : tag.op.toNat ≠ 0) {b' : PBlock} {out : Option Out}
    (htake : ∀ via, takeOperand region block { tag := tag, data := fitBytes 64 data, via := via } (s.pblock region block) =
      { block := b', out := out, bad := false }) (hwait : b'.waiting = []) :
    ∃ r, exec (.parityOperand { src := src, region := region } block tag data .good none) s = .next (noteAll s r) ∧
      r.out = out.toList ++ s.out ∧ r.pblock region block = b' := by
  obtain ⟨via, t, hexec, hblock, hout, htransit, hcache⟩ := parityOperand_arrives h hfres
  have hfeed := feedOperand_taken region block { tag := tag, data := fitBytes 64 data, via := via } t b' out (by rw [hblock]; exact htake via)
  rw [arrive_operand (by rw [hblock]; exact h.active) (by rw [hcache]; exact h.region_live) (by rw [hblock]; exact hgood) hop rfl
    (by rw [hfeed]; cases out <;> simpa using hwait), hfeed] at hexec
  cases out with
  | none => exact ⟨_, by rwa [sendHeld_eq_self _ (by simpa [State.setPblock] using htransit)] at hexec, by simp [hout], by simp⟩
  | some x => exact ⟨_, by rwa [sendHeld_eq_self _ (by simpa [State.setPblock] using htransit)] at hexec, by simp [hout], by simp⟩

end

/-- Settles O21: a ready flit reaches its block as the block stands, which passes, rejects, adds or emits it. That the tag decoder rejects an MSYN
other than the stream's and a stream without a set-up is the model's choice (log 115). -/
theorem parityLinesAreTheSums : Obligations.ParityLinesAreTheSums := by
  unfold Obligations.ParityLinesAreTheSums
  intro src region block tag data s b hhub hsrc hsrcLive htransit harmed hcredits hregion hblock hregionLive hb hactive hgated key old d p q t
  subst hb
  have hready : ParityReady src region block tag.stream.toNat s :=
    ⟨hhub, hsrc, hsrcLive, htransit, harmed, hcredits, hregion, hblock, hregionLive, hactive, hgated⟩
  refine ⟨parityOperand_discarded hready, parityOperand_passes hready, ?_, ?_⟩
  · intro u hfres hgood hop hsetup hopen hwait hline
    constructor
    · intro hmore
      obtain ⟨r, hexec, hout, hr⟩ := parityOperand_taken hready hfres hgood hop (fun _ => takeOperand_adds hsetup hopen hline hmore) hwait
      refine ⟨r, linesWith tag d (s.pblock region block), hexec, hout, ?_, rfl, rfl, rfl, rfl, fun k hk => ?_⟩ <;> rw [hr]
      · exact tblGet_tblPut_self ..
      · exact tblGet_tblPut_other _ _ _ _ _ hk
    · intro hlast hmarks
      obtain ⟨r, hexec, hout, hr⟩ := parityOperand_taken hready hfres hgood hop (fun _ => takeOperand_emits hsetup hopen hline hlast hmarks) hwait
      exact ⟨r, hexec, hout, by rw [hr]; exact List.mem_cons_self ..⟩
  · intro hfres hbad hfirst
    obtain ⟨r, hexec, hout, hr⟩ := parityOperand_rejected hready hfres hbad hfirst
    obtain ⟨hsetups, hlines⟩ := dropStream_holds_nothing tag.stream.toNat (s.pblock region block)
    refine ⟨r, hexec, hout, ?_, ?_, ?_⟩ <;> rw [hr]
    · exact hsetups
    · exact hactive
    · exact hlines

end Sys2Proof.Machine
end

section
/-!
PROOFS. The statement on the faults of the fabric: the level that absorbs each (01 R21 to R31; 15 R424, R425, R432).
-/

namespace Sys2Proof.Machine

/-! ## Region fences (06 R185) -/

/-- The cache with every page mirrored again that can be, and a region off the list (06 R185). -/
def remirrored (region : Nat) (c : Cache) : Cache :=
  let c' := accessPages ((needPartner c).map fun e => (e.keyNs, e.vpage)) (remirrorAll c)
  { c' with remirroring := c'.remirroring.filter fun r => !decide (r = region) }

theorem not_mem_remirroring_remirrored (region : Nat) (c : Cache) : region ∉ (remirrored region c).remirroring := by
  simp [remirrored]

/-- The end of a region's re-mirroring mirrors the pages and records event 0x2004 with their number (06 R185). -/
theorem execRemirrorComplete_of_remirroring (region : Nat) (s : State) (hhub : s.hubPowered = true) (hmirror : region ∈ s.cache.remirroring) :
    exec (.remirrorComplete region) s = .next (maybeReleaseImage (recordEvent 0x2004
      [region, 1, (needPartner s.cache).length - (needPartner (remirrored region s.cache)).length, 0]
      { s with cache := remirrored region s.cache })) := by
  simp [exec, execRemirrorComplete, hhub, hmirror, remirrored]

/-! ## Links (01 R21, R22, R24) -/

@[simp] theorem noteResidue_link (unit stream i : Nat) (s : State) : (noteResidue unit stream s).link i = s.link i := by
  simp [State.link]

@[simp] theorem takeover_link (source level bound code i : Nat) (s : State) : (takeover source level bound code s).link i = s.link i := by
  simp [State.link]

@[simp] theorem reroute_link (i : Nat) (s : State) : (reroute s).link i = s.link i := (rfl)

/-- The ring is joined by its links alone. -/
theorem ringJoined_congr {s t : State} (fenced : List Nat) (h : ∀ i, t.link i = s.link i) : ringJoined t fenced = ringJoined s fenced := by
  simp [ringJoined, reachMore, h]

/-- A ring link whose loss leaves the ring joined is fenced, and a level 2 takeover sends its traffic the other way (R24). -/
theorem stallLink_ring (link : Nat) (s : State) (hring : 4 ≤ link) (hlive : (s.link link).fenced = false)
    (hjoined : ringJoined (fenceLinks [link] s) s.cache.fenced = true) :
    stallLink link s = takeover (linkUnit link) 2 10 0 (reroute (fenceLinks [link] s)) := by
  have hstill : ringJoined (takeover (linkUnit link) 2 10 0 (reroute (fenceLinks [link] s))) s.cache.fenced = true :=
    (ringJoined_congr _ (by simp)).trans hjoined
  simp [stallLink, fenceRing, hlive, Nat.not_lt.mpr hring, hstill]

/-- A stall outside a firmware switch is handled at once (log 145); with no flit held back there is none to send on. -/
theorem execGlildoLinkStall_ring (link : Nat) (s : State) (hhub : s.hubPowered = true) (hring : 4 ≤ link) (hlink : link < 8)
    (hlive : (s.link link).fenced = false) (hway : s.fabric.transit = []) (hswitch : switching s = false)
    (hjoined : ringJoined (fenceLinks [link] s) s.cache.fenced = true) :
    exec (.glildoLinkStall link) s = .next (noteAll s (takeover (linkUnit link) 2 10 0 (reroute (fenceLinks [link] s)))) := by
  have hnone : (takeover (linkUnit link) 2 10 0 (reroute (fenceLinks [link] s))).fabric.transit = [] := by
    simp [reroute, fenceLinks, State.setLink, hway]
  simp [exec, execGlildoLinkStall, handleGlildoLinkStall, hswitch, hhub, hlink, stallLink_ring link s hring hlive hjoined, sendHeld_eq_self _ hnone]

/-- A flit error is counted and its flit replayed (15 R432): what `glildoFlitError` does on a sublink in service with no injection armed. -/
theorem execGlildoFlitError_of_unarmed (link sub : Nat) (s : State) (hhub : s.hubPowered = true) (hlink : link < 8) (hsub : sub < 16)
    (hlive : (s.link link).fenced = false) (hgood : sub ∉ (s.link link).bad) (hunarmed : s.guard.finj.armed = none) :
    exec (.glildoFlitError link sub) s = .next (noteAll s (sendHeld (failFlit link sub false (noteResidue (linkUnit link) 0 s)))) := by
  have hno : sub ≠ 16 := by omega
  have hsub' : sub < 17 := by omega
  simp [exec, execGlildoFlitError, hhub, hlink, hsub', hlive, hgood, hno, hunarmed, injectFlit_of_unarmed]

/-- The first failure of a sublink is noted on its link (15 R432). -/
theorem failFlit_first (link sub : Nat) (injected : Bool) (s : State) (h : (s.link link).replays = []) :
    failFlit link sub injected s = s.setLink link { s.link link with replays := [(sub, s.now)] } := by
  simp [failFlit, h]

/-- The third failure of a sublink within 1 ms takes it out of service (15 R432). -/
theorem failFlit_third (link sub a b : Nat) (injected : Bool) (s : State) (h : (s.link link).replays = [(sub, a), (sub, b)])
    (ha : s.now ≤ a + 1000000) (hb : s.now ≤ b + 1000000) :
    failFlit link sub injected s = spareSublink link sub injected
      (s.setLink link { s.link link with replays := [(sub, s.now), (sub, a), (sub, b)] }) := by
  simp [failFlit, h, ha, hb]

/-- The first sublink out of service is replaced by the spare, with a level 0 takeover (01 R21). -/
theorem spareSublink_first (link sub : Nat) (injected : Bool) (s : State) (h : (s.link link).bad = []) :
    spareSublink link sub injected s = takeover (linkUnit link) 0 5 0x8020 (s.setLink link { s.link link with
      bad := [sub], spareUsed := true, replays := (s.link link).replays.filter fun r => !decide (r.1 = sub)
      injected := if injected then sub :: (s.link link).injected else (s.link link).injected }) := by
  simp [spareSublink, h]

/-! ## Hub halves and engines (03 R72; 15 R424) -/

/-- A hub half that fails while the other is whole hands everything over, with a level 3 takeover (03 R72). -/
theorem failHalf_mode (half : Nat) (s : State) (hup : s.mode.halfDown.getD half false = false) (hother : halfWhole s (1 - half) = true) :
    (failHalf half s).mode.halfDown = s.mode.halfDown.set half true ∧ (failHalf half s).mode.activeHalf = 1 - half ∧
      (failHalf half s).mode.mode = s.mode.mode ∧ (failHalf half s).mode.lastLevel = 3 := by
  have hdown : s.mode.halfDown.getD (1 - half) false = false := by
    simp only [halfWhole, Bool.and_eq_true, Bool.not_eq_true'] at hother
    obtain ⟨⟨⟨hup, _⟩, _⟩, _⟩ := hother
    exact hup
  simp only [failHalf, hup, hdown, hother]
  simp

/-- The first mismatch of a hub pair restarts it, with a level 1 takeover (15 R432). -/
theorem execLockstepMismatch_first (half : Nat) (s : State) (hhub : s.hubPowered = true) (hhalf : half < 2)
    (hfirst : tblFind s.guard.lockstepAt (0, half) = none) :
    exec (.lockstepMismatch 0 half) s = .next (takeover (sourceOf 0 (1 + half)) 1 150 0
      { s with guard := { s.guard with lockstepAt := tblPut s.guard.lockstepAt (0, half) s.now } }) := by
  simp [exec, execLockstepMismatch, hhub, hhalf, hfirst]

/-- The first mod-15 mismatch of a unit is counted and noted (15 R425). -/
theorem execMod15Mismatch_first (src : BitVec 8) (s : State) (hhub : s.hubPowered = true) (hfirst : tblFind s.guard.mod15At src.toNat = none) :
    exec (.mod15Mismatch src) s = .next (aerAbsorbed (noteOnce src.toNat 0x8021 [src.toNat, 0, 0, 0]
      { s with guard := { s.guard with mod15 := s.guard.mod15 + 1, mod15At := tblPut s.guard.mod15At src.toNat s.now } })) := by
  simp [exec, execMod15Mismatch, hhub, hfirst]

/-- The first residue mismatch of a crypto engine set in use is only noted (15 R424). -/
theorem execCryptoResidueMismatch_first (half : Nat) (s : State) (hhub : s.hubPowered = true) (hhalf : half < 2)
    (hup : s.mode.cryptoDown.getD half false = false) :
    exec (.cryptoResidueMismatch half false) s = .next (noteResidue (sourceOf 0 0) 0 s) := by
  simp [exec, execCryptoResidueMismatch, hhub, hhalf, hup, -List.getD_eq_getElem?_getD]

/-- A second one takes the set out of use, and the set of the other half takes over at level 1 while it can (15 R424). -/
theorem execCryptoResidueMismatch_second (half : Nat) (s : State) (hhub : s.hubPowered = true) (hhalf : half < 2)
    (hup : s.mode.cryptoDown.getD half false = false) (hother : s.mode.cryptoDown.getD (1 - half) false = false)
    (hotherHalf : s.mode.halfDown.getD (1 - half) false = false) :
    exec (.cryptoResidueMismatch half true) s = .next (takeover (sourceOf 0 0) 1 50 0x8023 (quarantineUnit (sourceOf 0 0) 4
      { noteResidue (sourceOf 0 0) 0 (noteResidue (sourceOf 0 0) 0 s) with
        mode := { s.mode with cryptoDown := s.mode.cryptoDown.set half true } })) := by
  simp [exec, execCryptoResidueMismatch, hhub, hhalf, hup, hother, hotherHalf, -List.getD_eq_getElem?_getD]

/-- Settles O20: each fault is taken by the operation of its level. The levels of the takeovers (log 45) and the deferral during a firmware switch
(log 145) are the model's choice. -/
theorem fabricFaultsTakeTheirLevel : Obligations.FabricFaultsTakeTheirLevel := by
  unfold Obligations.FabricFaultsTakeTheirLevel
  intro s hhub
  refine ⟨?_, ?_, ?_, ?_, ?_, ?_, ?_, ?_, ?_⟩
  · intro region reason hregion _ hswitch
    simp [exec, execRegionFault, handleRegionFault, hswitch, hhub, hregion]
  · intro region reason link hswitch
    simp [exec, execRegionFault, execGlildoLinkStall, hswitch]
  · intro region hmirror
    exact ⟨_, execRemirrorComplete_of_remirroring region s hhub hmirror, by simpa using not_mem_remirroring_remirrored region s.cache, by simp⟩
  · intro link hring hlink hlive hway hswitch hjoined
    exact ⟨_, execGlildoLinkStall_ring link s hhub hring hlink hlive hway hswitch hjoined, by simp [fenceLinks]⟩
  · intro link sub hlink hsub hlive hgood hunarmed hway
    rw [execGlildoFlitError_of_unarmed link sub s hhub hlink hsub hlive hgood hunarmed]
    constructor
    · intro hnone
      rw [failFlit_first _ _ _ _ (by simpa using hnone), sendHeld_eq_self _ (by simpa [State.setLink] using hway)]
      exact ⟨_, rfl, by simp⟩
    · intro a b hreplays ha hb hbad
      rw [failFlit_third _ _ a b _ _ (by simpa using hreplays) (by simpa using ha) (by simpa using hb),
        spareSublink_first _ _ _ _ (by simpa using hbad), sendHeld_eq_self _ (by simpa [State.setLink] using hway)]
      exact ⟨_, rfl, by simp⟩
  · intro half hhalf _ hup hother
    exact ⟨_, by simp [exec, execHubHalfFault, hhub, hhalf], failHalf_mode half s hup hother⟩
  · intro half hhalf hfirst
    exact ⟨_, execLockstepMismatch_first half s hhub hhalf hfirst, by simp⟩
  · intro src hfirst _
    exact ⟨_, execMod15Mismatch_first src s hhub hfirst, by simp⟩
  · intro half hhalf _ hup hother hotherHalf
    exact ⟨⟨_, execCryptoResidueMismatch_first half s hhub hhalf hup, by simp⟩,
      ⟨_, execCryptoResidueMismatch_second half s hhub hhalf hup hother hotherHalf, by simp⟩⟩

end Sys2Proof.Machine
end

section
/-!
PROOFS. The laws of the host link that the statements of 03 need: which operations take a port out of L1 and leave it as it is otherwise, what an
interrupt writes of a function, and what retiring inbound requests leaves of a controller.
-/

namespace Sys2Proof.Machine

/- One proof at a time: the memory limit of the check counts the stack of every thread that waits for another proof. -/
set_option Elab.async false

/-! ## Folds over the state -/

/-- What every step of a fold keeps, the fold keeps. -/
theorem foldl_keeps {α β : Type} (g : State → β) (F : State → α → State) (h : ∀ t x, g (F t x) = g t) (l : List α) (s : State) :
    g (l.foldl F s) = g s := by
  induction l generalizing s with
  | nil => rfl
  | cons x l ih => exact (ih (F s x)).trans (h s x)

/-! ## Ports (03 R93) -/

section
variable {s : State} {i : Nat}

@[simp] theorem setFn_port (s : State) (j : Nat) (f : Func) (i : Nat) : (s.setFn j f).port i = s.port i := (rfl)
@[simp] theorem setCtl_port (s : State) (j : Nat) (c : Ctl) (i : Nat) : (s.setCtl j c).port i = s.port i := (rfl)
@[simp] theorem setCtl_fn (s : State) (j : Nat) (c : Ctl) (i : Nat) : (s.setCtl j c).fn i = s.fn i := (rfl)
@[simp] theorem recordEvent_port (code : Nat) (params : List Nat) (s : State) (i : Nat) : (recordEvent code params s).port i = s.port i := by
  simp [State.port]
@[simp] theorem writeLate_port (ctl off : Nat) (bs : Bytes) (s : State) (i : Nat) : (writeLate ctl off bs s).port i = s.port i := by
  simp [State.port]
@[simp] theorem settlePba_port (ctl : Nat) (s : State) (i : Nat) : (settlePba ctl s).port i = s.port i := by simp [State.port]
@[simp] theorem wakeHost_port (s : State) (i : Nat) : (wakeHost s).port i = s.port i := by simp [State.port]

/-- A TLP of a controller takes its port out of L1, and changes nothing else of any port. -/
theorem leaveL1_port (ctl : Nat) (s : State) (i : Nat) :
    (leaveL1 ctl s).port i = if i = ctlPort s ctl then { s.port i with l1 := none } else s.port i := by
  unfold leaveL1
  by_cases hi : i = ctlPort s ctl
  · cases h : s.port (ctlPort s ctl) with
    | mk _ _ _ _ _ _ _ _ _ l1 => cases l1 <;> simp [hi, h]
  · rw [if_neg hi]
    dsimp only
    split <;> simp [hi]

/-! The operations below touch a port by `leaveL1` only: a port that is not in L1 stays as it is. -/

/-- A port that is not in L1 stays as it is when a TLP is received. -/
theorem leaveL1_port_of_awake (ctl : Nat) (h : (s.port i).l1 = none) : (leaveL1 ctl s).port i = s.port i := by
  rw [leaveL1_port, ← h, ite_self]

/-- A port that is not in L1 stays as it is when a TLP is sent. -/
theorem sendTlp_port_of_awake (fn : Nat) (o : Out) (h : (s.port i).l1 = none) : (sendTlp fn o s).port i = s.port i :=
  leaveL1_port_of_awake (fn + 1) h

theorem signalVec_port_of_awake (ctl vec : Nat) (h : (s.port i).l1 = none) : (signalVec ctl vec s).port i = s.port i := by
  simp only [signalVec, sendMsix]
  (repeat' split) <;> simp [sendTlp_port_of_awake, h]

theorem interruptFor_port_of_awake (ctl : Nat) (q : Cq) (h : (s.port i).l1 = none) : (interruptFor ctl q s).port i = s.port i := by
  simp only [interruptFor]
  (repeat' split) <;> simp [signalVec_port_of_awake, h]

theorem writeCqe_port_of_awake (ctl cqid sqid sqhd cid status dw0 : Nat) (h : (s.port i).l1 = none) :
    (writeCqe ctl cqid sqid sqhd cid status dw0 s).port i = s.port i := by
  simp only [writeCqe]
  (repeat' split) <;> simp [interruptFor_port_of_awake, sendTlp_port_of_awake, h]

theorem deliverAens_port_of_awake (ctl n : Nat) (h : (s.port i).l1 = none) : (deliverAens ctl n s).port i = s.port i := by
  induction n generalizing s with
  | zero => rfl
  | succ n ih =>
    simp only [deliverAens]
    (repeat' split) <;> simp [ih, writeCqe_port_of_awake, h]

theorem raiseAen_port_of_awake (ctl kind info lid : Nat) (h : (s.port i).l1 = none) : (raiseAen ctl kind info lid s).port i = s.port i := by
  simp only [raiseAen, raiseAenAs]
  split <;> simp [deliverAens_port_of_awake, h]

theorem settleInta_port_of_awake (ctl : Nat) (h : (s.port i).l1 = none) : (settleInta ctl s).port i = s.port i := by
  simp only [settleInta]
  split <;> simp [sendTlp_port_of_awake, h]

theorem badDoorbell_port_of_awake (ctl offset value info : Nat) (h : (s.port i).l1 = none) :
    (badDoorbell ctl offset value info s).port i = s.port i := by
  simp [badDoorbell, raiseAen_port_of_awake, h]

theorem haltQueue_port_of_awake (ctl sqid reason info : Nat) (cid : Option Nat) (h : (s.port i).l1 = none) :
    (haltQueue ctl sqid reason info cid s).port i = s.port i := by
  simp only [haltQueue, haltAs]
  (repeat' split) <;> simp [raiseAen_port_of_awake, h]

theorem haltPosters_port_of_awake (ctl cqid value : Nat) (h : (s.port i).l1 = none) : (haltPosters ctl cqid value s).port i = s.port i := by
  simp only [haltPosters]
  generalize (s.ctl ctl).sqs.filter _ = qs
  induction qs generalizing s with
  | nil => rfl
  | cons q qs ih => simp [ih, haltQueue_port_of_awake, h]

end

/-! ## Doorbells (03 R93; 05 R163) -/

/-- After a doorbell write the port is in neither L1 nor L0p. -/
theorem doorbellArrives_port (ctl : Nat) (s : State) :
    ((doorbellArrives ctl s).port (ctlPort s ctl)).l1 = none ∧ ((doorbellArrives ctl s).port (ctlPort s ctl)).l0p = false := by
  have hport : ctlPort (hostArrives ctl s) ctl = ctlPort s ctl := by simp [ctlPort]
  have hl1 : ((hostArrives ctl s).port (ctlPort s ctl)).l1 = none := by
    have : ctlPort (wakeHost s) ctl = ctlPort s ctl := by simp [ctlPort]
    simp [hostArrives, leaveL1_port, this]
  simp only [doorbellArrives, hport]
  split
  · simp [hl1]
  · simp_all

/-- A doorbell write ends PS3 and PS4 (05 R163). -/
theorem doorbellArrives_ps (ctl : Nat) (s : State) :
    (doorbellArrives ctl s).mode.ps = if 3 ≤ s.mode.ps then s.mode.lastOpPs else s.mode.ps := by
  simp only [doorbellArrives, hostArrives, wakeHost]
  by_cases h : 3 ≤ s.mode.ps <;> simp [h]

/-- What a doorbell write leaves of the power states: its port as the write has woken it, and the mode. -/
theorem tailDoorbell_awake (ctl sqid value : Nat) (s : State) (hlive : barLive s ctl = true) :
    (tailDoorbell ctl sqid value s).port (ctlPort s ctl) = (doorbellArrives ctl s).port (ctlPort s ctl) ∧
      (tailDoorbell ctl sqid value s).mode = (doorbellArrives ctl s).mode := by
  obtain ⟨hl1, -⟩ := doorbellArrives_port ctl s
  simp only [tailDoorbell, hlive, Bool.not_true, Bool.false_eq_true, if_false]
  constructor
  · (repeat' split) <;> simp [badDoorbell_port_of_awake, haltQueue_port_of_awake, hl1]
  · (repeat' split) <;> simp

theorem headDoorbell_awake (ctl cqid value : Nat) (s : State) (hlive : barLive s ctl = true) :
    (headDoorbell ctl cqid value s).port (ctlPort s ctl) = (doorbellArrives ctl s).port (ctlPort s ctl) ∧
      (headDoorbell ctl cqid value s).mode = (doorbellArrives ctl s).mode := by
  obtain ⟨hl1, -⟩ := doorbellArrives_port ctl s
  simp only [headDoorbell, hlive, Bool.not_true, Bool.false_eq_true, if_false]
  constructor
  · (repeat' split) <;> simp [badDoorbell_port_of_awake, haltPosters_port_of_awake, settleInta_port_of_awake, deliverAens_port_of_awake, hl1]
  · (repeat' split) <;> simp

/-- A second TLP finds the link out of L1. -/
theorem leaveL1_of_awake (ctl : Nat) (s : State) (h : (s.port (ctlPort s ctl)).l1 = none) : leaveL1 ctl s = s := by
  simp [leaveL1, h]

/-- Waking from PS3 and PS4 leaves the ports. -/
theorem wakeHost_setPort (s : State) (i : Nat) (p : HostPort) : wakeHost (s.setPort i p) = (wakeHost s).setPort i p := by
  simp only [wakeHost, State.setPort_mode]
  split <;> rfl

/-- Host activity after a TLP of the same controller is host activity. -/
theorem hostArrives_leaveL1 (ctl : Nat) (s : State) : hostArrives ctl (leaveL1 ctl s) = hostArrives ctl s := by
  have hpower (t : State) (h : t.power = s.power) : ctlPort t ctl = ctlPort s ctl := by simp [ctlPort, h]
  have hswap : wakeHost (leaveL1 ctl s) = leaveL1 ctl (wakeHost s) := by
    simp only [leaveL1, wakeHost_port, hpower (wakeHost s) (wakeHost_frame s).1]
    split
    · rfl
    · exact wakeHost_setPort ..
  rw [hostArrives, hswap, leaveL1_of_awake, hostArrives]
  simp [leaveL1_port, hpower]

/-- A TLP leaves what decides whether BAR0 answers. -/
@[simp] theorem barLive_leaveL1 (k ctl : Nat) (s : State) : barLive (leaveL1 k s) ctl = barLive s ctl := by
  have hrrs : ∀ i, ((leaveL1 k s).port i).rrs = (s.port i).rrs := fun i => by rw [leaveL1_port]; split <;> rfl
  simp [barLive, ctlExists, State.ctlIds, ctlPort, State.fn, hrrs]

/-- An inbound BAR2 request takes the link out of L1 itself. -/
theorem inboundBar2_leaveL1 (write : Bool) (t : Bar2Tlp) (s : State) (hlive : barLive s (t.fn + 1) = true) :
    inboundBar2 write t (leaveL1 (t.fn + 1) s) = inboundBar2 write t s := by
  simp [inboundBar2, hlive, hostArrives_leaveL1]

/-! ## Functions (03 R81, R90, R91) -/

@[simp] theorem emit_fn (o : Out) (s : State) (i : Nat) : (emit o s).fn i = s.fn i := (rfl)
@[simp] theorem sendTlp_fn (k : Nat) (o : Out) (s : State) (i : Nat) : (sendTlp k o s).fn i = s.fn i := by simp [State.fn]
@[simp] theorem writeLate_fn (ctl off : Nat) (bs : Bytes) (s : State) (i : Nat) : (writeLate ctl off bs s).fn i = s.fn i := by simp [State.fn]
@[simp] theorem logError_fn (ctl sqid cid status nsid lba : Nat) (s : State) (i : Nat) :
    (logError ctl sqid cid status nsid lba s).fn i = s.fn i := by simp [State.fn]
@[simp] theorem finishDeletion_fn (ctl sqid : Nat) (s : State) (i : Nat) : (finishDeletion ctl sqid s).fn i = s.fn i := by simp [State.fn]
@[simp] theorem updateLtr_fn (ctl : Nat) (s : State) (i : Nat) : (updateLtr ctl s).fn i = s.fn i := by simp [State.fn]

/-- The functions after one is replaced. -/
theorem State.setFn_fn (s : State) (i j : Nat) (f : Func) : (s.setFn i f).fn j = if j = i then f else s.fn j := by
  by_cases h : j = i
  · subst h; simp
  · simp [h]

/-- Bringing INTA to its level changes that level only. -/
theorem settleInta_fn (ctl : Nat) (s : State) (i : Nat) :
    (settleInta ctl s).fn i = if i = ctl - 1 then { s.fn i with inta := intaWanted (s.fn i) (s.ctl ctl) } else s.fn i := by
  simp only [settleInta]
  by_cases hi : i = ctl - 1
  · subst hi
    split
    · rename_i h
      rw [← h]; simp
    · simp
  · split <;> simp [hi]

section
variable (s : State) (i : Nat)

/-- A function written back in the same power state leaves that of every function. -/
theorem setFn_d3hot (j : Nat) (f : Func) (h : f.d3hot = (s.fn j).d3hot) : ((s.setFn j f).fn i).d3hot = (s.fn i).d3hot := by
  rw [State.setFn_fn]
  split
  · rw [h, ‹i = j›]
  · rfl

@[simp] theorem signalVec_d3hot (ctl vec : Nat) : ((signalVec ctl vec s).fn i).d3hot = (s.fn i).d3hot := by
  simp only [signalVec, sendMsix]
  (repeat' split) <;> simp [setFn_d3hot]

@[simp] theorem interruptFor_d3hot (ctl : Nat) (q : Cq) : ((interruptFor ctl q s).fn i).d3hot = (s.fn i).d3hot := by
  simp only [interruptFor]
  (repeat' split) <;> simp

@[simp] theorem writeCqe_d3hot (ctl cqid sqid sqhd cid status dw0 : Nat) :
    ((writeCqe ctl cqid sqid sqhd cid status dw0 s).fn i).d3hot = (s.fn i).d3hot := by
  simp only [writeCqe]
  (repeat' split) <;> simp

@[simp] theorem deliverAens_d3hot (ctl n : Nat) : ((deliverAens ctl n s).fn i).d3hot = (s.fn i).d3hot := by
  induction n generalizing s with
  | zero => rfl
  | succ n ih =>
    simp only [deliverAens]
    (repeat' split) <;> simp [ih]

@[simp] theorem postOldest_d3hot (ctl sqid : Nat) : ((postOldest ctl sqid s).fn i).d3hot = (s.fn i).d3hot := by
  simp only [postOldest]
  (repeat' split) <;> simp

@[simp] theorem postAll_d3hot (ctl sqid n : Nat) : ((postAll ctl sqid n s).fn i).d3hot = (s.fn i).d3hot := by
  induction n generalizing s with
  | zero => rfl
  | succ n ih => simp [postAll, ih]

@[simp] theorem flushPba_d3hot (fn : Nat) : ((flushPba fn s).fn i).d3hot = (s.fn i).d3hot := by
  simp only [flushPba]
  split
  · rw [foldl_keeps (fun t => (t.fn i).d3hot) _ (fun t v => by simp [sendMsix]), setFn_d3hot]
    rfl
  · rfl

end

/-- The return to D0 ends D3hot (03 R81). -/
theorem leaveD3_d3hot (fn : Nat) (s : State) : ((leaveD3 fn s).fn fn).d3hot = false := by
  simp only [leaveD3]
  split
  · simp only [settleInta_fn, Nat.add_sub_cancel, if_true, flushPba_d3hot, deliverAens_d3hot]
    rw [foldl_keeps (fun t => (t.fn fn).d3hot) _ (fun t q => by simp)]
    simp
  · simp_all

/-! ## Controllers under a Function Level Reset (03 R80; 04 R136, R137) -/

/-- Whether a controller is enabled and ready, and its submission queues. -/
def serviceOf (c : Ctl) : Bool × Bool × List Sq := (c.ccEn, c.rdy, c.sqs)

/-- A controller reset leaves a controller disabled with no queue (04 R136). -/
theorem controllerReset_serviceOf (ctl : Nat) (s : State) : serviceOf ((controllerReset ctl s).ctl ctl) = (false, false, []) := by
  simp [controllerReset, serviceOf, State.ctl]

@[simp] theorem noteWait_ctl (at_ : Nat × Nat) (s : State) (i : Nat) : (noteWait at_ s).ctl i = s.ctl i := by simp [State.ctl]

section
variable (s : State) (i : Nat)

@[simp] theorem drainLate_serviceOf (ctl : Nat) : serviceOf ((drainLate ctl s).ctl i) = serviceOf (s.ctl i) := by
  simp only [drainLate]
  split
  · rfl
  · change serviceOf ((s.setCtl ctl _).ctl i) = _
    rw [State.setCtl_ctl]
    split <;> simp_all [serviceOf]

@[simp] theorem rejectBar2_serviceOf (ctl win : Nat) (t : Bar2Tlp) (write : Bool) :
    serviceOf ((rejectBar2 ctl win t write s).ctl i) = serviceOf (s.ctl i) := by
  simp only [rejectBar2]
  split <;> simp only [sendTlp_ctl, aerAdvisory_ctl, recordEvent_ctl, State.setCtl_ctl] <;> split <;> simp_all [serviceOf]

theorem tryBar2_serviceOf {ctl : Nat} {write : Bool} {tlp : Bar2Tlp} {t : State} (h : tryBar2 ctl write tlp s = some t) :
    serviceOf (t.ctl i) = serviceOf (s.ctl i) := by
  have hcache : ∀ c, State.ctl { s with cache := c } i = s.ctl i := fun _ => rfl
  simp only [tryBar2] at h
  (repeat' split at h) <;> simp at h <;> subst h <;> simp [hcache]

@[simp] theorem decodeAgain_serviceOf (ctl : Nat) (t : Bool × Bar2Tlp) : serviceOf ((decodeAgain ctl t s).ctl i) = serviceOf (s.ctl i) := by
  simp only [decodeAgain]
  split
  · exact tryBar2_serviceOf s i ‹_›
  · rfl

/-- A controller written back with other BAR2 requests or windows keeps its service. -/
theorem setCtl_serviceOf (ctl : Nat) (c : Ctl) (h : serviceOf c = serviceOf (s.ctl ctl)) :
    serviceOf ((s.setCtl ctl c).ctl i) = serviceOf (s.ctl i) := by
  rw [State.setCtl_ctl]
  split
  · rw [h, ‹i = ctl›]
  · rfl

@[simp] theorem stallBar2_serviceOf (ctl : Nat) (write : Bool) (t : Bar2Tlp) : serviceOf ((stallBar2 ctl write t s).ctl i) = serviceOf (s.ctl i) := by
  rw [stallBar2, noteWait_ctl]
  exact setCtl_serviceOf s i ctl _ (by rfl)

@[simp] theorem runBar2_serviceOf (ctl : Nat) (write : Bool) (t : Bar2Tlp) : serviceOf ((runBar2 ctl write t s).ctl i) = serviceOf (s.ctl i) := by
  simp only [runBar2]
  (repeat' split)
  · simp [tryBar2_serviceOf _ i ‹_›]
  · simp
  · exact (setCtl_serviceOf _ i ctl _ (by rfl)).trans (drainLate_serviceOf s i ctl)

@[simp] theorem drainStalled_serviceOf (ctl : Nat) : serviceOf ((drainStalled ctl s).ctl i) = serviceOf (s.ctl i) := by
  have hrun := foldl_keeps (fun t => serviceOf (t.ctl i)) (fun t (x : Bool × Bar2Tlp) => runBar2 ctl x.1 x.2 t) (fun t x => by simp)
  unfold drainStalled
  exact (hrun _ _).trans ((setCtl_serviceOf _ i ctl _ (by rfl)).trans (drainLate_serviceOf s i ctl))

/-- Retiring the inbound requests leaves the service of every controller (06 R203). -/
theorem retireInbound_serviceOf (ctl : Nat) : serviceOf ((retireInbound ctl s).ctl i) = serviceOf (s.ctl i) := by
  have hdecode := foldl_keeps (fun t => serviceOf (t.ctl i)) (fun t x => decodeAgain ctl x t) (fun t x => decodeAgain_serviceOf t i ctl x)
  unfold retireInbound
  refine (hdecode _ _).trans ((setCtl_serviceOf _ i ctl _ (by rfl)).trans ((foldl_keeps (fun t => serviceOf (t.ctl i)) _ (fun t w => ?_) _ _).trans
    (drainStalled_serviceOf s i ctl)))
  rw [recordEvent_ctl]
  exact setCtl_serviceOf t i ctl _ (by rfl)

end

/-- A Function Level Reset leaves the controller disabled with no queue and without its buffer, and the function at its reset values (03 R80;
04 R137; 06 R204). -/
theorem flReset_resets (fn : Nat) (s : State) :
    serviceOf ((flReset fn s).ctl (fn + 1)) = (false, false, []) ∧ ((flReset fn s).ctl (fn + 1)).cre = false ∧
      ((flReset fn s).ctl (fn + 1)).cmse = false ∧ ((flReset fn s).fn fn).cfg = [] ∧ ((flReset fn s).fn fn).unmasked = [] := by
  have hreset := (retireInbound_serviceOf (controllerReset (fn + 1) s) (fn + 1) (fn + 1)).trans (controllerReset_serviceOf (fn + 1) s)
  simp only [flReset, settleInta_ctl, settleInta_fn, Nat.add_sub_cancel, if_true]
  have hctl (t : State) (c : Cache) (id : Nat) : State.ctl { t with cache := c } id = t.ctl id := rfl
  have hfn (t : State) (c : Cache) (id : Nat) : State.fn { t with cache := c } id = t.fn id := rfl
  simp only [hctl, hfn, State.setCtl_ctl_self, setCtl_fn, State.setFn_fn_self, setFn_ctl, and_true, serviceOf] at hreset ⊢
  exact hreset

end Sys2Proof.Machine
end

section
/-!
PROOFS. The statement on the states of functions and links (03 R80, R81, R93, R94, R96; 04 R137; 05 R163).
-/

namespace Sys2Proof.Machine

/- One proof at a time: the memory limit of the check counts the stack of every thread that waits for another proof. -/
set_option Elab.async false

/-- Settles O19: the commands of the power states write their fields; a doorbell write wakes its port and the device before anything else,
and what follows it finds the port awake. -/
theorem functionAndLinkStatesComplete : Obligations.FunctionAndLinkStatesComplete := by
  unfold Obligations.FunctionAndLinkStatesComplete
  refine ⟨?_, ?_, ?_, ?_, ?_⟩
  · intro fn s hlive hrrs
    obtain ⟨hservice, hcre, hcmse, hcfg, hunmasked⟩ := flReset_resets fn s
    simp only [serviceOf, Prod.mk.injEq] at hservice
    obtain ⟨hen, hrdy, hsqs⟩ := hservice
    refine ⟨by simp [exec, execD3hotEntry, hlive, hrrs, enterD3], ⟨_, ?_, leaveD3_d3hot fn s⟩,
      ⟨_, ?_, hen, hrdy, hsqs, hcre, hcmse, hcfg, hunmasked⟩⟩
    · simp [exec, execD0Return, hlive, hrrs]
    · simp [exec, execFlr, hlive, hrrs]
  · intro port s hlive
    refine ⟨?_, by simp [exec, execL0pExit, hlive], ?_, by simp [exec, execL1Exit, hlive]⟩
    · intro hup hl1 hl0p
      simp [exec, execL0pEntry, hlive, hup, hl1, hl0p]
    · intro hup hquiet hl1
      constructor
      · simp [exec, execL1Entry, hlive, hup, hquiet, hl1, l1SubEnabled]
      · intro hsub
        by_cases hltr : ltrThreshold s port ≤ (s.port port).ltrUs * 1000 <;> simp [exec, execL1Entry, hlive, hup, hquiet, hl1, hsub, hltr]
  · intro fn off rid s hlive
    cases hhub : hubAnswers s && ctlExists s (fn + 1) <;>
      simp [exec, execPoisonedBarWrite, hhub, hlive, hostArrives_leaveL1, inboundBar2_leaveL1]
  · intro fn addr s hhub hctl hout
    rcases hout with h | h <;> simp [exec, execUnsupportedAddressRequest, hhub, hctl, h]
  · intro ctl id v s hlive
    obtain ⟨hl1, hl0p⟩ := doorbellArrives_port ctl s
    have hps := doorbellArrives_ps ctl s
    obtain ⟨hsqPort, hsqMode⟩ := tailDoorbell_awake ctl id v s hlive
    obtain ⟨hcqPort, hcqMode⟩ := headDoorbell_awake ctl id v s hlive
    exact ⟨⟨_, rfl, by rw [hsqPort, hl1], by rw [hsqPort, hl0p], by rw [hsqMode, hps]⟩,
      ⟨_, rfl, by rw [hcqPort, hl1], by rw [hcqPort, hl0p], by rw [hcqMode, hps]⟩⟩

end Sys2Proof.Machine
end

section
/-!
PROOFS. The laws of the registers of BAR0 that the statement on their types needs (03 R88; 18 R504, R505, R512, R513), and that statement.
-/

namespace Sys2Proof.Machine

/- One proof at a time: the memory limit of the check counts the stack of every thread that waits for another proof. -/
set_option Elab.async false

/-! ## BAR0 -/

/-- A host access leaves BAR0 live. -/
@[simp] theorem bar0Live_hostArrives (ctl fn : Nat) (s : State) : bar0Live (hostArrives ctl s) fn = bar0Live s fn := by
  have hmode : (wakeHost s).mode.mode = s.mode.mode := by
    simp only [wakeHost]
    split <;> rfl
  have hlive : barLive (wakeHost s) (fn + 1) = barLive s (fn + 1) := by simp [barLive, ctlExists, State.ctlIds, ctlPort, State.fn]
  simp [bar0Live, hostArrives, hubAnswers, State.hubPowered, hmode, hlive]

/-- A staged dword leaves BAR0 live. -/
theorem bar0Live_setFn (s : State) (fn : Nat) (f : Func) (h : f.d3hot = (s.fn fn).d3hot) : bar0Live (s.setFn fn f) fn = bar0Live s fn := by
  simp [bar0Live, hubAnswers, State.hubPowered, barLive, ctlExists, State.ctlIds, ctlPort, h]

/-- A write to live BAR0 ends L1, PS3 and PS4, and is taken by the register file. -/
theorem execRegisterWrite_of_live (fn off size : Nat) (v : BitVec 64) (s : State) (h : bar0Live s fn = true) :
    exec (.registerWrite fn { offset := off } size v) s = .next (bar0Write fn off size v (hostArrives (fn + 1) s)) := by
  simp [exec, execRegisterWrite, h]

/-- A dword written to POWER_CAP is a cap, or out of range (18 R512). -/
theorem bar0Write_powerCap (fn : Nat) (v : BitVec 64) (s : State) :
    bar0Write fn 0x8200 4 v s =
      if capOk ((v.setWidth 32).toNat % 256) then setCap ((v.setWidth 32).toNat % 256) s
      else recordEvent 0x1006 [0x8200, (v.setWidth 32).toNat, 0, 0] s := by
  have hwide : wideOffsets.contains 0x8200 = false := by decide
  have hhigh : highOf 0x8200 = none := by decide
  simp only [bar0Write, writeDword, hwide, hhigh]
  simp [writeReg, outOfRange]

/-- The low dword of CLASS_FLOOR is staged (18 R504). -/
theorem bar0Write_floorLow (fn : Nat) (v : BitVec 64) (s : State) (h : halfOk 0x8210 false (v.setWidth 32).toNat = true) :
    bar0Write fn 0x8210 4 v s = s.setFn fn { s.fn fn with staged := tblPut (s.fn fn).staged 0x8210 (v.setWidth 32) } := by
  have hwide : wideOffsets.contains 0x8210 = true := by decide
  simp only [bar0Write, writeDword, hwide, h]
  simp

/-- The high dword of CLASS_FLOOR sets the floors with the low dword that is staged, which is no longer staged then (18 R504, R513). -/
theorem bar0Write_floorHigh (fn : Nat) (v : BitVec 64) (lo : BitVec 32) (s : State) (h : halfOk 0x8210 true (v.setWidth 32).toNat = true)
    (hlo : tblFind (s.fn fn).staged 0x8210 = some lo) :
    bar0Write fn 0x8214 4 v s =
      setFloors (floorsOf (lo.toNat + (v.setWidth 32).toNat * 2 ^ 32)) (s.setFn fn { s.fn fn with staged := tblDel (s.fn fn).staged 0x8210 }) := by
  have hwide : wideOffsets.contains 0x8214 = false := by decide
  have hhigh : highOf 0x8214 = some 0x8210 := by decide
  simp only [bar0Write, writeDword, hwide, hhigh, hlo, h]
  rfl

/-- A read that is no aligned access of 8 bytes returns a dword (03 R88). -/
theorem bar0Read_length (fn off size : Nat) (s : State) (h : ¬(size = 8 ∧ off % 8 = 0)) : (bar0Read fn off size s).1.length = 4 := by
  simp only [bar0Read, if_neg h]
  rfl

/-- Settles O17: each write is read off the branch of its register. The low dword of CLASS_FLOOR is found staged by the write of the high one. -/
theorem registerWritesFollowTheirType : Obligations.RegisterWritesFollowTheirType := by
  unfold Obligations.RegisterWritesFollowTheirType
  refine ⟨?_, ?_, ?_, ?_⟩
  · intro fn v s hlive
    rw [execRegisterWrite_of_live fn 0x8200 4 v s hlive, bar0Write_powerCap]
    exact ⟨fun hok => by rw [if_pos hok], fun hbad => by rw [if_neg (Bool.eq_false_iff.mp hbad)]⟩
  · intro fn lo hi s hlive hlo hhi
    have hlow := bar0Write_floorLow fn lo (hostArrives (fn + 1) s) hlo
    refine ⟨_, _, execRegisterWrite_of_live fn 0x8210 4 lo s hlive, ?_, execRegisterWrite_of_live fn 0x8214 4 hi _ ?_, ?_⟩
    · simp [hlow]
    · rw [hlow]
      exact (bar0Live_setFn _ _ _ (by rfl)).trans (by simp [hlive])
    · rw [bar0Write_floorHigh fn hi (lo.setWidth 32) _ hhi]
      · rfl
      · simp [hlow, State.fn]
  · intro fn off s hstaged
    simp [exec, execStagedDwordDiscard, hstaged]
  · intro fn off size s hlive h4 h8
    have haligned : alignedAccess off size = false := by simpa [alignedAccess] using ⟨not_and.mp h4, not_and.mp h8⟩
    constructor
    · simp [exec, execBar0MisalignedAccess, hlive, haligned]
    · simp only [exec, execBar0MisalignedAccess, hlive, haligned]
      exact ⟨_, _, rfl, bar0Read_length fn off size _ h8, List.mem_cons_self ..⟩

end Sys2Proof.Machine
end

section
/-!
PROOFS. The laws of the mailboxes, of SPDM and of the owner that the statement on them needs (03 R99, R100; 16 R472 to R475), and that statement.
-/

namespace Sys2Proof.Machine

/- One proof at a time: the memory limit of the check counts the stack of every thread that waits for another proof. -/
set_option Elab.async false

/-! ## SPDM answers (03 R99, R100; 16 R472) -/

section
variable {fn : Nat} {s : State}

/-- A request in its order is answered, another one is answered UnexpectedRequest. -/
theorem spdmIn_of_live (hlive : doeLive s fn = true) (herr : (s.fn fn).doeError = false) (want : SpdmState) (go : State → State) :
    spdmIn fn want go s = if (s.fn fn).spdm = want then .next (go s) else .next (answerSpdm fn 0x7F [0x04] s) := by
  simp only [spdmIn, hlive, herr]
  rfl

/-- An answer leaves the connection, and every other function. -/
theorem answerSpdm_spdm (fn code : Nat) (data : Bytes) (s : State) (i : Nat) : ((answerSpdm fn code data s).fn i).spdm = (s.fn i).spdm := by
  simp only [answerSpdm, doeAnswer, emit_fn, State.setFn_fn]
  split
  · rw [‹i = fn›]
  · rfl

/-- A connection moved on and answered is in its new step. -/
theorem answerSpdm_setFn_spdm (fn code : Nat) (data : Bytes) (s : State) (f : Func) :
    ((answerSpdm fn code data (s.setFn fn f)).fn fn).spdm = f.spdm := by
  rw [answerSpdm_spdm, State.setFn_fn_self]

theorem execSpdmGetVersion_of_live (hlive : doeLive s fn = true) (herr : (s.fn fn).doeError = false) :
    ∃ t, exec (.spdmGetVersion fn) s = .next t ∧ (t.fn fn).spdm = .version := by
  refine ⟨_, ?_, answerSpdm_setFn_spdm fn 0x04 (leBytes 2 0x1200) s { s.fn fn with spdm := .version }⟩
  simp [exec, execSpdmGetVersion, hlive, herr]

/-- A measurement is answered in its block, signed with the nonce (16 R472). -/
theorem execSpdmGetMeasurements_of_negotiated (hlive : doeLive s fn = true) (herr : (s.fn fn).doeError = false)
    (hneg : (s.fn fn).spdm = .negotiated) (args : SpdmArgs) (hm : (measurement s args.index).isSome = true) :
    exec (.spdmGetMeasurements fn args) s = .next (answerSpdm fn 0x60 (measurementBlock s args.index ++ leBytes 32 args.nonce ++
      Config.sign (aliasOf s.trust) (measurementBlock s args.index ++ leBytes 32 args.nonce)) s) := by
  have hzero : args.index ≠ 0 := fun h => by simp [h, measurement] at hm
  have hall : args.index ≠ 0xFF := fun h => by simp [h, measurement] at hm
  simp [exec, execSpdmGetMeasurements, spdmIn_of_live hlive herr, hneg, hzero, hall, hm]

end

/-! ## The owner (16 R473 to R475; 15 R448) -/

/-- What an owner command reads and writes of the root of trust beside the authorisation. -/
def ownerFields (t : Trust) : Option Nat × Nat × Option (Nat × Nat) := (t.ownerKey, t.ownerCount, t.nonce)

section
variable (s : State)

@[simp] theorem programEntry_ownerFields (e : HwEntry) : ownerFields (programEntry e s).trust = ownerFields s.trust := by
  simp [programEntry, ownerFields]

@[simp] theorem openSegment_ownerFields : ownerFields (openSegment s).1.trust = ownerFields s.trust := by
  simp only [openSegment]
  (repeat' split) <;> simp [ownerFields]

@[simp] theorem noteLow_ownerFields : ownerFields (noteLow s).trust = ownerFields s.trust := by
  simp only [noteLow]
  split <;> simp [ownerFields]

@[simp] theorem roomFor_ownerFields (units : Nat) : ownerFields (roomFor units s).trust = ownerFields s.trust := by
  simp only [roomFor]
  split
  · split
    · exact (programEntry_ownerFields _ _).trans (by simp)
    · simp
  · rfl

@[simp] theorem programHeld_ownerFields : ownerFields (programHeld s).trust = ownerFields s.trust := by
  simp only [programHeld]
  split
  · simp
    rfl
  · rfl

/-- An entry of the heartwood log leaves the owner (16 R464). -/
theorem hwAppend_ownerFields (kind units : Nat) (body : Bytes) : ownerFields (hwAppend kind units body s).trust = ownerFields s.trust := by
  simp [hwAppend]

/-- The end of the authorisation clears it, and leaves the owner (16 R475). -/
theorem endAuth_trust : (endAuth s).trust = { s.trust with auth := none } := by
  cases h : s.trust.auth with
  | none => simp only [endAuth, h]; rw [← h]
  | some a => simp [endAuth, h]

/-- Disarmed fault injection is not armed (15 R448). -/
theorem disarmFinj_armed (why : Nat) : (disarmFinj why s).guard.finj.armed = none := by
  simp only [disarmFinj]
  split
  · assumption
  · simp

end

section
variable {ref : CmdRef} {s : State}

/-- A new nonce is made now, and the owner stays (16 R474). -/
theorem execOwnerChallengeGet_of_turn (hturn : adminTurn s ref = true) :
    ∃ t n, exec (.ownerChallengeGet ref 16) s = .next t ∧ t.trust.nonce = some (n, s.now) ∧ t.trust.ownerCount = s.trust.ownerCount ∧
      t.trust.ownerKey = s.trust.ownerKey := by
  simp only [exec, execOwnerChallengeGet, hturn]
  exact ⟨_, _, rfl, by simp; rfl, by simp, by simp⟩

/-- A PROVISION with no fault sets or clears the key, counts, and ends the nonce and the authorisation (16 R474). -/
theorem execOwnerProvision_accepted (hturn : adminTurn s ref = true) (a : Provision) (hok : provisionFault a s = 0) :
    ∃ t, exec (.ownerProvision ref a) s = .next t ∧
      ownerFields t.trust = ((if a.clear then none else some a.ownerKey), s.trust.ownerCount + 1, none) ∧ t.trust.auth = none := by
  simp only [exec, execOwnerProvision, hturn, hok]
  refine ⟨_, rfl, ?_, by simp [endAuth_trust]⟩
  simp only [commitCmd_frame, recordEvent_frame, endAuth_trust]
  exact (hwAppend_ownerFields ..).trans rfl

/-- A refused PROVISION changes nothing of the root of trust. -/
theorem execOwnerProvision_refused (hturn : adminTurn s ref = true) (a : Provision) (hbad : provisionFault a s ≠ 0) :
    ∃ t, exec (.ownerProvision ref a) s = .next t ∧ t.trust = s.trust :=
  ⟨refuseOwner ref 0 (provisionFault a s) s, by simp [exec, execOwnerProvision, hturn, hbad], by simp [refuseOwner]⟩

/-- An AUTH with no fault takes the nonce, and grants its scope for its seconds or ends the authorisation with 0 (16 R475). -/
theorem execOwnerAuth_accepted (hturn : adminTurn s ref = true) (a : OwnerAuthArgs) (hok : authFault a s = 0) :
    ∃ t, exec (.ownerAuth ref a) s = .next t ∧ t.trust.nonce = none ∧
      t.trust.auth = (if a.durationS = 0 then none else some (a.scope, s.now + a.durationS * 1000000000)) := by
  by_cases hend : a.durationS = 0
  · exact ⟨_, by simp only [exec, execOwnerAuth, hturn, hok, hend]; rfl, by simp [endAuth_trust], by simp [endAuth_trust, hend]⟩
  · refine ⟨_, by simp only [exec, execOwnerAuth, hturn, hok, hend]; rfl, ?_, ?_⟩ <;> cases a.scope.getLsbD 0 <;> simp [hend]

/-- A refused AUTH changes nothing of the root of trust. -/
theorem execOwnerAuth_refused (hturn : adminTurn s ref = true) (a : OwnerAuthArgs) (hbad : authFault a s ≠ 0) :
    ∃ t, exec (.ownerAuth ref a) s = .next t ∧ t.trust = s.trust :=
  ⟨refuseOwner ref 2 (authFault a s) s, by simp [exec, execOwnerAuth, hturn, hbad], by simp [refuseOwner]⟩

/-- The end of an authorisation in force disarms fault injection (15 R448). -/
theorem endAuth_armed (hauth : s.trust.auth.isSome = true) : (endAuth s).guard.finj.armed = none := by
  obtain ⟨a, ha⟩ := Option.isSome_iff_exists.mp hauth
  simp only [endAuth, ha]
  exact disarmFinj_armed ..

end

/-- Settles O49: each request takes its branch by the connection's step, and each owner command by its fault. The response codes and the order of
the requests are SPDM's, which is the model's choice (log 55); so is that a PROVISION without an owner leaves no nonce either. -/
theorem spdmAndOwnerRequestsAreAnswered : Obligations.SpdmAndOwnerRequestsAreAnswered := by
  unfold Obligations.SpdmAndOwnerRequestsAreAnswered
  refine ⟨?_, ?_, ?_, ?_⟩
  · intro fn s hlive
    refine ⟨⟨doeAbort fn s, by simp [exec, execDoeAbort, hlive], by simp [doeAbort]⟩, by simp [exec, execDoeUnsupportedProtocol, hlive], ?_⟩
    intro herr
    have hin := spdmIn_of_live hlive herr
    refine ⟨?_, execSpdmGetVersion_of_live hlive herr, ?_, ?_, ?_, ?_⟩
    · intro index
      simp only [exec, execDoeDiscovery, hlive, herr]
      exact ⟨_, _, rfl, rfl, by simp [doeAnswer]⟩
    · intro hstep
      simp only [exec, execSpdmGetCapabilities, hin, hstep, if_true]
      exact ⟨_, rfl, answerSpdm_setFn_spdm ..⟩
    · intro hstep
      simp only [exec, execSpdmNegotiateAlgorithms, hin, hstep, if_true]
      exact ⟨_, rfl, answerSpdm_setFn_spdm ..⟩
    · intro hstep
      simp only [exec, execSpdmGetCapabilities, hin, hstep, if_false]
    · intro hneg
      refine ⟨?_, ?_⟩
      · intro c hc
        refine ⟨by simp only [exec, execSpdmGetDigests, hin, hneg, if_true, hc]; rfl, fun args hslot => ⟨?_, ?_⟩⟩
        · simp only [exec, execSpdmGetCertificate, hin, hneg, if_true, hc, hslot]
        · exact ⟨_, by simp only [exec, execSpdmChallenge, hin, hneg, if_true, hc, hslot]; rfl⟩
      · intro args m hm
        rw [execSpdmGetMeasurements_of_negotiated hlive herr hneg args (by simp [hm])]
        simp only [measurementBlock, hm, Option.getD_some]
  · exact fun fn code data s => ⟨rfl, fun _ => answerSpdm_spdm fn code data s fn⟩
  · intro ref s hturn
    refine ⟨execOwnerChallengeGet_of_turn hturn, fun a => ⟨?_, execOwnerProvision_refused hturn a⟩,
      fun a => ⟨execOwnerAuth_accepted hturn a, execOwnerAuth_refused hturn a⟩⟩
    intro hok
    obtain ⟨t, hexec, howner, hauth⟩ := execOwnerProvision_accepted hturn a hok
    simp only [ownerFields, Prod.mk.injEq] at howner
    obtain ⟨hkey, hcount, hnonce⟩ := howner
    exact ⟨t, hexec, hkey, hcount, hnonce, hauth⟩
  · exact fun s hauth => ⟨endAuth s, rfl, by rw [endAuth_trust], endAuth_armed hauth, by rw [endAuth_trust]⟩

end Sys2Proof.Machine
end

section
/-!
PROOFS. Power readings, heat signals and idle states (05 R164; 13 R371 to R376, R382; 19 R527, R531), and the statement on them.
-/

namespace Sys2Proof.Machine

/- One proof at a time: the memory limit of the check counts the stack of every thread that waits for another proof. -/
set_option Elab.async false

/-! ## Power states (05 R161, R164) -/

/-- A non-operational power state is taken at once, from the last operational one, and no entry waits. -/
theorem enterIdlePs_mode (ps : Nat) (s : State) : (enterIdlePs ps s).mode =
    { s.mode with ps := ps, lastOpPs := if s.mode.ps < 3 then s.mode.ps else s.mode.lastOpPs, psTarget := none } := by
  simp [enterIdlePs]

/-- PS3 is entered at once. -/
theorem goToPs_three (s : State) : goToPs 3 s = enterIdlePs 3 s := rfl

/-- PS4 waits while a page is dirty. -/
theorem goToPs_four (s : State) :
    goToPs 4 s = if anyDirty s then { s with mode := { s.mode with psTarget := some 4 } } else enterIdlePs 4 s := by
  cases h : anyDirty s <;> simp [goToPs, h]

/-- With no command open on a controller none is open on all of them. -/
theorem foldl_openCount_eq_zero (s : State) (ids : List Nat) (h : ∀ id ∈ ids, openCount (s.ctl id) = 0) :
    ids.foldl (fun n id => n + openCount (s.ctl id)) 0 = 0 := by
  induction ids with
  | nil => rfl
  | cons i ids ih =>
    rw [List.forall_mem_cons] at h
    simpa [h.1] using ih h.2

/-- A due transition of the table to a non-operational state is taken (05 R164). -/
theorem execApstTransition_of_due {ctl idle target : Nat} {s : State} (hserving : s.serving = true) (hctl : ctlExists s ctl = true)
    (hon : apstOn (s.ctl ctl) = true) (hidle : idle ≠ 0) (hps : s.mode.ps < 3) (hopen : ∀ id ∈ s.ctlIds, openCount (s.ctl id) = 0)
    (hfind : tblFind (s.ctl ctl).apst s.mode.ps = some (target, idle)) (h3 : 3 ≤ target) (h4 : target ≤ 4) :
    exec (.apstTransition ctl) s = .next (goToPs target s) := by
  have hbelow : s.mode.ps < target := Nat.lt_of_lt_of_le hps h3
  simp [exec, execApstTransition, hfind, hserving, hctl, hon, hidle, h3, h4, hbelow, foldl_openCount_eq_zero s s.ctlIds hopen]

/-! ## Signals and idle units (13 R376, R382; 19 R531) -/

section
variable {s : State}

/-- A missing die temperature is noted, and is a takeover, which counts (13 R376; 17 R491). -/
theorem execDieTempMissing_of_new {die : Nat} (hhub : s.hubPowered = true) (hdie : die < 5) (hnew : die ∉ s.sched.missing) :
    ∃ t, exec (.dieTempMissing die) s = .next t ∧ t.sched.missing = die :: s.sched.missing ∧
      t.mode.takeovers = min 0xFFFFFFFF (s.mode.takeovers + 1) ∧ t.mode.mode = s.mode.mode :=
  ⟨_, by simp only [exec, execDieTempMissing, hhub, hdie, hnew, List.contains_eq_mem, decide_true, decide_false]; rfl, by simp, by simp, by simp⟩

/-- A trained channel enters self-refresh once its timer allows it (13 R382). -/
theorem execMemSelfRefreshEntry_of_idle {ch : Nat} (hhub : s.hubPowered = true) (hch : ch < 8) (htimer : s.feats.memSrUs ≠ 0)
    (hlevel : s.cache.level < 3) (htrained : (s.chan ch).trained = true) (hgood : (s.chan ch).failed = false)
    (hawake : (s.chan ch).selfRefresh = false) :
    ∃ t, exec (.memSelfRefreshEntry ch) s = .next t ∧ (t.chan ch).selfRefresh = true ∧ t.sched.srEntries = s.sched.srEntries + 1 := by
  refine ⟨_, by simp [exec, execMemSelfRefreshEntry, mayRefresh, hhub, hch, htimer, hlevel, htrained, hgood, hawake]; rfl, ?_, rfl⟩
  simp [State.chan, State.setChan]

/-- A block with no line and no operand is gated, and stays active (13 R382). -/
theorem execParityBlockGate_of_quiet {region block : Nat} (hhub : s.hubPowered = true) (hregion : region < 4) (hblock : block < 9)
    (htimer : s.feats.blockGateUs ≠ 0) (hactive : (s.pblock region block).active = true) (hopen : (s.pblock region block).gated = false)
    (hlines : (s.pblock region block).lines = []) (hwaiting : (s.pblock region block).waiting = []) :
    ∃ t, exec (.parityBlockGate region block) s = .next t ∧ (t.pblock region block).gated = true ∧
      (t.pblock region block).active = true ∧ t.sched.gateEntries = s.sched.gateEntries + 1 := by
  refine ⟨_, by simp [exec, execParityBlockGate, hhub, hregion, hblock, htimer, hactive, hopen, hlines, hwaiting]; rfl, ?_, ?_, rfl⟩ <;>
    simp [State.pblock, State.setPblock]

/-- A die at 120 °C pulls THERMTRIP_N low (19 R531). -/
theorem execThermtripAssert_of_hot {die : Nat} {temp : Int} (hsentinel : s.power.sentinelDown = false) (hmode : s.mode.mode ≠ .ship)
    (hhot : 1200 ≤ temp) (hoff : s.power.thermTrip = false) :
    ∃ t, exec (.thermtripAssert die temp) s = .next t ∧ t.power.thermTrip = true ∧ t.out = .pin "THERMTRIP_N" false :: s.out := by
  exact ⟨_, by simp [exec, execThermtripAssert, hsentinel, hmode, hhot, hoff]; rfl, by simp, by simp [emit]⟩

/-- Every die below 100 °C releases it (19 R531). -/
theorem execThermtripRelease_of_cool {die : Nat} {temp : Int} (hsentinel : s.power.sentinelDown = false) (hcool : temp < 1000)
    (hon : s.power.thermTrip = true) :
    ∃ t, exec (.thermtripRelease die temp) s = .next t ∧ t.power.thermTrip = false ∧ t.out = .pin "THERMTRIP_N" true :: s.out := by
  exact ⟨_, by simp [exec, execThermtripRelease, hsentinel, hcool, hon]; rfl, by simp, by simp [emit]⟩

end

/-- Settles O27: each command is read off the branch that its hypotheses name. The takeover of a missing die temperature is 17 R491's, with its level
the model's choice (log 45). -/
theorem powerMeasuresAndIdleStatesComplete : Obligations.PowerMeasuresAndIdleStatesComplete := by
  unfold Obligations.PowerMeasuresAndIdleStatesComplete
  refine ⟨?_, ?_, ?_, ?_, fun _ => rfl⟩
  · intro s hhub
    refine ⟨fun mw => by simp [exec, execPmbusPowerRead, hhub], fun hstart hmode => ?_, fun die => execDieTempMissing_of_new hhub,
      fun ch => execMemSelfRefreshEntry_of_idle hhub, fun region block => execParityBlockGate_of_quiet hhub⟩
    simp [exec, execStartupCapEnd, hhub, hstart, hmode]
  · intro ctl idle s hserving hctl hon hidle hps hopen
    have hdue : ∀ target, tblFind (s.ctl ctl).apst s.mode.ps = some (target, idle) → 3 ≤ target → target ≤ 4 →
        exec (.apstTransition ctl) s = .next (goToPs target s) := fun _ => execApstTransition_of_due hserving hctl hon hidle hps hopen
    refine ⟨fun hfind => ?_, fun hfind => ?_⟩
    · exact ⟨_, hdue 3 hfind (by decide) (by decide), by simp [goToPs_three, enterIdlePs_mode], by simp [goToPs_three, enterIdlePs_mode, hps]⟩
    · refine ⟨_, hdue 4 hfind (by decide) (by decide), ?_⟩
      cases hdirty : anyDirty s <;> simp [goToPs_four, hdirty, enterIdlePs_mode, hps]
  · exact fun die temp s hsentinel => ⟨execThermtripAssert_of_hot hsentinel, execThermtripRelease_of_cool hsentinel⟩
  · intro s hoff hruns
    simp [exec, execCrystalStop, hoff, hruns]

end Sys2Proof.Machine
end

section
/-!
PROOFS. What the data and the commit point of an admin command leave of its entry and its controller (04 R118, R119; 06 R197), and the statements on
log pages, Identify, features (05 R150, R153 to R155) and NVMe-MI (05 R156).
-/

namespace Sys2Proof.Machine

/- One proof at a time: the memory limit of the check counts the stack of every thread that waits for another proof. -/
set_option Elab.async false

/-! ## The commit point (04 R118, R119) -/

section
variable {ref : CmdRef} {s : State}

/-- A command at its commit point has its reorder buffer entry. -/
theorem exists_robOf_of_adminTurn (hturn : adminTurn s ref = true) : ∃ e, robOf s ref = some e := by
  cases hrob : robOf s ref with
  | none => simp [adminTurn, mayCommit, isOpen, hrob] at hturn
  | some e => exact ⟨e, rfl⟩

/-- A committed command's entry holds its status and Dword 0. -/
theorem robOf_commitCmd {e : RobEntry} (h : robOf s ref = some e) (status dw0 : Nat) :
    robOf (commitCmd ref status dw0 s) ref = some { e with committed := true, status := status, dw0 := dw0, waits := false, job := none } :=
  robOf_updRob_self ref _ s e h fun _ => ⟨rfl, rfl⟩

/-- A commit point leaves the waiting answer of NVMe-MI Send. -/
theorem commitCmd_miResponse (ref : CmdRef) (status dw0 : Nat) (s : State) (i : Nat) :
    ((commitCmd ref status dw0 s).ctl i).miResponse = (s.ctl i).miResponse := by
  simp only [commitCmd, updRob]
  split
  · rfl
  · rw [State.setCtl_ctl]
    split
    · rw [‹i = ref.ctl›]; rfl
    · rfl

end

/-! ## Data for the host (03 R75; 06 R197) -/

/-- Data for the host changes the late writes of the controller, and nothing else of it. -/
theorem sendData_ctl {β : Type} (g : Ctl → β) (hg : ∀ c l, g { c with late := l } = g c) (ref : CmdRef) (data : Bytes) (s : State) (i : Nat) :
    g ((sendData ref data s).ctl i) = g (s.ctl i) := by
  have hlate : ∀ off bs t, g ((writeLate ref.ctl off bs t).ctl i) = g (t.ctl i) := by
    intro off bs t
    rw [writeLate, State.setCtl_ctl]
    split
    · rw [hg, ‹i = ref.ctl›]
    · rfl
  have hfold : ∀ (ws : List (Nat × Bytes)) t, g ((ws.foldl (fun s w => writeLate ref.ctl w.1 w.2 s) t).ctl i) = g (t.ctl i) := by
    intro ws
    induction ws with
    | nil => exact fun _ => rfl
    | cons w ws ih => exact fun t => (ih _).trans (hlate w.1 w.2 t)
  simp only [sendData, sendHost]
  split
  · simp
  · split
    · exact hfold _ s
    · simpa using hfold _ s

@[simp] theorem robOf_sendData (ref : CmdRef) (data : Bytes) (s : State) (r : CmdRef) : robOf (sendData ref data s) r = robOf s r := by
  simp only [robOf, findSq, sendData_ctl Ctl.sqs (fun _ _ => rfl)]

@[simp] theorem sendData_miResponse (ref : CmdRef) (data : Bytes) (s : State) (i : Nat) :
    ((sendData ref data s).ctl i).miResponse = (s.ctl i).miResponse := sendData_ctl Ctl.miResponse (fun _ _ => rfl) ref data s i

/-- What part of the data goes to the Controller Memory Buffer does not depend on the answer of NVMe-MI Send. -/
theorem partData_miResponse (c : Ctl) (m : Option Bytes) (ps : List (Option Nat × Nat)) (bs : Bytes) :
    partData { c with miResponse := m } ps bs = partData c ps bs := by
  induction ps generalizing bs with
  | nil => rfl
  | cons p ps ih => simp only [partData, ih]; rfl

/-- The data that leaves the block does not depend on the answer of NVMe-MI Send either. -/
theorem sendData_out_miResponse (ref : CmdRef) (data : Bytes) (s : State) (m : Option Bytes) :
    (sendData ref data (s.setCtl ref.ctl { s.ctl ref.ctl with miResponse := m })).out = (sendData ref data s).out := by
  have hrob : robOf (s.setCtl ref.ctl { s.ctl ref.ctl with miResponse := m }) ref = robOf s ref := by simp [robOf, findSq]
  simp only [sendData, hrob, State.setCtl_ctl_self, partData_miResponse]
  split
  · simp [sendHost, sendTlp, emit, State.fn]
  · split
    · simp
    · simp [sendHost, sendTlp, emit, State.fn]

/-! ## Features (05 R155) -/

/-- A cap that is set is the one in force. -/
theorem setCap_feats (w : Nat) (s : State) : (setCap w s).feats = { s.feats with capW := w } := by
  by_cases h : w = s.feats.capW
  · simp [setCap, h]
  · simp [setCap, h]

/-- Set Features of a vendor identifier, each of which can be saved, ends with the status of its check. -/
theorem execSetFeatures_of_vendor {ref : CmdRef} {s : State} (hturn : adminTurn s ref = true) (a : FeatureArgs) (hfid : a.fid ∈ vendorFids) :
    exec (.setFeatures ref a) s = .next (endCmd ref (setVendor a s).1 0 (setVendor a s).2) := by
  have hsave : ∀ f ∈ vendorFids, saveable f = true ∧ (standardFids ++ vendorFids).contains f = true ∧ standardFids.contains f = false := by
    decide
  obtain ⟨hsaveable, hlisted, hstd⟩ := hsave a.fid hfid
  simp only [exec, execSetFeatures, hturn, hsaveable, hlisted, hstd]
  simp

/-- Settles O35: each command takes the branch of its checks. That bytes beyond a page read as zero and that bit 7 of the LSP is Retain Asynchronous
Event is presumed of NVMe (log 74). -/
theorem logsFeaturesAndIdentifyAnswer : Obligations.LogsFeaturesAndIdentifyAnswer := by
  unfold Obligations.LogsFeaturesAndIdentifyAnswer
  intro ref s hturn
  refine ⟨?_, ?_, ?_, fun a => ⟨?_, ?_, ?_, ?_, ?_⟩⟩
  · intro lid lsp nsid off len data hpage
    by_cases hrae : lsp < 128 <;> simp [exec, execGetLogPage, hturn, hpage, hrae]
  · intro cns nsid cntid data hid
    simp [exec, execIdentify, hturn, hid]
  · intro fid sel cdw11 dw0 data hget
    simp only [exec, execGetFeatures, hturn, hget]
    rfl
  · intro hfid hok
    refine ⟨_, execSetFeatures_of_vendor hturn a (by rw [hfid]; decide), ?_⟩
    cases hsv : a.sv <;> simp [setVendor, hfid, hok, hsv, setCap_feats]
  · intro hfid hbad
    rw [execSetFeatures_of_vendor hturn a (by rw [hfid]; decide)]
    simp [setVendor, hfid, hbad, endCmd]
  · intro hfid hlo hhi
    refine ⟨_, execSetFeatures_of_vendor hturn a (by rw [hfid]; decide), ?_⟩
    simp [setVendor, hfid, Nat.not_lt.mpr hlo, Nat.not_lt.mpr hhi, setPatrolRate]
  · intro hfid hlo hhi
    refine ⟨_, execSetFeatures_of_vendor hturn a (by rw [hfid]; decide), ?_⟩
    cases hsv : a.sv <;> simp [setVendor, hfid, Nat.not_lt.mpr hlo, Nat.not_lt.mpr hhi, setMemberTimeout, saveVendor, hsv]
  · intro hfid
    have hunlisted : (standardFids ++ vendorFids).contains a.fid = false := by rw [List.contains_eq_mem, decide_eq_false hfid]
    simp only [exec, execSetFeatures, hturn, hunlisted]
    rfl

/-! ## NVMe-MI requests (05 R156) -/

section
variable {a : MiArgs} {s : State}

/-- A request on a live sideband is answered there. -/
theorem miReply_of_live (hside : a.sideband = true) (hlive : sidebandLive s = true) (req value : Nat) :
    miReply a req value s =
      emit (.mi true (miAnswer req a.param value s).1.1 (miAnswer req a.param value s).1.2) (miAnswer req a.param value s).2 := by
  simp [miReply, hside, hlive]

/-- Configuration Get returns the bits that the configuration holds. -/
theorem miAnswer_get {param value : Nat} {m : BitVec 32} (hmode : s.mode.mode ≠ .standby) (hm : miConfigMask param = some m) :
    miAnswer 3 param value s = ((0, leBytes 4 (miConfigValue s param &&& m).toNat), tickFree s) := by
  simp [miAnswer, hmode, hm]

/-- Configuration Set keeps the value. -/
theorem miAnswer_set {param value : Nat} {m : BitVec 32} (hmode : s.mode.mode ≠ .standby) (hm : miConfigMask param = some m) :
    miAnswer 4 param value s = ((0, []), { s with power := { s.power with miConfig := tblPut s.power.miConfig param value } }) := by
  simp [miAnswer, hmode, hm]

/-- A configuration that does not exist is an Invalid Parameter, read or set. -/
theorem miAnswer_unknown {req param value : Nat} (hreq : 3 ≤ req) (hmode : s.mode.mode ≠ .standby) (hm : miConfigMask param = none) :
    miAnswer req param value s = ((0x04, []), s) := by
  simp [miAnswer, hmode, hm, show req ≠ 0 by omega, show req ≠ 1 by omega, show req ≠ 2 by omega]

/-- In STANDBY a configuration is neither read nor set. -/
theorem miAnswer_standby {req param value : Nat} (hreq : 3 ≤ req) (hmode : s.mode.mode = .standby) :
    miAnswer req param value s = ((Config.miBusy, []), s) := by
  simp [miAnswer, hmode, show req ≠ 0 by omega, show req ≠ 1 by omega, show req ≠ 2 by omega]

/-- A value set is the value held. -/
theorem miConfigValue_tblPut (s : State) (p : Power) (param value : Nat) (hp : p.miConfig = tblPut s.power.miConfig param value) (o : Out) :
    miConfigValue (emit o { s with power := p }) param = BitVec.ofNat 32 value := by
  simp [miConfigValue, emit, hp]

/-- A Configuration Set is answered with status 0, and the Configuration Get after it with the bits of its value. -/
theorem miConfigurationSet_then_get (hside : a.sideband = true) (hlive : sidebandLive s = true) (hmode : s.mode.mode ≠ .standby) {m : BitVec 32}
    (hm : miConfigMask a.param = some m) (value : Nat) :
    ∃ t u, exec (.miConfigurationSet a value) s = .next t ∧ t.out = .mi true 0 [] :: s.out ∧
      exec (.miConfigurationGet a) t = .next u ∧ u.out = .mi true 0 (leBytes 4 (BitVec.ofNat 32 value &&& m).toNat) :: t.out := by
  refine ⟨_, _, rfl, ?_, rfl, ?_⟩
  · rw [miReply_of_live hside hlive, miAnswer_set hmode hm]; rfl
  · rw [miReply_of_live hside hlive, miAnswer_set hmode hm, miReply_of_live hside (by exact hlive), miAnswer_get (by exact hmode) hm,
      miConfigValue_tblPut s _ _ _ rfl]
    rfl

end

section
variable {ref : CmdRef} {s : State}

/-- NVMe-MI Send commits with the response status, and keeps the response for NVMe-MI Receive. -/
theorem execNvmeMiSend_of_turn (hturn : adminTurn s ref = true) {request : Nat} (hreq : request ≤ 5) (a : MiArgs) (b : MiBody) :
    ∃ t r, exec (.nvmeMiSend ref request a b) s = .next t ∧
      (t.ctl ref.ctl).miResponse = some (sendAnswer ref.ctl request a b s).1.2 ∧
      robOf t ref = some r ∧ r.committed = true ∧ r.dw0 = (sendAnswer ref.ctl request a b s).1.1 := by
  obtain ⟨e, hrob⟩ := exists_robOf_of_adminTurn hturn
  have hkept : ∀ c : Ctl, c.sqs = ((sendAnswer ref.ctl request a b s).2.ctl ref.ctl).sqs →
      robOf ((sendAnswer ref.ctl request a b s).2.setCtl ref.ctl c) ref = some e := by
    intro c hc
    rw [← hrob, ← robOf_congr s (sendAnswer ref.ctl request a b s).2 (by simp)]
    simp [robOf, findSq, hc]
  refine ⟨_, _, by simp only [exec, execNvmeMiSend, hturn, Nat.not_lt.mpr hreq]; rfl, ?_, robOf_commitCmd (hkept _ ?_) _ _, rfl, rfl⟩
  · rw [commitCmd_miResponse, State.setCtl_ctl_self]
  · rfl

/-- NVMe-MI Receive sends the response that waits, and commits. -/
theorem execNvmeMiReceive_of_response (hturn : adminTurn s ref = true) {d : Bytes} (hd : (s.ctl ref.ctl).miResponse = some d) :
    ∃ t r, exec (.nvmeMiReceive ref) s = .next t ∧ t.out = (sendData ref d s).out ∧ (t.ctl ref.ctl).miResponse = none ∧
      robOf t ref = some r ∧ r.committed = true := by
  obtain ⟨e, hrob⟩ := exists_robOf_of_adminTurn hturn
  refine ⟨_, _, by simp only [exec, execNvmeMiReceive, hturn, hd]; rfl, ?_, ?_, robOf_commitCmd (e := e) ?_ _ _, rfl⟩
  · simp only [commitCmd_frame]
    exact sendData_out_miResponse ref d s none
  · rw [commitCmd_miResponse, sendData_miResponse, State.setCtl_ctl_self]
  · rw [robOf_sendData, ← hrob]
    simp [robOf, findSq]

end

/-- Settles O36: each request's answer is `miAnswer`'s for its number, and a value set is found under its parameter. The numbers of the requests and
the response statuses are NVMe-MI's, which is presumed (log 9): R156 gives none. -/
theorem managementRequestsAreAnswered : Obligations.ManagementRequestsAreAnswered := by
  unfold Obligations.ManagementRequestsAreAnswered
  refine ⟨fun a s hside hlive => ?_, fun ref request a b s hturn => ⟨fun hreq => execNvmeMiSend_of_turn hturn hreq a b,
    fun d => execNvmeMiReceive_of_response hturn⟩⟩
  have hreply : ∀ req value, (.next (miReply a req value s) : Host.Outcome State Fault Refusal) = .next (emit
      (.mi true (miAnswer req a.param value s).1.1 (miAnswer req a.param value s).1.2) (miAnswer req a.param value s).2) :=
    fun req value => congrArg _ (miReply_of_live hside hlive req value)
  refine ⟨⟨hreply 0 0, fun hp => by simp only [miStructure, hp]⟩, ⟨_, _, hreply 1 0, rfl⟩,
    ⟨_, _, hreply 2 0, rfl⟩, ?_, ?_⟩
  · intro hmode
    refine ⟨fun m hm => ⟨⟨_, leBytes 4 (miConfigValue s a.param &&& m).toNat, hreply 3 0, ?_⟩,
      miConfigurationSet_then_get hside hlive hmode hm⟩, ?_, ?_⟩
    · rw [miAnswer_get hmode hm]; rfl
    · intro hm
      refine ⟨(hreply 3 0).trans ?_, fun value => (hreply 4 value).trans ?_⟩
      · rw [miAnswer_unknown (Nat.le_refl 3) hmode hm]
      · rw [miAnswer_unknown (by decide) hmode hm]
    · intro ctl opcode nsid cdw10 cdw11
      simp [exec, execMiAdminTunnel, hside, hlive, hmode]
  · intro hmode
    refine ⟨(hreply 3 0).trans ?_, fun value => (hreply 4 value).trans ?_⟩
    · rw [miAnswer_standby (Nat.le_refl 3) hmode]
    · rw [miAnswer_standby (by decide) hmode]

end Sys2Proof.Machine
end

section
/-!
PROOFS. What the structures of a deck leave of volumes and of the wipe job (05 R143, R159; 07 R222 to R227; 09 R259 to R264), and the statement on
namespaces, Format and Sanitize (05 R141 to R160).
-/

namespace Sys2Proof.Machine

/- One proof at a time: the memory limit of the check counts the stack of every thread that waits for another proof. -/
set_option Elab.async false

/-! ## What labels, tables and journals leave -/

/-- All of `Decks` but the decks themselves, the GEN of their log, and the place of each volume's record in the table. -/
def Decks.rest (d : Decks) : Decks :=
  { d with decks := [], statusGen := 0, volumes := d.volumes.map fun p => (p.1, { p.2 with recSeq := 0 }) }

@[simp] theorem foldl_rest {α : Type} (F : State → α → State) (h : ∀ t x, (F t x).decks.rest = t.decks.rest) (l : List α) (s : State) :
    (l.foldl F s).decks.rest = s.decks.rest := foldl_keeps (·.decks.rest) F h l s

/-- A value replaced by one that a function does not tell from it leaves the function's image of the table. -/
theorem map_tblPut_of_tblFind {κ α β : Type} [DecidableEq κ] (f : α → β) {t : Tbl κ α} {k : κ} {v w : α} (h : tblFind t k = some v)
    (hw : f w = f v) : (tblPut t k w).map (fun p => (p.1, f p.2)) = t.map fun p => (p.1, f p.2) := by
  induction t with
  | nil => simp [tblFind] at h
  | cons p t ih =>
    by_cases hp : p.1 = k
    · simp only [tblFind, hp, if_true, Option.some.injEq] at h
      simp [tblPut, hp, hw, h]
    · simp only [tblFind, hp, if_false] at h
      simp [tblPut, hp, ih h]

/-- A lookup in the image of a table is the image of the lookup. -/
theorem tblFind_map {κ α β : Type} [DecidableEq κ] (f : α → β) (t : Tbl κ α) (k : κ) :
    tblFind (t.map fun p => (p.1, f p.2)) k = (tblFind t k).map f := by
  induction t with
  | nil => rfl
  | cons p t ih => by_cases hp : p.1 = k <;> simp [tblFind, hp, ih]

section
variable {s t : State}

/-- The same rest holds the same volumes, but for the places of their records. -/
theorem vol_of_rest (h : t.decks.rest = s.decks.rest) (n : Nat) :
    (t.vol n).map (fun v => { v with recSeq := 0 }) = (s.vol n).map fun v => { v with recSeq := 0 } := by
  rw [State.vol, State.vol, ← tblFind_map, ← tblFind_map]
  exact congrArg (fun d : Decks => tblFind d.volumes n) h

/-- A volume is kept, but for the place of its record. -/
theorem exists_vol_of_rest (h : t.decks.rest = s.decks.rest) {n : Nat} {v : Volume} (hv : s.vol n = some v) :
    ∃ q, t.vol n = some { v with recSeq := q } := by
  have hmap := vol_of_rest h n
  rw [hv] at hmap
  obtain ⟨x, hx, hxv⟩ := Option.map_eq_some_iff.mp hmap
  exact ⟨x.recSeq, hx.trans (congrArg (fun u : Volume => some { u with recSeq := x.recSeq }) hxv)⟩

/-- No volume is made. -/
theorem vol_eq_none_of_rest (h : t.decks.rest = s.decks.rest) {n : Nat} (hv : s.vol n = none) : t.vol n = none := by
  simpa [hv] using vol_of_rest h n

end

@[simp] theorem ite_rest (c : Prop) [Decidable c] (a b : Decks) : (if c then a else b).rest = if c then a.rest else b.rest :=
  apply_ite Decks.rest c a b

section
variable (s : State)

@[simp] theorem State.setDeck_rest (id : Nat) (d : Deck) : (s.setDeck id d).decks.rest = s.decks.rest := (rfl)

@[simp] theorem updDeck_rest (id : Nat) (f : Deck → Deck) : (updDeck id f s).decks.rest = s.decks.rest := by
  simp only [updDeck]; split <;> rfl

@[simp] theorem labelUpdateWith_rest (id : Nat) (fails : Deck → List FailEntry) : (labelUpdateWith id fails s).decks.rest = s.decks.rest := by
  simp only [labelUpdateWith]; split <;> simp

@[simp] theorem labelUpdate_rest (id : Nat) : (labelUpdate id s).decks.rest = s.decks.rest := labelUpdateWith_rest s id watermarks

@[simp] theorem relabel_rest (id : Nat) (f : DeckLabel → DeckLabel) : (relabel id f s).decks.rest = s.decks.rest := by
  simp [relabel]

@[simp] theorem clearCleanStop_rest (id : Nat) : (clearCleanStop id s).decks.rest = s.decks.rest := by
  simp only [clearCleanStop]
  split
  · split <;> simp
  · rfl

@[simp] theorem writeHeader_rest (id gen mem : Nat) : (writeHeader id gen mem s).decks.rest = s.decks.rest := by
  simp only [writeHeader]
  split
  · simp
  · split <;> simp

/-- The new place of a volume's record is all that a step of the volume table changes of the volume (07 R227). -/
theorem State.setVol_recSeq_rest {n : Nat} {v : Volume} (h : s.vol n = some v) (q : Nat) :
    (s.setVol n { v with recSeq := q }).decks.rest = s.decks.rest := by
  have hmap := map_tblPut_of_tblFind (fun v : Volume => { v with recSeq := 0 }) (w := { v with recSeq := q }) h rfl
  simp only [Decks.rest, State.setVol, hmap]

@[simp] theorem tableStep_rest (id gen : Nat) (changed : List Nat) : (tableStep id gen changed s).decks.rest = s.decks.rest := by
  simp only [tableStep]
  split
  · rfl
  · rw [foldl_rest _ (fun t m => writeHeader_rest t id gen m), foldl_rest _ (fun t m => by simp), foldl_rest]
    · simp
    · intro t n
      split
      · exact State.setVol_recSeq_rest t ‹_› _
      · rfl

@[simp] theorem tableUpdate_rest (id : Nat) (changed : List Nat) : (tableUpdate id changed s).decks.rest = s.decks.rest := by
  simp [tableUpdate, tableUpdateGen]

@[simp] theorem pushKeepers_rest (id : Nat) (r : JRec) : (pushKeepers id r s).decks.rest = s.decks.rest := by
  simp only [pushKeepers]
  split
  · rfl
  · refine foldl_rest _ (fun t g => ?_) _ s
    split <;> simp

@[simp] theorem advanceHeads_rest (id : Nat) : (advanceHeads id s).decks.rest = s.decks.rest := by
  simp only [advanceHeads]
  split
  · rfl
  · refine foldl_rest _ (fun t g => ?_) _ s
    split
    · rfl
    · split <;> simp

@[simp] theorem appendRec_rest (id : Nat) (body : JBody) (keep : Bool) : (appendRec id body keep s).2.decks.rest = s.decks.rest := by
  simp only [appendRec, appendGen]
  split <;> simp

@[simp] theorem closeTrim_rest (id : Nat) (entries : Bool) : (closeTrim id entries s).decks.rest = s.decks.rest := by
  simp only [closeTrim]
  split
  · rfl
  · cases entries <;> simp

@[simp] theorem releaseRec_rest (id jseq : Nat) : (releaseRec id jseq s).decks.rest = s.decks.rest := by
  simp only [releaseRec]
  split
  · rfl
  · split
    · split <;> simp
    · rfl

@[simp] theorem trimData_rest (id : Nat) : (trimData id s).decks.rest = s.decks.rest := by
  simp only [trimData]
  split
  · rfl
  · refine foldl_rest _ (fun t r => ?_) _ s
    split
    · split <;> simp
    · rfl

@[simp] theorem takeState_rest (id code old : Nat) : (takeState id code old s).decks.rest = s.decks.rest := by
  simp only [takeState]
  split <;> split <;> simp

@[simp] theorem evalDeck_rest (id : Nat) : (evalDeck id s).decks.rest = s.decks.rest := by
  simp only [evalDeck]
  split
  · rfl
  · split <;> split <;> simp

@[simp] theorem noteDecks_rest (old : State) : (noteDecks old s).decks.rest = s.decks.rest := by
  simp only [noteDecks]
  split <;> rfl

@[simp] theorem noteAll_rest (old : State) : (noteAll old s).decks.rest = s.decks.rest := by simp [noteAll]

@[simp] theorem rewriteRing_rest (id : Nat) (g : Ring) : (rewriteRing id g s).decks.rest = s.decks.rest := by
  simp only [rewriteRing]
  split
  · rfl
  · split
    · rfl
    · split
      · rfl
      · split <;> simp

/-- The rewriting of the members' structures leaves the volumes and the wipe job (05 R158). -/
@[simp] theorem rewriteDecks_rest : (rewriteDecks s).decks.rest = s.decks.rest := by
  simp only [rewriteDecks]
  refine foldl_rest _ (fun t p => ?_) _ s
  split <;> simp

end

/-! ## The wipe job (05 R159, R160) -/

/-- The wipe job, SSTAT, and whether a Sanitize has failed. -/
def wipeFields (d : Decks) : Option WipeJob × Nat × Bool := (d.wipe, d.sstat, d.sanFailed)

/-- The same rest holds the same wipe job and outcome. -/
theorem wipeFields_of_rest {d e : Decks} (h : d.rest = e.rest) : wipeFields d = wipeFields e :=
  (congrArg wipeFields h :)

theorem rewriteDecks_wipeFields (s : State) : wipeFields (rewriteDecks s).decks = wipeFields s.decks :=
  wipeFields_of_rest (rewriteDecks_rest s)

/-- New keys are new keys of volumes only. -/
theorem rekey_wipeFields (s : State) : wipeFields (rekey s).decks = wipeFields s.decks := by
  simp only [rekey]
  refine foldl_keeps (fun t => wipeFields t.decks) _ (fun t p => ?_) _ s
  split <;> rfl

/-- A Sanitize that has ended leaves its outcome and no job, whatever it did to volumes and members (05 R160). -/
theorem execSanitizeComplete_of_job {w : WipeJob} {s : State} (hw : s.decks.wipe = some w) (hkind : w.kind ≠ 1) (ok : Bool) :
    ∃ t, exec (.sanitizeComplete ok) s = .next (noteAll s t) ∧ wipeFields t.decks = (none, if ok then 1 else 3, !ok) := by
  refine ⟨_, by simp only [exec, execSanitizeComplete, hw, hkind, if_false]; rfl, ?_⟩
  rw [foldl_decks _ fun t id => by simp]
  cases ok
  · cases w.ref <;> simp <;> rfl
  · by_cases hcrypto : w.kind = 2 <;> cases w.ref <;> simp [hcrypto, rewriteDecks_wipeFields, rekey_wipeFields] <;> rfl

/-! ## Volumes come and go (05 R141, R145, R157) -/

section
variable {ref : CmdRef} {s : State}

/-- A create that its checks allow makes an unattached volume in the extents found, and answers its NSID (05 R141, R142). -/
theorem execNamespaceManagementCreate_of_room (hturn : adminTurn s ref = true) {a : NsCreate} {nsid hands : Nat} {d : Deck}
    {ext : List (Nat × Nat × Nat)} (hok : nsCreateStatus s a = 0) (hdeck : s.deck a.deckId = some d) (hfree : freeNsid s = some nsid)
    (hext : nsExtents s a d = some (hands, ext)) :
    ∃ t, exec (.namespaceManagementCreate ref a) s = .next (commitCmd ref 0 nsid (noteAll s (evalDeck a.deckId t))) ∧
      ∃ v, t.vol nsid = some v ∧ v.nsze = a.nsze ∧ v.deckId = a.deckId ∧ v.attached = [] ∧ v.extents = ext := by
  rcases hkey : (if a.crypt = 1 then drawKey s else (0, s)) with ⟨key, s1⟩
  refine ⟨_, by simp only [exec, execNamespaceManagementCreate, hturn, hok, hdeck, hfree, hext, hkey]; rfl, ?_⟩
  obtain ⟨q, hq⟩ := exists_vol_of_rest (tableUpdate_rest _ a.deckId [nsid]) (State.setVol_vol_self s1 nsid _)
  exact ⟨_, hq, rfl, rfl, rfl, rfl⟩

/-- A delete whose commands and updates have ended removes its volume (05 R145). -/
theorem execNamespaceDeleteCommit_of_idle {nsid : Nat} {v : Volume} (hv : s.vol nsid = some v) (hdel : deleting s nsid = true)
    (hio : ioOpenOn s nsid = false) (hupd : updatesOn s nsid = false) :
    ∃ t, exec (.namespaceDeleteCommit nsid) s = .next t ∧ t.vol nsid = none := by
  refine ⟨_, by simp only [exec, execNamespaceDeleteCommit, hv, hdel, hio, hupd]; rfl, ?_⟩
  refine vol_eq_none_of_rest (s := { s with decks := { s.decks with volumes := tblDel s.decks.volumes nsid } }) (by simp) ?_
  exact tblFind_tblDel_self _ _

/-- The end of a volume's format makes the volume active (05 R157). -/
theorem endFormat_vol {nsid : Nat} {v : Volume} (hv : s.vol nsid = some v) (hleft : v.formatLeft.isSome = true) :
    ∃ x, (endFormat s nsid).vol nsid = some x ∧ x.vstate = 1 ∧ x.formatLeft = none := by
  have hrest : (endFormat s nsid).decks.rest = (s.setVol nsid { v with vstate := 1, formatLeft := none }).decks.rest := by
    simp [endFormat, hv, Option.isSome_iff_ne_none.mp hleft]
  obtain ⟨q, hq⟩ := exists_vol_of_rest hrest (State.setVol_vol_self ..)
  exact ⟨_, hq, rfl, rfl⟩

/-- The end of the commands that waited, and of the job, leaves the volumes. -/
theorem endWaiting_dropWipe_vol (opcode : Nat) (f : RobEntry → Bool) (c : Bool) (s : State) (n : Nat) :
    (endWaiting opcode f (if c then dropWipe s else s)).vol n = s.vol n := by
  cases c <;> rfl

/-- FORMAT_COMPLETE of one volume ends its format (05 R157). -/
theorem execFormatComplete_of_open {nsid : Nat} {v : Volume} (hone : nsid ≠ 0xFFFFFFFF) (hv : s.vol nsid = some v)
    (hleft : v.formatLeft.isSome = true) :
    ∃ t, exec (.formatComplete nsid) s = .next (noteAll s t) ∧ ∃ x, t.vol nsid = some x ∧ x.vstate = 1 ∧ x.formatLeft = none := by
  have hvol : ∀ s0 : State, s0.decks = s.decks → ∃ x, (endFormat s0 nsid).vol nsid = some x ∧ x.vstate = 1 ∧ x.formatLeft = none :=
    fun s0 h => endFormat_vol (by rw [State.vol, h]; exact hv) hleft
  have hns : formatNsids s nsid = [nsid] := if_neg hone
  have hopen : v.formatLeft.isNone = false := by simpa [Option.isNone_eq_false_iff] using hleft
  refine ⟨_, by simp only [exec, execFormatComplete, hns, List.all_cons, hv, hopen]; rfl, ?_⟩
  rw [endWaiting_dropWipe_vol]
  refine hvol _ ?_
  split
  · split
    · simp
    · rfl
  · rfl

/-- A step of the work is noted in the job, which is otherwise the same (05 R159). -/
theorem execFormatSanitizeProgress_of_more {done : Nat} {w : WipeJob} (hw : s.decks.wipe = some w) (hruns : plainRuns s = true)
    (hle : done ≤ 65536) (hmore : w.done < done) :
    ∃ t, exec (.formatSanitizeProgress done) s = .next t ∧ t.decks.wipe = some { w with done := done } := by
  have hgo : (!plainRuns s || decide (65536 < done) || decide (done ≤ w.done)) = false := by
    simp [hruns, Nat.not_lt.mpr hle, Nat.not_le.mpr hmore]
  simp only [exec, execFormatSanitizeProgress, hw, hgo]
  by_cases hkind : w.kind = 1
  · refine ⟨_, by rw [if_pos hkind]; rfl, ?_⟩
    refine (foldl_keeps (·.decks.wipe) _ (fun t n => ?_) _ _).trans rfl
    split <;> rfl
  · exact ⟨_, by rw [if_neg hkind]; rfl, rfl⟩

end

/-- Settles O37: a command whose checks answer 0 takes the branch after them, and what follows the step (labels, tables, journals, evaluation of the
deck) keeps `Decks.rest`, so that the volumes and the job stay as the step left them. That Format and Sanitize wait until the work ends is the
model's choice (log 94), and the SSTAT codes are NVMe's, presumed (log 6). -/
theorem namespacesAreMadeAndRemoved : Obligations.NamespacesAreMadeAndRemoved := by
  unfold Obligations.NamespacesAreMadeAndRemoved
  refine ⟨fun ref s hturn => ⟨fun a nsid d hands ext => execNamespaceManagementCreate_of_room hturn, ?_, ?_, ?_, ?_, ?_, ?_⟩,
    fun nsid s v => execNamespaceDeleteCommit_of_idle, ?_, fun nsid s v => execFormatComplete_of_open, ?_⟩
  · intro nsid hok
    simp [exec, execNamespaceManagementDelete, hturn, hok]
  · intro nsid sel ctls v hok hv
    simp [exec, execNamespaceAttachment, hturn, hok, hv]
  · intro nsid lbaf dps ses hok hsome hidle hses
    have hany : (formatNsids s nsid).any (updatesOn s) = false := by simpa using hidle
    simp [exec, execFormatNvm, hturn, hok, hsome, hany, hses]
  · intro nsid lbaf dps ses hok hnone
    simp [exec, execFormatNvm, hturn, hok, hnone]
  · intro owpass inv pattern hok
    simp only [exec, execSanitize, hturn, hok]
    exact ⟨_, rfl, rfl, rfl⟩
  · intro sanact owpass inv pattern hlo hhi hok hidle
    have hany : (s.decks.decks.any fun p => !p.2.updates.isEmpty) = false := by simpa using hidle
    simp only [exec, execSanitize, hturn, hok, hany, show sanact ≠ 1 by omega]
    refine ⟨_, _, rfl, rfl, rfl, ?_, rfl, rfl⟩
    dsimp only
    split
    · decide
    · split <;> decide
  · intro done s w hw hruns hle hmore
    obtain ⟨t, hexec, ht⟩ := execFormatSanitizeProgress_of_more hw hruns hle hmore
    exact ⟨t, _, hexec, ht, rfl, rfl, rfl⟩
  · intro ok s w hw hkind
    obtain ⟨t, hexec, ht⟩ := execSanitizeComplete_of_job hw hkind ok
    simp only [wipeFields, Prod.mk.injEq] at ht
    obtain ⟨hwipe, hstat, hfail⟩ := ht
    exact ⟨t, hexec, hstat, hfail, hwipe⟩

end Sys2Proof.Machine
end
